-- ==== Sys2Proof/Word.lean ====
section
/-! DEFINITION. The word types of the fabric (R5): 64-bit words and 64-byte lines. -/
namespace Sys2Proof

/-- A 64-bit word of a register, a message or a record (R5, R8). -/
abbrev W64 := BitVec 64

/-- The 64 payload bytes of a flit, or a 64-byte line of memory; byte k is bits [8k+7:8k] (R5, R86). -/
abbrev Line := BitVec 512

end Sys2Proof
end

