-- ==== Sys2Proof/Machine/Bits.lean ====
section
/-! DEFINITION. Bit fields, words and bytes of lines, byte enables, saturating and signed arithmetic (R3, R5, R104). -/
namespace Sys2Proof

/-- Bits [lo+w-1:lo] of a word, as a number (R5). -/
def bits {n : Nat} (x : BitVec n) (lo w : Nat) : Nat := x.toNat / 2 ^ lo % 2 ^ w

/-- Bit k of a word. -/
def bit {n : Nat} (x : BitVec n) (k : Nat) : Bool := x.getLsbD k

/-- Bits [lo+w-1:lo] of a number. -/
def nbits (x lo w : Nat) : Nat := x / 2 ^ lo % 2 ^ w

/-- Bit k of a number. -/
def nbit (x k : Nat) : Bool := x.testBit k

/-- A 64-bit word with bits [lo+w-1:lo] replaced by the low w bits of v. -/
def setBits (x : W64) (lo w v : Nat) : W64 :=
  let m := (2 ^ w - 1) * 2 ^ lo
  (x &&& ~~~(BitVec.ofNat 64 m)) ||| BitVec.ofNat 64 (v % 2 ^ w * 2 ^ lo)

/-- The number 1 for true and 0 for false. -/
def b2n (b : Bool) : Nat := if b then 1 else 0

/-- Word w of a line, w = 0 to 7 (R5). -/
def lineWord (l : Line) (w : Nat) : W64 := BitVec.ofNat 64 (l.toNat / 2 ^ (64 * w))

/-- A line whose words are given, word 0 first; missing words are zero (R5). -/
def lineOfWords (ws : List W64) : Line :=
  BitVec.ofNat 512 (ws.foldr (fun w a => w.toNat + 2 ^ 64 * a) 0)

/-- A line with word w replaced. -/
def setLineWord (l : Line) (w : Nat) (v : W64) : Line :=
  (l &&& ~~~(BitVec.ofNat 512 ((2 ^ 64 - 1) * 2 ^ (64 * w)))) ||| BitVec.ofNat 512 (v.toNat * 2 ^ (64 * w))

/-- Byte k of a line, k = 0 to 63 (R5). -/
def lineByte (l : Line) (k : Nat) : Nat := bits l (8 * k) 8

/-- The 512-bit mask with byte k all ones where bit k of the byte enables is set (R104). -/
def byteMask (be : W64) : Line :=
  BitVec.ofNat 512 ((List.range 64).foldl (fun a k => if be.getLsbD k then a + 255 * 2 ^ (8 * k) else a) 0)

/-- The old line with the enabled bytes of the new one (R104). -/
def mergeLine (old new : Line) (be : W64) : Line :=
  (old &&& ~~~(byteMask be)) ||| (new &&& byteMask be)

/-- All 64 bytes enabled (R104). -/
def allBytes : W64 := 0xFFFFFFFFFFFFFFFF

/-- One more than a count that saturates at its limit. -/
def satInc (lim x : Nat) : Nat := if x < lim then x + 1 else lim

/-- A sum that saturates at its limit. -/
def satAdd (lim x y : Nat) : Nat := if x + y < lim then x + y else lim

/-- The signed value of the low w bits of a number in two's complement (R3). -/
def signed (w x : Nat) : Int := if x % 2 ^ w < 2 ^ (w - 1) then (x % 2 ^ w : Nat) else ((x % 2 ^ w : Nat) : Int) - (2 ^ w : Nat)

/-- The low w bits of a signed number in two's complement (R3). -/
def unsigned (w : Nat) (x : Int) : Nat := (x % ((2 ^ w : Nat) : Int)).toNat

/-- The list with the element at place k replaced. -/
def setAt {α : Type} (l : List α) (k : Nat) (a : α) : List α := l.set k a

end Sys2Proof
end

