-- ==== Sys2Proof/Machine/Faults.lean ====
section
/-! DEFINITION. The fault kinds of R528 with their codes and classes, and the fault word of R504. -/
namespace Sys2Proof.Machine

/-- The kinds of R528, under the spec's own names. -/
inductive FaultKind where
  | TIME_DEGRADED
  | TIME_REF_SWITCH
  | TIME_HOLDOVER
  | TIME_NOMINAL
  | TIME_REF_STANDBY
  | TIME_MARK_ERR
  | REF_CLK_DRIFT
  | ISLAND_TIME_SLIP
  | XING_OVERRUN
  | HDR_MALFORMED
  | PKT_MALFORMED
  | CREDIT_OVERFLOW
  | LANE_CE
  | LANE_UE_PAYLOAD
  | LANE_UE_CTRL
  | FLIT_FRAMING
  | FENCE_DISCARD
  | GATE_LATE
  | MSG_RESERVED
  | INIT_TIMEOUT
  | RETRY_EXHAUSTED
  | RSP_STRAY
  | RSP_LATE
  | NO_ROUTE
  | DECODE_MISS
  | DGT_INVALID
  | NI_BUF_CE
  | NI_BUF_UE
  | TABLE_CE
  | TABLE_UE
  | FAULT_LOSS
  | LEAF_OVERRUN
  | COH_PROTOCOL
  | COH_POISON
  | COH_ACK_TIMEOUT
  | XLATE_MISS
  | DIR_CE
  | DIR_UE
  | DIR_TAG_LOST
  | DIR_SPARED
  | DIR_WAY_RETIRED
  | DIR_BROADCAST
  | DIR_BCAST_LIMIT
  | HS_MAP_MISS
  | STG_CE
  | STG_UE
  | LEDGER_FULL
  | LEDGER_WRITE_ERR
  | GT_SLOT_MISSED
  | GT_ROUTE_DEMOTED
  | GT_OVERSIZE
  | METER_RED_P3
  | SHAPER_CFG
  | METER_CFG
  | LID_CHANGE
  | LEDGER_FORMAT
  | EPOCH_DONE
  | EPOCH_CANCELLED
  | EPOCH_DRAIN_SLOW
  | EPOCH_SPLIT
  | EPOCH_STALE
  | BANK_LOAD_ERR
  | PORT_AGENT
  | PORT_DOWN
  | PORT_UP
  | PORT_UNSUPPORTED
  | PORT_PROTOCOL
  | PORT_PW_ERR
  | PORT_WB_TIMEOUT
  | MEM_DEV_ERR
  | LINK_CRC
  | LINK_RETRAIN
  | LINK_RESUMED
  | LINK_PRE_TIMEOUT
  | LINK_WIDTH
  | LINK_INIT_ERR
  | LINK_LOST
  | LINK_FLIT_LOST
  | LINK_PROTOCOL
  | SB_FAR_READ
  | SB_FAR_WRITE
  | SB_E5_TIMEOUT
  | SB_UNSERVED
  | SB_GATE_DENY
  | SB_LOCK_BREAK
  | SB_IN_LOST
  | SB_LINE
  | SB_OUT_SRC
  | SB_CFG
  | SB_TELEM_SKIP
  | SB_INB_FAIL
  | ST_DENY
  | ST_COMMIT_REFUSED
  | ST_COMMIT_DONE
  | ST_WINDOW_OVERRUN
  | ST_SHADOW_STALE
  | ST_SHADOW_UE
  | ST_MASTER_UE
  | ST_LOCKED_WRITE
  | ST_REPROTECT
  | ST_REPROTECT_FAIL
  | PT_CMD_DENIED
  | PT_DB_LOST
  | PT_RING_ERR
  | PT_IRQ_ERR
  | POT_SRAM_UE
  | KT_REST_REFUSED
  | KT_GT_RAISE
  | KT_DOMAIN_FAIL
  | KT_POT_FAIL
  | KT_SIDE_CH_LOST
  | SC_FLOOD
  | SAUCER_FAIL
  | SC_HRING_ERR
  | CD_UE
  | PM_SNAP_LATE
  | SEAM_PARTITION
  | DIE_B_REJOIN
  deriving DecidableEq, Repr

/-- The kind code of R528. -/
def FaultKind.code : FaultKind → Nat
  | .TIME_DEGRADED => 0x01
  | .TIME_REF_SWITCH => 0x02
  | .TIME_HOLDOVER => 0x03
  | .TIME_NOMINAL => 0x04
  | .TIME_REF_STANDBY => 0x05
  | .TIME_MARK_ERR => 0x06
  | .REF_CLK_DRIFT => 0x07
  | .ISLAND_TIME_SLIP => 0x08
  | .XING_OVERRUN => 0x09
  | .HDR_MALFORMED => 0x10
  | .PKT_MALFORMED => 0x11
  | .CREDIT_OVERFLOW => 0x12
  | .LANE_CE => 0x13
  | .LANE_UE_PAYLOAD => 0x14
  | .LANE_UE_CTRL => 0x15
  | .FLIT_FRAMING => 0x16
  | .FENCE_DISCARD => 0x17
  | .GATE_LATE => 0x18
  | .MSG_RESERVED => 0x19
  | .INIT_TIMEOUT => 0x20
  | .RETRY_EXHAUSTED => 0x21
  | .RSP_STRAY => 0x22
  | .RSP_LATE => 0x23
  | .NO_ROUTE => 0x24
  | .DECODE_MISS => 0x25
  | .DGT_INVALID => 0x26
  | .NI_BUF_CE => 0x27
  | .NI_BUF_UE => 0x28
  | .TABLE_CE => 0x29
  | .TABLE_UE => 0x2A
  | .FAULT_LOSS => 0x2B
  | .LEAF_OVERRUN => 0x2C
  | .COH_PROTOCOL => 0x30
  | .COH_POISON => 0x31
  | .COH_ACK_TIMEOUT => 0x32
  | .XLATE_MISS => 0x33
  | .DIR_CE => 0x34
  | .DIR_UE => 0x35
  | .DIR_TAG_LOST => 0x36
  | .DIR_SPARED => 0x37
  | .DIR_WAY_RETIRED => 0x38
  | .DIR_BROADCAST => 0x39
  | .DIR_BCAST_LIMIT => 0x3A
  | .HS_MAP_MISS => 0x3B
  | .STG_CE => 0x3C
  | .STG_UE => 0x3D
  | .LEDGER_FULL => 0x3E
  | .LEDGER_WRITE_ERR => 0x3F
  | .GT_SLOT_MISSED => 0x40
  | .GT_ROUTE_DEMOTED => 0x41
  | .GT_OVERSIZE => 0x42
  | .METER_RED_P3 => 0x43
  | .SHAPER_CFG => 0x44
  | .METER_CFG => 0x45
  | .LID_CHANGE => 0x46
  | .LEDGER_FORMAT => 0x47
  | .EPOCH_DONE => 0x48
  | .EPOCH_CANCELLED => 0x49
  | .EPOCH_DRAIN_SLOW => 0x4A
  | .EPOCH_SPLIT => 0x4B
  | .EPOCH_STALE => 0x4C
  | .BANK_LOAD_ERR => 0x4D
  | .PORT_AGENT => 0x50
  | .PORT_DOWN => 0x51
  | .PORT_UP => 0x52
  | .PORT_UNSUPPORTED => 0x53
  | .PORT_PROTOCOL => 0x54
  | .PORT_PW_ERR => 0x55
  | .PORT_WB_TIMEOUT => 0x56
  | .MEM_DEV_ERR => 0x57
  | .LINK_CRC => 0x60
  | .LINK_RETRAIN => 0x61
  | .LINK_RESUMED => 0x62
  | .LINK_PRE_TIMEOUT => 0x63
  | .LINK_WIDTH => 0x64
  | .LINK_INIT_ERR => 0x65
  | .LINK_LOST => 0x66
  | .LINK_FLIT_LOST => 0x67
  | .LINK_PROTOCOL => 0x68
  | .SB_FAR_READ => 0x70
  | .SB_FAR_WRITE => 0x71
  | .SB_E5_TIMEOUT => 0x72
  | .SB_UNSERVED => 0x73
  | .SB_GATE_DENY => 0x74
  | .SB_LOCK_BREAK => 0x75
  | .SB_IN_LOST => 0x76
  | .SB_LINE => 0x77
  | .SB_OUT_SRC => 0x78
  | .SB_CFG => 0x79
  | .SB_TELEM_SKIP => 0x7A
  | .SB_INB_FAIL => 0x7B
  | .ST_DENY => 0x80
  | .ST_COMMIT_REFUSED => 0x81
  | .ST_COMMIT_DONE => 0x82
  | .ST_WINDOW_OVERRUN => 0x83
  | .ST_SHADOW_STALE => 0x84
  | .ST_SHADOW_UE => 0x85
  | .ST_MASTER_UE => 0x86
  | .ST_LOCKED_WRITE => 0x87
  | .ST_REPROTECT => 0x88
  | .ST_REPROTECT_FAIL => 0x89
  | .PT_CMD_DENIED => 0x90
  | .PT_DB_LOST => 0x91
  | .PT_RING_ERR => 0x92
  | .PT_IRQ_ERR => 0x93
  | .POT_SRAM_UE => 0x94
  | .KT_REST_REFUSED => 0x98
  | .KT_GT_RAISE => 0x99
  | .KT_DOMAIN_FAIL => 0x9A
  | .KT_POT_FAIL => 0x9B
  | .KT_SIDE_CH_LOST => 0x9C
  | .SC_FLOOD => 0xA0
  | .SAUCER_FAIL => 0xA1
  | .SC_HRING_ERR => 0xA2
  | .CD_UE => 0xA3
  | .PM_SNAP_LATE => 0xA4
  | .SEAM_PARTITION => 0xA5
  | .DIE_B_REJOIN => 0xA6

/-- The class of R528; for a kind whose source chooses the class, the lowest it may choose. -/
def FaultKind.cls : FaultKind → Nat
  | .TIME_DEGRADED => 2
  | .TIME_REF_SWITCH => 2
  | .TIME_HOLDOVER => 2
  | .TIME_NOMINAL => 0
  | .TIME_REF_STANDBY => 1
  | .TIME_MARK_ERR => 1
  | .REF_CLK_DRIFT => 2
  | .ISLAND_TIME_SLIP => 2
  | .XING_OVERRUN => 1
  | .HDR_MALFORMED => 3
  | .PKT_MALFORMED => 3
  | .CREDIT_OVERFLOW => 3
  | .LANE_CE => 1
  | .LANE_UE_PAYLOAD => 3
  | .LANE_UE_CTRL => 3
  | .FLIT_FRAMING => 3
  | .FENCE_DISCARD => 3
  | .GATE_LATE => 2
  | .MSG_RESERVED => 2
  | .INIT_TIMEOUT => 3
  | .RETRY_EXHAUSTED => 3
  | .RSP_STRAY => 2
  | .RSP_LATE => 1
  | .NO_ROUTE => 2
  | .DECODE_MISS => 2
  | .DGT_INVALID => 2
  | .NI_BUF_CE => 1
  | .NI_BUF_UE => 3
  | .TABLE_CE => 1
  | .TABLE_UE => 3
  | .FAULT_LOSS => 1
  | .LEAF_OVERRUN => 1
  | .COH_PROTOCOL => 3
  | .COH_POISON => 3
  | .COH_ACK_TIMEOUT => 2
  | .XLATE_MISS => 2
  | .DIR_CE => 1
  | .DIR_UE => 3
  | .DIR_TAG_LOST => 4
  | .DIR_SPARED => 1
  | .DIR_WAY_RETIRED => 2
  | .DIR_BROADCAST => 2
  | .DIR_BCAST_LIMIT => 3
  | .HS_MAP_MISS => 3
  | .STG_CE => 1
  | .STG_UE => 3
  | .LEDGER_FULL => 2
  | .LEDGER_WRITE_ERR => 2
  | .GT_SLOT_MISSED => 2
  | .GT_ROUTE_DEMOTED => 2
  | .GT_OVERSIZE => 2
  | .METER_RED_P3 => 1
  | .SHAPER_CFG => 1
  | .METER_CFG => 1
  | .LID_CHANGE => 0
  | .LEDGER_FORMAT => 0
  | .EPOCH_DONE => 0
  | .EPOCH_CANCELLED => 1
  | .EPOCH_DRAIN_SLOW => 2
  | .EPOCH_SPLIT => 3
  | .EPOCH_STALE => 3
  | .BANK_LOAD_ERR => 2
  | .PORT_AGENT => 3
  | .PORT_DOWN => 2
  | .PORT_UP => 0
  | .PORT_UNSUPPORTED => 1
  | .PORT_PROTOCOL => 3
  | .PORT_PW_ERR => 2
  | .PORT_WB_TIMEOUT => 3
  | .MEM_DEV_ERR => 1
  | .LINK_CRC => 1
  | .LINK_RETRAIN => 1
  | .LINK_RESUMED => 0
  | .LINK_PRE_TIMEOUT => 1
  | .LINK_WIDTH => 2
  | .LINK_INIT_ERR => 2
  | .LINK_LOST => 2
  | .LINK_FLIT_LOST => 3
  | .LINK_PROTOCOL => 3
  | .SB_FAR_READ => 1
  | .SB_FAR_WRITE => 2
  | .SB_E5_TIMEOUT => 2
  | .SB_UNSERVED => 1
  | .SB_GATE_DENY => 2
  | .SB_LOCK_BREAK => 1
  | .SB_IN_LOST => 1
  | .SB_LINE => 0
  | .SB_OUT_SRC => 3
  | .SB_CFG => 1
  | .SB_TELEM_SKIP => 1
  | .SB_INB_FAIL => 2
  | .ST_DENY => 1
  | .ST_COMMIT_REFUSED => 1
  | .ST_COMMIT_DONE => 0
  | .ST_WINDOW_OVERRUN => 3
  | .ST_SHADOW_STALE => 3
  | .ST_SHADOW_UE => 2
  | .ST_MASTER_UE => 4
  | .ST_LOCKED_WRITE => 2
  | .ST_REPROTECT => 0
  | .ST_REPROTECT_FAIL => 2
  | .PT_CMD_DENIED => 1
  | .PT_DB_LOST => 1
  | .PT_RING_ERR => 2
  | .PT_IRQ_ERR => 2
  | .POT_SRAM_UE => 3
  | .KT_REST_REFUSED => 1
  | .KT_GT_RAISE => 0
  | .KT_DOMAIN_FAIL => 3
  | .KT_POT_FAIL => 4
  | .KT_SIDE_CH_LOST => 4
  | .SC_FLOOD => 4
  | .SAUCER_FAIL => 4
  | .SC_HRING_ERR => 2
  | .CD_UE => 2
  | .PM_SNAP_LATE => 2
  | .SEAM_PARTITION => 3
  | .DIE_B_REJOIN => 0

/-- All kinds of R528. -/
def FaultKind.all : List FaultKind :=
  ([.TIME_DEGRADED, .TIME_REF_SWITCH, .TIME_HOLDOVER, .TIME_NOMINAL, .TIME_REF_STANDBY, .TIME_MARK_ERR, .REF_CLK_DRIFT, .ISLAND_TIME_SLIP, .XING_OVERRUN, .HDR_MALFORMED, .PKT_MALFORMED, .CREDIT_OVERFLOW] : List FaultKind) ++
  ([.LANE_CE, .LANE_UE_PAYLOAD, .LANE_UE_CTRL, .FLIT_FRAMING, .FENCE_DISCARD, .GATE_LATE, .MSG_RESERVED, .INIT_TIMEOUT, .RETRY_EXHAUSTED, .RSP_STRAY, .RSP_LATE, .NO_ROUTE] : List FaultKind) ++
  ([.DECODE_MISS, .DGT_INVALID, .NI_BUF_CE, .NI_BUF_UE, .TABLE_CE, .TABLE_UE, .FAULT_LOSS, .LEAF_OVERRUN, .COH_PROTOCOL, .COH_POISON, .COH_ACK_TIMEOUT, .XLATE_MISS] : List FaultKind) ++
  ([.DIR_CE, .DIR_UE, .DIR_TAG_LOST, .DIR_SPARED, .DIR_WAY_RETIRED, .DIR_BROADCAST, .DIR_BCAST_LIMIT, .HS_MAP_MISS, .STG_CE, .STG_UE, .LEDGER_FULL, .LEDGER_WRITE_ERR] : List FaultKind) ++
  ([.GT_SLOT_MISSED, .GT_ROUTE_DEMOTED, .GT_OVERSIZE, .METER_RED_P3, .SHAPER_CFG, .METER_CFG, .LID_CHANGE, .LEDGER_FORMAT, .EPOCH_DONE, .EPOCH_CANCELLED, .EPOCH_DRAIN_SLOW, .EPOCH_SPLIT] : List FaultKind) ++
  ([.EPOCH_STALE, .BANK_LOAD_ERR, .PORT_AGENT, .PORT_DOWN, .PORT_UP, .PORT_UNSUPPORTED, .PORT_PROTOCOL, .PORT_PW_ERR, .PORT_WB_TIMEOUT, .MEM_DEV_ERR, .LINK_CRC, .LINK_RETRAIN] : List FaultKind) ++
  ([.LINK_RESUMED, .LINK_PRE_TIMEOUT, .LINK_WIDTH, .LINK_INIT_ERR, .LINK_LOST, .LINK_FLIT_LOST, .LINK_PROTOCOL, .SB_FAR_READ, .SB_FAR_WRITE, .SB_E5_TIMEOUT, .SB_UNSERVED, .SB_GATE_DENY] : List FaultKind) ++
  ([.SB_LOCK_BREAK, .SB_IN_LOST, .SB_LINE, .SB_OUT_SRC, .SB_CFG, .SB_TELEM_SKIP, .SB_INB_FAIL, .ST_DENY, .ST_COMMIT_REFUSED, .ST_COMMIT_DONE, .ST_WINDOW_OVERRUN, .ST_SHADOW_STALE] : List FaultKind) ++
  ([.ST_SHADOW_UE, .ST_MASTER_UE, .ST_LOCKED_WRITE, .ST_REPROTECT, .ST_REPROTECT_FAIL, .PT_CMD_DENIED, .PT_DB_LOST, .PT_RING_ERR, .PT_IRQ_ERR, .POT_SRAM_UE, .KT_REST_REFUSED, .KT_GT_RAISE] : List FaultKind) ++
  ([.KT_DOMAIN_FAIL, .KT_POT_FAIL, .KT_SIDE_CH_LOST, .SC_FLOOD, .SAUCER_FAIL, .SC_HRING_ERR, .CD_UE, .PM_SNAP_LATE, .SEAM_PARTITION, .DIE_B_REJOIN] : List FaultKind)

/-- True when a kind code is listed in R528. -/
def kindListed (code : Nat) : Bool := FaultKind.all.any (fun k => k.code == code)

/-- The kind that a listed code names. -/
def kindOf (code : Nat) : Option FaultKind := FaultKind.all.find? (fun k => k.code == code)

/-- A fault message: the fault word of R504 with the agent and line of header word 1. -/
structure FaultMsg where
  src : Nat
  sub : Nat
  kind : Nat
  cls : Nat
  addr : Bool
  inj : Bool
  detail : Nat
  rep : Nat
  agent : Nat
  line : Nat
  deriving DecidableEq, Repr

/-- Word 2 of a FAULT packet (R504). -/
def FaultMsg.word (f : FaultMsg) : W64 :=
  BitVec.ofNat 64 (f.src % 256 * 2 ^ 56 + f.sub % 16 * 2 ^ 52 + f.kind % 256 * 2 ^ 44 + f.cls % 8 * 2 ^ 41 +
    b2n f.addr * 2 ^ 40 + b2n f.inj * 2 ^ 39 + f.detail % 2 ^ 39)

/-- The message that a FAULT packet's words 2 and 3 and header word 1 carry (R504). -/
def FaultMsg.ofWord (w : W64) (rep agent line : Nat) : FaultMsg :=
  let a := bit w 40
  { src := bits w 56 8, sub := bits w 52 4, kind := bits w 44 8, cls := bits w 41 3, addr := a, inj := bit w 39,
    detail := bits w 0 39, rep := rep, agent := if a then agent else 0, line := if a then line else 0 }

end Sys2Proof.Machine
end

