-- ==== Sys2Proof/Machine/KMap.lean ====
section
/-! DEFINITION. Sparse tables in one canonical form: a list of key and value pairs with keys strictly rising and no
entry equal to what an unlisted key reads as, so that equal tables are equal data. -/
namespace Sys2Proof.Machine

/-- A table from a number to a value, listed where it differs from its default. -/
abbrev KMap (α : Type) := List (Nat × α)

/-- The value at a key; an unlisted key reads as the default. -/
def KMap.get {α : Type} (d : Nat → α) : KMap α → Nat → α
  | [], k => d k
  | (j, v) :: t, k => if j = k then v else KMap.get d t k

/-- The table without a key. -/
def KMap.erase {α : Type} : KMap α → Nat → KMap α
  | [], _ => []
  | (j, v) :: t, k => if j = k then KMap.erase t k else (j, v) :: KMap.erase t k

/-- The table with a key listed at its place. -/
def KMap.insert {α : Type} : KMap α → Nat → α → KMap α
  | [], k, v => [(k, v)]
  | (j, u) :: t, k, v =>
    if k < j then (k, v) :: (j, u) :: t
    else if j = k then (k, v) :: t
    else (j, u) :: KMap.insert t k v

/-- The table with the value at a key replaced, in canonical form. -/
def KMap.set {α : Type} [DecidableEq α] (d : Nat → α) (m : KMap α) (k : Nat) (v : α) : KMap α :=
  if v = d k then KMap.erase m k else KMap.insert m k v

/-- Keys strictly rise, starting above a bound. -/
def KMap.sortedFrom {α : Type} : Nat → KMap α → Bool
  | _, [] => true
  | b, (k, _) :: t => decide (b ≤ k) && KMap.sortedFrom (k + 1) t

/-- No listed value equals its default. -/
def KMap.noDefault {α : Type} [DecidableEq α] (d : Nat → α) : KMap α → Bool
  | [] => true
  | (k, v) :: t => decide (v ≠ d k) && KMap.noDefault d t

/-- The canonical form. -/
def KMap.wf {α : Type} [DecidableEq α] (d : Nat → α) (m : KMap α) : Bool :=
  KMap.sortedFrom 0 m && KMap.noDefault d m

/-- The table without the keys that a test picks. -/
def KMap.drop {α : Type} (p : Nat → Bool) (m : KMap α) : KMap α := m.filter (fun e => !p e.1)

end Sys2Proof.Machine
end

