-- ==== Sys2Proof/Machine/Packet.lean ====
section
/-! DEFINITION. Flits, packets, header words, route words, virtual networks and credit words (R86 to R118). -/
namespace Sys2Proof.Machine

/-- The fields of both header words (R89, R95, R96). `mid` is bits [51:6] of header word 1: LINE in the address form;
RESP, TOWN and MSG in the response form. -/
structure Hdr where
  route : BitVec 24
  vn : BitVec 3
  pri : BitVec 2
  epoch : BitVec 2
  colour : BitVec 2
  len : BitVec 2
  poison : Bool
  leaf : Bool
  hdata : Bool
  priv : Bool
  origin : Bool
  opcode : BitVec 6
  src : BitVec 8
  tag : BitVec 8
  agent : BitVec 12
  mid : BitVec 46
  leafId : BitVec 6
  deriving DecidableEq, Repr

/-- A header with every field zero. -/
def Hdr.zero : Hdr :=
  { route := 0, vn := 0, pri := 0, epoch := 0, colour := 0, len := 0, poison := false, leaf := false, hdata := false,
    priv := false, origin := false, opcode := 0, src := 0, tag := 0, agent := 0, mid := 0, leafId := 0 }

/-- Header word 0 (R89). -/
def Hdr.word0 (h : Hdr) : W64 :=
  h.route ++ h.vn ++ h.pri ++ h.epoch ++ h.colour ++ h.len ++ BitVec.ofBool h.poison ++ BitVec.ofBool h.leaf ++
    BitVec.ofBool h.hdata ++ BitVec.ofBool h.priv ++ BitVec.ofBool h.origin ++ h.opcode ++ h.src ++ h.tag ++ (0 : BitVec 2)

/-- Header word 1, in either form (R95, R96). -/
def Hdr.word1 (h : Hdr) : W64 := h.agent ++ h.mid ++ h.leafId

/-- The header that two header words carry (R89, R95, R96). -/
def Hdr.ofWords (w0 w1 : W64) : Hdr :=
  { route := w0.extractLsb' 40 24, vn := w0.extractLsb' 37 3, pri := w0.extractLsb' 35 2, epoch := w0.extractLsb' 33 2,
    colour := w0.extractLsb' 31 2, len := w0.extractLsb' 29 2, poison := w0.getLsbD 28, leaf := w0.getLsbD 27,
    hdata := w0.getLsbD 26, priv := w0.getLsbD 25, origin := w0.getLsbD 24, opcode := w0.extractLsb' 18 6,
    src := w0.extractLsb' 10 8, tag := w0.extractLsb' 2 8, agent := w1.extractLsb' 52 12, mid := w1.extractLsb' 6 46,
    leafId := w1.extractLsb' 0 6 }

/-- LINE of an address-form header (R95). -/
def Hdr.line (h : Hdr) : Nat := h.mid.toNat
/-- RESP of a response-form header (R96). -/
def Hdr.resp (h : Hdr) : Nat := bits h.mid 42 4
/-- TOWN of a response-form header (R96). -/
def Hdr.town (h : Hdr) : Nat := bits h.mid 34 8
/-- MSG, bits [39:6] of header word 1, of a response-form header (R96). -/
def Hdr.msg (h : Hdr) : Nat := bits h.mid 0 34
/-- Bit k of header word 1 within MSG, k = 6 to 39 (R96). -/
def Hdr.msgBit (h : Hdr) (k : Nat) : Bool := bit h.mid (k - 6)
/-- The response-form middle of header word 1 from RESP, TOWN and MSG (R96). -/
def midOf (resp town msg : Nat) : BitVec 46 :=
  BitVec.ofNat 46 (resp % 16 * 2 ^ 42 + town % 256 * 2 ^ 34 + msg % 2 ^ 34)

/-- RESP codes of R97. -/
def Resp.OK : Nat := 0
def Resp.ERR_DATA : Nat := 1
def Resp.ERR_ACCESS : Nat := 2
def Resp.ERR_TIMEOUT : Nat := 3
def Resp.ERR_UNSUPPORTED : Nat := 4
def Resp.ERR_FENCED : Nat := 5
def Resp.ERR_FAR : Nat := 6
def Resp.ERR_POISON : Nat := 7

/-- The place of a RESP code from best (0) to worst in the order of R175. -/
def respRank (r : Nat) : Nat :=
  if r = 0 then 0 else if r = 7 then 1 else if r = 3 then 2 else if r = 5 then 3 else if r = 6 then 4
  else if r = 4 then 5 else if r = 2 then 6 else if r = 1 then 7 else 8

/-- The worse of two RESP codes (R175). -/
def worstResp (a b : Nat) : Nat := if respRank a < respRank b then b else a

/-- Virtual networks of R107. -/
def Vn.REQ : Nat := 0
def Vn.SNP : Nat := 1
def Vn.RSP : Nat := 2
def Vn.DAT : Nat := 3
def Vn.IOP : Nat := 4
def Vn.ION : Nat := 5
def Vn.IOC : Nat := 6
def Vn.MGT : Nat := 7

/-- Maximum flits of a VN (R107). -/
def vnMax (vn : Nat) : Nat :=
  if vn = 0 then 1 else if vn = 1 then 2 else if vn = 2 then 1 else if vn = 7 then 1 else 4
/-- True for the VNs whose header word 1 has the response form (R96). -/
def vnResponse (vn : Nat) : Bool := vn == 2 || vn == 3 || vn == 6
/-- Buffer depth of a VN in flits (R109). -/
def vnDepth (vn : Nat) : Nat := if vn = 3 then 8 else if vn = 6 then 6 else if vn = 7 then 2 else 4
/-- Depth of the shared lane (R109). -/
def sharedDepth (vn : Nat) : Nat := vnDepth vn - 1
/-- Depth of a lane: the GT lane holds one flit (R109). -/
def laneDepth (vn : Nat) (gt : Bool) : Nat := if gt then 1 else sharedDepth vn
/-- VN group of R127 rule 4, 0 first. -/
def vnGroup (vn : Nat) : Nat :=
  if vn = 7 then 0 else if vn = 2 ∨ vn = 3 ∨ vn = 6 then 1 else if vn = 1 then 2 else 3

/-- One body flit's contents: its POISON, its byte enables and its line (R87). -/
structure Body where
  poison : Bool
  be : W64
  data : Line
  deriving DecidableEq, Repr

/-- A packet: one head flit and its body flits (R88). -/
structure Pkt where
  h : Hdr
  pl : Line
  body : List Body
  deriving DecidableEq, Repr

/-- A flit on a link with its voted mark: HEAD by its constructor, GTL by `gt` (R86, R87, chapter 4). -/
inductive Flit where
  | head (gt : Bool) (h : Hdr) (pl : Line)
  | body (gt : Bool) (vn : BitVec 3) (seq : BitVec 2) (last : Bool) (src tag : BitVec 8) (b : Body)
  deriving DecidableEq, Repr

/-- Word 0 of a body flit (R87). -/
def bodyWord0 (vn : BitVec 3) (seq : BitVec 2) (last poison : Bool) (src tag : BitVec 8) : W64 :=
  vn ++ seq ++ BitVec.ofBool last ++ BitVec.ofBool poison ++ (0 : BitVec 9) ++ src ++ tag ++ (0 : BitVec 32)

/-- GTL of the flit mark: set for the GT lane (R110). -/
def Flit.gt : Flit → Bool
  | .head g _ _ => g
  | .body g _ _ _ _ _ _ => g

/-- HEAD of the flit mark. -/
def Flit.isHead : Flit → Bool
  | .head _ _ _ => true
  | .body _ _ _ _ _ _ _ => false

/-- The VN of a flit. -/
def Flit.vn : Flit → Nat
  | .head _ h _ => h.vn.toNat
  | .body _ v _ _ _ _ _ => v.toNat

/-- True for the last flit of its packet (R87, R90). -/
def Flit.isLast : Flit → Bool
  | .head _ h _ => h.len.toNat == 0
  | .body _ _ _ l _ _ _ => l

/-- True for a packet of the GT lane: PRI = P3 (R110). -/
def Hdr.gt (h : Hdr) : Bool := h.pri.toNat == 3

/-- The body flits of a packet, SEQ counting from k (R87). -/
def bodyFlits (h : Hdr) : Nat → List Body → List Flit
  | _, [] => []
  | k, b :: bs =>
    .body h.gt h.vn (BitVec.ofNat 2 k) (k == h.len.toNat) h.src h.tag b :: bodyFlits h (k + 1) bs

/-- The flits of a packet in order (R88). -/
def Pkt.flits (p : Pkt) : List Flit := .head p.h.gt p.h p.pl :: bodyFlits p.h 1 p.body

/-- Lines that a packet carries, line 0 first, with their byte enables and poison (R103, R104). -/
def Pkt.lines (p : Pkt) : List Body :=
  if p.h.hdata then ⟨p.h.poison, allBytes, p.pl⟩ :: p.body else p.body

/-- A packet without body flits. -/
def Pkt.one (h : Hdr) (pl : Line) : Pkt := { h := { h with len := 0 }, pl := pl, body := [] }

/-- A packet that carries lines with HDATA = 1: line 0 in the head payload (R103). -/
def Pkt.ofLines (h : Hdr) (ls : List Body) : Pkt :=
  match ls with
  | [] => { h := { h with len := 0, hdata := false }, pl := 0, body := [] }
  | b :: bs =>
    { h := { h with len := BitVec.ofNat 2 bs.length, hdata := true, poison := b.poison }, pl := b.data, body := bs }

/-- Word 2 + m of a packet's head flit, m = 0 to 7. -/
def Pkt.word (p : Pkt) (m : Nat) : W64 := lineWord p.pl m

/-- The segments and exit of a route word (R99). -/
structure Route where
  dir0 : Nat
  cnt0 : Nat
  dir1 : Nat
  cnt1 : Nat
  dir2 : Nat
  cnt2 : Nat
  exit : Nat
  xf : Bool
  deriving DecidableEq, Repr

/-- The fields of a route word (R99). -/
def Route.ofWord (r : BitVec 24) : Route :=
  { dir0 := bits r 22 2, cnt0 := bits r 17 5, dir1 := bits r 15 2, cnt1 := bits r 10 5, dir2 := bits r 8 2,
    cnt2 := bits r 3 5, exit := bits r 1 2, xf := bit r 0 }

/-- The route word of its fields (R99). -/
def Route.word (r : Route) : BitVec 24 :=
  BitVec.ofNat 24 (r.dir0 * 2 ^ 22 + r.cnt0 * 2 ^ 17 + r.dir1 * 2 ^ 15 + r.cnt1 * 2 ^ 10 + r.dir2 * 2 ^ 8 +
    r.cnt2 * 2 ^ 3 + r.exit * 2 + b2n r.xf)

/-- Two directions are perpendicular: one is N or S, the other E or W (R99, R100). -/
def perpendicular (a b : Nat) : Bool := (a % 2) != (b % 2)

/-- The canonical form of R100. -/
def Route.canonical (r : Route) : Bool :=
  (r.cnt0 != 0 || (r.dir0 == 0 && r.cnt1 == 0)) &&
  (r.cnt1 != 0 || (r.dir1 == 0 && r.cnt2 == 0)) &&
  (r.cnt2 != 0 || r.dir2 == 0) &&
  (r.cnt1 == 0 || perpendicular r.dir0 r.dir1) &&
  (r.cnt2 == 0 || perpendicular r.dir1 r.dir2)

/-- The output port that the route word names at the router that reads it: 0 N, 1 E, 2 S, 3 W, 4 L0, 5 L1; 6 or 7 for a reserved EXIT (R101). -/
def Route.out (r : Route) : Nat := if 1 ≤ r.cnt0 then r.dir0 else 4 + r.exit

/-- The rewritten route word of R101. -/
def Route.step (r : Route) : Route :=
  if 1 ≤ r.cnt0 then
    if r.cnt0 = 1 then
      { r with dir0 := r.dir1, cnt0 := r.cnt1, dir1 := r.dir2, cnt1 := r.cnt2, dir2 := 0, cnt2 := 0 }
    else { r with cnt0 := r.cnt0 - 1 }
  else r

/-- The output port of a header's route word (R101). -/
def Hdr.out (h : Hdr) : Nat := (Route.ofWord h.route).out

/-- The header with its route word rewritten (R101). -/
def Hdr.routed (h : Hdr) : Hdr := { h with route := (Route.ofWord h.route).step.word }

/-- The credit word of R112 from the credits returned per VN: GT and shared. -/
def creditWord (f : Nat → Nat × Nat) : BitVec 24 :=
  BitVec.ofNat 24 ((List.range 8).foldl (fun a v => a + ((f v).1 % 2 * 4 + (f v).2 % 4) * 2 ^ (3 * v)) 0)

/-- Credits a credit word returns to a lane (R112). -/
def creditOf (c : BitVec 24) (vn : Nat) (gt : Bool) : Nat := if gt then bits c (3 * vn + 2) 1 else bits c (3 * vn) 2

/-- CRC-8 step over one bit with polynomial x^8 + x^2 + x + 1 (R61). -/
def crc8Step (c : Nat) (b : Bool) : Nat :=
  let top := (c.testBit 7) != b
  let c' := c * 2 % 256
  if top then c' ^^^ 7 else c'

/-- CHECK of a sync word: CRC-8 over bits [63:8], bit 63 first, initial value 0 (R61). -/
def crc8 (w : W64) : Nat := (List.range 56).foldl (fun c k => crc8Step c (w.getLsbD (63 - k))) 0

end Sys2Proof.Machine
end

