-- ==== Sys2Proof/Machine/NetTypes.lean ====
section
/-! DEFINITION. The state of the mesh: fabric time, islands, crossings, routers and network interfaces (chapters 2 to 5, 8, 9 and 17). -/
namespace Sys2Proof.Machine

/-- Time confidence, from better to worse (R61, R65). -/
inductive Conf where
  | nominal | degraded | holdover | unset
  deriving DecidableEq, Repr

/-- CONF code of R61. -/
def Conf.code : Conf → Nat
  | .nominal => 0 | .degraded => 1 | .holdover => 2 | .unset => 3

/-- The confidence that a CONF code names (R61). -/
def Conf.ofCode (c : Nat) : Conf :=
  if c = 0 then .nominal else if c = 1 then .degraded else if c = 2 then .holdover else .unset

/-- The worse of two confidences (R65). -/
def Conf.worse (a b : Conf) : Conf := if a.code < b.code then b else a

/-- What the keeper holds about one time reference (R53 to R57, R69). Drift is in units of 1/16 ppm. -/
structure Ref where
  /-- the last mark's time epoch; none until a first mark has started a count -/
  epoch : Option Nat
  errRun : Nat
  lost : Bool
  out : Bool
  drift : Int
  /-- consecutive time epochs with correct marks and a drift of at most 20 ppm -/
  good : Nat
  /-- a mark error, and a correct mark, since the last boundary -/
  errNow : Bool
  okNow : Bool
  /-- the unfit condition last reported by TIME_REF_STANDBY -/
  standby : Bool
  deriving DecidableEq, Repr

/-- The time keeper and the drift monitor (R58, R61, R69 to R73). -/
structure Keeper where
  now : Nat
  running : Bool
  armed : Bool
  conf : Conf
  selB : Bool
  refA : Ref
  refB : Ref
  /-- a reference to be selected at its next mark (true for TREF_B) -/
  switchTo : Option Bool
  /-- phase error against the selected reference still to be removed, and the part of a tick by which the time is ahead of `now`,
  both in units of 1/80,000 ft, of which 16 are what 200 ppm remove in a tick (R71) -/
  slew : Int
  frac : Nat
  goodEpochs : Nat
  meanDrift : Int
  meanBad : Bool
  boundary : Nat
  syncWord : W64
  deriving DecidableEq, Repr

/-- One island: its local time counter, its alignment, its oscillator (R44 to R51, R62 to R68). Times are in units of 1/16 ft. The counter
read `base` when `since` cycles of the block had passed (`State.uptime`); since then it runs with the departure `drift` of its oscillator and
removes the phase error `corr`, both per 1,024 ft. `tru` is what true time read then; a held counter stands at `base`. -/
structure Island where
  base : Nat
  since : Nat
  corr : Int
  drift : Int
  tru : Nat
  held : Bool
  aligned : Bool
  /-- true until the island has taken its local time from a mark (R68) -/
  takeNext : Bool
  conf : Conf
  fabConf : Conf
  missedRun : Nat
  goodRun : Nat
  lastMark : Nat
  curMhz : Nat
  runMhz : Nat
  floorMhz : Nat
  moving : Bool
  /-- a falling move waits for the old epoch to drain (R50) -/
  fallWait : Bool
  deriving DecidableEq, Repr

/-- One event crossing: events that wait at its sending half (R76, R78). -/
structure EvXing where
  waiting : Nat
  deriving DecidableEq, Repr

/-- A flit in a lane with the local time at which it entered and the time it was held at a wake fence (R110, R129). -/
structure Cell where
  f : Flit
  tin : Nat
  fence : Nat
  /-- a body flit synthesised under R134, which holds no credit -/
  synth : Bool
  deriving DecidableEq, Repr

/-- What a lane expects next: the head of the packet it is receiving, the next SEQ, and whether it discards up to the next head (R133, R134). -/
structure LaneRx where
  h : Option Hdr
  next : Nat
  dropping : Bool
  deriving DecidableEq, Repr

/-- A packet in progress on an output: the input and lane it comes from, its head and the next SEQ (R127). `synth` is set
when its remaining flits are synthesised (R134, R143). -/
structure Prog where
  inp : Nat
  gt : Bool
  h : Hdr
  next : Nat
  synth : Bool
  deriving DecidableEq, Repr

/-- Neighbour state of a router output (chapter 4, Wake fences). -/
inductive Nbr where
  | on | asleep | paused | unreach
  deriving DecidableEq, Repr

/-- NBR code of RT_PORT_STATE. -/
def Nbr.code : Nbr → Nat
  | .on => 0 | .asleep => 1 | .paused => 2 | .unreach => 3

/-- The histogram of one queue: eight depth bins, eight age bins, samples and the largest age (R303). -/
structure Hist where
  bins : List Nat
  samples : Nat
  maxAge : Nat
  deriving DecidableEq, Repr

/-- An empty histogram. -/
def Hist.zero : Hist := { bins := List.replicate 16 0, samples := 0, maxAge := 0 }

/-- A router tile (chapter 4). Keys: a lane is port·16 + vn·2 + gt, a packet in progress is out·8 + vn,
a round-robin pointer is out·4 + group. -/
structure Router where
  lanes : KMap (List Cell)
  rx : KMap LaneRx
  prog : KMap (Option Prog)
  rr : KMap Nat
  nbr : KMap (Option Nbr)
  /-- values that the Kettle has sent through an output's value crossing and that it has not yet accepted (R77) -/
  nbrSent : KMap (Option Nbr)
  /-- local time since which an output's wake fence holds (R140, R540) -/
  fenceAt : KMap Nat
  /-- wake request raised and not yet answered -/
  wakePend : KMap Bool
  /-- the Kettle has asked the output to close its fence, and whether the closing has been reported -/
  closing : KMap Bool
  closed : KMap Bool
  /-- FENCE_DISCARD reported since the port last became UNREACHABLE -/
  discRep : KMap Bool
  /-- time epoch of the last LANE_CE report of an input port, plus one -/
  ceEpoch : KMap Nat
  glEpoch : KMap Nat
  /-- opening of the GT window last acted on by an output, in units of 1/16 ft, plus one (R67, R139) -/
  glSeen : KMap Nat
  /-- the bank whose old windows still apply, and T, until T + 256 ft (R290) -/
  unionOld : Option (Nat × Nat)
  hist : KMap Hist
  tableCe : Nat
  /-- snapshot number and T held (R558) -/
  snap : Option (Nat × Nat)
  deriving DecidableEq, Repr

/-- A router as reset leaves it. -/
def Router.reset : Router :=
  { lanes := [], rx := [], prog := [], rr := [], nbr := [], nbrSent := [], fenceAt := [], wakePend := [], closing := [], closed := [], discRep := [],
    ceEpoch := [], glEpoch := [], glSeen := [], unionOld := none, hist := [], tableCe := 0, snap := none }

/-- Tag states of R171. -/
inductive TagSt where
  | free | opened | retryWait | quarantine
  deriving DecidableEq, Repr

/-- STATE code of NI_TAG_INFO. -/
def TagSt.code : TagSt → Nat
  | .free => 0 | .opened => 1 | .retryWait => 2 | .quarantine => 3

/-- A tag of an NI: its state, the request as sent, its destination, the local time of its first send, the resends made,
the responses received, and the transfer and piece it serves (R170 to R180). -/
structure Tag where
  st : TagSt
  req : Option Pkt
  dest : Nat
  seq : Nat
  /-- none until the request's head flit has been injected -/
  sentAt : Option Nat
  retryAt : Nat
  quarAt : Nat
  resends : Nat
  resp : Nat
  got : List Pkt
  xfer : Nat
  piece : Nat
  /-- identifier of the demand at its home slice -/
  ident : Nat
  data : List Body
  rx : Nat
  tx : Nat
  deriving DecidableEq, Repr

/-- A FREE tag. -/
def Tag.freed : Tag :=
  { st := .free, req := none, dest := 0, seq := 0, sentAt := none, retryAt := 0, quarAt := 0, resends := 0, resp := 0, got := [],
    xfer := 0, piece := 0, ident := 0, data := [], rx := 0, tx := 0 }

/-- What an interface presents to an NI's admission pipeline (R149, R168, R169): a transfer's lines from its first one on, each
with the bytes written or asked for, or a coherent request or message with its payload words. -/
structure Req where
  vn : Nat
  opcode : Nat
  agent : Nat
  priv : Bool
  origin : Bool
  /-- LINE of the first line; of a machine request, bits [31:6] of the offset (R168) -/
  line : Nat
  /-- write data, or the read mask of each line in `be`; for WRI and WBM the line to be written -/
  data : List Body
  /-- head payload of a coherent request or of a message -/
  pl : Line
  /-- the endpoint ID of a machine request (R168) -/
  machine : Option Nat
  /-- identifier by which the attached unit knows the request -/
  ident : Nat
  deriving DecidableEq, Repr

/-- A piece of a split transfer (R169): its place, first line, lines, and HDATA. -/
structure Piece where
  place : Nat
  line : Nat
  data : List Body
  hdata : Bool
  deriving DecidableEq, Repr

/-- A request that has passed steps 1 to 5 of R149 and waits for step 6, with its decoded destination and header fields. -/
structure Waiting where
  r : Req
  seq : Nat
  dest : Nat
  route : BitVec 24
  pri : Nat
  colour : Nat
  epoch : Nat
  flow : Option Nat
  todo : List Piece
  xfer : Nat
  deriving DecidableEq, Repr

/-- A request held at step 2 with the epoch and bank fixed for it (R436, R320). -/
structure Held where
  r : Req
  seq : Nat
  epoch : Nat
  deriving DecidableEq, Repr

/-- A transfer under way: its request, its pieces, and what the completed pieces brought: place, RESP, MSG and lines (R170, R175, R229). -/
structure Xfer where
  r : Req
  epoch : Nat
  pieces : List Piece
  fence : Bool
  done : List (Nat × Nat × Nat × List Body)
  rx : Nat
  deriving DecidableEq, Repr

/-- What an NI presents at its interface or to its unit's requester side: the completion of a request, with the RESP and MSG it
carries, the lines it brings, the tag, destination and EPOCH of the request, and whether the NI made it itself (R170, R175, R180). -/
structure Completion where
  ident : Nat
  vn : Nat
  opcode : Nat
  agent : Nat
  line : Nat
  resp : Nat
  msg : Nat
  lines : List Body
  dest : Nat
  tag : Nat
  epoch : Nat
  priv : Bool
  origin : Bool
  synth : Bool
  /-- PRI of a completion that the NI makes itself: NI_PRI_MAP of the response's VN (R180) -/
  pri : Nat
  deriving DecidableEq, Repr

/-- A packet queued for injection: its destination, the local time at which it entered the queue (R279, R303), whether it is a
resend (R178), and the transmit lines it frees when injected (R186). -/
structure QPkt where
  p : Pkt
  dest : Nat
  tin : Nat
  resend : Bool
  tx : Nat
  deriving DecidableEq, Repr

/-- What the attached unit hands over under R151: an answer or an SNP demand, its destination, a PRI of its own where a rule
names one, and the identifier of the demand. -/
structure Answer where
  dest : Nat
  p : Pkt
  pri : Option Nat
  ident : Nat
  deriving DecidableEq, Repr

/-- A completion record of a CPA or CLA (R331): destination, EPOCH, AGENT, PRIV and ORIGIN of the request, whether it awaits WDATA
(else CACK), when it opened, and whether its packet has been handed over. -/
structure CompRec where
  dest : Nat
  epoch : Nat
  agent : Nat
  priv : Bool
  origin : Bool
  wdata : Bool
  since : Nat
  sent : Bool
  deriving DecidableEq, Repr

/-- A flow queue of R282 with its due packet and the end of the slot in which it became due (R283). -/
structure Flow where
  q : List QPkt
  due : Bool
  missed : Bool
  slotEnd : Nat
  /-- packets at the front left over from a changed entry, which go as P2 without a slot (R290) -/
  orphans : Nat
  deriving DecidableEq, Repr

/-- A shaper: credit in cu, busy time in ft, and the local time up to which the busy time is counted (R293). -/
structure Shaper where
  c : Int
  busy : Nat
  mark : Nat
  deriving DecidableEq, Repr

/-- A meter's settings, buckets and counts (R297 to R299); `rate` and `burst` are laid out as NI_METER_RATE and NI_METER_BURST,
`pRate` and `pBurst` are the pending values. -/
structure Meter where
  rate : W64
  burst : W64
  pRate : W64
  pBurst : W64
  tc : Nat
  tp : Nat
  last : Nat
  green : Nat
  yellow : Nat
  red : Nat
  dropped : Nat
  redEpoch : Nat
  deriving DecidableEq, Repr

/-- A meter with every value zero. -/
def Meter.zero : Meter :=
  { rate := 0, burst := 0, pRate := 0, pBurst := 0, tc := 0, tp := 0, last := 0, green := 0, yellow := 0, red := 0,
    dropped := 0, redEpoch := 0 }

/-- An open leaf record at its sampling NI (R538 to R542). -/
structure LeafRec where
  h : Hdr
  dest : Nat
  admitted : Nat
  expect : Nat
  stamps : List W64
  deliver : Option Nat
  /-- router stamps that have arrived, those beyond the 29 held included -/
  arrived : Nat
  deriving DecidableEq, Repr

/-- The sampling part of an NI: open records by LEAF_ID, identifiers in quarantine with the time at which they become free, plus one, stamps
queued to be sent, stamps that have arrived for its records, and the LFSR (R538, R539, R541). -/
structure Leaf where
  lfsr : BitVec 31
  recs : KMap (Option LeafRec)
  quar : KMap Nat
  stamps : List Pkt
  arrived : List Pkt
  overrunEpoch : Nat
  deriving DecidableEq, Repr

/-- The epoch part of an NI: active bank and EPOCH, draining, arming, holds (R319 to R325, R183). -/
structure NiEpoch where
  /-- epoch 0 is not active yet: boot routes and the boot decode are in use (R576, R578) -/
  boot : Bool
  bank : Nat
  epoch : Nat
  oldEpoch : Nat
  draining : Bool
  armed : Bool
  armEpoch : Nat
  armT : Nat
  /-- destinations whose new IOP and ION packets are held (R183) -/
  holds : List Nat
  loadCount : Nat
  loading : Option Nat
  reported : Bool
  /-- IOP packets of the active epoch sent and received, and the same for the epoch before it (R318) -/
  sent : Nat
  recv : Nat
  sentOld : Nat
  recvOld : Nat
  lastRecv : Nat
  lastUnkn : Nat
  /-- local time of the last drain report -/
  repAt : Nat
  staleEpoch : Nat
  deriving DecidableEq, Repr

/-- The Strainer part of an NI: its two shadow banks are in the table store; here GEN, staleness and the hold (R434 to R439). -/
structure NiStrain where
  hold : Bool
  acked : Bool
  stale : Bool
  reloading : Bool
  crcOk : Bool
  gen : Nat
  denyEpoch : Nat
  /-- requests held at step 2, oldest first -/
  held : List Held
  deriving DecidableEq, Repr

/-- A network interface (chapter 5). -/
structure Ni where
  tags : KMap Tag
  tagPtr : Nat
  highWater : Nat
  wait : List Waiting
  xfers : KMap (Option Xfer)
  nextXfer : Nat
  mgt : List QPkt
  p2 : List QPkt
  p1 : List QPkt
  p0 : List QPkt
  flows : KMap Flow
  /-- C3 and C4 messages held in the fault logic (R508) -/
  heldFaults : List FaultMsg
  /-- occurrences that no report has carried yet, of the kinds reported through the NI, by `occKey` (R506) -/
  occ : KMap Nat
  /-- packet in progress on the injection port per VN: the flits still to send and the queue they came from -/
  inj : KMap (List Flit × QPkt × Nat)
  rr : KMap Nat
  txFree : Nat
  rxFree : Nat
  rx : KMap (List Cell)
  rxSt : KMap LaneRx
  /-- packets handed to the attached unit and not yet served, oldest first; an answer to the NI's own demand comes
  with the demand's identifier, and every one with its local time of arrival -/
  inbox : List (Pkt × Nat × Nat)
  /-- answers and SNP demands that the attached unit has handed over (R151) -/
  answers : List Answer
  /-- completions presented to the attached unit or interface, oldest first -/
  comps : List Completion
  /-- packets presented at the external interface, oldest first -/
  out : List Pkt
  /-- requests of the fabric that the attached unit has not answered (R321 item 3): EPOCH of each -/
  unanswered : List (Nat × Nat × Nat)
  fenceHw : Bool
  /-- destinations for which NO_ROUTE has been reported since the last commit (R190) -/
  noRoute : List Nat
  bufCeEpoch : Nat
  tableCeEpoch : Nat
  demoted : BitVec 32
  overEpoch : KMap Nat
  missEpoch : KMap Nat
  shapers : KMap Shaper
  /-- committed values of the shaper group that wait for the refill boundary: four NI_SHAPER_CFG, then REFILL_LOG2 (R13, R295) -/
  shaperCommit : Option (List W64)
  /-- the image's shaper defaults that wait for the refill boundary, laid out the same way (R295) -/
  shaperDefaults : Option (List W64)
  /-- the last slot boundary and the last refill boundary that the NI has acted on, in ft of local time (R67) -/
  slotAt : Nat
  refillAt : Nat
  meters : KMap Meter
  leaf : Leaf
  ep : NiEpoch
  strain : NiStrain
  hist : KMap Hist
  /-- outstanding fence rounds: line-less FNC requests that wait for earlier REQ (R229) -/
  fences : List Held
  /-- the 16-bit fence mask of R229 -/
  fenceMask : BitVec 16
  /-- presentation number of the next request -/
  seq : Nat
  /-- completion records of a CPA or CLA by tag (R331) -/
  recs : KMap (Option CompRec)
  agentEpoch : Nat
  snap : Option (Nat × Nat)
  wakeHeld : List Req
  deriving DecidableEq, Repr

/-- The shaper state at reset. -/
def Shaper.zero : Shaper := { c := 0, busy := 0, mark := 0 }
/-- An empty flow queue. -/
def Flow.zero : Flow := { q := [], due := false, missed := false, slotEnd := 0, orphans := 0 }

/-- NI n as reset leaves it; the LFSR seed of R538 is the one value that depends on n. -/
def Ni.reset (n : Nat) : Ni :=
  { tags := [], tagPtr := 0, highWater := 0, wait := [], xfers := [], nextXfer := 1, mgt := [], p2 := [], p1 := [], p0 := [],
    flows := [], heldFaults := [], occ := [], inj := [], rr := [], txFree := 1024, rxFree := 1024, rx := [], rxSt := [], inbox := [],
    answers := [], comps := [], out := [], unanswered := [], fenceHw := false, noRoute := [], bufCeEpoch := 0, tableCeEpoch := 0,
    demoted := 0, overEpoch := [], missEpoch := [], shapers := [], shaperCommit := none,
    shaperDefaults := none, slotAt := 0, refillAt := 0, meters := [],
    leaf := { lfsr := BitVec.ofNat 31 (0x12345601 + n), recs := [], quar := [], stamps := [], arrived := [], overrunEpoch := 0 },
    ep := { boot := true, bank := 0, epoch := 0, oldEpoch := 0, draining := false, armed := false, armEpoch := 0, armT := 0, holds := [],
            loadCount := 0, loading := none, reported := false, sent := 0, recv := 0, sentOld := 0, recvOld := 0, lastRecv := 0, lastUnkn := 0, repAt := 0, staleEpoch := 0 },
    strain := { hold := false, acked := false, stale := false, reloading := false, crcOk := false, gen := 0, denyEpoch := 0, held := [] },
    hist := [], fences := [], fenceMask := 0, seq := 1, recs := [], agentEpoch := 0, snap := none, wakeHeld := [] }

/-- A reference as reset leaves it. -/
def Ref.reset : Ref :=
  { epoch := none, errRun := 0, lost := false, out := false, drift := 0, good := 0, errNow := false, okNow := false, standby := false }

/-- The keeper as cold reset leaves it (FT_STATUS resets to confidence UNSET). -/
def Keeper.reset : Keeper :=
  { now := 0, running := false, armed := false, conf := .unset, selB := false, refA := Ref.reset, refB := Ref.reset,
    switchTo := none, slew := 0, frac := 0, goodEpochs := 0, meanDrift := 0, meanBad := false, boundary := 0, syncWord := 0 }

/-- An island as cold reset leaves it: 1,200 MHz, unaligned, confidence UNSET (R47, R60). -/
def Island.reset : Island :=
  { base := 0, since := 0, corr := 0, drift := 0, tru := 0, held := false, aligned := false, takeNext := true, conf := .unset, fabConf := .unset,
    missedRun := 0, goodRun := 0, lastMark := 0, curMhz := 1200, runMhz := 0, floorMhz := 0, moving := false, fallWait := false }

/-- Domain states of R487. -/
inductive DomSt where
  | on | cg | ret | off
  deriving DecidableEq, Repr

/-- STATE code of KT_DOM_d. -/
def DomSt.code : DomSt → Nat
  | .on => 0 | .cg => 1 | .ret => 2 | .off => 3

/-- The domain state that a code names. -/
def DomSt.ofCode (c : Nat) : DomSt := if c = 0 then .on else if c = 1 then .cg else if c = 2 then .ret else .off

/-- PHASE of KT_DOM_d: the steps of R493 and R495. -/
inductive Phase where
  | steady | stop | drain | fence | enter | wake | reload
  deriving DecidableEq, Repr

/-- PHASE code of KT_DOM_d. -/
def Phase.code : Phase → Nat
  | .steady => 0 | .stop => 1 | .drain => 2 | .fence => 3 | .enter => 4 | .wake => 5 | .reload => 6

/-- A power domain (R487 to R500). REST, IDLE_LOG2 and REFUSED are held in KT_DOM_d. -/
structure Domain where
  st : DomSt
  target : DomSt
  phase : Phase
  pendOn : Bool
  failed : Bool
  busy : Bool
  /-- the raise in progress ends at CG, for a GT name (R492) or a load (R315, R434) -/
  toCg : Bool
  /-- powered, and awaiting the Pot's reload (R495) -/
  powered : Bool
  /-- raises already tried without a command after a failure (R500, R518) -/
  tries : Nat
  /-- the domain's neighbours have been asked to close and have reported (R141, R493) -/
  closes : List Nat
  /-- cause of the transition in progress as POWER records code it, whether a held PENDING_ON started it, and the times at which
  it and its present step started (R499, R533) -/
  cause : Nat
  wasPend : Bool
  since : Nat
  stepAt : Nat
  /-- the units have taken their retention image and do not count until the domain is ON again (R548, R562) -/
  imaged : Bool
  /-- local time of the retention image (PM_SNAP_AT) -/
  imgAt : Nat
  deriving DecidableEq, Repr

/-- A domain as cold and warm reset leave it: ON, at rest (R488). -/
def Domain.reset : Domain :=
  { st := .on, target := .on, phase := .steady, pendOn := false, failed := false, busy := false, toCg := false,
    powered := false, tries := 0, closes := [], cause := 0, wasPend := false, since := 0, stepAt := 0, imaged := false, imgAt := 0 }

end Sys2Proof.Machine
end

