-- ==== Sys2Proof/Machine/LinkTypes.lean ====
section
/-! DEFINITION. The state of the link controllers: flow units, replay records, the reorder buffer and the retrain exchange (R364 to R391). -/
namespace Sys2Proof.Machine

/-- Link states of R367. -/
inductive LkSt where
  | down | init | inService | pre | paused | lost
  deriving DecidableEq, Repr

/-- STATE code of LK_STATUS. -/
def LkSt.code : LkSt → Nat
  | .down => 0 | .init => 1 | .inService => 2 | .pre => 3 | .paused => 4 | .lost => 5

/-- The INIT word and depth word of an INIT flow unit (R374). -/
structure InitWord where
  version : BitVec 8
  endId : BitVec 8
  nextSeq : BitVec 12
  rxAck : BitVec 12
  count : BitVec 2
  start : Bool
  rxok : Bool
  resume : Bool
  depth : BitVec 32
  deriving DecidableEq, Repr

/-- What a flow unit carries: new flits, a replay of a slot, or the INIT exchange (R369, R374). A slot without a flit is invalid. -/
inductive FluBody where
  | new (slots : List (Option Flit))
  | replay (eseq : BitVec 12) (slots : List (Option Flit))
  | init (w : InitWord)
  deriving DecidableEq, Repr

/-- A flow unit without its CRC (R369). `lreq` is 0 NONE, 1 REQUEST, 2 ACCEPT; `larg` 0 current width, 1 FULL, 2 HALF. -/
structure Flu where
  body : FluBody
  ack : BitVec 12
  nak : Option (BitVec 12)
  lreq : Fin 3
  larg : Fin 3
  credit : BitVec 32
  deriving DecidableEq, Repr

/-- A missing slot of the reorder window: its number, the NAKs sent for it, and when the last one went (R378, R379, R382). -/
structure Missing where
  seq : Nat
  naks : Nat
  at' : Nat
  deriving DecidableEq, Repr

/-- One end of a link. Times are local times in ft. -/
structure Lk where
  st : LkSt
  /-- the INIT follows a retrain -/
  resume : Bool
  /-- pl_state_sts reports Active; lp_state_req: 0 NOP, 1 Active, 2 Retrain; WIDTH_REQ; the width reported: 0 none, 1 FULL, 2 HALF -/
  adapter : Bool
  req : Nat
  widthReq : Nat
  width : Nat
  /-- the width that the retrain under way asks for, by this end or by its peer: 0 none (R387) -/
  asked : Nat
  /-- the end has been LOST and its pair has not been reset since (R368) -/
  wasLost : Bool
  txNext : Nat
  recs : List (Nat × List (Option Flit))
  owed : List Nat
  rxNext : Nat
  rxAck : Nat
  missing : List Missing
  held : List (Nat × List (Option Flit))
  naks : List Nat
  /-- LREQ and LARG sent; the end's own request is open; the end owes ACCEPT with this LARG; LARG of its own request -/
  lreq : Nat
  larg : Nat
  reqOpen : Bool
  accept : Option Nat
  wantArg : Option Nat
  /-- an ACK, a credit count or LREQ has changed since the last flow unit -/
  dirty : Bool
  lastSent : Nat
  lastAcc : Nat
  since : Nat
  reqSince : Nat
  limitSince : Option Nat
  consec : Nat
  window : Nat
  crcReported : Bool
  /-- cumulative counts of R380: those sent, and those last taken from the peer -/
  credOut : BitVec 32
  credIn : BitVec 32
  okInit : Nat
  peerOk : Bool
  peerId : Nat
  peerAck : Nat
  peerNext : Nat
  /-- INIT flow units of the own countdown still to send, and of the peer's still to come -/
  txCount : Option Nat
  txDone : Bool
  rxCount : Option Nat
  /-- packets delivered in part, by lane: head and next SEQ; lanes toward the link whose packet is discarded -/
  opens : KMap (Option (Hdr × Nat))
  txDrop : KMap Bool
  /-- packets on their way toward the link: by lane, the head and next SEQ that the mesh-side check keeps (R146); by VN, toward a chiplet, the
  lane whose packet has not sent its LAST flit (R88) -/
  txHead : KMap (Option (Hdr × Nat))
  txProg : KMap (Option Bool)
  /-- flow units sent and not yet received, each with its number; of a chiplet link, all it has sent -/
  fdi : List (Nat × Flu)
  deriving DecidableEq, Repr

/-- A link end as reset leaves it (LK_STATUS: DOWN, RX_ACK 0xFFF). -/
def Lk.reset : Lk :=
  { st := .down, resume := false, adapter := false, req := 0, widthReq := 0, width := 0, asked := 0, wasLost := false, txNext := 0, recs := [],
    owed := [], rxNext := 0, rxAck := 4095, missing := [], held := [], naks := [], lreq := 0, larg := 0, reqOpen := false,
    accept := none, wantArg := none, dirty := false, lastSent := 0, lastAcc := 0, since := 0, reqSince := 0, limitSince := none,
    consec := 0, window := 0, crcReported := false, credOut := 0, credIn := 0, okInit := 0, peerOk := false, peerId := 0,
    peerAck := 4095, peerNext := 0, txCount := none, txDone := false, rxCount := none, opens := [], txDrop := [], txHead := [], txProg := [], fdi := [] }

/-- The words of an end that first bring-up clears (R374, R381). -/
def Lk.fresh (l : Lk) : Lk := { Lk.reset with adapter := l.adapter, req := l.req, widthReq := l.widthReq, width := l.width, window := l.window }

end Sys2Proof.Machine
end

