-- ==== Sys2Proof/Machine/PortTypes.lean ====
section
/-! DEFINITION. The state of the boundary ports: what the party outside has open, the demands carried outward, and what the port
has presented (R328 to R362). -/
namespace Sys2Proof.Machine

/-- What the party outside asked for with an open request: a CXL.mem request by its native code (R334), a host snoop by its
SNPTYPE (R344), a TLP (R345, R353), a port engine's request (R356), a chiplet's link tag (R359). -/
inductive ExtKind where
  | mem (k : Nat)
  | snoop (op : Nat)
  | ioRead
  | ioWrite
  | engine
  | chiplet
  deriving DecidableEq, Repr

/-- An open request of the party outside: the identifier the NI knows it by, its M2S Tag, UQID, TLP tag or link tag, its line,
the data a CPA keeps for a write (R337), and the NI tag whose WDATA or CACK is awaited (R331). -/
structure ExtReq where
  ident : Nat
  kind : ExtKind
  tag : Nat
  line : Nat
  data : List Body
  wtag : Option Nat
  deriving DecidableEq, Repr

/-- A demand or request of the fabric carried to the party outside: its packet, the WBM the host has sent for the line since
(R339), the SRSP held for it, what a proxy demand has brought so far (R342), and which of its answer to the home and the data it forwards a
chiplet's snoop has brought (R214). -/
structure Demand where
  id : Nat
  p : Pkt
  wbm : Option Nat
  held : Option Pkt
  go : Option Nat
  data : Option Body
  pulled : Bool
  rsp : Bool
  fwd : Bool
  deriving DecidableEq, Repr

/-- NDR completions of R333. -/
inductive NdrOp where
  | cmp | cmpS | cmpE | biConflictAck
  deriving DecidableEq, Repr

/-- Back-invalidate snoops of R335. -/
inductive BiOp where
  | cur | data | inv
  deriving DecidableEq, Repr

/-- D2H requests of R342. -/
inductive D2hOp where
  | rdShared | rdOwn | rdOwnNoData | rdCurr | cleanEvictNoData | dirtyEvict | wrCur
  deriving DecidableEq, Repr

/-- D2H responses of R344. -/
inductive D2hRsp where
  | iHitI | iHitSE | sHitSE | vHitV | iFwdM | sFwdM | vFwdV
  deriving DecidableEq, Repr

/-- CXL.io completion status of R346; `timeout` is the controller's own completion timeout. -/
inductive IoStatus where
  | sc | ur | ca | ep | timeout
  deriving DecidableEq, Repr

/-- What the Pot programs into an HDM decoder of a device: base and size of its window, interleave ways and granularity (R351). -/
structure HdmDecoder where
  base : Nat
  size : Nat
  ways : Nat
  gran : Nat
  deriving DecidableEq, Repr

/-- What a CPA, MPA or PEA presents at its interface (R336 to R356). -/
inductive PortMsg where
  | ndr (op : NdrOp) (tag : Nat)
  | drs (nxm poison : Bool) (tag : Nat) (data : Line)
  | biSnp (op : BiOp) (bitag line : Nat)
  | d2hReq (op : D2hOp) (cqid line : Nat)
  | d2hRsp (op : D2hRsp) (uqid : Nat)
  | d2hData (id : Nat) (poison : Bool) (data : Line)
  | ioMRd (id addr dwords : Nat)
  | ioMWr (addr : Nat) (bytes : List Nat) (ep : Bool)
  | ioCpl (tag : Nat) (st : IoStatus) (lines : List Body)
  | cfgRd0 (id dev fn reg : Nat)
  | cfgWr0 (dev fn reg be data : Nat)
  | memRd (tag line : Nat)
  | memWr (partialWrite : Bool) (tag line : Nat) (b : Body)
  | biRspI (bitag : Nat)
  | hdm (l : List HdmDecoder)
  | machine (p : Pkt)
  | engine (c : Completion)
  deriving DecidableEq, Repr

/-- A boundary port: its up indication, open requests, demands outstanding outside, messages presented, oldest first, and
requests of the fabric awaiting the party outside. -/
structure Port where
  up : Bool
  next : Nat
  opens : List ExtReq
  demands : List Demand
  out : List PortMsg
  unsupEpoch : Nat
  deriving DecidableEq, Repr

/-- A port as reset leaves it: the indication is low. -/
def Port.reset : Port := { up := false, next := 1, opens := [], demands := [], out := [], unsupEpoch := 0 }

end Sys2Proof.Machine
end

