-- ==== Sys2Proof/Machine/SbTypes.lean ====
section
/-! DEFINITION. The state of the Service Bridge: its issue order, its E5LB transactions, side-band lines and telemetry (R395 to R424). -/
namespace Sys2Proof.Machine

/-- Answers of an E5LB target (R395). -/
inductive E5Resp where
  | ok | err | retry
  deriving DecidableEq, Repr

/-- What the bridge drives on the E5LB: write bursts, read bursts, UNLOCK, and its answers to other masters (R395, R402, R404, R411). -/
inductive E5Msg where
  | write (addr : Nat) (beats : List (BitVec 4 × BitVec 32)) (unlock : Bool)
  | read (addr : Nat) (strobes : List (BitVec 4)) (tag : Nat) (lock : Bool)
  | unlock
  | inbWrite (retry : Bool)
  | inbRead (mtag : Nat) (ok : Bool) (lines : List Body)
  deriving DecidableEq, Repr

/-- An entry of the issue order: a fabric request, or a sensor read of the poll (R398, R419). -/
inductive SbItem where
  | req (p : Pkt)
  | sensor (addr : Nat)
  deriving DecidableEq, Repr

/-- An E5LB transaction that awaits its answer: the packets it serves (none for a sensor read), its first byte's address, what was
driven, its read tag (none for a write), the local time of its last issue and that time in ns, the RETRY answers so far, and whether its answer is
overdue (R4, R406, R407). -/
structure E5Tx where
  pkts : List Pkt
  addr : Nat
  msg : E5Msg
  tag : Option Nat
  since : Nat
  sent : Nat
  retries : Nat
  stuck : Bool
  deriving DecidableEq, Repr

/-- The lock holder of R404: AGENT, address, size, the time of the RDL in ns, and whether its WRU has been issued. -/
structure SbLock where
  agent : Nat
  addr : Nat
  size : Nat
  since : Nat
  wru : Bool
  deriving DecidableEq, Repr

/-- A sensor read of a poll: its address, and once answered its data (none for ERR), with the local time of its issue (R419, R420). -/
structure SensorRead where
  addr : Nat
  time : Nat
  done : Bool
  data : Option (BitVec 32)
  deriving DecidableEq, Repr

/-- An event of a side-band line held in AON-A while domain 68 is below ON: events folded, kind as EVENT codes it, and the time (R415, R417). -/
structure HeldEvent where
  edges : Nat
  kind : Nat
  time : Nat
  deriving DecidableEq, Repr

/-- A side-band output: its held value, a pulse with its level and end, whether it drives PARK during a switch, and the local time of its last TICK, or of the
end of its switch (R421 to R423). -/
structure SbOut where
  held : Bool
  pulse : Option (Bool × Nat)
  sw : Bool
  tickAt : Nat
  deriving DecidableEq, Repr

/-- An output as reset leaves it. -/
def SbOut.reset : SbOut := { held := false, pulse := none, sw := false, tickAt := 0 }

/-- The Service Bridge. -/
structure Bridge where
  order : List SbItem
  open' : List E5Tx
  bus : List E5Msg
  lock : Option SbLock
  poll : Option (List SensorRead)
  /-- telemetry group committed and not yet in force: offsets and values (R418) -/
  telem : Option (List (Nat × BitVec 64))
  lines : BitVec 32
  /-- lines whose level mode last reported assert (R416) -/
  told : BitVec 32
  /-- lines in their 4-cycle switch (R416) -/
  inSw : BitVec 32
  held : KMap (Option HeldEvent)
  outs : KMap SbOut
  /-- the levels that the output latches hold while domain 68 is in OFF (R421) -/
  outLatch : Option (BitVec 16)
  /-- time epochs of the last SB_FAR_READ, SB_UNSERVED, SB_IN_LOST and SB_TELEM_SKIP reports, plus one -/
  farEpoch : Nat
  unservedEpoch : Nat
  lostEpoch : Nat
  skipEpoch : Nat
  /-- local times of the last poll time, and of the last wake of domain 68 or rise of FABRIC_READY: boundaries up to it have been passed over (R419, R421) -/
  pollAt : Nat
  awakeAt : Nat
  deriving DecidableEq, Repr

/-- The bridge as reset leaves it. -/
def Bridge.reset : Bridge :=
  { order := [], open' := [], bus := [], lock := none, poll := none, telem := none, lines := 0, told := 0, inSw := 0, held := [],
    outs := [], outLatch := none, farEpoch := 0, unservedEpoch := 0, lostEpoch := 0, skipEpoch := 0, pollAt := 0, awakeAt := 0 }

end Sys2Proof.Machine
end

