-- ==== Sys2Proof/Machine/CmdTypes.lean ====
section
/-! DEFINITION. Operand types of the commands: what the outside of the block supplies with an event. -/
namespace Sys2Proof.Machine

/-- A rising edge on a time reference: how long the high phase that follows lasts, in tenths of a ns, and how many reference cycles after the
last mark it comes (R53, R56). -/
structure RefEdge where
  high : Nat
  cycles : Nat
  deriving DecidableEq, Repr

/-- What the lane check of R130 finds on an arriving flit: corrected errors of lanes 0 to 9 and, at bit 10 of `ce`, of the flit
mark; uncorrectable lanes; and whether the corrected word 0 of a body flit names another VN than its lane (R134). -/
structure LaneErrs where
  ce : BitVec 11
  ue : BitVec 10
  vnBad : Bool
  deriving DecidableEq, Repr

/-- No lane error. -/
def LaneErrs.clean : LaneErrs := { ce := 0, ue := 0, vnBad := false }

/-- What the check of a payload buffer finds when a packet's bytes are read (R187): how many bytes were corrected, for each uncorrectable byte the
place of its line in the packet, and the buffer line last found bad. -/
structure BufErr where
  ce : Nat
  ue : List Nat
  line : Nat
  deriving DecidableEq, Repr

/-- No buffer error. -/
def BufErr.clean : BufErr := { ce := 0, ue := [], line := 0 }

/-- What the checks find in the table words that a lookup reads (R439, R523, R524): a corrected word, an uncorrectable one by
section, part and word index, and the same of a Strainer shadow. -/
structure ReadErr where
  ce : Bool
  ue : Option (BitVec 4 × BitVec 3 × BitVec 20)
  shadowCe : Bool
  shadowUe : Bool
  deriving DecidableEq, Repr

/-- No table error. -/
def ReadErr.clean : ReadErr := { ce := false, ue := none, shadowCe := false, shadowUe := false }

/-- What the check of a directory word finds (R237, R254 to R263): the store as HS_DIR_ERR.LAST_STORE codes it, the set, vector or
spare, the way, and whether the word is uncorrectable, in both copies where it has two; otherwise it was corrected. -/
structure DirErr where
  store : Fin 7
  index : Fin 16384
  way : Fin 16
  ue : Bool
  both : Bool
  deriving DecidableEq, Repr

/-- What the check of a staging line finds (R248): corrected bytes of a line, or the transaction whose line has an uncorrectable byte. -/
structure StgErr where
  ce : Bool
  ue : Option (Fin 256)
  line : Fin 512
  deriving DecidableEq, Repr

/-- A receiving port of a link: an input of a router tile, or an NI's receive side (R111, R112). -/
inductive LinkPort where
  | tile (t : Fin 192) (p : Fin 6)
  | ni (n : Fin 256)
  deriving DecidableEq, Repr

/-- A unit that samples its queues (R303). -/
inductive SampleUnit where
  | router (t : Fin 192)
  | ni (n : Fin 256)
  deriving DecidableEq, Repr

/-- A unit with event counters (R546, R559). -/
inductive CopyUnit where
  | router (t : Fin 192)
  | ni (n : Fin 256)
  | slice (h : Fin 16)
  deriving DecidableEq, Repr

/-- MetaValue of a host MemRd or MemInv: S, A, or I and the MetaField No-Op (R334). -/
inductive MemMeta where
  | s | a | i
  deriving DecidableEq, Repr

/-- H2D responses of R333: GO with a state, where 0 to 3 are I, S, E and M and 4 is Error; GO_WritePull; WritePull. -/
inductive GoKind where
  | go (g : Fin 5)
  | goWritePull
  | writePull
  deriving DecidableEq, Repr

/-- Native state of a BIRsp: 0 I, 1 S, 2 E (R339). -/
abbrev BiState := Fin 3

/-- What the check of the Caddy's words finds as a record is read: slot, word, and whether the word is uncorrectable (R537). -/
abbrev CdErrs := List (Fin 8192 × Fin 4 × Bool)

/-- A step of LOAD_BLEND: the 34 words of header and directory as host memory holds them, with the words between the sections and the words of the RTGATE
section, the next words of the sections, the verdict on the
signature, the seal of an NI, a second load of an NI that has reported BANK_LOAD_ERR, and the end (R307 to R314). -/
inductive LoadStep where
  | header (ws gaps gates : List W64)
  | words (ws : List W64)
  | verdict (ok : Bool)
  | bankSeal (n : Fin 256)
  | reload (n : Fin 256)
  | finish
  deriving DecidableEq, Repr

/-- A repair report of a home slice: slice, KIND of the ledger record it asks for less one (SPARE, SPARE_DEAD, WAY_RETIRE, BROADCAST), set, way and spare
(R256 to R259, R266). -/
structure Repair where
  slice : Fin 16
  kind : Fin 4
  set : BitVec 14
  way : BitVec 4
  spare : BitVec 6
  deriving DecidableEq, Repr

/-- A protection table as the boot ROM reads it: its words, and the verdict on its signature (R444, R445). -/
structure ProtTable where
  words : List W64
  sig : Bool
  deriving DecidableEq, Repr

/-- What the boot ROM finds as it verifies firmware: the copy held in SRAM is good; else it loads copy A or B from flash, or neither verifies (R574). -/
inductive FwFound where
  | sram | copyA | copyB | bad
  deriving DecidableEq, Repr

/-- What start-up reads and measures (R29, R573 to R577): the fuse pins, the 48 measured tree delays in units of 1/16 ft, the eight words of the boot
directory, what the ROM finds of the firmware, the 152 words of the platform block and the verdict on its signature, the number that EPOCH_ADDR holds,
the reference whose mark starts fabric time, if one does within 4 time epochs, the boot image's words and the verdict on its signature, the boot protection
table, whether the ledger can be read, and with no valid copy formatted, the words of the ledger's two copies as the flash holds them, the length of the commit's window in ns, and the µs that the sequence takes. -/
structure BootIn where
  testMode : Bool
  debugEn : Bool
  delays : List (BitVec 16)
  dir : List W64
  fw : FwFound
  plat : List W64
  platSig : Bool
  epochNum : BitVec 44
  startRef : Option Bool
  image : List W64
  imageSig : Bool
  prot : ProtTable
  ledgerOk : Bool
  copy0 : List W64
  copy1 : List W64
  windowNs : Nat
  us : Nat
  deriving DecidableEq, Repr

end Sys2Proof.Machine
end

