-- ==== Sys2Proof/Machine/Geom.lean ====
section
/-! DEFINITION. The fixed geometry of the instance: tiles, ports, islands, bands, network interfaces and power domains (R16 to R24). -/
namespace Sys2Proof.Machine

/-- A die half of the macro (R16). -/
inductive Die where
  | a | b
  deriving DecidableEq, Repr

/-- The NI types of R20. -/
inductive NiType where
  | cpa | mpa | cla | eng | pea | hsl | svc | sbr
  deriving DecidableEq, Repr

/-- Column of tile t (R16). -/
def tileX (t : Nat) : Nat := t % 12
/-- Row of tile t (R16). -/
def tileY (t : Nat) : Nat := t / 12
/-- Tile index of coordinates (x, y) (R16). -/
def tileAt (x y : Nat) : Nat := 12 * y + x
/-- Island of tile t (R19). -/
def tileIsland (t : Nat) : Nat := 6 * (tileY t / 2) + tileX t / 2
/-- Band of tile t (R19). -/
def tileBand (t : Nat) : Nat := tileY t / 4
/-- True for a tile of die B: rows 8 to 15 (R16). -/
def tileOnB (t : Nat) : Bool := decide (8 ≤ tileY t)
/-- Band of island i (R19). -/
def islandBand (i : Nat) : Nat := i / 12
/-- True for an island of die B (R19). -/
def islandOnB (i : Nat) : Bool := decide (24 ≤ i)
/-- The tile of an island with the lowest tile index (R19). -/
def islandTile (i : Nat) : Nat := tileAt (2 * (i % 6)) (2 * (i / 6))
/-- The four tiles of an island (R19). -/
def islandTiles (i : Nat) : List Nat :=
  let t := islandTile i
  [t, t + 1, t + 12, t + 13]
/-- True where the tile carries an L1 NI: columns 2, 3, 8 and 9 (R20). -/
def hasL1 (t : Nat) : Bool := tileX t == 2 || tileX t == 3 || tileX t == 8 || tileX t == 9
/-- j of R20 for an L1 column. -/
def l1Index (x : Nat) : Nat := if x = 2 then 0 else if x = 3 then 1 else if x = 8 then 2 else 3
/-- The L1 NI of a tile (R20). -/
def tileL1 (t : Nat) : Nat := 168 + 4 * tileY t + l1Index (tileX t)
/-- The home-slice column of row y: 5 in even rows, 6 in odd rows (R20, R21). -/
def homeCol (y : Nat) : Nat := 5 + y % 2
/-- The place of column x among the inner columns 1 to 10 that carry engines in row y (R21). -/
def engOffset (x y : Nat) : Nat :=
  let skipped := (if homeCol y < x then 1 else 0) +
    (if y < 4 then (if 4 < x then 1 else 0) + (if 7 < x then 1 else 0) else 0)
  x - 1 - skipped
/-- First ENG NI of row y (R21). -/
def engFirst (y : Nat) : Nat := if y < 4 then 32 + 7 * y else 60 + 9 * (y - 4)
/-- The L0 NI of a tile (R20, R21). -/
def tileL0 (t : Nat) : Nat :=
  let x := tileX t
  let y := tileY t
  if x = 0 then y
  else if x = 11 then 16 + y
  else if x = homeCol y then 232 + y
  else if y < 4 ∧ x = 4 then 248 + y
  else if y < 4 ∧ x = 7 then 252 + y
  else engFirst y + engOffset x y
/-- The inner columns that carry engines in row y, in ascending order (R21). -/
def engCols (y : Nat) : List Nat :=
  ((List.range 11).drop 1).filter (fun x => x != homeCol y && !(decide (y < 4) && (x == 4 || x == 7)))
/-- The tile of NI n (R20, R21). -/
def niTile (n : Nat) : Nat :=
  if n < 16 then tileAt 0 n
  else if n < 32 then tileAt 11 (n - 16)
  else if n < 60 then tileAt ((engCols ((n - 32) / 7)).getD ((n - 32) % 7) 0) ((n - 32) / 7)
  else if n < 168 then tileAt ((engCols (4 + (n - 60) / 9)).getD ((n - 60) % 9) 0) (4 + (n - 60) / 9)
  else if n < 232 then
    let j := (n - 168) % 4
    tileAt (if j = 0 then 2 else if j = 1 then 3 else if j = 2 then 8 else 9) ((n - 168) / 4)
  else if n < 248 then tileAt (5 + (n - 232) % 2) (n - 232)
  else if n < 252 then tileAt 4 (n - 248)
  else tileAt 7 (n - 252)
/-- The router port of NI n: 4 for L0, 5 for L1 (R20). -/
def niPort (n : Nat) : Nat := if 168 ≤ n ∧ n < 232 then 5 else 4
/-- The type of NI n (R20). -/
def niType (n : Nat) : NiType :=
  if n < 8 then .cpa else if n < 16 then .mpa else if n < 32 then .cla else if n < 168 then .eng
  else if n < 232 then .pea else if n < 248 then .hsl else if n < 254 then .svc else .sbr
/-- The island of NI n. -/
def niIsland (n : Nat) : Nat := tileIsland (niTile n)
/-- The band of NI n. -/
def niBand (n : Nat) : Nat := tileBand (niTile n)
/-- True for an NI of die B. -/
def niOnB (n : Nat) : Bool := tileOnB (niTile n)
/-- NIs with meters: CPA, MPA, CLA and PEA (chapter 5). -/
def niHasMeter (n : Nat) : Bool :=
  match niType n with
  | .cpa | .mpa | .cla | .pea => true
  | _ => false
/-- NIs with the Destination Group Table: ENG NIs and NI 248 (chapter 5). -/
def niHasDgt (n : Nat) : Bool := decide (niType n = .eng) || n == 248
/-- The NIs of a tile, L0 first (R20). -/
def tileNis (t : Nat) : List Nat := if hasL1 t then [tileL0 t, tileL1 t] else [tileL0 t]
/-- The NI on port p of tile t, if the port is a local port that carries one. -/
def portNi (t p : Nat) : Option Nat :=
  if p = 4 then some (tileL0 t) else if p = 5 ∧ hasL1 t = true then some (tileL1 t) else none
/-- True when port p of tile t has no link: it faces off the mesh, or is L1 at a tile without an L1 NI (R17, R117). -/
def portEdge (t p : Nat) : Bool :=
  if p = 0 then decide (tileY t = 0)
  else if p = 1 then decide (tileX t = 11)
  else if p = 2 then decide (tileY t = 15)
  else if p = 3 then decide (tileX t = 0)
  else if p = 4 then false
  else if p = 5 then !hasL1 t
  else true
/-- The tile that mesh port p of tile t faces (R17). -/
def portPeer (t p : Nat) : Nat :=
  if p = 0 then t - 12 else if p = 1 then t + 1 else if p = 2 then t + 12 else t - 1
/-- The port by which the neighbour across mesh port p faces back (R17). -/
def portBack (p : Nat) : Nat := if p = 0 then 2 else if p = 1 then 3 else if p = 2 then 0 else 1
/-- The seam link of port p of tile t, if it is one: port S of row 7 and port N of row 8 (R18). -/
def portSeam (t p : Nat) : Option Nat :=
  if tileY t = 7 ∧ p = 2 then some (tileX t)
  else if tileY t = 8 ∧ p = 0 then some (tileX t)
  else none
/-- Die half of a seam port: 0 die A, 1 die B (R18). -/
def seamEnd (t : Nat) : Nat := if tileOnB t then 1 else 0
/-- The NI of home slice h (R20). -/
def sliceNi (h : Nat) : Nat := 232 + h
/-- True for a home slice of die B (R20). -/
def sliceOnB (h : Nat) : Bool := decide (8 ≤ h)
/-- The island of home slice h (R46). -/
def sliceIsland (h : Nat) : Nat := niIsland (sliceNi h)
/-- True for a domain of die B; domain 71 spans both and counts as die A (R23, KT_DOM_d.DIE). -/
def domainOnB (d : Nat) : Bool :=
  if d < 48 then islandOnB d
  else if d < 64 then sliceOnB (d - 48)
  else d == 70
/-- The domain that holds the neighbour of port p of tile t: an island or a seam controller (R23, R140). -/
def portDomain (t p : Nat) : Nat :=
  match portSeam t p with
  | some _ => if tileOnB t then 70 else 69
  | none => if p < 4 then tileIsland (portPeer t p) else tileIsland t
/-- True when port p of tile t leaves its island on the same die, so that a stream crossing lies in its link (R79, R115). -/
def portCrosses (t p : Nat) : Bool :=
  decide (p < 4) && !portEdge t p && (portSeam t p).isNone && decide (tileIsland (portPeer t p) ≠ tileIsland t)
/-- RT_ID of tile t (chapter 4, Registers). -/
def rtId (t : Nat) : Nat :=
  t * 2 ^ 32 + tileX t * 2 ^ 28 + tileY t * 2 ^ 24 + tileIsland t * 2 ^ 16 + tileBand t * 2 ^ 14 +
  b2n (tileOnB t) * 2 ^ 13 + b2n (hasL1 t) * 2 ^ 12 +
  (if tileY t = 7 then 1 else if tileY t = 8 then 2 else 0) * 2 ^ 10 +
  (List.range 6).foldl (fun a p => a + b2n (portEdge t p) * 2 ^ p) 0
/-- Code of an NI type in NI_ID.TYPE: the order of R20's table. -/
def niTypeCode : NiType → Nat
  | .cpa => 0 | .mpa => 1 | .cla => 2 | .eng => 3 | .pea => 4 | .hsl => 5 | .svc => 6 | .sbr => 7

end Sys2Proof.Machine
end

