-- ==== Sys2Proof/Syntax.lean ====
section
/-! DEFINITION. The commands of the block: one constructor per row of the opcode table, with the operands the outside supplies. -/
namespace Sys2Proof
open Sys2Proof.Machine

/-- The commands, in the order of the table. -/
inductive Instr where
  /-- PORST_N_ASSERT (R30): Cold reset asserted: outputs are held, every domain is held in reset and transactions in flight are dropped. -/
  | porstNAssert
  /-- PORST_N_RELEASE (R577): Cold reset released: the start-up sequence runs from fuse sampling to the ledger replay. -/
  | porstNRelease (b : BootIn)
  /-- WARM_N_ASSERT (R30): Warm reset asserted while PORST_N is high: outputs are held and the switched domains are reset. -/
  | warmNAssert
  /-- WARM_N_RELEASE (R577): Warm reset released: the start-up sequence runs without calibration and verifies the SRAM firmware copy. -/
  | warmNRelease (b : BootIn)
  /-- VDD_AON_RISE (R37): The always-on rail rises: FATAL and SC_STATUS.C4 read 0 and every Caddy slot is set empty. -/
  | vddAonRise
  /-- BOOT_READY_WRITE (R32): Firmware writes GL_BOOT.READY, which raises FABRIC_READY. -/
  | bootReadyWrite
  /-- WS_BYPASS (R42): The wrapper instruction puts a one-bit bypass between WSI and WSO. -/
  | wsBypass (wsi : Die × Bool)
  /-- WS_EXTEST (R42): Boundary cells drive and capture the macro interfaces of the die. -/
  | wsExtest (captured : Die × List Bool)
  /-- WS_PRELOAD (R42): Boundary cells are loaded without being driven. -/
  | wsPreload (cells : Die × List Bool)
  /-- WS_INTEST_SCAN (R42): Internal scan chains are connected between WSI and WSO, under TEST_MODE only. -/
  | wsIntestScan (wsi : Die × List Bool)
  /-- MBIST_RUN (R42): Memory self-test runs on every memory of the die half, under TEST_MODE only. -/
  | mbistRun (die : Die) (pass : Bool)
  /-- CHAIN_SEL (R42): Selects the internal scan chain that WS_INTEST_SCAN reaches. -/
  | chainSel (die : Die) (chain : BitVec 8)
  /-- TREF_EPOCH_MARK (R56): An epoch mark arrives on a time reference and is checked against the expected cycle count. -/
  | trefEpochMark (refB : Bool) (edge : RefEdge) (phase : Int)
  /-- REF_LOST (R57): 25 ns pass without an edge on a reference, which becomes lost and may trigger a switch or holdover at once. -/
  | refLost (refB : Bool)
  /-- FT_START_WRITE (R58): A write of FT_CTRL.START arms the start of fabric time at the next epoch mark. -/
  | ftStartWrite
  /-- FT_SWITCH_REQ_WRITE (R72): A write of FT_CTRL.SWITCH_REQ requests a reference switch, or is refused and sets SWITCH_FAILED. -/
  | ftSwitchReqWrite
  /-- KEEPER_SYNC_MARK (R61): Keeper time reaches a multiple of 1,024 ft and a sync mark and sync word are emitted. -/
  | keeperSyncMark
  /-- ISLAND_SYNC_MARK (R63): An island takes a mark edge, computes its phase error and corrects its local time. -/
  | islandSyncMark (i : Fin 48) (drift : Int) (err : W64)
  /-- DRIFT_EVALUATION (R69): At each time-epoch boundary the drift monitor evaluates the references and sets fabric confidence. -/
  | driftEvaluation (rateA rateB rateMean holdA holdB : Int)
  /-- ISLAND_FREQ_STEP (R50): Every 16 ns during a move, an island steps its frequency by 25 MHz toward its new run frequency. -/
  | islandFreqStep (i : Fin 48)
  /-- EVENT_CROSSING_SEND (R78): An event arrives at the sending half of an event crossing and waits for delivery. -/
  | eventCrossingSend (i : Fin 48) (side : Fin 5)
  /-- ROUTER_HEAD_ARRIVE (R117): A head flit enters a router input lane: its lanes are checked and corrected, and its well-formedness is checked. -/
  | routerHeadArrive (t : Fin 192) (p : Fin 6) (errs : LaneErrs)
  /-- ROUTER_BODY_ARRIVE (R134): A body flit enters a router input lane and is checked against the lane's packet state. -/
  | routerBodyArrive (t : Fin 192) (p : Fin 6) (errs : LaneErrs)
  /-- OUTPUT_ARBITRATION (R127): In each cycle an output grants one candidate flit under the priority rules and forwards it. -/
  | outputArbitration (t : Fin 192) (p : Fin 6)
  /-- CREDIT_WORD_SEND (R112): A receiver returns the accumulated lane credits in one credit word per cycle. -/
  | creditWordSend (k : LinkPort)
  /-- CREDIT_WORD_RECEIVE (R111): A sender adds the credits it receives to its lane counts. -/
  | creditWordReceive (k : LinkPort)
  /-- NEIGHBOUR_STATE_CHANGE (R140): An output's neighbour state changes through the value crossing, and its fence opens or it begins discarding. -/
  | neighbourStateChange (t : Fin 192) (p : Fin 6) (seen : Nbr × Nbr)
  /-- FENCE_CLOSED_REPORT (R141): An output reports its fence closed once every VN is at a packet boundary and the crossing is empty. -/
  | fenceClosedReport (t : Fin 192) (p : Fin 6)
  /-- GATE_WINDOW_OPEN (R139): A GT or MGT window opens at an output. -/
  | gateWindowOpen (t : Fin 192) (p : Fin 6)
  /-- GATE_UNION_END (R290): At T + 256 ft, router outputs drop the old gate windows. -/
  | gateUnionEnd (t : Fin 192)
  /-- RT_FORCE_UNREACH_WRITE (R143): A write of RT_CTRL.FORCE_UNREACH forces ports to UNREACHABLE or releases them. -/
  | rtForceUnreachWrite (t : Fin 192) (mask : BitVec 6)
  /-- RT_HIST_SELECT (R304): A write of RT_HIST_SEL copies the selected queue's histogram bins. -/
  | rtHistSelect (t : Fin 192) (q : BitVec 6)
  /-- RT_HIST_CLEAR (R304): The selected router queue's bins are cleared after the copy. -/
  | rtHistClear (t : Fin 192) (q : BitVec 6)
  /-- RT_HIST_CLEAR_ALL (R304): Every histogram of the tile is cleared. -/
  | rtHistClearAll (t : Fin 192)
  /-- NI_HIST_SELECT (R304): A write of NI_HIST_SEL copies the selected queue's histogram bins. -/
  | niHistSelect (n : Fin 256) (q : BitVec 4)
  /-- NI_HIST_CLEAR (R304): The selected NI queue's bins are cleared after the copy. -/
  | niHistClear (n : Fin 256) (q : BitVec 4)
  /-- NI_HIST_CLEAR_ALL (R304): Every histogram of the NI is cleared. -/
  | niHistClearAll (n : Fin 256)
  /-- QUEUE_SAMPLE (R303): Every 1,024 island cycles a unit samples the depth and age of all its queues. -/
  | queueSample (u : SampleUnit)
  /-- NI_REQUEST_PRESENT (R149): An interface presents a request, which runs through the fence, Strainer, decode, route and meter steps. -/
  | niRequestPresent (n : Fin 256) (r : Req) (err : ReadErr)
  /-- NI_TAG_ALLOCATE (R172): A waiting request obtains its tag and buffer space, is split, has its header built and enters its injection queue. -/
  | niTagAllocate (n : Fin 256)
  /-- NI_FENCE_ADMIT (R229): An FNC is admitted once every earlier REQ has completed, and one FNC is sent per bit of the fence mask. -/
  | niFenceAdmit (n : Fin 256) (err : ReadErr)
  /-- INJECTION_ARBITRATION (R154): In each cycle the injection arbiter grants one flit from the NI's queues to the router port. -/
  | injectionArbitration (n : Fin 256) (err : BufErr)
  /-- NI_PACKET_RECEIVE (R153): A packet enters an NI's receive side, is checked and matched, and is handed to the unit or interface. -/
  | niPacketReceive (n : Fin 256) (vn : Fin 8) (errs : List LaneErrs) (err : BufErr)
  /-- NI_SEND_ANSWER (R151): A unit hands an answer or SNP demand to its NI, which routes it in the bank of its EPOCH. -/
  | niSendAnswer (n : Fin 256) (err : ReadErr)
  /-- INIT_TIMEOUT (R179): An initiator timeout fires: a synthesised ERR_TIMEOUT is presented and the tag is quarantined. -/
  | initTimeout (n : Fin 256) (tag : Fin 256)
  /-- RETRY_RESEND (R178): The backoff ends and the NI resends the request from its transmit buffer. -/
  | retryResend (n : Fin 256) (tag : Fin 256) (err : ReadErr)
  /-- QUARANTINE_END (R179): The quarantine interval ends and the tag becomes FREE. -/
  | quarantineEnd (n : Fin 256) (tag : Fin 256)
  /-- NI_LOSS_COMMIT (R163): NI_CTRL.LOSS_COMMIT commits the route selection group. -/
  | niLossCommit (n : Fin 256)
  /-- NI_TAG_COMMIT (R173): NI_CTRL.TAG_COMMIT commits the tag reservations, or is refused. -/
  | niTagCommit (n : Fin 256)
  /-- NI_FENCE_SW_WRITE (R188): A write of NI_CTRL.FENCE_SW sets or clears the software fence. -/
  | niFenceSwWrite (n : Fin 256) (on : Bool)
  /-- NI_TAG_STATUS_READ (R598): A read of NI_TAG_STATUS from NI 248 clears HIGH_WATER. -/
  | niTagStatusRead (n : Fin 256)
  /-- GT_SLOT_START (R283): A flow's injection slot starts and its head packet becomes due. -/
  | gtSlotStart (n : Fin 256)
  /-- GT_SLOT_END (R283): The slot ends; a due P3 packet not yet injected is counted as missed. -/
  | gtSlotEnd (n : Fin 256)
  /-- SHAPER_REFILL (R293): At a refill boundary a shaper's credit is raised and pending values become active. -/
  | shaperRefill (n : Fin 256)
  /-- SHAPER_COMMIT (R295): NI_QOS_CTRL.SHAPER_COMMIT commits the shaper group at the next boundary, or is refused. -/
  | shaperCommit (n : Fin 256)
  /-- METER_COMMIT (R299): NI_QOS_CTRL.METER_COMMIT commits the meter group, or is refused. -/
  | meterCommit (n : Fin 256)
  /-- LID_POT_CLOSE_WRITE (R300): A write of GL_LID_CTRL.POT_CLOSE closes or opens band Lids. -/
  | lidPotCloseWrite (mask : BitVec 4)
  /-- HOME_ARBITER_DECISION (R250): In the last beat of a transfer the home port arbiter grants the next transfer. -/
  | homeArbiterDecision (h : Fin 16) (errs : List DirErr) (stg : StgErr)
  /-- HOME_PREEMPT (R251): A RECALL or RESPONSE request pre-empts a multi-beat BULK or MAINT transfer. -/
  | homePreempt (h : Fin 16) (q : Fin 2)
  /-- QUOTA_WINDOW_START (R252): A new quota window starts, clearing the masks and applying committed settings. -/
  | quotaWindowStart (h : Fin 16)
  /-- HS_ARB_COMMIT (R253): HS_CTRL.ARB_COMMIT commits the arbiter group for the next window. -/
  | hsArbCommit (h : Fin 16)
  /-- RDS (R207): A read-shared request is served at its home by the state of the line. -/
  | rds (h : Fin 16)
  /-- RDO (R207): A read-for-ownership request is served at its home. -/
  | rdo (h : Fin 16)
  /-- UPG (R207): An upgrade request is served at its home. -/
  | upg (h : Fin 16)
  /-- RDC (R207): A read-current request is served at its home. -/
  | rdc (h : Fin 16)
  /-- WRI (R208): A masked write request is served at its home. -/
  | wri (h : Fin 16)
  /-- WBM (R208): A write-back request is served at its home. -/
  | wbm (h : Fin 16)
  /-- EVC (R208): A clean-eviction notice is served at its home. -/
  | evc (h : Fin 16)
  /-- FNC (R230): A home slice answers FNCCMP once earlier writes from the SRC are visible. -/
  | fnc (h : Fin 16)
  /-- HSNP (R219): A host snoop for a proxy line is served as a transaction. -/
  | hsnp (h : Fin 16)
  /-- HOME_WAITER_START (R204): When a line leaves busy, the next waiting request for it starts. -/
  | homeWaiterStart (h : Fin 16)
  /-- SRSP (R213): A snoop response without data arrives at the home. -/
  | srsp (h : Fin 16)
  /-- SDATA (R210): A snoop response with data arrives at the home. -/
  | sdata (h : Fin 16)
  /-- MDATA (R204): Memory-port read data arrives at the home. -/
  | mdata (h : Fin 16)
  /-- MCMP (R204): A memory-port write completion arrives at the home. -/
  | mcmp (h : Fin 16)
  /-- PXDATA (R218): Proxy data arrives at the home and sets the host grant. -/
  | pxdata (h : Fin 16)
  /-- PXCMP (R218): A proxy completion arrives at the home. -/
  | pxcmp (h : Fin 16)
  /-- WDATA (R228): Write data arrives at the home and is merged at the visibility point. -/
  | wdata (h : Fin 16)
  /-- CACK (R204): The requester's acknowledgement ends ACKW. -/
  | cack (h : Fin 16)
  /-- COH_ACK_TIMEOUT (R211): CACK is missing after the TO_COH limit; the home leaves ACKW. -/
  | cohAckTimeout (h : Fin 16) (num : Fin 256)
  /-- SCRUB_READ (R273): In an idle beat the scrubber reads a directory word and repairs it or acts on its error. -/
  | scrubRead (h : Fin 16) (err : Option DirErr)
  /-- SCRUB_LAP_START (R275): A new scrub lap starts after MIN_LAP. -/
  | scrubLapStart (h : Fin 16)
  /-- HS_DIAG_GO (R526): HS_DIAG_SEL.GO reads the selected store word into HS_DIAG_DATA. -/
  | hsDiagGo (h : Fin 16) (sel : W64)
  /-- HS_DIAG_DATA_WRITE (R526): A write of HS_DIAG_DATA stores a word with raw or generated check bits. -/
  | hsDiagDataWrite (h : Fin 16) (data : W64)
  /-- LEDGER_REPAIR_REPORT (R267): The Pot writes one ledger record for a repair report. -/
  | ledgerRepairReport (r : Option Repair)
  /-- LEDGER_RESCAN (R267): After a compaction, flagged slices are rescanned and their missing records written. -/
  | ledgerRescan
  /-- SNPS (R214): A caching port answers a shared snoop for the agents it names. -/
  | snps (n : Fin 256)
  /-- SNPI (R214): A caching port answers an invalidating snoop. -/
  | snpi (n : Fin 256)
  /-- SNPC (R214): A caching port answers a current-data snoop. -/
  | snpc (n : Fin 256)
  /-- MRD (R350): A memory-port read reaches an MPA or a CLA. -/
  | mrd (n : Fin 256)
  /-- MWR (R350): A memory-port write reaches an MPA or a CLA. -/
  | mwr (n : Fin 256)
  /-- PXRD (R342): A CPA carries a proxy read as RdShared. -/
  | pxrd (n : Fin 256)
  /-- PXRO (R342): A CPA carries a proxy ownership read as RdOwn or RdOwnNoData. -/
  | pxro (n : Fin 256)
  /-- PXRC (R342): A CPA carries a proxy current read as RdCurr. -/
  | pxrc (n : Fin 256)
  /-- PXEV (R342): A CPA carries a proxy eviction as CleanEvictNoData. -/
  | pxev (n : Fin 256)
  /-- PXWB (R342): A CPA carries a proxy write-back as DirtyEvict. -/
  | pxwb (n : Fin 256)
  /-- PXWC (R342): A CPA carries a proxy current write as WrCur. -/
  | pxwc (n : Fin 256)
  /-- MEMRD (R334): A host MemRd is translated to RDS, RDO or RDC. -/
  | memrd (n : Fin 8) (tag : BitVec 16) (line : BitVec 46) (mv : MemMeta) (err : ReadErr)
  /-- MEMRDDATA (R334): A host MemRdData is translated to RDS. -/
  | memrddata (n : Fin 8) (tag : BitVec 16) (line : BitVec 46) (err : ReadErr)
  /-- MEMINV (R334): A host MemInv or MemInvNT is translated to UPG, or is unsupported. -/
  | meminv (n : Fin 8) (tag : BitVec 16) (line : BitVec 46) (mv : MemMeta) (err : ReadErr)
  /-- MEMCLNEVCT (R334): A host MemClnEvct is translated to EVC. -/
  | memclnevct (n : Fin 8) (tag : BitVec 16) (line : BitVec 46) (err : ReadErr)
  /-- MEMWR (R337): A host MemWr is sent as WBM, with its data held in the transmit buffer. -/
  | memwr (n : Fin 8) (tag : BitVec 16) (line : BitVec 46) (poison : Bool) (data : Line) (err : ReadErr)
  /-- MEMWRPTL (R334): A host MemWrPtl is translated to WRI. -/
  | memwrptl (n : Fin 8) (tag : BitVec 16) (line : BitVec 46) (be : W64) (poison : Bool) (data : Line) (err : ReadErr)
  /-- BICONFLICT (R341): The CPA answers BIConflict with BIConflictAck. -/
  | biconflict (n : Fin 8) (tag : BitVec 16)
  /-- MEMSPECRD (R349): A host MemSpecRd is discarded and counted. -/
  | memspecrd (n : Fin 8)
  /-- BIRSP (R339): A host back-invalidate response becomes one SRSP. -/
  | birsp (n : Fin 8) (bitag : BitVec 12) (st : BiState)
  /-- H2D_GO (R342): A host GO or WritePull answers a proxy demand. -/
  | h2dGo (n : Fin 8) (cqid : BitVec 12) (kind : GoKind)
  /-- H2D_DATA (R342): Host data answers a proxy read. -/
  | h2dData (n : Fin 8) (cqid : BitVec 12) (poison : Bool) (data : Line)
  /-- SNPDATA (R344): A host SnpData is sent as HSNP with SNPTYPE SNPS, or answered at once. -/
  | snpdata (n : Fin 8) (uqid : BitVec 12) (line : BitVec 46) (err : ReadErr)
  /-- SNPINV (R344): A host SnpInv is sent as HSNP with SNPTYPE SNPI. -/
  | snpinv (n : Fin 8) (uqid : BitVec 12) (line : BitVec 46) (err : ReadErr)
  /-- SNPCUR (R344): A host SnpCur is sent as HSNP with SNPTYPE SNPC. -/
  | snpcur (n : Fin 8) (uqid : BitVec 12) (line : BitVec 46) (err : ReadErr)
  /-- CXL_IO_MRD (R345): A host MRd TLP is admitted as NRD. -/
  | cxlIoMrd (n : Fin 8) (tag : BitVec 10) (line : BitVec 46) (masks : List W64) (pasid : Option Bool) (err : ReadErr)
  /-- CXL_IO_MWR (R345): A host MWr TLP is admitted as PWR or NWR. -/
  | cxlIoMwr (n : Fin 8) (relaxed : Bool) (line : BitVec 46) (data : List Body) (pasid : Option Bool) (err : ReadErr)
  /-- CXL_IO_CPL (R346): A host Cpl or CplD completes the CPA's own MRd. -/
  | cxlIoCpl (n : Fin 16) (id : BitVec 17) (st : IoStatus) (data : List Line)
  /-- CXL_IO_UNSUPPORTED (R349): An unsupported CXL.io request or message is answered or discarded. -/
  | cxlIoUnsupported (n : Fin 8) (tag : BitVec 10) (message : Bool)
  /-- CPA_IO_REQUEST (R347): A CPA carries an NRD, PWR or NWR toward host memory. -/
  | cpaIoRequest (n : Fin 16) (posted : Bool)
  /-- MPA_ECAM_ACCESS (R352): An MPA converts an access in its ECAM window into a Type 0 configuration request. -/
  | mpaEcamAccess (n : Fin 16)
  /-- DEVICE_MEMDATA (R350): A memory device's MemData becomes MDATA. -/
  | deviceMemdata (n : Fin 16) (tag : BitVec 12) (nxm poison : Bool) (data : Line)
  /-- DEVICE_CMP (R350): A memory device's Cmp becomes MCMP. -/
  | deviceCmp (n : Fin 16) (tag : BitVec 16)
  /-- DEVICE_MWR (R353): A device MWr, MSI included, is carried as PWR. -/
  | deviceMwr (n : Fin 16) (line : BitVec 46) (data : List Body) (err : ReadErr)
  /-- DEVICE_MRD (R353): A device MRd is carried as NRD. -/
  | deviceMrd (n : Fin 16) (tag : BitVec 10) (line : BitVec 46) (masks : List W64) (err : ReadErr)
  /-- DEVICE_ERR_MSG (R353): A device error message is reported as MEM_DEV_ERR. -/
  | deviceErrMsg (n : Fin 16) (severity : Fin 3)
  /-- DEVICE_BISNP (R353): A device BISnp is answered with BIRspI at once. -/
  | deviceBisnp (n : Fin 16) (bitag : BitVec 12)
  /-- PORT_INDICATION_RISE (R330): An external interface's up indication rises. -/
  | portIndicationRise (n : Fin 256)
  /-- PORT_INDICATION_FALL (R330): An up indication falls and the NI answers fabric packets with ERR_FENCED. -/
  | portIndicationFall (n : Fin 256)
  /-- COMPLETION_RECORD_TIMEOUT (R332): A CLA completion record stays open for TO_COH and the CLA closes it itself. -/
  | completionRecordTimeout (n : Fin 256) (tag : Fin 256)
  /-- CLA_CHIPLET_PACKET (R358): A chiplet packet arrives at its CLA and is completed, checked and admitted. -/
  | claChipletPacket (n : Fin 256) (vn : Fin 8) (err : ReadErr)
  /-- NREQ (R360): A chiplet native coherent request is translated to its Leaf opcode. -/
  | nreq (n : Fin 256) (err : ReadErr)
  /-- PORT_ENGINE_STATUS (R355): A port engine answers a machine request, and the PEA builds the CPL or CPLD. -/
  | portEngineStatus (n : Fin 256) (src tag : Fin 256) (status : BitVec 4) (exfail : Bool) (data : List Body)
  /-- PORT_ENGINE_REQUEST (R356): A port engine presents a request into the node. -/
  | portEngineRequest (n : Fin 256) (r : Req) (err : ReadErr)
  /-- FLU_SEND (R377): A link end starts a flow unit with its flits, replays, ACK, NAK and credits. -/
  | fluSend (k : Fin 28) (e : Fin 2) (errs : List LaneErrs)
  /-- FLU_IDLE_TIMER (R377): 128 ns pass since the last FLU and one is started. -/
  | fluIdleTimer (k : Fin 28) (e : Fin 2)
  /-- FLU_NEW (R378): An accepted NEW FLU fills its slot and yields its ACK, NAK, CREDIT and LREQ. -/
  | fluNew (k : Fin 28) (e : Fin 2) (f : Option Flu)
  /-- FLU_REPLAY (R378): An accepted REPLAY FLU fills its missing slot. -/
  | fluReplay (k : Fin 28) (e : Fin 2) (f : Option Flu)
  /-- FLU_INIT (R374): An INIT FLU advances the initialisation exchange and countdown. -/
  | fluInit (k : Fin 28) (e : Fin 2) (f : Option Flu)
  /-- FLU_BAD (R371): A bad FLU is marked missing, counted and NAKed. -/
  | fluBad (k : Fin 28) (e : Fin 2) (lost : Nat) (again : Bool)
  /-- NAK_REPEAT (R379): The NAK for a still-missing slot is repeated. -/
  | nakRepeat (k : Fin 28) (e : Fin 2)
  /-- LINK_WINDOW_START (R382): A new error window starts and the window counts clear. -/
  | linkWindowStart (k : Fin 28) (e : Fin 2)
  /-- LINK_SILENCE_TIMEOUT (R382): 1,024 ns without an accepted FLU start a retrain. -/
  | linkSilenceTimeout (k : Fin 28) (e : Fin 2)
  /-- RECORD_LIMIT_TIMEOUT (R376): Replay records at the limit for 2,048 ns start a retrain. -/
  | recordLimitTimeout (k : Fin 28) (e : Fin 2)
  /-- PRE_END (R383): PRE ends and the end enters PAUSED and sends REQUEST. -/
  | preEnd (k : Fin 28) (e : Fin 2)
  /-- ACCEPT_TIMEOUT (R384): No ACCEPT arrives within 4,096 ns and the requester retrains anyway. -/
  | acceptTimeout (k : Fin 28) (e : Fin 2)
  /-- ADAPTER_ACTIVE (R387): pl_state_sts reports Active and the end enters INIT. -/
  | adapterActive (k : Fin 28) (e : Fin 2) (half : Bool)
  /-- ADAPTER_LEAVE_ACTIVE (R386): The adapter leaves Active without a request and the end enters PAUSED. -/
  | adapterLeaveActive (k : Fin 28) (e : Fin 2)
  /-- RETRAIN_LIMIT_EXPIRY (R388): The end is not in service within RETRAIN_LIMIT, and INIT restarts or the link goes LOST. -/
  | retrainLimitExpiry (k : Fin 28) (e : Fin 2)
  /-- LK_ENABLE_WRITE (R368): A write of LK_CTRL.ENABLE brings the end up from DOWN, or takes it to LOST and then DOWN. -/
  | lkEnableWrite (k : Fin 28) (e : Fin 2) (on : Bool)
  /-- LK_RETRAIN_WRITE (R382): A write of LK_CTRL.RETRAIN starts a retrain through PRE. -/
  | lkRetrainWrite (k : Fin 28) (e : Fin 2)
  /-- SB_WRITE_REQUEST (R399): A PWR or NWR reaches the bridge and enters its write buffer. -/
  | sbWriteRequest
  /-- SB_READ_REQUEST (R400): An NRD reaches the bridge and waits for a read tag and entry. -/
  | sbReadRequest
  /-- NRDX (R404): An exclusive read at the bridge takes the bus lock. -/
  | nrdx
  /-- NWRX (R404): An exclusive write at the bridge closes its sequence. -/
  | nwrx
  /-- SB_E5LB_ISSUE (R398): The bridge passes the target gates and issues the next transaction on the E5LB. -/
  | sbE5lbIssue
  /-- SB_E5_READ_RESPONSE (R400): E5LB read data returns and the bridge sends CPLD. -/
  | sbE5ReadResponse (tag : Fin 64) (resp : E5Resp) (data : List (BitVec 32))
  /-- SB_E5_WRITE_RESPONSE (R406): An E5LB write response returns; ERR becomes a fault and RETRY resends. -/
  | sbE5WriteResponse (k : Nat) (resp : E5Resp)
  /-- E5_TIMEOUT_EXPIRY (R406): No E5LB answer arrives within E5_TIMEOUT. -/
  | e5TimeoutExpiry
  /-- SB_LOCK_TIMEOUT (R405): The bus lock is held 2 µs and the bridge breaks it. -/
  | sbLockTimeout
  /-- SB_INBOUND_WRITE (R411): An inbound E5LB write burst enters the inbound buffer, or is answered RETRY. -/
  | sbInboundWrite (addr : BitVec 32) (beats : List (BitVec 4 × BitVec 32)) (err : ReadErr)
  /-- SB_INBOUND_READ (R410): An inbound E5LB read becomes one NRD transfer. -/
  | sbInboundRead (addr : BitVec 32) (strobes : List (BitVec 4)) (mtag : BitVec 16) (err : ReadErr)
  /-- SB_INBOUND_COMPLETION (R410): The completion of an inbound read is answered on the E5LB. -/
  | sbInboundCompletion
  /-- SBOUT (R422): A side-band output order sets held values or drives a pulse. -/
  | sbout
  /-- SB_PULSE_END (R422): An SBOUT pulse ends and the output returns to its held value. -/
  | sbPulseEnd (k : Fin 16)
  /-- SB_INPUT_EVENT (R412): A side-band input event produces an SBMSG, MSI or fault, or is folded. -/
  | sbInputEvent (j : Fin 32) (level : Bool)
  /-- SB_IN_COMMIT (R416): SB_CTRL.IN_COMMIT commits the input group and switches the affected lines. -/
  | sbInCommit
  /-- SB_IN_SWITCH_END (R416): After 4 bridge cycles a switched line's new function applies. -/
  | sbInSwitchEnd (j : Fin 32)
  /-- SB_TELEM_COMMIT (R418): SB_CTRL.TELEM_COMMIT commits the telemetry group at the next poll time. -/
  | sbTelemCommit
  /-- SB_TELEM_POLL (R419): At the poll time the bridge reads its sensors and sends TELEM messages. -/
  | sbTelemPoll
  /-- SB_OUT_COMMIT (R423): SB_CTRL.OUT_COMMIT commits the output group; switched outputs drive PARK for 4 cycles. -/
  | sbOutCommit
  /-- SB_OUT_SWITCH_END (R423): After 4 bridge cycles an output's new function applies. -/
  | sbOutSwitchEnd (k : Fin 16)
  /-- SB_TICK (R421): A TICK output drives its pulse at a multiple of 2^TICK_LOG2 ft. -/
  | sbTick (k : Fin 16)
  /-- ST_COMMIT (R434): ST_CTRL.COMMIT starts a commit with the CHECK phase. -/
  | stCommit
  /-- ST_CHECK_END (R434): The CHECK phase ends, refusing the table or starting RAISE. -/
  | stCheckEnd
  /-- ST_RAISE_END (R434): Domains are raised to CG and HOLD is sent on the spout. -/
  | stRaiseEnd
  /-- ST_HOLD (R434): An NI receives HOLD, holds new requests at step 2 and acknowledges. -/
  | stHold (n : Fin 256)
  /-- ST_HOLD_DONE (R434): Every participating NI has acknowledged and the master pushes the table. -/
  | stHoldDone
  /-- ST_PUSH_END (R434): The push ends; the pending table becomes active and RELEASE is sent. -/
  | stPushEnd (bad : List (Fin 256)) (ue : Bool)
  /-- ST_RELEASE (R434): An NI whose CRC matched takes the new GEN and releases its held requests. -/
  | stRelease (n : Fin 256)
  /-- ST_WINDOW_LIMIT (R437): 20 µs after HOLD, NIs not yet released are marked stale. -/
  | stWindowLimit
  /-- ST_STALE_RETRY (R437): Every 20 µs the master retries the reload of a stale NI. -/
  | stStaleRetry (n : Fin 256)
  /-- ST_SHADOW_RELOAD_DONE (R435): A stale NI's shadow reload ends and its held requests are checked. -/
  | stShadowReloadDone (n : Fin 256) (ok : Bool)
  /-- ST_LOCK_WRITE (R441): A write of ST_CTRL.LOCK locks the protection set-up and moves MODE to SERVICE. -/
  | stLockWrite
  /-- ST_MODE_WRITE (R431): A write of ST_CTRL.MODE changes the Strainer mode where allowed. -/
  | stModeWrite (mode : Fin 4)
  /-- MAILBOX_CMD_WRITE (R458): The host writes a command word through the mailbox aperture. -/
  | mailboxCmdWrite (posted : Bool)
  /-- DOORBELL_WRITE (R459): An aperture write rings a mailbox doorbell. -/
  | doorbellWrite (posted : Bool)
  /-- MAILBOX_ACCEPT (R459): The Pot accepts a rung command, copies its words and marks it RUNNING. -/
  | mailboxAccept (m : Fin 8)
  /-- COMMAND_END (R460): A command ends; its results and status are written and an interrupt may follow. -/
  | commandEnd (c : Fin 24)
  /-- COMMAND_TIMEOUT (R463): A command's duration bound expires and the command ends with TIMEOUT. -/
  | commandTimeout (c : Fin 24)
  /-- QUERY (R466): Returns identity, state, key digests, certificate hash or limits. -/
  | query (c : Fin 24)
  /-- READ_REG (R467): The Pot reads a register in the configuration window. -/
  | readReg (c : Fin 24)
  /-- WRITE_REG (R467): The Pot writes a register in the configuration window and reads it back. -/
  | writeReg (c : Fin 24)
  /-- LOAD_BLEND (R313): Loads, verifies and seals a blend image into the free bank. -/
  | loadBlend (c : Fin 24) (st : LoadStep)
  /-- COMMIT_EPOCH (R316): Arms an epoch switch at fabric time T. -/
  | commitEpoch (c : Fin 24)
  /-- SET_SHAPER (R470): Writes and commits shaper settings in an NI range. -/
  | setShaper (c : Fin 24)
  /-- SET_METER (R470): Writes and commits a meter and a match entry in an NI range. -/
  | setMeter (c : Fin 24)
  /-- LEAF_CFG (R465): Writes and commits the leaf sampling settings in an NI range. -/
  | leafCfg (c : Fin 24)
  /-- PM_FILTER (R465): Writes and commits one filter set of a unit. -/
  | pmFilter (c : Fin 24)
  /-- SNAPSHOT (R470): Schedules a counter snapshot at T and sends SNAP to every unit. -/
  | snapshot (c : Fin 24)
  /-- DOMAIN_POWER (R468): Sets a domain's resting state and waits until it is reached. -/
  | domainPower (c : Fin 24)
  /-- QUIESCE (R469): Closes the Lids of bands and waits until their NIs are quiet. -/
  | quiesce (c : Fin 24)
  /-- QUIESCE_OPEN (R469): Opens the Pot's closure of the named bands. -/
  | quiesceOpen (c : Fin 24)
  /-- LINK_RETRAIN_COMMAND (R470): The LINK_RETRAIN command retrains a link end and waits until it is in service. -/
  | linkRetrainCommand (c : Fin 24)
  /-- FAULT_ACK (R514): Acknowledges one open fault entry. -/
  | faultAck (c : Fin 24)
  /-- FENCE_AGENT (R470): Writes an agent fence entry, or FENCE_SW, in an NI range. -/
  | fenceAgent (c : Fin 24)
  /-- UNFENCE (R470): Clears matching agent fence entries, or FENCE_SW, in an NI range. -/
  | unfence (c : Fin 24)
  /-- CADDY_FREEZE (R536): Writes a FREEZE record and stops the Caddy granting reservations. -/
  | caddyFreeze (c : Fin 24)
  /-- CADDY_THAW (R536): Resumes Caddy recording with a THAW record, refused after C4. -/
  | caddyThaw (c : Fin 24)
  /-- CADDY_READ (R537): Returns one Caddy record or copies records to host memory. -/
  | caddyRead (c : Fin 24) (errs : CdErrs)
  /-- LEDGER_COMPACT (R268): Command that runs a ledger compaction. -/
  | ledgerCompact (c : Fin 24)
  /-- RING_SETUP (R472): Sets up a command ring's areas, owner and phases. -/
  | ringSetup (c : Fin 24)
  /-- RING_SETUP_MAILBOX_FORM (R471): Sets or clears the issuing mailbox's interrupt address and data. -/
  | ringSetupMailboxForm (c : Fin 24)
  /-- RING_ENABLE (R480): Starts polling a ring at its head. -/
  | ringEnable (c : Fin 24)
  /-- RING_DISABLE (R481): Stops a ring, discards fetched entries and publishes its head. -/
  | ringDisable (c : Fin 24)
  /-- CANCEL (R483): Marks ring entries to be completed with CANCELLED. -/
  | cancel (c : Fin 24)
  /-- REPROTECT (R443): Restarts the Pot into its boot ROM to commit a new protection table. -/
  | reprotect (c : Fin 24) (t : ProtTable)
  /-- REPROTECT_WAIT_LIMIT (R484): Other commands have not ended within 100 ms and REPROTECT ends with BUSY. -/
  | reprotectWaitLimit
  /-- POT_CORE_RESTART (R443): The Pot core restarts at its boot ROM, verifies firmware and relocks. -/
  | potCoreRestart (found : FwFound)
  /-- POT_SRAM_UE (R525): The core reads an uncorrectable SRAM word and restarts. -/
  | potSramUe (word : BitVec 16) (rings : List (Fin 16))
  /-- RING_POLL (R475): The Pot reads the entry at a ring's head. -/
  | ringPoll (r : Fin 16)
  /-- RING_ENTRY_FETCHED (R473): A fetched ring entry with the current phase is taken and the head advances. -/
  | ringEntryFetched (r : Fin 16)
  /-- RING_ACCESS_RESPONSE (R482): An error response to a ring fetch or write stops the ring. -/
  | ringAccessResponse (r : Fin 16) (k : Fin 4)
  /-- RING_IRQ_GAP_END (R478): The interrupt gap ends and one covering interrupt is sent. -/
  | ringIrqGapEnd (r : Fin 16)
  /-- RING_STATUS_LINE_WRITE (R479): Every 2^20 ft with completions, the ring's status line is written. -/
  | ringStatusLineWrite (r : Fin 16)
  /-- TABLE_LOAD (R314): A unit writes table-load words into its bank. -/
  | tableLoad (n : Fin 256)
  /-- BANK_SEAL (R314): A unit checks its word count and records the IMAGE_ID of the bank. -/
  | bankSeal (n : Fin 256)
  /-- EPOCH_ARM (R319): An NI receives an arming message and answers ARMED or REFUSED. -/
  | epochArm (n : Fin 256)
  /-- EPOCH_ARM_DEADLINE (R319): At T − 32,768 ft the Pot completes COMMIT_EPOCH or cancels the switch. -/
  | epochArmDeadline
  /-- EPOCH_CANCEL (R324): An NI receives CANCEL and disarms, or answers SWITCHED if it has already switched. -/
  | epochCancel (n : Fin 256)
  /-- EPOCH_SWITCH (R320): At local time T an armed NI makes its new bank active and the old bank draining. -/
  | epochSwitch (n : Fin 256)
  /-- NI_LOCAL_DRAINED (R321): An NI becomes locally drained and reports DRAINED. -/
  | niLocalDrained (n : Fin 256)
  /-- EDRAIN (R322): The Pot takes a drain report and sends DONE once the old epoch has drained. -/
  | edrain
  /-- EPOCH_DONE_MESSAGE (R319): An NI receives DONE, releases its holds and empties its old bank. -/
  | epochDoneMessage (n : Fin 256)
  /-- DRAIN_QUIET_TIMER (R322): No report has changed for 2^20 ft and the balance condition is treated as met. -/
  | drainQuietTimer
  /-- EPOCH_DRAIN_SLOW (R323): The old epoch has not drained 2^24 ft after T. -/
  | epochDrainSlow
  /-- WAKE_REQUEST (R495): The Kettle receives a wake request and starts raising the domain. -/
  | wakeRequest
  /-- DOMAIN_RAISE_DONE (R495): A raise from CG or RET completes and neighbour state ON is given. -/
  | domainRaiseDone (d : Fin 72) (ok : Bool)
  /-- DOMAIN_POWERED (R495): A domain raised from OFF is powered and aligned, and the Pot is told. -/
  | domainPowered (d : Fin 72)
  /-- DOMAIN_RELOAD_DONE (R497): The Pot finishes reloading a domain and the Kettle reports it ON. -/
  | domainReloadDone (d : Fin 72) (ok : Bool)
  /-- IDLE_INTERVAL_END (R488): A domain has been idle for 2^IDLE_LOG2 ft and an automatic lowering starts. -/
  | idleIntervalEnd (d : Fin 72)
  /-- DOMAIN_BUSY_CHANGE (R489): A unit's busy signal changes at the Kettle. -/
  | domainBusyChange (d : Fin 72)
  /-- KT_REST_WRITE (R490): A write of KT_DOM_d.REST raises or lowers a domain, or is refused. -/
  | ktRestWrite (d : Fin 72) (rest : Fin 4)
  /-- KT_GT_MASK_WRITE (R492): A write of the GT masks raises newly named domains to CG. -/
  | ktGtMaskWrite (k : Fin 2) (mask : BitVec 64)
  /-- LOWER_DRAIN_DONE (R493): The domain being lowered is idle and its fences are asked to close. -/
  | lowerDrainDone (d : Fin 72)
  /-- DOMAIN_FENCES_CLOSED (R493): All fences are closed and the Kettle enters the target state. -/
  | domainFencesClosed (d : Fin 72)
  /-- DOMAIN_LOWER_DONE (R493): A domain reaches its target state. -/
  | domainLowerDone (d : Fin 72)
  /-- DOMAIN_STEP_TIMEOUT (R499): A raise step exceeds four times its bound and the domain is declared failed. -/
  | domainStepTimeout (d : Fin 72)
  /-- SIDE_CHANNEL_MESSAGE (R501): A side-channel message is sent and, after a failed check, sent again. -/
  | sideChannelMessage (ok : Bool)
  /-- FAULT_ARRIVE (R510): A FAULT packet enters NI 249's receive side and the Saucer's input queue. -/
  | faultArrive
  /-- SAUCER_PROCESS_ENTRY (R510): The Saucer numbers, escalates, records and opens the entry at the head of its queue. -/
  | saucerProcessEntry
  /-- SC_HRING_RESPONSE (R520): An error response to a host fault ring write stops the ring. -/
  | scHringResponse (fnc : Bool)
  /-- SC_IRQ_INTERVAL_END (R520): The 1,024 ft interrupt interval ends and one interrupt is sent. -/
  | scIrqIntervalEnd
  /-- SC_HRING_ENABLE_WRITE (R520): Writing HRING_EN from 0 to 1 restarts the ring at HEAD 0. -/
  | scHringEnableWrite (on : Bool)
  /-- SC_C3_LID_WRITE (R521): Writing C3_LID to 0 releases the Lids held for C3 entries. -/
  | scC3LidWrite (on : Bool)
  /-- INJECT_FAULT (R527): An armed injection at POINT 0 injects a fault word. -/
  | injectFault
  /-- INJECT_LANE (R527): An armed injection at POINT 1 or 2 flips bits in a lane. -/
  | injectLane
  /-- INJECT_BUF (R527): An armed injection at POINT 3 or 4 flips bits in a transmit buffer byte. -/
  | injectBuf
  /-- INJECT_FLU_CRC (R527): An armed injection at POINT 5 inverts the CRC of the next NEW FLU. -/
  | injectFluCrc
  /-- NI_DIAG_GO (R526): NI_DIAG_SEL.GO reads the selected buffer or shadow word. -/
  | niDiagGo (n : Fin 256) (sel : W64) (used : Bool)
  /-- NI_DIAG_DATA_WRITE (R526): A write of NI_DIAG_DATA stores a word with raw or generated check bits. -/
  | niDiagDataWrite (n : Fin 256) (data : W64) (used : Bool)
  /-- TABLE_RESTORE (R524): The Pot rewrites an unusable table entry from its sources. -/
  | tableRestore (n : Fin 256) (bank : Fin 2) (sec : BitVec 4) (part : BitVec 3) (idx : BitVec 20) (ok : Bool)
  /-- CADDY_RESERVE (R531): A writer is granted the next Caddy slot, which becomes reserved. -/
  | caddyReserve (p : Fin 7)
  /-- CADDY_RECORD_COMMIT (R531): A written record is committed and NEWEST moves. -/
  | caddyRecordCommit (p : Fin 7)
  /-- CADDY_RESERVE_TIMEOUT (R531): A reservation is not committed within 1 µs and is aborted. -/
  | caddyReserveTimeout (p : Fin 7)
  /-- LEAF_STAMP (R541): The sampling NI takes a stamp and closes the record when it is complete. -/
  | leafStamp (n : Fin 256)
  /-- LEAF_RECORD_TIMEOUT (R541): An open leaf record times out and is sent as INCOMPLETE. -/
  | leafRecordTimeout (n : Fin 256) (k : Fin 64)
  /-- LEAF_ID_RELEASE (R541): 2^16 ft after its record closes, a LEAF_ID becomes free. -/
  | leafIdRelease (n : Fin 256) (k : Fin 64)
  /-- LEAF_COMMIT (R538): NI_LEAF_CFG.COMMIT commits the leaf group. -/
  | leafCommit (n : Fin 256)
  /-- TRACE_EN_WRITE (R544): A write of PT_TRACE_CTRL.EN starts or stops the branch trace. -/
  | traceEnWrite (on : Bool)
  /-- SNAP (R558): A unit receives a SNAP message and arms its copy at T. -/
  | snap (n : Fin 256)
  /-- SNAPSHOT_COPY (R559): At T a unit copies its counters into its shadow bank and pushes them. -/
  | snapshotCopy (u : CopyUnit)
  /-- KETTLE_SNAPSHOT_LATCH (R561): At keeper time T the Kettle latches every domain state for page settling. -/
  | kettleSnapshotLatch
  /-- COUNTER_PUSH (R566): The collector takes a pushed page into the bank being filled. -/
  | counterPush
  /-- PAGE_SETTLE_TIMEOUT (R566): A page unsettled 65,536 ft after T is settled INVALID. -/
  | pageSettleTimeout
  /-- COLLECTOR_BANK_SWITCH (R566): A complete bank becomes the shown bank once no aperture read is in progress. -/
  | collectorBankSwitch
  /-- COUNTER_APERTURE_READ (R567): An NRD to the counter aperture is answered from the shown bank. -/
  | counterApertureRead
  /-- PM_FLT_COMMIT (R557): PM_FLT_COMMIT commits filter sets from the next cycle. -/
  | pmFltCommit (u : CopyUnit) (sets : BitVec 4)
  /-- COUNTER_LATCH_READ (R549): A 32-bit read at a counter's offset latches its high half. -/
  | counterLatchRead (o : BitVec 23) (debug : Bool)
  /-- DIE_B_JOIN (R582): After FABRIC_READY rises, or on a rejoin, die B is brought into service through steps J1 to J6. -/
  | dieBJoin (ok : Bool)
  /-- JOIN_GO_WRITE (R588): A write of GL_JOIN.GO starts a rejoin or restarts a failed join. -/
  | joinGoWrite
  /-- SEAM_LOSS_DECLARE (R583): No seam link has been in service for 1 µs and a partition is declared. -/
  | seamLossDeclare
  /-- PART_SWEEP (R585): A die-A slice sweeps its entries for die-B holders. -/
  | partSweep (h : Fin 16)
  /-- REJOIN_SWEEP (R589): A die-B slice removes die-B holders after the join reset. -/
  | rejoinSweep (h : Fin 16)
  /-- SWEEP_DONE (R590): The Pot receives a slice's sweep report. -/
  | sweepDone
  /-- DEFER_POISON (R586): The Pot adds a line whose poisoning failed to its poison list. -/
  | deferPoison
  /-- POISON_LINE (R590): An MPA or CLA writes a listed line as poisoned. -/
  | poisonLine (n : Fin 256)
  /-- POISON_DONE (R590): The Pot removes a line from the poison list. -/
  | poisonDone
  /-- GL_BLS_DATA_WRITE (R572): A write of GL_BLS_DATA records an entry in the BL store, or is refused. -/
  | glBlsDataWrite (value : W64)
  /-- DBG_SEL_WRITE (R599): An E5LB write of DBG_SEL starts a debug capture. -/
  | dbgSelWrite (data : BitVec 32)
  /-- DEBUG_CAPTURE_DONE (R599): A debug capture ends with a value, or is refused. -/
  | debugCaptureDone
  /-- DEBUG_MESH_READ (R597): A host reads a register through a CFG window of its CPA. -/
  | debugMeshRead (n : Fin 8) (tag : BitVec 10) (a : BitVec 24) (wide : Bool) (pasid : Option Bool) (err : ReadErr)
  /-- REGISTER_WRITE (R11): A write to a register without behaviour of its own applies the field access codes. -/
  | registerWrite (a : BitVec 24) (wide : Bool) (value : W64)
  /-- VDD_FAB_DROOP (R45): VDD_FAB droops and the island oscillator lengthens its cycles, recording the largest stretch in MAX_STRETCH. -/
  | vddFabDroop (i : Fin 48) (stretch : Fin 129)
  /-- LOCAL_TIME_COUNTER_RESUME (R63): An island whose local time counter is held because e > +64 ft resumes advancing once true time reaches the held value. -/
  | localTimeCounterResume (i : Fin 48)
  /-- POT_BRANCH (R543): The Pot core takes a branch, jump, return or trap, and a trace entry is written. -/
  | potBranch (trap : Bool) (src dst : BitVec 21) (cycles : Nat)
  /-- POT_WAIT_FOR_INTERRUPT (R544): The Pot core enters wait-for-interrupt, and the trace writes a stop entry. -/
  | potWaitForInterrupt
  /-- POT_SRAM_CE (R523): The core reads a Pot SRAM word with a single-bit error, which is corrected and counted in GL_POT_ECC. -/
  | potSramCe (word : BitVec 16)
  /-- PLATFORM_WAIT_END (R311): The VALUE µs of a WAIT step in a PLATFORM procedure expire, and the procedure goes on to its next step. -/
  | platformWaitEnd
  /-- PLATFORM_POLL_LIMIT (R311): A POLL step has not matched within LIMIT × 100 µs, and the procedure fails as a failed ledger write. -/
  | platformPollLimit
  deriving DecidableEq, Repr

end Sys2Proof
end

