-- ==== Sys2Proof/Decode.lean ====
section
/-! DEFINITION. The opcode table gives the block's commands no bits (every row's list of fields is empty), so no word spells a command. -/
namespace Sys2Proof

/-- The command that a word spells by the table's bits: none, since no row of the table gives any. -/
def decodeTableWord (_nbits _w : Nat) : Option Instr := none

end Sys2Proof
end

