-- ==== Sys2Proof/Config.lean ====
section
/-! DEFINITION. What the spec leaves open: constants without a body, so that no proof can see their values.
Each is named in a row of the assumption log. -/
namespace Sys2Proof

/-- A value the spec does not state, drawn anew each time by a counter of the state that the step advances (log entry 1). -/
opaque Config.freeValue : Nat → W64

/-- The eight check bits of a (72,64) word; the manual names the code and not its matrix (R130, R523; log entry 2). -/
opaque Config.check72 : W64 → BitVec 8

/-- The five check bits of each of eight bytes stored as (13,8) words (R186, R523; log entry 2). -/
opaque Config.check13 : W64 → BitVec 40

/-- The integrator's base of the configuration window, in units of 64 MiB (R593; log entry 3). -/
opaque Config.cfgBase : BitVec 26

/-- What QUERY returns of the firmware: versions, key counts and key digests, by place (R466; log entry 4). -/
opaque Config.firmware : Nat → W64

end Sys2Proof
end

