-- ==== Sys2Proof/Machine/HomeTypes.lean ====
section
/-! DEFINITION. The state of a home slice: directory stores, transaction records, wait places, staging lines, arbiter, wear and
scrubber (R203 to R205, R232 to R275, R585 to R587). -/
namespace Sys2Proof.Machine

/-- What a directory entry says of a line (R238, R239): state, host grant, PROXY, owner, sharer pointers, and the vector index. -/
structure View where
  st : Nat
  hostg : Nat
  proxy : Bool
  owner : Option Nat
  ptrs : List Nat
  vec : Option Nat
  deriving DecidableEq, Repr

/-- The view of an untracked line: U (R203). -/
def View.u : View := { st := 0, hostg := 0, proxy := false, owner := none, ptrs := [], vec := none }

/-- What a demand asks for, and of whom: the owner, a sharer pointer, a group or port at large, memory or the host, a write. -/
inductive DemRole where
  | owner | sharer | group | port | read | write | evict
  deriving DecidableEq, Repr

/-- A demand that a transaction awaits: the identifier its tag carries, SNP opcode, destination, agent or group asked for, role, FWD. -/
structure Dem where
  id : Nat
  op : Nat
  dest : Nat
  who : Nat
  role : DemRole
  fwd : Bool
  deriving DecidableEq, Repr

/-- Why a transaction runs: a request by its REQ opcode; a victim recall; a way retirement; a line recovery; a sweep's
poisoning, with its sharers recalled (R209, R258, R261, R585). -/
inductive TxKind where
  | req (op : Nat)
  | victim
  | retire
  | recover
  | sweep
  deriving DecidableEq, Repr

/-- A transaction record (R204, R232): the line's busy state. -/
structure Tx where
  num : Nat
  kind : TxKind
  line : Nat
  /-- TARGET_NI of a PROXY line -/
  proxy : Option Nat
  /-- header, request word and write mask of the request served -/
  h : Hdr
  w2 : W64
  mask : W64
  epoch : Nat
  set : Nat
  way : Option Nat
  bcast : Bool
  /-- the line when the transaction found it, and what it becomes -/
  old : View
  new : View
  dems : List Dem
  /-- demands not yet handed to the NI, which leave in a RECALL transfer when `recalling` is set -/
  unsent : List (Nat × Pkt × Nat)
  recalling : Bool
  /-- the transaction awaits WDATA of its own; write-backs served under R212, by (TOWN, TAG, agent); agents that gave up a copy -/
  wdat : Bool
  wbs : List (Nat × Nat × Nat)
  gave : List Nat
  /-- local time at which the grant was sent while CACK is awaited -/
  ackw : Option Nat
  /-- the line's data at the home, whether it is dirty, and the write data -/
  data : Option Body
  dirty : Bool
  wdata : Option Body
  /-- a holder has forwarded its data; memory has been asked; the completion needs data; a read failed with this RESP -/
  forwarded : Bool
  read : Bool
  failed : Nat
  poison : Bool
  poisonAnswer : Bool
  /-- its staging line has an uncorrectable byte; clean data was lost to one (R248) -/
  stgUe : Bool
  stgBad : Bool
  /-- highest state kept and whether some holder had a copy, for the answer of an HSNP -/
  kept : Nat
  hit : Bool
  /-- the collecting part is over and the completion has gone -/
  closing : Bool
  visible : Bool
  /-- NRESP and GRANT of the completion (the grant of a read of a U line is settled when it closes), and whether it carries data -/
  nresp : Nat
  grant : Nat
  needData : Bool
  /-- a request other than UPG or WBM from the recorded owner (R206) -/
  perr : Bool
  start : Nat
  /-- staging lines that it needs, and whether it holds them (R247) -/
  lines : Nat
  staged : Bool
  /-- local time at which its demands not yet handed over were raised (R250) -/
  raised : Nat
  /-- the dirty owner's answer brought nothing while group snoops that may bring its data are out: whether that is a protocol error, and SRC (R213, R241) -/
  lost : Option (Bool × Nat)
  deriving DecidableEq, Repr

/-- A wait place (R205, R245): the request, and since when it may look up again. -/
structure Wait where
  p : Pkt
  set : Nat
  full : Bool
  tin : Nat
  ready : Option Nat
  deriving DecidableEq, Repr

/-- MAINT work (R249): a sparing copy, the discard of an entry in a broadcast set, a line-recovery start, the correction of copy 1 of a tag word; a
diagnostic access of the Pot with HS_DIAG_SEL and, for a write, the data and HS_DIAG_CHK; the write-back of a word that the scrubber has corrected, with its
place in the lap and the words of its set, or the word itself, as they were at the read (R273, R274, R526). -/
inductive Maint where
  | spare (set way : Nat)
  | discard (set way : Nat)
  | recover (set way : Nat)
  | copy (set w : Nat)
  | diag (write : Bool) (sel data chk : W64)
  | writeBack (k store index way : Nat) (seen : List W64)
  deriving DecidableEq, Repr

/-- The transfer in progress: requester, beats, and whether its packet has been served (R250). -/
structure Transfer where
  q : Nat
  beats : Nat
  served : Bool
  deriving DecidableEq, Repr

/-- A sweep of the slice under way (R585, R589): the ports whose agents are gone, the next set, and its counts. -/
structure Sweep where
  ports : Nat
  rejoin : Bool
  pos : Nat
  tainted : Nat
  poisoned : Nat
  freed : Nat
  deriving DecidableEq, Repr

/-- A home slice. -/
structure Slice where
  ent : KMap W64
  tag0 : KMap W64
  tag1 : KMap W64
  vec : KMap W64
  vecUsed : KMap Bool
  stat : KMap W64
  spEnt : KMap W64
  spTag0 : KMap W64
  spTag1 : KMap W64
  /-- staging lines that diagnosis has written (R526) -/
  stg : KMap Line
  /-- check bits stored raw by diagnosis, keyed by store, index and way (R526) -/
  chk : KMap (Option W64)
  recs : List Tx
  waits : List Wait
  nextDem : Nat
  /-- MWR packets of staged lines that wait for a BULK transfer: transaction, destination, packet, demand, time raised -/
  bulk : List (Nat × Nat × Pkt × Nat × Nat)
  maint : List (Maint × Nat)
  cur : Option Transfer
  pre4 : Nat
  pre5 : Nat
  /-- grants in the quota window by requester, and the settings committed for the next window (R252, R253) -/
  win : KMap Nat
  arb : Option (W64 × W64)
  /-- fences that wait for earlier writes (R230) -/
  fncs : List (Hdr × List Nat)
  /-- watch list of R254: (set or 2^14 + spare, way, count), oldest first -/
  watch : List (Nat × Nat × Nat)
  ceEpoch : Nat
  stgCeEpoch : Nat
  /-- next read of the scrub lap; none between laps; start of the lap and of its first read -/
  scrub : Option Nat
  lapStart : Option Nat
  lapFirst : Nat
  /-- reads of the lap to make again, because their write-back has been dropped (R274) -/
  reread : List Nat
  /-- repairs made whose reports have not reached the Pot, each as word 0 of its record with SEQ 0 and the time of the repair (R266, R267) -/
  told : List (W64 × Nat)
  taint : KMap Bool
  sweep : Option Sweep
  /-- snapshot number and T held (R558) -/
  snap : Option (Nat × Nat)
  deriving DecidableEq, Repr

/-- A home slice as reset leaves it: every way free, no record, no wait place. -/
def Slice.reset : Slice :=
  { ent := [], tag0 := [], tag1 := [], vec := [], vecUsed := [], stat := [], spEnt := [], spTag0 := [], spTag1 := [], stg := [],
    chk := [], recs := [], waits := [], nextDem := 1, bulk := [], maint := [], cur := none, pre4 := 0, pre5 := 0, win := [],
    arb := none, fncs := [], watch := [], ceEpoch := 0, stgCeEpoch := 0, scrub := none, lapStart := none, lapFirst := 0, reread := [], told := [], taint := [], sweep := none, snap := none }

end Sys2Proof.Machine
end

