-- ==== Sys2Proof/Machine/Regs.lean ====
section
/-! DEFINITION. The registers of the configuration window: offsets, fields, access codes and reset values.
The rows follow "Register map" (R593 to R595) and the field tables of each chapter; one row per register name. -/
namespace Sys2Proof.Machine

/-- The access codes of R11. -/
inductive Acc where
  | rw | ro | wo | w1c | w1s | sc | st | bl
  deriving DecidableEq, Repr

/-- Where a register exists: every instance of its block, or only some (chapters 8, 10 and 16). -/
inductive Pres where
  | always
  | meters
  | ports
  | mpa
  | testMode
  deriving DecidableEq, Repr

/-- A field of a register: its lowest bit and its width in bits (R5). -/
structure Fld where
  lo : Nat
  w : Nat
  deriving DecidableEq, Repr

/-- A field with its access code and its value after the reset that clears it (R11, R15). -/
structure RegFld where
  lo : Nat
  w : Nat
  acc : Acc
  rst : Nat
  deriving DecidableEq, Repr

/-- One register name: the window offset of its first instance, and up to two indexes with their strides and counts (R593). -/
structure RegRow where
  name : String
  base : Nat
  s1 : Nat
  n1 : Nat
  s2 : Nat
  n2 : Nat
  pres : Pres
  fields : List RegFld
  deriving DecidableEq, Repr

/-- The two indexes of the instance that window offset `o` reaches in the row, if it reaches one. -/
def RegRow.hit (r : RegRow) (o : Nat) : Option (Nat × Nat) :=
  if o < r.base then none
  else
    let d := o - r.base
    let i := if r.s1 = 0 then 0 else d / r.s1
    let e := d - r.s1 * i
    let j := if r.s2 = 0 then 0 else e / r.s2
    if e = r.s2 * j ∧ i < r.n1 ∧ j < r.n2 then some (i, j) else none

/-- The value of all fields of a register after reset, before the per-unit identity values are laid over it. -/
def RegRow.reset (r : RegRow) : BitVec 64 :=
  BitVec.ofNat 64 (r.fields.foldl (fun a f => a + f.rst * 2 ^ f.lo) 0)

/-- GL_INSTANCE (01_instance_at_a_glance). -/
def Off.GL_INSTANCE : Nat := 0x0
def Fld.GL_INSTANCE.PART_CODE : Fld := ⟨48, 16⟩
def Fld.GL_INSTANCE.INST_REV : Fld := ⟨40, 8⟩
def Fld.GL_INSTANCE.DIES : Fld := ⟨36, 4⟩
def Fld.GL_INSTANCE.BANDS : Fld := ⟨32, 4⟩
def Fld.GL_INSTANCE.COLS : Fld := ⟨24, 8⟩
def Fld.GL_INSTANCE.ROWS : Fld := ⟨16, 8⟩
def Fld.GL_INSTANCE.ISLANDS : Fld := ⟨8, 8⟩
def Fld.GL_INSTANCE.HOME_SLICES : Fld := ⟨0, 8⟩
def Row.GL_INSTANCE : RegRow := ⟨"GL_INSTANCE", 0x0, 0x0, 1, 0x0, 1, .always, [⟨48, 16, .ro, 4630⟩, ⟨40, 8, .ro, 1⟩, ⟨36, 4, .ro, 2⟩, ⟨32, 4, .ro, 4⟩, ⟨24, 8, .ro, 12⟩, ⟨16, 8, .ro, 16⟩, ⟨8, 8, .ro, 48⟩, ⟨0, 8, .ro, 16⟩]⟩

/-- GL_STATUS (01_instance_at_a_glance). -/
def Off.GL_STATUS : Nat := 0x8
def Fld.GL_STATUS.DEBUG_EN : Fld := ⟨7, 1⟩
def Fld.GL_STATUS.TEST_MODE : Fld := ⟨6, 1⟩
def Fld.GL_STATUS.LID : Fld := ⟨2, 4⟩
def Fld.GL_STATUS.FATAL : Fld := ⟨1, 1⟩
def Fld.GL_STATUS.READY : Fld := ⟨0, 1⟩
def Row.GL_STATUS : RegRow := ⟨"GL_STATUS", 0x8, 0x0, 1, 0x0, 1, .always, [⟨7, 1, .ro, 0⟩, ⟨6, 1, .ro, 0⟩, ⟨2, 4, .ro, 15⟩, ⟨1, 1, .ro, 0⟩, ⟨0, 1, .ro, 0⟩]⟩

/-- FT_NOW (02_fabric_time_and_islands). -/
def Off.FT_NOW : Nat := 0x108000
def Fld.FT_NOW.TIME : Fld := ⟨0, 64⟩
def Row.FT_NOW : RegRow := ⟨"FT_NOW", 0x108000, 0x0, 1, 0x0, 1, .always, [⟨0, 64, .ro, 0⟩]⟩

/-- FT_STATUS (02_fabric_time_and_islands). -/
def Off.FT_STATUS : Nat := 0x108008
def Fld.FT_STATUS.UNALIGNED : Fld := ⟨16, 8⟩
def Fld.FT_STATUS.GOOD_EPOCHS : Fld := ⟨12, 4⟩
def Fld.FT_STATUS.GT_UNBOUNDED : Fld := ⟨11, 1⟩
def Fld.FT_STATUS.RUNNING : Fld := ⟨10, 1⟩
def Fld.FT_STATUS.B_LOST : Fld := ⟨9, 1⟩
def Fld.FT_STATUS.A_LOST : Fld := ⟨8, 1⟩
def Fld.FT_STATUS.B_OUT : Fld := ⟨7, 1⟩
def Fld.FT_STATUS.A_OUT : Fld := ⟨6, 1⟩
def Fld.FT_STATUS.B_WARN : Fld := ⟨5, 1⟩
def Fld.FT_STATUS.A_WARN : Fld := ⟨4, 1⟩
def Fld.FT_STATUS.SEL_REF : Fld := ⟨2, 1⟩
def Fld.FT_STATUS.CONF : Fld := ⟨0, 2⟩
def Row.FT_STATUS : RegRow := ⟨"FT_STATUS", 0x108008, 0x0, 1, 0x0, 1, .always, [⟨16, 8, .ro, 0⟩, ⟨12, 4, .ro, 0⟩, ⟨11, 1, .ro, 1⟩, ⟨10, 1, .ro, 0⟩, ⟨9, 1, .ro, 0⟩, ⟨8, 1, .ro, 0⟩, ⟨7, 1, .ro, 0⟩, ⟨6, 1, .ro, 0⟩, ⟨5, 1, .ro, 0⟩, ⟨4, 1, .ro, 0⟩, ⟨2, 1, .ro, 0⟩, ⟨0, 2, .ro, 3⟩]⟩

/-- FT_DRIFT (02_fabric_time_and_islands). -/
def Off.FT_DRIFT : Nat := 0x108010
def Fld.FT_DRIFT.DRIFT_A : Fld := ⟨48, 16⟩
def Fld.FT_DRIFT.DRIFT_B : Fld := ⟨32, 16⟩
def Fld.FT_DRIFT.DRIFT_MEAN : Fld := ⟨16, 16⟩
def Fld.FT_DRIFT.EPOCH_LO : Fld := ⟨0, 16⟩
def Row.FT_DRIFT : RegRow := ⟨"FT_DRIFT", 0x108010, 0x0, 1, 0x0, 1, .always, [⟨48, 16, .ro, 0⟩, ⟨32, 16, .ro, 0⟩, ⟨16, 16, .ro, 0⟩, ⟨0, 16, .ro, 0⟩]⟩

/-- FT_EPOCH_SET (02_fabric_time_and_islands). -/
def Off.FT_EPOCH_SET : Nat := 0x108018
def Fld.FT_EPOCH_SET.TIME_EPOCH : Fld := ⟨0, 44⟩
def Row.FT_EPOCH_SET : RegRow := ⟨"FT_EPOCH_SET", 0x108018, 0x0, 1, 0x0, 1, .always, [⟨0, 44, .bl, 0⟩]⟩

/-- FT_CTRL (02_fabric_time_and_islands). -/
def Off.FT_CTRL : Nat := 0x108020
def Fld.FT_CTRL.SWITCH_FAILED : Fld := ⟨3, 1⟩
def Fld.FT_CTRL.START : Fld := ⟨2, 1⟩
def Fld.FT_CTRL.SWITCH_REQ : Fld := ⟨1, 1⟩
def Fld.FT_CTRL.PREF_REF : Fld := ⟨0, 1⟩
def Row.FT_CTRL : RegRow := ⟨"FT_CTRL", 0x108020, 0x0, 1, 0x0, 1, .always, [⟨3, 1, .w1c, 0⟩, ⟨2, 1, .sc, 0⟩, ⟨1, 1, .sc, 0⟩, ⟨0, 1, .bl, 0⟩]⟩

/-- FT_REF_ERR (02_fabric_time_and_islands). -/
def Off.FT_REF_ERR : Nat := 0x108028
def Fld.FT_REF_ERR.MARK_ERR_A : Fld := ⟨48, 16⟩
def Fld.FT_REF_ERR.MARK_ERR_B : Fld := ⟨32, 16⟩
def Fld.FT_REF_ERR.LOSS_A : Fld := ⟨16, 16⟩
def Fld.FT_REF_ERR.LOSS_B : Fld := ⟨0, 16⟩
def Row.FT_REF_ERR : RegRow := ⟨"FT_REF_ERR", 0x108028, 0x0, 1, 0x0, 1, .always, [⟨48, 16, .ro, 0⟩, ⟨32, 16, .ro, 0⟩, ⟨16, 16, .ro, 0⟩, ⟨0, 16, .ro, 0⟩]⟩

/-- FT_ISL_STATUS (02_fabric_time_and_islands). -/
def Off.FT_ISL_STATUS (i : Nat) : Nat := 0x10C000 + 0x40 * i
def Fld.FT_ISL_STATUS.PHASE_ERR : Fld := ⟨32, 16⟩
def Fld.FT_ISL_STATUS.MISSED_MARKS : Fld := ⟨16, 16⟩
def Fld.FT_ISL_STATUS.SLIPS : Fld := ⟨8, 8⟩
def Fld.FT_ISL_STATUS.ALIGNED : Fld := ⟨3, 1⟩
def Fld.FT_ISL_STATUS.HELD : Fld := ⟨2, 1⟩
def Fld.FT_ISL_STATUS.LOCAL_CONF : Fld := ⟨0, 2⟩
def Row.FT_ISL_STATUS : RegRow := ⟨"FT_ISL_STATUS", 0x10C000, 0x40, 48, 0x0, 1, .always, [⟨32, 16, .ro, 0⟩, ⟨16, 16, .ro, 0⟩, ⟨8, 8, .ro, 0⟩, ⟨3, 1, .ro, 0⟩, ⟨2, 1, .ro, 0⟩, ⟨0, 2, .ro, 3⟩]⟩

/-- FT_ISL_FREQ (02_fabric_time_and_islands). -/
def Off.FT_ISL_FREQ (i : Nat) : Nat := 0x10C008 + 0x40 * i
def Fld.FT_ISL_FREQ.CUR_MHZ : Fld := ⟨48, 16⟩
def Fld.FT_ISL_FREQ.RUN_MHZ : Fld := ⟨32, 16⟩
def Fld.FT_ISL_FREQ.FLOOR_MHZ : Fld := ⟨16, 16⟩
def Fld.FT_ISL_FREQ.MAX_STRETCH : Fld := ⟨8, 8⟩
def Fld.FT_ISL_FREQ.SLEWING : Fld := ⟨0, 1⟩
def Row.FT_ISL_FREQ : RegRow := ⟨"FT_ISL_FREQ", 0x10C008, 0x40, 48, 0x0, 1, .always, [⟨48, 16, .ro, 1200⟩, ⟨32, 16, .ro, 0⟩, ⟨16, 16, .ro, 0⟩, ⟨8, 8, .ro, 0⟩, ⟨0, 1, .ro, 0⟩]⟩

/-- FT_ISL_DELAY (02_fabric_time_and_islands). -/
def Off.FT_ISL_DELAY (i : Nat) : Nat := 0x10C010 + 0x40 * i
def Fld.FT_ISL_DELAY.TREE_DELAY : Fld := ⟨0, 16⟩
def Row.FT_ISL_DELAY : RegRow := ⟨"FT_ISL_DELAY", 0x10C010, 0x40, 48, 0x0, 1, .always, [⟨0, 16, .ro, 0⟩]⟩

/-- FT_ISL_XING (02_fabric_time_and_islands). -/
def Off.FT_ISL_XING (i : Nat) : Nat := 0x10C018 + 0x40 * i
def Fld.FT_ISL_XING.OVR_LOCAL : Fld := ⟨12, 1⟩
def Fld.FT_ISL_XING.OVR_N : Fld := ⟨11, 1⟩
def Fld.FT_ISL_XING.OVR_E : Fld := ⟨10, 1⟩
def Fld.FT_ISL_XING.OVR_S : Fld := ⟨9, 1⟩
def Fld.FT_ISL_XING.OVR_W : Fld := ⟨8, 1⟩
def Row.FT_ISL_XING : RegRow := ⟨"FT_ISL_XING", 0x10C018, 0x40, 48, 0x0, 1, .always, [⟨12, 1, .w1c, 0⟩, ⟨11, 1, .w1c, 0⟩, ⟨10, 1, .w1c, 0⟩, ⟨9, 1, .w1c, 0⟩, ⟨8, 1, .w1c, 0⟩]⟩

/-- RT_ID (04_routers_and_the_seam). -/
def Off.RT_ID (i : Nat) : Nat := 0x800000 + 0x4000 * i
def Fld.RT_ID.TILE : Fld := ⟨32, 8⟩
def Fld.RT_ID.X : Fld := ⟨28, 4⟩
def Fld.RT_ID.Y : Fld := ⟨24, 4⟩
def Fld.RT_ID.ISLAND : Fld := ⟨16, 8⟩
def Fld.RT_ID.BAND : Fld := ⟨14, 2⟩
def Fld.RT_ID.DIE : Fld := ⟨13, 1⟩
def Fld.RT_ID.L1_PRESENT : Fld := ⟨12, 1⟩
def Fld.RT_ID.SEAM : Fld := ⟨10, 2⟩
def Fld.RT_ID.EDGE : Fld := ⟨0, 6⟩
def Row.RT_ID : RegRow := ⟨"RT_ID", 0x800000, 0x4000, 192, 0x0, 1, .always, [⟨32, 8, .ro, 0⟩, ⟨28, 4, .ro, 0⟩, ⟨24, 4, .ro, 0⟩, ⟨16, 8, .ro, 0⟩, ⟨14, 2, .ro, 0⟩, ⟨13, 1, .ro, 0⟩, ⟨12, 1, .ro, 0⟩, ⟨10, 2, .ro, 0⟩, ⟨0, 6, .ro, 0⟩]⟩

/-- RT_CTRL (04_routers_and_the_seam). -/
def Off.RT_CTRL (i : Nat) : Nat := 0x800008 + 0x4000 * i
def Fld.RT_CTRL.CE_REPORT : Fld := ⟨8, 1⟩
def Fld.RT_CTRL.FORCE_UNREACH : Fld := ⟨0, 6⟩
def Row.RT_CTRL : RegRow := ⟨"RT_CTRL", 0x800008, 0x4000, 192, 0x0, 1, .always, [⟨8, 1, .rw, 1⟩, ⟨0, 6, .rw, 0⟩]⟩

/-- RT_PORT_STATE (04_routers_and_the_seam). -/
def Off.RT_PORT_STATE (i : Nat) : Nat := 0x800010 + 0x4000 * i
def Fld.RT_PORT_STATE.NBR (k : Nat) : Fld := ⟨4 * k + 2, 2⟩
def Fld.RT_PORT_STATE.WAKE_PEND (k : Nat) : Fld := ⟨4 * k + 1, 1⟩
def Fld.RT_PORT_STATE.FENCED (k : Nat) : Fld := ⟨4 * k + 0, 1⟩
def Row.RT_PORT_STATE : RegRow := ⟨"RT_PORT_STATE", 0x800010, 0x4000, 192, 0x0, 1, .always, [⟨2, 2, .ro, 1⟩, ⟨6, 2, .ro, 1⟩, ⟨10, 2, .ro, 1⟩, ⟨14, 2, .ro, 1⟩, ⟨18, 2, .ro, 1⟩, ⟨22, 2, .ro, 1⟩, ⟨1, 1, .ro, 0⟩, ⟨5, 1, .ro, 0⟩, ⟨9, 1, .ro, 0⟩, ⟨13, 1, .ro, 0⟩, ⟨17, 1, .ro, 0⟩, ⟨21, 1, .ro, 0⟩, ⟨0, 1, .ro, 1⟩, ⟨4, 1, .ro, 1⟩, ⟨8, 1, .ro, 1⟩, ⟨12, 1, .ro, 1⟩, ⟨16, 1, .ro, 1⟩, ⟨20, 1, .ro, 1⟩]⟩

/-- RT_ERR_STATUS (04_routers_and_the_seam). -/
def Off.RT_ERR_STATUS (i : Nat) : Nat := 0x800018 + 0x4000 * i
def Fld.RT_ERR_STATUS.CE : Fld := ⟨7, 1⟩
def Fld.RT_ERR_STATUS.GATE_LATE : Fld := ⟨6, 1⟩
def Fld.RT_ERR_STATUS.FENCE_DISCARD : Fld := ⟨5, 1⟩
def Fld.RT_ERR_STATUS.CREDIT_OVERFLOW : Fld := ⟨4, 1⟩
def Fld.RT_ERR_STATUS.FRAMING : Fld := ⟨3, 1⟩
def Fld.RT_ERR_STATUS.UE_CTRL : Fld := ⟨2, 1⟩
def Fld.RT_ERR_STATUS.UE_PAYLOAD : Fld := ⟨1, 1⟩
def Fld.RT_ERR_STATUS.HDR_MALFORMED : Fld := ⟨0, 1⟩
def Row.RT_ERR_STATUS : RegRow := ⟨"RT_ERR_STATUS", 0x800018, 0x4000, 192, 0x0, 1, .always, [⟨7, 1, .w1c, 0⟩, ⟨6, 1, .w1c, 0⟩, ⟨5, 1, .w1c, 0⟩, ⟨4, 1, .w1c, 0⟩, ⟨3, 1, .w1c, 0⟩, ⟨2, 1, .w1c, 0⟩, ⟨1, 1, .w1c, 0⟩, ⟨0, 1, .w1c, 0⟩]⟩

/-- RT_ERR_CNT (04_routers_and_the_seam). -/
def Off.RT_ERR_CNT (i : Nat) : Nat := 0x800020 + 0x4000 * i
def Fld.RT_ERR_CNT.MALFORMED : Fld := ⟨48, 16⟩
def Fld.RT_ERR_CNT.FENCE_DISCARDS : Fld := ⟨32, 16⟩
def Fld.RT_ERR_CNT.GATE_LATE : Fld := ⟨16, 16⟩
def Fld.RT_ERR_CNT.WAKE_REQS : Fld := ⟨0, 16⟩
def Row.RT_ERR_CNT : RegRow := ⟨"RT_ERR_CNT", 0x800020, 0x4000, 192, 0x0, 1, .always, [⟨48, 16, .ro, 0⟩, ⟨32, 16, .ro, 0⟩, ⟨16, 16, .ro, 0⟩, ⟨0, 16, .ro, 0⟩]⟩

/-- RT_GATE_P (04_routers_and_the_seam). -/
def Off.RT_GATE (i : Nat) (j : Nat) : Nat := 0x800040 + 0x4000 * i + 0x8 * j
def Fld.RT_GATE.GUARD_FT : Fld := ⟨48, 16⟩
def Fld.RT_GATE.TRAIL_FT : Fld := ⟨32, 16⟩
def Fld.RT_GATE.NEXT_OPEN : Fld := ⟨16, 16⟩
def Fld.RT_GATE.LENGTH_BLIND : Fld := ⟨7, 1⟩
def Fld.RT_GATE.HAS_LIST : Fld := ⟨6, 1⟩
def Fld.RT_GATE.MODE : Fld := ⟨2, 2⟩
def Fld.RT_GATE.OPEN : Fld := ⟨1, 1⟩
def Row.RT_GATE : RegRow := ⟨"RT_GATE", 0x800040, 0x4000, 192, 0x8, 6, .always, [⟨48, 16, .ro, 0⟩, ⟨32, 16, .ro, 0⟩, ⟨16, 16, .ro, 0⟩, ⟨7, 1, .ro, 0⟩, ⟨6, 1, .ro, 0⟩, ⟨2, 2, .ro, 2⟩, ⟨1, 1, .ro, 0⟩]⟩

/-- RT_LANE_ERR_P (04_routers_and_the_seam). -/
def Off.RT_LANE_ERR (i : Nat) (j : Nat) : Nat := 0x800080 + 0x4000 * i + 0x8 * j
def Fld.RT_LANE_ERR.CE : Fld := ⟨48, 16⟩
def Fld.RT_LANE_ERR.UE_PAYLOAD : Fld := ⟨32, 16⟩
def Fld.RT_LANE_ERR.UE_CTRL : Fld := ⟨16, 16⟩
def Fld.RT_LANE_ERR.FRAMING : Fld := ⟨8, 8⟩
def Fld.RT_LANE_ERR.LAST_LANE : Fld := ⟨4, 4⟩
def Row.RT_LANE_ERR : RegRow := ⟨"RT_LANE_ERR", 0x800080, 0x4000, 192, 0x8, 6, .always, [⟨48, 16, .ro, 0⟩, ⟨32, 16, .ro, 0⟩, ⟨16, 16, .ro, 0⟩, ⟨8, 8, .ro, 0⟩, ⟨4, 4, .ro, 15⟩]⟩

/-- RT_CREDIT_P (04_routers_and_the_seam). -/
def Off.RT_CREDIT (i : Nat) (j : Nat) : Nat := 0x8000C0 + 0x4000 * i + 0x8 * j
def Fld.RT_CREDIT.GT (k : Nat) : Fld := ⟨4 * k + 3, 1⟩
def Fld.RT_CREDIT.SH (k : Nat) : Fld := ⟨4 * k + 0, 3⟩
def Row.RT_CREDIT : RegRow := ⟨"RT_CREDIT", 0x8000C0, 0x4000, 192, 0x8, 6, .always, [⟨3, 1, .ro, 0⟩, ⟨7, 1, .ro, 0⟩, ⟨11, 1, .ro, 0⟩, ⟨15, 1, .ro, 0⟩, ⟨19, 1, .ro, 0⟩, ⟨23, 1, .ro, 0⟩, ⟨27, 1, .ro, 0⟩, ⟨31, 1, .ro, 0⟩, ⟨0, 3, .ro, 0⟩, ⟨4, 3, .ro, 0⟩, ⟨8, 3, .ro, 0⟩, ⟨12, 3, .ro, 0⟩, ⟨16, 3, .ro, 0⟩, ⟨20, 3, .ro, 0⟩, ⟨24, 3, .ro, 0⟩, ⟨28, 3, .ro, 0⟩]⟩

/-- NI_ID (05_network_interfaces). -/
def Off.NI_ID (i : Nat) : Nat := 0xC00000 + 0x2000 * i
def Fld.NI_ID.NI : Fld := ⟨32, 8⟩
def Fld.NI_ID.TYPE : Fld := ⟨29, 3⟩
def Fld.NI_ID.PORT : Fld := ⟨28, 1⟩
def Fld.NI_ID.TILE : Fld := ⟨20, 8⟩
def Fld.NI_ID.ISLAND : Fld := ⟨14, 6⟩
def Fld.NI_ID.BAND : Fld := ⟨12, 2⟩
def Fld.NI_ID.DIE : Fld := ⟨11, 1⟩
def Fld.NI_ID.HAS_METER : Fld := ⟨10, 1⟩
def Fld.NI_ID.HAS_DGT : Fld := ⟨9, 1⟩
def Row.NI_ID : RegRow := ⟨"NI_ID", 0xC00000, 0x2000, 256, 0x0, 1, .always, [⟨32, 8, .ro, 0⟩, ⟨29, 3, .ro, 0⟩, ⟨28, 1, .ro, 0⟩, ⟨20, 8, .ro, 0⟩, ⟨14, 6, .ro, 0⟩, ⟨12, 2, .ro, 0⟩, ⟨11, 1, .ro, 0⟩, ⟨10, 1, .ro, 0⟩, ⟨9, 1, .ro, 0⟩]⟩

/-- NI_CTRL (05_network_interfaces). -/
def Off.NI_CTRL (i : Nat) : Nat := 0xC00008 + 0x2000 * i
def Fld.NI_CTRL.CE_REPORT : Fld := ⟨8, 1⟩
def Fld.NI_CTRL.FENCE_SW : Fld := ⟨7, 1⟩
def Fld.NI_CTRL.TAG_COMMIT : Fld := ⟨1, 1⟩
def Fld.NI_CTRL.LOSS_COMMIT : Fld := ⟨0, 1⟩
def Row.NI_CTRL : RegRow := ⟨"NI_CTRL", 0xC00008, 0x2000, 256, 0x0, 1, .always, [⟨8, 1, .rw, 1⟩, ⟨7, 1, .rw, 0⟩, ⟨1, 1, .sc, 0⟩, ⟨0, 1, .sc, 0⟩]⟩

/-- NI_STATUS (05_network_interfaces). -/
def Off.NI_STATUS (i : Nat) : Nat := 0xC00010 + 0x2000 * i
def Fld.NI_STATUS.EPOCH : Fld := ⟨38, 2⟩
def Fld.NI_STATUS.DRAINING : Fld := ⟨37, 1⟩
def Fld.NI_STATUS.EPOCH_HOLD : Fld := ⟨36, 1⟩
def Fld.NI_STATUS.FENCED : Fld := ⟨35, 1⟩
def Fld.NI_STATUS.FENCE_HW : Fld := ⟨34, 1⟩
def Fld.NI_STATUS.TX_FREE : Fld := ⟨21, 11⟩
def Fld.NI_STATUS.RX_FREE : Fld := ⟨10, 11⟩
def Row.NI_STATUS : RegRow := ⟨"NI_STATUS", 0xC00010, 0x2000, 256, 0x0, 1, .always, [⟨38, 2, .ro, 0⟩, ⟨37, 1, .ro, 0⟩, ⟨36, 1, .ro, 0⟩, ⟨35, 1, .ro, 0⟩, ⟨34, 1, .ro, 0⟩, ⟨21, 11, .ro, 1024⟩, ⟨10, 11, .ro, 1024⟩]⟩

/-- NI_LOSS (05_network_interfaces). -/
def Off.NI_LOSS (i : Nat) : Nat := 0xC00018 + 0x2000 * i
def Fld.NI_LOSS.BAND : Fld := ⟨60, 4⟩
def Fld.NI_LOSS.SEAM : Fld := ⟨48, 12⟩
def Fld.NI_LOSS.ISLAND : Fld := ⟨0, 48⟩
def Row.NI_LOSS : RegRow := ⟨"NI_LOSS", 0xC00018, 0x2000, 256, 0x0, 1, .always, [⟨60, 4, .st, 0⟩, ⟨48, 12, .st, 0⟩, ⟨0, 48, .st, 0⟩]⟩

/-- NI_PEA_DOWN (05_network_interfaces). -/
def Off.NI_PEA_DOWN (i : Nat) : Nat := 0xC00020 + 0x2000 * i
def Fld.NI_PEA_DOWN.DOWN : Fld := ⟨0, 64⟩
def Row.NI_PEA_DOWN : RegRow := ⟨"NI_PEA_DOWN", 0xC00020, 0x2000, 256, 0x0, 1, .always, [⟨0, 64, .st, 0⟩]⟩

/-- NI_TIMEOUT (05_network_interfaces). -/
def Off.NI_TIMEOUT (i : Nat) : Nat := 0xC00028 + 0x2000 * i
def Fld.NI_TIMEOUT.QUAR : Fld := ⟨16, 4⟩
def Fld.NI_TIMEOUT.TO_MEM : Fld := ⟨12, 4⟩
def Fld.NI_TIMEOUT.TO_IO : Fld := ⟨8, 4⟩
def Fld.NI_TIMEOUT.TO_CFG : Fld := ⟨4, 4⟩
def Fld.NI_TIMEOUT.TO_COH : Fld := ⟨0, 4⟩
def Row.NI_TIMEOUT : RegRow := ⟨"NI_TIMEOUT", 0xC00028, 0x2000, 256, 0x0, 1, .always, [⟨16, 4, .rw, 10⟩, ⟨12, 4, .rw, 8⟩, ⟨8, 4, .rw, 10⟩, ⟨4, 4, .rw, 6⟩, ⟨0, 4, .rw, 8⟩]⟩

/-- NI_RETRY (05_network_interfaces). -/
def Off.NI_RETRY (i : Nat) : Nat := 0xC00030 + 0x2000 * i
def Fld.NI_RETRY.BACKOFF : Fld := ⟨8, 8⟩
def Fld.NI_RETRY.MAX : Fld := ⟨0, 4⟩
def Row.NI_RETRY : RegRow := ⟨"NI_RETRY", 0xC00030, 0x2000, 256, 0x0, 1, .always, [⟨8, 8, .rw, 4⟩, ⟨0, 4, .rw, 8⟩]⟩

/-- NI_TAG_CFG (05_network_interfaces). -/
def Off.NI_TAG_CFG (i : Nat) : Nat := 0xC00038 + 0x2000 * i
def Fld.NI_TAG_CFG.RSV_IO : Fld := ⟨8, 8⟩
def Fld.NI_TAG_CFG.RSV_COH : Fld := ⟨0, 8⟩
def Row.NI_TAG_CFG : RegRow := ⟨"NI_TAG_CFG", 0xC00038, 0x2000, 256, 0x0, 1, .always, [⟨8, 8, .st, 32⟩, ⟨0, 8, .st, 32⟩]⟩

/-- NI_TAG_STATUS (05_network_interfaces). -/
def Off.NI_TAG_STATUS (i : Nat) : Nat := 0xC00040 + 0x2000 * i
def Fld.NI_TAG_STATUS.OPEN : Fld := ⟨45, 9⟩
def Fld.NI_TAG_STATUS.RETRY_WAIT : Fld := ⟨36, 9⟩
def Fld.NI_TAG_STATUS.QUARANTINE : Fld := ⟨27, 9⟩
def Fld.NI_TAG_STATUS.HIGH_WATER : Fld := ⟨18, 9⟩
def Row.NI_TAG_STATUS : RegRow := ⟨"NI_TAG_STATUS", 0xC00040, 0x2000, 256, 0x0, 1, .always, [⟨45, 9, .ro, 0⟩, ⟨36, 9, .ro, 0⟩, ⟨27, 9, .ro, 0⟩, ⟨18, 9, .ro, 0⟩]⟩

/-- NI_ROUTE_CNT (05_network_interfaces). -/
def Off.NI_ROUTE_CNT (i : Nat) : Nat := 0xC00048 + 0x2000 * i
def Fld.NI_ROUTE_CNT.ALT_USED : Fld := ⟨48, 16⟩
def Fld.NI_ROUTE_CNT.NO_ROUTE : Fld := ⟨32, 16⟩
def Fld.NI_ROUTE_CNT.DGT_ALT : Fld := ⟨16, 16⟩
def Fld.NI_ROUTE_CNT.GT_DEMOTED : Fld := ⟨0, 16⟩
def Row.NI_ROUTE_CNT : RegRow := ⟨"NI_ROUTE_CNT", 0xC00048, 0x2000, 256, 0x0, 1, .always, [⟨48, 16, .ro, 0⟩, ⟨32, 16, .ro, 0⟩, ⟨16, 16, .ro, 0⟩, ⟨0, 16, .ro, 0⟩]⟩

/-- NI_ERR_STATUS (05_network_interfaces). -/
def Off.NI_ERR_STATUS (i : Nat) : Nat := 0xC00050 + 0x2000 * i
def Fld.NI_ERR_STATUS.TAG_CFG : Fld := ⟨10, 1⟩
def Fld.NI_ERR_STATUS.MALFORMED : Fld := ⟨9, 1⟩
def Fld.NI_ERR_STATUS.DECODE_MISS : Fld := ⟨8, 1⟩
def Fld.NI_ERR_STATUS.BUF_CE : Fld := ⟨7, 1⟩
def Fld.NI_ERR_STATUS.BUF_UE : Fld := ⟨6, 1⟩
def Fld.NI_ERR_STATUS.TIMEOUT : Fld := ⟨5, 1⟩
def Fld.NI_ERR_STATUS.RETRY_EXH : Fld := ⟨4, 1⟩
def Fld.NI_ERR_STATUS.RSP_STRAY : Fld := ⟨3, 1⟩
def Fld.NI_ERR_STATUS.RSP_LATE : Fld := ⟨2, 1⟩
def Fld.NI_ERR_STATUS.NO_ROUTE : Fld := ⟨1, 1⟩
def Fld.NI_ERR_STATUS.DGT_INVALID : Fld := ⟨0, 1⟩
def Row.NI_ERR_STATUS : RegRow := ⟨"NI_ERR_STATUS", 0xC00050, 0x2000, 256, 0x0, 1, .always, [⟨10, 1, .w1c, 0⟩, ⟨9, 1, .w1c, 0⟩, ⟨8, 1, .w1c, 0⟩, ⟨7, 1, .w1c, 0⟩, ⟨6, 1, .w1c, 0⟩, ⟨5, 1, .w1c, 0⟩, ⟨4, 1, .w1c, 0⟩, ⟨3, 1, .w1c, 0⟩, ⟨2, 1, .w1c, 0⟩, ⟨1, 1, .w1c, 0⟩, ⟨0, 1, .w1c, 0⟩]⟩

/-- NI_ERR_CNT (05_network_interfaces). -/
def Off.NI_ERR_CNT (i : Nat) : Nat := 0xC00058 + 0x2000 * i
def Fld.NI_ERR_CNT.TIMEOUTS : Fld := ⟨48, 16⟩
def Fld.NI_ERR_CNT.STRAY : Fld := ⟨32, 16⟩
def Fld.NI_ERR_CNT.LATE : Fld := ⟨16, 16⟩
def Fld.NI_ERR_CNT.FENCE_DROPS : Fld := ⟨0, 16⟩
def Row.NI_ERR_CNT : RegRow := ⟨"NI_ERR_CNT", 0xC00058, 0x2000, 256, 0x0, 1, .always, [⟨48, 16, .ro, 0⟩, ⟨32, 16, .ro, 0⟩, ⟨16, 16, .ro, 0⟩, ⟨0, 16, .ro, 0⟩]⟩

/-- NI_BUF_ERR (05_network_interfaces). -/
def Off.NI_BUF_ERR (i : Nat) : Nat := 0xC00060 + 0x2000 * i
def Fld.NI_BUF_ERR.CE_TX : Fld := ⟨48, 16⟩
def Fld.NI_BUF_ERR.CE_RX : Fld := ⟨32, 16⟩
def Fld.NI_BUF_ERR.UE_TX : Fld := ⟨24, 8⟩
def Fld.NI_BUF_ERR.UE_RX : Fld := ⟨16, 8⟩
def Fld.NI_BUF_ERR.LAST_BUF : Fld := ⟨15, 1⟩
def Fld.NI_BUF_ERR.LAST_LINE : Fld := ⟨0, 10⟩
def Row.NI_BUF_ERR : RegRow := ⟨"NI_BUF_ERR", 0xC00060, 0x2000, 256, 0x0, 1, .always, [⟨48, 16, .ro, 0⟩, ⟨32, 16, .ro, 0⟩, ⟨24, 8, .ro, 0⟩, ⟨16, 8, .ro, 0⟩, ⟨15, 1, .ro, 0⟩, ⟨0, 10, .ro, 0⟩]⟩

/-- NI_TAG_SEL (05_network_interfaces). -/
def Off.NI_TAG_SEL (i : Nat) : Nat := 0xC00068 + 0x2000 * i
def Fld.NI_TAG_SEL.TAG : Fld := ⟨0, 8⟩
def Row.NI_TAG_SEL : RegRow := ⟨"NI_TAG_SEL", 0xC00068, 0x2000, 256, 0x0, 1, .always, [⟨0, 8, .rw, 0⟩]⟩

/-- NI_TAG_INFO (05_network_interfaces). -/
def Off.NI_TAG_INFO (i : Nat) : Nat := 0xC00070 + 0x2000 * i
def Fld.NI_TAG_INFO.STATE : Fld := ⟨62, 2⟩
def Fld.NI_TAG_INFO.RESENDS : Fld := ⟨58, 4⟩
def Fld.NI_TAG_INFO.VN : Fld := ⟨55, 3⟩
def Fld.NI_TAG_INFO.EPOCH : Fld := ⟨53, 2⟩
def Fld.NI_TAG_INFO.DEST : Fld := ⟨45, 8⟩
def Fld.NI_TAG_INFO.SENT : Fld := ⟨8, 32⟩
def Row.NI_TAG_INFO : RegRow := ⟨"NI_TAG_INFO", 0xC00070, 0x2000, 256, 0x0, 1, .always, [⟨62, 2, .ro, 0⟩, ⟨58, 4, .ro, 0⟩, ⟨55, 3, .ro, 0⟩, ⟨53, 2, .ro, 0⟩, ⟨45, 8, .ro, 0⟩, ⟨8, 32, .ro, 0⟩]⟩

/-- NI_AFENCE_k (05_network_interfaces). -/
def Off.NI_AFENCE (i : Nat) (j : Nat) : Nat := 0xC00080 + 0x2000 * i + 0x8 * j
def Fld.NI_AFENCE.VALID : Fld := ⟨63, 1⟩
def Fld.NI_AFENCE.MASK : Fld := ⟨12, 12⟩
def Fld.NI_AFENCE.AGENT : Fld := ⟨0, 12⟩
def Row.NI_AFENCE : RegRow := ⟨"NI_AFENCE", 0xC00080, 0x2000, 256, 0x8, 4, .always, [⟨63, 1, .rw, 0⟩, ⟨12, 12, .rw, 0⟩, ⟨0, 12, .rw, 0⟩]⟩

/-- HS_ID (07_home_slices). -/
def Off.HS_ID (i : Nat) : Nat := 0xE00000 + 0x10000 * i
def Fld.HS_ID.SLICE : Fld := ⟨12, 4⟩
def Fld.HS_ID.NI : Fld := ⟨4, 8⟩
def Fld.HS_ID.DIE : Fld := ⟨0, 1⟩
def Row.HS_ID : RegRow := ⟨"HS_ID", 0xE00000, 0x10000, 16, 0x0, 1, .always, [⟨12, 4, .ro, 0⟩, ⟨4, 8, .ro, 0⟩, ⟨0, 1, .ro, 0⟩]⟩

/-- HS_CTRL (07_home_slices). -/
def Off.HS_CTRL (i : Nat) : Nat := 0xE00008 + 0x10000 * i
def Fld.HS_CTRL.CE_THRESH : Fld := ⟨8, 4⟩
def Fld.HS_CTRL.ARB_COMMIT : Fld := ⟨3, 1⟩
def Fld.HS_CTRL.DIAG_EN : Fld := ⟨2, 1⟩
def Fld.HS_CTRL.SCRUB_EN : Fld := ⟨1, 1⟩
def Fld.HS_CTRL.CE_REPORT : Fld := ⟨0, 1⟩
def Row.HS_CTRL : RegRow := ⟨"HS_CTRL", 0xE00008, 0x10000, 16, 0x0, 1, .always, [⟨8, 4, .rw, 3⟩, ⟨3, 1, .sc, 0⟩, ⟨2, 1, .rw, 0⟩, ⟨1, 1, .rw, 1⟩, ⟨0, 1, .rw, 1⟩]⟩

/-- HS_STATUS (07_home_slices). -/
def Off.HS_STATUS (i : Nat) : Nat := 0xE00010 + 0x10000 * i
def Fld.HS_STATUS.RECORDS : Fld := ⟨46, 9⟩
def Fld.HS_STATUS.WAITING : Fld := ⟨36, 10⟩
def Fld.HS_STATUS.VEC_FREE : Fld := ⟨23, 13⟩
def Fld.HS_STATUS.STG_FREE : Fld := ⟨13, 10⟩
def Row.HS_STATUS : RegRow := ⟨"HS_STATUS", 0xE00010, 0x10000, 16, 0x0, 1, .always, [⟨46, 9, .ro, 0⟩, ⟨36, 10, .ro, 0⟩, ⟨23, 13, .ro, 4096⟩, ⟨13, 10, .ro, 512⟩]⟩

/-- HS_ARB_CFG (07_home_slices). -/
def Off.HS_ARB_CFG (i : Nat) : Nat := 0xE00018 + 0x10000 * i
def Fld.HS_ARB_CFG.WINDOW : Fld := ⟨16, 16⟩
def Fld.HS_ARB_CFG.HI : Fld := ⟨8, 8⟩
def Fld.HS_ARB_CFG.PREEMPT : Fld := ⟨0, 2⟩
def Row.HS_ARB_CFG : RegRow := ⟨"HS_ARB_CFG", 0xE00018, 0x10000, 16, 0x0, 1, .always, [⟨16, 16, .st, 256⟩, ⟨8, 8, .st, 7⟩, ⟨0, 2, .st, 3⟩]⟩

/-- HS_ARB_QUOTA (07_home_slices). -/
def Off.HS_ARB_QUOTA (i : Nat) : Nat := 0xE00020 + 0x10000 * i
def Fld.HS_ARB_QUOTA.QUOTA (k : Nat) : Fld := ⟨8 * k + 0, 8⟩
def Row.HS_ARB_QUOTA : RegRow := ⟨"HS_ARB_QUOTA", 0xE00020, 0x10000, 16, 0x0, 1, .always, [⟨0, 8, .st, 96⟩, ⟨8, 8, .st, 0⟩, ⟨16, 8, .st, 128⟩, ⟨24, 8, .st, 0⟩, ⟨32, 8, .st, 0⟩, ⟨40, 8, .st, 0⟩]⟩

/-- HS_ARB_STATUS (07_home_slices). -/
def Off.HS_ARB_STATUS (i : Nat) : Nat := 0xE00028 + 0x10000 * i
def Fld.HS_ARB_STATUS.PREEMPTS : Fld := ⟨48, 16⟩
def Fld.HS_ARB_STATUS.AGE_GRANTS : Fld := ⟨32, 16⟩
def Fld.HS_ARB_STATUS.DECISION : Fld := ⟨8, 3⟩
def Fld.HS_ARB_STATUS.MASKED : Fld := ⟨0, 6⟩
def Row.HS_ARB_STATUS : RegRow := ⟨"HS_ARB_STATUS", 0xE00028, 0x10000, 16, 0x0, 1, .always, [⟨48, 16, .ro, 0⟩, ⟨32, 16, .ro, 0⟩, ⟨8, 3, .ro, 0⟩, ⟨0, 6, .ro, 0⟩]⟩

/-- HS_WEAR (07_home_slices). -/
def Off.HS_WEAR (i : Nat) : Nat := 0xE00030 + 0x10000 * i
def Fld.HS_WEAR.SPARES_USED : Fld := ⟨57, 7⟩
def Fld.HS_WEAR.SPARES_DEAD : Fld := ⟨50, 7⟩
def Fld.HS_WEAR.WAYS_RETIRED : Fld := ⟨32, 18⟩
def Fld.HS_WEAR.BCAST_SETS : Fld := ⟨17, 15⟩
def Fld.HS_WEAR.BCAST_LIMIT : Fld := ⟨16, 1⟩
def Fld.HS_WEAR.VOLATILE : Fld := ⟨0, 16⟩
def Row.HS_WEAR : RegRow := ⟨"HS_WEAR", 0xE00030, 0x10000, 16, 0x0, 1, .always, [⟨57, 7, .ro, 0⟩, ⟨50, 7, .ro, 0⟩, ⟨32, 18, .ro, 0⟩, ⟨17, 15, .ro, 0⟩, ⟨16, 1, .ro, 0⟩, ⟨0, 16, .ro, 0⟩]⟩

/-- HS_DIR_ERR (07_home_slices). -/
def Off.HS_DIR_ERR (i : Nat) : Nat := 0xE00038 + 0x10000 * i
def Fld.HS_DIR_ERR.CE : Fld := ⟨48, 16⟩
def Fld.HS_DIR_ERR.UE : Fld := ⟨40, 8⟩
def Fld.HS_DIR_ERR.LAST_STORE : Fld := ⟨37, 3⟩
def Fld.HS_DIR_ERR.LAST_SET : Fld := ⟨22, 15⟩
def Fld.HS_DIR_ERR.LAST_WAY : Fld := ⟨18, 4⟩
def Row.HS_DIR_ERR : RegRow := ⟨"HS_DIR_ERR", 0xE00038, 0x10000, 16, 0x0, 1, .always, [⟨48, 16, .ro, 0⟩, ⟨40, 8, .ro, 0⟩, ⟨37, 3, .ro, 0⟩, ⟨22, 15, .ro, 0⟩, ⟨18, 4, .ro, 0⟩]⟩

/-- HS_ERR_STATUS (07_home_slices). -/
def Off.HS_ERR_STATUS (i : Nat) : Nat := 0xE00040 + 0x10000 * i
def Fld.HS_ERR_STATUS.MAP_MISS : Fld := ⟨8, 1⟩
def Fld.HS_ERR_STATUS.STG_UE : Fld := ⟨7, 1⟩
def Fld.HS_ERR_STATUS.STG_CE : Fld := ⟨6, 1⟩
def Fld.HS_ERR_STATUS.TAG_LOST : Fld := ⟨5, 1⟩
def Fld.HS_ERR_STATUS.BCAST : Fld := ⟨4, 1⟩
def Fld.HS_ERR_STATUS.RETIRED : Fld := ⟨3, 1⟩
def Fld.HS_ERR_STATUS.SPARED : Fld := ⟨2, 1⟩
def Fld.HS_ERR_STATUS.DIR_UE : Fld := ⟨1, 1⟩
def Fld.HS_ERR_STATUS.DIR_CE : Fld := ⟨0, 1⟩
def Row.HS_ERR_STATUS : RegRow := ⟨"HS_ERR_STATUS", 0xE00040, 0x10000, 16, 0x0, 1, .always, [⟨8, 1, .w1c, 0⟩, ⟨7, 1, .w1c, 0⟩, ⟨6, 1, .w1c, 0⟩, ⟨5, 1, .w1c, 0⟩, ⟨4, 1, .w1c, 0⟩, ⟨3, 1, .w1c, 0⟩, ⟨2, 1, .w1c, 0⟩, ⟨1, 1, .w1c, 0⟩, ⟨0, 1, .w1c, 0⟩]⟩

/-- HS_STG_ERR (07_home_slices). -/
def Off.HS_STG_ERR (i : Nat) : Nat := 0xE00048 + 0x10000 * i
def Fld.HS_STG_ERR.CE : Fld := ⟨48, 16⟩
def Fld.HS_STG_ERR.UE : Fld := ⟨40, 8⟩
def Fld.HS_STG_ERR.LAST_LINE : Fld := ⟨0, 9⟩
def Row.HS_STG_ERR : RegRow := ⟨"HS_STG_ERR", 0xE00048, 0x10000, 16, 0x0, 1, .always, [⟨48, 16, .ro, 0⟩, ⟨40, 8, .ro, 0⟩, ⟨0, 9, .ro, 0⟩]⟩

/-- HS_SCRUB_CFG (07_home_slices). -/
def Off.HS_SCRUB_CFG (i : Nat) : Nat := 0xE00050 + 0x10000 * i
def Fld.HS_SCRUB_CFG.MIN_LAP : Fld := ⟨0, 16⟩
def Row.HS_SCRUB_CFG : RegRow := ⟨"HS_SCRUB_CFG", 0xE00050, 0x10000, 16, 0x0, 1, .always, [⟨0, 16, .rw, 64⟩]⟩

/-- HS_SCRUB_STATUS (07_home_slices). -/
def Off.HS_SCRUB_STATUS (i : Nat) : Nat := 0xE00058 + 0x10000 * i
def Fld.HS_SCRUB_STATUS.LAP_FT : Fld := ⟨16, 48⟩
def Fld.HS_SCRUB_STATUS.PHASE : Fld := ⟨14, 2⟩
def Fld.HS_SCRUB_STATUS.POS : Fld := ⟨0, 14⟩
def Row.HS_SCRUB_STATUS : RegRow := ⟨"HS_SCRUB_STATUS", 0xE00058, 0x10000, 16, 0x0, 1, .always, [⟨16, 48, .ro, 0⟩, ⟨14, 2, .ro, 0⟩, ⟨0, 14, .ro, 0⟩]⟩

/-- HS_DIAG_SEL (07_home_slices). -/
def Off.HS_DIAG_SEL (i : Nat) : Nat := 0xE00060 + 0x10000 * i
def Fld.HS_DIAG_SEL.STORE : Fld := ⟨29, 3⟩
def Fld.HS_DIAG_SEL.INDEX : Fld := ⟨15, 14⟩
def Fld.HS_DIAG_SEL.WAY : Fld := ⟨11, 4⟩
def Fld.HS_DIAG_SEL.GO : Fld := ⟨0, 1⟩
def Row.HS_DIAG_SEL : RegRow := ⟨"HS_DIAG_SEL", 0xE00060, 0x10000, 16, 0x0, 1, .always, [⟨29, 3, .rw, 0⟩, ⟨15, 14, .rw, 0⟩, ⟨11, 4, .rw, 0⟩, ⟨0, 1, .sc, 0⟩]⟩

/-- HS_DIAG_DATA (07_home_slices). -/
def Off.HS_DIAG_DATA (i : Nat) : Nat := 0xE00068 + 0x10000 * i
def Fld.HS_DIAG_DATA.DATA : Fld := ⟨0, 64⟩
def Row.HS_DIAG_DATA : RegRow := ⟨"HS_DIAG_DATA", 0xE00068, 0x10000, 16, 0x0, 1, .always, [⟨0, 64, .rw, 0⟩]⟩

/-- GL_LEDGER_CFG (07_home_slices). -/
def Off.GL_LEDGER_CFG : Nat := 0x40
def Fld.GL_LEDGER_CFG.BASE : Fld := ⟨32, 32⟩
def Fld.GL_LEDGER_CFG.ENABLE : Fld := ⟨0, 1⟩
def Row.GL_LEDGER_CFG : RegRow := ⟨"GL_LEDGER_CFG", 0x40, 0x0, 1, 0x0, 1, .always, [⟨32, 32, .bl, 0⟩, ⟨0, 1, .bl, 0⟩]⟩

/-- GL_LEDGER_STATUS (07_home_slices). -/
def Off.GL_LEDGER_STATUS : Nat := 0x48
def Fld.GL_LEDGER_STATUS.GEN : Fld := ⟨32, 32⟩
def Fld.GL_LEDGER_STATUS.COUNT : Fld := ⟨3, 13⟩
def Fld.GL_LEDGER_STATUS.COMPACTING : Fld := ⟨2, 1⟩
def Fld.GL_LEDGER_STATUS.FULL : Fld := ⟨1, 1⟩
def Fld.GL_LEDGER_STATUS.ACTIVE : Fld := ⟨0, 1⟩
def Row.GL_LEDGER_STATUS : RegRow := ⟨"GL_LEDGER_STATUS", 0x48, 0x0, 1, 0x0, 1, .always, [⟨32, 32, .rw, 0⟩, ⟨3, 13, .rw, 0⟩, ⟨2, 1, .rw, 0⟩, ⟨1, 1, .rw, 0⟩, ⟨0, 1, .rw, 0⟩]⟩

/-- GL_LID_CTRL (08_service_classes). -/
def Off.GL_LID_CTRL : Nat := 0x50
def Fld.GL_LID_CTRL.SAUCER : Fld := ⟨8, 4⟩
def Fld.GL_LID_CTRL.POT_CLOSE : Fld := ⟨0, 4⟩
def Row.GL_LID_CTRL : RegRow := ⟨"GL_LID_CTRL", 0x50, 0x0, 1, 0x0, 1, .always, [⟨8, 4, .ro, 0⟩, ⟨0, 4, .rw, 15⟩]⟩

/-- RT_HIST_SEL (08_service_classes). -/
def Off.RT_HIST_SEL (i : Nat) : Nat := 0x800100 + 0x4000 * i
def Fld.RT_HIST_SEL.CLEAR_ALL : Fld := ⟨9, 1⟩
def Fld.RT_HIST_SEL.CLEAR : Fld := ⟨8, 1⟩
def Fld.RT_HIST_SEL.QUEUE : Fld := ⟨0, 6⟩
def Row.RT_HIST_SEL : RegRow := ⟨"RT_HIST_SEL", 0x800100, 0x4000, 192, 0x0, 1, .always, [⟨9, 1, .sc, 0⟩, ⟨8, 1, .sc, 0⟩, ⟨0, 6, .rw, 0⟩]⟩

/-- RT_HIST_DATA_k (08_service_classes). -/
def Off.RT_HIST_DATA (i : Nat) (j : Nat) : Nat := 0x800108 + 0x4000 * i + 0x8 * j
def Fld.RT_HIST_DATA.BIN_HI : Fld := ⟨32, 32⟩
def Fld.RT_HIST_DATA.BIN_LO : Fld := ⟨0, 32⟩
def Row.RT_HIST_DATA : RegRow := ⟨"RT_HIST_DATA", 0x800108, 0x4000, 192, 0x8, 8, .always, [⟨32, 32, .ro, 0⟩, ⟨0, 32, .ro, 0⟩]⟩

/-- RT_HIST_INFO (08_service_classes). -/
def Off.RT_HIST_INFO (i : Nat) : Nat := 0x800148 + 0x4000 * i
def Fld.RT_HIST_INFO.SAMPLES : Fld := ⟨32, 32⟩
def Fld.RT_HIST_INFO.MAX_AGE : Fld := ⟨0, 32⟩
def Row.RT_HIST_INFO : RegRow := ⟨"RT_HIST_INFO", 0x800148, 0x4000, 192, 0x0, 1, .always, [⟨32, 32, .ro, 0⟩, ⟨0, 32, .ro, 0⟩]⟩

/-- NI_QOS_CTRL (08_service_classes). -/
def Off.NI_QOS_CTRL (i : Nat) : Nat := 0xC00400 + 0x2000 * i
def Fld.NI_QOS_CTRL.REFILL_LOG2 : Fld := ⟨12, 4⟩
def Fld.NI_QOS_CTRL.METER_CFG_ERR : Fld := ⟨5, 1⟩
def Fld.NI_QOS_CTRL.SHAPER_CFG_ERR : Fld := ⟨4, 1⟩
def Fld.NI_QOS_CTRL.METER_COMMIT : Fld := ⟨1, 1⟩
def Fld.NI_QOS_CTRL.SHAPER_COMMIT : Fld := ⟨0, 1⟩
def Row.NI_QOS_CTRL : RegRow := ⟨"NI_QOS_CTRL", 0xC00400, 0x2000, 256, 0x0, 1, .always, [⟨12, 4, .st, 8⟩, ⟨5, 1, .w1c, 0⟩, ⟨4, 1, .w1c, 0⟩, ⟨1, 1, .sc, 0⟩, ⟨0, 1, .sc, 0⟩]⟩

/-- NI_PRI_MAP (08_service_classes). -/
def Off.NI_PRI_MAP (i : Nat) : Nat := 0xC00408 + 0x2000 * i
def Fld.NI_PRI_MAP.PRI (k : Nat) : Fld := ⟨2 * k + 0, 2⟩
def Row.NI_PRI_MAP : RegRow := ⟨"NI_PRI_MAP", 0xC00408, 0x2000, 256, 0x0, 1, .always, [⟨0, 2, .ro, 0⟩, ⟨2, 2, .ro, 0⟩, ⟨4, 2, .ro, 0⟩, ⟨6, 2, .ro, 0⟩, ⟨8, 2, .ro, 0⟩, ⟨10, 2, .ro, 0⟩, ⟨12, 2, .ro, 0⟩, ⟨14, 2, .ro, 0⟩]⟩

/-- NI_SHAPER_CFG_p (08_service_classes). -/
def Off.NI_SHAPER_CFG (i : Nat) (j : Nat) : Nat := 0xC00410 + 0x2000 * i + 0x10 * j
def Fld.NI_SHAPER_CFG.EN : Fld := ⟨63, 1⟩
def Fld.NI_SHAPER_CFG.RATE : Fld := ⟨32, 16⟩
def Fld.NI_SHAPER_CFG.HI : Fld := ⟨16, 16⟩
def Fld.NI_SHAPER_CFG.LO : Fld := ⟨0, 16⟩
def Row.NI_SHAPER_CFG : RegRow := ⟨"NI_SHAPER_CFG", 0xC00410, 0x2000, 256, 0x10, 4, .always, [⟨63, 1, .st, 0⟩, ⟨32, 16, .st, 0⟩, ⟨16, 16, .st, 0⟩, ⟨0, 16, .st, 0⟩]⟩

/-- NI_SHAPER_STAT_p (08_service_classes). -/
def Off.NI_SHAPER_STAT (i : Nat) (j : Nat) : Nat := 0xC00418 + 0x2000 * i + 0x10 * j
def Fld.NI_SHAPER_STAT.CREDIT : Fld := ⟨32, 32⟩
def Fld.NI_SHAPER_STAT.BUSY : Fld := ⟨16, 16⟩
def Fld.NI_SHAPER_STAT.HELD : Fld := ⟨0, 1⟩
def Row.NI_SHAPER_STAT : RegRow := ⟨"NI_SHAPER_STAT", 0xC00418, 0x2000, 256, 0x10, 4, .always, [⟨32, 32, .ro, 0⟩, ⟨16, 16, .ro, 0⟩, ⟨0, 1, .ro, 0⟩]⟩

/-- NI_METER_SEL (08_service_classes). -/
def Off.NI_METER_SEL (i : Nat) : Nat := 0xC00480 + 0x2000 * i
def Fld.NI_METER_SEL.METER : Fld := ⟨0, 4⟩
def Row.NI_METER_SEL : RegRow := ⟨"NI_METER_SEL", 0xC00480, 0x2000, 256, 0x0, 1, .meters, [⟨0, 4, .rw, 0⟩]⟩

/-- NI_METER_RATE (08_service_classes). -/
def Off.NI_METER_RATE (i : Nat) : Nat := 0xC00488 + 0x2000 * i
def Fld.NI_METER_RATE.EN : Fld := ⟨63, 1⟩
def Fld.NI_METER_RATE.DROP_RED : Fld := ⟨62, 1⟩
def Fld.NI_METER_RATE.PIR : Fld := ⟨16, 16⟩
def Fld.NI_METER_RATE.CIR : Fld := ⟨0, 16⟩
def Row.NI_METER_RATE : RegRow := ⟨"NI_METER_RATE", 0xC00488, 0x2000, 256, 0x0, 1, .meters, [⟨63, 1, .st, 0⟩, ⟨62, 1, .st, 0⟩, ⟨16, 16, .st, 0⟩, ⟨0, 16, .st, 0⟩]⟩

/-- NI_METER_BURST (08_service_classes). -/
def Off.NI_METER_BURST (i : Nat) : Nat := 0xC00490 + 0x2000 * i
def Fld.NI_METER_BURST.PBS : Fld := ⟨24, 24⟩
def Fld.NI_METER_BURST.CBS : Fld := ⟨0, 24⟩
def Row.NI_METER_BURST : RegRow := ⟨"NI_METER_BURST", 0xC00490, 0x2000, 256, 0x0, 1, .meters, [⟨24, 24, .st, 0⟩, ⟨0, 24, .st, 0⟩]⟩

/-- NI_METER_TOK (08_service_classes). -/
def Off.NI_METER_TOK (i : Nat) : Nat := 0xC00498 + 0x2000 * i
def Fld.NI_METER_TOK.TP : Fld := ⟨32, 32⟩
def Fld.NI_METER_TOK.TC : Fld := ⟨0, 32⟩
def Row.NI_METER_TOK : RegRow := ⟨"NI_METER_TOK", 0xC00498, 0x2000, 256, 0x0, 1, .meters, [⟨32, 32, .ro, 0⟩, ⟨0, 32, .ro, 0⟩]⟩

/-- NI_METER_CNT (08_service_classes). -/
def Off.NI_METER_CNT (i : Nat) : Nat := 0xC004A0 + 0x2000 * i
def Fld.NI_METER_CNT.GREEN : Fld := ⟨48, 16⟩
def Fld.NI_METER_CNT.YELLOW : Fld := ⟨32, 16⟩
def Fld.NI_METER_CNT.RED : Fld := ⟨16, 16⟩
def Fld.NI_METER_CNT.DROPPED : Fld := ⟨0, 16⟩
def Row.NI_METER_CNT : RegRow := ⟨"NI_METER_CNT", 0xC004A0, 0x2000, 256, 0x0, 1, .meters, [⟨48, 16, .ro, 0⟩, ⟨32, 16, .ro, 0⟩, ⟨16, 16, .ro, 0⟩, ⟨0, 16, .ro, 0⟩]⟩

/-- NI_METER_MATCH_k (08_service_classes). -/
def Off.NI_METER_MATCH (i : Nat) (j : Nat) : Nat := 0xC004C0 + 0x2000 * i + 0x8 * j
def Fld.NI_METER_MATCH.VALID : Fld := ⟨63, 1⟩
def Fld.NI_METER_MATCH.METER : Fld := ⟨24, 4⟩
def Fld.NI_METER_MATCH.MASK : Fld := ⟨12, 12⟩
def Fld.NI_METER_MATCH.AGENT : Fld := ⟨0, 12⟩
def Row.NI_METER_MATCH : RegRow := ⟨"NI_METER_MATCH", 0xC004C0, 0x2000, 256, 0x8, 8, .meters, [⟨63, 1, .st, 0⟩, ⟨24, 4, .st, 0⟩, ⟨12, 12, .st, 0⟩, ⟨0, 12, .st, 0⟩]⟩

/-- NI_GT_STATUS (08_service_classes). -/
def Off.NI_GT_STATUS (i : Nat) : Nat := 0xC00500 + 0x2000 * i
def Fld.NI_GT_STATUS.DEMOTED_ROUTE : Fld := ⟨32, 32⟩
def Fld.NI_GT_STATUS.ACTIVE : Fld := ⟨0, 32⟩
def Row.NI_GT_STATUS : RegRow := ⟨"NI_GT_STATUS", 0xC00500, 0x2000, 256, 0x0, 1, .always, [⟨32, 32, .ro, 0⟩, ⟨0, 32, .ro, 0⟩]⟩

/-- NI_GT_CNT (08_service_classes). -/
def Off.NI_GT_CNT (i : Nat) : Nat := 0xC00508 + 0x2000 * i
def Fld.NI_GT_CNT.SENT_P3 : Fld := ⟨48, 16⟩
def Fld.NI_GT_CNT.SENT_P2 : Fld := ⟨32, 16⟩
def Fld.NI_GT_CNT.SLOT_MISSED : Fld := ⟨16, 16⟩
def Fld.NI_GT_CNT.OVERSIZE : Fld := ⟨0, 16⟩
def Row.NI_GT_CNT : RegRow := ⟨"NI_GT_CNT", 0xC00508, 0x2000, 256, 0x0, 1, .always, [⟨48, 16, .ro, 0⟩, ⟨32, 16, .ro, 0⟩, ⟨16, 16, .ro, 0⟩, ⟨0, 16, .ro, 0⟩]⟩

/-- NI_HIST_SEL (08_service_classes). -/
def Off.NI_HIST_SEL (i : Nat) : Nat := 0xC00580 + 0x2000 * i
def Fld.NI_HIST_SEL.CLEAR_ALL : Fld := ⟨9, 1⟩
def Fld.NI_HIST_SEL.CLEAR : Fld := ⟨8, 1⟩
def Fld.NI_HIST_SEL.QUEUE : Fld := ⟨0, 4⟩
def Row.NI_HIST_SEL : RegRow := ⟨"NI_HIST_SEL", 0xC00580, 0x2000, 256, 0x0, 1, .always, [⟨9, 1, .sc, 0⟩, ⟨8, 1, .sc, 0⟩, ⟨0, 4, .rw, 0⟩]⟩

/-- NI_HIST_DATA_k (08_service_classes). -/
def Off.NI_HIST_DATA (i : Nat) (j : Nat) : Nat := 0xC00588 + 0x2000 * i + 0x8 * j
def Fld.NI_HIST_DATA.BIN_HI : Fld := ⟨32, 32⟩
def Fld.NI_HIST_DATA.BIN_LO : Fld := ⟨0, 32⟩
def Row.NI_HIST_DATA : RegRow := ⟨"NI_HIST_DATA", 0xC00588, 0x2000, 256, 0x8, 8, .always, [⟨32, 32, .ro, 0⟩, ⟨0, 32, .ro, 0⟩]⟩

/-- NI_HIST_INFO (08_service_classes). -/
def Off.NI_HIST_INFO (i : Nat) : Nat := 0xC005C8 + 0x2000 * i
def Fld.NI_HIST_INFO.SAMPLES : Fld := ⟨32, 32⟩
def Fld.NI_HIST_INFO.MAX_AGE : Fld := ⟨0, 32⟩
def Row.NI_HIST_INFO : RegRow := ⟨"NI_HIST_INFO", 0xC005C8, 0x2000, 256, 0x0, 1, .always, [⟨32, 32, .ro, 0⟩, ⟨0, 32, .ro, 0⟩]⟩

/-- GL_EPOCH (09_blend_images_and_epochs). -/
def Off.GL_EPOCH : Nat := 0x60
def Fld.GL_EPOCH.NUMBER : Fld := ⟨32, 32⟩
def Fld.GL_EPOCH.BANK1 : Fld := ⟨26, 2⟩
def Fld.GL_EPOCH.BANK0 : Fld := ⟨24, 2⟩
def Fld.GL_EPOCH.STATE : Fld := ⟨8, 3⟩
def Fld.GL_EPOCH.SPLIT : Fld := ⟨1, 1⟩
def Fld.GL_EPOCH.DRAIN_SLOW : Fld := ⟨0, 1⟩
def Row.GL_EPOCH : RegRow := ⟨"GL_EPOCH", 0x60, 0x0, 1, 0x0, 1, .always, [⟨32, 32, .rw, 0⟩, ⟨26, 2, .rw, 0⟩, ⟨24, 2, .rw, 0⟩, ⟨8, 3, .rw, 0⟩, ⟨1, 1, .rw, 0⟩, ⟨0, 1, .rw, 0⟩]⟩

/-- GL_EPOCH_T (09_blend_images_and_epochs). -/
def Off.GL_EPOCH_T : Nat := 0x68
def Fld.GL_EPOCH_T.T : Fld := ⟨0, 64⟩
def Row.GL_EPOCH_T : RegRow := ⟨"GL_EPOCH_T", 0x68, 0x0, 1, 0x0, 1, .always, [⟨0, 64, .rw, 0⟩]⟩

/-- GL_EPOCH_DRAIN (09_blend_images_and_epochs). -/
def Off.GL_EPOCH_DRAIN : Nat := 0x70
def Fld.GL_EPOCH_DRAIN.FIRST_NI : Fld := ⟨56, 8⟩
def Fld.GL_EPOCH_DRAIN.PENDING : Fld := ⟨39, 9⟩
def Fld.GL_EPOCH_DRAIN.BALANCE : Fld := ⟨16, 16⟩
def Fld.GL_EPOCH_DRAIN.UNKNOWN : Fld := ⟨0, 16⟩
def Row.GL_EPOCH_DRAIN : RegRow := ⟨"GL_EPOCH_DRAIN", 0x70, 0x0, 1, 0x0, 1, .always, [⟨56, 8, .rw, 0⟩, ⟨39, 9, .rw, 0⟩, ⟨16, 16, .rw, 0⟩, ⟨0, 16, .rw, 0⟩]⟩

/-- GL_BANK_ID_k (09_blend_images_and_epochs). -/
def Off.GL_BANK_ID (i : Nat) : Nat := 0x78 + 0x8 * i
def Fld.GL_BANK_ID.IMAGE_ID : Fld := ⟨0, 64⟩
def Row.GL_BANK_ID : RegRow := ⟨"GL_BANK_ID", 0x78, 0x8, 2, 0x0, 1, .always, [⟨0, 64, .rw, 0⟩]⟩

/-- NI_EPOCH (09_blend_images_and_epochs). -/
def Off.NI_EPOCH (i : Nat) : Nat := 0xC000A0 + 0x2000 * i
def Fld.NI_EPOCH.ARMED : Fld := ⟨7, 1⟩
def Fld.NI_EPOCH.ARM_EPOCH : Fld := ⟨5, 2⟩
def Fld.NI_EPOCH.BANK : Fld := ⟨4, 1⟩
def Row.NI_EPOCH : RegRow := ⟨"NI_EPOCH", 0xC000A0, 0x2000, 256, 0x0, 1, .always, [⟨7, 1, .ro, 0⟩, ⟨5, 2, .ro, 0⟩, ⟨4, 1, .ro, 0⟩]⟩

/-- NI_EPOCH_TIME (09_blend_images_and_epochs). -/
def Off.NI_EPOCH_TIME (i : Nat) : Nat := 0xC000A8 + 0x2000 * i
def Fld.NI_EPOCH_TIME.T : Fld := ⟨0, 64⟩
def Row.NI_EPOCH_TIME : RegRow := ⟨"NI_EPOCH_TIME", 0xC000A8, 0x2000, 256, 0x0, 1, .always, [⟨0, 64, .ro, 0⟩]⟩

/-- NI_BANK_ID_k (09_blend_images_and_epochs). -/
def Off.NI_BANK_ID (i : Nat) (j : Nat) : Nat := 0xC000B0 + 0x2000 * i + 0x8 * j
def Fld.NI_BANK_ID.IMAGE_ID : Fld := ⟨0, 64⟩
def Row.NI_BANK_ID : RegRow := ⟨"NI_BANK_ID", 0xC000B0, 0x2000, 256, 0x8, 2, .always, [⟨0, 64, .ro, 0⟩]⟩

/-- NI_EPOCH_CNT (09_blend_images_and_epochs). -/
def Off.NI_EPOCH_CNT (i : Nat) : Nat := 0xC000C0 + 0x2000 * i
def Fld.NI_EPOCH_CNT.SENT : Fld := ⟨48, 16⟩
def Fld.NI_EPOCH_CNT.RECV : Fld := ⟨32, 16⟩
def Fld.NI_EPOCH_CNT.UNKN : Fld := ⟨16, 16⟩
def Row.NI_EPOCH_CNT : RegRow := ⟨"NI_EPOCH_CNT", 0xC000C0, 0x2000, 256, 0x0, 1, .always, [⟨48, 16, .ro, 0⟩, ⟨32, 16, .ro, 0⟩, ⟨16, 16, .ro, 0⟩]⟩

/-- RT_EPOCH_DISC (09_blend_images_and_epochs). -/
def Off.RT_EPOCH_DISC (i : Nat) : Nat := 0x800160 + 0x4000 * i
def Fld.RT_EPOCH_DISC.OLD_IOP : Fld := ⟨48, 16⟩
def Fld.RT_EPOCH_DISC.UNKNOWN : Fld := ⟨32, 16⟩
def Row.RT_EPOCH_DISC : RegRow := ⟨"RT_EPOCH_DISC", 0x800160, 0x4000, 192, 0x0, 1, .always, [⟨48, 16, .ro, 0⟩, ⟨32, 16, .ro, 0⟩]⟩

/-- NI_PORT_CFG (10_boundary_ports). -/
def Off.NI_PORT_CFG (i : Nat) : Nat := 0xC00200 + 0x2000 * i
def Fld.NI_PORT_CFG.AGENT : Fld := ⟨52, 12⟩
def Fld.NI_PORT_CFG.AGENT_MASK : Fld := ⟨40, 12⟩
def Fld.NI_PORT_CFG.PRIV_OK : Fld := ⟨7, 1⟩
def Fld.NI_PORT_CFG.MEM_PRIV : Fld := ⟨6, 1⟩
def Fld.NI_PORT_CFG.IO_PRIV : Fld := ⟨5, 1⟩
def Fld.NI_PORT_CFG.IO_ORDER : Fld := ⟨4, 1⟩
def Row.NI_PORT_CFG : RegRow := ⟨"NI_PORT_CFG", 0xC00200, 0x2000, 256, 0x0, 1, .ports, [⟨52, 12, .bl, 0⟩, ⟨40, 12, .bl, 0⟩, ⟨7, 1, .bl, 0⟩, ⟨6, 1, .bl, 0⟩, ⟨5, 1, .bl, 0⟩, ⟨4, 1, .rw, 1⟩]⟩

/-- NI_PORT_STATUS (10_boundary_ports). -/
def Off.NI_PORT_STATUS (i : Nat) : Nat := 0xC00208 + 0x2000 * i
def Fld.NI_PORT_STATUS.LINK_TAGS : Fld := ⟨32, 9⟩
def Fld.NI_PORT_STATUS.RECORDS : Fld := ⟨23, 9⟩
def Fld.NI_PORT_STATUS.UP : Fld := ⟨0, 1⟩
def Row.NI_PORT_STATUS : RegRow := ⟨"NI_PORT_STATUS", 0xC00208, 0x2000, 256, 0x0, 1, .ports, [⟨32, 9, .ro, 0⟩, ⟨23, 9, .ro, 0⟩, ⟨0, 1, .ro, 0⟩]⟩

/-- NI_PORT_ERR (10_boundary_ports). -/
def Off.NI_PORT_ERR (i : Nat) : Nat := 0xC00210 + 0x2000 * i
def Fld.NI_PORT_ERR.MEM_DEV_ERR : Fld := ⟨7, 1⟩
def Fld.NI_PORT_ERR.WB_TIMEOUT : Fld := ⟨6, 1⟩
def Fld.NI_PORT_ERR.PW_ERR : Fld := ⟨5, 1⟩
def Fld.NI_PORT_ERR.PROTOCOL : Fld := ⟨4, 1⟩
def Fld.NI_PORT_ERR.UNSUPPORTED : Fld := ⟨3, 1⟩
def Fld.NI_PORT_ERR.AGENT : Fld := ⟨2, 1⟩
def Fld.NI_PORT_ERR.DOWN : Fld := ⟨1, 1⟩
def Row.NI_PORT_ERR : RegRow := ⟨"NI_PORT_ERR", 0xC00210, 0x2000, 256, 0x0, 1, .ports, [⟨7, 1, .w1c, 0⟩, ⟨6, 1, .w1c, 0⟩, ⟨5, 1, .w1c, 0⟩, ⟨4, 1, .w1c, 0⟩, ⟨3, 1, .w1c, 0⟩, ⟨2, 1, .w1c, 0⟩, ⟨1, 1, .w1c, 0⟩]⟩

/-- NI_PORT_CNT (10_boundary_ports). -/
def Off.NI_PORT_CNT (i : Nat) : Nat := 0xC00218 + 0x2000 * i
def Fld.NI_PORT_CNT.UNSUPPORTED : Fld := ⟨48, 16⟩
def Fld.NI_PORT_CNT.DOWN_DROPS : Fld := ⟨32, 16⟩
def Fld.NI_PORT_CNT.STALE_WRI : Fld := ⟨16, 16⟩
def Fld.NI_PORT_CNT.PW_ERR : Fld := ⟨0, 16⟩
def Row.NI_PORT_CNT : RegRow := ⟨"NI_PORT_CNT", 0xC00218, 0x2000, 256, 0x0, 1, .ports, [⟨48, 16, .ro, 0⟩, ⟨32, 16, .ro, 0⟩, ⟨16, 16, .ro, 0⟩, ⟨0, 16, .ro, 0⟩]⟩

/-- NI_MPA_ECAM (10_boundary_ports). -/
def Off.NI_MPA_ECAM (i : Nat) : Nat := 0xC00220 + 0x2000 * i
def Fld.NI_MPA_ECAM.BASE : Fld := ⟨32, 32⟩
def Fld.NI_MPA_ECAM.EN : Fld := ⟨0, 1⟩
def Row.NI_MPA_ECAM : RegRow := ⟨"NI_MPA_ECAM", 0xC00220, 0x2000, 256, 0x0, 1, .mpa, [⟨32, 32, .bl, 0⟩, ⟨0, 1, .bl, 0⟩]⟩

/-- LK_ID (11_reliable_link_layer). -/
def Off.LK_ID (i : Nat) (j : Nat) : Nat := 0x2000000 + 0x8000 * i + 0x4000 * j
def Fld.LK_ID.LINK : Fld := ⟨8, 8⟩
def Fld.LK_ID.SEAM : Fld := ⟨7, 1⟩
def Fld.LK_ID.HALF : Fld := ⟨6, 1⟩
def Row.LK_ID : RegRow := ⟨"LK_ID", 0x2000000, 0x8000, 28, 0x4000, 2, .always, [⟨8, 8, .ro, 0⟩, ⟨7, 1, .ro, 0⟩, ⟨6, 1, .ro, 0⟩]⟩

/-- LK_CFG (11_reliable_link_layer). -/
def Off.LK_CFG (i : Nat) (j : Nat) : Nat := 0x2000008 + 0x8000 * i + 0x4000 * j
def Fld.LK_CFG.END_ID : Fld := ⟨8, 8⟩
def Row.LK_CFG : RegRow := ⟨"LK_CFG", 0x2000008, 0x8000, 28, 0x4000, 2, .always, [⟨8, 8, .bl, 0⟩]⟩

/-- LK_CTRL (11_reliable_link_layer). -/
def Off.LK_CTRL (i : Nat) (j : Nat) : Nat := 0x2000010 + 0x8000 * i + 0x4000 * j
def Fld.LK_CTRL.WIDTH_REQ : Fld := ⟨3, 2⟩
def Fld.LK_CTRL.RETRAIN : Fld := ⟨2, 1⟩
def Fld.LK_CTRL.CE_REPORT : Fld := ⟨1, 1⟩
def Fld.LK_CTRL.ENABLE : Fld := ⟨0, 1⟩
def Row.LK_CTRL : RegRow := ⟨"LK_CTRL", 0x2000010, 0x8000, 28, 0x4000, 2, .always, [⟨3, 2, .rw, 0⟩, ⟨2, 1, .sc, 0⟩, ⟨1, 1, .rw, 1⟩, ⟨0, 1, .rw, 0⟩]⟩

/-- LK_STATUS (11_reliable_link_layer). -/
def Off.LK_STATUS (i : Nat) (j : Nat) : Nat := 0x2000018 + 0x8000 * i + 0x4000 * j
def Fld.LK_STATUS.PEER_ID : Fld := ⟨56, 8⟩
def Fld.LK_STATUS.TX_NEXT : Fld := ⟨44, 12⟩
def Fld.LK_STATUS.RX_ACK : Fld := ⟨32, 12⟩
def Fld.LK_STATUS.RECORDS : Fld := ⟨21, 11⟩
def Fld.LK_STATUS.REORDER : Fld := ⟨14, 7⟩
def Fld.LK_STATUS.WIDTH : Fld := ⟨9, 2⟩
def Fld.LK_STATUS.UP : Fld := ⟨8, 1⟩
def Fld.LK_STATUS.STATE : Fld := ⟨0, 4⟩
def Row.LK_STATUS : RegRow := ⟨"LK_STATUS", 0x2000018, 0x8000, 28, 0x4000, 2, .always, [⟨56, 8, .ro, 0⟩, ⟨44, 12, .ro, 0⟩, ⟨32, 12, .ro, 4095⟩, ⟨21, 11, .ro, 0⟩, ⟨14, 7, .ro, 0⟩, ⟨9, 2, .ro, 0⟩, ⟨8, 1, .ro, 0⟩, ⟨0, 4, .ro, 0⟩]⟩

/-- LK_THRESH (11_reliable_link_layer). -/
def Off.LK_THRESH (i : Nat) (j : Nat) : Nat := 0x2000020 + 0x8000 * i + 0x4000 * j
def Fld.LK_THRESH.RETRAIN_LIMIT : Fld := ⟨56, 8⟩
def Fld.LK_THRESH.NAK_REPEAT : Fld := ⟨48, 8⟩
def Fld.LK_THRESH.LOST_RT : Fld := ⟨32, 8⟩
def Fld.LK_THRESH.WIDTH_RT : Fld := ⟨24, 8⟩
def Fld.LK_THRESH.NAK_MAX : Fld := ⟨16, 8⟩
def Fld.LK_THRESH.CONSEC : Fld := ⟨8, 8⟩
def Fld.LK_THRESH.CRC_WIN : Fld := ⟨0, 8⟩
def Row.LK_THRESH : RegRow := ⟨"LK_THRESH", 0x2000020, 0x8000, 28, 0x4000, 2, .always, [⟨56, 8, .rw, 100⟩, ⟨48, 8, .rw, 16⟩, ⟨32, 8, .rw, 8⟩, ⟨24, 8, .rw, 4⟩, ⟨16, 8, .rw, 4⟩, ⟨8, 8, .rw, 8⟩, ⟨0, 8, .rw, 64⟩]⟩

/-- LK_ERR_CNT (11_reliable_link_layer). -/
def Off.LK_ERR_CNT (i : Nat) (j : Nat) : Nat := 0x2000028 + 0x8000 * i + 0x4000 * j
def Fld.LK_ERR_CNT.CRC_ERR : Fld := ⟨48, 16⟩
def Fld.LK_ERR_CNT.NAK_SENT : Fld := ⟨32, 16⟩
def Fld.LK_ERR_CNT.REPLAYS : Fld := ⟨16, 16⟩
def Fld.LK_ERR_CNT.WINDOW_ERR : Fld := ⟨0, 16⟩
def Row.LK_ERR_CNT : RegRow := ⟨"LK_ERR_CNT", 0x2000028, 0x8000, 28, 0x4000, 2, .always, [⟨48, 16, .ro, 0⟩, ⟨32, 16, .ro, 0⟩, ⟨16, 16, .ro, 0⟩, ⟨0, 16, .ro, 0⟩]⟩

/-- LK_RETRAIN_CNT (11_reliable_link_layer). -/
def Off.LK_RETRAIN_CNT (i : Nat) (j : Nat) : Nat := 0x2000030 + 0x8000 * i + 0x4000 * j
def Fld.LK_RETRAIN_CNT.RETRAINS : Fld := ⟨48, 16⟩
def Fld.LK_RETRAIN_CNT.WIDTH_CHANGES : Fld := ⟨40, 8⟩
def Fld.LK_RETRAIN_CNT.WITHDRAWN : Fld := ⟨32, 8⟩
def Fld.LK_RETRAIN_CNT.ADAPTER : Fld := ⟨24, 8⟩
def Fld.LK_RETRAIN_CNT.PRE_LEFT : Fld := ⟨16, 8⟩
def Fld.LK_RETRAIN_CNT.RECENT : Fld := ⟨8, 8⟩
def Row.LK_RETRAIN_CNT : RegRow := ⟨"LK_RETRAIN_CNT", 0x2000030, 0x8000, 28, 0x4000, 2, .always, [⟨48, 16, .ro, 0⟩, ⟨40, 8, .ro, 0⟩, ⟨32, 8, .ro, 0⟩, ⟨24, 8, .ro, 0⟩, ⟨16, 8, .ro, 0⟩, ⟨8, 8, .ro, 0⟩]⟩

/-- LK_ERR_STATUS (11_reliable_link_layer). -/
def Off.LK_ERR_STATUS (i : Nat) (j : Nat) : Nat := 0x2000038 + 0x8000 * i + 0x4000 * j
def Fld.LK_ERR_STATUS.LOST : Fld := ⟨7, 1⟩
def Fld.LK_ERR_STATUS.PROTOCOL : Fld := ⟨6, 1⟩
def Fld.LK_ERR_STATUS.INIT_ERR : Fld := ⟨5, 1⟩
def Fld.LK_ERR_STATUS.FLIT_LOST : Fld := ⟨4, 1⟩
def Fld.LK_ERR_STATUS.PRE_TIMEOUT : Fld := ⟨3, 1⟩
def Fld.LK_ERR_STATUS.WIDTH : Fld := ⟨2, 1⟩
def Fld.LK_ERR_STATUS.RETRAIN : Fld := ⟨1, 1⟩
def Fld.LK_ERR_STATUS.CRC : Fld := ⟨0, 1⟩
def Row.LK_ERR_STATUS : RegRow := ⟨"LK_ERR_STATUS", 0x2000038, 0x8000, 28, 0x4000, 2, .always, [⟨7, 1, .w1c, 0⟩, ⟨6, 1, .w1c, 0⟩, ⟨5, 1, .w1c, 0⟩, ⟨4, 1, .w1c, 0⟩, ⟨3, 1, .w1c, 0⟩, ⟨2, 1, .w1c, 0⟩, ⟨1, 1, .w1c, 0⟩, ⟨0, 1, .w1c, 0⟩]⟩

/-- LK_LOSS_CNT (11_reliable_link_layer). -/
def Off.LK_LOSS_CNT (i : Nat) (j : Nat) : Nat := 0x2000040 + 0x8000 * i + 0x4000 * j
def Fld.LK_LOSS_CNT.FLITS : Fld := ⟨48, 16⟩
def Fld.LK_LOSS_CNT.PKTS : Fld := ⟨32, 16⟩
def Row.LK_LOSS_CNT : RegRow := ⟨"LK_LOSS_CNT", 0x2000040, 0x8000, 28, 0x4000, 2, .always, [⟨48, 16, .ro, 0⟩, ⟨32, 16, .ro, 0⟩]⟩

/-- SB_CTRL (12_service_bridge). -/
def Off.SB_CTRL : Nat := 0x400000
def Fld.SB_CTRL.E5_TIMEOUT : Fld := ⟨32, 16⟩
def Fld.SB_CTRL.OUT_COMMIT : Fld := ⟨2, 1⟩
def Fld.SB_CTRL.IN_COMMIT : Fld := ⟨1, 1⟩
def Fld.SB_CTRL.TELEM_COMMIT : Fld := ⟨0, 1⟩
def Row.SB_CTRL : RegRow := ⟨"SB_CTRL", 0x400000, 0x0, 1, 0x0, 1, .always, [⟨32, 16, .rw, 256⟩, ⟨2, 1, .sc, 0⟩, ⟨1, 1, .sc, 0⟩, ⟨0, 1, .sc, 0⟩]⟩

/-- SB_STATUS (12_service_bridge). -/
def Off.SB_STATUS : Nat := 0x400008
def Fld.SB_STATUS.RD_TAGS : Fld := ⟨57, 7⟩
def Fld.SB_STATUS.STUCK : Fld := ⟨50, 7⟩
def Fld.SB_STATUS.WBUF : Fld := ⟨43, 7⟩
def Fld.SB_STATUS.INBUF : Fld := ⟨39, 4⟩
def Fld.SB_STATUS.LOCKED : Fld := ⟨38, 1⟩
def Fld.SB_STATUS.LOCK_AGENT : Fld := ⟨26, 12⟩
def Row.SB_STATUS : RegRow := ⟨"SB_STATUS", 0x400008, 0x0, 1, 0x0, 1, .always, [⟨57, 7, .ro, 0⟩, ⟨50, 7, .ro, 0⟩, ⟨43, 7, .ro, 0⟩, ⟨39, 4, .ro, 0⟩, ⟨38, 1, .ro, 0⟩, ⟨26, 12, .ro, 0⟩]⟩

/-- SB_LINES (12_service_bridge). -/
def Off.SB_LINES : Nat := 0x400010
def Fld.SB_LINES.OUT : Fld := ⟨32, 16⟩
def Fld.SB_LINES.IN : Fld := ⟨0, 32⟩
def Row.SB_LINES : RegRow := ⟨"SB_LINES", 0x400010, 0x0, 1, 0x0, 1, .always, [⟨32, 16, .ro, 0⟩, ⟨0, 32, .ro, 0⟩]⟩

/-- SB_ERR_STATUS (12_service_bridge). -/
def Off.SB_ERR_STATUS : Nat := 0x400018
def Fld.SB_ERR_STATUS.INB_FAIL : Fld := ⟨10, 1⟩
def Fld.SB_ERR_STATUS.TELEM_SKIP : Fld := ⟨9, 1⟩
def Fld.SB_ERR_STATUS.CFG : Fld := ⟨8, 1⟩
def Fld.SB_ERR_STATUS.OUT_SRC : Fld := ⟨7, 1⟩
def Fld.SB_ERR_STATUS.IN_LOST : Fld := ⟨6, 1⟩
def Fld.SB_ERR_STATUS.LOCK_BREAK : Fld := ⟨5, 1⟩
def Fld.SB_ERR_STATUS.GATE : Fld := ⟨4, 1⟩
def Fld.SB_ERR_STATUS.UNSERVED : Fld := ⟨3, 1⟩
def Fld.SB_ERR_STATUS.TIMEOUT : Fld := ⟨2, 1⟩
def Fld.SB_ERR_STATUS.FAR_WRITE : Fld := ⟨1, 1⟩
def Fld.SB_ERR_STATUS.FAR_READ : Fld := ⟨0, 1⟩
def Row.SB_ERR_STATUS : RegRow := ⟨"SB_ERR_STATUS", 0x400018, 0x0, 1, 0x0, 1, .always, [⟨10, 1, .w1c, 0⟩, ⟨9, 1, .w1c, 0⟩, ⟨8, 1, .w1c, 0⟩, ⟨7, 1, .w1c, 0⟩, ⟨6, 1, .w1c, 0⟩, ⟨5, 1, .w1c, 0⟩, ⟨4, 1, .w1c, 0⟩, ⟨3, 1, .w1c, 0⟩, ⟨2, 1, .w1c, 0⟩, ⟨1, 1, .w1c, 0⟩, ⟨0, 1, .w1c, 0⟩]⟩

/-- SB_ERR_CNT (12_service_bridge). -/
def Off.SB_ERR_CNT : Nat := 0x400020
def Fld.SB_ERR_CNT.FAR : Fld := ⟨48, 16⟩
def Fld.SB_ERR_CNT.GATE : Fld := ⟨32, 16⟩
def Fld.SB_ERR_CNT.UNSERVED : Fld := ⟨16, 16⟩
def Fld.SB_ERR_CNT.IN_LOST : Fld := ⟨0, 16⟩
def Row.SB_ERR_CNT : RegRow := ⟨"SB_ERR_CNT", 0x400020, 0x0, 1, 0x0, 1, .always, [⟨48, 16, .ro, 0⟩, ⟨32, 16, .ro, 0⟩, ⟨16, 16, .ro, 0⟩, ⟨0, 16, .ro, 0⟩]⟩

/-- SB_FAR_INFO (12_service_bridge). -/
def Off.SB_FAR_INFO : Nat := 0x400028
def Fld.SB_FAR_INFO.ADDR : Fld := ⟨32, 32⟩
def Fld.SB_FAR_INFO.KIND : Fld := ⟨28, 4⟩
def Fld.SB_FAR_INFO.SRC : Fld := ⟨20, 8⟩
def Row.SB_FAR_INFO : RegRow := ⟨"SB_FAR_INFO", 0x400028, 0x0, 1, 0x0, 1, .always, [⟨32, 32, .ro, 0⟩, ⟨28, 4, .ro, 0⟩, ⟨20, 8, .ro, 0⟩]⟩

/-- SB_INB_MAP (12_service_bridge). -/
def Off.SB_INB_MAP : Nat := 0x400030
def Fld.SB_INB_MAP.EN : Fld := ⟨63, 1⟩
def Fld.SB_INB_MAP.AGENT : Fld := ⟨51, 12⟩
def Fld.SB_INB_MAP.INB_LOG2 : Fld := ⟨46, 5⟩
def Fld.SB_INB_MAP.INB_BASE : Fld := ⟨32, 12⟩
def Fld.SB_INB_MAP.FAB_BASE : Fld := ⟨0, 32⟩
def Row.SB_INB_MAP : RegRow := ⟨"SB_INB_MAP", 0x400030, 0x0, 1, 0x0, 1, .always, [⟨63, 1, .rw, 0⟩, ⟨51, 12, .rw, 0⟩, ⟨46, 5, .rw, 20⟩, ⟨32, 12, .rw, 0⟩, ⟨0, 32, .rw, 0⟩]⟩

/-- SB_TELEM_CFG (12_service_bridge). -/
def Off.SB_TELEM_CFG : Nat := 0x400038
def Fld.SB_TELEM_CFG.EN : Fld := ⟨63, 1⟩
def Fld.SB_TELEM_CFG.PERIOD_LOG2 : Fld := ⟨58, 5⟩
def Fld.SB_TELEM_CFG.LINE : Fld := ⟨0, 46⟩
def Row.SB_TELEM_CFG : RegRow := ⟨"SB_TELEM_CFG", 0x400038, 0x0, 1, 0x0, 1, .always, [⟨63, 1, .st, 0⟩, ⟨58, 5, .st, 20⟩, ⟨0, 46, .st, 0⟩]⟩

/-- SB_TELEM_STATUS (12_service_bridge). -/
def Off.SB_TELEM_STATUS : Nat := 0x400040
def Fld.SB_TELEM_STATUS.POLLS : Fld := ⟨48, 16⟩
def Fld.SB_TELEM_STATUS.SKIPPED : Fld := ⟨32, 16⟩
def Fld.SB_TELEM_STATUS.MSGS : Fld := ⟨16, 16⟩
def Fld.SB_TELEM_STATUS.READ_ERR : Fld := ⟨0, 16⟩
def Row.SB_TELEM_STATUS : RegRow := ⟨"SB_TELEM_STATUS", 0x400040, 0x0, 1, 0x0, 1, .always, [⟨48, 16, .ro, 0⟩, ⟨32, 16, .ro, 0⟩, ⟨16, 16, .ro, 0⟩, ⟨0, 16, .ro, 0⟩]⟩

/-- SB_IN_CFG_j (12_service_bridge). -/
def Off.SB_IN_CFG (i : Nat) : Nat := 0x400100 + 0x8 * i
def Fld.SB_IN_CFG.MSI_DATA : Fld := ⟨32, 32⟩
def Fld.SB_IN_CFG.CLASS : Fld := ⟨30, 2⟩
def Fld.SB_IN_CFG.FORM : Fld := ⟨28, 2⟩
def Fld.SB_IN_CFG.MODE : Fld := ⟨24, 3⟩
def Row.SB_IN_CFG : RegRow := ⟨"SB_IN_CFG", 0x400100, 0x8, 32, 0x0, 1, .always, [⟨32, 32, .st, 0⟩, ⟨30, 2, .st, 0⟩, ⟨28, 2, .st, 0⟩, ⟨24, 3, .st, 0⟩]⟩

/-- SB_IN_ADDR_j (12_service_bridge). -/
def Off.SB_IN_ADDR (i : Nat) : Nat := 0x400200 + 0x8 * i
def Fld.SB_IN_ADDR.ADDR : Fld := ⟨2, 50⟩
def Row.SB_IN_ADDR : RegRow := ⟨"SB_IN_ADDR", 0x400200, 0x8, 32, 0x0, 1, .always, [⟨2, 50, .st, 0⟩]⟩

/-- SB_OUT_CFG_k (12_service_bridge). -/
def Off.SB_OUT_CFG (i : Nat) : Nat := 0x400300 + 0x8 * i
def Fld.SB_OUT_CFG.WIDTH : Fld := ⟨16, 16⟩
def Fld.SB_OUT_CFG.TICK_LOG2 : Fld := ⟨6, 5⟩
def Fld.SB_OUT_CFG.PARK : Fld := ⟨4, 1⟩
def Fld.SB_OUT_CFG.FUNC : Fld := ⟨0, 2⟩
def Row.SB_OUT_CFG : RegRow := ⟨"SB_OUT_CFG", 0x400300, 0x8, 16, 0x0, 1, .always, [⟨16, 16, .st, 1⟩, ⟨6, 5, .st, 20⟩, ⟨4, 1, .st, 0⟩, ⟨0, 2, .st, 0⟩]⟩

/-- SB_TELEM_ADDR_k (12_service_bridge). -/
def Off.SB_TELEM_ADDR (i : Nat) : Nat := 0x400400 + 0x10 * i
def Fld.SB_TELEM_ADDR.VALID : Fld := ⟨63, 1⟩
def Fld.SB_TELEM_ADDR.KIND : Fld := ⟨60, 3⟩
def Fld.SB_TELEM_ADDR.SIGNED : Fld := ⟨59, 1⟩
def Fld.SB_TELEM_ADDR.LSB : Fld := ⟨54, 5⟩
def Fld.SB_TELEM_ADDR.WIDTH_M1 : Fld := ⟨49, 5⟩
def Fld.SB_TELEM_ADDR.ADDR : Fld := ⟨2, 30⟩
def Row.SB_TELEM_ADDR : RegRow := ⟨"SB_TELEM_ADDR", 0x400400, 0x10, 32, 0x0, 1, .always, [⟨63, 1, .st, 0⟩, ⟨60, 3, .st, 0⟩, ⟨59, 1, .st, 0⟩, ⟨54, 5, .st, 0⟩, ⟨49, 5, .st, 0⟩, ⟨2, 30, .st, 0⟩]⟩

/-- SB_TELEM_SCALE_k (12_service_bridge). -/
def Off.SB_TELEM_SCALE (i : Nat) : Nat := 0x400408 + 0x10 * i
def Fld.SB_TELEM_SCALE.MUL : Fld := ⟨16, 16⟩
def Fld.SB_TELEM_SCALE.OFFSET : Fld := ⟨0, 16⟩
def Row.SB_TELEM_SCALE : RegRow := ⟨"SB_TELEM_SCALE", 0x400408, 0x10, 32, 0x0, 1, .always, [⟨16, 16, .st, 0⟩, ⟨0, 16, .st, 0⟩]⟩

/-- SB_GATE_g (12_service_bridge). -/
def Off.SB_GATE (i : Nat) : Nat := 0x401000 + 0x80 * i
def Fld.SB_GATE.BASE : Fld := ⟨44, 20⟩
def Fld.SB_GATE.SIZE_LOG2 : Fld := ⟨39, 5⟩
def Fld.SB_GATE.EN : Fld := ⟨0, 1⟩
def Row.SB_GATE : RegRow := ⟨"SB_GATE", 0x401000, 0x80, 16, 0x0, 1, .always, [⟨44, 20, .bl, 0⟩, ⟨39, 5, .bl, 12⟩, ⟨0, 1, .bl, 0⟩]⟩

/-- SB_GATE_RGN_g_r (12_service_bridge). -/
def Off.SB_GATE_RGN (i : Nat) (j : Nat) : Nat := 0x401008 + 0x80 * i + 0x8 * j
def Fld.SB_GATE_RGN.BASE : Fld := ⟨44, 20⟩
def Fld.SB_GATE_RGN.SIZE_LOG2 : Fld := ⟨39, 5⟩
def Fld.SB_GATE_RGN.PR : Fld := ⟨38, 1⟩
def Fld.SB_GATE_RGN.PW : Fld := ⟨37, 1⟩
def Fld.SB_GATE_RGN.UR : Fld := ⟨36, 1⟩
def Fld.SB_GATE_RGN.UW : Fld := ⟨35, 1⟩
def Fld.SB_GATE_RGN.EN : Fld := ⟨34, 1⟩
def Fld.SB_GATE_RGN.MMASK : Fld := ⟨8, 8⟩
def Fld.SB_GATE_RGN.MID : Fld := ⟨0, 8⟩
def Row.SB_GATE_RGN : RegRow := ⟨"SB_GATE_RGN", 0x401008, 0x80, 16, 0x8, 8, .always, [⟨44, 20, .bl, 0⟩, ⟨39, 5, .bl, 12⟩, ⟨38, 1, .bl, 0⟩, ⟨37, 1, .bl, 0⟩, ⟨36, 1, .bl, 0⟩, ⟨35, 1, .bl, 0⟩, ⟨34, 1, .bl, 0⟩, ⟨8, 8, .bl, 0⟩, ⟨0, 8, .bl, 0⟩]⟩

/-- ST_CTRL (13_the_strainer). -/
def Off.ST_CTRL : Nat := 0x200000
def Fld.ST_CTRL.LOCK : Fld := ⟨7, 1⟩
def Fld.ST_CTRL.COMMIT : Fld := ⟨4, 1⟩
def Fld.ST_CTRL.MODE : Fld := ⟨0, 2⟩
def Row.ST_CTRL : RegRow := ⟨"ST_CTRL", 0x200000, 0x0, 1, 0x0, 1, .always, [⟨7, 1, .w1s, 0⟩, ⟨4, 1, .sc, 0⟩, ⟨0, 2, .bl, 1⟩]⟩

/-- ST_STATUS (13_the_strainer). -/
def Off.ST_STATUS : Nat := 0x200008
def Fld.ST_STATUS.GEN : Fld := ⟨32, 32⟩
def Fld.ST_STATUS.STALE_NIS : Fld := ⟨16, 9⟩
def Fld.ST_STATUS.RESULT : Fld := ⟨12, 4⟩
def Fld.ST_STATUS.PHASE : Fld := ⟨8, 4⟩
def Fld.ST_STATUS.DISABLED : Fld := ⟨1, 1⟩
def Fld.ST_STATUS.LOCKED : Fld := ⟨0, 1⟩
def Row.ST_STATUS : RegRow := ⟨"ST_STATUS", 0x200008, 0x0, 1, 0x0, 1, .always, [⟨32, 32, .ro, 0⟩, ⟨16, 9, .ro, 0⟩, ⟨12, 4, .ro, 0⟩, ⟨8, 4, .ro, 0⟩, ⟨1, 1, .ro, 0⟩, ⟨0, 1, .ro, 0⟩]⟩

/-- ST_COMMIT_INFO (13_the_strainer). -/
def Off.ST_COMMIT_INFO : Nat := 0x200010
def Fld.ST_COMMIT_INFO.REGION_B : Fld := ⟨32, 12⟩
def Fld.ST_COMMIT_INFO.REGION_A : Fld := ⟨0, 12⟩
def Row.ST_COMMIT_INFO : RegRow := ⟨"ST_COMMIT_INFO", 0x200010, 0x0, 1, 0x0, 1, .always, [⟨32, 12, .ro, 0⟩, ⟨0, 12, .ro, 0⟩]⟩

/-- ST_WINDOW (13_the_strainer). -/
def Off.ST_WINDOW : Nat := 0x200018
def Fld.ST_WINDOW.LAST_NS : Fld := ⟨32, 32⟩
def Fld.ST_WINDOW.MAX_NS : Fld := ⟨0, 32⟩
def Row.ST_WINDOW : RegRow := ⟨"ST_WINDOW", 0x200018, 0x0, 1, 0x0, 1, .always, [⟨32, 32, .ro, 0⟩, ⟨0, 32, .ro, 0⟩]⟩

/-- ST_DEFMAP_CFG (13_the_strainer). -/
def Off.ST_DEFMAP_CFG : Nat := 0x200020
def Fld.ST_DEFMAP_CFG.VALID : Fld := ⟨63, 1⟩
def Fld.ST_DEFMAP_CFG.BASE : Fld := ⟨26, 26⟩
def Row.ST_DEFMAP_CFG : RegRow := ⟨"ST_DEFMAP_CFG", 0x200020, 0x0, 1, 0x0, 1, .always, [⟨63, 1, .st, 0⟩, ⟨26, 26, .st, 0⟩]⟩

/-- ST_DEFMAP_BOOT (13_the_strainer). -/
def Off.ST_DEFMAP_BOOT : Nat := 0x200028
def Fld.ST_DEFMAP_BOOT.VALID : Fld := ⟨63, 1⟩
def Fld.ST_DEFMAP_BOOT.SIZE_LOG2 : Fld := ⟨54, 6⟩
def Fld.ST_DEFMAP_BOOT.BASE : Fld := ⟨12, 40⟩
def Row.ST_DEFMAP_BOOT : RegRow := ⟨"ST_DEFMAP_BOOT", 0x200028, 0x0, 1, 0x0, 1, .always, [⟨63, 1, .st, 0⟩, ⟨54, 6, .st, 12⟩, ⟨12, 40, .st, 0⟩]⟩

/-- ST_TABLE_ID (13_the_strainer). -/
def Off.ST_TABLE_ID : Nat := 0x200030
def Fld.ST_TABLE_ID.TABLE_ID : Fld := ⟨0, 64⟩
def Row.ST_TABLE_ID : RegRow := ⟨"ST_TABLE_ID", 0x200030, 0x0, 1, 0x0, 1, .always, [⟨0, 64, .st, 0⟩]⟩

/-- ST_STALE_k (13_the_strainer). -/
def Off.ST_STALE (i : Nat) : Nat := 0x200040 + 0x8 * i
def Fld.ST_STALE.STALE : Fld := ⟨0, 64⟩
def Row.ST_STALE : RegRow := ⟨"ST_STALE", 0x200040, 0x8, 4, 0x0, 1, .always, [⟨0, 64, .ro, 0⟩]⟩

/-- ST_RGN_k (13_the_strainer). -/
def Off.ST_RGN (i : Nat) : Nat := 0x210000 + 0x10 * i
def Fld.ST_RGN.WORD0 : Fld := ⟨0, 64⟩
def Row.ST_RGN : RegRow := ⟨"ST_RGN", 0x210000, 0x10, 4096, 0x0, 1, .always, [⟨0, 64, .st, 0⟩]⟩

/-- ST_PAT_k (13_the_strainer). -/
def Off.ST_PAT (i : Nat) : Nat := 0x210008 + 0x10 * i
def Fld.ST_PAT.WORD1 : Fld := ⟨0, 64⟩
def Row.ST_PAT : RegRow := ⟨"ST_PAT", 0x210008, 0x10, 4096, 0x0, 1, .always, [⟨0, 64, .st, 0⟩]⟩

/-- NI_ST_STATUS (13_the_strainer). -/
def Off.NI_ST_STATUS (i : Nat) : Nat := 0xC00600 + 0x2000 * i
def Fld.NI_ST_STATUS.GEN : Fld := ⟨32, 32⟩
def Fld.NI_ST_STATUS.RELOADING : Fld := ⟨2, 1⟩
def Fld.NI_ST_STATUS.HOLDING : Fld := ⟨1, 1⟩
def Fld.NI_ST_STATUS.STALE : Fld := ⟨0, 1⟩
def Row.NI_ST_STATUS : RegRow := ⟨"NI_ST_STATUS", 0xC00600, 0x2000, 256, 0x0, 1, .always, [⟨32, 32, .ro, 0⟩, ⟨2, 1, .ro, 0⟩, ⟨1, 1, .ro, 0⟩, ⟨0, 1, .ro, 0⟩]⟩

/-- NI_ST_CNT (13_the_strainer). -/
def Off.NI_ST_CNT (i : Nat) : Nat := 0xC00608 + 0x2000 * i
def Fld.NI_ST_CNT.NO_MATCH : Fld := ⟨48, 16⟩
def Fld.NI_ST_CNT.PATTERN : Fld := ⟨32, 16⟩
def Fld.NI_ST_CNT.DEFAULT : Fld := ⟨16, 16⟩
def Fld.NI_ST_CNT.DROPPED : Fld := ⟨0, 16⟩
def Row.NI_ST_CNT : RegRow := ⟨"NI_ST_CNT", 0xC00608, 0x2000, 256, 0x0, 1, .always, [⟨48, 16, .ro, 0⟩, ⟨32, 16, .ro, 0⟩, ⟨16, 16, .ro, 0⟩, ⟨0, 16, .ro, 0⟩]⟩

/-- NI_ST_LAST (13_the_strainer). -/
def Off.NI_ST_LAST (i : Nat) : Nat := 0xC00610 + 0x2000 * i
def Fld.NI_ST_LAST.AGENT : Fld := ⟨52, 12⟩
def Fld.NI_ST_LAST.ADDR : Fld := ⟨12, 40⟩
def Fld.NI_ST_LAST.PRIV : Fld := ⟨3, 1⟩
def Fld.NI_ST_LAST.WRITE : Fld := ⟨2, 1⟩
def Fld.NI_ST_LAST.REASON : Fld := ⟨0, 2⟩
def Row.NI_ST_LAST : RegRow := ⟨"NI_ST_LAST", 0xC00610, 0x2000, 256, 0x0, 1, .always, [⟨52, 12, .ro, 0⟩, ⟨12, 40, .ro, 0⟩, ⟨3, 1, .ro, 0⟩, ⟨2, 1, .ro, 0⟩, ⟨0, 2, .ro, 0⟩]⟩

/-- NI_ST_ERR (13_the_strainer). -/
def Off.NI_ST_ERR (i : Nat) : Nat := 0xC00618 + 0x2000 * i
def Fld.NI_ST_ERR.CE : Fld := ⟨48, 16⟩
def Fld.NI_ST_ERR.UE : Fld := ⟨40, 8⟩
def Row.NI_ST_ERR : RegRow := ⟨"NI_ST_ERR", 0xC00618, 0x2000, 256, 0x0, 1, .always, [⟨48, 16, .ro, 0⟩, ⟨40, 8, .ro, 0⟩]⟩

/-- PT_POT_STATUS (14_pot_mailboxes_and_rings). -/
def Off.PT_POT_STATUS : Nat := 0x8000
def Fld.PT_POT_STATUS.FW_MAJOR : Fld := ⟨48, 16⟩
def Fld.PT_POT_STATUS.FW_MINOR : Fld := ⟨32, 16⟩
def Fld.PT_POT_STATUS.RUNNING : Fld := ⟨8, 8⟩
def Fld.PT_POT_STATUS.STAGE : Fld := ⟨1, 2⟩
def Fld.PT_POT_STATUS.ACCEPTING : Fld := ⟨0, 1⟩
def Row.PT_POT_STATUS : RegRow := ⟨"PT_POT_STATUS", 0x8000, 0x0, 1, 0x0, 1, .always, [⟨48, 16, .rw, 0⟩, ⟨32, 16, .rw, 0⟩, ⟨8, 8, .rw, 0⟩, ⟨1, 2, .rw, 0⟩, ⟨0, 1, .rw, 0⟩]⟩

/-- PT_APERTURE (14_pot_mailboxes_and_rings). -/
def Off.PT_APERTURE : Nat := 0x8008
def Fld.PT_APERTURE.VALID : Fld := ⟨63, 1⟩
def Fld.PT_APERTURE.BASE : Fld := ⟨15, 37⟩
def Row.PT_APERTURE : RegRow := ⟨"PT_APERTURE", 0x8008, 0x0, 1, 0x0, 1, .always, [⟨63, 1, .rw, 0⟩, ⟨15, 37, .rw, 0⟩]⟩

/-- PT_MB_CMD_k (14_pot_mailboxes_and_rings). -/
def Off.PT_MB_CMD (i : Nat) (j : Nat) : Nat := 0x10000 + 0x1000 * i + 0x8 * j
def Fld.PT_MB_CMD.CMD : Fld := ⟨0, 64⟩
def Row.PT_MB_CMD : RegRow := ⟨"PT_MB_CMD", 0x10000, 0x1000, 8, 0x8, 8, .always, [⟨0, 64, .ro, 0⟩]⟩

/-- PT_MB_DOORBELL (14_pot_mailboxes_and_rings). -/
def Off.PT_MB_DOORBELL (i : Nat) : Nat := 0x10040 + 0x1000 * i
def Fld.PT_MB_DOORBELL.RUNG : Fld := ⟨0, 1⟩
def Row.PT_MB_DOORBELL : RegRow := ⟨"PT_MB_DOORBELL", 0x10040, 0x1000, 8, 0x0, 1, .always, [⟨0, 1, .ro, 0⟩]⟩

/-- PT_MB_STATUS (14_pot_mailboxes_and_rings). -/
def Off.PT_MB_STATUS (i : Nat) : Nat := 0x10048 + 0x1000 * i
def Fld.PT_MB_STATUS.OPCODE : Fld := ⟨48, 16⟩
def Fld.PT_MB_STATUS.TAG : Fld := ⟨32, 16⟩
def Fld.PT_MB_STATUS.NRSP : Fld := ⟨16, 8⟩
def Fld.PT_MB_STATUS.DB_LOST : Fld := ⟨11, 1⟩
def Fld.PT_MB_STATUS.IRQ_SENT : Fld := ⟨10, 1⟩
def Fld.PT_MB_STATUS.STATE : Fld := ⟨8, 2⟩
def Fld.PT_MB_STATUS.CODE : Fld := ⟨0, 8⟩
def Row.PT_MB_STATUS : RegRow := ⟨"PT_MB_STATUS", 0x10048, 0x1000, 8, 0x0, 1, .always, [⟨48, 16, .rw, 0⟩, ⟨32, 16, .rw, 0⟩, ⟨16, 8, .rw, 0⟩, ⟨11, 1, .rw, 0⟩, ⟨10, 1, .rw, 0⟩, ⟨8, 2, .rw, 0⟩, ⟨0, 8, .rw, 0⟩]⟩

/-- PT_MB_IRQ_ADDR (14_pot_mailboxes_and_rings). -/
def Off.PT_MB_IRQ_ADDR (i : Nat) : Nat := 0x10050 + 0x1000 * i
def Fld.PT_MB_IRQ_ADDR.VALID : Fld := ⟨63, 1⟩
def Fld.PT_MB_IRQ_ADDR.ADDR : Fld := ⟨2, 50⟩
def Row.PT_MB_IRQ_ADDR : RegRow := ⟨"PT_MB_IRQ_ADDR", 0x10050, 0x1000, 8, 0x0, 1, .always, [⟨63, 1, .rw, 0⟩, ⟨2, 50, .rw, 0⟩]⟩

/-- PT_MB_IRQ_DATA (14_pot_mailboxes_and_rings). -/
def Off.PT_MB_IRQ_DATA (i : Nat) : Nat := 0x10058 + 0x1000 * i
def Fld.PT_MB_IRQ_DATA.DATA : Fld := ⟨0, 32⟩
def Row.PT_MB_IRQ_DATA : RegRow := ⟨"PT_MB_IRQ_DATA", 0x10058, 0x1000, 8, 0x0, 1, .always, [⟨0, 32, .rw, 0⟩]⟩

/-- PT_MB_RSP_k (14_pot_mailboxes_and_rings). -/
def Off.PT_MB_RSP (i : Nat) (j : Nat) : Nat := 0x10080 + 0x1000 * i + 0x8 * j
def Fld.PT_MB_RSP.RSP : Fld := ⟨0, 64⟩
def Row.PT_MB_RSP : RegRow := ⟨"PT_MB_RSP", 0x10080, 0x1000, 8, 0x8, 8, .always, [⟨0, 64, .rw, 0⟩]⟩

/-- PT_RING_SQ (14_pot_mailboxes_and_rings). -/
def Off.PT_RING_SQ (i : Nat) : Nat := 0x18000 + 0x80 * i
def Fld.PT_RING_SQ.ADDR : Fld := ⟨0, 52⟩
def Row.PT_RING_SQ : RegRow := ⟨"PT_RING_SQ", 0x18000, 0x80, 16, 0x0, 1, .always, [⟨0, 52, .rw, 0⟩]⟩

/-- PT_RING_CQ (14_pot_mailboxes_and_rings). -/
def Off.PT_RING_CQ (i : Nat) : Nat := 0x18008 + 0x80 * i
def Fld.PT_RING_CQ.ADDR : Fld := ⟨0, 52⟩
def Row.PT_RING_CQ : RegRow := ⟨"PT_RING_CQ", 0x18008, 0x80, 16, 0x0, 1, .always, [⟨0, 52, .rw, 0⟩]⟩

/-- PT_RING_SL (14_pot_mailboxes_and_rings). -/
def Off.PT_RING_SL (i : Nat) : Nat := 0x18010 + 0x80 * i
def Fld.PT_RING_SL.ADDR : Fld := ⟨0, 52⟩
def Row.PT_RING_SL : RegRow := ⟨"PT_RING_SL", 0x18010, 0x80, 16, 0x0, 1, .always, [⟨0, 52, .rw, 0⟩]⟩

/-- PT_RING_CFG (14_pot_mailboxes_and_rings). -/
def Off.PT_RING_CFG (i : Nat) : Nat := 0x18018 + 0x80 * i
def Fld.PT_RING_CFG.LOG2 : Fld := ⟨60, 4⟩
def Fld.PT_RING_CFG.OWNER : Fld := ⟨57, 3⟩
def Fld.PT_RING_CFG.IRQ_EN : Fld := ⟨52, 1⟩
def Fld.PT_RING_CFG.POLL_NS : Fld := ⟨32, 20⟩
def Fld.PT_RING_CFG.IRQ_GAP_US : Fld := ⟨16, 16⟩
def Row.PT_RING_CFG : RegRow := ⟨"PT_RING_CFG", 0x18018, 0x80, 16, 0x0, 1, .always, [⟨60, 4, .rw, 0⟩, ⟨57, 3, .rw, 0⟩, ⟨52, 1, .rw, 0⟩, ⟨32, 20, .rw, 0⟩, ⟨16, 16, .rw, 0⟩]⟩

/-- PT_RING_IRQ (14_pot_mailboxes_and_rings). -/
def Off.PT_RING_IRQ (i : Nat) : Nat := 0x18020 + 0x80 * i
def Fld.PT_RING_IRQ.DATA : Fld := ⟨32, 32⟩
def Fld.PT_RING_IRQ.ADDR_LO : Fld := ⟨0, 32⟩
def Row.PT_RING_IRQ : RegRow := ⟨"PT_RING_IRQ", 0x18020, 0x80, 16, 0x0, 1, .always, [⟨32, 32, .rw, 0⟩, ⟨0, 32, .rw, 0⟩]⟩

/-- PT_RING_IRQ_HI (14_pot_mailboxes_and_rings). -/
def Off.PT_RING_IRQ_HI (i : Nat) : Nat := 0x18028 + 0x80 * i
def Fld.PT_RING_IRQ_HI.ADDR_HI : Fld := ⟨0, 20⟩
def Row.PT_RING_IRQ_HI : RegRow := ⟨"PT_RING_IRQ_HI", 0x18028, 0x80, 16, 0x0, 1, .always, [⟨0, 20, .rw, 0⟩]⟩

/-- PT_RING_STATE (14_pot_mailboxes_and_rings). -/
def Off.PT_RING_STATE (i : Nat) : Nat := 0x18030 + 0x80 * i
def Fld.PT_RING_STATE.HEAD : Fld := ⟨52, 12⟩
def Fld.PT_RING_STATE.PHASE : Fld := ⟨51, 1⟩
def Fld.PT_RING_STATE.CPHASE : Fld := ⟨50, 1⟩
def Fld.PT_RING_STATE.STATE : Fld := ⟨47, 3⟩
def Fld.PT_RING_STATE.FETCHED : Fld := ⟨44, 3⟩
def Fld.PT_RING_STATE.RUNNING : Fld := ⟨43, 1⟩
def Fld.PT_RING_STATE.MARKS : Fld := ⟨0, 13⟩
def Row.PT_RING_STATE : RegRow := ⟨"PT_RING_STATE", 0x18030, 0x80, 16, 0x0, 1, .always, [⟨52, 12, .rw, 0⟩, ⟨51, 1, .rw, 1⟩, ⟨50, 1, .rw, 1⟩, ⟨47, 3, .rw, 0⟩, ⟨44, 3, .rw, 0⟩, ⟨43, 1, .rw, 0⟩, ⟨0, 13, .rw, 0⟩]⟩

/-- PT_RING_CNT (14_pot_mailboxes_and_rings). -/
def Off.PT_RING_CNT (i : Nat) : Nat := 0x18038 + 0x80 * i
def Fld.PT_RING_CNT.COMPLETED : Fld := ⟨32, 32⟩
def Fld.PT_RING_CNT.CANCELLED : Fld := ⟨0, 32⟩
def Row.PT_RING_CNT : RegRow := ⟨"PT_RING_CNT", 0x18038, 0x80, 16, 0x0, 1, .always, [⟨32, 32, .rw, 0⟩, ⟨0, 32, .rw, 0⟩]⟩

/-- KT_STATUS (15_the_kettle). -/
def Off.KT_STATUS : Nat := 0x100000
def Fld.KT_STATUS.ON : Fld := ⟨49, 7⟩
def Fld.KT_STATUS.CG : Fld := ⟨42, 7⟩
def Fld.KT_STATUS.RET : Fld := ⟨35, 7⟩
def Fld.KT_STATUS.OFF : Fld := ⟨28, 7⟩
def Fld.KT_STATUS.FAILED : Fld := ⟨21, 7⟩
def Fld.KT_STATUS.PENDING : Fld := ⟨14, 7⟩
def Fld.KT_STATUS.SIDE_CH_UP : Fld := ⟨3, 1⟩
def Fld.KT_STATUS.DIE_B_FENCED : Fld := ⟨2, 1⟩
def Fld.KT_STATUS.FABRIC_STATE : Fld := ⟨0, 2⟩
def Row.KT_STATUS : RegRow := ⟨"KT_STATUS", 0x100000, 0x0, 1, 0x0, 1, .always, [⟨49, 7, .ro, 72⟩, ⟨42, 7, .ro, 0⟩, ⟨35, 7, .ro, 0⟩, ⟨28, 7, .ro, 0⟩, ⟨21, 7, .ro, 0⟩, ⟨14, 7, .ro, 0⟩, ⟨3, 1, .ro, 1⟩, ⟨2, 1, .ro, 0⟩, ⟨0, 2, .ro, 0⟩]⟩

/-- KT_GT_MASK_0 (15_the_kettle). -/
def Off.KT_GT_MASK_0 : Nat := 0x100010
def Fld.KT_GT_MASK_0.NAMED : Fld := ⟨0, 64⟩
def Row.KT_GT_MASK_0 : RegRow := ⟨"KT_GT_MASK_0", 0x100010, 0x0, 1, 0x0, 1, .always, [⟨0, 64, .rw, 0⟩]⟩

/-- KT_GT_MASK_1 (15_the_kettle). -/
def Off.KT_GT_MASK_1 : Nat := 0x100018
def Fld.KT_GT_MASK_1.NAMED : Fld := ⟨0, 8⟩
def Row.KT_GT_MASK_1 : RegRow := ⟨"KT_GT_MASK_1", 0x100018, 0x0, 1, 0x0, 1, .always, [⟨0, 8, .rw, 0⟩]⟩

/-- KT_FAIL_INFO (15_the_kettle). -/
def Off.KT_FAIL_INFO : Nat := 0x100020
def Fld.KT_FAIL_INFO.DOMAIN : Fld := ⟨56, 8⟩
def Fld.KT_FAIL_INFO.PHASE : Fld := ⟨52, 4⟩
def Fld.KT_FAIL_INFO.TIME : Fld := ⟨0, 48⟩
def Row.KT_FAIL_INFO : RegRow := ⟨"KT_FAIL_INFO", 0x100020, 0x0, 1, 0x0, 1, .always, [⟨56, 8, .ro, 0⟩, ⟨52, 4, .ro, 0⟩, ⟨0, 48, .ro, 0⟩]⟩

/-- KT_SIDE (15_the_kettle). -/
def Off.KT_SIDE : Nat := 0x100028
def Fld.KT_SIDE.RESENDS : Fld := ⟨48, 16⟩
def Fld.KT_SIDE.MAX_RUN : Fld := ⟨40, 8⟩
def Row.KT_SIDE : RegRow := ⟨"KT_SIDE", 0x100028, 0x0, 1, 0x0, 1, .always, [⟨48, 16, .ro, 0⟩, ⟨40, 8, .ro, 0⟩]⟩

/-- KT_DOM_d (15_the_kettle). -/
def Off.KT_DOM (i : Nat) : Nat := 0x101000 + 0x8 * i
def Fld.KT_DOM.FAILED : Fld := ⟨63, 1⟩
def Fld.KT_DOM.PENDING_ON : Fld := ⟨62, 1⟩
def Fld.KT_DOM.GT_NAMED : Fld := ⟨61, 1⟩
def Fld.KT_DOM.REFUSED : Fld := ⟨60, 1⟩
def Fld.KT_DOM.PHASE : Fld := ⟨52, 4⟩
def Fld.KT_DOM.STATE : Fld := ⟨48, 2⟩
def Fld.KT_DOM.TARGET : Fld := ⟨44, 2⟩
def Fld.KT_DOM.REST : Fld := ⟨40, 2⟩
def Fld.KT_DOM.IDLE_LOG2 : Fld := ⟨32, 5⟩
def Fld.KT_DOM.DIE : Fld := ⟨7, 1⟩
def Fld.KT_DOM.DOMAIN : Fld := ⟨0, 7⟩
def Row.KT_DOM : RegRow := ⟨"KT_DOM", 0x101000, 0x8, 72, 0x0, 1, .always, [⟨63, 1, .ro, 0⟩, ⟨62, 1, .ro, 0⟩, ⟨61, 1, .ro, 0⟩, ⟨60, 1, .w1c, 0⟩, ⟨52, 4, .ro, 0⟩, ⟨48, 2, .ro, 0⟩, ⟨44, 2, .ro, 0⟩, ⟨40, 2, .rw, 0⟩, ⟨32, 5, .rw, 8⟩, ⟨7, 1, .ro, 0⟩, ⟨0, 7, .ro, 0⟩]⟩

/-- KT_DOM_CNT_d (15_the_kettle). -/
def Off.KT_DOM_CNT (i : Nat) : Nat := 0x101400 + 0x8 * i
def Fld.KT_DOM_CNT.WAKES : Fld := ⟨48, 16⟩
def Fld.KT_DOM_CNT.LOWERINGS : Fld := ⟨32, 16⟩
def Fld.KT_DOM_CNT.PENDED : Fld := ⟨16, 16⟩
def Fld.KT_DOM_CNT.LAST_WAKE : Fld := ⟨0, 16⟩
def Row.KT_DOM_CNT : RegRow := ⟨"KT_DOM_CNT", 0x101400, 0x8, 72, 0x0, 1, .always, [⟨48, 16, .ro, 0⟩, ⟨32, 16, .ro, 0⟩, ⟨16, 16, .ro, 0⟩, ⟨0, 16, .ro, 0⟩]⟩

/-- SC_CTRL (16_errors_and_the_saucer). -/
def Off.SC_CTRL : Nat := 0x300000
def Fld.SC_CTRL.AGENT : Fld := ⟨36, 12⟩
def Fld.SC_CTRL.NOTIFY_CLASS : Fld := ⟨5, 3⟩
def Fld.SC_CTRL.C3_LID : Fld := ⟨3, 1⟩
def Fld.SC_CTRL.C1_AUTO : Fld := ⟨2, 1⟩
def Fld.SC_CTRL.IRQ_EN : Fld := ⟨1, 1⟩
def Fld.SC_CTRL.HRING_EN : Fld := ⟨0, 1⟩
def Row.SC_CTRL : RegRow := ⟨"SC_CTRL", 0x300000, 0x0, 1, 0x0, 1, .always, [⟨36, 12, .rw, 0⟩, ⟨5, 3, .rw, 2⟩, ⟨3, 1, .rw, 0⟩, ⟨2, 1, .rw, 1⟩, ⟨1, 1, .rw, 0⟩, ⟨0, 1, .rw, 0⟩]⟩

/-- SC_STATUS (16_errors_and_the_saucer). -/
def Off.SC_STATUS : Nat := 0x300008
def Fld.SC_STATUS.QUEUE : Fld := ⟨56, 8⟩
def Fld.SC_STATUS.OPEN : Fld := ⟨32, 9⟩
def Fld.SC_STATUS.OPEN_FULL : Fld := ⟨16, 16⟩
def Fld.SC_STATUS.HRING_STOPPED : Fld := ⟨4, 1⟩
def Fld.SC_STATUS.LOSS_PENDING : Fld := ⟨3, 1⟩
def Fld.SC_STATUS.INJ_ARMED : Fld := ⟨2, 1⟩
def Fld.SC_STATUS.C4 : Fld := ⟨1, 1⟩
def Row.SC_STATUS : RegRow := ⟨"SC_STATUS", 0x300008, 0x0, 1, 0x0, 1, .always, [⟨56, 8, .ro, 0⟩, ⟨32, 9, .ro, 0⟩, ⟨16, 16, .ro, 0⟩, ⟨4, 1, .ro, 0⟩, ⟨3, 1, .ro, 0⟩, ⟨2, 1, .ro, 0⟩, ⟨1, 1, .ro, 0⟩]⟩

/-- SC_SEQ (16_errors_and_the_saucer). -/
def Off.SC_SEQ : Nat := 0x300010
def Fld.SC_SEQ.NEXT : Fld := ⟨0, 32⟩
def Row.SC_SEQ : RegRow := ⟨"SC_SEQ", 0x300010, 0x0, 1, 0x0, 1, .always, [⟨0, 32, .ro, 1⟩]⟩

/-- SC_OPEN_CNT (16_errors_and_the_saucer). -/
def Off.SC_OPEN_CNT : Nat := 0x300018
def Fld.SC_OPEN_CNT.C4 : Fld := ⟨48, 16⟩
def Fld.SC_OPEN_CNT.C3 : Fld := ⟨32, 16⟩
def Fld.SC_OPEN_CNT.C2 : Fld := ⟨16, 16⟩
def Fld.SC_OPEN_CNT.C1 : Fld := ⟨0, 16⟩
def Row.SC_OPEN_CNT : RegRow := ⟨"SC_OPEN_CNT", 0x300018, 0x0, 1, 0x0, 1, .always, [⟨48, 16, .ro, 0⟩, ⟨32, 16, .ro, 0⟩, ⟨16, 16, .ro, 0⟩, ⟨0, 16, .ro, 0⟩]⟩

/-- SC_LAST_c (16_errors_and_the_saucer). -/
def Off.SC_LAST (i : Nat) : Nat := 0x300020 + 0x8 * i
def Fld.SC_LAST.FAULT : Fld := ⟨0, 64⟩
def Row.SC_LAST : RegRow := ⟨"SC_LAST", 0x300020, 0x8, 5, 0x0, 1, .always, [⟨0, 64, .ro, 0⟩]⟩

/-- SC_LOSS (16_errors_and_the_saucer). -/
def Off.SC_LOSS : Nat := 0x300048
def Fld.SC_LOSS.C2 : Fld := ⟨48, 16⟩
def Fld.SC_LOSS.C1 : Fld := ⟨32, 16⟩
def Fld.SC_LOSS.C0 : Fld := ⟨16, 16⟩
def Fld.SC_LOSS.MERGED : Fld := ⟨0, 16⟩
def Row.SC_LOSS : RegRow := ⟨"SC_LOSS", 0x300048, 0x0, 1, 0x0, 1, .always, [⟨48, 16, .ro, 0⟩, ⟨32, 16, .ro, 0⟩, ⟨16, 16, .ro, 0⟩, ⟨0, 16, .ro, 0⟩]⟩

/-- SC_HRING_BASE (16_errors_and_the_saucer). -/
def Off.SC_HRING_BASE : Nat := 0x300050
def Fld.SC_HRING_BASE.ADDR : Fld := ⟨0, 52⟩
def Row.SC_HRING_BASE : RegRow := ⟨"SC_HRING_BASE", 0x300050, 0x0, 1, 0x0, 1, .always, [⟨0, 52, .rw, 0⟩]⟩

/-- SC_HRING_CFG (16_errors_and_the_saucer). -/
def Off.SC_HRING_CFG : Nat := 0x300058
def Fld.SC_HRING_CFG.LOG2 : Fld := ⟨60, 4⟩
def Fld.SC_HRING_CFG.HEAD : Fld := ⟨36, 12⟩
def Fld.SC_HRING_CFG.PHASE : Fld := ⟨35, 1⟩
def Row.SC_HRING_CFG : RegRow := ⟨"SC_HRING_CFG", 0x300058, 0x0, 1, 0x0, 1, .always, [⟨60, 4, .rw, 4⟩, ⟨36, 12, .ro, 0⟩, ⟨35, 1, .ro, 1⟩]⟩

/-- SC_IRQ_ADDR (16_errors_and_the_saucer). -/
def Off.SC_IRQ_ADDR : Nat := 0x300060
def Fld.SC_IRQ_ADDR.ADDR : Fld := ⟨2, 50⟩
def Row.SC_IRQ_ADDR : RegRow := ⟨"SC_IRQ_ADDR", 0x300060, 0x0, 1, 0x0, 1, .always, [⟨2, 50, .rw, 0⟩]⟩

/-- SC_IRQ_DATA (16_errors_and_the_saucer). -/
def Off.SC_IRQ_DATA : Nat := 0x300068
def Fld.SC_IRQ_DATA.DATA : Fld := ⟨0, 32⟩
def Row.SC_IRQ_DATA : RegRow := ⟨"SC_IRQ_DATA", 0x300068, 0x0, 1, 0x0, 1, .always, [⟨0, 32, .rw, 0⟩]⟩

/-- SC_OPEN_SEL (16_errors_and_the_saucer). -/
def Off.SC_OPEN_SEL : Nat := 0x300070
def Fld.SC_OPEN_SEL.INDEX : Fld := ⟨0, 9⟩
def Row.SC_OPEN_SEL : RegRow := ⟨"SC_OPEN_SEL", 0x300070, 0x0, 1, 0x0, 1, .always, [⟨0, 9, .rw, 0⟩]⟩

/-- SC_OPEN_INFO (16_errors_and_the_saucer). -/
def Off.SC_OPEN_INFO : Nat := 0x300078
def Fld.SC_OPEN_INFO.VALID : Fld := ⟨63, 1⟩
def Fld.SC_OPEN_INFO.CLASS : Fld := ⟨60, 3⟩
def Fld.SC_OPEN_INFO.SRC : Fld := ⟨52, 8⟩
def Fld.SC_OPEN_INFO.KIND : Fld := ⟨44, 8⟩
def Fld.SC_OPEN_INFO.SEQ : Fld := ⟨12, 32⟩
def Row.SC_OPEN_INFO : RegRow := ⟨"SC_OPEN_INFO", 0x300078, 0x0, 1, 0x0, 1, .always, [⟨63, 1, .ro, 0⟩, ⟨60, 3, .ro, 0⟩, ⟨52, 8, .ro, 0⟩, ⟨44, 8, .ro, 0⟩, ⟨12, 32, .ro, 0⟩]⟩

/-- SC_INJ_FAULT (16_errors_and_the_saucer). -/
def Off.SC_INJ_FAULT : Nat := 0x300100
def Fld.SC_INJ_FAULT.WORD : Fld := ⟨0, 64⟩
def Row.SC_INJ_FAULT : RegRow := ⟨"SC_INJ_FAULT", 0x300100, 0x0, 1, 0x0, 1, .testMode, [⟨0, 64, .rw, 0⟩]⟩

/-- SC_INJ_CTRL (16_errors_and_the_saucer). -/
def Off.SC_INJ_CTRL : Nat := 0x300108
def Fld.SC_INJ_CTRL.POINT : Fld := ⟨60, 4⟩
def Fld.SC_INJ_CTRL.TARGET : Fld := ⟨52, 8⟩
def Fld.SC_INJ_CTRL.LANE : Fld := ⟨48, 4⟩
def Fld.SC_INJ_CTRL.PORT : Fld := ⟨45, 3⟩
def Fld.SC_INJ_CTRL.HALF : Fld := ⟨44, 1⟩
def Fld.SC_INJ_CTRL.COUNT : Fld := ⟨36, 8⟩
def Fld.SC_INJ_CTRL.ARM : Fld := ⟨0, 1⟩
def Row.SC_INJ_CTRL : RegRow := ⟨"SC_INJ_CTRL", 0x300108, 0x0, 1, 0x0, 1, .testMode, [⟨60, 4, .rw, 0⟩, ⟨52, 8, .rw, 0⟩, ⟨48, 4, .rw, 0⟩, ⟨45, 3, .rw, 0⟩, ⟨44, 1, .rw, 0⟩, ⟨36, 8, .rw, 1⟩, ⟨0, 1, .sc, 0⟩]⟩

/-- GL_POT_ECC (16_errors_and_the_saucer). -/
def Off.GL_POT_ECC : Nat := 0x90
def Fld.GL_POT_ECC.CE : Fld := ⟨48, 16⟩
def Fld.GL_POT_ECC.UE : Fld := ⟨40, 8⟩
def Fld.GL_POT_ECC.LAST_WORD : Fld := ⟨0, 16⟩
def Row.GL_POT_ECC : RegRow := ⟨"GL_POT_ECC", 0x90, 0x0, 1, 0x0, 1, .always, [⟨48, 16, .ro, 0⟩, ⟨40, 8, .ro, 0⟩, ⟨0, 16, .ro, 0⟩]⟩

/-- HS_DIAG_CHK (16_errors_and_the_saucer). -/
def Off.HS_DIAG_CHK (i : Nat) : Nat := 0xE00070 + 0x10000 * i
def Fld.HS_DIAG_CHK.RAW : Fld := ⟨63, 1⟩
def Fld.HS_DIAG_CHK.BUSY : Fld := ⟨62, 1⟩
def Fld.HS_DIAG_CHK.CHK : Fld := ⟨0, 40⟩
def Row.HS_DIAG_CHK : RegRow := ⟨"HS_DIAG_CHK", 0xE00070, 0x10000, 16, 0x0, 1, .always, [⟨63, 1, .rw, 0⟩, ⟨62, 1, .w1c, 0⟩, ⟨0, 40, .rw, 0⟩]⟩

/-- NI_FAULT_CNT (16_errors_and_the_saucer). -/
def Off.NI_FAULT_CNT (i : Nat) : Nat := 0xC00640 + 0x2000 * i
def Fld.NI_FAULT_CNT.SENT : Fld := ⟨48, 16⟩
def Fld.NI_FAULT_CNT.LOST_C2 : Fld := ⟨36, 12⟩
def Fld.NI_FAULT_CNT.LOST_C1 : Fld := ⟨24, 12⟩
def Fld.NI_FAULT_CNT.LOST_C0 : Fld := ⟨12, 12⟩
def Fld.NI_FAULT_CNT.MERGED : Fld := ⟨4, 8⟩
def Fld.NI_FAULT_CNT.HELD : Fld := ⟨0, 4⟩
def Row.NI_FAULT_CNT : RegRow := ⟨"NI_FAULT_CNT", 0xC00640, 0x2000, 256, 0x0, 1, .always, [⟨48, 16, .ro, 0⟩, ⟨36, 12, .ro, 0⟩, ⟨24, 12, .ro, 0⟩, ⟨12, 12, .ro, 0⟩, ⟨4, 8, .ro, 0⟩, ⟨0, 4, .ro, 0⟩]⟩

/-- NI_DIAG_SEL (16_errors_and_the_saucer). -/
def Off.NI_DIAG_SEL (i : Nat) : Nat := 0xC00680 + 0x2000 * i
def Fld.NI_DIAG_SEL.EN : Fld := ⟨63, 1⟩
def Fld.NI_DIAG_SEL.BUSY : Fld := ⟨62, 1⟩
def Fld.NI_DIAG_SEL.BUF : Fld := ⟨60, 2⟩
def Fld.NI_DIAG_SEL.INDEX : Fld := ⟨13, 13⟩
def Fld.NI_DIAG_SEL.GROUP : Fld := ⟨10, 3⟩
def Fld.NI_DIAG_SEL.RAW : Fld := ⟨1, 1⟩
def Fld.NI_DIAG_SEL.GO : Fld := ⟨0, 1⟩
def Row.NI_DIAG_SEL : RegRow := ⟨"NI_DIAG_SEL", 0xC00680, 0x2000, 256, 0x0, 1, .always, [⟨63, 1, .rw, 0⟩, ⟨62, 1, .w1c, 0⟩, ⟨60, 2, .rw, 0⟩, ⟨13, 13, .rw, 0⟩, ⟨10, 3, .rw, 0⟩, ⟨1, 1, .rw, 0⟩, ⟨0, 1, .sc, 0⟩]⟩

/-- NI_DIAG_DATA (16_errors_and_the_saucer). -/
def Off.NI_DIAG_DATA (i : Nat) : Nat := 0xC00688 + 0x2000 * i
def Fld.NI_DIAG_DATA.DATA : Fld := ⟨0, 64⟩
def Row.NI_DIAG_DATA : RegRow := ⟨"NI_DIAG_DATA", 0xC00688, 0x2000, 256, 0x0, 1, .always, [⟨0, 64, .rw, 0⟩]⟩

/-- NI_DIAG_CHK (16_errors_and_the_saucer). -/
def Off.NI_DIAG_CHK (i : Nat) : Nat := 0xC00690 + 0x2000 * i
def Fld.NI_DIAG_CHK.CHK : Fld := ⟨0, 40⟩
def Row.NI_DIAG_CHK : RegRow := ⟨"NI_DIAG_CHK", 0xC00690, 0x2000, 256, 0x0, 1, .always, [⟨0, 40, .rw, 0⟩]⟩

/-- CD_CTRL (17_caddy_and_trace). -/
def Off.CD_CTRL : Nat := 0x380000
def Fld.CD_CTRL.LOG_CG : Fld := ⟨0, 1⟩
def Row.CD_CTRL : RegRow := ⟨"CD_CTRL", 0x380000, 0x0, 1, 0x0, 1, .always, [⟨0, 1, .rw, 0⟩]⟩

/-- CD_STATUS (17_caddy_and_trace). -/
def Off.CD_STATUS : Nat := 0x380008
def Fld.CD_STATUS.NEWEST : Fld := ⟨51, 13⟩
def Fld.CD_STATUS.HELD : Fld := ⟨37, 14⟩
def Fld.CD_STATUS.RESERVED : Fld := ⟨34, 3⟩
def Fld.CD_STATUS.FROZEN : Fld := ⟨33, 1⟩
def Fld.CD_STATUS.BY_C4 : Fld := ⟨32, 1⟩
def Row.CD_STATUS : RegRow := ⟨"CD_STATUS", 0x380008, 0x0, 1, 0x0, 1, .always, [⟨51, 13, .ro, 8191⟩, ⟨37, 14, .ro, 0⟩, ⟨34, 3, .ro, 0⟩, ⟨33, 1, .ro, 0⟩, ⟨32, 1, .ro, 0⟩]⟩

/-- CD_FREEZE_TIME (17_caddy_and_trace). -/
def Off.CD_FREEZE_TIME : Nat := 0x380010
def Fld.CD_FREEZE_TIME.TIME : Fld := ⟨0, 64⟩
def Row.CD_FREEZE_TIME : RegRow := ⟨"CD_FREEZE_TIME", 0x380010, 0x0, 1, 0x0, 1, .always, [⟨0, 64, .ro, 0⟩]⟩

/-- CD_LOSS (17_caddy_and_trace). -/
def Off.CD_LOSS : Nat := 0x380018
def Fld.CD_LOSS.FROZEN_DROPS : Fld := ⟨48, 16⟩
def Fld.CD_LOSS.FOLDED : Fld := ⟨32, 16⟩
def Fld.CD_LOSS.ABORTED : Fld := ⟨16, 16⟩
def Row.CD_LOSS : RegRow := ⟨"CD_LOSS", 0x380018, 0x0, 1, 0x0, 1, .always, [⟨48, 16, .ro, 0⟩, ⟨32, 16, .ro, 0⟩, ⟨16, 16, .ro, 0⟩]⟩

/-- CD_ERR (17_caddy_and_trace). -/
def Off.CD_ERR : Nat := 0x380020
def Fld.CD_ERR.CE : Fld := ⟨48, 16⟩
def Fld.CD_ERR.UE : Fld := ⟨40, 8⟩
def Fld.CD_ERR.LAST_SLOT : Fld := ⟨27, 13⟩
def Row.CD_ERR : RegRow := ⟨"CD_ERR", 0x380020, 0x0, 1, 0x0, 1, .always, [⟨48, 16, .ro, 0⟩, ⟨40, 8, .ro, 0⟩, ⟨27, 13, .ro, 0⟩]⟩

/-- CD_REC_k_w (17_caddy_and_trace). -/
def Off.CD_REC (i : Nat) (j : Nat) : Nat := 0x3C0000 + 0x20 * i + 0x8 * j
def Fld.CD_REC.WORD : Fld := ⟨0, 64⟩
def Row.CD_REC : RegRow := ⟨"CD_REC", 0x3C0000, 0x20, 8192, 0x8, 4, .always, [⟨0, 64, .ro, 0⟩]⟩

/-- PT_TRACE_CTRL (17_caddy_and_trace). -/
def Off.PT_TRACE_CTRL : Nat := 0x8020
def Fld.PT_TRACE_CTRL.FOLLOW : Fld := ⟨1, 1⟩
def Fld.PT_TRACE_CTRL.EN : Fld := ⟨0, 1⟩
def Row.PT_TRACE_CTRL : RegRow := ⟨"PT_TRACE_CTRL", 0x8020, 0x0, 1, 0x0, 1, .always, [⟨1, 1, .rw, 1⟩, ⟨0, 1, .rw, 0⟩]⟩

/-- PT_TRACE_STATUS (17_caddy_and_trace). -/
def Off.PT_TRACE_STATUS : Nat := 0x8028
def Fld.PT_TRACE_STATUS.NEXT : Fld := ⟨55, 9⟩
def Fld.PT_TRACE_STATUS.WRAPPED : Fld := ⟨54, 1⟩
def Fld.PT_TRACE_STATUS.STOPPED : Fld := ⟨53, 1⟩
def Row.PT_TRACE_STATUS : RegRow := ⟨"PT_TRACE_STATUS", 0x8028, 0x0, 1, 0x0, 1, .always, [⟨55, 9, .ro, 0⟩, ⟨54, 1, .ro, 0⟩, ⟨53, 1, .ro, 0⟩]⟩

/-- PT_TRACE_k (17_caddy_and_trace). -/
def Off.PT_TRACE (i : Nat) : Nat := 0x9000 + 0x8 * i
def Fld.PT_TRACE.ENTRY : Fld := ⟨0, 64⟩
def Row.PT_TRACE : RegRow := ⟨"PT_TRACE", 0x9000, 0x8, 512, 0x0, 1, .always, [⟨0, 64, .ro, 0⟩]⟩

/-- NI_LEAF_CFG (17_caddy_and_trace). -/
def Off.NI_LEAF_CFG (i : Nat) : Nat := 0xC00700 + 0x2000 * i
def Fld.NI_LEAF_CFG.EN : Fld := ⟨63, 1⟩
def Fld.NI_LEAF_CFG.TO_LOG2 : Fld := ⟨40, 5⟩
def Fld.NI_LEAF_CFG.K : Fld := ⟨32, 5⟩
def Fld.NI_LEAF_CFG.COMMIT : Fld := ⟨0, 1⟩
def Row.NI_LEAF_CFG : RegRow := ⟨"NI_LEAF_CFG", 0xC00700, 0x2000, 256, 0x0, 1, .always, [⟨63, 1, .st, 0⟩, ⟨40, 5, .st, 18⟩, ⟨32, 5, .st, 0⟩, ⟨0, 1, .sc, 0⟩]⟩

/-- NI_LEAF_DEST (17_caddy_and_trace). -/
def Off.NI_LEAF_DEST (i : Nat) : Nat := 0xC00708 + 0x2000 * i
def Fld.NI_LEAF_DEST.LINE : Fld := ⟨6, 46⟩
def Row.NI_LEAF_DEST : RegRow := ⟨"NI_LEAF_DEST", 0xC00708, 0x2000, 256, 0x0, 1, .always, [⟨6, 46, .st, 0⟩]⟩

/-- NI_LEAF_STATUS (17_caddy_and_trace). -/
def Off.NI_LEAF_STATUS (i : Nat) : Nat := 0xC00710 + 0x2000 * i
def Fld.NI_LEAF_STATUS.OPEN : Fld := ⟨57, 7⟩
def Fld.NI_LEAF_STATUS.QUEUE : Fld := ⟨52, 5⟩
def Fld.NI_LEAF_STATUS.LFSR : Fld := ⟨0, 31⟩
def Row.NI_LEAF_STATUS : RegRow := ⟨"NI_LEAF_STATUS", 0xC00710, 0x2000, 256, 0x0, 1, .always, [⟨57, 7, .ro, 0⟩, ⟨52, 5, .ro, 0⟩, ⟨0, 31, .ro, 0⟩]⟩

/-- NI_LEAF_CNT (17_caddy_and_trace). -/
def Off.NI_LEAF_CNT (i : Nat) : Nat := 0xC00718 + 0x2000 * i
def Fld.NI_LEAF_CNT.TAGGED : Fld := ⟨48, 16⟩
def Fld.NI_LEAF_CNT.SKIPPED : Fld := ⟨32, 16⟩
def Fld.NI_LEAF_CNT.STAMP_DROPS : Fld := ⟨16, 16⟩
def Fld.NI_LEAF_CNT.INCOMPLETE : Fld := ⟨0, 16⟩
def Row.NI_LEAF_CNT : RegRow := ⟨"NI_LEAF_CNT", 0xC00718, 0x2000, 256, 0x0, 1, .always, [⟨48, 16, .ro, 0⟩, ⟨32, 16, .ro, 0⟩, ⟨16, 16, .ro, 0⟩, ⟨0, 16, .ro, 0⟩]⟩

/-- PM_COL_STATUS (18_performance_counters). -/
def Off.PM_COL_STATUS : Nat := 0xDFB000
def Fld.PM_COL_STATUS.NEWEST_ID : Fld := ⟨32, 32⟩
def Fld.PM_COL_STATUS.PENDING : Fld := ⟨23, 9⟩
def Fld.PM_COL_STATUS.SHOWN_BANK : Fld := ⟨22, 1⟩
def Fld.PM_COL_STATUS.SHOWN_VALID : Fld := ⟨21, 1⟩
def Row.PM_COL_STATUS : RegRow := ⟨"PM_COL_STATUS", 0xDFB000, 0x0, 1, 0x0, 1, .always, [⟨32, 32, .ro, 0⟩, ⟨23, 9, .ro, 0⟩, ⟨22, 1, .ro, 0⟩, ⟨21, 1, .ro, 0⟩]⟩

/-- PM_COL_COUNTS (18_performance_counters). -/
def Off.PM_COL_COUNTS : Nat := 0xDFB008
def Fld.PM_COL_COUNTS.VALID : Fld := ⟨48, 16⟩
def Fld.PM_COL_COUNTS.ASLEEP : Fld := ⟨32, 16⟩
def Fld.PM_COL_COUNTS.INVALID : Fld := ⟨16, 16⟩
def Fld.PM_COL_COUNTS.LATE : Fld := ⟨0, 16⟩
def Row.PM_COL_COUNTS : RegRow := ⟨"PM_COL_COUNTS", 0xDFB008, 0x0, 1, 0x0, 1, .always, [⟨48, 16, .ro, 0⟩, ⟨32, 16, .ro, 0⟩, ⟨16, 16, .ro, 0⟩, ⟨0, 16, .ro, 0⟩]⟩

/-- PM_COL_T (18_performance_counters). -/
def Off.PM_COL_T : Nat := 0xDFB010
def Fld.PM_COL_T.T : Fld := ⟨0, 64⟩
def Row.PM_COL_T : RegRow := ⟨"PM_COL_T", 0xDFB010, 0x0, 1, 0x0, 1, .always, [⟨0, 64, .ro, 0⟩]⟩

/-- PM_COL_APERTURE (18_performance_counters). -/
def Off.PM_COL_APERTURE : Nat := 0xDFB018
def Fld.PM_COL_APERTURE.VALID : Fld := ⟨63, 1⟩
def Fld.PM_COL_APERTURE.BASE : Fld := ⟨19, 33⟩
def Row.PM_COL_APERTURE : RegRow := ⟨"PM_COL_APERTURE", 0xDFB018, 0x0, 1, 0x0, 1, .always, [⟨63, 1, .rw, 0⟩, ⟨19, 33, .rw, 0⟩]⟩

/-- PM_USER_w (18_performance_counters). -/
def Off.PM_USER (i : Nat) : Nat := 0xDFB040 + 0x8 * i
def Fld.PM_USER.USER : Fld := ⟨0, 64⟩
def Row.PM_USER : RegRow := ⟨"PM_USER", 0xDFB040, 0x8, 8, 0x0, 1, .always, [⟨0, 64, .rw, 0⟩]⟩

/-- PM_COL_ERR (18_performance_counters). -/
def Off.PM_COL_ERR : Nat := 0xDFB080
def Fld.PM_COL_ERR.TIMED_OUT : Fld := ⟨48, 16⟩
def Fld.PM_COL_ERR.DISCARDED : Fld := ⟨32, 16⟩
def Fld.PM_COL_ERR.DENIED : Fld := ⟨16, 16⟩
def Row.PM_COL_ERR : RegRow := ⟨"PM_COL_ERR", 0xDFB080, 0x0, 1, 0x0, 1, .always, [⟨48, 16, .ro, 0⟩, ⟨32, 16, .ro, 0⟩, ⟨16, 16, .ro, 0⟩]⟩

/-- GL_BOOT (19_start_up_reset_and_partition). -/
def Off.GL_BOOT : Nat := 0xA0
def Fld.GL_BOOT.FAIL : Fld := ⟨56, 8⟩
def Fld.GL_BOOT.STEP : Fld := ⟨48, 8⟩
def Fld.GL_BOOT.FW_COPY : Fld := ⟨47, 1⟩
def Fld.GL_BOOT.WARM : Fld := ⟨46, 1⟩
def Fld.GL_BOOT.READY : Fld := ⟨0, 1⟩
def Row.GL_BOOT : RegRow := ⟨"GL_BOOT", 0xA0, 0x0, 1, 0x0, 1, .always, [⟨56, 8, .rw, 0⟩, ⟨48, 8, .rw, 0⟩, ⟨47, 1, .rw, 0⟩, ⟨46, 1, .rw, 0⟩, ⟨0, 1, .w1s, 0⟩]⟩

/-- GL_BOOT_TIME (19_start_up_reset_and_partition). -/
def Off.GL_BOOT_TIME : Nat := 0xA8
def Fld.GL_BOOT_TIME.READY_US : Fld := ⟨32, 32⟩
def Fld.GL_BOOT_TIME.JOIN_US : Fld := ⟨0, 32⟩
def Row.GL_BOOT_TIME : RegRow := ⟨"GL_BOOT_TIME", 0xA8, 0x0, 1, 0x0, 1, .always, [⟨32, 32, .rw, 0⟩, ⟨0, 32, .rw, 0⟩]⟩

/-- GL_JOIN (19_start_up_reset_and_partition). -/
def Off.GL_JOIN : Nat := 0xB0
def Fld.GL_JOIN.STATE : Fld := ⟨60, 4⟩
def Fld.GL_JOIN.REASON : Fld := ⟨56, 4⟩
def Fld.GL_JOIN.LINKS_UP : Fld := ⟨44, 12⟩
def Fld.GL_JOIN.LINKS_LOST : Fld := ⟨32, 12⟩
def Fld.GL_JOIN.POISON_LIST : Fld := ⟨18, 14⟩
def Fld.GL_JOIN.POISON_OVF : Fld := ⟨17, 1⟩
def Fld.GL_JOIN.GO : Fld := ⟨0, 1⟩
def Row.GL_JOIN : RegRow := ⟨"GL_JOIN", 0xB0, 0x0, 1, 0x0, 1, .always, [⟨60, 4, .rw, 0⟩, ⟨56, 4, .rw, 0⟩, ⟨44, 12, .rw, 0⟩, ⟨32, 12, .rw, 0⟩, ⟨18, 14, .rw, 0⟩, ⟨17, 1, .rw, 0⟩, ⟨0, 1, .sc, 0⟩]⟩

/-- GL_PARTITION (19_start_up_reset_and_partition). -/
def Off.GL_PARTITION : Nat := 0xB8
def Fld.GL_PARTITION.TIME : Fld := ⟨0, 64⟩
def Row.GL_PARTITION : RegRow := ⟨"GL_PARTITION", 0xB8, 0x0, 1, 0x0, 1, .always, [⟨0, 64, .rw, 0⟩]⟩

/-- GL_BLS_SEL (19_start_up_reset_and_partition). -/
def Off.GL_BLS_SEL : Nat := 0xC8
def Fld.GL_BLS_SEL.ERR : Fld := ⟨63, 1⟩
def Fld.GL_BLS_SEL.COUNT : Fld := ⟨38, 10⟩
def Fld.GL_BLS_SEL.OFFSET : Fld := ⟨3, 23⟩
def Row.GL_BLS_SEL : RegRow := ⟨"GL_BLS_SEL", 0xC8, 0x0, 1, 0x0, 1, .always, [⟨63, 1, .w1c, 0⟩, ⟨38, 10, .ro, 0⟩, ⟨3, 23, .bl, 0⟩]⟩

/-- GL_BLS_DATA (19_start_up_reset_and_partition). -/
def Off.GL_BLS_DATA : Nat := 0xD0
def Fld.GL_BLS_DATA.VALUE : Fld := ⟨0, 64⟩
def Row.GL_BLS_DATA : RegRow := ⟨"GL_BLS_DATA", 0xD0, 0x0, 1, 0x0, 1, .always, [⟨0, 64, .bl, 0⟩]⟩

/-- GL_DEBUG (20_register_map). -/
def Off.GL_DEBUG : Nat := 0xC0
def Fld.GL_DEBUG.PORT_READS : Fld := ⟨32, 32⟩
def Fld.GL_DEBUG.PORT_REFUSED : Fld := ⟨16, 16⟩
def Fld.GL_DEBUG.ENABLED : Fld := ⟨0, 1⟩
def Row.GL_DEBUG : RegRow := ⟨"GL_DEBUG", 0xC0, 0x0, 1, 0x0, 1, .always, [⟨32, 32, .ro, 0⟩, ⟨16, 16, .ro, 0⟩, ⟨0, 1, .ro, 0⟩]⟩

/-- NI_INJ (20_register_map). -/
def Off.NI_INJ (i : Nat) : Nat := 0xC00698 + 0x2000 * i
def Fld.NI_INJ.POINT : Fld := ⟨60, 4⟩
def Fld.NI_INJ.REMAINING : Fld := ⟨52, 8⟩
def Fld.NI_INJ.DONE : Fld := ⟨36, 16⟩
def Fld.NI_INJ.ARMED : Fld := ⟨0, 1⟩
def Row.NI_INJ : RegRow := ⟨"NI_INJ", 0xC00698, 0x2000, 256, 0x0, 1, .testMode, [⟨60, 4, .ro, 0⟩, ⟨52, 8, .ro, 0⟩, ⟨36, 16, .ro, 0⟩, ⟨0, 1, .ro, 0⟩]⟩

/-- PM_CNT (18_performance_counters). -/
def Off.RT_PM_CNT (i : Nat) (j : Nat) : Nat := 0x1000000 + 0x1000 * i + 0x8 * j
def Fld.RT_PM_CNT.OVF : Fld := ⟨63, 1⟩
def Fld.RT_PM_CNT.COUNT : Fld := ⟨0, 48⟩
def Row.RT_PM_CNT : RegRow := ⟨"RT_PM_CNT", 0x1000000, 0x1000, 192, 0x8, 64, .always, [⟨63, 1, .w1c, 0⟩, ⟨0, 48, .ro, 0⟩]⟩

/-- PM_SHD (18_performance_counters). -/
def Off.RT_PM_SHD (i : Nat) (j : Nat) : Nat := 0x1000400 + 0x1000 * i + 0x8 * j
def Fld.RT_PM_SHD.OVF : Fld := ⟨63, 1⟩
def Fld.RT_PM_SHD.COUNT : Fld := ⟨0, 48⟩
def Row.RT_PM_SHD : RegRow := ⟨"RT_PM_SHD", 0x1000400, 0x1000, 192, 0x8, 64, .always, [⟨63, 1, .ro, 0⟩, ⟨0, 48, .ro, 0⟩]⟩

/-- PM_HDR (18_performance_counters). -/
def Off.RT_PM_HDR (i : Nat) : Nat := 0x1000800 + 0x1000 * i
def Fld.RT_PM_HDR.SNAP_ID : Fld := ⟨32, 32⟩
def Fld.RT_PM_HDR.STATUS : Fld := ⟨30, 2⟩
def Fld.RT_PM_HDR.LATE : Fld := ⟨29, 1⟩
def Fld.RT_PM_HDR.CONF : Fld := ⟨27, 2⟩
def Fld.RT_PM_HDR.TYPE : Fld := ⟨14, 2⟩
def Fld.RT_PM_HDR.INDEX : Fld := ⟨0, 9⟩
def Row.RT_PM_HDR : RegRow := ⟨"RT_PM_HDR", 0x1000800, 0x1000, 192, 0x0, 1, .always, [⟨32, 32, .ro, 0⟩, ⟨30, 2, .ro, 0⟩, ⟨29, 1, .ro, 0⟩, ⟨27, 2, .ro, 3⟩, ⟨14, 2, .ro, 0⟩, ⟨0, 9, .ro, 0⟩]⟩

/-- PM_SNAP_T (18_performance_counters). -/
def Off.RT_PM_SNAP_T (i : Nat) : Nat := 0x1000808 + 0x1000 * i
def Fld.RT_PM_SNAP_T.T : Fld := ⟨0, 64⟩
def Row.RT_PM_SNAP_T : RegRow := ⟨"RT_PM_SNAP_T", 0x1000808, 0x1000, 192, 0x0, 1, .always, [⟨0, 64, .ro, 0⟩]⟩

/-- PM_SNAP_AT (18_performance_counters). -/
def Off.RT_PM_SNAP_AT (i : Nat) : Nat := 0x1000810 + 0x1000 * i
def Fld.RT_PM_SNAP_AT.AT : Fld := ⟨0, 64⟩
def Row.RT_PM_SNAP_AT : RegRow := ⟨"RT_PM_SNAP_AT", 0x1000810, 0x1000, 192, 0x0, 1, .always, [⟨0, 64, .ro, 0⟩]⟩

/-- PM_FLT_MATCH (18_performance_counters). -/
def Off.RT_PM_FLT_MATCH (i : Nat) (j : Nat) : Nat := 0x1000900 + 0x1000 * i + 0x20 * j
def Fld.RT_PM_FLT_MATCH.AGENT : Fld := ⟨52, 12⟩
def Fld.RT_PM_FLT_MATCH.MASK : Fld := ⟨40, 12⟩
def Fld.RT_PM_FLT_MATCH.PRIV : Fld := ⟨38, 2⟩
def Fld.RT_PM_FLT_MATCH.EN : Fld := ⟨37, 1⟩
def Fld.RT_PM_FLT_MATCH.VNS : Fld := ⟨0, 8⟩
def Row.RT_PM_FLT_MATCH : RegRow := ⟨"RT_PM_FLT_MATCH", 0x1000900, 0x1000, 192, 0x20, 4, .always, [⟨52, 12, .st, 0⟩, ⟨40, 12, .st, 0⟩, ⟨38, 2, .st, 0⟩, ⟨37, 1, .st, 0⟩, ⟨0, 8, .st, 255⟩]⟩

/-- PM_FLT_BASE (18_performance_counters). -/
def Off.RT_PM_FLT_BASE (i : Nat) (j : Nat) : Nat := 0x1000908 + 0x1000 * i + 0x20 * j
def Fld.RT_PM_FLT_BASE.LINE : Fld := ⟨6, 46⟩
def Row.RT_PM_FLT_BASE : RegRow := ⟨"RT_PM_FLT_BASE", 0x1000908, 0x1000, 192, 0x20, 4, .always, [⟨6, 46, .st, 0⟩]⟩

/-- PM_FLT_LIMIT (18_performance_counters). -/
def Off.RT_PM_FLT_LIMIT (i : Nat) (j : Nat) : Nat := 0x1000910 + 0x1000 * i + 0x20 * j
def Fld.RT_PM_FLT_LIMIT.LINE : Fld := ⟨6, 46⟩
def Row.RT_PM_FLT_LIMIT : RegRow := ⟨"RT_PM_FLT_LIMIT", 0x1000910, 0x1000, 192, 0x20, 4, .always, [⟨6, 46, .st, 70368744177663⟩]⟩

/-- PM_FLT_COMMIT (18_performance_counters). -/
def Off.RT_PM_FLT_COMMIT (i : Nat) : Nat := 0x1000980 + 0x1000 * i
def Fld.RT_PM_FLT_COMMIT.COMMIT : Fld := ⟨0, 4⟩
def Row.RT_PM_FLT_COMMIT : RegRow := ⟨"RT_PM_FLT_COMMIT", 0x1000980, 0x1000, 192, 0x0, 1, .always, [⟨0, 4, .sc, 0⟩]⟩

/-- PM_BIND (18_performance_counters). -/
def Off.RT_PM_BIND (i : Nat) (j : Nat) : Nat := 0x1000A00 + 0x1000 * i + 0x8 * j
def Fld.RT_PM_BIND.BIND (k : Nat) : Fld := ⟨4 * k, 4⟩
def Row.RT_PM_BIND : RegRow := ⟨"RT_PM_BIND", 0x1000A00, 0x1000, 192, 0x8, 4, .always, [⟨0, 4, .rw, 0⟩, ⟨4, 4, .rw, 0⟩, ⟨8, 4, .rw, 0⟩, ⟨12, 4, .rw, 0⟩, ⟨16, 4, .rw, 0⟩, ⟨20, 4, .rw, 0⟩, ⟨24, 4, .rw, 0⟩, ⟨28, 4, .rw, 0⟩, ⟨32, 4, .rw, 0⟩, ⟨36, 4, .rw, 0⟩, ⟨40, 4, .rw, 0⟩, ⟨44, 4, .rw, 0⟩, ⟨48, 4, .rw, 0⟩, ⟨52, 4, .rw, 0⟩, ⟨56, 4, .rw, 0⟩, ⟨60, 4, .rw, 0⟩]⟩

/-- PM_CNT (18_performance_counters). -/
def Off.NI_PM_CNT (i : Nat) (j : Nat) : Nat := 0x1400000 + 0x1000 * i + 0x8 * j
def Fld.NI_PM_CNT.OVF : Fld := ⟨63, 1⟩
def Fld.NI_PM_CNT.COUNT : Fld := ⟨0, 48⟩
def Row.NI_PM_CNT : RegRow := ⟨"NI_PM_CNT", 0x1400000, 0x1000, 256, 0x8, 32, .always, [⟨63, 1, .w1c, 0⟩, ⟨0, 48, .ro, 0⟩]⟩

/-- PM_SHD (18_performance_counters). -/
def Off.NI_PM_SHD (i : Nat) (j : Nat) : Nat := 0x1400400 + 0x1000 * i + 0x8 * j
def Fld.NI_PM_SHD.OVF : Fld := ⟨63, 1⟩
def Fld.NI_PM_SHD.COUNT : Fld := ⟨0, 48⟩
def Row.NI_PM_SHD : RegRow := ⟨"NI_PM_SHD", 0x1400400, 0x1000, 256, 0x8, 32, .always, [⟨63, 1, .ro, 0⟩, ⟨0, 48, .ro, 0⟩]⟩

/-- PM_HDR (18_performance_counters). -/
def Off.NI_PM_HDR (i : Nat) : Nat := 0x1400800 + 0x1000 * i
def Fld.NI_PM_HDR.SNAP_ID : Fld := ⟨32, 32⟩
def Fld.NI_PM_HDR.STATUS : Fld := ⟨30, 2⟩
def Fld.NI_PM_HDR.LATE : Fld := ⟨29, 1⟩
def Fld.NI_PM_HDR.CONF : Fld := ⟨27, 2⟩
def Fld.NI_PM_HDR.TYPE : Fld := ⟨14, 2⟩
def Fld.NI_PM_HDR.INDEX : Fld := ⟨0, 9⟩
def Row.NI_PM_HDR : RegRow := ⟨"NI_PM_HDR", 0x1400800, 0x1000, 256, 0x0, 1, .always, [⟨32, 32, .ro, 0⟩, ⟨30, 2, .ro, 0⟩, ⟨29, 1, .ro, 0⟩, ⟨27, 2, .ro, 3⟩, ⟨14, 2, .ro, 1⟩, ⟨0, 9, .ro, 0⟩]⟩

/-- PM_SNAP_T (18_performance_counters). -/
def Off.NI_PM_SNAP_T (i : Nat) : Nat := 0x1400808 + 0x1000 * i
def Fld.NI_PM_SNAP_T.T : Fld := ⟨0, 64⟩
def Row.NI_PM_SNAP_T : RegRow := ⟨"NI_PM_SNAP_T", 0x1400808, 0x1000, 256, 0x0, 1, .always, [⟨0, 64, .ro, 0⟩]⟩

/-- PM_SNAP_AT (18_performance_counters). -/
def Off.NI_PM_SNAP_AT (i : Nat) : Nat := 0x1400810 + 0x1000 * i
def Fld.NI_PM_SNAP_AT.AT : Fld := ⟨0, 64⟩
def Row.NI_PM_SNAP_AT : RegRow := ⟨"NI_PM_SNAP_AT", 0x1400810, 0x1000, 256, 0x0, 1, .always, [⟨0, 64, .ro, 0⟩]⟩

/-- PM_FLT_MATCH (18_performance_counters). -/
def Off.NI_PM_FLT_MATCH (i : Nat) (j : Nat) : Nat := 0x1400900 + 0x1000 * i + 0x20 * j
def Fld.NI_PM_FLT_MATCH.AGENT : Fld := ⟨52, 12⟩
def Fld.NI_PM_FLT_MATCH.MASK : Fld := ⟨40, 12⟩
def Fld.NI_PM_FLT_MATCH.PRIV : Fld := ⟨38, 2⟩
def Fld.NI_PM_FLT_MATCH.EN : Fld := ⟨37, 1⟩
def Fld.NI_PM_FLT_MATCH.VNS : Fld := ⟨0, 8⟩
def Row.NI_PM_FLT_MATCH : RegRow := ⟨"NI_PM_FLT_MATCH", 0x1400900, 0x1000, 256, 0x20, 4, .always, [⟨52, 12, .st, 0⟩, ⟨40, 12, .st, 0⟩, ⟨38, 2, .st, 0⟩, ⟨37, 1, .st, 0⟩, ⟨0, 8, .st, 255⟩]⟩

/-- PM_FLT_BASE (18_performance_counters). -/
def Off.NI_PM_FLT_BASE (i : Nat) (j : Nat) : Nat := 0x1400908 + 0x1000 * i + 0x20 * j
def Fld.NI_PM_FLT_BASE.LINE : Fld := ⟨6, 46⟩
def Row.NI_PM_FLT_BASE : RegRow := ⟨"NI_PM_FLT_BASE", 0x1400908, 0x1000, 256, 0x20, 4, .always, [⟨6, 46, .st, 0⟩]⟩

/-- PM_FLT_LIMIT (18_performance_counters). -/
def Off.NI_PM_FLT_LIMIT (i : Nat) (j : Nat) : Nat := 0x1400910 + 0x1000 * i + 0x20 * j
def Fld.NI_PM_FLT_LIMIT.LINE : Fld := ⟨6, 46⟩
def Row.NI_PM_FLT_LIMIT : RegRow := ⟨"NI_PM_FLT_LIMIT", 0x1400910, 0x1000, 256, 0x20, 4, .always, [⟨6, 46, .st, 70368744177663⟩]⟩

/-- PM_FLT_COMMIT (18_performance_counters). -/
def Off.NI_PM_FLT_COMMIT (i : Nat) : Nat := 0x1400980 + 0x1000 * i
def Fld.NI_PM_FLT_COMMIT.COMMIT : Fld := ⟨0, 4⟩
def Row.NI_PM_FLT_COMMIT : RegRow := ⟨"NI_PM_FLT_COMMIT", 0x1400980, 0x1000, 256, 0x0, 1, .always, [⟨0, 4, .sc, 0⟩]⟩

/-- PM_BIND (18_performance_counters). -/
def Off.NI_PM_BIND (i : Nat) (j : Nat) : Nat := 0x1400A00 + 0x1000 * i + 0x8 * j
def Fld.NI_PM_BIND.BIND (k : Nat) : Fld := ⟨4 * k, 4⟩
def Row.NI_PM_BIND : RegRow := ⟨"NI_PM_BIND", 0x1400A00, 0x1000, 256, 0x8, 2, .always, [⟨0, 4, .rw, 0⟩, ⟨4, 4, .rw, 0⟩, ⟨8, 4, .rw, 0⟩, ⟨12, 4, .rw, 0⟩, ⟨16, 4, .rw, 0⟩, ⟨20, 4, .rw, 0⟩, ⟨24, 4, .rw, 0⟩, ⟨28, 4, .rw, 0⟩, ⟨32, 4, .rw, 0⟩, ⟨36, 4, .rw, 0⟩, ⟨40, 4, .rw, 0⟩, ⟨44, 4, .rw, 0⟩, ⟨48, 4, .rw, 0⟩, ⟨52, 4, .rw, 0⟩, ⟨56, 4, .rw, 0⟩, ⟨60, 4, .rw, 0⟩]⟩

/-- PM_CNT (18_performance_counters). -/
def Off.HS_PM_CNT (i : Nat) (j : Nat) : Nat := 0x1800000 + 0x4000 * i + 0x8 * j
def Fld.HS_PM_CNT.OVF : Fld := ⟨63, 1⟩
def Fld.HS_PM_CNT.COUNT : Fld := ⟨0, 48⟩
def Row.HS_PM_CNT : RegRow := ⟨"HS_PM_CNT", 0x1800000, 0x4000, 16, 0x8, 128, .always, [⟨63, 1, .w1c, 0⟩, ⟨0, 48, .ro, 0⟩]⟩

/-- PM_SHD (18_performance_counters). -/
def Off.HS_PM_SHD (i : Nat) (j : Nat) : Nat := 0x1801000 + 0x4000 * i + 0x8 * j
def Fld.HS_PM_SHD.OVF : Fld := ⟨63, 1⟩
def Fld.HS_PM_SHD.COUNT : Fld := ⟨0, 48⟩
def Row.HS_PM_SHD : RegRow := ⟨"HS_PM_SHD", 0x1801000, 0x4000, 16, 0x8, 128, .always, [⟨63, 1, .ro, 0⟩, ⟨0, 48, .ro, 0⟩]⟩

/-- PM_HDR (18_performance_counters). -/
def Off.HS_PM_HDR (i : Nat) : Nat := 0x1802000 + 0x4000 * i
def Fld.HS_PM_HDR.SNAP_ID : Fld := ⟨32, 32⟩
def Fld.HS_PM_HDR.STATUS : Fld := ⟨30, 2⟩
def Fld.HS_PM_HDR.LATE : Fld := ⟨29, 1⟩
def Fld.HS_PM_HDR.CONF : Fld := ⟨27, 2⟩
def Fld.HS_PM_HDR.TYPE : Fld := ⟨14, 2⟩
def Fld.HS_PM_HDR.INDEX : Fld := ⟨0, 9⟩
def Row.HS_PM_HDR : RegRow := ⟨"HS_PM_HDR", 0x1802000, 0x4000, 16, 0x0, 1, .always, [⟨32, 32, .ro, 0⟩, ⟨30, 2, .ro, 0⟩, ⟨29, 1, .ro, 0⟩, ⟨27, 2, .ro, 3⟩, ⟨14, 2, .ro, 2⟩, ⟨0, 9, .ro, 0⟩]⟩

/-- PM_SNAP_T (18_performance_counters). -/
def Off.HS_PM_SNAP_T (i : Nat) : Nat := 0x1802008 + 0x4000 * i
def Fld.HS_PM_SNAP_T.T : Fld := ⟨0, 64⟩
def Row.HS_PM_SNAP_T : RegRow := ⟨"HS_PM_SNAP_T", 0x1802008, 0x4000, 16, 0x0, 1, .always, [⟨0, 64, .ro, 0⟩]⟩

/-- PM_SNAP_AT (18_performance_counters). -/
def Off.HS_PM_SNAP_AT (i : Nat) : Nat := 0x1802010 + 0x4000 * i
def Fld.HS_PM_SNAP_AT.AT : Fld := ⟨0, 64⟩
def Row.HS_PM_SNAP_AT : RegRow := ⟨"HS_PM_SNAP_AT", 0x1802010, 0x4000, 16, 0x0, 1, .always, [⟨0, 64, .ro, 0⟩]⟩

/-- PM_FLT_MATCH (18_performance_counters). -/
def Off.HS_PM_FLT_MATCH (i : Nat) (j : Nat) : Nat := 0x1802100 + 0x4000 * i + 0x20 * j
def Fld.HS_PM_FLT_MATCH.AGENT : Fld := ⟨52, 12⟩
def Fld.HS_PM_FLT_MATCH.MASK : Fld := ⟨40, 12⟩
def Fld.HS_PM_FLT_MATCH.PRIV : Fld := ⟨38, 2⟩
def Fld.HS_PM_FLT_MATCH.EN : Fld := ⟨37, 1⟩
def Fld.HS_PM_FLT_MATCH.VNS : Fld := ⟨0, 8⟩
def Row.HS_PM_FLT_MATCH : RegRow := ⟨"HS_PM_FLT_MATCH", 0x1802100, 0x4000, 16, 0x20, 4, .always, [⟨52, 12, .st, 0⟩, ⟨40, 12, .st, 0⟩, ⟨38, 2, .st, 0⟩, ⟨37, 1, .st, 0⟩, ⟨0, 8, .st, 255⟩]⟩

/-- PM_FLT_BASE (18_performance_counters). -/
def Off.HS_PM_FLT_BASE (i : Nat) (j : Nat) : Nat := 0x1802108 + 0x4000 * i + 0x20 * j
def Fld.HS_PM_FLT_BASE.LINE : Fld := ⟨6, 46⟩
def Row.HS_PM_FLT_BASE : RegRow := ⟨"HS_PM_FLT_BASE", 0x1802108, 0x4000, 16, 0x20, 4, .always, [⟨6, 46, .st, 0⟩]⟩

/-- PM_FLT_LIMIT (18_performance_counters). -/
def Off.HS_PM_FLT_LIMIT (i : Nat) (j : Nat) : Nat := 0x1802110 + 0x4000 * i + 0x20 * j
def Fld.HS_PM_FLT_LIMIT.LINE : Fld := ⟨6, 46⟩
def Row.HS_PM_FLT_LIMIT : RegRow := ⟨"HS_PM_FLT_LIMIT", 0x1802110, 0x4000, 16, 0x20, 4, .always, [⟨6, 46, .st, 70368744177663⟩]⟩

/-- PM_FLT_COMMIT (18_performance_counters). -/
def Off.HS_PM_FLT_COMMIT (i : Nat) : Nat := 0x1802180 + 0x4000 * i
def Fld.HS_PM_FLT_COMMIT.COMMIT : Fld := ⟨0, 4⟩
def Row.HS_PM_FLT_COMMIT : RegRow := ⟨"HS_PM_FLT_COMMIT", 0x1802180, 0x4000, 16, 0x0, 1, .always, [⟨0, 4, .sc, 0⟩]⟩

/-- PM_BIND (18_performance_counters). -/
def Off.HS_PM_BIND (i : Nat) (j : Nat) : Nat := 0x1802200 + 0x4000 * i + 0x8 * j
def Fld.HS_PM_BIND.BIND (k : Nat) : Fld := ⟨4 * k, 4⟩
def Row.HS_PM_BIND : RegRow := ⟨"HS_PM_BIND", 0x1802200, 0x4000, 16, 0x8, 8, .always, [⟨0, 4, .rw, 0⟩, ⟨4, 4, .rw, 0⟩, ⟨8, 4, .rw, 0⟩, ⟨12, 4, .rw, 0⟩, ⟨16, 4, .rw, 0⟩, ⟨20, 4, .rw, 0⟩, ⟨24, 4, .rw, 0⟩, ⟨28, 4, .rw, 0⟩, ⟨32, 4, .rw, 0⟩, ⟨36, 4, .rw, 0⟩, ⟨40, 4, .rw, 0⟩, ⟨44, 4, .rw, 0⟩, ⟨48, 4, .rw, 0⟩, ⟨52, 4, .rw, 0⟩, ⟨56, 4, .rw, 0⟩, ⟨60, 4, .rw, 0⟩]⟩

/-- The rows of one block of R594. -/
def Rows.GL : List RegRow :=
  [Row.GL_INSTANCE, Row.GL_STATUS, Row.GL_LEDGER_CFG, Row.GL_LEDGER_STATUS, Row.GL_LID_CTRL, Row.GL_EPOCH, Row.GL_EPOCH_T, Row.GL_EPOCH_DRAIN] ++
  [Row.GL_BANK_ID, Row.GL_POT_ECC, Row.GL_BOOT, Row.GL_BOOT_TIME, Row.GL_JOIN, Row.GL_PARTITION, Row.GL_BLS_SEL, Row.GL_BLS_DATA] ++
  [Row.GL_DEBUG]

/-- The rows of one block of R594. -/
def Rows.FT : List RegRow :=
  [Row.FT_NOW, Row.FT_STATUS, Row.FT_DRIFT, Row.FT_EPOCH_SET, Row.FT_CTRL, Row.FT_REF_ERR]

/-- The rows of one block of R594. -/
def Rows.ISL : List RegRow :=
  [Row.FT_ISL_STATUS, Row.FT_ISL_FREQ, Row.FT_ISL_DELAY, Row.FT_ISL_XING]

/-- The rows of one block of R594. -/
def Rows.RT : List RegRow :=
  [Row.RT_ID, Row.RT_CTRL, Row.RT_PORT_STATE, Row.RT_ERR_STATUS, Row.RT_ERR_CNT, Row.RT_GATE, Row.RT_LANE_ERR, Row.RT_CREDIT] ++
  [Row.RT_HIST_SEL, Row.RT_HIST_DATA, Row.RT_HIST_INFO, Row.RT_EPOCH_DISC]

/-- The rows of one block of R594. -/
def Rows.NI : List RegRow :=
  [Row.NI_ID, Row.NI_CTRL, Row.NI_STATUS, Row.NI_LOSS, Row.NI_PEA_DOWN, Row.NI_TIMEOUT, Row.NI_RETRY, Row.NI_TAG_CFG] ++
  [Row.NI_TAG_STATUS, Row.NI_ROUTE_CNT, Row.NI_ERR_STATUS, Row.NI_ERR_CNT, Row.NI_BUF_ERR, Row.NI_TAG_SEL, Row.NI_TAG_INFO, Row.NI_AFENCE] ++
  [Row.NI_QOS_CTRL, Row.NI_PRI_MAP, Row.NI_SHAPER_CFG, Row.NI_SHAPER_STAT, Row.NI_METER_SEL, Row.NI_METER_RATE, Row.NI_METER_BURST, Row.NI_METER_TOK] ++
  [Row.NI_METER_CNT, Row.NI_METER_MATCH, Row.NI_GT_STATUS, Row.NI_GT_CNT, Row.NI_HIST_SEL, Row.NI_HIST_DATA, Row.NI_HIST_INFO, Row.NI_EPOCH] ++
  [Row.NI_EPOCH_TIME, Row.NI_BANK_ID, Row.NI_EPOCH_CNT, Row.NI_PORT_CFG, Row.NI_PORT_STATUS, Row.NI_PORT_ERR, Row.NI_PORT_CNT, Row.NI_MPA_ECAM] ++
  [Row.NI_ST_STATUS, Row.NI_ST_CNT, Row.NI_ST_LAST, Row.NI_ST_ERR, Row.NI_FAULT_CNT, Row.NI_DIAG_SEL, Row.NI_DIAG_DATA, Row.NI_DIAG_CHK] ++
  [Row.NI_LEAF_CFG, Row.NI_LEAF_DEST, Row.NI_LEAF_STATUS, Row.NI_LEAF_CNT, Row.NI_INJ, Row.PM_COL_STATUS, Row.PM_COL_COUNTS, Row.PM_COL_T] ++
  [Row.PM_COL_APERTURE, Row.PM_USER, Row.PM_COL_ERR]

/-- The rows of one block of R594. -/
def Rows.HS : List RegRow :=
  [Row.HS_ID, Row.HS_CTRL, Row.HS_STATUS, Row.HS_ARB_CFG, Row.HS_ARB_QUOTA, Row.HS_ARB_STATUS, Row.HS_WEAR, Row.HS_DIR_ERR] ++
  [Row.HS_ERR_STATUS, Row.HS_STG_ERR, Row.HS_SCRUB_CFG, Row.HS_SCRUB_STATUS, Row.HS_DIAG_SEL, Row.HS_DIAG_DATA, Row.HS_DIAG_CHK]

/-- The rows of one block of R594. -/
def Rows.LK : List RegRow :=
  [Row.LK_ID, Row.LK_CFG, Row.LK_CTRL, Row.LK_STATUS, Row.LK_THRESH, Row.LK_ERR_CNT, Row.LK_RETRAIN_CNT, Row.LK_ERR_STATUS] ++
  [Row.LK_LOSS_CNT]

/-- The rows of one block of R594. -/
def Rows.SB : List RegRow :=
  [Row.SB_CTRL, Row.SB_STATUS, Row.SB_LINES, Row.SB_ERR_STATUS, Row.SB_ERR_CNT, Row.SB_FAR_INFO, Row.SB_INB_MAP, Row.SB_TELEM_CFG] ++
  [Row.SB_TELEM_STATUS, Row.SB_IN_CFG, Row.SB_IN_ADDR, Row.SB_OUT_CFG, Row.SB_TELEM_ADDR, Row.SB_TELEM_SCALE, Row.SB_GATE, Row.SB_GATE_RGN]

/-- The rows of one block of R594. -/
def Rows.ST : List RegRow :=
  [Row.ST_CTRL, Row.ST_STATUS, Row.ST_COMMIT_INFO, Row.ST_WINDOW, Row.ST_DEFMAP_CFG, Row.ST_DEFMAP_BOOT, Row.ST_TABLE_ID, Row.ST_STALE] ++
  [Row.ST_RGN, Row.ST_PAT]

/-- The rows of one block of R594. -/
def Rows.PT : List RegRow :=
  [Row.PT_POT_STATUS, Row.PT_APERTURE, Row.PT_TRACE_CTRL, Row.PT_TRACE_STATUS, Row.PT_TRACE]

/-- The rows of one block of R594. -/
def Rows.MB : List RegRow :=
  [Row.PT_MB_CMD, Row.PT_MB_DOORBELL, Row.PT_MB_STATUS, Row.PT_MB_IRQ_ADDR, Row.PT_MB_IRQ_DATA, Row.PT_MB_RSP]

/-- The rows of one block of R594. -/
def Rows.RING : List RegRow :=
  [Row.PT_RING_SQ, Row.PT_RING_CQ, Row.PT_RING_SL, Row.PT_RING_CFG, Row.PT_RING_IRQ, Row.PT_RING_IRQ_HI, Row.PT_RING_STATE, Row.PT_RING_CNT]

/-- The rows of one block of R594. -/
def Rows.KT : List RegRow :=
  [Row.KT_STATUS, Row.KT_GT_MASK_0, Row.KT_GT_MASK_1, Row.KT_FAIL_INFO, Row.KT_SIDE, Row.KT_DOM, Row.KT_DOM_CNT]

/-- The rows of one block of R594. -/
def Rows.SC : List RegRow :=
  [Row.SC_CTRL, Row.SC_STATUS, Row.SC_SEQ, Row.SC_OPEN_CNT, Row.SC_LAST, Row.SC_LOSS, Row.SC_HRING_BASE, Row.SC_HRING_CFG] ++
  [Row.SC_IRQ_ADDR, Row.SC_IRQ_DATA, Row.SC_OPEN_SEL, Row.SC_OPEN_INFO, Row.SC_INJ_FAULT, Row.SC_INJ_CTRL]

/-- The rows of one block of R594. -/
def Rows.CD : List RegRow :=
  [Row.CD_CTRL, Row.CD_STATUS, Row.CD_FREEZE_TIME, Row.CD_LOSS, Row.CD_ERR, Row.CD_REC]

/-- The rows of one block of R594. -/
def Rows.RTPM : List RegRow :=
  [Row.RT_PM_CNT, Row.RT_PM_SHD, Row.RT_PM_HDR, Row.RT_PM_SNAP_T, Row.RT_PM_SNAP_AT, Row.RT_PM_FLT_MATCH, Row.RT_PM_FLT_BASE, Row.RT_PM_FLT_LIMIT] ++
  [Row.RT_PM_FLT_COMMIT, Row.RT_PM_BIND]

/-- The rows of one block of R594. -/
def Rows.NIPM : List RegRow :=
  [Row.NI_PM_CNT, Row.NI_PM_SHD, Row.NI_PM_HDR, Row.NI_PM_SNAP_T, Row.NI_PM_SNAP_AT, Row.NI_PM_FLT_MATCH, Row.NI_PM_FLT_BASE, Row.NI_PM_FLT_LIMIT] ++
  [Row.NI_PM_FLT_COMMIT, Row.NI_PM_BIND]

/-- The rows of one block of R594. -/
def Rows.HSPM : List RegRow :=
  [Row.HS_PM_CNT, Row.HS_PM_SHD, Row.HS_PM_HDR, Row.HS_PM_SNAP_T, Row.HS_PM_SNAP_AT, Row.HS_PM_FLT_MATCH, Row.HS_PM_FLT_BASE, Row.HS_PM_FLT_LIMIT] ++
  [Row.HS_PM_FLT_COMMIT, Row.HS_PM_BIND]

/-- The rows that window offset `o` can reach, by the ranges of R594. -/
def rowsAt (o : Nat) : List RegRow :=
  if 0x0 ≤ o ∧ o < 0x8000 then Rows.GL else
  if 0x8000 ≤ o ∧ o < 0xA000 then Rows.PT else
  if 0x10000 ≤ o ∧ o < 0x18000 then Rows.MB else
  if 0x18000 ≤ o ∧ o < 0x18800 then Rows.RING else
  if 0x100000 ≤ o ∧ o < 0x101800 then Rows.KT else
  if 0x108000 ≤ o ∧ o < 0x108030 then Rows.FT else
  if 0x10C000 ≤ o ∧ o < 0x10CC00 then Rows.ISL else
  if 0x200000 ≤ o ∧ o < 0x220000 then Rows.ST else
  if 0x300000 ≤ o ∧ o < 0x300110 then Rows.SC else
  if 0x380000 ≤ o ∧ o < 0x400000 then Rows.CD else
  if 0x400000 ≤ o ∧ o < 0x401800 then Rows.SB else
  if 0x800000 ≤ o ∧ o < 0xB00000 then Rows.RT else
  if 0xC00000 ≤ o ∧ o < 0xE00000 then Rows.NI else
  if 0xE00000 ≤ o ∧ o < 0xF00000 then Rows.HS else
  if 0x1000000 ≤ o ∧ o < 0x10C0000 then Rows.RTPM else
  if 0x1400000 ≤ o ∧ o < 0x1500000 then Rows.NIPM else
  if 0x1800000 ≤ o ∧ o < 0x1840000 then Rows.HSPM else
  if 0x2000000 ≤ o ∧ o < 0x20E0000 then Rows.LK else
  []

/-- The first of the rows that offset `o` reaches, with its indexes. -/
def findRow : List RegRow → Nat → Option (RegRow × Nat × Nat)
  | [], _ => none
  | r :: rs, o =>
    match r.hit o with
    | some (i, j) => some (r, i, j)
    | none => findRow rs o

/-- The register at window offset `o`, or none where R10 applies. -/
def regAt (o : Nat) : Option (RegRow × Nat × Nat) := findRow (rowsAt o) o

/-- The value a register file entry holds until something writes it: the reset value of its fields, zero for a hole (R10).
A writable field whose reset the tables give as a dash, as those of NI_DIAG_DATA, NI_DIAG_CHK, HS_DIAG_DATA and HS_DIAG_CHK.CHK, holds zero until it is
written: DESIGN CHOICE, R15 gives it no contents (log entry 6). -/
def regReset (o : Nat) : BitVec 64 :=
  match regAt o with
  | some (r, _, _) => r.reset
  | none => 0

end Sys2Proof.Machine
end

