-- ==== Sys2Proof/Machine/SysTypes.lean ====
section
/-! DEFINITION. The state of the service units: Kettle, Strainer master, Caddy, branch trace, Saucer, Pot, performance collector, debug port
and the join of die B (chapters 9 and 13 to 20). -/
namespace Sys2Proof.Machine

/-! ### Kettle -/

/-- The Kettle beyond its domains: the side channel, the fence of die B, the keeper times since which domains have been idle, the hold of loads and Strainer commits (R315, R434), the snapshot it holds and the states latched for it (R561). -/
structure Kettle where
  sideUp : Bool
  sideRun : Nat
  dieBFenced : Bool
  idleSince : KMap Nat
  loadHold : Bool
  winHold : Bool
  snap : Option (Nat × Nat)
  /-- die-B interfaces are held until the first join ends (R581) -/
  bHeld : Bool
  deriving DecidableEq, Repr

/-- The Kettle as reset leaves it. -/
def Kettle.reset : Kettle :=
  { bHeld := true, sideUp := true, sideRun := 0, dieBFenced := false, idleSince := [], loadHold := false, winHold := false, snap := none }

/-! ### Strainer master -/

/-- Phases of a commit (R434). -/
inductive StPhase where
  | idle | check | raise | hold | push | release
  deriving DecidableEq, Repr

/-- PHASE code of ST_STATUS. -/
def StPhase.code : StPhase → Nat
  | .idle => 0 | .check => 1 | .raise => 2 | .hold => 3 | .push => 4 | .release => 5

/-- The Strainer master: the phase, the table being committed (offset and value of each staged register), the start of the window, the
participating NIs not yet released, those whose CRC failed, and the failed retries of stale NIs (R434 to R437). -/
structure Strainer where
  phase : StPhase
  table : List (Nat × W64)
  start : Nat
  parts : List Nat
  crcBad : List Nat
  retries : KMap Nat
  retryAt : KMap Nat
  /-- a refused or completed commit's end has not yet been taken by REPROTECT; its RESULT -/
  result : Nat
  /-- LOCK has been set since cold reset (R438) -/
  wasLocked : Bool
  /-- gate fields that boot code writes during HOLD (R442, R443) -/
  gates : List (Nat × W64)
  deriving DecidableEq, Repr

/-- The master as reset leaves it. -/
def Strainer.reset : Strainer :=
  { phase := .idle, table := [], start := 0, parts := [], crcBad := [], retries := [], retryAt := [], result := 0, wasLocked := false, gates := [] }

/-! ### Caddy and trace -/

/-- Slot states of R532. -/
inductive CdSt where
  | empty | reserved | committed | aborted
  deriving DecidableEq, Repr

/-- STATE code of a record. -/
def CdSt.code : CdSt → Nat
  | .empty => 0 | .reserved => 1 | .committed => 2 | .aborted => 3

/-- A record: its four words, STATE zero in word 1 (R532). -/
structure CdRec where
  w0 : W64
  w1 : W64
  w2 : W64
  w3 : W64
  deriving DecidableEq, Repr

/-- A slot. -/
structure CdSlot where
  st : CdSt
  r : CdRec
  deriving DecidableEq, Repr

/-- An empty slot. -/
def CdSlot.empty : CdSlot := { st := .empty, r := ⟨0, 0, 0, 0⟩ }

/-- A tray port: records waiting, records folded, and the reservation held with its time (R530, R531, R535). -/
structure CdPort where
  buf : List CdRec
  folded : Nat
  resv : Option (Nat × Nat)
  deriving DecidableEq, Repr

/-- An idle port. -/
def CdPort.idle : CdPort := { buf := [], folded := 0, resv := none }

/-- The Caddy: slots, the write pointer, NEWEST, the freeze, the tray ports and the slots for which CD_UE has been reported (R529 to R537). -/
structure Caddy where
  slots : KMap CdSlot
  wptr : Nat
  newest : Nat
  frozen : Bool
  byC4 : Bool
  /-- a freeze that awaits the record that completes it -/
  freezing : Bool
  ports : KMap CdPort
  ueSlots : List Nat
  deriving DecidableEq, Repr

/-- The Caddy when VDD_AON has risen (R529). -/
def Caddy.cleared : Caddy :=
  { slots := [], wptr := 0, newest := 0x1FFF, frozen := false, byC4 := false, freezing := false, ports := [], ueSlots := [] }

/-- The Pot's branch trace (R543, R544). -/
structure Trace where
  buf : KMap W64
  next : Nat
  wrapped : Bool
  stopped : Bool
  /-- reason of the resync entry that must come first -/
  resync : Option Nat
  deriving DecidableEq, Repr

/-- The trace as reset leaves it. -/
def Trace.reset : Trace := { buf := [], next := 0, wrapped := false, stopped := false, resync := none }

/-! ### Saucer -/

/-- A message in the Saucer's queue: fault word, header word 1, REPEAT, arrival time, and whether it is a FAULT_LOSS entry of its own (R510 to R512). -/
structure ScMsg where
  w : W64
  hw1 : W64
  rep : Nat
  time : Nat
  own : Bool
  deriving DecidableEq, Repr

/-- An open entry (R515). -/
structure ScOpen where
  place : Nat
  cls : Nat
  src : Nat
  kind : Nat
  seq : Nat
  deriving DecidableEq, Repr

/-- Lost counts of one SRC (R511). -/
structure ScLost where
  c2 : Nat
  c1 : Nat
  c0 : Nat
  deriving DecidableEq, Repr

/-- An armed injection (R527). -/
structure ScInj where
  point : Nat
  target : Nat
  lane : Nat
  port : Nat
  half : Nat
  left : Nat
  deriving DecidableEq, Repr

/-- The Saucer. -/
structure Saucer where
  queue : List ScMsg
  lost : KMap ScLost
  opens : List ScOpen
  seq : Nat
  head : Nat
  phase : Bool
  stopped : Bool
  irqDue : Bool
  /-- the FNC ahead of an interrupt is outstanding (R520) -/
  irqFnc : Bool
  irqAt : Nat
  inj : Option ScInj
  injDone : KMap Nat
  /-- injected errors not yet met by a check (R527), as Inject.lean keys them: place, lane and bits flipped -/
  flips : KMap (List (Nat × Nat × Nat))
  deriving DecidableEq, Repr

/-- The Saucer as reset leaves it. -/
def Saucer.reset : Saucer :=
  { queue := [], lost := [], opens := [], seq := 1, head := 0, phase := true, stopped := false, irqDue := false, irqFnc := false,
    irqAt := 0, inj := none, injDone := [], flips := [] }

/-! ### Pot -/

/-- A running command: its issuer (0 to 7 a mailbox, 8 + r ring r), words, acceptance time, whether its row has run, its end if known (status
code and result words), and what it has still to wait for (R449 to R463). -/
structure PotCmd where
  src : Nat
  words : List W64
  since : Nat
  started : Bool
  res : Option (Nat × List W64)
  data : List Nat
  /-- ring entry index -/
  idx : Nat
  deriving DecidableEq, Repr

/-- A command ring beyond its registers (R471 to R483): the entry read next and its phase, entries fetched and not started, cancel marks,
an entry read outstanding, the next poll time, interrupt state and status line state. -/
structure PotRing where
  setUp : Bool
  next : Nat
  nextPhase : Bool
  fetched : List (Nat × List W64)
  marks : List Nat
  reading : Bool
  /-- the read outstanding was made before the ring was last enabled -/
  staleRead : Bool
  pollAt : Nat
  irqDue : Bool
  irqFnc : Bool
  gapUntil : Nat
  /-- a completion has been written since the status line last was, and the keeper's time at the first of them (R479) -/
  dirty : Bool
  dirtyAt : Nat
  writes : Nat
  completed : Nat
  cancelled : Nat
  /-- the status line last written: HEAD, PHASE, STATE, and the counts of writes, completed and cancelled entries (R479, R525) -/
  line : Option (Nat × Bool × Nat × Nat × Nat × Nat)
  deriving DecidableEq, Repr

/-- A ring as reset leaves it. -/
def PotRing.reset : PotRing :=
  { setUp := false, next := 0, nextPhase := true, fetched := [], marks := [], reading := false, staleRead := false, pollAt := 0, irqDue := false, irqFnc := false,
    gapUntil := 0, dirty := false, dirtyAt := 0, writes := 0, completed := 0, cancelled := 0, line := none }

/-- What the Pot keeps of the image in a bank (R307, R313). -/
structure Blend where
  id : W64
  follows : W64
  cert : List W64
  deriving DecidableEq, Repr

/-- No image. -/
def Blend.empty : Blend := { id := 0, follows := 0, cert := [] }

/-- A drain report (R318). -/
structure DrainRep where
  sent : Nat
  recv : Nat
  unkn : Nat
  deriving DecidableEq, Repr

/-- An epoch switch under way at the Pot (R316 to R324): issuer, T, the new number, the image, the participating NIs, their answers
(1 ARMED, 2 NOT_LOADED, 3 TOO_LATE, 4 BUSY), whether T's deadline has passed, the drain reports, the time of the last change, whether R322's relief applies,
whether it holds, and whether the slow drain has been reported. -/
structure Switch where
  src : Option Nat
  T : Nat
  number : Nat
  id : W64
  parts : List Nat
  ans : KMap Nat
  armed : Bool
  split : Bool
  reps : KMap (Option DrainRep)
  /-- the drain has started: the Pot's own NI has switched -/
  draining : Bool
  changed : Nat
  relief : Bool
  quiet : Bool
  slow : Bool
  deriving DecidableEq, Repr

/-- A load under way (R307 to R314): issuer, bank, image, the COUNT and SIZE of each section, the section and word that come next, the gate list
being read (NI, part, next index, words left), the NIs that take part, the words sent to each, the verdict on the signature, and the NIs
sealed and those loaded a second time. -/
structure Load where
  src : Nat
  bank : Nat
  blend : Blend
  dir : List (Nat × Nat)
  sect : Nat
  pos : Nat
  list : Nat × Nat × Nat × Nat
  parts : List Nat
  sent : KMap Nat
  verdict : Option Bool
  sealed : List Nat
  again : List Nat
  /-- NIs that have reported BANK_LOAD_ERR, and those that have recorded IMAGE_ID -/
  bad : List Nat
  good : List Nat
  deriving DecidableEq, Repr

/-- A PLATFORM procedure under way (R311): the steps left, the target address, the data bytes left, the access it waits for (1 a write, 2 the read of a
POLL, 3 a WAIT) and the time its current WAIT or POLL step began. -/
structure Proc where
  steps : List (W64 × W64)
  target : Nat
  data : List Nat
  pend : Nat
  since : Nat
  deriving DecidableEq, Repr

/-- What the Pot writes to the ledger (R267, R268, R272): a record, or of the other copy in a compaction its erasure, its live records and its header. -/
inductive LdgPhase where
  | idle | single | erase | live | header
  deriving DecidableEq, Repr

/-- The ledger as the Pot keeps it (R264 to R272): written records of the active copy, reports that wait with the times of their repairs, slices to rescan, what is being written: its
phase, record, slot and half (word 1 first), whether it is the second attempt; the live records still to write and those written in a
compaction; the procedure under way; the next SEQ; and the number of the last access. -/
structure Ledger where
  recs : List (W64 × W64)
  wait : List (W64 × Nat)
  rescan : List Nat
  phase : LdgPhase
  cur : W64 × W64
  slot : Nat
  half : Nat
  again : Bool
  todo : List (W64 × W64)
  kept : List (W64 × W64)
  proc : Option Proc
  seq : Nat
  access : Nat
  /-- repairs that could not be recorded, kept in SRAM (R269, R497) -/
  vol : List W64
  /-- records before the first slot whose write failed, in the active copy and in the copy that a compaction writes: a replay stops there (R270, R271) -/
  gap : Option Nat
  keptGap : Option Nat
  deriving DecidableEq, Repr

/-- A ledger not yet read. -/
def Ledger.reset : Ledger :=
  { recs := [], wait := [], rescan := [], phase := .idle, cur := (0, 0), slot := 0, half := 0, again := false, todo := [], kept := [], proc := none, seq := 0, access := 0, vol := [],
    gap := none, keptGap := none }

/-- The Pot. -/
structure Pot where
  /-- mailboxes whose doorbell has been rung and awaits acceptance (R459) -/
  rung : List Nat
  cmds : List PotCmd
  rings : KMap PotRing
  /-- a switch cancelled at its deadline, kept for R324 -/
  oldSw : Option Switch
  /-- image words by unit and bank as their sources hold them, keyed as the table store (R497) -/
  img : KMap W64
  blends : KMap Blend
  /-- platform procedures by bank (R311) -/
  platform : KMap (List (W64 × W64))
  load : Option Load
  sw : Option Switch
  snapNum : Nat
  snapT : Option Nat
  /-- register values that firmware has written since cold reset, by offset (R497) -/
  fwRec : KMap (Option W64)
  /-- values recorded for units that could not be written at once (R464), keyed as fwRec -/
  due : KMap (Option W64)
  /-- the BL store (R572) -/
  bls : KMap (Option W64)
  /-- values that the Pot has written over status fields its firmware keeps, by offset, each beside what those fields were at the write (R11) -/
  overlay : KMap (Option (W64 × W64))
  denied : KMap Nat
  ledger : Ledger
  /-- lines whose poisoning was deferred, with their memory targets (R586) -/
  poison : List (Nat × Nat)
  /-- REPROTECT waits for other commands since this time (R484) -/
  waitAll : Option Nat
  /-- the core restarts for a REPROTECT whose table address is given, or for a power-up or SRAM error (R443, R500, R525) -/
  restart : Option (Option Nat)
  /-- reload, join and rejoin progress: slices whose sweep has not ended, and the step of R582 -/
  sweeps : List Nat
  joinStep : Nat
  /-- start of the join and of its present wait (R582, R588) -/
  joinSince : Nat
  joinAt : Nat
  /-- the join under way is a rejoin (R588) -/
  rejoin : Bool
  /-- lines whose POISON_LINE awaits its POISON_DONE (R588) -/
  poisoning : List Nat
  nextId : Nat
  deriving DecidableEq, Repr

/-- The Pot as reset leaves it. -/
def Pot.reset : Pot :=
  { rung := [], cmds := [], rings := [], img := [], blends := [], platform := [], load := none, sw := none, oldSw := none, snapNum := 0, snapT := none, fwRec := [], due := [],
    bls := [], overlay := [], denied := [], ledger := Ledger.reset, poison := [], waitAll := none, restart := none, sweeps := [], joinStep := 0, joinSince := 0, joinAt := 0, rejoin := false, poisoning := [], nextId := 0 }

/-! ### Performance collector -/

/-- A counter page: its three header words and its counts (R559, R565). -/
structure PmPage where
  hdr : W64
  t : W64
  at' : W64
  cnts : List W64
  deriving DecidableEq, Repr

/-- The collector (R566): the store banks and retention images by page, the pages of the filling bank settled, the snapshot being filled, and
the shown bank. -/
structure Collector where
  banks : KMap (Option PmPage)
  images : KMap (Option PmPage)
  /-- domain states latched at keeper time T (R561) -/
  latched : KMap Nat
  latchedFor : Nat
  settled : List Nat
  /-- where the lines of a push under way go, by page: 0 nowhere, 1 the bank being filled, 2 the retention image -/
  into : KMap Nat
  fill : Option (Nat × Nat)
  filling : Nat
  shown : Option Nat
  shownT : Nat
  shownNum : Nat
  complete : Bool
  deriving DecidableEq, Repr

/-- The collector with no contents. -/
def Collector.reset : Collector :=
  { banks := [], images := [], latched := [], latchedFor := 0, settled := [], into := [], fill := none, filling := 0, shown := none, shownT := 0,
    shownNum := 0, complete := false }

/-! ### Debug port and latches -/

/-- The E5LB debug port (R599). -/
structure Debug where
  sel : Nat
  busy : Bool
  refused : Bool
  valid : Bool
  value : W64
  deriving DecidableEq, Repr

/-- The debug port as reset leaves it. -/
def Debug.reset : Debug := { sel := 0, busy := false, refused := false, valid := false, value := 0 }

end Sys2Proof.Machine
end

