-- ==== Sys2Proof/Machine/State.lean ====
section
/-! DEFINITION. The machine's state as plain data, its faults and refusals, and the state after reset. -/
namespace Sys2Proof.Machine

/-- The outputs of the macro boundary and the inputs it samples (R28, R29, R31 to R37). -/
structure Pins where
  porstN : Bool
  warmN : Bool
  ready : Bool
  fatal : Bool
  testMode : Bool
  debugEn : Bool
  /-- the next start-up is a cold one: PORST_N has fallen since the last (R30) -/
  coldDue : Bool
  deriving DecidableEq, Repr

/-- What comes into a wrapper with an instruction: the bits at WSI, the boundary values captured, the verdict of a self-test, or a chain number
(R42, log entry 50). -/
inductive WData where
  | shift (bits : List Bool)
  | capture (cells : List Bool)
  | verdict (pass : Bool)
  | chainNo (chain : BitVec 8)
  deriving DecidableEq, Repr

/-- The IEEE 1500 wrapper of one die (R42, R43): its instruction register, whether that was loaded while PORST_N was high, so that it acts as
WS_BYPASS until PORST_N next falls, what came with it and still waits for it to act, the bypass bit, the boundary cells and what they drive
(none while they drive nothing), the bits last shifted into the selected chain, the chain selected, and the verdict of the last self-test. -/
structure Wrapper where
  wir : BitVec 8
  late : Bool
  due : Option WData
  bypass : Bool
  cells : List Bool
  driven : Option (List Bool)
  scan : List Bool
  chain : BitVec 8
  mbist : Option Bool
  deriving DecidableEq, Repr

/-- A wrapper with WS_BYPASS loaded. -/
def Wrapper.reset : Wrapper :=
  { wir := 0, late := false, due := none, bypass := false, cells := [], driven := none, scan := [], chain := 0, mbist := none }

/-- The machine. -/
structure State where
  /-- commands that wait, first in first out -/
  pending : List Instr
  /-- the model's own counter of free values drawn (log entry 1) -/
  free : Nat
  pins : Pins
  wrapA : Wrapper
  wrapB : Wrapper
  /-- island cycles since reset, which local counters follow before fabric time starts (R177) -/
  uptime : Nat
  /-- register file of the configuration window, keyed by offset (R8, R595) -/
  regs : KMap W64
  /-- pending values of staged fields, keyed by register offset (R11, R13) -/
  pend : KMap (Option W64)
  /-- words of the loaded tables (R309), keyed by unit, bank, section, part and index -/
  tab : KMap W64
  /-- table words found uncorrectable, whose entries are unusable until restored (R524), keyed as `tab` -/
  tabBad : KMap Bool
  time : Keeper
  isl : KMap Island
  ev : KMap EvXing
  rt : KMap Router
  ni : KMap Ni
  port : KMap Port
  slice : KMap Slice
  /-- link ends, keyed by 2·k + e (R364) -/
  lk : KMap Lk
  dom : KMap Domain
  /-- the Service Bridge (R395) -/
  sb : Bridge
  kt : Kettle
  st : Strainer
  cd : Caddy
  tr : Trace
  sc : Saucer
  pot : Pot
  pm : Collector
  dbg : Debug
  /-- halves latched by 32-bit reads from NI 248, and by debug reads, by offset (R549, R598) -/
  latch : KMap W64
  dbgLatch : KMap W64
  /-- check bits that diagnostic reads and writes have stored, keyed as HS_DIAG_SEL or NI_DIAG_SEL address the word (R526) -/
  chk : KMap W64
  /-- seam loss: the time since which no seam link has been in service (R583) -/
  seamDown : Option Nat
  /-- flits on the way into a unit, keyed by the receiving port: tile·8 + port, or 2048 + NI -/
  wire : KMap (List Flit)
  /-- credit words on the way back to the sender of the same link -/
  cwire : KMap (List (BitVec 24))
  /-- credits a receiver has still to return, keyed by port·16 + vn·2 + gt (R112) -/
  owed : KMap Nat
  /-- credits in use at a sender, keyed as owed by the receiving port (R111) -/
  used : KMap Nat
  /-- true until the crossing pairs are first released, and the links whose pair is in reset since (R82, R83) -/
  allHeld : Bool
  held : KMap Bool
  /-- neighbour state every port starts from: ASLEEP at reset, ON once start-up has raised the domains -/
  nbrBase : Nbr
  /-- domains for which a wake request is on its way to the Kettle (R140, R155, R495) -/
  wakeQ : List Nat
  deriving DecidableEq, Repr

/-- Why the machine stops with a fault. No command of this block ends in one: the spec gives the block no access that does not exist. -/
inductive Fault where
  /-- never raised; safe -/
  | none
  deriving DecidableEq, Repr

/-- Why a command has no meaning. -/
inductive Refusal where
  /-- raised by exec's arm of a command whose meaning is not written; safe -/
  | notModelled (mnemonic : String)
  deriving DecidableEq, Repr

/-- The machine right after reset: VDD_AON has risen, PORST_N is low, every domain is held in reset and nothing waits. -/
def State.reset : State :=
  { pending := [], free := 0,
    pins := { porstN := false, warmN := true, ready := false, fatal := false, testMode := false, debugEn := false, coldDue := true },
    wrapA := Wrapper.reset, wrapB := Wrapper.reset,
    uptime := 0, regs := [], pend := [], tab := [], tabBad := [], time := Keeper.reset, isl := [], ev := [], rt := [], ni := [], port := [], slice := [], lk := [], dom := [], sb := Bridge.reset, kt := Kettle.reset, st := Strainer.reset, cd := Caddy.cleared, tr := Trace.reset, sc := Saucer.reset,
    pot := Pot.reset, pm := Collector.reset, dbg := Debug.reset, latch := [], dbgLatch := [], chk := [], seamDown := none,
    wire := [], cwire := [], owed := [], used := [], allHeld := true, held := [], nbrBase := .asleep, wakeQ := [] }

end Sys2Proof.Machine
end

