-- ==== Sys2Proof/Machine/Ops.lean ====
section
/-! DEFINITION. The named operations over the state: registers, tables, units, time, links, event counters and fault reports. -/
namespace Sys2Proof.Machine

/-- The answer of a command that always completes. -/
abbrev Outcome := Host.Outcome State Fault Refusal

/-! ### Free values -/

/-- A value the spec does not state, and the state that has drawn it (log entry 1). -/
def State.fresh (s : State) : W64 × State := (Config.freeValue s.free, { s with free := s.free + 1 })

/-! ### Registers -/

/-- The stored value of the register at a window offset. -/
def State.rd (s : State) (o : Nat) : W64 := KMap.get regReset s.regs o

/-- The state with the stored value of a register replaced. -/
def State.wr (s : State) (o : Nat) (v : W64) : State := { s with regs := KMap.set regReset s.regs o v }

/-- A field of a register. -/
def State.fld (s : State) (o : Nat) (f : Fld) : Nat := bits (s.rd o) f.lo f.w

/-- A one-bit field of a register. -/
def State.flag (s : State) (o : Nat) (f : Fld) : Bool := s.fld o f != 0

/-- The state with a field of a register replaced. -/
def State.setFld (s : State) (o : Nat) (f : Fld) (v : Nat) : State := s.wr o (setBits (s.rd o) f.lo f.w v)

/-- The state with a saturating count of a register raised by one. -/
def State.bump (s : State) (o : Nat) (f : Fld) : State := s.setFld o f (satInc (2 ^ f.w - 1) (s.fld o f))

/-- The state with a saturating count of a register raised. -/
def State.bumpBy (s : State) (o : Nat) (f : Fld) (k : Nat) : State := s.setFld o f (satAdd (2 ^ f.w - 1) (s.fld o f) k)

/-- The state with a count of a register raised modulo its width. -/
def State.bumpMod (s : State) (o : Nat) (f : Fld) : State := s.setFld o f ((s.fld o f + 1) % 2 ^ f.w)

/-- The pending value of a staged register: what was last written, else the active value (R11). -/
def State.pendOf (s : State) (o : Nat) : W64 := (KMap.get (fun _ => none) s.pend o).getD (s.rd o)

/-- The state with the pending value of a staged register set. -/
def State.setPend (s : State) (o : Nat) (v : W64) : State := { s with pend := KMap.set (fun _ => none) s.pend o (some v) }

/-- The state with a staged register's pending value made active (R13). -/
def State.commitReg (s : State) (o : Nat) : State :=
  { s.wr o (s.pendOf o) with pend := KMap.set (fun _ => none) s.pend o none }

/-- The state with every register of a staged group committed together (R13). -/
def State.commitRegs (s : State) (os : List Nat) : State := os.foldl State.commitReg s

/-- The state with a staged register's pending value discarded. -/
def State.dropPend (s : State) (o : Nat) : State := { s with pend := KMap.set (fun _ => none) s.pend o none }

/-! ### Units -/

/-- Island i. -/
def State.islAt (s : State) (i : Nat) : Island := KMap.get (fun _ => Island.reset) s.isl i
/-- The state with island i replaced. -/
def State.setIsl (s : State) (i : Nat) (v : Island) : State := { s with isl := KMap.set (fun _ => Island.reset) s.isl i v }
/-- The state with island i changed. -/
def State.modIsl (s : State) (i : Nat) (f : Island → Island) : State := s.setIsl i (f (s.islAt i))

/-- Router tile t. -/
def State.rtAt (s : State) (t : Nat) : Router := KMap.get (fun _ => Router.reset) s.rt t
/-- The state with router t replaced. -/
def State.setRt (s : State) (t : Nat) (v : Router) : State := { s with rt := KMap.set (fun _ => Router.reset) s.rt t v }
/-- The state with router t changed. -/
def State.modRt (s : State) (t : Nat) (f : Router → Router) : State := s.setRt t (f (s.rtAt t))

/-- NI n. -/
def State.niAt (s : State) (n : Nat) : Ni := KMap.get Ni.reset s.ni n
/-- The state with NI n replaced. -/
def State.setNi (s : State) (n : Nat) (v : Ni) : State := { s with ni := KMap.set Ni.reset s.ni n v }
/-- The state with NI n changed. -/
def State.modNi (s : State) (n : Nat) (f : Ni → Ni) : State := s.setNi n (f (s.niAt n))

/-- Power domain d. -/
def State.domAt (s : State) (d : Nat) : Domain := KMap.get (fun _ => Domain.reset) s.dom d
/-- The state with domain d replaced. -/
def State.setDom (s : State) (d : Nat) (v : Domain) : State := { s with dom := KMap.set (fun _ => Domain.reset) s.dom d v }
/-- The state with domain d changed. -/
def State.modDom (s : State) (d : Nat) (f : Domain → Domain) : State := s.setDom d (f (s.domAt d))

/-- Island i's oscillator runs: its domain is ON or in CG, or is being raised (R68, R487, R495). -/
def State.oscRuns (s : State) (i : Nat) : Bool :=
  let d := s.domAt i
  match d.st, d.phase with
  | .on, _ => true
  | .cg, _ => true
  | _, .wake => true
  | _, .reload => true
  | _, _ => false

/-- The island whose oscillator clocks the unit of domain d: a home slice and the service domains 64 to 68 run from the island of their NI
(R46, R487); the other domains have clocks of their own. -/
def clockIsland (d : Nat) : Option Nat :=
  if 48 ≤ d ∧ d < 64 then some (sliceIsland (d - 48))
  else if d = 64 then some (niIsland 248)
  else if d = 65 then some (niIsland 249)
  else if d = 66 then some (niIsland 252)
  else if d = 67 then some (niIsland 253)
  else if d = 68 then some (niIsland 255)
  else none

/-- The clock of domain d's units is there: the oscillator of the island that clocks them runs (R46, R487). -/
def State.clocked (s : State) (d : Nat) : Bool :=
  match clockIsland d with
  | some i => s.oscRuns i
  | none => true

/-- True while domain d is ON and clocked, so that its units act (R46, R487). -/
def State.domOn (s : State) (d : Nat) : Bool := (s.domAt d).st == .on && s.clocked d

/-- A wake request toward the Kettle for a domain (R140, R155, R495). -/
def State.askWake (s : State) (d : Nat) : State := { s with wakeQ := s.wakeQ ++ [d] }

/-- Wake requests for a domain whose units are wanted: the domain where it is below ON, and the island that clocks it where its
oscillator has stopped (R46, R417, R494). -/
def State.wakeDomain (s : State) (d : Nat) : State :=
  let s1 := if (s.domAt d).st == .on then s else s.askWake d
  match clockIsland d with
  | some i => if s.oscRuns i then s1 else s1.askWake i
  | none => s1

/-! ### Time -/

/-- True while the macro is in reset: PORST_N or WARM_N is low (R31). -/
def State.inReset (s : State) : Bool := !s.pins.porstN || !s.pins.warmN

/-- Units of domain d act: the macro is out of reset and the domain is ON (R31, R487). -/
def State.runs (s : State) (d : Nat) : Bool := !s.inReset && s.domOn d

/-- Time measured against REF_CLK, in ns since reset: what a quantity given in ns or µs is counted in (R4). -/
def State.refTime (s : State) : Nat := s.uptime

/-- What a local time counter reads after so many cycles of the block: it advances by 1 ft with each, and by its oscillator's departure, less
the part of the phase error it has removed by then (R44, R63). -/
def Island.readAt (l : Island) (cycles : Nat) : Nat :=
  if l.held then l.base
  else ((l.base + 16 * cycles : Nat) + l.drift * cycles / 1024 - l.corr * (min cycles 1024 : Nat) / 1024 : Int).toNat

/-- Island i's local time in units of 1/16 ft; each cycle counts as 1 ft before fabric time starts (R63, R177). -/
def State.local16 (s : State) (i : Nat) : Nat := (s.islAt i).readAt (s.uptime - (s.islAt i).since)

/-- Island i's local time in ft. -/
def State.localFt (s : State) (i : Nat) : Nat := s.local16 i / 16

/-- Local time of NI n's island in ft. -/
def State.niTime (s : State) (n : Nat) : Nat := s.localFt (niIsland n)

/-- The local time counter of an NI's island runs: a held counter does not advance its timers (R63, R177). -/
def State.timeRuns (s : State) (n : Nat) : Bool := !(s.islAt (niIsland n)).held

/-- Local time of tile t's island in ft. -/
def State.rtTime (s : State) (t : Nat) : Nat := s.localFt (tileIsland t)

/-- The time epoch of a time in ft, plus one, so that zero means none yet (R52). -/
def epochMark (ft : Nat) : Nat := ft / 2 ^ 20 + 1

/-- Effective confidence of island i (R65). -/
def State.effConf (s : State) (i : Nat) : Conf := Conf.worse (s.islAt i).fabConf (s.islAt i).conf

/-! ### Tables of the loaded images -/

/-- Section types of R309. -/
def Sec.FREQ : Nat := 1
def Sec.ADDRMAP : Nat := 2
def Sec.ROUTE : Nat := 3
def Sec.DGT : Nat := 4
def Sec.INJGATE : Nat := 5
def Sec.RTGATE : Nat := 6
def Sec.QOS : Nat := 7
def Sec.XLATE : Nat := 8
/-- Store of a Strainer shadow, kept beside the sections of the same bank (R426). -/
def Sec.SHADOW : Nat := 9
/-- A home slice's memory map, and the agent map: the HSL NI's second shares (R309). -/
def Sec.MEMMAP : Nat := 10
def Sec.AGENT : Nat := 11

/-- Key of a table word: NI, bank, section, part and word index. -/
def tabKey (n bank sec part idx : Nat) : Nat := (((n * 2 + bank) * 16 + sec) * 8 + part) * 2 ^ 20 + idx

/-- A table word; words never loaded are zero, which no table takes for a valid entry. -/
def State.tabW (s : State) (n bank sec part idx : Nat) : W64 := KMap.get (fun _ => 0) s.tab (tabKey n bank sec part idx)

/-- The state with a table word written. -/
def State.setTab (s : State) (n bank sec part idx : Nat) (w : W64) : State :=
  { s with tab := KMap.set (fun _ => 0) s.tab (tabKey n bank sec part idx) w }

/-- The bank of NI n that serves an EPOCH value, and whether the lookup is for neither epoch (R320, R325). -/
def State.bankOf (s : State) (n epoch : Nat) : Nat × Bool :=
  let e := (s.niAt n).ep
  if epoch = e.epoch then (e.bank, false)
  else if e.draining && epoch == e.oldEpoch then (1 - e.bank, false)
  else (e.bank, true)

/-! ### Event counters -/

/-- Where a unit's counters, bindings and filter sets lie (R550 to R557). -/
structure CntPage where
  cnt : Nat → Nat
  bind : Nat → Nat
  fmatch : Nat → Nat
  fbase : Nat → Nat
  flimit : Nat → Nat

/-- Counter page of router t. -/
def rtPage (t : Nat) : CntPage :=
  ⟨Off.RT_PM_CNT t, Off.RT_PM_BIND t, Off.RT_PM_FLT_MATCH t, Off.RT_PM_FLT_BASE t, Off.RT_PM_FLT_LIMIT t⟩
/-- Counter page of NI n. -/
def niPage (n : Nat) : CntPage :=
  ⟨Off.NI_PM_CNT n, Off.NI_PM_BIND n, Off.NI_PM_FLT_MATCH n, Off.NI_PM_FLT_BASE n, Off.NI_PM_FLT_LIMIT n⟩
/-- Counter page of home slice h. -/
def hsPage (h : Nat) : CntPage :=
  ⟨Off.HS_PM_CNT h, Off.HS_PM_BIND h, Off.HS_PM_FLT_MATCH h, Off.HS_PM_FLT_BASE h, Off.HS_PM_FLT_LIMIT h⟩

/-- True when filter set k of a page lets an event with these attributes count (R553, R556). -/
def State.filterPass (s : State) (pg : CntPage) (k : Nat) (a : Option Hdr) : Bool :=
  let m := s.rd (pg.fmatch k)
  if bit m 37 then
    match a with
    | none => false
    | some h =>
      let base := bits (s.rd (pg.fbase k)) 6 46
      let lim := bits (s.rd (pg.flimit k)) 6 46
      let pm := bits m 38 2
      let privOk := if pm = 1 then !h.priv else if pm = 2 then h.priv else true
      let agOk := (h.agent.toNat &&& bits m 40 12) == (bits m 52 12 &&& bits m 40 12)
      let adOk := if vnResponse h.vn.toNat then base == 0 && lim == 0x3FFFFFFFFFFF
                  else decide (base ≤ h.line ∧ h.line ≤ lim)
      privOk && agOk && adOk && m.getLsbD h.vn.toNat
  else true

/-- The state with counter k of a page raised by an amount; `f` is column F of the event lists, `a` the event's attributes (R547, R553). -/
def State.countBy (s : State) (pg : CntPage) (k : Nat) (f : Bool) (a : Option Hdr) (amt : Nat) : State :=
  if amt = 0 then s
  else
    let b := bits (s.rd (pg.bind (k / 16))) (4 * (k % 16)) 4
    let pass := if f && decide (4 ≤ b ∧ b ≤ 7) then s.filterPass pg (b - 4) a else true
    if pass then
      let w := s.rd (pg.cnt k)
      let c := bits w 0 48 + amt
      s.wr (pg.cnt k) (BitVec.ofNat 64 ((if bit w 63 || decide (2 ^ 48 ≤ c) then 2 ^ 63 else 0) + c % 2 ^ 48))
    else s

/-- The units of domain d do not count: they have taken their retention image (R548, R562). -/
def State.countHeld (s : State) (d : Nat) : Bool := (s.domAt d).imaged

/-- A router event (R550). -/
def State.evRt (s : State) (t k : Nat) (f : Bool) (a : Option Hdr) : State :=
  if s.countHeld (tileIsland t) then s else s.countBy (rtPage t) k f a 1
/-- A number of router events at once (R550). -/
def State.evRtBy (s : State) (t k amt : Nat) : State := if s.countHeld (tileIsland t) then s else s.countBy (rtPage t) k false none amt
/-- An NI event (R551). -/
def State.evNi (s : State) (n k : Nat) (f : Bool) (a : Option Hdr) : State :=
  if s.countHeld (niIsland n) then s else s.countBy (niPage n) k f a 1
/-- A home slice event (R552). -/
def State.evHs (s : State) (h k : Nat) (f : Bool) (a : Option Hdr) : State :=
  if s.countHeld (48 + h) then s else s.countBy (hsPage h) k f a 1

/-- A number of home slice events at once (R552). -/
def State.evHsBy (s : State) (h k amt : Nat) : State := if s.countHeld (48 + h) then s else s.countBy (hsPage h) k false none amt

/-! ### Links and credits -/

/-- The receiving port of an NI: keys beyond those of the router inputs. -/
def niKey (n : Nat) : Nat := 2048 + n
/-- The receiving port that output p of tile t drives: a router input, or an NI (R17). A seam port drives its link
controller half under a key of its own. -/
def outKey (t p : Nat) : Nat :=
  match portSeam t p with
  | some k => 4096 + 2 * k + seamEnd t
  | none => match portNi t p with
    | some n => niKey n
    | none => portPeer t p * 8 + portBack p
/-- The receiving port that the injection stage of NI n drives. -/
def injKey (n : Nat) : Nat := niTile n * 8 + niPort n

/-- Flits on the way into a receiving port. -/
def State.wireAt (s : State) (k : Nat) : List Flit := KMap.get (fun _ => []) s.wire k
/-- The state with the flits on the way into a port replaced. -/
def State.setWire (s : State) (k : Nat) (l : List Flit) : State := { s with wire := KMap.set (fun _ => []) s.wire k l }
/-- The state with a flit sent toward a port. -/
def State.sendFlit (s : State) (k : Nat) (f : Flit) : State := s.setWire k (s.wireAt k ++ [f])

/-- Key of a lane of a receiving port. -/
def laneKey (k vn : Nat) (gt : Bool) : Nat := k * 16 + vn * 2 + b2n gt

/-- Credits that the sender toward a port has in use for a lane. -/
def State.usedAt (s : State) (k vn : Nat) (gt : Bool) : Nat := KMap.get (fun _ => 0) s.used (laneKey k vn gt)
/-- The state with the credits in use replaced. -/
def State.setUsed (s : State) (k vn : Nat) (gt : Bool) (c : Nat) : State :=
  { s with used := KMap.set (fun _ => 0) s.used (laneKey k vn gt) c }
/-- True while the crossing pair of the link into a port is in reset (R82). -/
def State.linkHeld (s : State) (k : Nat) : Bool := s.allHeld || KMap.get (fun _ => false) s.held k
/-- The credit count a sender holds for a lane: none while the pair is in reset, else the depth less the credits in use (R111). -/
def State.credit (s : State) (k vn : Nat) (gt : Bool) : Nat :=
  if s.linkHeld k then 0 else laneDepth vn gt - s.usedAt k vn gt
/-- The state with one credit of a lane used (R111). -/
def State.useCredit (s : State) (k vn : Nat) (gt : Bool) : State := s.setUsed k vn gt (s.usedAt k vn gt + 1)
/-- Credits a receiver owes its sender for a lane (R112). -/
def State.owedAt (s : State) (k vn : Nat) (gt : Bool) : Nat := KMap.get (fun _ => 0) s.owed (laneKey k vn gt)
/-- The state with the credits owed replaced. -/
def State.setOwed (s : State) (k vn : Nat) (gt : Bool) (c : Nat) : State :=
  { s with owed := KMap.set (fun _ => 0) s.owed (laneKey k vn gt) c }
/-- The state in which a receiver owes one more credit of a lane: a flit has left it (R112). -/
def State.oweCredit (s : State) (k vn : Nat) (gt : Bool) : State := s.setOwed k vn gt (s.owedAt k vn gt + 1)

/-! ### Fault reports -/

/-- True for a FAULT packet in an MGT queue (R108). -/
def isFaultPkt (p : Pkt) : Bool := p.h.vn.toNat == 7 && p.h.opcode.toNat == 1
/-- CLASS of a FAULT packet (R504). -/
def faultPktCls (p : Pkt) : Nat := bits (p.word 0) 41 3

/-- The FAULT packet that NI n sends for a message: P2, COLOUR 0b11, EPOCH of its active bank (R278, R504, R507). The head
payload starts at word 2 of the flit. -/
def State.faultPkt (s : State) (n : Nat) (f : FaultMsg) : Pkt :=
  { h := { Hdr.zero with
           vn := 7, pri := 2, colour := 3, epoch := BitVec.ofNat 2 (s.niAt n).ep.epoch, opcode := 1,
           src := BitVec.ofNat 8 n, agent := BitVec.ofNat 12 f.agent, mid := BitVec.ofNat 46 f.line },
    pl := lineOfWords [f.word, BitVec.ofNat 64 (f.rep % 256)], body := [] }

/-- The fold count of NI_FAULT_CNT for a class (R508). -/
def foldFld (cls : Nat) : Fld :=
  if cls = 2 then Fld.NI_FAULT_CNT.LOST_C2 else if cls = 1 then Fld.NI_FAULT_CNT.LOST_C1 else Fld.NI_FAULT_CNT.LOST_C0

/-- The place, from the back, of the newest queued C0 to C2 fault message (R508). -/
def newestLow (q : List QPkt) : Option Nat :=
  (List.range q.length).reverse.find? (fun k =>
    match q[k]? with
    | some e => isFaultPkt e.p && decide (faultPktCls e.p ≤ 2)
    | none => false)

/-- An NI takes a fault message into its MGT queue: two of the eight places are kept for C3 and C4, a C0 to C2 message
without a place is folded, a C3 or C4 message displaces the newest C0 to C2 one, and is held and merged when none is left (R508). -/
def State.queueFault (s : State) (n : Nat) (f : FaultMsg) : State :=
  let u := s.niAt n
  let q : QPkt := { p := s.faultPkt n f, dest := 249, tin := s.niTime n, resend := false, tx := 0 }
  if f.cls ≤ 2 then
    if u.mgt.length < 6 then s.modNi n (fun u => { u with mgt := u.mgt ++ [q] })
    else s.bump (Off.NI_FAULT_CNT n) (foldFld f.cls)
  else if u.mgt.length < 8 then s.modNi n (fun u => { u with mgt := u.mgt ++ [q] })
  else
    match newestLow u.mgt with
    | some k =>
      let low := match u.mgt[k]? with
        | some e => faultPktCls e.p
        | none => 0
      (s.modNi n (fun u => { u with mgt := u.mgt.eraseIdx k ++ [q] })).bump (Off.NI_FAULT_CNT n) (foldFld low)
    | none =>
      if u.heldFaults.any (fun g => g.kind == f.kind && g.sub == f.sub) then
        (s.modNi n (fun u => { u with heldFaults := u.heldFaults.map (fun g =>
          if g.kind == f.kind && g.sub == f.sub then { g with rep := satInc 255 g.rep } else g) })).bump
            (Off.NI_FAULT_CNT n) Fld.NI_FAULT_CNT.MERGED
      else s.modNi n (fun u => { u with heldFaults := u.heldFaults ++ [f] })

/-- A fault message of a kind from a source behind NI n, with its class given (R504, R505). -/
def mkFault (n sub : Nat) (k : FaultKind) (cls detail : Nat) : FaultMsg :=
  ⟨n, sub, k.code, cls, false, false, detail, 0, 0, 0⟩

/-- A unit reports a fault of the kind's own class through NI n (R504). -/
def State.report (s : State) (n sub : Nat) (k : FaultKind) (detail : Nat) : State :=
  s.queueFault n (mkFault n sub k k.cls detail)

/-- A unit reports a fault that names an agent and a line (R504). -/
def State.reportAt (s : State) (n sub : Nat) (k : FaultKind) (detail agent line : Nat) : State :=
  s.queueFault n { mkFault n sub k k.cls detail with addr := true, agent := agent, line := line }

/-- A unit reports a fault whose class it chooses (R528). -/
def State.reportCls (s : State) (n sub : Nat) (k : FaultKind) (cls detail : Nat) : State :=
  s.queueFault n (mkFault n sub k cls detail)

/-- What an always-on unit hands to an NI whose island is below ON raises a wake request for the island (R24, R155). -/
def State.wakeNi (s : State) (n : Nat) : State :=
  if s.domOn (niIsland n) || s.wakeQ.contains (niIsland n) then s else s.askWake (niIsland n)

/-- A report of an always-on or service unit, which wakes the island of the NI it goes through (R24, R155, R504). -/
def State.reportUp (s : State) (n sub : Nat) (k : FaultKind) (detail : Nat) : State := (s.report n sub k detail).wakeNi n

/-- The keeper's and drift monitor's reports, through NI 251 with SUB 6 (R75, R505, R506). -/
def State.reportTime (s : State) (k : FaultKind) (drift : Int) : State := s.reportUp 251 6 k (unsigned 16 drift * 2 ^ 23 + 255)

/-- An island's report, through the L0 NI of its lowest tile with SUB 7 (R75, R505, R506). -/
def State.reportIsl (s : State) (i : Nat) (k : FaultKind) (e : Int) : State :=
  s.report (tileL0 (islandTile i)) 7 k (unsigned 16 e * 2 ^ 23 + i)

/-- Key under which the occurrences of a kind wait for the report that carries them: SUB, the kind, and what its reports are told apart by. -/
def occKey (sub : Nat) (k : FaultKind) (scope : Nat) : Nat := (sub * 256 + k.code) * 256 + scope % 256

/-- Occurrences of a kind that are not reported are counted for the next report (R506). -/
def State.occurs (s : State) (n key c : Nat) : State :=
  s.modNi n (fun u => { u with occ := KMap.set (fun _ => 0) u.occ key (KMap.get (fun _ => 0) u.occ key + c) })

/-- A report whose DETAIL carries from bit 8 up the occurrences since the last one, this one among them, in a field of some bits (R506). -/
def State.reportOcc (s : State) (n sub key : Nat) (k : FaultKind) (cls width rest : Nat) : State :=
  let c := KMap.get (fun _ => 0) (s.niAt n).occ key + 1
  (s.modNi n (fun u => { u with occ := KMap.set (fun _ => 0) u.occ key 0 })).reportCls n sub k cls (rest + min (2 ^ width - 1) c * 2 ^ 8)

/-- A router's report, through the L0 NI of its tile with SUB 1 (R148, R505, R506). -/
def State.reportRt (s : State) (t p : Nat) (k : FaultKind) (lane : Nat) : State :=
  s.reportOcc (tileL0 t) 1 (occKey 1 k p) k k.cls 23 (lane % 256 * 2 ^ 31 + p)

/-- Occurrences at a router port that are not reported (R506). -/
def State.occursRt (s : State) (t p : Nat) (k : FaultKind) (c : Nat) : State := s.occurs (tileL0 t) (occKey 1 k p) c

/-- What tells the reports of a kind of an NI apart: the flow, the destination or the meter, where its limit is for each of these (R190, R282, R283,
R298). -/
def occScope (k : FaultKind) (what vn : Nat) : Nat :=
  if k = .GT_OVERSIZE ∨ k = .GT_SLOT_MISSED ∨ k = .NO_ROUTE then what else if k = .METER_RED_P3 then vn else 0

/-- An NI's own report, with SUB 0: what the kind names in [38:31], occurrences, and VN, meter or queue (R505, R506). -/
def State.reportNi (s : State) (n : Nat) (k : FaultKind) (what vn : Nat) : State :=
  s.reportOcc n 0 (occKey 0 k (occScope k what vn)) k k.cls 23 (what % 256 * 2 ^ 31 + vn % 256)

/-- Occurrences at an NI that are not reported (R506). -/
def State.occursNi (s : State) (n : Nat) (k : FaultKind) (what vn c : Nat) : State := s.occurs n (occKey 0 k (occScope k what vn)) c

/-- MSG_RESERVED from a unit other than the Saucer, for a message with a reserved encoding (R7, R506). -/
def State.reportReserved (s : State) (n sub : Nat) (h : Hdr) : State :=
  s.report n sub .MSG_RESERVED (h.src.toNat * 2 ^ 31 + h.opcode.toNat * 2 ^ 25 + h.vn.toNat)

end Sys2Proof.Machine
end

