-- ==== Sys2Proof/Machine/Inject.lean ====
section
/-! DEFINITION. Injected errors on their way to the check that finds them: marks on flits, buffer lines and flow units, and the INJ bit of the
reports that such a check makes (R527). -/
namespace Sys2Proof.Machine

/-- Where an injected error waits: a flit on a link is marked by its place, with lane and bits flipped; keys are the receiving port, 8192 + n for
NI n's transmit buffer, and 16384 + 2·k + e for the flow units of a link half. -/
def bufFlipKey (n : Nat) : Nat := 8192 + n
/-- Key of the flow units that half e of controller k sends. -/
def fluFlipKey (k e : Nat) : Nat := 16384 + 2 * k + e

/-- Marks waiting at a key. -/
def State.flipsAt (s : State) (key : Nat) : List (Nat × Nat × Nat) := KMap.get (fun _ => []) s.sc.flips key

/-- The state with the marks at a key replaced. -/
def State.setFlips (s : State) (key : Nat) (l : List (Nat × Nat × Nat)) : State :=
  { s with sc := { s.sc with flips := KMap.set (fun _ => []) s.sc.flips key l } }

/-- The next flit sent toward a port, buffer line or flow unit that carries no mark yet is marked. -/
def State.addFlip (s : State) (key ahead lane two : Nat) : State :=
  let l := s.flipsAt key
  s.setFlips key (l ++ [(ahead + (l.filter (fun f => decide (ahead ≤ f.1))).length, lane, two)])

/-- Flits at given places leave the wire into a port: the marks they carry, each with its place, and the marks that stay. -/
def State.takeFlips (s : State) (key : Nat) (gone : List Nat) : List (Nat × Nat × Nat) × State :=
  let l := s.flipsAt key
  if l.isEmpty then ([], s)
  else
    (l.filter (fun f => gone.contains f.1),
      s.setFlips key ((l.filter (fun f => !gone.contains f.1)).map (fun f => (f.1 - (gone.filter (fun g => decide (g < f.1))).length, f.2))))

/-- What a lane check finds on a flit that carries marks: one flipped bit is corrected, two are not; the three copies of the flit mark outvote
them (R86, R130, R527). -/
def LaneErrs.flipped (e : LaneErrs) (l : List (Nat × Nat × Nat)) : LaneErrs :=
  l.foldl (fun e f =>
    if f.2.2 = 2 ∧ f.2.1 < 10 then { e with ue := e.ue ||| BitVec.ofNat 10 (2 ^ f.2.1) }
    else { e with ce := e.ce ||| BitVec.ofNat 11 (2 ^ f.2.1) }) e

/-- The INJ bit of a queued FAULT packet set (R504). -/
def QPkt.injected (q : QPkt) : QPkt :=
  if isFaultPkt q.p then { q with p := { q.p with pl := setLineWord q.p.pl 0 (setBits (q.p.word 0) 39 1 1) } } else q

/-- The reports that NI n has made since an earlier state carry INJ = 1 (R504, R527). -/
def State.markInj (s0 : State) (n : Nat) (s : State) : State :=
  let a := s0.niAt n
  let b := s.niAt n
  let new := if a.mgt.length < b.mgt.length then b.mgt.length - a.mgt.length else if a.mgt = b.mgt then 0 else 1
  let keep := b.mgt.length - new
  s.modNi n (fun u => { u with
    mgt := u.mgt.take keep ++ (u.mgt.drop keep).map QPkt.injected
    heldFaults := u.heldFaults.take a.heldFaults.length ++ (u.heldFaults.drop a.heldFaults.length).map (fun f => { f with inj := true }) })

/-- The flit at the front of the wire into a port is checked: `f` acts on what the check finds, and what it reports through NI n of an injected
error carries INJ = 1 (R130, R527). -/
def State.withFlip (s : State) (key n : Nat) (errs : LaneErrs) (f : LaneErrs → State → State) : State :=
  let (l, s1) := s.takeFlips key [0]
  if l.isEmpty then f errs s1 else State.markInj s1 n (f (errs.flipped l) s1)

/-- What the transmit buffer's check finds on a line where an injected error waits. -/
def BufErr.flipped (e : BufErr) (l : List (Nat × Nat × Nat)) : BufErr :=
  l.foldl (fun e f => if f.2.2 = 2 then { e with ue := e.ue ++ [0] } else { e with ce := e.ce + 1 }) e

end Sys2Proof.Machine
end

