-- ==== Sys2Proof/Machine/Gates.lean ====
section
/-! DEFINITION. Gate lists and the start rules of P0 to P2 heads (R137, R138, R285 to R290). Times are in units of 1/16 ft. -/
namespace Sys2Proof.Machine

/-- A gate window within the frame: GT or MGT, its opening and its length (R285). -/
structure Window where
  gt : Bool
  opn : Nat
  len : Nat
  deriving DecidableEq, Repr

/-- The frame of R280 in units of 1/16 ft. -/
def frame16 : Nat := 16384

/-- The window of a window word of R285; a reserved KIND names none. -/
def windowOf (w : W64) : Option Window :=
  let k := bits w 62 2
  if k = 1 then some ⟨true, bits w 32 14, bits w 16 12⟩ else if k = 2 then some ⟨false, bits w 32 14, bits w 16 12⟩ else none

/-- Header word of the gate list of output p of tile t in a bank (R285). -/
def State.gateHead (s : State) (t p bank : Nat) : W64 := s.tabW (tileL0 t) bank Sec.RTGATE p 0

/-- A word of the gate list of an output has been found uncorrectable (R524). -/
def State.gateBad (s : State) (t p bank : Nat) : Bool :=
  (List.range 128).any (fun k => KMap.get (fun _ => false) s.tabBad (tabKey (tileL0 t) bank Sec.RTGATE p k))

/-- Window words of a list (R285); an unusable list acts as a single window over the whole frame, in which P3 and MGT heads start (R524). -/
def State.gateWindows (s : State) (t p bank : Nat) : List Window :=
  if s.gateBad t p bank then [⟨false, 0, 16384⟩]
  else (List.range (bits (s.gateHead t p bank) 16 8)).filterMap (fun k => windowOf (s.tabW (tileL0 t) bank Sec.RTGATE p (k + 1)))

/-- Active bank of a tile's router: that of its L0 NI (R319). -/
def State.rtBank (s : State) (t : Nat) : Nat := (s.niAt (tileL0 t)).ep.bank

/-- The windows an output applies: the active list's, and until T + 256 ft after a switch the old list's too (R290). -/
def State.outWindows (s : State) (t p : Nat) : List Window :=
  s.gateWindows t p (s.rtBank t) ++
    (match (s.rtAt t).unionOld with
     | some (b, _) => s.gateWindows t p b
     | none => [])

/-- MODE of R137. -/
inductive GateMode where
  | fit | guard | closed | none
  deriving DecidableEq, Repr

/-- MODE code of RT_GATE_P. -/
def GateMode.code : GateMode → Nat
  | .fit => 0 | .guard => 1 | .closed => 2 | .none => 3

/-- The mode of an output or an injection port from its list and its island's effective confidence (R137, R288). -/
def gateMode (c : Conf) (hasList blind : Bool) : GateMode :=
  if c = .unset then .closed
  else if !hasList then .none
  else if c = .nominal ∧ blind = false then .fit
  else .guard

/-- True while a window of the list is open at a time within the frame. -/
def windowOpen (ws : List Window) (nowf : Nat) : Bool := ws.any (fun w => decide (w.opn ≤ nowf ∧ nowf < w.opn + w.len))

/-- The distance from a time within the frame to the next opening after it, if the list has a window. -/
def nextOpen (ws : List Window) (nowf : Nat) : Option Nat :=
  ws.foldl (fun a w =>
    let d := if nowf < w.opn then w.opn - nowf else w.opn + frame16 - nowf
    match a with
    | none => some d
    | some x => some (min x d)) none

/-- An exact interval of time: numerator and denominator of its length in units of 1/16 ft. Sums of cycles are taken without rounding (R80, R138). -/
structure Span where
  num : Nat
  den : Nat
  deriving DecidableEq, Repr

/-- No time. -/
def Span.zero : Span := ⟨0, 1⟩

/-- `a` cycles of an island at f MHz and `b` cycles at g MHz, each lengthened by 12.5 % (R80). -/
def Span.cycles (a f b g : Nat) : Span := ⟨18000 * (a * g + b * f), f * g⟩

/-- Whether a P0 to P2 head may start: `ws` are the windows that bind it, `mhz` the island's frequency, `loop` is L of R138
(zero when its credits cover all its flits). In HOLDOVER a one-flit P2 head is exempt (R137, R138, R287, R289). -/
def headMayStart (m : GateMode) (holdover : Bool) (ws : List Window) (nowf mhz : Nat) (guard : Span) (trail16 : Nat) (loop : Span) (len pri : Nat) : Bool :=
  match m with
  | .closed => true
  | .none => true
  | .fit =>
    if windowOpen ws nowf then false
    else match nextOpen ws nowf with
      | none => true
      | some d => decide (((len + 1) * 18000 + trail16 * mhz) * loop.den + loop.num * mhz ≤ d * mhz * loop.den)
  | .guard =>
    if holdover && pri == 2 && len == 0 then true
    else if windowOpen ws nowf then false
    else match nextOpen ws nowf with
      | none => true
      | some d => decide (guard.num * loop.den + loop.num * guard.den < d * guard.den * loop.den)

/-- The windows that bind a head: GT windows alone for an MGT head, every window for the others (R287). -/
def bindingWindows (mgt : Bool) (ws : List Window) : List Window := if mgt then ws.filter (·.gt) else ws

/-- GT floor of an island, 1,200 MHz where none is set (R49). -/
def State.floorMhz (s : State) (i : Nat) : Nat := if (s.islAt i).floorMhz = 0 then 1200 else (s.islAt i).floorMhz

/-- The credit loop of output p of tile t (R115, R393): on a die two receiving cycles and, where a stream crossing lies in the link, its bound both
ways; on a seam link two cycles of the receiving router and 36 ns. -/
def State.creditLoop (s : State) (t p : Nat) : Span :=
  let f := s.floorMhz (tileIsland t)
  let g := s.floorMhz (tileIsland (portPeer t p))
  match portSeam t p with
  | some _ => let c := Span.cycles 0 1 2 g
    ⟨576 * c.den + c.num, c.den⟩
  | none => if portCrosses t p then Span.cycles 5 f 7 g else Span.cycles 2 f 0 1

/-- The mode of output p of tile t (R137). -/
def State.outMode (s : State) (t p : Nat) : GateMode :=
  let hw := s.gateHead t p (s.rtBank t)
  gateMode (s.effConf (tileIsland t)) (bits hw 16 8 != 0 || s.gateBad t p (s.rtBank t)) (bit hw 31)

/-- Whether a new head may start at output p of tile t under its gates (R137 to R139, R287, R289); P3 heads start except in mode CLOSED. -/
def State.gatePass (s : State) (t p : Nat) (h : Hdr) : Bool :=
  let i := tileIsland t
  let hw := s.gateHead t p (s.rtBank t)
  let c := s.effConf i
  let m := s.outMode t p
  if h.gt then m != .closed
  else
    let need := h.len.toNat + 1
    let loop := if need ≤ s.credit (outKey t p) h.vn.toNat false then Span.zero else s.creditLoop t p
    headMayStart m (decide (c = .holdover)) (bindingWindows (h.vn.toNat == 7) (s.outWindows t p)) (s.local16 i % frame16)
      (s.islAt i).curMhz ⟨bits hw 48 16, 1⟩ (bits hw 32 16) loop h.len.toNat h.pri.toNat

end Sys2Proof.Machine
end

