-- ==== Sys2Proof/Machine/Router.lean ====
section
/-! DEFINITION. Meanings of the commands of the router tiles and of credits and queue samples (R86 to R148, R303, R304). -/
namespace Sys2Proof.Machine

/-! ### Reading a router -/

/-- Lane key within a router: port, VN, lane. -/
def laneIx (p vn : Nat) (gt : Bool) : Nat := p * 16 + vn * 2 + b2n gt

/-- Flits in a lane of tile t. -/
def Router.lane (r : Router) (k : Nat) : List Cell := KMap.get (fun _ => []) r.lanes k
/-- The router with a lane replaced. -/
def Router.setLane (r : Router) (k : Nat) (l : List Cell) : Router := { r with lanes := KMap.set (fun _ => []) r.lanes k l }
/-- What a lane expects at reset: a head flit. -/
def LaneRx.idle : LaneRx := { h := none, next := 1, dropping := false }
/-- What a lane expects next. -/
def Router.laneRx (r : Router) (k : Nat) : LaneRx := KMap.get (fun _ => LaneRx.idle) r.rx k
/-- The router with a lane's expectation replaced. -/
def Router.setRx (r : Router) (k : Nat) (x : LaneRx) : Router := { r with rx := KMap.set (fun _ => LaneRx.idle) r.rx k x }
/-- The packet in progress on output p for a VN. -/
def Router.progAt (r : Router) (p vn : Nat) : Option Prog := KMap.get (fun _ => none) r.prog (p * 8 + vn)
/-- The router with the packet in progress replaced. -/
def Router.setProg (r : Router) (p vn : Nat) (x : Option Prog) : Router :=
  { r with prog := KMap.set (fun _ => none) r.prog (p * 8 + vn) x }
/-- A per-port flag. -/
def portFlag (m : KMap Bool) (p : Nat) : Bool := KMap.get (fun _ => false) m p
/-- A per-port flag set. -/
def setPortFlag (m : KMap Bool) (p : Nat) (b : Bool) : KMap Bool := KMap.set (fun _ => false) m p b

/-- The neighbour state that an output starts from: ASLEEP at reset; once start-up has raised the domains ON, and UNREACHABLE toward a seam link,
which is DOWN (R367). -/
def State.nbrFirst (s : State) (t p : Nat) : Nbr := if (portSeam t p).isSome && s.nbrBase != .asleep then .unreach else s.nbrBase

/-- Neighbour state of output p of tile t: a port off the mesh and a forced port are UNREACHABLE, the others hold what the
value crossing last delivered (chapter 4, Wake fences). -/
def State.nbrOf (s : State) (t p : Nat) : Nbr :=
  if portEdge t p then .unreach
  else if (s.fld (Off.RT_CTRL t) Fld.RT_CTRL.FORCE_UNREACH).testBit p then .unreach
  else (KMap.get (fun _ => none) (s.rtAt t).nbr p).getD (s.nbrFirst t p)

/-- True while the output's wake fence holds or is closing: no new head passes (R140, R141). -/
def State.fenced (s : State) (t p : Nat) : Bool :=
  s.nbrOf t p == .asleep || portFlag (s.rtAt t).closing p || portFlag (s.rtAt t).closed p

/-- The first head that requests a fenced output raises one wake request, until the neighbour is ON again (R140, R494). -/
def State.wakeAt (s : State) (t p : Nat) : State :=
  if s.fenced t p && !portFlag (s.rtAt t).wakePend p then
    ((s.modRt t (fun r => { r with wakePend := setPortFlag r.wakePend p true })).bump (Off.RT_ERR_CNT t) Fld.RT_ERR_CNT.WAKE_REQS).askWake
      (portDomain t p)
  else s

/-! ### Errors and discards -/

/-- Corrected lanes of a flit, the mark included. -/
def LaneErrs.ceCount (e : LaneErrs) : Nat := (List.range 11).foldl (fun a k => a + b2n (e.ce.getLsbD k)) 0
/-- Uncorrectable words of a flit: its control words 0 and 1, and its payload words (R131, R148). -/
def LaneErrs.ueCtrl (e : LaneErrs) : Nat := b2n (e.ue.getLsbD 0) + b2n (e.ue.getLsbD 1)
def LaneErrs.uePay (e : LaneErrs) : Nat := (List.range 8).foldl (fun a k => a + b2n (e.ue.getLsbD (k + 2))) 0
/-- The lowest word with an uncorrectable error: the word that decides under R131. -/
def LaneErrs.ueWord (e : LaneErrs) : Option Nat := (List.range 10).find? (fun k => e.ue.getLsbD k)
/-- The highest lane with any error, 10 for the mark, 15 for none (RT_LANE_ERR_P.LAST_LANE). -/
def LaneErrs.lastLane (e : LaneErrs) : Nat :=
  match (List.range 11).reverse.find? (fun k => e.ce.getLsbD k || (decide (k < 10) && e.ue.getLsbD k)) with
  | some k => k
  | none => 15

/-- A router counts an arriving flit's corrected errors and reports LANE_CE at most once per port and time epoch (R134, R136). -/
def State.laneCe (s : State) (t p : Nat) (e : LaneErrs) : State :=
  if e.ceCount = 0 then s
  else
    let s1 := ((s.bumpBy (Off.RT_LANE_ERR t p) Fld.RT_LANE_ERR.CE e.ceCount).setFld (Off.RT_LANE_ERR t p) Fld.RT_LANE_ERR.LAST_LANE
      e.lastLane).setFld (Off.RT_ERR_STATUS t) Fld.RT_ERR_STATUS.CE 1
    let s2 := s1.evRtBy t 60 e.ceCount
    let now := epochMark (s.rtTime t)
    if s.flag (Off.RT_CTRL t) Fld.RT_CTRL.CE_REPORT && KMap.get (fun _ => 0) (s.rtAt t).ceEpoch p != now then
      ((s2.modRt t (fun r => { r with ceEpoch := KMap.set (fun _ => 0) r.ceEpoch p now })).occursRt t p .LANE_CE (e.ceCount - 1)).reportRt t p
        .LANE_CE e.lastLane
    else s2.occursRt t p .LANE_CE e.ceCount

/-- The uncorrectable words of an arriving flit are counted as control and payload errors; the lowest one decides what is reported (R131, R136). -/
def State.laneUe (s : State) (t p : Nat) (e : LaneErrs) : State :=
  match e.ueWord with
  | none => s
  | some w =>
    let ctrl := decide (w ≤ 1)
    let st := if ctrl then Fld.RT_ERR_STATUS.UE_CTRL else Fld.RT_ERR_STATUS.UE_PAYLOAD
    let s1 := (((s.bumpBy (Off.RT_LANE_ERR t p) Fld.RT_LANE_ERR.UE_CTRL e.ueCtrl).bumpBy (Off.RT_LANE_ERR t p) Fld.RT_LANE_ERR.UE_PAYLOAD e.uePay).setFld
      (Off.RT_LANE_ERR t p) Fld.RT_LANE_ERR.LAST_LANE e.lastLane).setFld (Off.RT_ERR_STATUS t) st 1
    (s1.evRtBy t 61 (e.ueCtrl + e.uePay)).reportRt t p (if ctrl then .LANE_UE_CTRL else .LANE_UE_PAYLOAD) e.lastLane

/-- A framing error is counted and reported (R134, R136). -/
def State.framing (s : State) (t p : Nat) : State :=
  ((s.bump (Off.RT_LANE_ERR t p) Fld.RT_LANE_ERR.FRAMING).setFld (Off.RT_ERR_STATUS t) Fld.RT_ERR_STATUS.FRAMING 1).reportRt t p .FLIT_FRAMING 15

/-- A router discards a packet: the count of counter 62, the balance of its L0 NI for an IOP packet of the active epoch, and while
an epoch drains the counts of RT_EPOCH_DISC for an IOP packet of the old epoch or a header word 0 that cannot be read (R133, R318). -/
def State.discarded (s : State) (t : Nat) (h : Hdr) (word0Bad : Bool) : State :=
  let s1 := s.evRt t 62 false none
  let n := tileL0 t
  let e := (s.niAt n).ep
  if !word0Bad && h.vn.toNat == Vn.IOP && h.epoch.toNat == e.epoch then
    s1.modNi n (fun u => { u with ep := { u.ep with recv := u.ep.recv + 1 } })
  else if e.draining then
    if word0Bad then s1.bumpMod (Off.RT_EPOCH_DISC t) Fld.RT_EPOCH_DISC.UNKNOWN
    else if h.vn.toNat = Vn.IOP ∧ h.epoch.toNat = e.oldEpoch then s1.bumpMod (Off.RT_EPOCH_DISC t) Fld.RT_EPOCH_DISC.OLD_IOP
    else s1
  else s1

/-- Credits owed for cells that leave a lane; synthesised cells hold none (R112, R133). -/
def State.oweCells (s : State) (t p vn : Nat) (gt : Bool) (cs : List Cell) : State :=
  cs.foldl (fun s c => if c.synth then s else s.oweCredit (t * 8 + p) vn gt) s

/-- The cells from the front of a lane that belong to the packet there: its head, or its remaining body flits, up to the next head. -/
def packetCells : List Cell → List Cell × List Cell
  | [] => ([], [])
  | c :: cs => (c :: cs.takeWhile (fun d => !d.f.isHead), cs.dropWhile (fun d => !d.f.isHead))

/-- A packet at the front of a lane is removed and its credits returned; flits of it still to arrive are discarded as they come (R133). -/
def State.dropFront (s : State) (t p vn : Nat) (gt : Bool) : State :=
  let k := laneIx p vn gt
  let r := s.rtAt t
  let (gone, rest) := packetCells (r.lane k)
  let s1 := s.modRt t (fun r => r.setLane k rest)
  let s2 := s1.oweCells t p vn gt gone
  if rest.isEmpty && (r.laneRx k).h.isSome then
    s2.modRt t (fun r => r.setRx k { h := none, next := 1, dropping := true })
  else s2

/-- A packet whose head requests an UNREACHABLE output is counted, and reported once for the change of the port (R143). -/
def State.fenceDiscard (s : State) (t out : Nat) (h : Hdr) : State :=
  let s1 := ((s.discarded t h false).bump (Off.RT_ERR_CNT t) Fld.RT_ERR_CNT.FENCE_DISCARDS).setFld (Off.RT_ERR_STATUS t)
    Fld.RT_ERR_STATUS.FENCE_DISCARD 1
  if portFlag (s.rtAt t).discRep out then s1.occursRt t out .FENCE_DISCARD 1
  else (s1.modRt t (fun r => { r with discRep := setPortFlag r.discRep out true })).reportRt t out .FENCE_DISCARD 15

/-! ### Arrival -/

/-- A head flit is malformed under R117. -/
def headMalformed (t : Nat) (h : Hdr) : Bool :=
  let r := Route.ofWord h.route
  !r.xf || !r.canonical || decide (6 ≤ r.out) || portEdge t r.out || decide (vnMax h.vn.toNat < h.len.toNat + 1) ||
    (h.gt && h.len.toNat != 0)

/-- Synthesised body flits that complete a packet from a SEQ on: regenerated word 0, POISON, every byte enabled, zero payload (R134, R143). -/
def synthFlits (h : Hdr) (next : Nat) : List Flit :=
  ((List.range 4).filter (fun k => decide (next ≤ k ∧ k ≤ h.len.toNat))).map (fun k =>
    .body h.gt h.vn (BitVec.ofNat 2 k) (k == h.len.toNat) h.src h.tag ⟨true, allBytes, 0⟩)

/-- A head that arrives while its lane still expects body flits: the started packet is completed with synthesised flits, or the
packet not yet granted is discarded (R134). -/
def State.frameHead (s : State) (t p vn : Nat) (gt : Bool) : State :=
  let k := laneIx p vn gt
  let r := s.rtAt t
  match (r.laneRx k).h with
  | none => s
  | some h =>
    let s1 := s.framing t p
    let lane := r.lane k
    if lane.any (fun c => c.f.isHead && !c.synth) then
      let keep := (lane.reverse.dropWhile (fun c => !c.f.isHead)).drop 1 |>.reverse
      let gone := lane.drop keep.length
      ((s1.modRt t (fun r => (r.setLane k keep).setRx k LaneRx.idle)).oweCells t p vn gt gone).discarded t h false
    else
      let extra := (synthFlits h (r.laneRx k).next).map (fun f => (⟨f, s.rtTime t, 0, true⟩ : Cell))
      s1.modRt t (fun r => (r.setLane k (lane ++ extra)).setRx k LaneRx.idle)

/-- A head flit is discarded on arrival with its packet: its credit is returned and its body flits are dropped as they come (R133). -/
def State.dropHead (s : State) (t p vn : Nat) (gt : Bool) (h : Hdr) (word0Bad : Bool) : State :=
  ((s.modRt t (fun r => r.setRx (laneIx p vn gt) { h := none, next := 1, dropping := true })).oweCredit (t * 8 + p) vn gt).discarded t h word0Bad

/-- A checked head flit enters its lane, or is discarded as malformed or for an UNREACHABLE output (R117, R124, R135, R140, R143). -/
def State.enterHead (s : State) (t p : Nat) (h : Hdr) (pl : Line) : State :=
  let vn := h.vn.toNat
  let gt := h.gt
  let k := laneIx p vn gt
  if headMalformed t h then
    (((s.dropHead t p vn gt h false).bump (Off.RT_ERR_CNT t) Fld.RT_ERR_CNT.MALFORMED).setFld (Off.RT_ERR_STATUS t)
      Fld.RT_ERR_STATUS.HDR_MALFORMED 1).reportRt t p .HDR_MALFORMED 15
  else if s.nbrOf t h.out = .unreach then
    (s.modRt t (fun r => r.setRx k { h := none, next := 1, dropping := true })).oweCredit (t * 8 + p) vn gt |>.fenceDiscard t h.out h
  else
    let more := h.len.toNat != 0
    let s1 := s.modRt t (fun r => (r.setLane k (r.lane k ++ [⟨.head gt h pl, s.rtTime t, 0, false⟩])).setRx k
      { h := if more then some h else none, next := 1, dropping := false })
    s1.wakeAt t h.out

/-- What a router does with a head flit and the findings of its lane check (R117, R130 to R136). -/
def State.headArrive (s : State) (t p : Nat) (g : Bool) (h : Hdr) (pl : Line) (errs : LaneErrs) : State :=
  let vn := h.vn.toNat
  let s1 := (s.evRt t (24 + p) true (some h)).laneCe t p errs
  let s2 := if (s1.rtAt t |>.laneRx (laneIx p vn g)).h.isSome then s1.frameHead t p vn g else s1
  let s3 := s2.modRt t (fun r => r.setRx (laneIx p vn g) LaneRx.idle)
  match errs.ueWord with
  | none => s3.enterHead t p h pl
  | some w =>
    if w ≤ 1 then (s3.laneUe t p errs).dropHead t p vn g h (w == 0)
    else (s3.laneUe t p errs).enterHead t p { h with poison := true } pl

/-- ROUTER_HEAD_ARRIVE: the head flit at the front of the link into port p of tile t enters its lane: the lane check, framing,
well-formedness, and the wake request of a fenced output (R117, R124, R130 to R136, R140, R143). -/
def execRouterHeadArrive (t : Fin 192) (p : Fin 6) (errs : LaneErrs) (s : State) : Outcome :=
  let key := t.val * 8 + p.val
  if !s.runs (tileIsland t) then .next s
  else
  match s.wireAt key with
  | .head g h pl :: rest => .next ((s.setWire key rest).withFlip key (tileL0 t) errs (fun e s => s.headArrive t p g h pl e))
  | _ => .next s

/-- A body flit as R131 lets a router pass it on: word 0 regenerated from the head, byte enables filled, or poisoned. -/
def repairBody (h : Hdr) (next : Nat) (f : Flit) (w : Option Nat) : Flit :=
  match f, w with
  | .body g v q l sr tg b, some k =>
    if k = 0 then .body g h.vn (BitVec.ofNat 2 next) (next == h.len.toNat) h.src h.tag { b with poison := true }
    else if k = 1 then
      .body g v q l sr tg { b with be := allBytes, poison := b.poison || !vnResponse h.vn.toNat }
    else .body g v q l sr tg { b with poison := true }
  | f, _ => f

/-- What a router does with a body flit and the findings of its lane check; the errors of a flit that it discards are counted and reported
as well (R131, R133, R134, R136). -/
def State.bodyArrive (s : State) (t p : Nat) (f : Flit) (errs : LaneErrs) : State :=
  let vn := f.vn
  let g := f.gt
  let key := t * 8 + p
  let k := laneIx p vn g
  let x := (s.rtAt t).laneRx k
  let s1 := ((s.evRt t (24 + p) true x.h).laneCe t p errs).laneUe t p errs
  if x.dropping then s1.oweCredit key vn g
  else
    match x.h with
    | none => (s1.framing t p).oweCredit key vn g
    | some h =>
      if errs.vnBad && errs.ueWord != some 0 then (s1.framing t p).oweCredit key vn g
      else
        let f := repairBody h x.next f errs.ueWord
        let last := decide (h.len.toNat ≤ x.next)
        s1.modRt t (fun r => (r.setLane k (r.lane k ++ [⟨f, s.rtTime t, 0, false⟩])).setRx k
          { h := if last then none else some h, next := x.next + 1, dropping := false })

/-- ROUTER_BODY_ARRIVE: the body flit at the front of the link into port p of tile t enters its lane or is discarded (R131, R133, R134). -/
def execRouterBodyArrive (t : Fin 192) (p : Fin 6) (errs : LaneErrs) (s : State) : Outcome :=
  let key := t.val * 8 + p.val
  if !s.runs (tileIsland t) then .next s
  else
  match s.wireAt key with
  | .body g v q l sr tg b :: rest => .next ((s.setWire key rest).withFlip key (tileL0 t) errs (fun e s => s.bodyArrive t p (.body g v q l sr tg b) e))
  | _ => .next s

/-! ### Output arbitration -/

/-- A candidate of an output (R127): its input, VN and lane, whether it is a started body flit, and its PRI. -/
structure Cand where
  inp : Nat
  vn : Nat
  gt : Bool
  started : Bool
  pri : Nat
  deriving DecidableEq, Repr

/-- The rank of a candidate under rules 1 to 4 of R127; lower is better. -/
def Cand.rank (c : Cand) : Nat :=
  (if c.pri = 3 then 0 else 1000) + (if c.started then 0 else 100) + (3 - c.pri) * 10 + vnGroup c.vn

/-- The distance of a pair (input, VN) from a round-robin pointer over 48 pairs (R127 rule 5). -/
def rrDist (ptr inp vn : Nat) : Nat := (inp * 8 + vn + 64 - ptr % 64) % 64

/-- The candidate granted: the lowest rank, and within it the pair that the pointer of its group reaches first (R127). -/
def bestCand (ptr : Nat → Nat) (cs : List Cand) : Option Cand :=
  cs.foldl (fun a c =>
    match a with
    | none => some c
    | some b =>
      if c.rank < b.rank then some c
      else if c.rank = b.rank ∧ rrDist (ptr (vnGroup c.vn)) c.inp c.vn < rrDist (ptr (vnGroup b.vn)) b.inp b.vn then some c
      else some b) none

/-- Why a flit that wants an output may not go now. -/
inductive Block where
  | no | credit | gate | fence
  deriving DecidableEq, Repr

/-- What the front flit of a lane wants of output p: nothing, or a grant as a candidate, with what stops it (R127, R129). -/
def State.laneWant (s : State) (t p inp vn : Nat) (gt : Bool) : Option (Cand × Block) :=
  let r := s.rtAt t
  match r.lane (laneIx inp vn gt) with
  | [] => none
  | c :: _ =>
    let key := outKey t p
    let full := portCrosses t p && decide (8 ≤ (s.wireAt key).length)
    match c.f with
    | .head _ h _ =>
      if h.out = p then
        let cand : Cand := ⟨inp, vn, gt, false, h.pri.toNat⟩
        let need := if gt then 1 else min (h.len.toNat + 1) (sharedDepth vn)
        if (r.progAt p vn).isSome then none
        else if s.fenced t p || s.nbrOf t p == .paused then some (cand, .fence)
        else if s.credit key vn gt < need || full then some (cand, .credit)
        else if !s.gatePass t p h then some (cand, .gate)
        else some (cand, .no)
      else none
    | .body _ _ _ _ _ _ _ =>
      match r.progAt p vn with
      | some g =>
        if g.inp = inp ∧ g.gt = gt ∧ g.synth = false then
          let cand : Cand := ⟨inp, vn, gt, true, g.h.pri.toNat⟩
          if s.nbrOf t p = .paused ∨ (s.nbrOf t p = .asleep ∧ portFlag r.closing p = false) then some (cand, .fence)
          else if s.credit key vn gt < 1 || full then some (cand, .credit)
          else some (cand, .no)
        else none
      | none => none

/-- Every lane of the tile as seen by output p. -/
def State.outWants (s : State) (t p : Nat) : List (Cand × Block) :=
  (List.range 96).filterMap (fun k => s.laneWant t p (k / 16) (k % 16 / 2) (k % 2 == 1))

/-- A stamp of NI n for the record of a leaf-tagged head: its word 2 has FORM and LEAF_ID, its word 3 is given; the stamp queue holds 16 (R539, R540). -/
def State.pushStamp (s : State) (n form : Nat) (h : Hdr) (w3 : Nat) : State :=
  let p : Pkt := { h := { Hdr.zero with vn := 4, colour := 3, epoch := h.epoch, opcode := 4, src := BitVec.ofNat 8 n },
                   pl := lineOfWords [BitVec.ofNat 64 (form * 2 ^ 62 + h.leafId.toNat * 2 ^ 56 + h.src.toNat * 2 ^ 48), BitVec.ofNat 64 w3],
                   body := [] }
  if (s.niAt n).leaf.stamps.length < 16 then
    s.modNi n (fun u => { u with leaf := { u.leaf with stamps := u.leaf.stamps ++ [p] } })
  else s.bump (Off.NI_LEAF_CNT n) Fld.NI_LEAF_CNT.STAMP_DROPS

/-- The router stamp that a leaf-tagged head hands to the tile's L0 NI as it leaves (R539, R540). -/
def State.routerStamp (s : State) (t inp out : Nat) (h : Hdr) (c : Cell) : State :=
  if !h.leaf then s
  else
    let n := tileL0 t
    let now := s.rtTime t
    let w3 := t % 256 * 2 ^ 56 + inp * 2 ^ 53 + out * 2 ^ 50 + c.tin % 2 ^ 16 * 2 ^ 32 + min 65535 (now - c.tin) * 2 ^ 16 +
      min 65535 c.fence
    s.pushStamp n 1 h w3

/-- The router counters of a flit sent on output p (R550, R554). -/
def State.countSent (s : State) (t p vn pri : Nat) (head : Bool) (h : Hdr) (wasted : Bool) : State :=
  let s1 := s.evRt t (4 * p + b2n wasted) false none
  let s2 := if head then s1.evRt t (30 + p) true (some h) else s1
  let s3 := (s2.evRt t (36 + vn) true (some h)).evRt t (44 + pri) true (some h)
  if head && h.leaf then s3.evRt t 63 true (some h) else s3

/-- The granted flit leaves its lane, takes a credit, and is driven to the next unit; a head goes with its rewritten route word (R101, R124). -/
def State.grantOut (s : State) (t p : Nat) (c : Cand) : State :=
  let k := laneIx c.inp c.vn c.gt
  let r := s.rtAt t
  match r.lane k with
  | [] => s
  | cell :: rest =>
    let s1 := (s.modRt t (fun r => { r.setLane k rest with
      rr := KMap.set (fun _ => 0) r.rr (p * 4 + vnGroup c.vn) (c.inp * 8 + c.vn + 1) })).oweCells t c.inp c.vn c.gt [cell]
    let s2 := s1.useCredit (outKey t p) c.vn c.gt
    match cell.f with
    | .head g h pl =>
      let s3 := (s2.sendFlit (outKey t p) (.head g h.routed pl)).modRt t (fun r =>
        r.setProg p c.vn (if h.len.toNat = 0 then none else some ⟨c.inp, c.gt, h, 1, false⟩))
      (s3.countSent t p c.vn h.pri.toNat true h false).routerStamp t c.inp p h cell
    | .body g v q l sr tg b =>
      match r.progAt p c.vn with
      | none => s2
      | some pg =>
        let s3 := (s2.sendFlit (outKey t p) (.body g v q l sr tg b)).modRt t (fun r =>
          r.setProg p c.vn (if pg.h.len.toNat ≤ pg.next then none else some { pg with next := pg.next + 1 }))
        s3.countSent t p c.vn pg.h.pri.toNat false pg.h cell.synth

/-- An output toward a neighbour that still runs goes on completing a packet ended by a forced UNREACHABLE with synthesised body flits,
also after the force has been taken back (R143). -/
def State.synthOut (s : State) (t p : Nat) : Option State :=
  let r := s.rtAt t
  match (List.range 8).find? (fun v => match r.progAt p v with
      | some g => g.synth && decide (1 ≤ s.credit (outKey t p) v g.gt)
      | none => false) with
  | none => none
  | some v =>
    match r.progAt p v with
    | none => none
    | some g =>
      match synthFlits g.h g.next with
      | [] => some (s.modRt t (fun r => r.setProg p v none))
      | f :: more =>
        let s1 := ((s.useCredit (outKey t p) v g.gt).sendFlit (outKey t p) f).modRt t (fun r =>
          r.setProg p v (if more.isEmpty then none else some { g with next := g.next + 1 }))
        some (s1.countSent t p v g.h.pri.toNat false g.h true)

/-- Every packet at the front of a lane whose head requests an UNREACHABLE output is discarded (R143). -/
def State.dropUnreach (s : State) (t p : Nat) : State :=
  (List.range 96).foldl (fun s k =>
    let inp := k / 16
    let vn := k % 16 / 2
    let gt := k % 2 == 1
    match (s.rtAt t).lane k with
    | ⟨.head _ h _, _, _, _⟩ :: _ => if h.out = p then (s.dropFront t inp vn gt).fenceDiscard t p h else s
    | _ => s) s

/-- OUTPUT_ARBITRATION: one cycle of output p of tile t: the best candidate is granted, or the slot is accounted as starved
(R101, R125 to R129, R137 to R143, R554). -/
def execOutputArbitration (t : Fin 192) (p : Fin 6) (s : State) : Outcome :=
  if portEdge t p || !s.runs (tileIsland t) then .next s
  else if s.nbrOf t p = .unreach then
    let s1 := s.dropUnreach t p
    match s1.synthOut t p with
    | some s2 => .next s2
    | none => .next (s1.evRt t (4 * p + 2) false none)
  else
    let wants := s.outWants t p
    let s0 := if wants.any (fun w => !w.1.started && w.2 == .fence) then s.wakeAt t p else s
    let s1 := if wants.any (·.2 == .fence) then s0.evRt t (48 + p) false none else s0
    let s2 := if wants.any (·.2 == .gate) then s1.evRt t (54 + p) false none else s1
    let ptr := fun g => KMap.get (fun _ => 0) (s.rtAt t).rr (p.val * 4 + g)
    let held := s.nbrOf t p == .paused || (s.nbrOf t p == .asleep && !portFlag (s.rtAt t).closing p)
    match bestCand ptr ((wants.filter (·.2 == .no)).map (·.1)), (if held then none else s2.synthOut t p) with
    | some c, some s3 => .next (if c.pri = 3 then s2.grantOut t p c else s3)
    | some c, none => .next (s2.grantOut t p c)
    | none, some s3 => .next s3
    | none, none => .next (s2.evRt t (4 * p + (if wants.isEmpty then 2 else 3)) false none)

/-! ### Credits -/

/-- The wire key of a receiving port; an NI's receive side lies beyond the router inputs. -/
def LinkPort.key : LinkPort → Nat
  | .tile t p => t.val * 8 + p.val
  | .ni n => niKey n

/-- The island of a receiving port. -/
def LinkPort.island : LinkPort → Nat
  | .tile t _ => tileIsland t
  | .ni n => niIsland n

/-- The island of the sender toward a receiving port. -/
def LinkPort.sender : LinkPort → Nat
  | .tile t p => if p.val < 4 then tileIsland (portPeer t p) else tileIsland t
  | .ni n => niIsland n

/-- A stream crossing lies in the link into a receiving port (R79). -/
def LinkPort.crosses : LinkPort → Bool
  | .tile t p => portCrosses t p
  | .ni _ => false

/-- Credit words on the way back from a receiving port. -/
def State.creditWords (s : State) (key : Nat) : List (BitVec 24) := KMap.get (fun _ => []) s.cwire key

/-- CREDIT_WORD_SEND: a receiver returns what it owes in one credit word, at most three shared credits a lane, unless the pair is in reset or the
crossing's 8 entries are full, when it goes on accumulating (R76, R83, R112); a seam port returns its credits in the control field of flow
units instead (R114). -/
def execCreditWordSend (k : LinkPort) (s : State) : Outcome :=
  let key := k.key
  let seam := match k with
    | .tile t p => (portSeam t p).isSome
    | .ni _ => false
  let w := creditWord (fun v => (min 1 (s.owedAt key v true), min 3 (s.owedAt key v false)))
  if seam || w == 0 || !s.runs k.island || s.linkHeld key || (k.crosses && decide (8 ≤ (s.creditWords key).length)) then .next s
  else
    let s1 := (List.range 8).foldl (fun s v =>
      (s.setOwed key v true (s.owedAt key v true - min 1 (s.owedAt key v true))).setOwed key v false
        (s.owedAt key v false - min 3 (s.owedAt key v false))) s
    .next { s1 with cwire := KMap.set (fun _ => []) s1.cwire key (s1.creditWords key ++ [w]) }

/-- CREDIT_OVERFLOW: the sender toward a receiving port reports a return above the lane depth (R113, R119). -/
def State.creditOverflow (s : State) (k : LinkPort) (vn : Nat) : State :=
  match k with
  | .tile t p =>
    match portNi t p with
    | some n => s.reportNi n .CREDIT_OVERFLOW 0 vn
    | none =>
      let u := portPeer t p
      (s.setFld (Off.RT_ERR_STATUS u) Fld.RT_ERR_STATUS.CREDIT_OVERFLOW 1).reportRt u (portBack p) .CREDIT_OVERFLOW 15
  | .ni n =>
    let u := niTile n
    (s.setFld (Off.RT_ERR_STATUS u) Fld.RT_ERR_STATUS.CREDIT_OVERFLOW 1).reportRt u (niPort n) .CREDIT_OVERFLOW 15

/-- One lane's credits come back to its sender; a count never rises above the lane depth (R111, R113). -/
def State.returnCredit (s : State) (k : LinkPort) (vn : Nat) (gt : Bool) (c : Nat) : State :=
  let u := s.usedAt k.key vn gt
  let s1 := s.setUsed k.key vn gt (u - c)
  if u < c then s1.creditOverflow k vn else s1

/-- CREDIT_WORD_RECEIVE: the sender toward a receiving port adds the credits of the next credit word to its counts; while its clock is stopped
the crossing holds them (R76, R79, R111 to R113). -/
def execCreditWordReceive (k : LinkPort) (s : State) : Outcome :=
  match s.creditWords k.key with
  | [] => .next s
  | w :: rest =>
    if !s.runs k.sender || s.linkHeld k.key then .next s
    else
      let s1 := { s with cwire := KMap.set (fun _ => []) s.cwire k.key rest }
      .next ((List.range 8).foldl (fun s v => (s.returnCredit k v true (creditOf w v true)).returnCredit k v false (creditOf w v false)) s1)

/-! ### Neighbour states and fences -/

/-- An output becomes UNREACHABLE: packets in progress on it end at their inputs, and toward a neighbour that still runs they
are completed with synthesised flits; packets that request it are discarded (R143). -/
def State.goUnreach (s : State) (t p : Nat) (runs : Bool) : State :=
  let s0 := s.modRt t (fun r => { r with discRep := setPortFlag r.discRep p false })
  let s1 := (List.range 8).foldl (fun s v =>
    match (s.rtAt t).progAt p v with
    | none => s
    | some g =>
      if g.synth then s
      else
      let k := laneIx g.inp v g.gt
      let lane := (s.rtAt t).lane k
      let gone := lane.takeWhile (fun c => !c.f.isHead)
      let rest := lane.dropWhile (fun c => !c.f.isHead)
      let s1 := (s.modRt t (fun r => r.setLane k rest)).oweCells t g.inp v g.gt gone
      let s2 := if rest.isEmpty && ((s.rtAt t).laneRx k).h.isSome then
          s1.modRt t (fun r => r.setRx k { h := none, next := 1, dropping := true }) else s1
      (s2.modRt t (fun r => r.setProg p v (if runs then some { g with synth := true } else none))).fenceDiscard t p g.h) s0
  s1.dropUnreach t p

/-- The state with the time noted at which an output's wake fence begins to hold, if it does not hold yet (R140). -/
def State.noteFence (s : State) (t p : Nat) : State :=
  if s.fenced t p then s else s.modRt t (fun r => { r with fenceAt := KMap.set (fun _ => 0) r.fenceAt p (s.rtTime t) })

/-- Packets that an output was completing with synthesised flits end: the neighbour no longer runs (R143). -/
def State.dropSynth (s : State) (t p : Nat) : State :=
  (List.range 8).foldl (fun s v => match (s.rtAt t).progAt p v with
    | some g => if g.synth then s.modRt t (fun r => r.setProg p v none) else s
    | none => s) s

/-- Time at a wake fence is recorded for the heads that waited at an output when its fence opens: from the time the head entered its lane or the
fence began to hold, whichever is later (R129, R540). -/
def State.stampFence (s : State) (t p : Nat) : State :=
  let now := s.rtTime t
  let at' := KMap.get (fun _ => 0) (s.rtAt t).fenceAt p
  s.modRt t (fun r => { r with lanes := r.lanes.map (fun e =>
    match e.2 with
    | c :: cs =>
      match c.f with
      | .head _ h _ => if h.out = p then (e.1, { c with fence := c.fence + (now - max c.tin at') } :: cs) else e
      | _ => e
    | [] => e) })

/-- The value that an output last accepted from its value crossing (R77, R140). -/
def State.nbrTaken (s : State) (t p : Nat) : Nbr := (KMap.get (fun _ => none) (s.rtAt t).nbr p).getD (s.nbrFirst t p)

/-- An output accepts a neighbour state that differs from the one last accepted: ON opens the fence, ASLEEP holds it and waiting heads raise a wake request,
UNREACHABLE begins the discard; under RT_CTRL.FORCE_UNREACH the port is UNREACHABLE whatever it accepts (R77, R140 to R143). -/
def State.giveNbr (s : State) (t p : Nat) (st : Nbr) : State :=
  if portEdge t p || s.nbrTaken t p == st then s
  else
    let forced := (s.fld (Off.RT_CTRL t) Fld.RT_CTRL.FORCE_UNREACH).testBit p
    let s0 := if st = .asleep then s.noteFence t p else s
    let s1 := s0.modRt t (fun r => { r with nbr := KMap.set (fun _ => none) r.nbr p (some st) })
    match st with
    | .on => (if s.fenced t p then s1.stampFence t p else s1).modRt t (fun r =>
        { r with wakePend := setPortFlag r.wakePend p false, closing := setPortFlag r.closing p false,
                 closed := setPortFlag r.closed p false })
    | .asleep =>
      if (s1.outWants t p).any (fun w => !w.1.started) then s1.wakeAt t p else s1
    | .paused => s1
    | .unreach => if forced then s1.dropSynth t p else s1.goUnreach t p false

/-- The value that the Kettle sends to an output and that the output has not accepted yet (R77). -/
def State.nbrSentAt (s : State) (t p : Nat) : Option Nbr := KMap.get (fun _ => none) (s.rtAt t).nbrSent p

/-- An output accepts the value that waits in its value crossing. -/
def State.acceptNbr (s : State) (t p : Nat) : State :=
  match s.nbrSentAt t p with
  | some v => (s.modRt t (fun r => { r with nbrSent := KMap.set (fun _ => none) r.nbrSent p none })).giveNbr t p v
  | none => s

/-- The Kettle sends an output its neighbour's state. It holds each value for at least 8 of its cycles, so a value sent before has
been accepted by then (R76, R77). -/
def State.sendNbr (s : State) (t p : Nat) (st : Nbr) : State :=
  let s1 := s.acceptNbr t p
  if s1.nbrTaken t p = st then s1
  else s1.modRt t (fun r => { r with nbrSent := KMap.set (fun _ => none) r.nbrSent p (some st) })

/-- NEIGHBOUR_STATE_CHANGE: the receiving half of an output's value crossing samples the sent value in two consecutive cycles; it accepts
the value when both samples agree and differ from the value last accepted (R77, R140 to R143). -/
def execNeighbourStateChange (t : Fin 192) (p : Fin 6) (seen : Nbr × Nbr) (s : State) : Outcome :=
  if s.runs (tileIsland t) && seen.1 == seen.2 && s.nbrSentAt t p == some seen.1 then .next (s.acceptNbr t p) else .next s

/-- FENCE_CLOSED_REPORT: an output asked to close reports its fence closed once every VN is at a packet boundary and the
crossing toward the neighbour is empty (R141). -/
def execFenceClosedReport (t : Fin 192) (p : Fin 6) (s : State) : Outcome :=
  let r := s.rtAt t
  if portFlag r.closing p && (List.range 8).all (fun v => (r.progAt p v).isNone) && (s.wireAt (outKey t p)).isEmpty then
    let s1 := s.modRt t (fun r => { r with closing := setPortFlag r.closing p false, closed := setPortFlag r.closed p true })
    .next (s1.modDom (portDomain t p) (fun d => { d with closes := d.closes.filter (· != t.val * 8 + p.val) }))
  else .next s

/-- RT_FORCE_UNREACH_WRITE: ports newly forced become UNREACHABLE while their neighbours run; released ports return to the
state the Kettle last gave (R143). -/
def execRtForceUnreachWrite (t : Fin 192) (mask : BitVec 6) (s : State) : Outcome :=
  let was := List.map (fun p => s.nbrOf t p) (List.range 6)
  let s1 := s.setFld (Off.RT_CTRL t) Fld.RT_CTRL.FORCE_UNREACH mask.toNat
  .next ((List.range 6).foldl (fun s p =>
    if mask.getLsbD p && was[p]? != some Nbr.unreach then s.goUnreach t p true else s) s1)

/-! ### Gate windows -/

/-- The opening, in local time of 1/16 ft, of the GT window that opened last and is open at output p of tile t (R285). -/
def State.gtOpening (s : State) (t p : Nat) : Option Nat :=
  let now := s.local16 (tileIsland t)
  let nowf := now % frame16
  ((s.outWindows t p).filter (fun w => w.gt && windowOpen [w] nowf)).foldl (fun a w => some (max (a.getD 0) (now - nowf + w.opn))) none

/-- GATE_WINDOW_OPEN: a window opens at an output; a GT window that opens with a P0 to P2 packet in progress counts GATE_LATE, once for each opening and
reported once per time epoch. In modes CLOSED and NONE no window is applied (R67, R137, R139). -/
def execGateWindowOpen (t : Fin 192) (p : Fin 6) (s : State) : Outcome :=
  let r := s.rtAt t
  let m := s.outMode t p
  match s.gtOpening t p with
  | none => .next s
  | some o =>
    if !s.runs (tileIsland t) || m == .closed || m == .none || KMap.get (fun _ => 0) r.glSeen p.val == o + 1 then .next s
    else
      let s0 := s.modRt t (fun r => { r with glSeen := KMap.set (fun _ => 0) r.glSeen p.val (o + 1) })
      if (List.range 8).any (fun v => match r.progAt p v with
          | some g => !g.gt
          | none => false) then
        let s1 := (s0.bump (Off.RT_ERR_CNT t) Fld.RT_ERR_CNT.GATE_LATE).setFld (Off.RT_ERR_STATUS t) Fld.RT_ERR_STATUS.GATE_LATE 1
        let now := epochMark (s.rtTime t)
        if KMap.get (fun _ => 0) r.glEpoch p.val = now then .next (s1.occursRt t p .GATE_LATE 1)
        else .next ((s1.modRt t (fun r => { r with glEpoch := KMap.set (fun _ => 0) r.glEpoch p.val now })).reportRt t p .GATE_LATE 15)
      else .next s0

/-- GATE_UNION_END: at T + 256 ft a router's outputs drop the old windows (R290). -/
def execGateUnionEnd (t : Fin 192) (s : State) : Outcome :=
  match (s.rtAt t).unionOld with
  | some (_, T) => if T + 256 ≤ s.rtTime t then .next (s.modRt t (fun r => { r with unionOld := none })) else .next s
  | none => .next s

/-! ### Queue histograms -/

/-- The depth bin of a flit count (R303). -/
def depthBin (d : Nat) : Nat := if d ≤ 4 then d else if d ≤ 6 then 5 else if d ≤ 8 then 6 else 7
/-- The age bin of an age in ft (R303). -/
def ageBin (a : Nat) : Nat :=
  if a < 4 then 0 else if a < 16 then 1 else if a < 64 then 2 else if a < 256 then 3 else if a < 1024 then 4
  else if a < 4096 then 5 else if a < 16384 then 6 else 7

/-- A histogram after a sample: its depth, and its front flit's age when it is not empty (R303). -/
def Hist.sample (h : Hist) (depth : Nat) (age : Option Nat) : Hist :=
  let b1 := h.bins.modify (depthBin depth) (satInc (2 ^ 32 - 1))
  match age with
  | none => { h with bins := b1, samples := satInc (2 ^ 32 - 1) h.samples }
  | some a => { bins := b1.modify (8 + ageBin a) (satInc (2 ^ 32 - 1)), samples := satInc (2 ^ 32 - 1) h.samples,
                maxAge := max h.maxAge (min a (2 ^ 32 - 1)) }

/-- A queue's histogram. -/
def histAt (m : KMap Hist) (q : Nat) : Hist := KMap.get (fun _ => Hist.zero) m q

/-- The bins, sample count and largest age of a histogram are copied to eight data registers and an info register (R304). -/
def State.copyHist (s : State) (data : Nat → Nat) (info : Nat) (h : Hist) : State :=
  let bin := fun k => h.bins.getD k 0
  let s1 := (List.range 4).foldl (fun s k =>
    (s.wr (data k) (BitVec.ofNat 64 (bin (2 * k + 1) * 2 ^ 32 + bin (2 * k)))).wr (data (k + 4))
      (BitVec.ofNat 64 (bin (8 + 2 * k + 1) * 2 ^ 32 + bin (8 + 2 * k)))) s
  s1.wr info (BitVec.ofNat 64 (h.samples * 2 ^ 32 + h.maxAge))

/-- A router's selected queue is copied (R304). -/
def State.selectRt (s : State) (t q : Nat) : State :=
  (s.setFld (Off.RT_HIST_SEL t) Fld.RT_HIST_SEL.QUEUE q).copyHist (Off.RT_HIST_DATA t) (Off.RT_HIST_INFO t) (histAt (s.rtAt t).hist q)

/-- RT_HIST_SELECT (R304). -/
def execRtHistSelect (t : Fin 192) (q : BitVec 6) (s : State) : Outcome := .next (s.selectRt t q.toNat)

/-- RT_HIST_CLEAR: the selected queue's bins are cleared after the copy (R304). -/
def execRtHistClear (t : Fin 192) (q : BitVec 6) (s : State) : Outcome :=
  .next ((s.selectRt t q.toNat).modRt t (fun r => { r with hist := KMap.set (fun _ => Hist.zero) r.hist q.toNat Hist.zero }))

/-- RT_HIST_CLEAR_ALL: the selected queue is copied and every histogram of the tile cleared (R304). -/
def execRtHistClearAll (t : Fin 192) (s : State) : Outcome :=
  .next ((s.selectRt t (s.fld (Off.RT_HIST_SEL t) Fld.RT_HIST_SEL.QUEUE)).modRt t (fun r => { r with hist := [] }))

/-- An NI's selected queue is copied (R304). -/
def State.selectNi (s : State) (n q : Nat) : State :=
  (s.setFld (Off.NI_HIST_SEL n) Fld.NI_HIST_SEL.QUEUE q).copyHist (Off.NI_HIST_DATA n) (Off.NI_HIST_INFO n)
    (if 5 ≤ q ∧ q ≤ 7 then Hist.zero else histAt (s.niAt n).hist q)

/-- NI_HIST_SELECT (R304). -/
def execNiHistSelect (n : Fin 256) (q : BitVec 4) (s : State) : Outcome := .next (s.selectNi n q.toNat)

/-- NI_HIST_CLEAR (R304). -/
def execNiHistClear (n : Fin 256) (q : BitVec 4) (s : State) : Outcome :=
  .next ((s.selectNi n q.toNat).modNi n (fun u => { u with hist := KMap.set (fun _ => Hist.zero) u.hist q.toNat Hist.zero }))

/-- NI_HIST_CLEAR_ALL (R304). -/
def execNiHistClearAll (n : Fin 256) (s : State) : Outcome :=
  .next ((s.selectNi n (s.fld (Off.NI_HIST_SEL n) Fld.NI_HIST_SEL.QUEUE)).modNi n (fun u => { u with hist := [] }))

/-- The depth of a lane pair and the age of its oldest front flit. -/
def cellsDepth (now : Nat) (ls : List (List Cell)) : Nat × Option Nat :=
  (ls.foldl (fun a l => a + l.length) 0,
   ls.foldl (fun a l => match l with
     | [] => a
     | c :: _ => some (max (a.getD 0) (now - c.tin))) none)

/-- The depth in flits of an injection queue, the flits still to go of a packet in progress from it included, and the age of its front packet. -/
def Ni.qDepth (u : Ni) (now : Nat) (codes : List Nat) (q : List QPkt) : Nat × Option Nat :=
  let going := (u.inj.filter (fun e => codes.contains e.2.2.2)).map (·.2)
  (q.foldl (fun a e => a + e.p.h.len.toNat + 1) (going.foldl (fun a e => a + e.1.length) 0),
    (going.map (·.2.1) ++ q).foldl (fun a e => some (max (a.getD 0) (now - e.tin))) none)

/-- The observed queues of an NI: 0 MGT, 1 P3, 2 P2, 3 P1, 4 P0, 8 + v the receive buffers (R303). -/
def Ni.queueDepth (u : Ni) (now q : Nat) : Nat × Option Nat :=
  if q = 0 then u.qDepth now [0] u.mgt
  else if q = 1 then u.qDepth now [1, 5] (u.flows.foldl (fun a f => a ++ f.2.q) [])
  else if q = 2 then u.qDepth now [2] u.p2
  else if q = 3 then u.qDepth now [3] u.p1
  else if q = 4 then u.qDepth now [4] u.p0
  else cellsDepth now [KMap.get (fun _ => []) u.rx ((q - 8) * 2), KMap.get (fun _ => []) u.rx ((q - 8) * 2 + 1)]

/-- QUEUE_SAMPLE: a unit samples the depth and age of all its queues (R303). -/
def execQueueSample (u : SampleUnit) (s : State) : Outcome :=
  match u with
  | .router t =>
    if s.runs (tileIsland t) then
      let now := s.rtTime t
      .next (s.modRt t (fun r => { r with hist := (List.range 48).foldl (fun m q =>
        let (d, a) := cellsDepth now [r.lane (laneIx (q / 8) (q % 8) false), r.lane (laneIx (q / 8) (q % 8) true)]
        KMap.set (fun _ => Hist.zero) m q ((histAt m q).sample d a)) r.hist }))
    else .next s
  | .ni n =>
    if s.runs (niIsland n) then
      let now := s.niTime n
      .next (s.modNi n (fun u => { u with hist := ([0, 1, 2, 3, 4] ++ (List.range 8).map (· + 8)).foldl (fun m q =>
        let (d, a) := u.queueDepth now q
        KMap.set (fun _ => Hist.zero) m q ((histAt m q).sample d a)) u.hist }))
    else .next s

end Sys2Proof.Machine
end

