-- ==== Sys2Proof/Machine/Lookup.lean ====
section
/-! DEFINITION. The lookups of an NI's loaded tables: epochs, address map, route table, Destination Group Table, flows, and the
Strainer's check (R156 to R167, R281, R320, R325, R429 to R432, R524). -/
namespace Sys2Proof.Machine

/-! ### Registers of an NI -/

/-- The NI's effective fence (R188). -/
def State.niFenced (s : State) (n : Nat) : Bool := s.flag (Off.NI_CTRL n) Fld.NI_CTRL.FENCE_SW || (s.niAt n).fenceHw

/-- True where a valid NI_AFENCE entry matches an agent (R189). -/
def State.agentFenced (s : State) (n agent : Nat) : Bool :=
  (List.range 4).any (fun k =>
    let w := s.rd (Off.NI_AFENCE n k)
    bit w 63 && (agent &&& bits w 12 12) == (bits w 0 12 &&& bits w 12 12))

/-- The loss vector in force (R161, R163). -/
def State.loss (s : State) (n : Nat) : W64 := s.rd (Off.NI_LOSS n)

/-- Contract priority of a VN (R278). -/
def State.priMap (s : State) (n vn : Nat) : Nat := if vn = 7 then 2 else bits (s.rd (Off.NI_PRI_MAP n)) (2 * vn) 2

/-! ### Tables -/

/-- True while an entry of a table is unusable, because a word of it was found uncorrectable (R524). -/
def State.entryBad (s : State) (n bank sec part base count : Nat) : Bool :=
  (List.range count).any (fun k => KMap.get (fun _ => false) s.tabBad (tabKey n bank sec part (base + k)))

/-- A unit reports a corrected table word once per time epoch, and an uncorrectable one once per word, whose entry becomes
unusable (R523, R524). -/
def State.tableErr (s : State) (n bank : Nat) (e : ReadErr) : State :=
  let s1 :=
    if e.ce then
      (if (s.niAt n).tableCeEpoch != epochMark (s.niTime n) then
        (s.modNi n (fun u => { u with tableCeEpoch := epochMark (s.niTime n) })).reportNi n .TABLE_CE 0 0
      else s.occursNi n .TABLE_CE 0 0 1)
    else s
  match e.ue with
  | none => s1
  | some (sec, part, idx) =>
    let k := tabKey n bank sec.toNat part.toNat idx.toNat
    if KMap.get (fun _ => false) s1.tabBad k then s1
    else ({ s1 with tabBad := KMap.set (fun _ => false) s1.tabBad k true }).reportNi n .TABLE_UE sec.toNat 0

/-- The bank in which a lookup for an EPOCH runs; an EPOCH that is neither active nor draining is reported once per time epoch (R325). -/
def State.staleCheck (s : State) (n epoch : Nat) : State :=
  if (s.bankOf n epoch).2 then
    (if (s.niAt n).ep.staleEpoch != epochMark (s.niTime n) then
      (s.modNi n (fun u => { u with ep := { u.ep with staleEpoch := epochMark (s.niTime n) } })).reportNi n .EPOCH_STALE epoch 0
    else s.occursNi n .EPOCH_STALE epoch 0 1)
  else s

/-! ### Route selection -/

/-- Word w of the route table entry for a destination (R160). -/
def State.routeW (s : State) (n bank dest w : Nat) : W64 := s.tabW n bank Sec.ROUTE 0 (dest * 8 + w)

/-- Route word r of an entry (R160). -/
def State.routeWord (s : State) (n bank dest r : Nat) : BitVec 24 :=
  let w := s.routeW n bank dest (r / 2)
  if r % 2 = 0 then w.extractLsb' 40 24 else w.extractLsb' 16 24

/-- Route r of an entry is present and its uses mask avoids the loss vector (R161). -/
def State.routeUsable (s : State) (n bank dest r : Nat) : Bool :=
  !s.entryBad n bank Sec.ROUTE 0 (dest * 8) 8 && bit (s.routeW n bank dest 0) (12 + r) &&
    (s.routeW n bank dest (2 + r) &&& s.loss n) == 0

/-- The route that R161 selects, if there is one. -/
def State.selectRoute (s : State) (n bank dest : Nat) : Option (Nat × BitVec 24) :=
  match (List.range 4).find? (fun r => s.routeUsable n bank dest r) with
  | some r => some (r, s.routeWord n bank dest r)
  | none => none

/-- The boot route from one NI to another: E or W to the destination's column, then N or S to its row, and out at its port (R576). -/
def bootRoute (src dest : Nat) : BitVec 24 :=
  let a := niTile src
  let b := niTile dest
  let dx := tileX b - tileX a + (tileX a - tileX b)
  let dy := tileY b - tileY a + (tileY a - tileY b)
  let ew := if tileX a ≤ tileX b then 1 else 3
  let ns := if tileY a ≤ tileY b then 2 else 0
  let ns := if dy = 0 then 0 else ns
  let ex := niPort dest - 4
  if dx = 0 then (Route.mk ns dy 0 0 0 0 ex true).word else (Route.mk ew dx ns dy 0 0 ex true).word

/-- Route selection with R602: no route is consulted where the destination is the NI itself. -/
def State.routeTo (s : State) (n bank dest : Nat) : Option (Nat × BitVec 24) :=
  if dest = n then some (0, 0)
  else if (s.niAt n).ep.boot then some (0, bootRoute n dest)
  else s.selectRoute n bank dest

/-- Step 4 fails: counted, and reported once for each destination after each commit of the route selection group (R149, R190). -/
def State.noRoute (s : State) (n dest vn : Nat) : State :=
  let s1 := (s.bump (Off.NI_ROUTE_CNT n) Fld.NI_ROUTE_CNT.NO_ROUTE).setFld (Off.NI_ERR_STATUS n) Fld.NI_ERR_STATUS.NO_ROUTE 1
  if (s.niAt n).noRoute.contains dest then s1.occursNi n .NO_ROUTE dest vn 1
  else (s1.modNi n (fun u => { u with noRoute := dest :: u.noRoute })).reportNi n .NO_ROUTE dest vn

/-! ### Destination decode -/

/-- The owning NI of a configuration window offset (R159). -/
def cfgOwner (o : Nat) : Nat :=
  if o < 0x100000 then 248 else if o < 0x200000 then 251 else if o < 0x300000 then 252 else if o < 0x380000 then 249
  else if o < 0x400000 then 250 else if o < 0x800000 then 254
  else if o < 0xB00000 then tileL0 ((o - 0x800000) / 0x4000)
  else if 0xC00000 ≤ o ∧ o < 0xE00000 then (o - 0xC00000) / 0x2000
  else if 0xE00000 ≤ o ∧ o < 0xF00000 then 232 + (o - 0xE00000) / 0x10000
  else if 0x1000000 ≤ o ∧ o < 0x10C0000 then tileL0 ((o - 0x1000000) / 0x1000)
  else if 0x1400000 ≤ o ∧ o < 0x1500000 then (o - 0x1400000) / 0x1000
  else if 0x1800000 ≤ o ∧ o < 0x1840000 then 232 + (o - 0x1800000) / 0x4000
  else if 0x2000000 ≤ o ∧ o < 0x20E0000 then
    let k := (o - 0x2000000) / 0x8000
    if k < 12 then tileL0 (tileAt k 7) else 16 + (k - 12)
  else 248

/-- h of R158: the exclusive-OR of the twelve 4-bit digits of LINE. -/
def lineHash (line : Nat) : Nat := (List.range 12).foldl (fun a k => a ^^^ nbits line (4 * k) 4) 0

/-- The m-th set bit of a mask counted from bit 0. -/
def nthSet (mask m : Nat) : Nat := ((List.range 16).filter (fun b => mask.testBit b)).getD m 0

/-- Set bits of a 16-bit mask. -/
def maskCount (mask : Nat) : Nat := ((List.range 16).filter (fun b => mask.testBit b)).length

/-- The home slice of a line under a SLICE_MASK (R158). -/
def homeSlice (line mask : Nat) : Nat :=
  let h := lineHash line
  if mask = 0xFFFF then h else nthSet mask (h % max 1 (maskCount mask))

/-- Address map windows and memory map windows share KIND or VALID in the top bits, SIZE_LOG2 and BASE: whether one covers a line (R156, R234). -/
def windowCovers (w : W64) (line : Nat) : Bool :=
  let sz := bits w 54 6
  (bits w 12 40 * 2 ^ 12) / 2 ^ sz == line * 64 / 2 ^ sz

/-- The address map window of a bank that covers a line: its two words (R156, R157). -/
def State.mapWindow (s : State) (n bank line : Nat) : Option (W64 × W64) :=
  match (List.range 64).find? (fun k =>
      let w := s.tabW n bank Sec.ADDRMAP 0 (2 * k)
      let kd := bits w 60 4
      decide (1 ≤ kd ∧ kd ≤ 4) && windowCovers w line && !s.entryBad n bank Sec.ADDRMAP 0 (2 * k) 2) with
  | some k => some (s.tabW n bank Sec.ADDRMAP 0 (2 * k), s.tabW n bank Sec.ADDRMAP 0 (2 * k + 1))
  | none => none

/-- What the address map makes of a request: a destination, a miss, or a write refused with ERR_ACCESS at a CFG window (R157, R597). -/
inductive Decoded where
  | to (dest : Nat)
  | miss
  | debugWrite
  deriving DecidableEq, Repr

/-- Destination decode by the address map (R157, R159, R597), and the boot decode of NI 248 (R576). -/
def State.decodeMap (s : State) (n bank vn opcode line : Nat) : Decoded :=
  if n = 248 ∧ (s.niAt n).ep.boot = true then
    let a := line * 64
    if nbit a 51 then .to 254
    else if nbits a 26 25 = 0 then (if vn = Vn.ION then .to (cfgOwner (a % 2 ^ 26)) else .miss)
    else .miss
  else
  match s.mapWindow n bank line with
  | none => .miss
  | some (w0, w1) =>
    let kd := bits w0 60 4
    if kd = 1 ∨ kd = 2 then (if vn = Vn.REQ then .to (sliceNi (homeSlice line (bits w1 48 16))) else .miss)
    else if kd = 3 then (if vn = Vn.IOP ∨ vn = Vn.ION then .to (bits w1 40 8) else .miss)
    else
      let own := cfgOwner ((line * 64) % 2 ^ 26)
      if n = 248 then (if vn = Vn.ION then .to own else .miss)
      else if s.pins.debugEn && niType n == .cpa && vn != Vn.REQ then
        (if vn = Vn.ION ∧ opcode = 1 then .to own else if vn = Vn.ION then .debugWrite else .miss)
      else .miss

/-- The PEA list of an endpoint under the Destination Group Table; none where the entry is invalid (R166, R167). -/
def State.peaList (s : State) (n bank e : Nat) : Option (List Nat) :=
  let gi := e / 256
  let g := s.tabW n bank Sec.DGT 0 gi
  let mode := bits g 62 2
  let base := (List.range 4).filterMap (fun k => if bit g (24 + k) then some (bits g (18 - 6 * k) 6) else none)
  if s.entryBad n bank Sec.DGT 0 gi 1 then none
  else if mode = 1 then some base
  else if mode = 2 then
    let at' := 4096 + bits g 48 6 * 32 + e % 256 / 8
    let b := bits (s.tabW n bank Sec.DGT 0 at') (8 * (e % 8)) 8
    if s.entryBad n bank Sec.DGT 0 at' 1 then none
    else if b / 128 = 1 then some (b % 64 :: base.filter (· != b % 64)) else none
  else none

/-- The first port engine of a list that is not down and has a route, with its place (R167). -/
def State.pickPea (s : State) (n bank : Nat) (l : List Nat) : Option (Nat × Nat) :=
  match (List.range l.length).find? (fun k =>
      let p := l.getD k 0
      !bit (s.rd (Off.NI_PEA_DOWN n)) p && (s.routeTo n bank (168 + p)).isSome) with
  | some k => some (k, 168 + l.getD k 0)
  | none => none

/-- Base of the IO window of a size that leads to a target in NI n's active address map, if it has one (R157, R455, R567). -/
def State.ioWindowOf (s : State) (n target size : Nat) : Option Nat :=
  let b := (s.niAt n).ep.bank
  (List.range 64).findSome? (fun k =>
    let w0 := s.tabW n b Sec.ADDRMAP 0 (2 * k)
    if bits w0 60 4 = 3 ∧ bits w0 54 6 = size ∧ bits (s.tabW n b Sec.ADDRMAP 0 (2 * k + 1)) 40 8 = target then some (bits w0 12 40 * 2 ^ 12) else none)

/-! ### Guaranteed-time flows -/

/-- Entry f of the active injection gate list; an unusable entry reads as unused (R281, R524). -/
def State.injEntry (s : State) (n f : Nat) : W64 :=
  let b := (s.niAt n).ep.bank
  if s.entryBad n b Sec.INJGATE 0 f 1 then 0 else s.tabW n b Sec.INJGATE 0 f

/-- True where entry f is a GT flow (R281). -/
def State.isFlow (s : State) (n f : Nat) : Bool := bits (s.injEntry n f) 62 2 == 1

/-- The GT flow of an NI that matches a destination and VN (R282). -/
def State.flowOf (s : State) (n dest vn : Nat) : Option Nat :=
  (List.range 32).find? (fun f => s.isFlow n f && bits (s.injEntry n f) 40 8 == dest && bits (s.injEntry n f) 50 3 == vn)

/-- ROUTE_0 of a destination is usable in the active bank (R165, R284). -/
def State.route0Ok (s : State) (n bank dest : Nat) : Bool := dest == n || s.routeUsable n bank dest 0

/-! ### The Strainer's check -/

/-- What a request is checked as under R429: read, write; none where it is not checked. -/
def checkedAs (vn opcode : Nat) : Option (Bool × Bool) :=
  if vn = Vn.REQ then
    (if opcode = 1 ∨ opcode = 4 then some (true, false)
     else if opcode = 2 ∨ opcode = 3 ∨ opcode = 5 then some (false, true)
     else if opcode = 9 then some (true, true) else none)
  else if vn = Vn.ION then (if opcode = 1 ∨ opcode = 3 then some (true, false) else some (false, true))
  else if vn = Vn.IOP then some (false, true)
  else none

/-- Outcome of step 2: pass, pass through the default map, or a failure with its REASON code (R430, R431). -/
inductive StrainerVerdict where
  | pass | byDefault | noMatch | pattern
  deriving DecidableEq, Repr

/-- The valid region entries listed in a shadow bank: index and word 0 (R426, R427). -/
def State.shadowRegions (s : State) (n bank : Nat) : List (Nat × W64) :=
  let lo := tabKey n bank Sec.SHADOW 0 0
  (s.tab.filter (fun e => decide (lo ≤ e.1 ∧ e.1 < lo + 8192 ∧ (e.1 - lo) % 2 = 0) && bit e.2 63)).map (fun e => ((e.1 - lo) / 2, e.2))

/-- A pattern allows an agent the accesses asked for (R427, R430). -/
def patternAllows (p agent : Nat) (rd wr : Bool) : Bool :=
  nbit p 31 && (agent &&& nbits p 12 12) == (nbits p 0 12 &&& nbits p 12 12) && (!rd || nbit p 30) && (!wr || nbit p 29)

/-- The default map of R432 covers an address presented at NI n. -/
def State.inDefaultMap (s : State) (n addr : Nat) : Bool :=
  let c := s.rd Off.ST_DEFMAP_CFG
  let b := s.rd Off.ST_DEFMAP_BOOT
  if !bit c 63 then n == 248
  else addr / 2 ^ 26 == bits c 26 26 || (bit b 63 && windowCovers b (addr / 64))

/-- Step 2's check of a request against the shadow of a bank (R430, R431). -/
def State.strainer (s : State) (n bank vn opcode agent : Nat) (priv : Bool) (line : Nat) : StrainerVerdict :=
  match checkedAs vn opcode with
  | none => .pass
  | some (rd, wr) =>
    match (s.shadowRegions n bank).find? (fun e => windowCovers e.2 line) with
    | some (k, _) =>
      let w := (s.tabW n bank Sec.SHADOW 0 (2 * k + 1)).toNat
      if patternAllows (w % 2 ^ 32) agent rd wr || patternAllows (w / 2 ^ 32) agent rd wr then .pass else .pattern
    | none =>
      let mode := s.fld Off.ST_CTRL Fld.ST_CTRL.MODE
      if mode != 0 && priv && s.inDefaultMap n (line * 64) then .byDefault else .noMatch

end Sys2Proof.Machine
end

