-- ==== Sys2Proof/Machine/NetIf.lean ====
section
/-! DEFINITION. The shared operations of a network interface: local completions, splitting, tags, queues, shapers, leaf sampling and
the admission pipeline (R149 to R190, R229, R277 to R299, R433 to R439, R538). -/
namespace Sys2Proof.Machine

/-! ### Requests and pieces -/

/-- True for a write transfer: PWR, NWR and NWRX (R169). -/
def Req.isWrite (r : Req) : Bool := (r.vn == Vn.IOP && r.opcode == 1) || (r.vn == Vn.ION && (r.opcode == 2 || r.opcode == 4))
/-- True for a read transfer: NRD and NRDX (R105, R169). -/
def Req.isRead (r : Req) : Bool := r.vn == Vn.ION && (r.opcode == 1 || r.opcode == 3)
/-- True for a posted request, which holds no tag (chapter 5, The tag tracker). -/
def Req.posted (r : Req) : Bool := r.vn == Vn.IOP
/-- True for the writes that end with WRGO: WRI and WBM (R208). -/
def Req.cohWrite (r : Req) : Bool := r.vn == Vn.REQ && (r.opcode == 5 || r.opcode == 6)

/-- The splitting of R169; a line of which a write enables no byte is in no packet, for a body flit with BE = 0 would be malformed (R104). -/
def splitPieces (write : Bool) : Nat → Nat → Nat → List Body → List Piece
  | 0, _, _, _ => []
  | _ + 1, _, _, [] => []
  | f + 1, k, line, b :: bs =>
    if write && b.be == 0 then splitPieces write f k (line + 1) bs
    else
      let whole := b.be == allBytes
      let run := if write then (bs.takeWhile (fun b => b.be != 0)).length + 1 else bs.length + 1
      let n := min (4 - line % 4) (min run (if write && !whole then 3 else 4))
      ⟨k, line, (b :: bs).take n, write && whole⟩ :: splitPieces write f (k + 1) (line + n) ((b :: bs).drop n)

/-- The packets that step 6 makes of a request: the pieces of a transfer, of which a masked read with an all-zero mask is none, or the one packet of
anything else (R105, R169). -/
def Req.pieces (r : Req) : List Piece :=
  if r.isWrite || r.isRead then
    (splitPieces r.isWrite r.data.length 0 r.line r.data).filter (fun p => r.isWrite || p.data.any (fun b => b.be != 0))
  else [⟨0, r.line, r.data, false⟩]

/-- Flits of a piece's packet (R103, R107). -/
def Req.pieceFlits (r : Req) (p : Piece) : Nat :=
  if r.vn == Vn.REQ || r.isRead then 1 else if p.hdata then p.data.length else p.data.length + 1

/-- Flits of all the packets of a request (R297). -/
def Req.flits (r : Req) : Nat := r.pieces.foldl (fun a p => a + r.pieceFlits p) 0

/-- Transmit lines a piece holds: its write data (R174, R186). -/
def Req.txLines (r : Req) (p : Piece) : Nat := if r.isRead then 0 else p.data.length

/-- Receive lines reserved for the largest response (R174). -/
def Req.rxLines (r : Req) (p : Piece) : Nat :=
  if r.isRead then (p.data.filter (fun b => b.be != 0)).length
  else if r.vn == Vn.REQ && (r.opcode ≤ 4 || r.opcode == 9) then 1 else 0

/-! ### Local completions -/

/-- An NI presents a completion at its interface or to its unit (R150, R170, R175). -/
def State.present (s : State) (n : Nat) (c : Completion) (h : Option Hdr) : State :=
  (s.modNi n (fun u => { u with comps := u.comps ++ [c] })).evNi n 5 true h

/-- MSG of a synthesised completion: EXFAIL = 1 for NWRX (R108, R180). -/
def synthMsg (vn opcode : Nat) : Nat := if vn = Vn.ION ∧ opcode = 4 then 2 ^ 33 else 0

/-- The attributes of a request for the event counters (R553). -/
def Req.attrs (r : Req) : Hdr :=
  { Hdr.zero with vn := BitVec.ofNat 3 r.vn, priv := r.priv, agent := BitVec.ofNat 12 r.agent, mid := BitVec.ofNat 46 r.line }

/-- The VN of a completion: RSP for a coherent request, IOC for one of ION (R180, R202). -/
def answerVn (vn : Nat) : Nat := if vn = Vn.REQ then Vn.RSP else Vn.IOC

/-- A non-posted request that fails a step is completed locally with the RESP the step names (R149, R150, R180). -/
def State.localDone (s : State) (n : Nat) (r : Req) (epoch resp : Nat) : State :=
  (s.evNi n 11 true (some r.attrs)).present n
    { ident := r.ident, vn := r.vn, opcode := r.opcode, agent := r.agent, line := r.line, resp := resp,
      msg := synthMsg r.vn r.opcode, lines := [], dest := n, tag := 0, epoch := epoch,
      priv := r.priv, origin := r.origin, synth := true, pri := s.priMap n (answerVn r.vn) } (some r.attrs)

/-- A posted request that admission discards: an inbound write of the E5LB is reported as SB_INB_FAIL, an interrupt
of the Pot as PT_IRQ_ERR; a leaf record is counted (R149, R411, R461, R541). -/
def State.discardReq (s : State) (n : Nat) (r : Req) : State :=
  if n = 255 ∧ r.ident = 65536 then
    (s.setFld Off.SB_ERR_STATUS Fld.SB_ERR_STATUS.INB_FAIL 1).reportAt 255 5 .SB_INB_FAIL 0 r.agent r.line
  else if n = 248 ∧ 0x45000 ≤ r.ident ∧ r.ident < 0x47000 then s.report 248 5 .PT_IRQ_ERR (r.ident % 256)
  else if r.vn = Vn.IOP ∧ r.opcode = 4 then s.bump (Off.NI_LEAF_CNT n) Fld.NI_LEAF_CNT.STAMP_DROPS
  else s

/-- A request fails a step: completed locally, or discarded when posted (R149). -/
def State.failReq (s : State) (n : Nat) (r : Req) (epoch resp : Nat) : State :=
  if r.posted then s.discardReq n r else s.localDone n r epoch resp

/-- A request fails step 1: ERR_FENCED, or discarded and counted (R149, R188). -/
def State.failFence (s : State) (n : Nat) (r : Req) : State :=
  if r.posted then (s.bump (Off.NI_ERR_CNT n) Fld.NI_ERR_CNT.FENCE_DROPS).discardReq n r
  else s.localDone n r (s.niAt n).ep.epoch Resp.ERR_FENCED

/-! ### Shapers -/

/-- A shaper of an NI. -/
def Ni.shaper (u : Ni) (p : Nat) : Shaper := KMap.get (fun _ => Shaper.zero) u.shapers p
/-- The NI with a shaper replaced. -/
def Ni.setShaper (u : Ni) (p : Nat) (x : Shaper) : Ni := { u with shapers := KMap.set (fun _ => Shaper.zero) u.shapers p x }
/-- A flow queue. -/
def Ni.flow (u : Ni) (f : Nat) : Flow := KMap.get (fun _ => Flow.zero) u.flows f
/-- The NI with a flow queue replaced. -/
def Ni.setFlow (u : Ni) (f : Nat) (x : Flow) : Ni := { u with flows := KMap.set (fun _ => Flow.zero) u.flows f x }
/-- The head packet of a flow is a candidate: due, or left over from a changed entry (R283, R290). -/
def Flow.ready (f : Flow) : Bool := (f.due || decide (0 < f.orphans)) && !f.q.isEmpty
/-- The head packet of a flow queue. -/
def Flow.head (f : Flow) : Option QPkt := f.q.head?

/-- Queue codes of the injection arbiter: 0 MGT, 1 due P3 packets, 2 P2, 3 P1, 4 P0, 5 due P2 packets of flows (R279, R294). -/
def queueShaper (q : Nat) : Option Nat := if q = 2 then some 2 else if q = 3 then some 1 else if q = 4 then some 0 else if q = 5 then some 3 else none

/-- True while a shaper's queue holds a packet: one waiting or one whose flits are still being sent (R293, R294). -/
def Ni.shaperBusy (u : Ni) (p : Nat) : Bool :=
  let waits := if p = 3 then u.flows.any (fun e => e.2.ready && (match e.2.head with
      | some q => q.p.h.pri.toNat == 2
      | none => false))
    else if p = 2 then !u.p2.isEmpty else if p = 1 then !u.p1.isEmpty else !u.p0.isEmpty
  waits || u.inj.any (fun e => queueShaper e.2.2.2 == some p)

/-- Busy time of a shaper counted up to now (R293). -/
def Shaper.touch (x : Shaper) (busy : Bool) (now : Nat) : Shaper :=
  { x with busy := if busy || decide (x.c < 0) then x.busy + (now - x.mark) else x.busy, mark := max x.mark now }

/-- Busy times of an NI's shapers counted up to a local time (R293). -/
def State.touchShapersAt (s : State) (n now : Nat) : State :=
  s.modNi n (fun u => (List.range 4).foldl (fun v p => v.setShaper p ((v.shaper p).touch (u.shaperBusy p) now)) u)

/-- Busy times of an NI's shapers counted up to now, before a queue changes (R293). -/
def State.touchShapers (s : State) (n : Nat) : State := s.touchShapersAt n (s.niTime n)

/-- NI_SHAPER_CFG of a shaper. -/
def State.shaperCfg (s : State) (n p : Nat) : W64 := s.rd (Off.NI_SHAPER_CFG n p)
/-- Upper limit of C in cu (R293). -/
def shaperHi (w : W64) : Int := signed 16 (bits w 16 16) * 256
/-- Lower limit of C in cu (R293). -/
def shaperLo (w : W64) : Int := signed 16 (bits w 0 16) * 256
/-- A shaper holds its queue: EN = 1 and C below zero (R293). -/
def State.shaperHolds (s : State) (n p : Nat) : Bool := bit (s.shaperCfg n p) 63 && decide (((s.niAt n).shaper p).c < 0)

/-- A flit sent from a shaper's queue lowers C, not below LO; a queue that becomes empty with C above zero sets C to 0 (R293). -/
def State.shaperSent (s : State) (n p : Nat) : State :=
  let w := s.shaperCfg n p
  if bit w 63 then
    s.modNi n (fun u =>
      let x := u.shaper p
      let c := max (shaperLo w) (x.c - 4096)
      u.setShaper p { x with c := if !u.shaperBusy p && decide (0 < c) then 0 else c })
  else s

/-! ### Queues -/

/-- Room in the injection queue of a packet (R279). -/
def Ni.queueRoom (u : Ni) (pri : Nat) (flow : Option Nat) : Bool :=
  match flow with
  | some f => decide ((u.flow f).q.length < 4)
  | none => decide ((if pri = 2 then u.p2 else if pri = 1 then u.p1 else u.p0).length < 64)

/-- A packet enters its injection queue (R149 step 7, R279). -/
def State.enqueue (s : State) (n : Nat) (pri : Nat) (flow : Option Nat) (q : QPkt) : State :=
  (s.touchShapers n).modNi n (fun u =>
    match flow with
    | some f => u.setFlow f { u.flow f with q := (u.flow f).q ++ [q] }
    | none =>
      if pri = 2 then { u with p2 := u.p2 ++ [q] } else if pri = 1 then { u with p1 := u.p1 ++ [q] } else { u with p0 := u.p0 ++ [q] })

/-- An MGT packet of the unit or of firmware enters the MGT queue if a place is free; the caller waits otherwise (R279). -/
def State.queueMgt (s : State) (n dest : Nat) (p : Pkt) : State :=
  s.modNi n (fun u => { u with mgt := u.mgt ++ [⟨p, dest, s.niTime n, false, 0⟩] })

/-- An MGT message of NI n: P2, COLOUR 0b11, EPOCH of the active bank, words 2 on (R108, R278). -/
def State.mgtPkt (s : State) (n opcode : Nat) (ws : List W64) : Pkt :=
  { h := { Hdr.zero with vn := 7, pri := 2, colour := 3, epoch := BitVec.ofNat 2 (s.niAt n).ep.epoch,
                         opcode := BitVec.ofNat 6 opcode, src := BitVec.ofNat 8 n },
    pl := lineOfWords ws, body := [] }

/-! ### Leaf sampling -/

/-- The LFSR advanced once: shifted left with new bit 0 equal to bit 30 XOR bit 27 (R538). -/
def lfsrNext (x : BitVec 31) : BitVec 31 := (x <<< 1) ||| BitVec.zeroExtend 31 (BitVec.ofBool (x.getLsbD 30 ^^ x.getLsbD 27))

/-- K of the leaf group: 31 acts as 30 (NI_LEAF_CFG). -/
def leafK (w : W64) : Nat := min 30 (bits w 32 5)
/-- TO_LOG2 of the leaf group: values outside 12 to 24 act as 18 (NI_LEAF_CFG). -/
def leafTo (w : W64) : Nat := let t := bits w 40 5; if 12 ≤ t ∧ t ≤ 24 then t else 18

/-- Routers that a route word passes, the source tile's included (R541). -/
def routeHops (r : BitVec 24) : Nat := let x := Route.ofWord r; x.cnt0 + x.cnt1 + x.cnt2 + 1

/-- An open leaf record of an NI. -/
def Leaf.recAt (l : Leaf) (k : Nat) : Option LeafRec := KMap.get (fun _ => none) l.recs k
/-- A LEAF_ID is free: no open record and not in quarantine (R538, R541). -/
def Leaf.idFree (l : Leaf) (k : Nat) : Bool := (l.recAt k).isNone && KMap.get (fun _ => 0) l.quar k == 0

/-- An eligible packet advances the LFSR and may be tagged: it takes the lowest free LEAF_ID and opens a record (R538, R541). -/
def State.leafSample (s : State) (n dest : Nat) (h : Hdr) : State × Hdr :=
  if h.vn.toNat = Vn.MGT ∨ (h.vn.toNat = Vn.IOP ∧ h.opcode.toNat = 4) then (s, h)
  else
    let cfg := s.rd (Off.NI_LEAF_CFG n)
    let x := lfsrNext (s.niAt n).leaf.lfsr
    let s1 := s.modNi n (fun u => { u with leaf := { u.leaf with lfsr := x } })
    if bit cfg 63 && bits x 0 (leafK cfg) == 0 then
      match (List.range 64).find? (fun k => (s.niAt n).leaf.idFree k) with
      | some k =>
        let h' := { h with leaf := true, leafId := BitVec.ofNat 6 k }
        let r : LeafRec := { h := h', dest := dest, admitted := s.niTime n, expect := if dest = n then 0 else routeHops h.route,
                             stamps := [], deliver := none, arrived := 0 }
        (((s1.modNi n (fun u => { u with leaf := { u.leaf with recs := KMap.set (fun _ => none) u.leaf.recs k (some r) } })).bump
          (Off.NI_LEAF_CNT n) Fld.NI_LEAF_CNT.TAGGED).evNi n 30 true (some h), h')
      | none =>
        let s2 := s1.bump (Off.NI_LEAF_CNT n) Fld.NI_LEAF_CNT.SKIPPED
        let e := epochMark (s.niTime n)
        if (s.niAt n).leaf.overrunEpoch = e then (s2.occursNi n .LEAF_OVERRUN 0 0 1, h)
        else ((s2.modNi n (fun u => { u with leaf := { u.leaf with overrunEpoch := e } })).reportNi n .LEAF_OVERRUN 0 0, h)
    else (s1, h)

/-! ### Tags -/

/-- Tag t of an NI. -/
def Ni.tag (u : Ni) (t : Nat) : Tag := KMap.get (fun _ => Tag.freed) u.tags t
/-- The NI with a tag replaced. -/
def Ni.setTag (u : Ni) (t : Nat) (x : Tag) : Ni := { u with tags := KMap.set (fun _ => Tag.freed) u.tags t x }
/-- Tags of an NI in a state. -/
def Ni.tagCount (u : Ni) (st : TagSt) : Nat := (u.tags.filter (fun e => e.2.st == st)).length
/-- The completion record of a tag (R331). -/
def Ni.compRec (u : Ni) (t : Nat) : Option CompRec := KMap.get (fun _ => none) u.recs t
/-- The NI with a completion record replaced. -/
def Ni.setRec (u : Ni) (t : Nat) (x : Option CompRec) : Ni := { u with recs := KMap.set (fun _ => none) u.recs t x }

/-- Tag t is open to a VN's class: the RSV_IO block at the top is for ION, the RSV_COH block below it for REQ and SNP (R172). -/
def tagClassOk (rsvCoh rsvIo vn t : Nat) : Bool :=
  if 256 - rsvIo ≤ t then vn == Vn.ION
  else if 256 - rsvIo - rsvCoh ≤ t then vn == Vn.REQ || vn == Vn.SNP
  else true

/-- The tag that step 6 takes: the first FREE one at or after the rotating pointer that is open to the class and has no open
completion record (R172, R331). -/
def State.freeTag (s : State) (n vn : Nat) : Option Nat :=
  let u := s.niAt n
  let coh := s.fld (Off.NI_TAG_CFG n) Fld.NI_TAG_CFG.RSV_COH
  let io := s.fld (Off.NI_TAG_CFG n) Fld.NI_TAG_CFG.RSV_IO
  ((List.range 256).map (fun k => (u.tagPtr + k) % 256)).find? (fun t =>
    decide ((u.tag t).st = .free) && (u.compRec t).isNone && tagClassOk coh io vn t)

/-- A tag is taken: the pointer moves past it and the high-water mark follows (R172, NI_TAG_STATUS). -/
def State.takeTag (s : State) (n t : Nat) (x : Tag) : State :=
  s.modNi n (fun u =>
    let v := u.setTag t x
    { v with tagPtr := (t + 1) % 256, highWater := max v.highWater v.tags.length, txFree := v.txFree - x.tx, rxFree := v.rxFree - x.rx })

/-- A tag becomes FREE and its transmit lines are returned (R175, R186). -/
def State.dropTag (s : State) (n t : Nat) : State :=
  s.modNi n (fun u => { u.setTag t Tag.freed with txFree := u.txFree + (u.tag t).tx })

/-! ### The receive buffer -/

/-- A packet enters the unit's side of the receive side: the buffer holds its lines until the unit takes it, and the `kept` lines reserved for it
are no longer reserved (R185, R186). -/
def Ni.putIn (u : Ni) (p : Pkt) (ident now kept : Nat) : Ni :=
  { u with inbox := u.inbox ++ [(p, ident, now)], rxFree := u.rxFree + kept - p.lines.length }

/-- The unit takes the packet at a place, whose lines the receive buffer no longer holds (R186). -/
def Ni.dropIn (u : Ni) (i : Nat) : Ni :=
  { u with
    inbox := u.inbox.eraseIdx i
    rxFree := min 1024 (u.rxFree + (match u.inbox[i]? with
      | some e => e.1.lines.length
      | none => 0)) }

/-! ### Transfers -/

/-- A transfer under way. -/
def Ni.xfer (u : Ni) (x : Nat) : Option Xfer := KMap.get (fun _ => none) u.xfers x
/-- The NI with a transfer replaced. -/
def Ni.setXfer (u : Ni) (x : Nat) (v : Option Xfer) : Ni := { u with xfers := KMap.set (fun _ => none) u.xfers x v }

/-- The requested lines of a read piece with the data that came for them: lines with a zero mask were left out (R106), and a
failed piece delivers zero bytes marked poisoned (R170). -/
def fillLines (ok : Bool) : List Body → List Body → List Body
  | [], _ => []
  | m :: ms, got =>
    if m.be = 0 then ⟨false, 0, 0⟩ :: fillLines ok ms got
    else
      match ok, got with
      | true, g :: gs => ⟨g.poison, m.be, g.data⟩ :: fillLines ok ms gs
      | _, _ => ⟨true, m.be, 0⟩ :: fillLines ok ms []

/-- RESP of a transfer: of the lowest-addressed piece that failed, OK if none did; the worst RESP for a fence (R170, R229). -/
def Xfer.resp (x : Xfer) : Nat :=
  if x.fence then x.done.foldl (fun a d => worstResp a d.2.1) Resp.OK
  else ((x.pieces.filterMap (fun p => (x.done.find? (fun d => d.1 == p.place)).map (fun d => d.2.1))).find? (fun r => r != Resp.OK)).getD Resp.OK

/-- The lines that a piece's answer brings, by the piece's own lines (R106, R170). -/
def Xfer.pieceLines (x : Xfer) (p : Piece) : List Body :=
  match x.done.find? (fun d => d.1 == p.place) with
  | some d => fillLines (d.2.1 == Resp.OK || d.2.1 == Resp.ERR_POISON) p.data d.2.2.2
  | none => []

/-- Lines of a completed transfer in address order; a line of a read that no packet asked for is zero (R170). -/
def Xfer.lines (x : Xfer) : List Body :=
  if x.r.isRead then
    (List.range x.r.data.length).map (fun j =>
      match x.pieces.find? (fun p => decide (p.line ≤ x.r.line + j ∧ x.r.line + j < p.line + p.data.length)) with
      | some p => (x.pieceLines p).getD (x.r.line + j - p.line) ⟨false, 0, 0⟩
      | none => ⟨false, 0, 0⟩)
  else x.done.flatMap (fun d => d.2.2.2)

/-- A piece of a transfer has ended; the completion is presented once every piece has (R170, R229). -/
def State.pieceDone (s : State) (n x place resp msg : Nat) (lines : List Body) (dest tag rx : Nat) (synth : Bool) : State :=
  match (s.niAt n).xfer x with
  | none => s.modNi n (fun u => { u with rxFree := u.rxFree + rx })
  | some v =>
    let v' := { v with done := v.done ++ [(place, resp, msg, lines)], rx := v.rx + rx }
    if v'.done.length < v'.pieces.length then s.modNi n (fun u => u.setXfer x (some v'))
    else
      (s.modNi n (fun u => { u.setXfer x none with rxFree := u.rxFree + v'.rx })).present n
        { ident := v.r.ident, vn := v.r.vn, opcode := v.r.opcode, agent := v.r.agent, line := v.r.line, resp := v'.resp,
          msg := msg, lines := v'.lines, dest := dest, tag := tag, epoch := v.epoch,
          priv := v.r.priv, origin := v.r.origin, synth := synth, pri := s.priMap n (answerVn v.r.vn) } (some v.r.attrs)

/-- The RESP of a synthesised response ends a tag's transaction at the interface: a demand of a home slice gets a synthesised SRSP
with HIT = 0, anything else its piece's completion (R179, R180, R202). -/
def State.synthDone (s : State) (n t : Nat) (x : Tag) (resp : Nat) : State :=
  match x.req with
  | none => s
  | some p =>
    if p.h.vn.toNat = Vn.SNP then
      let h : Hdr := { Hdr.zero with vn := 2, pri := BitVec.ofNat 2 (s.priMap n 2), colour := 3, epoch := p.h.epoch, opcode := 4,
                                     src := BitVec.ofNat 8 n, tag := BitVec.ofNat 8 t, agent := p.h.agent, priv := p.h.priv,
                                     origin := p.h.origin, mid := midOf resp n 0 }
      s.modNi n (fun u => u.putIn (Pkt.one h 0) x.ident (s.niTime n) x.rx)
    else s.pieceDone n x.xfer x.piece resp (synthMsg p.h.vn.toNat p.h.opcode.toNat) [] x.dest t x.rx true

/-! ### Steps 3 to 5 -/

/-- A destination with its route, as steps 3 and 4 leave them. -/
structure Routed where
  dest : Nat
  alt : Nat
  route : BitVec 24
  deriving DecidableEq, Repr

/-- The contract priority of a request and the queue of its flow (R278, R282): PRI, flow, whether it must take ROUTE_0, whether R165
demotes it, and whether it is an oversize request of the flow given last. -/
structure Contract where
  pri : Nat
  flow : Option Nat
  route0 : Bool
  demoted : Bool
  tooLong : Option Nat
  deriving DecidableEq, Repr

/-- The contract of a packet or request of so many flits toward a destination on a VN (R92, R165, R278, R282). -/
def State.contract (s : State) (n bank dest vn flits : Nat) : Contract :=
  let base : Contract := ⟨s.priMap n vn, none, false, false, none⟩
  let c := s.effConf (niIsland n)
  if c = .unset then base
  else
    match s.flowOf n dest vn with
    | none => base
    | some f =>
      if 1 < flits then { base with tooLong := some f }
      else if c = .holdover then ⟨2, some f, false, false, none⟩
      else if s.route0Ok n bank dest then ⟨3, some f, true, false, none⟩
      else ⟨2, some f, false, true, none⟩

/-- A multi-flit request of a flow is counted, and reported at most once per flow per time epoch (R282). -/
def State.oversize (s : State) (n vn : Nat) (tooLong : Option Nat) : State :=
  match tooLong with
  | none => s
  | some f =>
    let s1 := s.bump (Off.NI_GT_CNT n) Fld.NI_GT_CNT.OVERSIZE
    let e := epochMark (s.niTime n)
    if KMap.get (fun _ => 0) (s.niAt n).overEpoch f = e then s1.occursNi n .GT_OVERSIZE f vn 1
    else (s1.modNi n (fun u => { u with overEpoch := KMap.set (fun _ => 0) u.overEpoch f e })).reportNi n .GT_OVERSIZE f vn

/-- The meter of an agent: that of the lowest-numbered valid match entry, else meter 0 (R296). -/
def State.meterOf (s : State) (n agent : Nat) : Nat :=
  match (List.range 8).find? (fun k =>
      let w := s.rd (Off.NI_METER_MATCH n k)
      bit w 63 && (agent &&& bits w 12 12) == (bits w 0 12 &&& bits w 12 12)) with
  | some k => bits (s.rd (Off.NI_METER_MATCH n k)) 24 4
  | none => 0

/-- Meter m of an NI. -/
def Ni.meter (u : Ni) (m : Nat) : Meter := KMap.get (fun _ => Meter.zero) u.meters m
/-- The NI with a meter replaced. -/
def Ni.setMeter (u : Ni) (m : Nat) (x : Meter) : Ni := { u with meters := KMap.set (fun _ => Meter.zero) u.meters m x }

/-- The marker of R297 on a request of b sixteenths of a byte: the meter after it, and the colour: 0 green, 1 yellow, 2 red. -/
def Meter.mark (x : Meter) (now b : Nat) : Meter × Nat :=
  if bit x.rate 63 then
    let tc := min (bits x.burst 0 24 * 16) (x.tc + bits x.rate 0 16 * (now - x.last))
    let tp := min (bits x.burst 24 24 * 16) (x.tp + bits x.rate 16 16 * (now - x.last))
    if tp < b then ({ x with tc := tc, tp := tp, last := now, red := satInc 65535 x.red }, 2)
    else if tc < b then ({ x with tc := tc, tp := tp - b, last := now, yellow := satInc 65535 x.yellow }, 1)
    else ({ x with tc := tc - b, tp := tp - b, last := now, green := satInc 65535 x.green }, 0)
  else ({ x with green := satInc 65535 x.green }, 0)

/-- Step 5: the colour, the PRI after it, and whether the request is discarded; `gt` is set for a GT flow packet (R296 to R298). -/
def State.meterStep (s : State) (n : Nat) (r : Req) (pri : Nat) (gt : Bool) : State × Nat × Nat × Bool :=
  if !niHasMeter n then (s, 3, pri, false)
  else
    let m := s.meterOf n r.agent
    let (x, col) := ((s.niAt n).meter m).mark (s.niTime n) (80 * r.flits * 16)
    let s1 := (s.modNi n (fun u => u.setMeter m x)).evNi n (13 + col) true (some r.attrs)
    if gt then
      if col = 2 then
        (if x.redEpoch ≠ epochMark (s.niTime n) then
          ((s1.modNi n (fun u => u.setMeter m { x with redEpoch := epochMark (s.niTime n) })).reportNi n .METER_RED_P3 0 m, col, pri, false)
        else (s1.occursNi n .METER_RED_P3 0 m 1, col, pri, false))
      else (s1, col, pri, false)
    else if col = 2 then
      if r.vn = Vn.IOP ∧ bit x.rate 62 = true then
        ((s1.modNi n (fun u => u.setMeter m { x with dropped := satInc 65535 x.dropped })).evNi n 16 true (some r.attrs), col, 0, true)
      else (s1, col, 0, false)
    else (s1, col, if col = 1 then pri - 1 else pri, false)

/-- A request that has passed steps 1 to 5 waits for step 6; a non-posted one opens its transfer (R149, R170). -/
def State.toStep6 (s : State) (n : Nat) (r : Req) (seq epoch colour pri : Nat) (flow : Option Nat) (rt : Routed) : State :=
  let ps := r.pieces
  s.modNi n (fun u =>
    let x := if r.posted then 0 else u.nextXfer
    let u1 := if r.posted then u
      else { u.setXfer x (some ⟨r, epoch, ps, false, [], 0⟩) with nextXfer := u.nextXfer + 1 }
    { u1 with wait := u1.wait ++ [⟨r, seq, rt.dest, rt.route, pri, colour, epoch, flow, ps, x⟩] })

/-- Steps 4 and 5 toward a decoded destination; a transfer without a single enabled byte has no packet and ends there, OK (R149, R161, R165, R296,
log entry 48). -/
def State.step45 (s : State) (n : Nat) (r : Req) (seq epoch dest : Nat) : State :=
  let bank := (s.bankOf n epoch).1
  let c := s.contract n bank dest r.vn r.flits
  let found := if c.route0 then some (0, if dest = n then 0 else s.routeWord n bank dest 0) else s.routeTo n bank dest
  match found with
  | none => (s.noRoute n dest r.vn).failReq n r epoch Resp.ERR_FENCED
  | some (k, w) =>
    let s1 := if 0 < k then (s.bump (Off.NI_ROUTE_CNT n) Fld.NI_ROUTE_CNT.ALT_USED).evNi n 28 true (some r.attrs) else s
    let s2 := if c.demoted then s1.bump (Off.NI_ROUTE_CNT n) Fld.NI_ROUTE_CNT.GT_DEMOTED else s1
    let s3 := s2.oversize n r.vn c.tooLong
    if r.vn = Vn.IOP ∧ r.opcode = 4 then s3.toStep6 n r seq epoch 3 c.pri c.flow ⟨dest, k, w⟩
    else
      let (s4, col, pri, drop) := s3.meterStep n r c.pri c.flow.isSome
      if drop then s4
      else if r.pieces.isEmpty then (if r.posted then s4 else s4.localDone n r epoch Resp.OK)
      else s4.toStep6 n r seq epoch col pri c.flow ⟨dest, k, w⟩

/-- Step 3 fails: ERR_UNSUPPORTED or the RESP given, and the report (R149, R157, R167). -/
def State.failDecode (s : State) (n : Nat) (r : Req) (epoch : Nat) (dgt : Bool) (resp : Nat) : State :=
  let f := if dgt then Fld.NI_ERR_STATUS.DGT_INVALID else Fld.NI_ERR_STATUS.DECODE_MISS
  ((s.setFld (Off.NI_ERR_STATUS n) f 1).reportNi n (if dgt then .DGT_INVALID else .DECODE_MISS) 0 r.vn).failReq n r epoch resp

/-- Steps 3 to 5 (R149): the address map, the configuration decode or the Destination Group Table, then the route and the meter.
An FNC waits for its fence instead (R229). Where no usable port engine is left, NO_ROUTE names the first of the list (log entry 48) (R167, R190). -/
def State.step3 (s : State) (n : Nat) (r : Req) (seq epoch : Nat) : State :=
  let s0 := s.staleCheck n epoch
  let bank := (s0.bankOf n epoch).1
  if r.vn = Vn.REQ ∧ r.opcode = 8 then s0.modNi n (fun u => { u with fences := u.fences ++ [⟨r, seq, epoch⟩] })
  else
    match r.machine with
    | some e =>
      let r' := { r with line := e % 2 ^ 20 * 2 ^ 26 + r.line % 2 ^ 26 }
      match s0.peaList n bank (e % 2 ^ 20) with
      | none => s0.failDecode n r' epoch true Resp.ERR_UNSUPPORTED
      | some l =>
        match s0.pickPea n bank l with
        | none => (s0.noRoute n (168 + l.headD 0) r.vn).failReq n r' epoch Resp.ERR_FENCED
        | some (k, dest) =>
          let s1 := if 0 < k then s0.bump (Off.NI_ROUTE_CNT n) Fld.NI_ROUTE_CNT.DGT_ALT else s0
          s1.step45 n r' seq epoch dest
    | none =>
      match s0.decodeMap n bank r.vn r.opcode r.line with
      | .miss => s0.failDecode n r epoch false Resp.ERR_UNSUPPORTED
      | .debugWrite => s0.failDecode n r epoch false Resp.ERR_ACCESS
      | .to dest => s0.step45 n r seq epoch dest

/-! ### Steps 1 and 2 -/

/-- A request fails step 2: counted by reason, recorded, reported at most once per time epoch (R433). -/
def State.strainerFail (s : State) (n : Nat) (r : Req) (epoch : Nat) (reason : Nat) : State :=
  let f := if reason = 1 then Fld.NI_ST_CNT.NO_MATCH else Fld.NI_ST_CNT.PATTERN
  let wr := match checkedAs r.vn r.opcode with
    | some (_, w) => w
    | none => false
  let last := BitVec.ofNat 64 (r.agent % 4096 * 2 ^ 52 + r.line / 64 % 2 ^ 40 * 2 ^ 12 + b2n r.priv * 8 + b2n wr * 4 + reason)
  let s1 := ((s.bump (Off.NI_ST_CNT n) f).wr (Off.NI_ST_LAST n) last).evNi n 12 true (some r.attrs)
  let s2 := if r.posted then s1.bump (Off.NI_ST_CNT n) Fld.NI_ST_CNT.DROPPED else s1
  let e := epochMark (s.niTime n)
  let s3 := if (s.niAt n).strain.denyEpoch = e then s2
    else (s2.modNi n (fun u => { u with strain := { u.strain with denyEpoch := e } })).reportAt n 0 .ST_DENY 0 r.agent r.line
  s3.failReq n r epoch Resp.ERR_ACCESS

/-- Step 2's check and the steps after it, in the bank of the request's epoch (R149, R430 to R433). -/
def State.step2check (s : State) (n : Nat) (r : Req) (seq epoch : Nat) : State :=
  if niType n = .hsl ∨ r.machine.isSome then s.step3 n r seq epoch
  else
    match s.strainer n (s.bankOf n epoch).1 r.vn r.opcode r.agent r.priv r.line with
    | .pass => s.step3 n r seq epoch
    | .byDefault => (s.bump (Off.NI_ST_CNT n) Fld.NI_ST_CNT.DEFAULT).step3 n r seq epoch
    | .noMatch => s.strainerFail n r epoch 1
    | .pattern => s.strainerFail n r epoch 2

/-- An NI becomes stale: it holds every request at step 2, and the master's register names it (R435). -/
def State.markStale (s : State) (n : Nat) : State :=
  (s.modNi n (fun u => { u with strain := { u.strain with stale := true } })).wr (Off.ST_STALE (n / 64))
    (s.rd (Off.ST_STALE (n / 64)) ||| BitVec.ofNat 64 (2 ^ (n % 64)))

/-- An NI meets an uncorrectable shadow word: it is counted and reported and the NI becomes stale (R439). -/
def State.shadowUe (s : State) (n : Nat) : State :=
  ((s.bump (Off.NI_ST_ERR n) Fld.NI_ST_ERR.UE).markStale n).reportNi n .ST_SHADOW_UE 0 0

/-- Step 2: requests other than machine requests are held while the unit is disabled or the NI is stale (R152, R429, R436, R439). -/
def State.step2 (s : State) (n : Nat) (r : Req) (seq : Nat) (e : ReadErr) : State :=
  let epoch := (s.niAt n).ep.epoch
  if niType n = .hsl ∨ r.machine.isSome then s.step2check n r seq epoch
  else
    let checked := (checkedAs r.vn r.opcode).isSome
    let s1 := if e.shadowCe && checked then s.bump (Off.NI_ST_ERR n) Fld.NI_ST_ERR.CE else s
    let st := (s1.niAt n).strain
    if st.hold || st.stale then s1.modNi n (fun u => { u with strain := { u.strain with held := u.strain.held ++ [⟨r, seq, epoch⟩] } })
    else if e.shadowUe && checked then
      (s1.shadowUe n).modNi n (fun u => { u with strain := { u.strain with held := u.strain.held ++ [⟨r, seq, epoch⟩] } })
    else s1.step2check n r seq epoch

/-- The admission pipeline, steps 1 to 5, for a request presented at an NI whose island is ON (R149). -/
def State.takeReq (s : State) (n : Nat) (r : Req) (e : ReadErr) : State :=
  let seq := (s.niAt n).seq
  let s1 := (s.modNi n (fun u => { u with seq := u.seq + 1 })).tableErr n (s.niAt n).ep.bank e
  if s1.niFenced n || s1.agentFenced n r.agent then s1.failFence n r else s1.step2 n r seq e

/-- An NI admits: its island is ON, and no lowering of it has begun (R493). -/
def State.admits (s : State) (n : Nat) : Bool :=
  let d := s.domAt (niIsland n)
  d.st == .on && d.phase == .steady

/-- A request presented at an NI: held in the crossing with a wake request while the island is below ON or is being lowered (R155, R493), else admitted. -/
def State.presentReq (s : State) (n : Nat) (r : Req) (e : ReadErr) : State :=
  if s.admits n then s.takeReq n r e
  else
    let s1 := if (s.niAt n).wakeHeld.isEmpty then s.askWake (niIsland n) else s
    s1.modNi n (fun u => { u with wakeHeld := u.wakeHeld ++ [r] })

/-- Requests held at the interface crossing are admitted once the island is ON (R155). -/
def State.admitHeld (s : State) (n : Nat) : State :=
  let l := (s.niAt n).wakeHeld
  l.foldl (fun s r => s.takeReq n r ReadErr.clean) (s.modNi n (fun u => { u with wakeHeld := [] }))

/-- Requests held at step 2 are checked once the hold ends, in the bank of their epoch (R436). -/
def State.checkHeld (s : State) (n : Nat) : State :=
  let st := (s.niAt n).strain
  if st.hold || st.stale then s
  else
    st.held.foldl (fun s h => s.step2check n h.r h.seq h.epoch)
      (s.modNi n (fun u => { u with strain := { u.strain with held := [] } }))

/-- Step 1 applied again to the requests held at step 2: those that a fence now stops fail (R436). -/
def State.refenceHeld (s : State) (n : Nat) : State :=
  let l := (s.niAt n).strain.held
  let stops := fun h : Held => s.niFenced n || s.agentFenced n h.r.agent
  (l.filter stops).foldl (fun s h => s.failFence n h.r)
    (s.modNi n (fun u => { u with strain := { u.strain with held := l.filter (fun h => !stops h) } }))

/-! ### Leaf records -/

/-- The state with a leaf record of an NI replaced. -/
def State.setLeafRec (s : State) (n k : Nat) (r : Option LeafRec) : State :=
  s.modNi n (fun u => { u with leaf := { u.leaf with recs := KMap.set (fun _ => none) u.leaf.recs k r } })

/-- The words of a leaf record, word 2 of its packet first (R542). -/
def LeafRec.recWords (r : LeafRec) (n k : Nat) (incomplete : Bool) : List W64 :=
  let h := r.h
  let w := 3 * 2 ^ 62 + k * 2 ^ 56 + n * 2 ^ 48 + r.dest * 2 ^ 40 + h.vn.toNat * 2 ^ 37 + h.opcode.toNat * 2 ^ 31 + h.tag.toNat * 2 ^ 23 +
    h.epoch.toNat * 2 ^ 21 + h.pri.toNat * 2 ^ 19 + r.stamps.length * 2 ^ 14 + h.len.toNat * 2 ^ 12 + b2n r.deliver.isSome * 2 ^ 11 +
    b2n incomplete * 2 ^ 10 + b2n (decide (29 < r.arrived)) * 2 ^ 9
  [BitVec.ofNat 64 w, BitVec.ofNat 64 r.admitted, BitVec.ofNat 64 (r.deliver.getD 0)] ++ r.stamps

/-- The lines of stamps beyond the five of the head, eight to a body flit (R542). -/
def stampLines : Nat → List W64 → List Body
  | 0, _ => []
  | _ + 1, [] => []
  | f + 1, ws => ⟨false, allBytes, lineOfWords (ws.take 8)⟩ :: stampLines f (ws.drop 8)

/-- The request that carries a closed record to NI_LEAF_DEST (R541, R542). -/
def State.leafReq (s : State) (n k : Nat) (r : LeafRec) (incomplete : Bool) : Req :=
  let ws := r.recWords n k incomplete
  { vn := Vn.IOP, opcode := 4, agent := 0xFFF, priv := true, origin := true, line := s.fld (Off.NI_LEAF_DEST n) Fld.NI_LEAF_DEST.LINE,
    data := stampLines 3 (ws.drop 8), pl := lineOfWords (ws.take 8), machine := none, ident := 0 }

/-- A record closes: its LEAF_ID becomes free 2^16 ft later, and the NI sends the record, also while its island is being lowered (R541, R545). -/
def State.closeLeaf (s : State) (n k : Nat) (r : LeafRec) (incomplete : Bool) : State :=
  let s1 := (s.setLeafRec n k none).modNi n (fun u => { u with leaf := { u.leaf with quar := KMap.set (fun _ => 0) u.leaf.quar k (s.niTime n + 2 ^ 16 + 1) } })
  let q := s.leafReq n k r incomplete
  if s.domOn (niIsland n) then s1.takeReq n q ReadErr.clean else s1.presentReq n q ReadErr.clean

/-- An open record closes as INCOMPLETE and is counted (R541, R545). -/
def State.cutLeaf (s : State) (n k : Nat) (r : LeafRec) : State := (s.bump (Off.NI_LEAF_CNT n) Fld.NI_LEAF_CNT.INCOMPLETE).closeLeaf n k r true

/-! ### Building packets -/

/-- The head payload of a coherent request: the request word, whose CAPS, HOLD and NATIVE only a CPA or CLA fills, with SNPTYPE on HSNP alone, and the
write mask of WRI; every other bit is reserved and sent as zero (R6, R195, R196). -/
def reqPayload (n : Nat) (r : Req) : Line :=
  let w := lineWord r.pl 0
  let own := niType n = .cpa ∨ niType n = .cla
  let w2 := if own then bits w 0 8 + bits w 13 7 * 2 ^ 13 + (if r.opcode = 9 then bits w 20 4 * 2 ^ 20 else 0) else 0
  lineOfWords (if r.opcode = 5 then [BitVec.ofNat 64 w2, lineWord r.pl 1] else [BitVec.ofNat 64 w2])

/-- The head payload of a packet that carries no data there: one word of SBMSG, four of TELEM, the record words of LEAFREC (R6, R108). -/
def ioPayload (r : Req) : Line :=
  if r.isWrite then 0
  else if r.opcode = 2 then lineOfWords [lineWord r.pl 0]
  else if r.opcode = 3 then lineOfWords ((List.range 4).map (lineWord r.pl))
  else r.pl

/-- A line with the bytes that it does not enable sent as zero (R6, R104). -/
def Body.masked (b : Body) : Body := { b with data := b.data &&& byteMask b.be }

/-- The packet of a piece (R6, R89, R103 to R105, R149 step 7). -/
def Waiting.pkt (w : Waiting) (n tag : Nat) (p : Piece) : Pkt :=
  let h : Hdr := { Hdr.zero with
    route := w.route, vn := BitVec.ofNat 3 w.r.vn, pri := BitVec.ofNat 2 w.pri, epoch := BitVec.ofNat 2 w.epoch,
    colour := BitVec.ofNat 2 w.colour, opcode := BitVec.ofNat 6 w.r.opcode, src := BitVec.ofNat 8 n, tag := BitVec.ofNat 8 tag,
    agent := BitVec.ofNat 12 w.r.agent, priv := w.r.priv, origin := w.r.origin, mid := BitVec.ofNat 46 p.line }
  if w.r.vn = Vn.REQ then Pkt.one h (reqPayload n w.r)
  else if w.r.isRead then Pkt.one h (lineOfWords (p.data.map (·.be)))
  else if p.hdata then Pkt.ofLines h p.data
  else { h := { h with len := BitVec.ofNat 2 p.data.length }, pl := ioPayload w.r, body := p.data.map Body.masked }

end Sys2Proof.Machine
end

