-- ==== Sys2Proof/Machine/PortOps.lean ====
section
/-! DEFINITION. The shared operations of the boundary ports: identity, translation tables, answers, completion records, and what a
port makes of its NI's completions (R196, R200, R222, R223, R328 to R361). -/
namespace Sys2Proof.Machine

/-! ### Response-form packets -/

/-- The response-form middle bits of Leaf's MSG (R200). -/
def leafMsg (nresp grant : Nat) (dirty stale : Bool) (rstate : Nat) (hit : Bool) : Nat :=
  nresp % 4 * 2 ^ 32 + grant % 8 * 2 ^ 29 + b2n dirty * 2 ^ 28 + b2n stale * 2 ^ 27 + rstate % 8 * 2 ^ 24 + b2n hit * 2 ^ 23

/-- NRESP of a MSG (R200). -/
def msgNresp (m : Nat) : Nat := nbits m 32 2
/-- GRANT of a MSG (R200). -/
def msgGrant (m : Nat) : Nat := nbits m 29 3
/-- DIRTY of a MSG (R200). -/
def msgDirty (m : Nat) : Bool := nbit m 28
/-- STALE of a MSG (R200). -/
def msgStale (m : Nat) : Bool := nbit m 27
/-- RSTATE of a MSG (R200). -/
def msgRstate (m : Nat) : Nat := nbits m 24 3
/-- HIT of a MSG (R200). -/
def msgHit (m : Nat) : Bool := nbit m 23

/-- A response-form packet: poisoned lines make RESP ERR_POISON, and an error carries no data (R96, R98). -/
def mkResp (vn op tag agent : Nat) (priv origin : Bool) (epoch resp town msg : Nat) (lines : List Body) : Pkt :=
  let resp' := if resp = Resp.OK ∧ lines.any (·.poison) = true then Resp.ERR_POISON else resp
  let h : Hdr := { Hdr.zero with
    vn := BitVec.ofNat 3 vn, colour := 3, epoch := BitVec.ofNat 2 epoch, opcode := BitVec.ofNat 6 op, tag := BitVec.ofNat 8 tag,
    agent := BitVec.ofNat 12 agent, priv := priv, origin := origin, mid := midOf resp' town msg }
  if resp' = Resp.OK ∨ resp' = Resp.ERR_POISON then Pkt.ofLines h lines else Pkt.ofLines h []

/-- The answer to a received packet: AGENT, PRIV, ORIGIN, EPOCH and TAG copied, TOWN its SRC (R91, R93, R96, R201). -/
def answerTo (q : Hdr) (vn op resp msg : Nat) (lines : List Body) : Pkt :=
  mkResp vn op q.tag.toNat q.agent.toNat q.priv q.origin q.epoch.toNat resp q.src.toNat msg lines

/-- A unit hands a packet to its NI under R151. -/
def State.handOver (s : State) (n dest : Nat) (p : Pkt) (pri : Option Nat) (ident : Nat) : State :=
  s.modNi n (fun u => { u with answers := u.answers ++ [⟨dest, p, pri, ident⟩] })

/-- A unit answers a received packet (R151). -/
def State.answer (s : State) (n : Nat) (q : Hdr) (vn op resp msg : Nat) (lines : List Body) : State :=
  s.handOver n q.src.toNat (answerTo q vn op resp msg lines) none 0

/-- The error answer of a non-posted request or demand: CMP, SRSP with HIT = 0, or CPL, which carries no data, with EXFAIL for NWRX
(R7, R98, R108, R188, R202, R330). -/
def State.answerErr (s : State) (n : Nat) (q : Hdr) (resp : Nat) : State :=
  let vn := q.vn.toNat
  let op := q.opcode.toNat
  if vn = Vn.REQ then
    s.answer n q Vn.RSP (if op = 8 then 6 else if op = 9 then 4 else 1) resp 0 []
  else if vn = Vn.SNP then s.answer n q Vn.RSP 4 resp 0 []
  else if vn = Vn.ION then s.answer n q Vn.IOC 1 resp (synthMsg vn op) []
  else s

/-! ### The inbox -/

/-- The oldest packet of a VN in an NI's inbox, where it passes a test, with the state that has taken it: packets of one VN are
presented in their order of arrival (R185). -/
def State.takeIn (s : State) (n vn : Nat) (ok : Pkt → Bool) : Option (Pkt × Nat × State) :=
  let l := (s.niAt n).inbox
  match (List.range l.length).find? (fun i => match l[i]? with
      | some e => e.1.h.vn.toNat == vn
      | none => false) with
  | none => none
  | some i =>
    match l[i]? with
    | some e => if ok e.1 then some (e.1, e.2.1, s.modNi n (fun u => u.dropIn i)) else none
    | none => none

/-! ### Packets on a wire -/

/-- The flits of the packet at the front of a lane of a wire, and the wire without them, once the packet has come whole: with the flit that LEN gives,
with one that has LAST set, or with a head after it. `due` is the number of body flits still to come; a body flit without a head
stands alone (R88, R110, R118). -/
def laneTake (vn : Nat) (gt : Bool) : Option Nat → List Flit → Option (List Flit × List Flit)
  | _, [] => none
  | due, f :: fs =>
    if f.vn = vn ∧ f.gt = gt then
      match due, f with
      | none, .head _ h _ => if h.len = 0 then some ([f], fs) else (laneTake vn gt (some h.len.toNat) fs).map (fun r => (f :: r.1, r.2))
      | none, .body .. => some ([f], fs)
      | some _, .head .. => some ([], f :: fs)
      | some k, .body .. => if f.isLast ∨ k ≤ 1 then some ([f], fs) else (laneTake vn gt (some (k - 1)) fs).map (fun r => (f :: r.1, r.2))
    else (laneTake vn gt due fs).map (fun r => (r.1, f :: r.2))

/-- The packet at the front of a lane of a wire, and the wire without it. -/
def frontPkt (vn : Nat) (gt : Bool) (l : List Flit) : Option (List Flit × List Flit) := laneTake vn gt none l

/-- The lane of a VN that holds its oldest flit. -/
def oldLane (vn : Nat) (l : List Flit) : Bool :=
  match l.find? (fun f => f.vn == vn) with
  | some f => f.gt
  | none => false

/-- Masks of a masked read: one for each line (R105). -/
def Pkt.masks (p : Pkt) : List W64 := (List.range 4).map p.word

/-- The packet of a list of flits that starts with a head. -/
def pktOf : List Flit → Option Pkt
  | .head _ h pl :: fs => some { h := h, pl := pl, body := fs.filterMap (fun f => match f with
      | .body _ _ _ _ _ _ b => some b
      | .head _ _ _ => none) }
  | _ => none

/-- Body flits agree with their head, SEQ and LAST (R118). -/
def framedOk (h : Hdr) : Nat → List Flit → Bool
  | k, [] => k == h.len.toNat + 1
  | k, .body _ v q l sr tg _ :: fs => v == h.vn && sr == h.src && tg == h.tag && q.toNat == k && l == (k == h.len.toNat) && framedOk h (k + 1) fs
  | _, .head _ _ _ :: _ => false

/-- Opcodes that carry data in response form: DAT, and CPLD (R108, R199). -/
def dataResponse (h : Hdr) : Bool := h.vn.toNat == Vn.DAT || (h.vn.toNat == Vn.IOC && h.opcode.toNat == 2)

/-- A received packet is malformed (R118); a response whose RESP is an error carries no data, and so has HDATA and LEN 0 (R98). -/
def pktMalformed (fs : List Flit) : Bool :=
  match fs with
  | .head _ h pl :: rest =>
    let p : Pkt := { h := h, pl := pl, body := rest.filterMap (fun f => match f with
      | .body _ _ _ _ _ _ b => some b
      | .head _ _ _ => none) }
    !framedOk h 1 rest || (!vnResponse h.vn.toNat && p.body.any (fun b => b.be == 0)) ||
      (h.vn.toNat == Vn.ION && (h.opcode.toNat == 1 || h.opcode.toNat == 3) && p.masks.all (· == 0)) ||
      (dataResponse h && !h.hdata && (h.resp == 0 || h.resp == 7 || h.len != 0))
  | _ => true

/-! ### Answers to a tag -/

/-- A response is on a VN that its request expects (R108, R176, R195, R197). -/
def expectsVn (q : Hdr) (vn : Nat) : Bool :=
  let op := q.opcode.toNat
  if q.vn.toNat = Vn.ION then vn == Vn.IOC
  else if q.vn.toNat = Vn.REQ then vn == Vn.RSP || (vn == Vn.DAT && !decide (5 ≤ op ∧ op ≤ 8))
  else vn == Vn.RSP || (vn == Vn.DAT && !(op == 5 || decide (9 ≤ op)))

/-- A retry response (R178, R199). -/
def isRetry (h : Hdr) : Bool := h.vn.toNat == Vn.RSP && h.opcode.toNat == 3

/-- The responses received complete the tag (R106, R108, R175, R200, R208). -/
def tagComplete (q : Pkt) (got : List Pkt) (p : Pkt) : Bool :=
  if q.h.vn.toNat = Vn.ION then
    let err := p.h.resp != Resp.OK && p.h.resp != Resp.ERR_POISON
    let want := if q.h.opcode.toNat = 1 ∨ q.h.opcode.toNat = 3 then (q.masks.filter (· != 0)).length else 0
    err || p.h.opcode.toNat == 1 || decide (want ≤ (got.flatMap Pkt.lines).length)
  else decide (msgNresp p.h.msg ≤ 1) || decide (2 ≤ got.length)

/-- A response for tag t of NI n has come whole to its receive side: one that completes the tag, or with `any` one of any kind. Where it meets a
timer of the tag in one cycle, it goes first (R181, log entry 48). -/
def State.answerDue (s : State) (n t : Nat) (any : Bool) : Bool :=
  let x := (s.niAt n).tag t
  [Vn.RSP, Vn.DAT, Vn.IOC].any (fun vn => [true, false].any (fun gt =>
    match frontPkt vn gt (s.wireAt (niKey n)), x.req with
    | some (fs, _), some q =>
      match pktOf fs with
      | some p => p.h.town == n && p.h.tag.toNat == t && !pktMalformed fs && expectsVn q.h vn && q.h.agent == p.h.agent &&
          (any || (!isRetry p.h && tagComplete q (x.got ++ [p]) p))
      | none => false
    | _, _ => false))

/-! ### Ports -/

/-- The boundary port of NI n. -/
def State.portAt (s : State) (n : Nat) : Port := KMap.get (fun _ => Port.reset) s.port n
/-- The state with a port replaced. -/
def State.setPort (s : State) (n : Nat) (x : Port) : State := { s with port := KMap.set (fun _ => Port.reset) s.port n x }
/-- The state with a port changed. -/
def State.modPort (s : State) (n : Nat) (f : Port → Port) : State := s.setPort n (f (s.portAt n))

/-- A port presents a message; it presents nothing while its indication is low (R330). -/
def State.portOut (s : State) (n : Nat) (m : PortMsg) : State :=
  if (s.portAt n).up then s.modPort n (fun x => { x with out := x.out ++ [m] }) else s

/-- PORT_UNSUPPORTED: counted each time, reported at most once per time epoch (R349). -/
def State.portUnsup (s : State) (n vn : Nat) : State :=
  let s1 := (s.bump (Off.NI_PORT_CNT n) Fld.NI_PORT_CNT.UNSUPPORTED).setFld (Off.NI_PORT_ERR n) Fld.NI_PORT_ERR.UNSUPPORTED 1
  let e := epochMark (s.niTime n)
  if (s.portAt n).unsupEpoch = e then s1.occursNi n .PORT_UNSUPPORTED 0 vn 1
  else (s1.modPort n (fun x => { x with unsupEpoch := e })).reportNi n .PORT_UNSUPPORTED 0 vn

/-- PORT_PROTOCOL (R363). -/
def State.portProtocol (s : State) (n tag vn : Nat) : State :=
  (s.setFld (Off.NI_PORT_ERR n) Fld.NI_PORT_ERR.PROTOCOL 1).reportNi n .PORT_PROTOCOL tag vn

/-- PORT_PW_ERR: a host-posted write completed with an error (R336, R345). -/
def State.portPwErr (s : State) (n vn : Nat) : State :=
  ((s.bump (Off.NI_PORT_CNT n) Fld.NI_PORT_CNT.PW_ERR).setFld (Off.NI_PORT_ERR n) Fld.NI_PORT_ERR.PW_ERR 1).reportNi n .PORT_PW_ERR 0 vn

/-- The identifier 256·h + TAG of a demand of home slice h, h = SRC − 232 (R339, R342, R350). -/
def demandId (h : Hdr) : Nat := 256 * (h.src.toNat - 232) + h.tag.toNat

/-! ### Translation tables -/

/-- Word w of a port's translation table in a bank (R222, R309). -/
def State.xlate (s : State) (n bank w : Nat) : W64 :=
  if s.entryBad n bank Sec.XLATE 0 w 1 then 0 else s.tabW n bank Sec.XLATE 0 w

/-- The agent map word of an agent; every home slice holds the same map (R192). -/
def State.agentWord (s : State) (h bank a : Nat) : W64 :=
  if s.entryBad (sliceNi h) bank Sec.AGENT 0 (a % 4096) 1 then 0 else s.tabW (sliceNi h) bank Sec.AGENT 0 (a % 4096)
/-- An agent is a caching agent in the map (R192). -/
def State.agentCaching (s : State) (h bank a : Nat) : Bool := bit (s.agentWord h bank a) 63 && bit (s.agentWord h bank a) 62

/-- CAPS of a translation table, ACC_E at bit 3 (R222). -/
def State.xlateCaps (s : State) (n bank : Nat) : Nat := bits (s.xlate n bank 0) 44 4
/-- A port's table sets SILENT (R217, R222). -/
def State.xlateSilent (s : State) (n bank : Nat) : Bool := bit (s.xlate n bank 0) 44
/-- HVIEW of native state j (R222). -/
def State.hview (s : State) (n bank j : Nat) : Nat := bits (s.xlate n bank (17 + j)) 60 3
/-- Native state j exists (R222). -/
def State.nativeValid (s : State) (n bank j : Nat) : Bool := decide (j < 8) && bit (s.xlate n bank (17 + j)) 63

/-- The translation of native request k from native state j: LEAF_OP and the request word; none where the table refuses it, or where its state
word says that native state j does not exist (log entry 49) (R196, R222, R223). -/
def State.translate (s : State) (n bank k j : Nat) : Option (Nat × W64) :=
  let w := s.xlate n bank (1 + k)
  if bit w 63 && bit w (48 + j) && s.nativeValid n bank j then
    some (bits w 36 6, BitVec.ofNat 64 (s.xlateCaps n bank * 2 ^ 16 + s.hview n bank j * 2 ^ 13 + (k + 16 * j)))
  else none

/-- The table word of a snoop: 26 SNPS with WB 0, 27 SNPS with WB 1, 28 SNPI, 29 SNPC (R222). -/
def snoopWord (h : Hdr) (word2 : W64) : Nat :=
  if h.opcode.toNat = 2 then 28 else if h.opcode.toNat = 3 then 29 else if bit word2 48 then 27 else 26

/-- A reported native state is lawful: it is the RESULT of the snoop presented for some valid native state (R223). -/
def State.reportLawful (s : State) (n bank w st : Nat) : Bool :=
  (List.range 8).any (fun j => s.nativeValid n bank j && bits (s.xlate n bank w) (3 * j) 3 == st)

/-- The native state that a grant installs: word 25, or 0xF for GRANT I (R222, R361). -/
def State.grantNative (s : State) (n bank g : Nat) : Nat :=
  let w := s.xlate n bank 25
  if g = 1 then bits w 0 4 else if g = 2 then bits w 4 4 else if g = 3 then bits w 8 4 else if g = 4 then bits w 12 4 else 15

/-- COH_PROTOCOL raised by a caching port: its DETAIL names the tag and VN RSP, and its ADDR is 0 (log entry 49) (R223, R231). -/
def State.portCohProtocol (s : State) (n tag : Nat) : State := s.reportNi n .COH_PROTOCOL tag Vn.RSP

/-! ### Identity -/

/-- NI_PORT_CFG passes an agent ID (R329). -/
def State.agentOk (s : State) (n agent : Nat) : Bool :=
  let o := Off.NI_PORT_CFG n
  let m := s.fld o Fld.NI_PORT_CFG.AGENT_MASK
  (agent &&& m) == (s.fld o Fld.NI_PORT_CFG.AGENT &&& m)

/-- The identity that an external-ingress NI gives a request (R328). -/
def State.identify (s : State) (n : Nat) (r : Req) : Req :=
  let o := Off.NI_PORT_CFG n
  match niType n with
  | .cpa =>
    { r with agent := s.fld o Fld.NI_PORT_CFG.AGENT, origin := false,
             priv := if r.vn = Vn.REQ then s.flag o Fld.NI_PORT_CFG.MEM_PRIV else r.priv }
  | .mpa => { r with agent := s.fld o Fld.NI_PORT_CFG.AGENT, origin := true, priv := s.flag o Fld.NI_PORT_CFG.IO_PRIV }
  | .cla => { r with priv := r.priv && s.flag o Fld.NI_PORT_CFG.PRIV_OK }
  | .pea => { r with priv := r.priv && s.flag o Fld.NI_PORT_CFG.PRIV_OK, origin := true }
  | _ => r

/-- R329: a request whose agent ID fails the port's check is completed locally with ERR_ACCESS or discarded; PORT_AGENT is reported at
most once per time epoch. -/
def State.agentRefused (s : State) (n : Nat) (r : Req) : State :=
  let s1 := s.setFld (Off.NI_PORT_ERR n) Fld.NI_PORT_ERR.AGENT 1
  let e := epochMark (s.niTime n)
  let s2 := if (s.niAt n).agentEpoch = e then s1.occursNi n .PORT_AGENT (r.agent % 256) r.vn 1
    else (s1.modNi n (fun u => { u with agentEpoch := e })).reportNi n .PORT_AGENT (r.agent % 256) r.vn
  s2.failReq n r (s.niAt n).ep.epoch Resp.ERR_ACCESS

/-- A request that an interface presents: its identity, the port's agent check, then the admission pipeline (R149, R328, R329). -/
def State.presentExt (s : State) (n : Nat) (r : Req) (e : ReadErr) : State :=
  let r' := s.identify n r
  if (niType n = .cla ∨ niType n = .pea) ∧ s.agentOk n r'.agent = false then s.agentRefused n r'
  else s.presentReq n r' e

/-- A request opened by the party outside a port, which the port remembers until it completes. -/
def State.openExt (s : State) (n : Nat) (k : ExtKind) (tag : Nat) (data : List Body) (r : Req) (e : ReadErr) : State :=
  let i := (s.portAt n).next
  let s1 := s.modPort n (fun x =>
    { x with next := i + 1,
             opens := if r.posted then x.opens else x.opens ++ [⟨i, k, tag, r.line, data, none⟩] })
  s1.presentExt n { r with ident := i } e

/-! ### Completions at a CPA -/

/-- An open request by its identifier. -/
def Port.openBy (x : Port) (i : Nat) : Option ExtReq := x.opens.find? (fun e => e.ident == i)
/-- The port without an open request. -/
def Port.close (x : Port) (i : Nat) : Port := { x with opens := x.opens.filter (fun e => e.ident != i) }

/-- A demand held for a write-back leaves with its SRSP once the WBM has ended (R339). -/
def State.releaseHeld (s : State) (n i : Nat) : State :=
  let ds := (s.portAt n).demands
  let go := ds.filter (fun d => d.wbm == some i && d.held.isSome)
  let s1 := s.modPort n (fun x =>
    { x with demands := (ds.filter (fun d => !(d.wbm == some i && d.held.isSome))) })
  go.foldl (fun s d => match d.held with
    | some p => s.handOver n d.p.h.src.toNat p none 0
    | none => s) s1

/-- The Cmp, Cmp-S or Cmp-E of a grant (R336). -/
def grantNdr (g : Nat) : Option NdrOp := if g = 1 then some .cmpS else if g = 2 ∨ g = 3 then some .cmpE else none

/-- The requester's WDATA or CACK for a tag of this NI (R201). -/
def State.sendOwn (s : State) (n : Nat) (c : Completion) (wdata : Bool) (lines : List Body) : State :=
  let p := mkResp (if wdata then Vn.DAT else Vn.RSP) (if wdata then 2 else 5) c.tag c.agent c.priv c.origin c.epoch Resp.OK n 0 lines
  s.handOver n c.dest p none 0

/-- The host's answer to a read: MemData with the Cmp of the grant, or MemData-NXM; then CACK (R336, R338). -/
def State.answerRead (s : State) (n : Nat) (x : ExtReq) (c : Completion) (upg : Bool) : State :=
  let g := msgGrant c.msg
  let ok := c.resp == Resp.OK
  let poisoned := c.resp == Resp.ERR_POISON && !c.lines.isEmpty
  let d := (c.lines.headD ⟨true, allBytes, 0⟩).data
  if ok || poisoned then
    let s1 := if upg && ok then s else s.portOut n (.drs false poisoned x.tag d)
    let s2 := match grantNdr g with
      | some op => s1.portOut n (.ndr op x.tag)
      | none => s1
    s2.sendOwn n c false []
  else if upg then (s.portOut n (.ndr .cmp x.tag)).portPwErr n Vn.REQ
  else s.portOut n (.drs true false x.tag 0)

/-- A WRGO for a host write: the CPA sends the line; the host's Cmp follows its injection (R336, R337). -/
def State.sendWdata (s : State) (n : Nat) (x : ExtReq) (c : Completion) : State :=
  let b := x.data.headD ⟨true, allBytes, 0⟩
  (s.modPort n (fun y => { y with opens := y.opens.map (fun e => if e.ident = x.ident then { e with wtag := some c.tag } else e) })).sendOwn
    n c true [⟨b.poison, allBytes, b.data⟩]

/-- The request word of a CPA's own WRI: its CAPS, HOLD I, and the native request that produced it, MemWr from state A (R196, R222, R334). -/
def State.staleWord (s : State) (n : Nat) : W64 := BitVec.ofNat 64 (s.xlateCaps n (s.niAt n).ep.bank * 2 ^ 16 + (6 + 16 * 2))

/-- A write-back found stale is sent again as a WRI of the whole line from the same buffer (R337). -/
def State.staleWri (s : State) (n : Nat) (x : ExtReq) (c : Completion) (e : ReadErr) : State :=
  let s1 := (s.bump (Off.NI_PORT_CNT n) Fld.NI_PORT_CNT.STALE_WRI).releaseHeld n x.ident
  let r : Req := { vn := Vn.REQ, opcode := 5, agent := c.agent, priv := s.flag (Off.NI_PORT_CFG n) Fld.NI_PORT_CFG.MEM_PRIV,
                   origin := false, line := x.line, data := x.data, pl := lineOfWords [s.staleWord n, allBytes], machine := none, ident := x.ident }
  s1.presentReq n r e

/-- The host's answer to a HSNP (R344). -/
def State.answerSnoop (s : State) (n : Nat) (x : ExtReq) (op : Nat) (c : Completion) : State :=
  let data := !c.lines.isEmpty
  let b := c.lines.headD ⟨false, allBytes, 0⟩
  let r := msgRstate c.msg
  let send := fun (s : State) (m : D2hRsp) (d : Bool) =>
    let s1 := s.portOut n (.d2hRsp m x.tag)
    if d then s1.portOut n (.d2hData x.tag b.poison b.data) else s1
  if c.resp = Resp.ERR_POISON ∧ data = true then send s .iFwdM true
  else if c.resp ≠ Resp.OK then (send s .iHitI false).portProtocol n 0 Vn.REQ
  else if data then
    (if op = 3 then send s .vFwdV true else if r = 0 then send s .iFwdM true else send s .sFwdM true)
  else if !msgHit c.msg then send s .iHitI false
  else if r = 0 then send s .iHitSE false
  else if op = 3 then send s .vHitV false
  else send s .sHitSE false

/-- The CXL.io status of a RESP (R346). -/
def ioStatus (resp : Nat) : IoStatus :=
  if resp = Resp.OK then .sc else if resp = Resp.ERR_UNSUPPORTED then .ur else if resp = Resp.ERR_POISON then .ep else .ca

/-- The RESP of a CXL.io status (R346). -/
def ioResp : IoStatus → Nat
  | .sc => Resp.OK | .ur => Resp.ERR_UNSUPPORTED | .ca => Resp.ERR_ACCESS | .ep => Resp.ERR_POISON | .timeout => Resp.ERR_TIMEOUT

/-- What a CPA or MPA makes of the completion of a request of the party outside (R336 to R338, R344 to R346). -/
def State.serveExt (s : State) (n : Nat) (x : ExtReq) (c : Completion) (e : ReadErr) : State :=
  let done := s.modPort n (fun y => y.close x.ident)
  match x.kind with
  | .mem k =>
    if k ≤ 3 then done.answerRead n x c false
    else if k = 4 then
      (if c.resp = Resp.OK ∨ c.resp = Resp.ERR_POISON then done.answerRead n x c true
       else (done.portOut n (.ndr .cmp x.tag)).portPwErr n Vn.REQ)
    else if k = 5 then
      (let s1 := done.portOut n (.ndr .cmp x.tag)
       if c.resp = Resp.OK then s1 else s1.portPwErr n Vn.REQ)
    else if c.resp ≠ Resp.OK then ((done.portOut n (.ndr .cmp x.tag)).portPwErr n Vn.REQ).releaseHeld n x.ident
    else if msgStale c.msg then s.staleWri n x c e
    else s.sendWdata n x c
  | .snoop op => done.answerSnoop n x op c
  | .ioRead => done.portOut n (.ioCpl x.tag (ioStatus c.resp) (if c.resp = Resp.OK ∨ c.resp = Resp.ERR_POISON then c.lines else []))
  | .ioWrite => if c.resp = Resp.OK then done else done.portPwErr n Vn.ION
  | .engine => done.portOut n (.engine c)
  | .chiplet => done

/-! ### Completions at a CLA -/

/-- The wire on which a CLA hands packets to its link controller half (chapter 11). -/
def claTxKey (n : Nat) : Nat := 8192 + n
/-- The wire on which a CLA's link controller half hands over what the chiplet sent. -/
def claRxKey (n : Nat) : Nat := 8448 + n

/-- A packet goes to the chiplet, with its admission fields as they are (R358, R361); nothing is presented while the link is not in service. -/
def State.toChiplet (s : State) (n : Nat) (p : Pkt) : State :=
  if (s.portAt n).up then s.setWire (claTxKey n) (s.wireAt (claTxKey n) ++ p.flits) else s

/-- The link tag of an open request of the chiplet. -/
def State.linkTag (s : State) (n i : Nat) : Nat := match (s.portAt n).openBy i with
  | some x => x.tag
  | none => 0

/-- MSG as the chiplet sees it: bits [28:25] hold the native state of the grant in DATA and CMP (R361). -/
def State.claMsg (s : State) (n bank vn op msg : Nat) : Nat :=
  if (vn = Vn.DAT ∧ op = 1) ∨ (vn = Vn.RSP ∧ op = 1) then
    msg % 2 ^ 19 + s.grantNative n bank (msgGrant msg) * 2 ^ 19 + nbits msg 23 11 * 2 ^ 23
  else msg

/-- A response for a request of the chiplet is delivered with TAG rewritten to the link tag (R359, R361). -/
def State.claDeliver (s : State) (n i : Nat) (p : Pkt) : State :=
  let bank := (s.bankOf n p.h.epoch.toNat).1
  let vn := p.h.vn.toNat
  let mid := if vn = Vn.IOC then p.h.mid else midOf p.h.resp p.h.town (s.claMsg n bank vn p.h.opcode.toNat p.h.msg)
  s.toChiplet n { p with h := { p.h with tag := BitVec.ofNat 8 (s.linkTag n i), mid := mid } }

/-- The packet by which a completion that the NI has made or put together is delivered to the chiplet: for REQ a CMP, or the FNCCMP of a fence whose
parts the home slices have answered (R170, R180, R202, R229, R359). -/
def Completion.pkt (c : Completion) (n : Nat) : Pkt :=
  let p := if c.vn = Vn.REQ then
      mkResp Vn.RSP (if c.opcode = 8 ∧ c.synth = false then 6 else 1) c.tag c.agent c.priv c.origin c.epoch c.resp n 0 []
    else mkResp Vn.IOC (if c.opcode = 1 ∨ c.opcode = 3 then 2 else 1) c.tag c.agent c.priv c.origin c.epoch c.resp n c.msg
      (c.lines.filter (fun b => b.be != 0))
  { p with h := { p.h with src := BitVec.ofNat 8 n, pri := BitVec.ofNat 2 c.pri } }

/-- A chiplet's transfer that went out as several packets, whose one completion the NI puts together (R169, R170). -/
def ExtReq.split (x : ExtReq) (c : Completion) : Bool :=
  c.vn == Vn.ION && decide (1 < (Req.pieces
    { vn := c.vn, opcode := c.opcode, agent := c.agent, priv := c.priv, origin := c.origin, line := x.line, data := x.data, pl := 0, machine := none,
      ident := x.ident }).length)

/-- A link tag closes with its completion, unless a completion record of its tag is open (R359). -/
def State.serveChiplet (s : State) (n : Nat) (c : Completion) : State :=
  let split := match (s.portAt n).openBy c.ident with
    | some x => x.split c
    | none => false
  let s1 := if c.synth || (c.vn == Vn.REQ && c.opcode == 8) || split then s.claDeliver n c.ident (c.pkt n) else s
  if !c.synth && ((s.niAt n).compRec c.tag).isSome then
    s1.modPort n (fun y => { y with opens := y.opens.map (fun e => if e.ident = c.ident then { e with wtag := some c.tag } else e) })
  else s1.modPort n (fun y => y.close c.ident)

/-- One completion at a boundary port; an NI that is not one leaves its completions at its interface (R330, R336, R356, R359). -/
def State.serveComp (s : State) (n : Nat) (c : Completion) (e : ReadErr) : State :=
  match niType n with
  | .cla => s.serveChiplet n c
  | .cpa | .mpa | .pea =>
    match (s.portAt n).openBy c.ident with
    | some x => s.serveExt n x c e
    | none => s
  | _ => s

/-- True for the NIs whose completions a boundary port takes. -/
def isPort (n : Nat) : Bool :=
  match niType n with
  | .cpa | .mpa | .cla | .pea => true
  | _ => false

/-- The completions at a boundary port are served in their order; a stale write-back may add one more. -/
def State.serveComps (s : State) (n : Nat) (e : ReadErr) : State :=
  if !isPort n then s
  else
    let go := fun (s : State) =>
      let l := (s.niAt n).comps
      l.foldl (fun s c => s.serveComp n c e) (s.modNi n (fun u => { u with comps := [] }))
    go (go s)

/-! ### Injection of WDATA and CACK -/

/-- The port is told that the WDATA or CACK of a tag is being injected: a CPA presents the Cmp of its write and releases the
SRSP held for it; a CLA closes the link tag (R331, R336, R339, R359). -/
def State.recordClosed (s : State) (n tag : Nat) : State :=
  match (s.portAt n).opens.find? (fun x => x.wtag == some tag) with
  | none => s
  | some x =>
    let s1 := s.modPort n (fun y => y.close x.ident)
    match x.kind with
    | .mem _ => (s1.portOut n (.ndr .cmp x.tag)).releaseHeld n x.ident
    | _ => s1

end Sys2Proof.Machine
end

