-- ==== Sys2Proof/Machine/NiSend.lean ====
section
/-! DEFINITION. Meanings of the sending commands of a network interface: tag allocation, fences, answers, injection, retries and
timers (R149 to R190, R229, R277 to R302). -/
namespace Sys2Proof.Machine

/-! ### Step 6 -/

/-- A request of IOP or ION waits for the old epoch to drain, for the route to its destination has changed (R183). -/
def State.epochHeld (s : State) (n : Nat) (w : Waiting) : Bool :=
  let u := s.niAt n
  (w.r.vn == Vn.IOP || w.r.vn == Vn.ION) && w.epoch == u.ep.epoch && u.ep.holds.contains w.dest

/-- A waiting request may take its next step-6 slot: no earlier request of its VN waits (R182), its destination is not held by R183,
its queue has room, and a tag and buffers are free (R172, R174, R183, R279). -/
def State.mayAllocate (s : State) (n : Nat) (w : Waiting) : Bool :=
  let u := s.niAt n
  match w.todo with
  | [] => true
  | p :: _ =>
    !s.epochHeld n w &&
    u.queueRoom w.pri w.flow && decide (w.r.txLines p ≤ u.txFree) && decide (w.r.rxLines p ≤ u.rxFree) &&
    (w.r.posted || (s.freeTag n w.r.vn).isSome)

/-- The first waiting request that step 6 can serve; requests of one VN keep their order, but one that R183 holds does not stop those of its VN to
other destinations (R182, R183). -/
def State.nextWaiting (s : State) (n : Nat) : Option (Nat × Waiting) :=
  let l := (s.niAt n).wait
  (List.range l.length).findSome? (fun i =>
    match l[i]? with
    | some w => if (l.take i).any (fun v => v.r.vn == w.r.vn && !(s.epochHeld n v && v.dest != w.dest)) || !s.mayAllocate n w then none else some (i, w)
    | none => none)

/-- A piece takes its tag and buffers, is built, sampled and queued (R149 steps 6 and 7, R170, R172, R174, R538). -/
def State.sendPiece (s : State) (n : Nat) (w : Waiting) (p : Piece) : State :=
  let tag := if w.r.posted then none else s.freeTag n w.r.vn
  let pk := w.pkt n (tag.getD 0) p
  let (s1, h) := s.leafSample n w.dest pk.h
  let pk' := { pk with h := h }
  let s2 := s1.evNi n 4 true (some h)
  match tag with
  | none =>
    (s2.modNi n (fun u => { u with txFree := u.txFree - w.r.txLines p })).enqueue n w.pri w.flow
      ⟨pk', w.dest, s.niTime n, false, w.r.txLines p⟩
  | some t =>
    (s2.takeTag n t { Tag.freed with
      st := .opened, req := some pk', dest := w.dest, seq := w.seq, xfer := w.xfer, piece := p.place,
      data := if w.r.isRead || w.r.cohWrite then p.data else [],
      rx := w.r.rxLines p, tx := w.r.txLines p }).enqueue n w.pri w.flow ⟨pk', w.dest, s.niTime n, false, 0⟩

/-- NI_TAG_ALLOCATE: the next waiting request that can proceed obtains a tag and buffers for its next packet, which enters its
injection queue (R149, R169, R172, R174, R183, R279). -/
def execNiTagAllocate (n : Fin 256) (s : State) : Outcome :=
  if !s.runs (niIsland n) then .next s
  else
  match s.nextWaiting n with
  | none =>
    if (s.niAt n).wait.isEmpty then .next s else .next (s.evNi n 31 false none)
  | some (i, w) =>
    match w.todo with
    | [] => .next (s.modNi n (fun u => { u with wait := u.wait.eraseIdx i }))
    | p :: rest =>
      let s1 := s.modNi n (fun u => { u with wait := if rest.isEmpty then u.wait.eraseIdx i else u.wait.set i { w with todo := rest } })
      .next (s1.sendPiece n w p)

/-! ### Fences -/

/-- Some REQ request presented before a sequence number has not completed (R229). -/
def State.earlierReq (s : State) (n seq : Nat) : Bool :=
  let u := s.niAt n
  u.tags.any (fun e => decide (e.2.seq < seq) && (e.2.st == .opened || e.2.st == .retryWait) && (match e.2.req with
    | some p => p.h.vn.toNat == Vn.REQ
    | none => false)) ||
  u.wait.any (fun w => w.r.vn == Vn.REQ && decide (w.seq < seq)) ||
  u.strain.held.any (fun h => h.r.vn == Vn.REQ && decide (h.seq < seq)) ||
  u.fences.any (fun h => decide (h.seq < seq))

/-- Destinations of an FNC: one home slice for each set bit of the fence mask (R229). -/
def fenceDests (mask : BitVec 16) : List Nat := (List.range 16).filter (fun h => mask.getLsbD h)

/-- One FNC of a fence round: steps 4, 5 and 7 toward a home slice; without a route its part ends with ERR_FENCED (R149, R229). -/
def State.fenceTo (s : State) (n : Nat) (f : Held) (x pri colour h : Nat) : State :=
  let dest := sliceNi h
  let bank := (s.bankOf n f.epoch).1
  match s.routeTo n bank dest with
  | none => (s.noRoute n dest Vn.REQ).pieceDone n x h Resp.ERR_FENCED 0 [] dest 0 0 true
  | some (k, w) =>
    let s1 := if 0 < k then (s.bump (Off.NI_ROUTE_CNT n) Fld.NI_ROUTE_CNT.ALT_USED).evNi n 28 true (some f.r.attrs) else s
    let c := s1.contract n bank dest Vn.REQ 1
    let route := if c.route0 then s1.routeWord n bank dest 0 else w
    let s2 := if c.demoted then s1.bump (Off.NI_ROUTE_CNT n) Fld.NI_ROUTE_CNT.GT_DEMOTED else s1
    s2.modNi n (fun u => { u with wait := u.wait ++
      [⟨f.r, f.seq, dest, route, if c.flow.isSome then c.pri else pri, colour, f.epoch, c.flow, [⟨h, 0, [], false⟩], x⟩] })

/-- NI_FENCE_ADMIT: an FNC is metered once, a red one being reported where some part of it belongs to a GT flow (R298); one that no earlier REQ precedes is sent once for each bit of the fence mask, or completed locally with OK
when the mask is empty (R229). -/
def execNiFenceAdmit (n : Fin 256) (err : ReadErr) (s : State) : Outcome :=
  match (s.niAt n).fences with
  | [] => .next s
  | f :: rest =>
    if s.earlierReq n f.seq then .next s
    else
      let s1 := (s.modNi n (fun u => { u with fences := rest })).tableErr n (s.niAt n).ep.bank err
      let ds := fenceDests (s.niAt n).fenceMask
      if ds.isEmpty then .next ((s1.localDone n f.r f.epoch Resp.OK).serveComps n err)
      else
        let x := (s1.niAt n).nextXfer
        let gt := ds.any (fun h => (s1.contract n (s1.bankOf n f.epoch).1 (sliceNi h) Vn.REQ 1).flow.isSome)
        let (s2, col, _, _) := s1.meterStep n f.r (s1.priMap n Vn.REQ) gt
        let pri := if col = 2 then 0 else if col = 1 then s1.priMap n Vn.REQ - 1 else s1.priMap n Vn.REQ
        let s3 := s2.modNi n (fun u =>
          { u.setXfer x (some ⟨f.r, f.epoch, ds.map (fun h => ⟨h, 0, [], false⟩), true, [], 0⟩) with
            nextXfer := x + 1, fenceMask := 0 })
        .next ((ds.foldl (fun s h => s.fenceTo n f x pri col h) s3).serveComps n err)

/-! ### Answers -/

/-- WDATA of the NI's own tag whose line its transmit buffer has held since admission, until injection (R186, R208). -/
def Pkt.ownWdata (p : Pkt) (n : Nat) : Bool :=
  p.h.vn.toNat == Vn.DAT && p.h.opcode.toNat == 2 && p.h.town == n && niType n != .cla

/-- Receive lines of the largest response to a demand: one for a demand that is answered with data, none for a write, an eviction, or a read of
permission alone (R174, R197). -/
def snpRx (p : Pkt) : Nat :=
  let op := p.h.opcode.toNat
  if (1 ≤ op ∧ op ≤ 4) ∨ op = 6 ∨ op = 8 ∨ (op = 7 ∧ bit (p.word 0) 0 = false) then 1 else 0

/-- A demand that finds no usable route is completed locally with ERR_FENCED; a response is discarded (R151). -/
def State.answerNoRoute (s : State) (n : Nat) (a : Answer) : State :=
  let h := a.p.h
  let s1 := s.noRoute n a.dest h.vn.toNat
  if h.vn.toNat = Vn.SNP then
    s1.synthDone n 0 { Tag.freed with req := some a.p, ident := a.ident } Resp.ERR_FENCED
  else if a.p.ownWdata n then s1.modNi n (fun u => { u with txFree := u.txFree + 1 })
  else s1

/-- An answer or SNP demand of the unit is routed in the bank of its EPOCH, takes its contract priority and COLOUR 0b11, and enters an
injection queue; a demand takes a tag and the space of its answer (R174). `drop` removes it from the unit's list; it waits where there is no room (R91, R151, R172, R278, R282). -/
def State.sendAnswer (s : State) (n : Nat) (a : Answer) (err : ReadErr) (drop : State → State) : State :=
  let e := a.p.h.epoch.toNat
  let vn := a.p.h.vn.toNat
  let bank := (s.bankOf n e).1
  let s0 := (s.tableErr n bank err).staleCheck n e
  let c0 := s0.contract n bank a.dest vn (a.p.h.len.toNat + 1)
  let c : Contract := match a.pri with
    | some p => { c0 with pri := p, flow := none, route0 := false, tooLong := none, demoted := false }
    | none => { c0 with tooLong := none }
  let found := if c.route0 then some (0, if a.dest = n then 0 else s0.routeWord n bank a.dest 0) else s0.routeTo n bank a.dest
  match found with
  | none => (drop s0).answerNoRoute n a
  | some (k, w) =>
    let lines := if niType n = .hsl then a.p.lines.length else 0
    let held := if a.p.ownWdata n then 1 else 0
    let u := s0.niAt n
    let tag := if vn = Vn.SNP then s0.freeTag n vn else some a.p.h.tag.toNat
    let rx := if vn = Vn.SNP then snpRx a.p else 0
    if !u.queueRoom c.pri c.flow || decide (u.txFree < lines) || decide (u.rxFree < rx) then s
    else
      match tag with
      | none => s
      | some t =>
        let s1 := if 0 < k then (s0.bump (Off.NI_ROUTE_CNT n) Fld.NI_ROUTE_CNT.ALT_USED).evNi n 28 true (some a.p.h) else s0
        let s2 := if c.demoted then s1.bump (Off.NI_ROUTE_CNT n) Fld.NI_ROUTE_CNT.GT_DEMOTED else s1
        let h := { a.p.h with route := w, pri := BitVec.ofNat 2 c.pri, colour := 3, src := BitVec.ofNat 8 n, tag := BitVec.ofNat 8 t }
        let (s3, h') := (drop s2).leafSample n a.dest h
        let p := { a.p with h := h' }
        let s4 := if vn = Vn.SNP then
            s3.takeTag n t { Tag.freed with st := .opened, req := some p, dest := a.dest, ident := a.ident, rx := rx }
          else s3
        (s4.modNi n (fun u => { u with txFree := u.txFree - lines })).enqueue n c.pri c.flow ⟨p, a.dest, s.niTime n, false, lines + held⟩

/-- NI_SEND_ANSWER: the next answer of the attached unit is sent under R151, an MGT message of the unit into the MGT queue, which keeps two places
for C3 and C4 faults; with no answer waiting, the next stamp of the stamp queue goes to its sampling NI as P0 (R151, R279, R508, R539). -/
def execNiSendAnswer (n : Fin 256) (err : ReadErr) (s : State) : Outcome :=
  if !s.runs (niIsland n) then .next s
  else
  let u := s.niAt n
  match u.answers with
  | a :: rest =>
    let drop := fun s : State => s.modNi n (fun u => { u with answers := rest })
    if a.p.h.vn.toNat = Vn.MGT then
      .next (if u.mgt.length < 6 then (drop s).queueMgt n a.dest a.p else s)
    else .next (s.sendAnswer n a err drop)
  | [] =>
    match u.leaf.stamps with
    | p :: rest =>
      .next (s.sendAnswer n ⟨bits (p.word 0) 48 8, p, some 0, 0⟩ err (fun s => s.modNi n (fun u => { u with leaf := { u.leaf with stamps := rest } })))
    | [] => .next s

/-! ### Injection -/

/-- The windows of the injection port: the injection slots of its flows as GT windows and the MGT window (R281, R286). -/
def State.injWindows (s : State) (n : Nat) : List Window :=
  let flows := (List.range 32).foldl (fun a f =>
    let w := s.injEntry n f
    if bits w 62 2 = 1 then
      let per := 2 ^ bits w 36 4
      a ++ (List.range (256 / per)).map (fun k => (⟨true, (bits w 28 8 + k * per) * 64, 64⟩ : Window))
    else a) []
  let m := s.injEntry n 32
  if bits m 62 2 = 2 then flows ++ [⟨false, bits m 28 8 * 64, 64⟩] else flows

/-- A head may start at the injection port under its gates: TRAIL_FT 0, GUARD_FT four cycles at the GT floor lengthened by 12.5 %
(R137, R138, R286, R287, R289). -/
def State.injGate (s : State) (n : Nat) (h : Hdr) (selfTo : Bool) : Bool :=
  let i := niIsland n
  let c := s.effConf i
  let ws := s.injWindows n
  let m := gateMode c (!ws.isEmpty) false
  if h.gt then m != .closed
  else
    let f := s.floorMhz i
    let loop := if selfTo || decide (h.len.toNat + 1 ≤ s.credit (injKey n) h.vn.toNat false) then Span.zero else Span.cycles 2 f 0 1
    headMayStart m (decide (c = .holdover)) (bindingWindows (h.vn.toNat == 7) ws) (s.local16 i % frame16) (s.islAt i).curMhz
      (Span.cycles 4 f 0 1) 0 loop h.len.toNat h.pri.toNat

/-- The Lid of a band is closed (R300). -/
def State.lidClosed (s : State) (b : Nat) : Bool :=
  (s.fld Off.GL_LID_CTRL Fld.GL_LID_CTRL.POT_CLOSE).testBit b || (s.fld Off.GL_LID_CTRL Fld.GL_LID_CTRL.SAUCER).testBit b

/-- Why a head packet may not start, in the order of the event counters of R551. -/
inductive Stop where
  | no | credit | shaper | gate | lid | route
  deriving DecidableEq, Repr

/-- The packets of a queue code that may be its next, each with its flow, at most one per VN: the head of the queue, or of the ready flows of a VN that
whose slot is the earliest (R279, R283, R294). -/
def Ni.queueHeads (u : Ni) (q : Nat) : List (QPkt × Option Nat) :=
  let plain := fun (l : List QPkt) => l.head?.toList.map (fun h => (h, none))
  if q = 0 then plain u.mgt
  else if q = 2 then plain u.p2
  else if q = 3 then plain u.p1
  else if q = 4 then plain u.p0
  else
    (List.range 8).filterMap (fun vn =>
      match (u.flows.filter (fun e => e.2.ready && e.2.head.any (fun h => h.p.h.vn.toNat == vn && (h.p.h.pri.toNat == 2) == (q == 5)))).foldl
        (fun a e => match a with
          | none => some e
          | some b => if e.2.slotEnd < b.2.slotEnd then some e else some b) (none : Option (Nat × Flow)) with
      | some (f, x) => x.head.map (fun h => (h, some f))
      | none => none)

/-- The packet of a queue code that may be its next on a VN. -/
def Ni.queueHead (u : Ni) (q vn : Nat) : Option (QPkt × Option Nat) := (u.queueHeads q).find? (fun e => e.1.p.h.vn.toNat == vn)

/-- What stops the head packet of a queue: credit, shaper, gate, closed Lid, or for MGT the want of a route (R111, R154, R293, R301, R507). -/
def State.headStop (s : State) (n q : Nat) (e : QPkt) : Stop :=
  let h := e.p.h
  let vn := h.vn.toNat
  let me := e.dest == n
  let need := if h.gt then 1 else min (h.len.toNat + 1) (sharedDepth vn)
  let lidQ := q == 2 || q == 3 || q == 4
  if lidQ && s.lidClosed (niBand n) then .lid
  else if (match queueShaper q with
    | some p => s.shaperHolds n p
    | none => false) then .shaper
  else if !s.injGate n h me then .gate
  else if q = 0 ∧ (s.routeTo n (s.niAt n).ep.bank e.dest).isNone then .route
  else if !me && decide (s.credit (injKey n) vn h.gt < need) then .credit
  else .no

/-- Candidates of the injection arbiter: packets in progress by VN, and queue heads whose VN and queue are at a packet boundary, with what stops them (R154). -/
def State.injCands (s : State) (n : Nat) : List (Cand × Stop) :=
  let u := s.niAt n
  let body := u.inj.filterMap (fun e =>
    match e.2.1 with
    | f :: _ =>
      let c : Cand := ⟨e.2.2.2, e.1, f.gt, true, e.2.2.1.p.h.pri.toNat⟩
      some (c, if e.2.2.1.dest != n && decide (s.credit (injKey n) e.1 f.gt < 1) then Stop.credit else Stop.no)
    | [] => none)
  let heads := (List.range 6).flatMap (fun q => (u.queueHeads q).filterMap (fun (e, _) =>
    if u.inj.any (fun x => x.1 == e.p.h.vn.toNat || x.2.2.2 == q) then none
    else some ((⟨q, e.p.h.vn.toNat, e.p.h.gt, false, e.p.h.pri.toNat⟩ : Cand), s.headStop n q e)))
  body ++ heads

/-- The head packet of a queue is taken from it. -/
def Ni.takeHead (u : Ni) (q : Nat) (flow : Option Nat) : Ni :=
  match flow with
  | some f =>
    let x := u.flow f
    u.setFlow f { x with q := x.q.drop 1, due := false, missed := false, orphans := x.orphans - 1 }
  | none =>
    if q = 0 then { u with mgt := u.mgt.drop 1 } else if q = 2 then { u with p2 := u.p2.drop 1 }
    else if q = 3 then { u with p1 := u.p1.drop 1 } else { u with p0 := u.p0.drop 1 }

/-- FAULT_LOSS: an NI whose MGT queue is empty with non-zero fold counts sends one and clears the counts; held C3 and C4 messages take
the places that free first (R508). -/
def State.afterMgt (s : State) (n : Nat) : State :=
  let u := s.niAt n
  match u.heldFaults with
  | f :: rest =>
    if u.mgt.length < 8 then
      s.modNi n (fun u => { u with heldFaults := rest, mgt := u.mgt ++ [⟨s.faultPkt n f, 249, s.niTime n, false, 0⟩] })
    else s
  | [] =>
    let c := s.rd (Off.NI_FAULT_CNT n)
    let l2 := bits c Fld.NI_FAULT_CNT.LOST_C2.lo Fld.NI_FAULT_CNT.LOST_C2.w
    let l1 := bits c Fld.NI_FAULT_CNT.LOST_C1.lo Fld.NI_FAULT_CNT.LOST_C1.w
    let l0 := bits c Fld.NI_FAULT_CNT.LOST_C0.lo Fld.NI_FAULT_CNT.LOST_C0.w
    if u.mgt.isEmpty && decide (0 < l0 + l1 + l2) then
      let s1 := ((s.setFld (Off.NI_FAULT_CNT n) Fld.NI_FAULT_CNT.LOST_C2 0).setFld (Off.NI_FAULT_CNT n) Fld.NI_FAULT_CNT.LOST_C1 0).setFld
        (Off.NI_FAULT_CNT n) Fld.NI_FAULT_CNT.LOST_C0 0
      s1.report n 0 .FAULT_LOSS (min l2 8191 * 2 ^ 26 + min l1 8191 * 2 ^ 13 + min l0 8191)
    else s

/-- A flit that carries a line of the transmit buffer. -/
def Flit.hasLine : Flit → Bool
  | .head _ h _ => h.hdata
  | .body _ _ _ _ _ _ _ => true

/-- The transmit buffer's check of a flit that carries data: a corrected byte is counted and reported, an uncorrectable one poisons
the line (R187). -/
def State.txCheck (s : State) (n : Nat) (f : Flit) (e : BufErr) : State × Flit :=
  if !f.hasLine then (s, f)
  else
    let mark := fun (s : State) => (s.setFld (Off.NI_BUF_ERR n) Fld.NI_BUF_ERR.LAST_BUF 0).setFld (Off.NI_BUF_ERR n) Fld.NI_BUF_ERR.LAST_LINE e.line
    let s1 := if 0 < e.ce then
        let s1 := (mark (s.bumpBy (Off.NI_BUF_ERR n) Fld.NI_BUF_ERR.CE_TX e.ce)).setFld (Off.NI_ERR_STATUS n) Fld.NI_ERR_STATUS.BUF_CE 1
        let ep := epochMark (s.niTime n)
        if s.flag (Off.NI_CTRL n) Fld.NI_CTRL.CE_REPORT && (s.niAt n).bufCeEpoch != ep then
          ((s1.modNi n (fun u => { u with bufCeEpoch := ep })).occursNi n .NI_BUF_CE 0 0 (e.ce - 1)).reportNi n .NI_BUF_CE 0 0
        else s1.occursNi n .NI_BUF_CE 0 0 e.ce
      else s
    if e.ue.isEmpty then (s1, f)
    else
      let s2 := e.ue.foldl (fun s _ =>
        ((mark (s.bump (Off.NI_BUF_ERR n) Fld.NI_BUF_ERR.UE_TX)).setFld (Off.NI_ERR_STATUS n) Fld.NI_ERR_STATUS.BUF_UE 1).reportNi n .NI_BUF_UE 0 f.vn) s1
      match f with
      | .head g h pl =>
        let h' := { h with poison := true }
        (s2, .head g (if vnResponse h.vn.toNat && h.resp == 0 then { h' with mid := midOf Resp.ERR_POISON h.town h.msg } else h') pl)
      | .body g v q l sr tg b => (s2, .body g v q l sr tg { b with poison := true })

/-- What the injection of a packet's head does beside sending it: counts, the start of its timeout, the balance of posted packets, the
answered request, and the completion record of a WDATA or CACK (R177, R318, R321, R331). -/
def State.headInjected (s : State) (n q : Nat) (flow : Option Nat) (e : QPkt) : State :=
  let h := e.p.h
  let vn := h.vn.toNat
  let now := s.niTime n
  let s1 := s.evNi n 7 true (some h)
  let s2 := match flow with
    | some _ =>
      if q = 1 then (s1.bump (Off.NI_GT_CNT n) Fld.NI_GT_CNT.SENT_P3).evNi n 23 true (some h)
      else (s1.bump (Off.NI_GT_CNT n) Fld.NI_GT_CNT.SENT_P2).evNi n 24 true (some h)
    | none => s1
  let own := vnResponse vn && h.town == n && ((vn == Vn.DAT && h.opcode.toNat == 2) || (vn == Vn.RSP && h.opcode.toNat == 5))
  let s3 := if own then s2.recordClosed n h.tag.toNat else s2
  s3.modNi n (fun u =>
    let u1 := if vn = Vn.REQ ∨ vn = Vn.ION ∨ vn = Vn.SNP then
        let x := u.tag h.tag.toNat
        if x.st = .free then u else u.setTag h.tag.toNat { x with sentAt := some (x.sentAt.getD now) }
      else u
    let u2 := if vn = Vn.IOP then
        (if h.epoch.toNat = u1.ep.epoch then { u1 with ep := { u1.ep with sent := u1.ep.sent + 1 } }
         else if u1.ep.draining && h.epoch.toNat == u1.ep.oldEpoch then { u1 with ep := { u1.ep with sentOld := u1.ep.sentOld + 1 } } else u1)
      else u1
    if vnResponse vn then
      let u3 := { u2 with unanswered := u2.unanswered.filter (fun a => !(a.1 == h.town && a.2.1 == h.tag.toNat)) }
      if own then u3.setRec h.tag.toNat none else u3
    else u2)

/-- No packet in progress on a VN of the injection port. -/
def noInj : List Flit × QPkt × Nat := ([], ⟨⟨Hdr.zero, 0, []⟩, 0, 0, false, 0⟩, 0)

/-- One flit goes to the router port with a credit, or to the NI's own receive side (R153, R154, R602). -/
def State.driveFlit (s : State) (n dest : Nat) (f : Flit) : State :=
  if dest = n then s.sendFlit (niKey n) f
  else (s.useCredit (injKey n) f.vn f.gt).sendFlit (injKey n) f

/-- The granted flit is read, checked and driven; the packet's buffers are returned with its last flit (R153, R154, R186, R187, R293). -/
def State.injectFlit (s : State) (n q : Nat) (flow : Option Nat) (e : QPkt) (f : Flit) (rest : List Flit) (err : BufErr) : State :=
  let s1 := s.touchShapers n
  let s2 := (s1.modNi n (fun u => { u with inj := KMap.set (fun _ => noInj) u.inj f.vn (if rest.isEmpty then noInj else (rest, e, q)),
                                           txFree := if rest.isEmpty then u.txFree + e.tx else u.txFree }))
  let s3 := match queueShaper q with
    | some p => s2.shaperSent n p
    | none => s2
  let (l, s3) := if f.hasLine then s3.takeFlips (bufFlipKey n) [0] else ([], s3)
  let (s4, f') := s3.txCheck n f (err.flipped l)
  let s4 := if l.isEmpty then s4 else State.markInj s3 n s4
  let s5 := (s4.evNi n 8 true (some e.p.h)).evNi n (if e.resend then 1 else 0) false none
  let s6 := if f.isHead then s5.headInjected n q flow e else s5
  s6.driveFlit n e.dest f'

/-- Due P3 packets of these flows whose slot has ended before their head flit has gone are counted as missed, and reported at most once per flow per
time epoch (R283). -/
def State.missSlots (s : State) (n : Nat) (fs : Option Nat) : State :=
  let now := s.niTime n
  ((List.range 32).filter (fun f => fs.all (· == f))).foldl (fun s f =>
    let x := (s.niAt n).flow f
    match x.head with
    | none => s
    | some h =>
      if x.due && !x.missed && h.p.h.gt && decide (x.slotEnd ≤ now) then
        let s1 := ((s.modNi n (fun u => u.setFlow f { x with missed := true })).bump (Off.NI_GT_CNT n) Fld.NI_GT_CNT.SLOT_MISSED).evNi
          n 25 true (some h.p.h)
        let e := epochMark now
        if KMap.get (fun _ => 0) (s.niAt n).missEpoch f = e then s1.occursNi n .GT_SLOT_MISSED f h.p.h.vn.toNat 1
        else (s1.modNi n (fun u => { u with missEpoch := KMap.set (fun _ => 0) u.missEpoch f e })).reportNi n .GT_SLOT_MISSED f h.p.h.vn.toNat
      else s) s

/-- The counters of cycles in which a shaper, the gate or a Lid held a head (R551). -/
def State.stopCounts (s : State) (n : Nat) (cs : List (Cand × Stop)) : State :=
  let sh := (List.range 4).foldl (fun s p =>
    if cs.any (fun c => c.2 == .shaper && queueShaper c.1.inp == some p) then s.evNi n (17 + p) false none else s) s
  let g := if cs.any (fun c => c.2 == .gate) then sh.evNi n 21 false none else sh
  if cs.any (fun c => c.2 == .lid) then g.evNi n 22 false none else g

/-- INJECTION_ARBITRATION: one cycle of an NI's injection port: one flit is granted under R127 and R154, or the slot is accounted as
starved (R555). MGT packets take their route in the active bank as they start (R507). -/
def execInjectionArbitration (n : Fin 256) (err : BufErr) (s : State) : Outcome :=
  if !s.runs (niIsland n) then .next s
  else
  let cs := s.injCands n
  let s0 := s.stopCounts n cs
  let ptr := fun g => KMap.get (fun _ => 0) (s.niAt n).rr g
  match bestCand ptr ((cs.filter (·.2 == .no)).map (·.1)) with
  | none => .next (s0.evNi n (if cs.isEmpty then 2 else 3) false none)
  | some c =>
    let s1 := s0.modNi n (fun u => { u with rr := KMap.set (fun _ => 0) u.rr (vnGroup c.vn) (c.inp * 8 + c.vn + 1) })
    if c.started then
      match KMap.get (fun _ => noInj) (s1.niAt n).inj c.vn with
      | (f :: rest, e, q) => .next (s1.injectFlit n q none e f rest err)
      | _ => .next s1
    else
      match (s1.niAt n).queueHead c.inp c.vn with
      | none => .next s1
      | some (e, flow) =>
        let p := if c.inp = 0 then
            let w := match s1.routeTo n (s1.niAt n).ep.bank e.dest with
              | some (_, w) => w
              | none => 0
            { e.p with h := { e.p.h with route := w, epoch := BitVec.ofNat 2 (s1.niAt n).ep.epoch } }
          else e.p
        let e' := { e with p := p }
        let s2 := ((s1.missSlots n flow).touchShapers n).modNi n (fun u => u.takeHead c.inp flow)
        let s3 := match p.flits with
          | f :: rest => s2.injectFlit n c.inp flow e' f rest err
          | [] => s2
        .next (if c.inp = 0 then s3.afterMgt n else s3)

/-! ### Timeouts and retries -/

/-- The timeout limit of a request in ft, 2^(c + 10): the configuration window is known by the address map, or under the boot decode by its first
64 MiB; a machine request has an endpoint, not an address (R159, R168, R177). -/
def State.timeoutFt (s : State) (n : Nat) (x : Tag) : Nat :=
  let o := Off.NI_TIMEOUT n
  let c := match x.req with
    | none => s.fld o Fld.NI_TIMEOUT.TO_COH
    | some p =>
      let vn := p.h.vn.toNat
      if vn = Vn.ION then
        (if (match (s.niAt n).xfer x.xfer with
            | some v => v.r.machine.isSome
            | none => false) then s.fld o Fld.NI_TIMEOUT.TO_IO
         else if (s.niAt n).ep.boot && decide (p.h.line * 64 < 2 ^ 26) then s.fld o Fld.NI_TIMEOUT.TO_CFG
         else if (match s.mapWindow n (s.bankOf n p.h.epoch.toNat).1 p.h.line with
            | some (w0, _) => bits w0 60 4 == 4
            | none => false) then s.fld o Fld.NI_TIMEOUT.TO_CFG
         else s.fld o Fld.NI_TIMEOUT.TO_IO)
      else if vn = Vn.SNP ∧ (niType x.dest = .mpa ∨ niType x.dest = .cla) then s.fld o Fld.NI_TIMEOUT.TO_MEM
      else s.fld o Fld.NI_TIMEOUT.TO_COH
  2 ^ (c + 10)

/-- The limit of a tag's timeout has passed since its request was first sent (R177). -/
def State.timeoutDue (s : State) (n : Nat) (x : Tag) : Bool :=
  match x.sentAt with
  | some t0 => decide (t0 + s.timeoutFt n x ≤ s.niTime n)
  | none => false

/-- A timeout's effects on an OPEN or RETRY_WAIT tag (R179). -/
def State.fireTimeout (s : State) (n t : Nat) : State :=
  let x := (s.niAt n).tag t
  let vn := match x.req with
    | some p => p.h.vn.toNat
    | none => 0
  let s1 := ((s.bump (Off.NI_ERR_CNT n) Fld.NI_ERR_CNT.TIMEOUTS).setFld (Off.NI_ERR_STATUS n) Fld.NI_ERR_STATUS.TIMEOUT 1).evNi n 27 true
    (x.req.map (·.h))
  let s2 := s1.synthDone n t x Resp.ERR_TIMEOUT
  let s3 := s2.modNi n (fun u =>
    { u.setTag t { x with st := .quarantine, got := [], tx := 0, rx := 0,
                          quarAt := s.niTime n + 2 ^ (s.fld (Off.NI_TIMEOUT n) Fld.NI_TIMEOUT.QUAR + 10) } with
      txFree := u.txFree + x.tx })
  s3.reportNi n .INIT_TIMEOUT t vn

/-- INIT_TIMEOUT: the initiator timeout of an OPEN or RETRY_WAIT tag fires once its limit has passed since the first send, unless a packet that completes
the tag has come (R177, R179 to R181). -/
def execInitTimeout (n : Fin 256) (tag : Fin 256) (s : State) : Outcome :=
  let x := (s.niAt n).tag tag
  match x.sentAt with
  | none => .next s
  | some _ =>
    if (x.st = .opened ∨ x.st = .retryWait) ∧ s.timeRuns n = true ∧ s.timeoutDue n x = true ∧ s.answerDue n tag false = false then .next ((s.fireTimeout n tag).serveComps n ReadErr.clean)
    else .next s

/-- RETRY_RESEND: the backoff ends and the request is resent with the same tag and header, its PRI, COLOUR and route chosen afresh;
without a route it ends with ERR_FENCED; a timeout that is due, or a packet that completes the tag, goes first (R149, R165, R178, R181, R320). -/
def execRetryResend (n : Fin 256) (tag : Fin 256) (err : ReadErr) (s : State) : Outcome :=
  let x := (s.niAt n).tag tag
  match x.req with
  | none => .next s
  | some p =>
    if x.st ≠ .retryWait ∨ s.niTime n < x.retryAt ∨ s.timeoutDue n x = true ∨ s.answerDue n tag false = true then .next s
    else
      let vn := p.h.vn.toNat
      let e := p.h.epoch.toNat
      let bank := (s.bankOf n e).1
      let c := s.contract n bank x.dest vn 1
      let r : Req := match (s.niAt n).xfer x.xfer with
        | some v => v.r
        | none => ⟨vn, p.h.opcode.toNat, p.h.agent.toNat, p.h.priv, p.h.origin, p.h.line, [], p.pl, none, 0⟩
      let found := if c.route0 then some (0, if x.dest = n then 0 else s.routeWord n bank x.dest 0) else s.routeTo n bank x.dest
      match found with
      | none =>
        .next (((((s.tableErr n bank err).noRoute n x.dest vn).synthDone n tag x Resp.ERR_FENCED).dropTag n tag).serveComps n err)
      | some (k, w) =>
        let s1 := s.tableErr n bank err
        let s2 := if 0 < k then (s1.bump (Off.NI_ROUTE_CNT n) Fld.NI_ROUTE_CNT.ALT_USED).evNi n 28 true (some p.h) else s1
        let s2 := if c.demoted then s2.bump (Off.NI_ROUTE_CNT n) Fld.NI_ROUTE_CNT.GT_DEMOTED else s2
        let (s3, col, pri, _) := s2.meterStep n r c.pri c.flow.isSome
        let p' := { p with h := { p.h with route := w, pri := BitVec.ofNat 2 pri, colour := BitVec.ofNat 2 col } }
        if (s3.niAt n).queueRoom pri c.flow then
          .next ((s3.modNi n (fun u => u.setTag tag { x with st := .opened, req := some p', resends := x.resends + 1 })).enqueue n pri c.flow
            ⟨p', x.dest, s.niTime n, true, 0⟩)
        else .next s

/-- QUARANTINE_END: the quarantine interval of a tag has passed and it becomes FREE; a late response that has come goes first (R179, R181). -/
def execQuarantineEnd (n : Fin 256) (tag : Fin 256) (s : State) : Outcome :=
  let x := (s.niAt n).tag tag
  if x.st = .quarantine ∧ x.quarAt ≤ s.niTime n ∧ s.answerDue n tag true = false then .next (s.dropTag n tag) else .next s

/-! ### Commits and writes -/

/-- NI_GT_STATUS.DEMOTED_ROUTE follows the usability of ROUTE_0 of each flow; a flow that becomes unusable is reported once, at a commit of the route
selection group alone (R284). -/
def State.demoteFlows (s : State) (n : Nat) (report : Bool) : State :=
  (List.range 32).foldl (fun s f =>
    let u := s.niAt n
    if s.isFlow n f then
      let w := s.injEntry n f
      let ok := s.route0Ok n u.ep.bank (bits w 40 8)
      if ok then s.modNi n (fun u => { u with demoted := u.demoted &&& ~~~(BitVec.ofNat 32 (2 ^ f)) })
      else if u.demoted.getLsbD f then s
      else
        let s1 := s.modNi n (fun u => { u with demoted := u.demoted ||| BitVec.ofNat 32 (2 ^ f) })
        if report then s1.reportNi n .GT_ROUTE_DEMOTED f (bits w 50 3) else s1
    else s.modNi n (fun u => { u with demoted := u.demoted &&& ~~~(BitVec.ofNat 32 (2 ^ f)) })) s

/-- The route selection group of an NI becomes active together: a destination without a route may be reported again (R163, R190, R284). -/
def State.commitRoutes (s : State) (n : Nat) : State :=
  ((s.commitRegs [Off.NI_LOSS n, Off.NI_PEA_DOWN n]).modNi n (fun u => { u with noRoute := [] })).demoteFlows n true

/-- NI_LOSS_COMMIT: the route selection group is committed (R163). -/
def execNiLossCommit (n : Fin 256) (s : State) : Outcome := .next (s.commitRoutes n)

/-- NI_TAG_COMMIT: the tag reservations become active, or a total above 224 is refused (R173). -/
def execNiTagCommit (n : Fin 256) (s : State) : Outcome :=
  let w := s.pendOf (Off.NI_TAG_CFG n)
  if 224 < bits w 0 8 + bits w 8 8 then .next (s.setFld (Off.NI_ERR_STATUS n) Fld.NI_ERR_STATUS.TAG_CFG 1)
  else .next (s.commitReg (Off.NI_TAG_CFG n))

/-- NI_FENCE_SW_WRITE: the software fence is set or cleared; requests held at step 2 fail as step 1 fails (R188, R436). -/
def execNiFenceSwWrite (n : Fin 256) (on : Bool) (s : State) : Outcome :=
  .next ((s.setFld (Off.NI_CTRL n) Fld.NI_CTRL.FENCE_SW (b2n on)).refenceHeld n |>.serveComps n ReadErr.clean)

/-- NI_TAG_STATUS_READ: a read from NI 248 clears HIGH_WATER (R598). -/
def execNiTagStatusRead (n : Fin 256) (s : State) : Outcome := .next (s.modNi n (fun u => { u with highWater := 0 }))

/-! ### Slots, shapers, meters and Lids -/

/-- A slot of the frame, by its number in all of fabric time, is an injection slot of a flow (R280, R281). -/
def isSlotOf (w : W64) (slot : Nat) : Bool :=
  let j := slot % 256
  let per := 2 ^ bits w 36 4
  decide (bits w 28 8 ≤ j) && (j - bits w 28 8) % per == 0

/-- The slots that local time has reached since the NI last acted, oldest first; a whole frame holds one of every flow (R67, R280). -/
def Ni.slotsReached (u : Ni) (now : Nat) : List Nat :=
  ((List.range 256).map (fun k => now / 4 + k - 255)).filter (fun j => decide (u.slotAt < 4 * j))

/-- GT_SLOT_START: local time has reached the start of slots: the head packet of each flow with such a slot becomes due if it entered its queue before that
start, unless one of the flow is due. Slots that a jump has passed start in the order of their times, and none starts twice (R67, R280, R283). -/
def execGtSlotStart (n : Fin 256) (s : State) : Outcome :=
  let now := s.niTime n
  if !s.timeRuns n || s.inReset then .next s
  else
    let s1 := s.touchShapers n
    let slots := (s.niAt n).slotsReached now
    let s2 := (List.range 32).foldl (fun s f =>
      let x := (s.niAt n).flow f
      match x.head with
      | none => s
      | some h =>
        if s.isFlow n f && !x.due && x.orphans == 0 then
          match slots.find? (fun j => isSlotOf (s.injEntry n f) j && decide (h.tin < 4 * j)) with
          | some j => s.modNi n (fun u => u.setFlow f { x with due := true, missed := false, slotEnd := 4 * j + 4 })
          | none => s
        else s) s1
    .next (s2.modNi n (fun u => { u with slotAt := max u.slotAt (now / 4 * 4) }))

/-- GT_SLOT_END: due P3 packets whose slot has ended have missed it (R283). -/
def execGtSlotEnd (n : Fin 256) (s : State) : Outcome := .next (s.missSlots n none)

/-- A shaper group that the commit refuses (R295). -/
def shaperBad (cfgs : List W64) (refill : Nat) : Bool :=
  cfgs.any (fun w => bit w 63 && (bits w 32 16 == 0 || decide (signed 16 (bits w 16 16) < 0) || decide (-64 < signed 16 (bits w 0 16)))) ||
    decide (refill < 6) || decide (12 < refill)

/-- Values of the shaper group become active: four NI_SHAPER_CFG, then REFILL_LOG2 (R13, R295). -/
def State.shaperGroup (s : State) (n : Nat) (ws : List W64) : State :=
  let s1 := (List.range 4).foldl (fun s p =>
    let o := Off.NI_SHAPER_CFG n p
    let w := ws.getD p 0
    let s1 := s.wr o w
    if s.pendOf o = w then s1.dropPend o else s1) s
  let o := Off.NI_QOS_CTRL n
  let rl := bits (ws.getD 4 0) 12 4
  let s2 := s1.setFld o Fld.NI_QOS_CTRL.REFILL_LOG2 rl
  if bits (s.pendOf o) 12 4 = rl then s2.dropPend o else s2

/-- A shaper group is refused (R295). -/
def State.shaperRefused (s : State) (n : Nat) : State :=
  (s.setFld (Off.NI_QOS_CTRL n) Fld.NI_QOS_CTRL.SHAPER_CFG_ERR 1).reportNi n .SHAPER_CFG 0 0

/-- At a refill boundary the image's defaults that wait for it are committed, or refused, and committed values become active; a later write stays
pending (R13, R295). -/
def State.shaperActive (s : State) (n : Nat) : State :=
  let s1 := match (s.niAt n).shaperDefaults with
    | none => s
    | some ws => if shaperBad (ws.take 4) (bits (ws.getD 4 0) 12 4) then s.shaperRefused n else s.shaperGroup n ws
  let s2 := match (s.niAt n).shaperCommit with
    | none => s1
    | some ws => s1.shaperGroup n ws
  s2.modNi n (fun u => { u with shaperCommit := none, shaperDefaults := none })

/-- The first boundary of NI n's shapers at or after a local time (R293). -/
def State.refillNext (s : State) (n t : Nat) : Nat :=
  let p := 2 ^ s.fld (Off.NI_QOS_CTRL n) Fld.NI_QOS_CTRL.REFILL_LOG2
  (t + p - 1) / p * p

/-- A refill boundary at local time b: each shaper's C rises by RATE times its busy time under the old rate, pending values become active, and C is
limited (R293, R295). -/
def State.refill (s : State) (n b : Nat) : State :=
  let s1 := s.touchShapersAt n b
  let s2 := s1.modNi n (fun u => (List.range 4).foldl (fun v p =>
    let w := s1.shaperCfg n p
    let x := v.shaper p
    let c := if bit w 63 then x.c + (bits w 32 16 * x.busy : Nat) else 0
    v.setShaper p { x with c := if u.shaperBusy p then c else min c 0 }) { u with refillAt := b })
  let s3 := s2.shaperActive n
  s3.modNi n (fun u => (List.range 4).foldl (fun v p =>
    let w := s3.shaperCfg n p
    let x := v.shaper p
    v.setShaper p { x with c := if bit w 63 then max (shaperLo w) (min (shaperHi w) x.c) else 0, busy := 0 }) u)

/-- SHAPER_REFILL: local time has reached the refill boundary after the last one. Of further boundaries that a jump has passed, the last does what all
do: nothing is sent between them, and C has its limit (R67, R293, R295). -/
def execShaperRefill (n : Fin 256) (s : State) : Outcome :=
  let now := s.niTime n
  let b := s.refillNext n ((s.niAt n).refillAt + 1)
  if !s.timeRuns n || s.inReset || decide (now < b) then .next s
  else
    let s1 := s.refill n b
    let p := 2 ^ s1.fld (Off.NI_QOS_CTRL n) Fld.NI_QOS_CTRL.REFILL_LOG2
    .next (if b < now / p * p then s1.refill n (now / p * p) else s1)

/-- The commit of a shaper group from its pending values, or its refusal (R295). -/
def State.commitShapers (s : State) (n : Nat) : State :=
  let cfgs := (List.range 4).map (fun p => s.pendOf (Off.NI_SHAPER_CFG n p))
  let q := s.pendOf (Off.NI_QOS_CTRL n)
  if shaperBad cfgs (bits q 12 4) then s.shaperRefused n
  else s.modNi n (fun u => { u with shaperCommit := some (cfgs ++ [q]) })

/-- SHAPER_COMMIT: the shaper group is committed for the next refill boundary, or refused (R295). -/
def execShaperCommit (n : Fin 256) (s : State) : Outcome := .next (s.commitShapers n)

/-- A meter's pending values that the commit refuses (R299). -/
def meterBad (rate burst : W64) : Bool :=
  bit rate 63 && (bits rate 0 16 == 0 || decide (bits rate 16 16 < bits rate 0 16) || decide (bits burst 0 24 < 320) ||
    decide (bits burst 24 24 < 320))

/-- A meter after a commit: full buckets where EN rises, else the buckets limited to the new bursts (R299). -/
def Meter.commit (x : Meter) : Meter :=
  let rise := bit x.pRate 63 && !bit x.rate 63
  let cbs := bits x.pBurst 0 24 * 16
  let pbs := bits x.pBurst 24 24 * 16
  { x with rate := x.pRate, burst := x.pBurst, tc := if rise then cbs else min x.tc cbs, tp := if rise then pbs else min x.tp pbs }

/-- A meter group is refused (R299). -/
def State.meterRefused (s : State) (n : Nat) : State :=
  (s.setFld (Off.NI_QOS_CTRL n) Fld.NI_QOS_CTRL.METER_CFG_ERR 1).reportNi n .METER_CFG 0 0

/-- The commit of a meter group, or its refusal (R299). -/
def State.commitMeters (s : State) (n : Nat) : State :=
  let u := s.niAt n
  if (List.range 16).any (fun m => meterBad (u.meter m).pRate (u.meter m).pBurst) then s.meterRefused n
  else
    (s.commitRegs ((List.range 8).map (Off.NI_METER_MATCH n))).modNi n (fun u =>
      (List.range 16).foldl (fun v m => v.setMeter m (v.meter m).commit) u)

/-- METER_COMMIT: the meter group is committed, or refused (R299). -/
def execMeterCommit (n : Fin 256) (s : State) : Outcome := if niHasMeter n then .next (s.commitMeters n) else .next s

/-- The Pot's closure of the band Lids is written; every change of it reports LID_CHANGE (R300, R302). -/
def State.setPotClose (s : State) (mask : Nat) : State :=
  let was := s.fld Off.GL_LID_CTRL Fld.GL_LID_CTRL.POT_CLOSE
  let s1 := s.setFld Off.GL_LID_CTRL Fld.GL_LID_CTRL.POT_CLOSE mask
  if was = mask then s1 else s1.reportUp 248 5 .LID_CHANGE (mask * 2 ^ 8)

/-- LID_POT_CLOSE_WRITE: the Pot closes or opens band Lids; in reset nothing is written and every Lid stays closed (R31, R300, R302). -/
def execLidPotCloseWrite (mask : BitVec 4) (s : State) : Outcome := if s.inReset then .next s else .next (s.setPotClose mask.toNat)

end Sys2Proof.Machine
end

