-- ==== Sys2Proof/Machine/Ports.lean ====
section
/-! DEFINITION. Meanings of the commands of the boundary ports: CPA, MPA, CLA and PEA (R328 to R363). -/
namespace Sys2Proof.Machine

/-- A port's interface takes part in transactions: FABRIC_READY is high, die B is not held from the first join, and its indication is up (R33, R330, R581). -/
def State.portLive (s : State) (n : Nat) : Bool := s.pins.ready && !(niOnB n && s.kt.bHeld) && (s.portAt n).up

/-! ### Demands of the home slices -/

/-- A demand taken from the inbox is remembered until the party outside has answered it. -/
def State.keepDemand (s : State) (n id : Nat) (p : Pkt) : State :=
  s.modPort n (fun x => { x with demands := x.demands ++ [⟨id, p, none, none, none, none, false, false, false⟩] })

/-- The front SNP demand of a port if it has the opcode; while the indication is low it is answered with ERR_FENCED (R330). -/
def State.withDemand (s : State) (n op : Nat) (k : State → Pkt → State) : Outcome :=
  match s.takeIn n Vn.SNP (fun p => p.h.opcode.toNat == op) with
  | none => .next s
  | some (p, _, s1) => if (s1.portAt n).up then .next (k s1 p) else .next (s1.answerErr n p.h Resp.ERR_FENCED)

/-- A demand goes to the chiplet; snoops carry the native snoop code (R361, R362). -/
def State.demandToChiplet (s : State) (n : Nat) (p : Pkt) (snoop : Bool) : State :=
  let bank := (s.bankOf n p.h.epoch.toNat).1
  let w2 := p.word 0
  let code := bits (s.xlate n bank (snoopWord p.h w2)) 56 8
  let p' := if snoop then { p with pl := setLineWord p.pl 0 (setBits w2 0 8 code) } else p
  (s.keepDemand n (p.h.src.toNat * 256 + p.h.tag.toNat) p).toChiplet n p'

/-- A snoop at a caching port: a BISnp at a CPA, whose code is that of its table; a native snoop at a CLA. Under
SCOPE 0b01 and 0b10 a CPA leaves its one agent out where AGENT names it, and answers at once that it holds nothing (R198, R335, R339, R361). -/
def State.snoopPort (s : State) (n op : Nat) : Outcome :=
  s.withDemand n op (fun s p =>
    if niType n = .cla then s.demandToChiplet n p true
    else if 1 ≤ bits (p.word 0) 50 2 ∧ p.h.agent.toNat = s.fld (Off.NI_PORT_CFG n) Fld.NI_PORT_CFG.AGENT then
      s.answer n p.h Vn.RSP 4 Resp.OK (leafMsg 0 0 false false 0 false) []
    else
      let b := if op = 2 then BiOp.inv else if op = 3 then BiOp.cur else BiOp.data
      (s.keepDemand n (demandId p.h) p).portOut n (.biSnp b (demandId p.h) p.h.line))

/-- SNPS at a caching port (R214, R339, R361). -/
def execSnps (n : Fin 256) (s : State) : Outcome := s.snoopPort n 1
/-- SNPI at a caching port (R214, R339, R361). -/
def execSnpi (n : Fin 256) (s : State) : Outcome := s.snoopPort n 2
/-- SNPC at a caching port (R214, R339, R361). -/
def execSnpc (n : Fin 256) (s : State) : Outcome := s.snoopPort n 3

/-- MRD at an MPA becomes MemRd; at a CLA it goes to the chiplet (R350, R362). -/
def execMrd (n : Fin 256) (s : State) : Outcome :=
  s.withDemand n 4 (fun s p =>
    if niType n = .cla then s.demandToChiplet n p false
    else (s.keepDemand n (demandId p.h) p).portOut n (.memRd (demandId p.h) p.h.line))

/-- MWR at an MPA becomes MemWr, or MemWrPtl where the line travels in a body flit; at a CLA it goes to the chiplet (R350, R362). -/
def execMwr (n : Fin 256) (s : State) : Outcome :=
  s.withDemand n 5 (fun s p =>
    if niType n = .cla then s.demandToChiplet n p false
    else
      match p.lines with
      | b :: _ => (s.keepDemand n (demandId p.h) p).portOut n (.memWr (!p.h.hdata) (demandId p.h) p.h.line b)
      | [] => s.answerErr n p.h Resp.ERR_UNSUPPORTED)

/-- A proxy demand becomes its D2H request (R342). -/
def State.proxyOut (s : State) (n op : Nat) (d : Pkt → D2hOp) : Outcome :=
  s.withDemand n op (fun s p => (s.keepDemand n (demandId p.h) p).portOut n (.d2hReq (d p) (demandId p.h) p.h.line))

/-- PXRD becomes RdShared (R342). -/
def execPxrd (n : Fin 256) (s : State) : Outcome := s.proxyOut n 6 (fun _ => .rdShared)
/-- PXRO becomes RdOwn, or RdOwnNoData with NODATA = 1 (R342). -/
def execPxro (n : Fin 256) (s : State) : Outcome := s.proxyOut n 7 (fun p => if bit (p.word 0) 0 then .rdOwnNoData else .rdOwn)
/-- PXRC becomes RdCurr (R342). -/
def execPxrc (n : Fin 256) (s : State) : Outcome := s.proxyOut n 8 (fun _ => .rdCurr)
/-- PXEV becomes CleanEvictNoData (R342). -/
def execPxev (n : Fin 256) (s : State) : Outcome := s.proxyOut n 9 (fun _ => .cleanEvictNoData)
/-- PXWB becomes DirtyEvict (R342). -/
def execPxwb (n : Fin 256) (s : State) : Outcome := s.proxyOut n 10 (fun _ => .dirtyEvict)
/-- PXWC becomes WrCur (R342). -/
def execPxwc (n : Fin 256) (s : State) : Outcome := s.proxyOut n 11 (fun _ => .wrCur)

/-! ### Host requests to fabric-homed memory -/

/-- A host request of native code k and state j: translated, or answered as an error with XLATE_MISS, whose DETAIL names VN REQ and whose
ADDR is 0 (log entry 49) (R223, R334). -/
def State.hostMem (s : State) (n k j tag line : Nat) (data : List Body) (mask : W64) (e : ReadErr) : Outcome :=
  if !s.portLive n then .next s
  else
    match s.translate n (s.niAt n).ep.bank k j with
    | none =>
      let s1 := s.reportNi n .XLATE_MISS 0 Vn.REQ
      if k ≤ 3 then .next (s1.portOut n (.drs true false tag 0)) else .next ((s1.portOut n (.ndr .cmp tag)).portPwErr n Vn.REQ)
    | some (op, w) =>
      let r : Req := { vn := Vn.REQ, opcode := op, agent := 0, priv := false, origin := false, line := line, data := data,
                       pl := lineOfWords (if op = 5 then [setBits w 4 4 0, mask] else [setBits w 4 4 0]), machine := none, ident := 0 }
      .next ((s.openExt n (.mem k) tag data r e).serveComps n e)

/-- MEMRD: MetaValue S, A, or I and No-Op, native codes 0 to 2 (R334). -/
def execMemrd (n : Fin 8) (tag : BitVec 16) (line : BitVec 46) (mv : MemMeta) (err : ReadErr) (s : State) : Outcome :=
  s.hostMem n (match mv with
    | .s => 0
    | .a => 1
    | .i => 2) 0 tag.toNat line.toNat [] 0 err

/-- MEMRDDATA: native code 3 (R334). -/
def execMemrddata (n : Fin 8) (tag : BitVec 16) (line : BitVec 46) (err : ReadErr) (s : State) : Outcome :=
  s.hostMem n 3 0 tag.toNat line.toNat [] 0 err

/-- MEMINV: MetaValue A is native code 4 in state S; any other is answered with Cmp and PORT_UNSUPPORTED (R334, R349). -/
def execMeminv (n : Fin 8) (tag : BitVec 16) (line : BitVec 46) (mv : MemMeta) (err : ReadErr) (s : State) : Outcome :=
  match mv with
  | .a => s.hostMem n 4 1 tag.toNat line.toNat [] 0 err
  | _ => if s.portLive n then .next ((s.portOut n (.ndr .cmp tag.toNat)).portUnsup n Vn.REQ) else .next s

/-- MEMCLNEVCT: native code 5 in state S (R334). -/
def execMemclnevct (n : Fin 8) (tag : BitVec 16) (line : BitVec 46) (err : ReadErr) (s : State) : Outcome :=
  s.hostMem n 5 1 tag.toNat line.toNat [] 0 err

/-- MEMWR: native code 6 in state A; the CPA keeps its data, and an open BISnp for the line learns of it (R334, R337, R339). -/
def execMemwr (n : Fin 8) (tag : BitVec 16) (line : BitVec 46) (poison : Bool) (data : Line) (err : ReadErr) (s : State) : Outcome :=
  if !s.portLive n then .next s
  else
    let i := (s.portAt n).next
    let s1 := s.modPort n (fun x => { x with demands := x.demands.map (fun d =>
      if d.p.h.opcode.toNat ≤ 3 ∧ d.p.h.line = line.toNat ∧ d.wbm.isNone then { d with wbm := some i } else d) })
    s1.hostMem n 6 2 tag.toNat line.toNat [⟨poison, allBytes, data⟩] allBytes err

/-- MEMWRPTL: native code 7 in state I, with the write mask of its byte enables (R334). -/
def execMemwrptl (n : Fin 8) (tag : BitVec 16) (line : BitVec 46) (be : W64) (poison : Bool) (data : Line) (err : ReadErr) (s : State) : Outcome :=
  s.hostMem n 7 0 tag.toNat line.toNat [⟨poison, be, data⟩] be err

/-- BICONFLICT: BIConflictAck on NDR, after every NDR queued (R341). -/
def execBiconflict (n : Fin 8) (tag : BitVec 16) (s : State) : Outcome :=
  if s.portLive n then .next (s.portOut n (.ndr .biConflictAck tag.toNat)) else .next s

/-- MEMSPECRD: discarded and counted (R349). -/
def execMemspecrd (n : Fin 8) (s : State) : Outcome :=
  if s.portLive n then .next (s.bump (Off.NI_PORT_CNT n) Fld.NI_PORT_CNT.UNSUPPORTED) else .next s

/-! ### Back-invalidation and the proxy cache -/

/-- An open demand by its identifier and opcode range. -/
def Port.demandBy (x : Port) (id lo hi : Nat) : Option Demand :=
  x.demands.find? (fun d => d.id == id && decide (lo ≤ d.p.h.opcode.toNat ∧ d.p.h.opcode.toNat ≤ hi) && d.p.h.vn.toNat == Vn.SNP)
/-- The port without an open demand. -/
def Port.dropDemand (x : Port) (d : Demand) : Port := { x with demands := x.demands.filter (fun e => e != d) }
/-- The port with an open demand replaced. -/
def Port.setDemand (x : Port) (d d' : Demand) : Port := { x with demands := x.demands.map (fun e => if e = d then d' else e) }

/-- The write-back of a snooped line that the host had opened before the snoop and that still awaits WRGO: its data is the dirty copy that
answers the snoop (R215). -/
def Port.writeBack (x : Port) (d : Demand) : Option ExtReq :=
  if d.wbm.isSome then none
  else x.opens.find? (fun e => e.kind == .mem 6 && e.line == d.p.h.line && e.wtag.isNone)

/-- BIRSP: one answer for the snoop, SDATA from the buffer of a write-back that awaits WRGO (R215), else SRSP: RSTATE of the BIRsp, HIT = 0 after a MemWr for the line; it is held until that write-back has
been injected; the native state is checked against RESULT (R223, R339). -/
def execBirsp (n : Fin 8) (bitag : BitVec 12) (st : BiState) (s : State) : Outcome :=
  if !s.portLive n then .next s else
  match (s.portAt n).demandBy bitag.toNat 1 3 with
  | none => .next (s.portProtocol n (bitag.toNat % 256) Vn.SNP)
  | some d =>
    if d.held.isSome then .next (s.portProtocol n (bitag.toNat % 256) Vn.SNP)
    else
      let bank := (s.bankOf n d.p.h.epoch.toNat).1
      let s1 := if s.reportLawful n bank (snoopWord d.p.h (d.p.word 0)) st.val then s else s.portCohProtocol n d.p.h.tag.toNat
      let hit := d.wbm.isNone && st.val != 0
      let ans := match (s.portAt n).writeBack d with
        | some x => answerTo d.p.h Vn.DAT 3 Resp.OK (leafMsg 0 0 true false st.val true) x.data
        | none => answerTo d.p.h Vn.RSP 4 Resp.OK (leafMsg 0 0 false false st.val hit) []
      let waits := match d.wbm with
        | some i => ((s.portAt n).openBy i).isSome
        | none => false
      if waits then .next (s1.modPort n (fun x => x.setDemand d { d with held := some ans }))
      else .next ((s1.modPort n (fun x => x.dropDemand d)).handOver n d.p.h.src.toNat ans none 0)

/-- The CPA's answer to a proxy demand ends it (R342). -/
def State.proxyDone (s : State) (n : Nat) (d : Demand) (data : Option Body) (resp grant : Nat) : State :=
  let s1 := s.modPort n (fun x => x.dropDemand d)
  match data with
  | some b => s1.answer n d.p.h Vn.DAT 5 resp (leafMsg 0 grant false false 0 false) [b]
  | none => s1.answer n d.p.h Vn.RSP 8 resp (leafMsg 0 grant false false 0 false) []

/-- True for a proxy demand that is answered with PXDATA: PXRD, PXRC, and PXRO with NODATA = 0 (R342). -/
def Demand.wantsData (d : Demand) : Bool :=
  let op := d.p.h.opcode.toNat
  op == 6 || op == 8 || (op == 7 && !bit (d.p.word 0) 0)

/-- GO with state Error: PXDATA or PXCMP with ERR_ACCESS and no data (R342). -/
def State.proxyRefused (s : State) (n : Nat) (d : Demand) : State :=
  let s1 := s.modPort n (fun x => x.dropDemand d)
  if d.wantsData then s1.answer n d.p.h Vn.DAT 5 Resp.ERR_ACCESS 0 [] else s1.answer n d.p.h Vn.RSP 8 Resp.ERR_ACCESS 0 []

/-- A proxy read with both its data and its GO is answered with PXDATA (R342). -/
def State.proxyTry (s : State) (n : Nat) (d d' : Demand) : State :=
  match d'.go, d'.data with
  | some g, some b => s.proxyDone n d (some b) Resp.OK g
  | _, _ => s.modPort n (fun x => x.setDemand d d')

/-- The line of a proxy write goes to the host, poisoned where its head is (R342). -/
def State.proxyData (s : State) (n : Nat) (d : Demand) : State := s.portOut n (.d2hData d.id d.p.h.poison d.p.pl)

/-- H2D_GO: a host GO, GO_WritePull or WritePull answers a proxy demand; one that matches none is discarded with PORT_PROTOCOL (R342, R349). -/
def execH2dGo (n : Fin 8) (cqid : BitVec 12) (kind : GoKind) (s : State) : Outcome :=
  if !s.portLive n then .next s else
  match (s.portAt n).demandBy cqid.toNat 6 11 with
  | none => .next (s.portProtocol n (cqid.toNat % 256) Vn.SNP)
  | some d =>
    let op := d.p.h.opcode.toNat
    match kind with
    | .go g =>
      if g = 4 then .next (s.proxyRefused n d)
      else if op = 9 then .next (s.proxyDone n d none Resp.OK 0)
      else if op = 7 ∧ d.wantsData = false then .next (s.proxyDone n d none Resp.OK g.val)
      else if op = 11 ∧ d.pulled = true then .next (s.proxyDone n d none Resp.OK 1)
      else .next (s.proxyTry n d { d with go := some g.val })
    | .goWritePull =>
      if op = 10 then .next ((s.proxyData n d).proxyDone n d none Resp.OK 0)
      else if op = 11 then .next ((s.proxyData n d).proxyDone n d none Resp.OK 1)
      else .next (s.portProtocol n (cqid.toNat % 256) Vn.SNP)
    | .writePull =>
      if op = 11 then
        (if d.go.isSome then .next ((s.proxyData n d).proxyDone n d none Resp.OK 1)
         else .next ((s.proxyData n d).modPort n (fun x => x.setDemand d { d with pulled := true })))
      else .next (s.portProtocol n (cqid.toNat % 256) Vn.SNP)

/-- H2D_DATA: host data answers PXRC at once, PXRD and PXRO with their GO (R342, R349). -/
def execH2dData (n : Fin 8) (cqid : BitVec 12) (poison : Bool) (data : Line) (s : State) : Outcome :=
  if !s.portLive n then .next s else
  match (s.portAt n).demandBy cqid.toNat 6 8 with
  | none => .next (s.portProtocol n (cqid.toNat % 256) Vn.SNP)
  | some d =>
    let b : Body := ⟨poison, allBytes, data⟩
    if d.wantsData = false then .next (s.portProtocol n (cqid.toNat % 256) Vn.SNP)
    else if d.p.h.opcode.toNat = 8 then .next (s.proxyDone n d (some b) Resp.OK 0)
    else .next (s.proxyTry n d { d with data := some b })

/-- A host snoop is sent as HSNP where its line falls in a PROXY window of this CPA, and answered with RspIHitI otherwise (R344). -/
def State.hostSnoop (s : State) (n op uqid line : Nat) (e : ReadErr) : Outcome :=
  if !s.portLive n then .next s
  else
    let bank := (s.niAt n).ep.bank
    let mine := match s.mapWindow n bank line with
      | some (w0, w1) => bits w0 60 4 == 2 && bits w1 40 8 == n
      | none => false
    if !mine then .next (s.portOut n (.d2hRsp .iHitI uqid))
    else
      let w := BitVec.ofNat 64 (op * 2 ^ 20 + s.xlateCaps n bank * 2 ^ 16)
      let r : Req := { vn := Vn.REQ, opcode := 9, agent := 0, priv := false, origin := false, line := line, data := [],
                       pl := lineOfWords [w], machine := none, ident := 0 }
      .next ((s.openExt n (.snoop op) uqid [] r e).serveComps n e)

/-- SNPDATA becomes HSNP with SNPTYPE SNPS (R344). -/
def execSnpdata (n : Fin 8) (uqid : BitVec 12) (line : BitVec 46) (err : ReadErr) (s : State) : Outcome := s.hostSnoop n 1 uqid.toNat line.toNat err
/-- SNPINV becomes HSNP with SNPTYPE SNPI (R344). -/
def execSnpinv (n : Fin 8) (uqid : BitVec 12) (line : BitVec 46) (err : ReadErr) (s : State) : Outcome := s.hostSnoop n 2 uqid.toNat line.toNat err
/-- SNPCUR becomes HSNP with SNPTYPE SNPC (R344). -/
def execSnpcur (n : Fin 8) (uqid : BitVec 12) (line : BitVec 46) (err : ReadErr) (s : State) : Outcome := s.hostSnoop n 3 uqid.toNat line.toNat err

/-! ### CXL.io -/

/-- A transfer of the party outside: a read by its masks or a write by its lines. -/
def ioReq (vn op line : Nat) (data : List Body) (priv : Bool) : Req :=
  { vn := vn, opcode := op, agent := 0, priv := priv, origin := false, line := line, data := data, pl := 0, machine := none, ident := 0 }

/-- PRIV of a host TLP: the PASID prefix's bit, else IO_PRIV (R328). -/
def State.ioPriv (s : State) (n : Nat) (pasid : Option Bool) : Bool := pasid.getD (s.flag (Off.NI_PORT_CFG n) Fld.NI_PORT_CFG.IO_PRIV)

/-- CXL_IO_MRD: a host MRd is admitted as NRD (R345). -/
def execCxlIoMrd (n : Fin 8) (tag : BitVec 10) (line : BitVec 46) (masks : List W64) (pasid : Option Bool) (err : ReadErr) (s : State) : Outcome :=
  if !s.portLive n then .next s
  else
    let r := ioReq Vn.ION 1 line.toNat (masks.map (fun m => ⟨false, m, 0⟩)) (s.ioPriv n pasid)
    .next ((s.openExt n .ioRead tag.toNat [] r err).serveComps n err)

/-- CXL_IO_MWR: a host MWr is admitted as PWR with Relaxed Ordering or while IO_ORDER is 0, else as NWR (R345). -/
def execCxlIoMwr (n : Fin 8) (relaxed : Bool) (line : BitVec 46) (data : List Body) (pasid : Option Bool) (err : ReadErr) (s : State) : Outcome :=
  if !s.portLive n then .next s
  else
    let posted := relaxed || !s.flag (Off.NI_PORT_CFG n) Fld.NI_PORT_CFG.IO_ORDER
    let r := ioReq (if posted then Vn.IOP else Vn.ION) (if posted then 1 else 2) line.toNat data (s.ioPriv n pasid)
    .next ((s.openExt n .ioWrite 0 [] r err).serveComps n err)

/-- The identifier of a fabric I/O request carried outward. -/
def ioId (h : Hdr) : Nat := 65536 + h.src.toNat * 256 + h.tag.toNat

/-- An open I/O request of the fabric by its identifier. -/
def Port.ioBy (x : Port) (id : Nat) : Option Demand := x.demands.find? (fun d => d.id == id && d.p.h.vn.toNat == Vn.ION)

/-- The lines of a masked read's answer: one for each non-zero mask, in line order (R106). -/
def readLines (ms : List W64) (poison : Bool) (data : List Line) : List Body :=
  (((List.range ms.length).filter (fun k => ms.getD k 0 != 0))).map (fun k => ⟨poison, ms.getD k 0, data.getD k 0 &&& byteMask (ms.getD k 0)⟩)

/-- CXL_IO_CPL: a completion from the controller ends the port's own MRd or configuration request; `data` gives the lines of the
read by their place in the request (R345, R346, R352). -/
def execCxlIoCpl (n : Fin 16) (id : BitVec 17) (st : IoStatus) (data : List Line) (s : State) : Outcome :=
  if !s.portLive n then .next s else
  match (s.portAt n).ioBy id.toNat with
  | none => .next s
  | some d =>
    let s1 := s.modPort n (fun x => x.dropDemand d)
    let resp := ioResp st
    if d.p.h.opcode.toNat = 1 ∧ (st = .sc ∨ st = .ep) then
      .next (s1.answer n d.p.h Vn.IOC 2 resp 0 (readLines d.p.masks (st == .ep) data))
    else if resp = Resp.OK ∨ d.p.h.opcode.toNat ≠ 1 then .next (s1.answer n d.p.h Vn.IOC 1 resp 0 [])
    else .next (s1.answerErr n d.p.h resp)

/-- CXL_IO_UNSUPPORTED: MRdLk, IORd, IOWr, CfgRd, CfgWr and AtomicOp are completed with Unsupported Request; Msg and MsgD are
discarded; PORT_UNSUPPORTED (R349). -/
def execCxlIoUnsupported (n : Fin 8) (tag : BitVec 10) (message : Bool) (s : State) : Outcome :=
  if !s.portLive n then .next s
  else if message then .next (s.portUnsup n Vn.ION)
  else .next ((s.portOut n (.ioCpl tag.toNat .ur [])).portUnsup n Vn.ION)

/-- Enabled bytes of a write from its first line on: address and byte, in address order. -/
def enabledBytes (line : Nat) (bs : List Body) : List (Nat × Nat × Bool) :=
  (List.range (bs.length * 64)).filterMap (fun k =>
    match bs[k / 64]? with
    | some b => if b.be.getLsbD (k % 64) then some (line * 64 + k, lineByte b.data (k % 64), b.poison) else none
    | none => none)

/-- One MWr for each maximal run of contiguous enabled bytes (R347). -/
def writeRuns : List (Nat × Nat × Bool) → List (Nat × List Nat × Bool)
  | [] => []
  | (a, b, p) :: rest =>
    match writeRuns rest with
    | (a', bs, p') :: more => if a' = a + 1 then (a, b :: bs, p || p') :: more else (a, [b], p) :: (a', bs, p') :: more
    | [] => [(a, [b], p)]

/-- First requested byte and the byte after the last one of a masked read, from its first line on. -/
def maskSpan (ms : List W64) : Nat × Nat :=
  let l := (List.range (ms.length * 64)).filter (fun k => (ms.getD (k / 64) 0).getLsbD (k % 64))
  (l.headD 0, l.getLastD 0 + 1)

/-- The address falls in an MPA's configuration window (R352). -/
def State.inEcam (s : State) (n line : Nat) : Bool :=
  niType n == .mpa && s.flag (Off.NI_MPA_ECAM n) Fld.NI_MPA_ECAM.EN && line / 2 ^ 14 == s.fld (Off.NI_MPA_ECAM n) Fld.NI_MPA_ECAM.BASE

/-- CPA_IO_REQUEST: the front PWR, or the front NRD or NWR, goes to the controller as MWr or MRd; NRDX and NWRX are refused (R347, R352). -/
def execCpaIoRequest (n : Fin 16) (posted : Bool) (s : State) : Outcome :=
  match s.takeIn n (if posted then Vn.IOP else Vn.ION) (fun p => posted || !s.inEcam n p.h.line) with
  | none => .next s
  | some (p, _, s1) =>
    let op := p.h.opcode.toNat
    if !(s1.portAt n).up then
      (if posted then .next (s1.bump (Off.NI_PORT_CNT n) Fld.NI_PORT_CNT.DOWN_DROPS) else .next (s1.answerErr n p.h Resp.ERR_FENCED))
    else
      let writes := fun (s : State) => (writeRuns (enabledBytes p.h.line p.lines)).foldl (fun s w => s.portOut n (.ioMWr w.1 w.2.1 w.2.2)) s
      if posted then .next (writes s1)
      else if op = 1 then
        let (lo, hi) := maskSpan p.masks
        .next ((s1.keepDemand n (ioId p.h) p).portOut n (.ioMRd (ioId p.h) (p.h.line * 64 + lo / 4 * 4) ((hi + 3) / 4 - lo / 4)))
      else if op = 2 then .next ((writes s1).answer n p.h Vn.IOC 1 Resp.OK 0 [])
      else .next (s1.answerErr n p.h Resp.ERR_UNSUPPORTED)

/-- MPA_ECAM_ACCESS: an NRD or NWR in the configuration window becomes a Type 0 configuration request of one DWORD (R352). -/
def execMpaEcamAccess (n : Fin 16) (s : State) : Outcome :=
  match s.takeIn n Vn.ION (fun p => s.inEcam n p.h.line) with
  | none => .next s
  | some (p, _, s1) =>
    let op := p.h.opcode.toNat
    let ms := if op = 1 then p.masks else p.lines.map (·.be)
    let (lo, hi) := maskSpan ms
    if !(s1.portAt n).up then .next (s1.answerErr n p.h Resp.ERR_FENCED)
    else if op ≠ 1 ∧ op ≠ 2 then .next (s1.answerErr n p.h Resp.ERR_UNSUPPORTED)
    else if lo / 4 ≠ (hi - 1) / 4 then .next (s1.answerErr n p.h Resp.ERR_UNSUPPORTED)
    else
      let a := p.h.line * 64 + lo
      let dev := nbits a 15 5
      let fn := nbits a 12 3
      let reg := nbits a 2 10
      let s2 := s1.keepDemand n (ioId p.h) p
      if op = 1 then .next (s2.portOut n (.cfgRd0 (ioId p.h) dev fn reg))
      else
        let bs := enabledBytes p.h.line p.lines
        let be := bs.foldl (fun a b => a + 2 ^ (b.1 % 4)) 0
        let v := bs.foldl (fun a b => a + b.2.1 * 2 ^ (8 * (b.1 % 4))) 0
        .next (s2.portOut n (.cfgWr0 dev fn reg be v))

/-! ### Devices -/

/-- DEVICE_MEMDATA: MDATA, with ERR_POISON where poisoned and ERR_DATA for MemData-NXM (R350). -/
def execDeviceMemdata (n : Fin 16) (tag : BitVec 12) (nxm poison : Bool) (data : Line) (s : State) : Outcome :=
  if !s.portLive n then .next s else
  match (s.portAt n).demandBy tag.toNat 4 4 with
  | none => .next s
  | some d =>
    let s1 := s.modPort n (fun x => x.dropDemand d)
    if nxm then .next (s1.answer n d.p.h Vn.DAT 4 Resp.ERR_DATA 0 [])
    else .next (s1.answer n d.p.h Vn.DAT 4 Resp.OK 0 [⟨poison, allBytes, data⟩])

/-- POISON_DONE: the answer to a POISON_LINE message goes to the Pot with the line and the RESP of the write (R590). -/
def State.poisonDone (s : State) (n line resp : Nat) : State :=
  s.handOver n 248 (s.mgtPkt n 6 [BitVec.ofNat 64 (0x15 * 2 ^ 56), BitVec.ofNat 64 line, BitVec.ofNat 64 resp]) none 0

/-- DEVICE_CMP: MCMP, or for a poisoned line of the Pot's list POISON_DONE (R350, R590). -/
def execDeviceCmp (n : Fin 16) (tag : BitVec 16) (s : State) : Outcome :=
  if !s.portLive n then .next s else
  match (s.portAt n).demandBy tag.toNat 5 5 with
  | none => .next s
  | some d =>
    let s1 := s.modPort n (fun x => x.dropDemand d)
    if d.p.h.src.toNat = 248 then .next (s1.poisonDone n d.p.h.line Resp.OK)
    else .next (s1.answer n d.p.h Vn.RSP 7 Resp.OK 0 [])

/-- DEVICE_MWR: a device MWr is carried as PWR, decoded in the MPA's address map (R353). -/
def execDeviceMwr (n : Fin 16) (line : BitVec 46) (data : List Body) (err : ReadErr) (s : State) : Outcome :=
  if s.portLive n then .next ((s.openExt n .ioWrite 0 [] (ioReq Vn.IOP 1 line.toNat data false) err).serveComps n err) else .next s

/-- DEVICE_MRD: a device MRd is carried as NRD (R353). -/
def execDeviceMrd (n : Fin 16) (tag : BitVec 10) (line : BitVec 46) (masks : List W64) (err : ReadErr) (s : State) : Outcome :=
  if s.portLive n then
    .next ((s.openExt n .ioRead tag.toNat [] (ioReq Vn.ION 1 line.toNat (masks.map (fun m => ⟨false, m, 0⟩)) false) err).serveComps n err)
  else .next s

/-- DEVICE_ERR_MSG: ERR_COR, ERR_NONFATAL and ERR_FATAL report MEM_DEV_ERR with class C1, C2 and C3 (R353). -/
def execDeviceErrMsg (n : Fin 16) (severity : Fin 3) (s : State) : Outcome :=
  if s.portLive n then
    .next ((s.setFld (Off.NI_PORT_ERR n) Fld.NI_PORT_ERR.MEM_DEV_ERR 1).reportCls n 0 .MEM_DEV_ERR (1 + severity.val) (2 ^ 8))
  else .next s

/-- DEVICE_BISNP: BIRspI at once, and PORT_UNSUPPORTED (R353). -/
def execDeviceBisnp (n : Fin 16) (bitag : BitVec 12) (s : State) : Outcome :=
  if s.portLive n then .next ((s.portOut n (.biRspI bitag.toNat)).portUnsup n Vn.SNP) else .next s

/-! ### Indications and completion records -/

/-- The HDM decoders of MPA n's device: one for each memory map window that names the MPA (R234, R351). -/
def State.hdmList (s : State) (n : Nat) : List HdmDecoder :=
  let bank := (s.niAt (sliceNi 0)).ep.bank
  (List.range 64).filterMap (fun k =>
    let w0 := s.tabW (sliceNi 0) bank Sec.MEMMAP 0 (2 * k)
    let w1 := s.tabW (sliceNi 0) bank Sec.MEMMAP 0 (2 * k + 1)
    let ways := if bits w0 61 2 = 1 then 2 else if bits w0 61 2 = 2 then 4 else 1
    if bit w0 63 && (List.range ways).any (fun i => bits w1 (56 - 8 * i) 8 == n) then
      some ⟨bits w0 12 40 * 2 ^ 12, 2 ^ bits w0 54 6, ways, 2 ^ bits w0 6 6⟩ else none)

/-- The Pot programs the decoders of an MPA that is up (R351, R582). -/
def State.programHdm (s : State) (n : Nat) : State :=
  if niType n = .mpa ∧ (s.portAt n).up = true then s.portOut n (.hdm (s.hdmList n)) else s

/-- A port's up indication changes: PORT_UP or PORT_DOWN (R330). An MPA that comes up after step J4 of a join has its decoders programmed (R582). -/
def State.portIndication (s : State) (n : Nat) (up : Bool) : State :=
  if (s.portAt n).up = up then s
  else
    let s1 := s.modPort n (fun x => { x with up := up })
    if up then
      (let s2 := s1.reportNi n .PORT_UP 0 0
       if !s.kt.bHeld || decide (5 ≤ s.pot.joinStep) then s2.programHdm n else s2)
    else (s1.setFld (Off.NI_PORT_ERR n) Fld.NI_PORT_ERR.DOWN 1).reportNi n .PORT_DOWN 0 0

/-- PORT_INDICATION_RISE of a CPA, MPA or PEA; a CLA's follows its link (R330). -/
def execPortIndicationRise (n : Fin 256) (s : State) : Outcome := if isPort n then .next (s.portIndication n true) else .next s

/-- PORT_INDICATION_FALL (R330). -/
def execPortIndicationFall (n : Fin 256) (s : State) : Outcome := if isPort n then .next (s.portIndication n false) else .next s

/-- The packet that a completion record awaits, with the tag's TOWN and TAG (R201, R331). -/
def State.sendRecord (s : State) (n tag : Nat) (r : CompRec) (lines : List Body) : State :=
  let p := mkResp (if r.wdata then Vn.DAT else Vn.RSP) (if r.wdata then 2 else 5) tag r.agent r.priv r.origin r.epoch Resp.OK n 0 lines
  (s.modNi n (fun u => u.setRec tag (some { r with sent := true }))).handOver n r.dest p none 0

/-- COMPLETION_RECORD_TIMEOUT: a CLA record open for TO_COH is closed by the CLA with poisoned WDATA or CACK (R332). -/
def execCompletionRecordTimeout (n : Fin 256) (tag : Fin 256) (s : State) : Outcome :=
  match (s.niAt n).compRec tag with
  | none => .next s
  | some r =>
    if niType n ≠ .cla ∨ r.sent = true ∨ s.timeRuns n = false ∨ s.niTime n < r.since + 2 ^ (s.fld (Off.NI_TIMEOUT n) Fld.NI_TIMEOUT.TO_COH + 10) then .next s
    else
      .next (((s.sendRecord n tag r (if r.wdata then [⟨true, allBytes, 0⟩] else [])).setFld (Off.NI_PORT_ERR n)
        Fld.NI_PORT_ERR.WB_TIMEOUT 1).reportNi n .PORT_WB_TIMEOUT tag (if r.wdata then Vn.DAT else Vn.RSP))

/-! ### Chiplets -/

/-- The front packet of a VN that a chiplet has sent, and the state without it; a malformed one is discarded and reported (R118, R358). -/
def State.fromChiplet (s : State) (n vn : Nat) : Option (Pkt × State) × State :=
  let l := s.wireAt (claRxKey n)
  let g := oldLane vn l
  match (frontPkt vn g l).or (frontPkt vn (!g) l) with
  | none => (none, s)
  | some (fs, rest) =>
    let s1 := fs.foldl (fun s f => s.oweCredit (claRxKey n) vn f.gt) (s.setWire (claRxKey n) rest)
    match pktOf fs with
    | none => (none, s1.reportNi n .PKT_MALFORMED 0 vn)
    | some p => if pktMalformed fs then (none, s1.reportNi n .PKT_MALFORMED p.h.tag.toNat vn) else (some (p, s1), s)

/-- The request of a chiplet's packet (R358). -/
def chipReq (p : Pkt) : Req :=
  let vn := p.h.vn.toNat
  let rd := vn = Vn.ION ∧ (p.h.opcode.toNat = 1 ∨ p.h.opcode.toNat = 3)
  { vn := vn, opcode := p.h.opcode.toNat, agent := p.h.agent.toNat, priv := p.h.priv, origin := p.h.origin, line := p.h.line,
    data := if rd then
        ((p.masks.reverse.dropWhile (· == 0)).reverse).map (fun m => ⟨false, m, 0⟩)
      else p.lines,
    pl := p.pl, machine := none, ident := 0 }

/-- CMP with ERR_UNSUPPORTED and XLATE_MISS, whose DETAIL names VN REQ and whose ADDR is 0 (log entry 49) (R223, R360). -/
def State.xlateMiss (s : State) (n : Nat) (r : Req) : State :=
  (s.reportNi n .XLATE_MISS 0 Vn.REQ).localDone n r (s.niAt n).ep.epoch Resp.ERR_UNSUPPORTED

/-- True for an opcode that a chiplet's request may carry (R7, R108, R195). -/
def chipOpcode (vn op : Nat) : Bool :=
  (vn == Vn.REQ && decide (1 ≤ op ∧ op ≤ 8)) || ((vn == Vn.IOP || vn == Vn.ION) && decide (1 ≤ op ∧ op ≤ 4))

/-- A chiplet's request opens its link tag, unless the tag is open already (R359). -/
def State.chipOpen (s : State) (n : Nat) (p : Pkt) (k : State → Req → State) : State :=
  let r := chipReq p
  let tag := p.h.tag.toNat
  if !r.posted && (s.portAt n).opens.any (fun x => x.tag == tag) then s.portProtocol n tag r.vn
  else
    let i := (s.portAt n).next
    let s1 := s.modPort n (fun x => { x with
      next := i + 1
      opens := if r.posted then x.opens else x.opens ++ [⟨i, .chiplet, tag, r.line, r.data, none⟩] })
    k s1 { r with ident := i }

/-- A chiplet's request other than NREQ: link tag, agent check, opcode, and the caching agents' rule, then admission (R7, R329, R358 to R360). -/
def State.chipRequest (s : State) (n : Nat) (p : Pkt) (e : ReadErr) : State :=
  s.chipOpen n p (fun s r0 =>
    let r := s.identify n r0
    if !s.agentOk n r.agent then s.agentRefused n r
    else if !chipOpcode r.vn r.opcode then
      (if r.posted then s.reportReserved n 0 { p.h with src := BitVec.ofNat 8 n } else s.localDone n r (s.niAt n).ep.epoch Resp.ERR_UNSUPPORTED)
    else if r.vn = Vn.REQ ∧ s.agentCaching 0 (s.niAt n).ep.bank r.agent = true then s.xlateMiss n r
    else s.presentReq n r e)

/-- A demand outstanding at the chiplet that a response-form packet answers: by TOWN and TAG, or for forwarded DATA by the snoop's
FWD_NI and FWD_TAG; each part of an answer is taken once (R198, R201, R214). -/
def Port.answered (x : Port) (p : Pkt) : Option Demand :=
  let fwd := p.h.vn.toNat = Vn.DAT ∧ p.h.opcode.toNat = 1
  x.demands.find? (fun d =>
    if fwd then !d.fwd && d.p.h.vn.toNat == Vn.SNP && bit (d.p.word 0) 49 && bits (d.p.word 0) 40 8 == p.h.town && bits (d.p.word 0) 32 8 == p.h.tag.toNat
    else !d.rsp && d.p.h.src.toNat == p.h.town && d.p.h.tag == p.h.tag && (d.p.h.vn.toNat == Vn.ION) == (p.h.vn.toNat == Vn.IOC))

/-- The port after a part of a snoop's answer: with FWD the demand stays until both the forwarded data and the answer to the home have come, in
either order, unless the holder had no copy to forward (R214). -/
def Port.tookAnswer (x : Port) (d : Demand) (p : Pkt) : Port :=
  let snoop := d.p.h.vn.toNat = Vn.SNP ∧ d.p.h.opcode.toNat ≤ 3
  if snoop ∧ bit (d.p.word 0) 49 = true then
    if p.h.vn.toNat = Vn.DAT ∧ p.h.opcode.toNat = 1 then (if d.rsp then x.dropDemand d else x.setDemand d { d with fwd := true })
    else if d.fwd ∨ msgHit p.h.msg = false then x.dropDemand d
    else x.setDemand d { d with rsp := true }
  else x.dropDemand d

/-- What a chiplet's response carries into the fabric: the MSG fields that its opcode defines, and payload only where it carries data (R6, R108, R200). -/
def Pkt.scrubbed (p : Pkt) : Pkt :=
  let vn := p.h.vn.toNat
  let m := if vn = Vn.IOC then (if p.h.opcode.toNat = 1 then nbits p.h.msg 33 1 * 2 ^ 33 else 0) else nbits p.h.msg 23 11 * 2 ^ 23
  { p with h := { p.h with mid := midOf p.h.resp p.h.town m, leaf := false, leafId := 0 }, pl := if p.h.hdata then p.pl else 0 }

/-- SRSP and SDATA from a chiplet: the native state reported is checked against RESULT and RSTATE is set through HVIEW (R223, R361). -/
def State.chipSnoopRsp (s : State) (n : Nat) (d : Demand) (p : Pkt) : State × Pkt :=
  let bank := (s.bankOf n d.p.h.epoch.toNat).1
  let st := nbits p.h.msg 19 4
  let s1 := if s.reportLawful n bank (snoopWord d.p.h (d.p.word 0)) st then s else s.portCohProtocol n p.h.tag.toNat
  let m := nbits p.h.msg 23 1 * 2 ^ 23 + s.hview n bank (st % 8) * 2 ^ 24 + nbits p.h.msg 27 7 * 2 ^ 27
  (s1, { p with h := { p.h with mid := midOf p.h.resp p.h.town m } })

/-- A chiplet's response-form packet: WDATA and CACK go to the destination of the completion record, every other one to its TOWN with the
EPOCH of the packet answered (R331, R332, R358, R359). -/
def State.chipResponse (s : State) (n : Nat) (p : Pkt) : State :=
  let vn := p.h.vn.toNat
  let op := p.h.opcode.toNat
  let tag := p.h.tag.toNat
  let wdata := vn = Vn.DAT ∧ op = 2
  if wdata ∨ (vn = Vn.RSP ∧ op = 5) then
    match (s.portAt n).opens.find? (fun x => x.tag == tag && x.wtag.isSome) with
    | none => s.portProtocol n tag vn
    | some x =>
      let t := x.wtag.getD 0
      match (s.niAt n).compRec t with
      | some r =>
        if r.sent ∨ r.wdata ≠ decide wdata then s.portProtocol n tag vn
        else s.sendRecord n t r (if wdata then p.lines else [])
      | none => s.portProtocol n tag vn
  else
    match (s.portAt n).answered p with
    | none => s.portProtocol n tag vn
    | some d =>
      if d.p.h.src.toNat = 248 ∧ d.p.h.vn.toNat = Vn.SNP then (s.modPort n (fun x => x.dropDemand d)).poisonDone n d.p.h.line p.h.resp else
      let snoop := d.p.h.vn.toNat = Vn.SNP ∧ d.p.h.opcode.toNat ≤ 3
      let (s1, p1) := if snoop ∧ ((vn = Vn.RSP ∧ op = 4) ∨ (vn = Vn.DAT ∧ op = 3)) then s.chipSnoopRsp n d p else (s, p)
      let s2 := s1.modPort n (fun x => x.tookAnswer d p)
      let p2 := p1.scrubbed
      s2.handOver n p.h.town { p2 with h := { p2.h with epoch := d.p.h.epoch } } none 0

/-- CLA_CHIPLET_PACKET: the front packet of a VN from the chiplet is checked, completed and admitted; SNP and MGT packets are discarded,
counted and reported (R118, R358, R359). -/
def execClaChipletPacket (n : Fin 256) (vn : Fin 8) (err : ReadErr) (s : State) : Outcome :=
  if niType n ≠ .cla ∨ s.portLive n = false then .next s
  else
    match s.fromChiplet n vn with
    | (none, s1) => .next s1
    | (some (p, s1), _) =>
      if vn.val = Vn.SNP ∨ vn.val = Vn.MGT then
        .next ((s1.bump (Off.NI_PORT_CNT n) Fld.NI_PORT_CNT.UNSUPPORTED).portProtocol n p.h.tag.toNat vn)
      else if vnResponse vn then .next (s1.chipResponse n p)
      else if vn.val = Vn.REQ ∧ p.h.opcode.toNat = 0x3F then .next s
      else .next ((s1.chipRequest n p err).serveComps n err)

/-- NREQ: a chiplet's native request is translated to LEAF_OP with CAPS and HOLD, or refused with XLATE_MISS (R223, R360). -/
def execNreq (n : Fin 256) (err : ReadErr) (s : State) : Outcome :=
  if niType n ≠ .cla ∨ s.portLive n = false then .next s
  else
    match s.fromChiplet n Vn.REQ with
    | (none, s1) => .next s1
    | (some (p, s1), _) =>
      if p.h.opcode.toNat ≠ 0x3F then .next s
      else
        .next ((s1.chipOpen n p (fun s r0 =>
          let r := s.identify n r0
          let bank := (s.niAt n).ep.bank
          if !s.agentOk n r.agent then s.agentRefused n r
          else if !s.agentCaching 0 bank r.agent then s.xlateMiss n r
          else
            match s.translate n bank (bits (p.word 0) 0 4) (bits (p.word 0) 4 3) with
            | none => s.xlateMiss n r
            | some (op, w) =>
              s.presentReq n { r with opcode := op, pl := lineOfWords (if op = 5 then [w, p.word 1] else [w]) } err)).serveComps n err)

/-! ### Port engines -/

/-- PORT_ENGINE_STATUS: a port engine answers a machine request, and the PEA builds the CPL or CPLD (R355). -/
def execPortEngineStatus (n : Fin 256) (src tag : Fin 256) (status : BitVec 4) (exfail : Bool) (data : List Body) (s : State) : Outcome :=
  if !s.portLive n then .next s else
  match (s.portAt n).ioBy (65536 + src.val * 256 + tag.val) with
  | none => .next s
  | some d =>
    let op := d.p.h.opcode.toNat
    let resp := status.toNat
    let s1 := s.modPort n (fun x => x.dropDemand d)
    if (op = 1 ∨ op = 3) ∧ (resp = Resp.OK ∨ resp = Resp.ERR_POISON) then
      .next (s1.answer n d.p.h Vn.IOC 2 resp 0 (readLines d.p.masks (resp == Resp.ERR_POISON) (data.map (·.data))))
    else if resp = Resp.OK then .next (s1.answer n d.p.h Vn.IOC 1 resp (if op = 4 ∧ exfail = true then 2 ^ 33 else 0) [])
    else .next (s1.answerErr n d.p.h resp)

/-- The requests that a port engine may present (R356). -/
def engineAllows (r : Req) : Bool :=
  (r.vn == Vn.REQ && (r.opcode == 4 || r.opcode == 5 || r.opcode == 8)) || (r.vn == Vn.IOP && r.opcode == 1) ||
    (r.vn == Vn.ION && decide (1 ≤ r.opcode ∧ r.opcode ≤ 4))

/-- PORT_ENGINE_REQUEST: a port engine's request is identified, checked and admitted; another kind is completed with ERR_UNSUPPORTED and
PORT_UNSUPPORTED (R328, R329, R356). -/
def execPortEngineRequest (n : Fin 256) (r : Req) (err : ReadErr) (s : State) : Outcome :=
  if niType n ≠ .pea ∨ s.portLive n = false then .next s
  else
    let i := (s.portAt n).next
    let s1 := s.modPort n (fun x => { x with
      next := i + 1
      opens := if r.posted then x.opens else x.opens ++ [⟨i, .engine, 0, r.line, [], none⟩] })
    let r1 := { s1.identify n r with ident := i, machine := none }
    if engineAllows r1 then .next ((s1.presentExt n r1 err).serveComps n err)
    else .next (((s1.portUnsup n r1.vn).failReq n r1 (s1.niAt n).ep.epoch Resp.ERR_UNSUPPORTED).serveComps n err)

end Sys2Proof.Machine
end

