-- ==== Sys2Proof/Machine/Bridge.lean ====
section
/-! DEFINITION. The Service Bridge: requests into the E5LB, exclusive sequences, target gates, inbound traffic, side-band lines and
telemetry (R395 to R425). -/
namespace Sys2Proof.Machine

/-! ### Bytes and beats -/

/-- Byte masks of a request at the bridge: the byte enables of a write's lines, or the read mask (R104, R105). -/
def Pkt.sbMasks (p : Pkt) : List W64 :=
  if p.h.vn.toNat = Vn.ION ∧ (p.h.opcode.toNat = 1 ∨ p.h.opcode.toNat = 3) then p.masks else p.lines.map (·.be)

/-- Places of the enabled bytes, counted from the first byte of line 0. -/
def sbBytes (ms : List W64) : List Nat :=
  (List.range (64 * ms.length)).filter (fun k => (ms.getD (k / 64) 0).getLsbD (k % 64))

/-- First enabled byte and last enabled byte of a request, counted from the first byte of line 0. -/
def Pkt.sbSpan (p : Pkt) : Option (Nat × Nat) :=
  let l := sbBytes p.sbMasks
  match l.head?, l.getLast? with
  | some a, some b => some (a, b)
  | _, _ => none

/-- E5LB address of a byte of a request: bits [31:0] of its fabric address (R397). -/
def Pkt.sbAddr (p : Pkt) (k : Nat) : Nat := (p.h.line * 64 + k) % 2 ^ 32

/-- E5LB address of a request's first byte. -/
def Pkt.sbFirst (p : Pkt) : Nat := p.sbAddr ((p.sbSpan.map (·.1)).getD 0)

/-- Bytes from the first enabled one to the last. -/
def Pkt.sbSize (p : Pkt) : Nat := match p.sbSpan with
  | some (a, b) => b - a + 1
  | none => 0

/-- A single access: 1, 2 or 4 contiguous bytes, naturally aligned, all in one line (R401). -/
def Pkt.singleAccess (p : Pkt) : Bool :=
  let n := (sbBytes p.sbMasks).length
  match p.sbSpan with
  | some (a, b) => (n == 1 || n == 2 || n == 4) && b - a + 1 == n && a % n == 0
  | none => false

/-- Byte-lane strobes of word k of a request, counted from line 0. -/
def sbStrobe (ms : List W64) (k : Nat) : BitVec 4 := BitVec.ofNat 4 (bits (ms.getD (k / 16) 0) (4 * (k % 16)) 4)

/-- The words of a request's burst: from the first that holds an enabled byte to the last (R402). -/
def Pkt.sbWords (p : Pkt) : List Nat := match p.sbSpan with
  | some (a, b) => (List.range (b / 4 + 1)).drop (a / 4)
  | none => []

/-- The beats of a write packet's burst (R402). -/
def Pkt.sbBeats (p : Pkt) : List (BitVec 4 × BitVec 32) :=
  p.sbWords.map (fun k => (sbStrobe p.sbMasks k, match p.lines[k / 16]? with
    | some b => BitVec.ofNat 32 (bits b.data (32 * (k % 16)) 32)
    | none => 0))

/-- The E5LB word address of a request's first word. -/
def Pkt.sbWordAddr (p : Pkt) : Nat := p.sbFirst / 4 * 4

/-- The lines that E5LB read data makes for a request, the first word given first (R106, R400). -/
def Pkt.sbData (p : Pkt) (data : List (BitVec 32)) : List Line :=
  let first := p.sbWords.headD 0
  (List.range 4).map (fun i => BitVec.ofNat 512
    ((List.range 16).foldl (fun a w =>
      a + (if 16 * i + w < first then 0 else (data.getD (16 * i + w - first) 0).toNat) * 2 ^ (32 * w)) 0))

/-! ### The bridge's own registers and reports -/

/-- The state with the bridge changed. -/
def State.modSb (s : State) (f : Bridge → Bridge) : State := { s with sb := f s.sb }

/-- The bridge's local time: that of island 9 (R46). -/
def State.sbTime (s : State) : Nat := s.niTime 255

/-- A bridge report through NI 255; `at'` goes to DETAIL [38:8] (R425, R506). -/
def State.sbReport (s : State) (k : FaultKind) (at' low : Nat) : State := s.reportUp 255 5 k (at' % 2 ^ 31 * 2 ^ 8 + low % 256)

/-- A request that the bridge does not serve: answered with ERR_UNSUPPORTED or discarded, counted, and reported as SB_UNSERVED at most once
per time epoch (R397, R401, R404, R425). -/
def State.sbUnserved (s : State) (h : Hdr) (addr : Nat) : State :=
  let s1 := ((s.answerErr 254 h Resp.ERR_UNSUPPORTED).bump Off.SB_ERR_CNT Fld.SB_ERR_CNT.UNSERVED).setFld
    Off.SB_ERR_STATUS Fld.SB_ERR_STATUS.UNSERVED 1
  let e := epochMark s.sbTime
  if s.sb.unservedEpoch = e then s1
  else (s1.modSb (fun b => { b with unservedEpoch := e })).sbReport .SB_UNSERVED (addr / 2) 0

/-- A side-band event is folded or lost: counted, and reported at most once per time epoch (R415 to R417). -/
def State.sbInLost (s : State) (j : Nat) : State :=
  let s1 := (s.bump Off.SB_ERR_CNT Fld.SB_ERR_CNT.IN_LOST).setFld Off.SB_ERR_STATUS Fld.SB_ERR_STATUS.IN_LOST 1
  let e := epochMark s.sbTime
  if s.sb.lostEpoch = e then s1
  else (s1.modSb (fun b => { b with lostEpoch := e })).sbReport .SB_IN_LOST j 0

/-- A refused commit of the input, output or telemetry group (R416, R418, R421). -/
def State.sbCfg (s : State) : State := (s.setFld Off.SB_ERR_STATUS Fld.SB_ERR_STATUS.CFG 1).sbReport .SB_CFG 0 0

/-- A failed E5LB transaction is recorded: KIND 0 read ERR, 1 write ERR, 2 missing answer, 3 RETRY exhausted (R406, SB_FAR_INFO). -/
def State.sbFarInfo (s : State) (addr kind src : Nat) : State :=
  (s.bump Off.SB_ERR_CNT Fld.SB_ERR_CNT.FAR).wr Off.SB_FAR_INFO
    (BitVec.ofNat 64 (addr % 2 ^ 32 * 2 ^ 32 + kind % 16 * 2 ^ 28 + src % 256 * 2 ^ 20))

/-! ### Target gates -/

/-- A gate or region with EN set, BASE and SIZE_LOG2 in its upper bits, contains an E5LB address. -/
def sbCovers (w : W64) (addr : Nat) : Bool :=
  bits w 44 20 * 4096 / 2 ^ bits w 39 5 == addr / 2 ^ bits w 39 5

/-- The target gates pass a request (R408). -/
def State.gatesPass (s : State) (p : Pkt) : Bool :=
  let a := p.sbFirst
  match (List.range 16).find? (fun g => bit (s.rd (Off.SB_GATE g)) 0 && sbCovers (s.rd (Off.SB_GATE g)) a) with
  | none => true
  | some g =>
    let id := p.h.agent.toNat % 256
    let wr := p.h.vn.toNat == Vn.IOP || p.h.opcode.toNat == 2 || p.h.opcode.toNat == 4
    let perm := if p.h.priv then (if wr then 37 else 38) else if wr then 35 else 36
    (List.range 8).any (fun r =>
      let w := s.rd (Off.SB_GATE_RGN g r)
      bit w 34 && sbCovers w a && sbCovers w (a + p.sbSize - 1) && (id &&& bits w 8 8) == (bits w 0 8 &&& bits w 8 8) && bit w perm)

/-- A request fails its gate: answered with ERR_ACCESS unless it has been answered or is posted, counted and reported (R408). -/
def State.gateDeny (s : State) (p : Pkt) (answered : Bool) : State :=
  let s1 := if answered then s else s.answerErr 254 p.h Resp.ERR_ACCESS
  ((s1.bump Off.SB_ERR_CNT Fld.SB_ERR_CNT.GATE).setFld Off.SB_ERR_STATUS Fld.SB_ERR_STATUS.GATE 1).sbReport .SB_GATE_DENY (p.sbFirst / 2) 0

/-! ### Taking requests -/

/-- The oldest request in NI 254's receive side on ION or IOP, where it passes a test, with the state that has taken it (R398). -/
def State.sbTake (s : State) (ok : Hdr → Bool) : Option (Pkt × State) :=
  let l := (s.niAt 254).inbox
  match (List.range l.length).find? (fun i => match l[i]? with
      | some e => e.1.h.vn.toNat == Vn.IOP || e.1.h.vn.toNat == Vn.ION
      | none => false) with
  | none => none
  | some i =>
    match l[i]? with
    | some e => if s.domOn 68 && ok e.1.h then some (e.1, s.modNi 254 (fun u => u.dropIn i)) else none
    | none => none

/-- A request joins the issue order (R398). -/
def State.sbOrder (s : State) (p : Pkt) : State := s.modSb (fun b => { b with order := b.order ++ [.req p] })

/-- True for a PWR or NWR, which holds a write buffer entry. -/
def Hdr.sbWrite (h : Hdr) : Bool := h.vn.toNat == Vn.IOP || (h.vn.toNat == Vn.ION && h.opcode.toNat == 2)

/-- Write buffer entries in use: one per PWR or NWR until its burst is answered (R399). -/
def Bridge.wbuf (b : Bridge) : Nat :=
  (b.order.filter (fun i => match i with
    | .req p => p.h.sbWrite
    | .sensor _ => false)).length +
  b.open'.foldl (fun a x => a + (x.pkts.filter (fun p => p.h.sbWrite)).length) 0

/-- SB_WRITE_REQUEST: a PWR or NWR is taken into a free write buffer entry; a processor request must be a single access, and an NWR is
answered at once (R398, R399, R401). A denied NWR is answered before it enters the buffer (R408). -/
def execSbWriteRequest (s : State) : Outcome :=
  if 64 ≤ s.sb.wbuf then .next s
  else
    match s.sbTake Hdr.sbWrite with
    | none => .next s
    | some (p, s1) =>
      if !p.h.origin && !p.singleAccess then .next (s1.sbUnserved p.h p.sbFirst)
      else if p.h.vn.toNat = Vn.IOP then .next (s1.sbOrder p)
      else if !s1.gatesPass p then .next (s1.gateDeny p false)
      else .next ((s1.answer 254 p.h Vn.IOC 1 Resp.OK 0 []).sbOrder p)

/-- SB_READ_REQUEST: an NRD is taken into the issue order, where it waits for a read tag and entry (R398, R400, R401). -/
def execSbReadRequest (s : State) : Outcome :=
  match s.sbTake (fun h => h.vn.toNat == Vn.ION && h.opcode.toNat == 1) with
  | none => .next s
  | some (p, s1) => .next (if !p.h.origin && !p.singleAccess then s1.sbUnserved p.h p.sbFirst else s1.sbOrder p)

/-- An exclusive request is taken: it must be a single access whatever its ORIGIN (R404). -/
def State.sbExclusive (s : State) (op : Nat) : Outcome :=
  match s.sbTake (fun h => h.vn.toNat == Vn.ION && h.opcode.toNat == op) with
  | none => .next s
  | some (p, s1) => .next (if !p.singleAccess then s1.sbUnserved p.h p.sbFirst else s1.sbOrder p)

/-- NRDX at the bridge: it joins the issue order; its issue takes the bus lock (R404). -/
def execNrdx (s : State) : Outcome := s.sbExclusive 3

/-- NWRX at the bridge: it joins the issue order; its issue closes its sequence (R404). -/
def execNwrx (s : State) : Outcome := s.sbExclusive 4

/-! ### Issue -/

/-- The lowest free E5LB read tag (R400, R407). -/
def Bridge.freeTag (b : Bridge) : Option Nat := (List.range 64).find? (fun t => !b.open'.any (fun x => x.tag == some t))

/-- The state with a message driven on the E5LB. -/
def State.sbDrive (s : State) (m : E5Msg) : State := s.modSb (fun b => { b with bus := b.bus ++ [m] })

/-- The state with an E5LB transaction issued (R398). -/
def State.sbIssue (s : State) (pkts : List Pkt) (addr : Nat) (m : E5Msg) (tag : Option Nat) : State :=
  (s.sbDrive m).modSb (fun b => { b with open' := b.open' ++ [⟨pkts, addr, m, tag, s.sbTime, s.refTime, 0, false⟩] })

/-- The state with entry i of the issue order removed. -/
def State.sbDrop (s : State) (i : Nat) : State := s.modSb (fun b => { b with order := b.order.eraseIdx i })

/-- The entry that may be issued next: the first; while the lock is held only an exclusive request of the holder's AGENT, from any place; nothing
while its WRU is unanswered (R404). -/
def Bridge.nextIssue (b : Bridge) : Option Nat :=
  match b.lock with
  | none => if b.order.isEmpty then none else some 0
  | some l =>
    if l.wru then none
    else (List.range b.order.length).find? (fun i => match b.order[i]? with
      | some (.req p) => p.h.vn.toNat == Vn.ION && (p.h.opcode.toNat == 3 || p.h.opcode.toNat == 4) && p.h.agent.toNat == l.agent
      | _ => false)

/-- True when a write may be appended to a burst: ORIGIN 1, the same SRC and AGENT, its first word next, and the block not left (R402). -/
def canAppend (first : Pkt) (addr n : Nat) (p : Pkt) : Bool :=
  p.h.sbWrite && p.h.origin && p.h.src == first.h.src && p.h.agent == first.h.agent && !p.sbWords.isEmpty &&
    p.sbWordAddr == addr + 4 * n && (addr + 4 * n) / 1024 == addr / 1024

/-- The packets combined behind a burst with the burst's beats (R402); a write that its gate refuses ends the combining. -/
def State.combine (s : State) (first : Pkt) (addr : Nat) : List SbItem → List Pkt → List (BitVec 4 × BitVec 32) → List Pkt × List (BitVec 4 × BitVec 32)
  | .req p :: l, ps, bs =>
    if canAppend first addr bs.length p && s.gatesPass p then s.combine first addr l (ps ++ [p]) (bs ++ p.sbBeats) else (ps, bs)
  | _, ps, bs => (ps, bs)

/-- A write burst is issued with every write combined into it (R402). -/
def State.issueWrite (s : State) (p : Pkt) : State :=
  let rest := s.sb.order.drop 1
  let a := p.sbWordAddr
  let (ps, bs) := if p.h.origin then s.combine p a rest [p] p.sbBeats else ([p], p.sbBeats)
  if bs.isEmpty then s.sbDrop 0
  else (s.modSb (fun b => { b with order := b.order.drop ps.length })).sbIssue ps p.sbFirst (.write a bs false) none

/-- An exclusive sequence fails: its NWRX is answered CPL OK with EXFAIL = 1 (R404, R405). -/
def State.exFail (s : State) (p : Pkt) : State := s.answer 254 p.h Vn.IOC 1 Resp.OK (2 ^ 33) []

/-- The issue of an NRDX: RDL with the lock taken; the holder's own open sequence is unlocked first (R404). -/
def State.issueNrdx (s : State) (i : Nat) (p : Pkt) : State :=
  match s.sb.freeTag with
  | none => s
  | some t =>
    let s1 := if s.sb.lock.isSome then s.sbDrive .unlock else s
    ((s1.sbDrop i).sbIssue [p] p.sbFirst (.read p.sbWordAddr (p.sbWords.map (sbStrobe p.sbMasks)) t true) (some t)).modSb
      (fun b => { b with lock := some ⟨p.h.agent.toNat, p.sbFirst, p.sbSize, s.refTime, false⟩ })

/-- The issue of an NWRX: WRU where it matches the open sequence, else the sequence fails (R404). -/
def State.issueNwrx (s : State) (i : Nat) (p : Pkt) : State :=
  match s.sb.lock with
  | none => (s.sbDrop i).exFail p
  | some l =>
    if l.addr = p.sbFirst ∧ l.size = p.sbSize then
      ((s.sbDrop i).sbIssue [p] p.sbFirst (.write p.sbWordAddr p.sbBeats true) none).modSb (fun b => { b with lock := some { l with wru := true } })
    else (((s.sbDrop i).sbDrive .unlock).modSb (fun b => { b with lock := none })).exFail p

/-- The Strainer is disabled, so the bridge issues nothing (R442). -/
def State.strainerOff (s : State) : Bool := s.flag Off.ST_STATUS Fld.ST_STATUS.DISABLED

/-- SB_E5LB_ISSUE: the next entry of the issue order passes the target gates and is issued (R398, R400, R402 to R404, R408, R442); while
FABRIC_READY is low only the Pot's start-up traffic is issued (R33). -/
def execSbE5lbIssue (s : State) : Outcome :=
  if s.strainerOff || !s.domOn 68 then .next s
  else
    match s.sb.nextIssue with
    | none => .next s
    | some i =>
      match s.sb.order[i]? with
      | none => .next s
      | some (.sensor a) =>
        match s.sb.freeTag with
        | none => .next s
        | some t => .next ((s.sbDrop i).sbIssue [] a (.read a [0xF#4] t false) (some t))
      | some (.req p) =>
        if !s.pins.ready && p.h.src.toNat != 248 then .next s
        else if !s.gatesPass p then .next ((s.sbDrop i).gateDeny p (p.h.vn.toNat == Vn.ION && p.h.opcode.toNat == 2))
        else if p.h.sbWrite then .next (s.issueWrite p)
        else if p.h.opcode.toNat = 3 then .next (s.issueNrdx i p)
        else if p.h.opcode.toNat = 4 then .next (s.issueNwrx i p)
        else if p.sbWords.isEmpty then .next ((s.sbDrop i).answer 254 p.h Vn.IOC 2 Resp.OK 0 [])
        else
          match s.sb.freeTag with
          | none => .next s
          | some t =>
            .next ((s.sbDrop i).sbIssue [p] p.sbFirst (.read p.sbWordAddr (p.sbWords.map (sbStrobe p.sbMasks)) t false) (some t))

/-! ### Telemetry results -/

/-- The sensor word of entry k from the data of its read (R420). -/
def State.sensorWord (s : State) (k : Nat) (r : SensorRead) : Nat :=
  let w := s.rd (Off.SB_TELEM_ADDR k)
  let sc := s.rd (Off.SB_TELEM_SCALE k)
  let n := bits w 49 5 + 1
  let (value, status) : Int × Nat := match r.data with
    | none => (0, 2)
    | some d =>
      let f := bits d (bits w 54 5) n
      let raw : Int := if bit w 59 then signed n f else f
      let v := raw * signed 16 (bits sc 16 16) / 256 + signed 16 (bits sc 0 16)
      if v < -32768 then (-32768, 1) else if 32767 < v then (32767, 1) else (v, 0)
  k * 2 ^ 59 + bits w 60 3 * 2 ^ 56 + status * 2 ^ 54 + unsigned 16 value * 2 ^ 32 + r.time % 2 ^ 32

/-- Valid sensor entries in ascending order. -/
def State.sensors (s : State) : List Nat := (List.range 32).filter (fun k => bit (s.rd (Off.SB_TELEM_ADDR k)) 63)

/-- Word address of a sensor entry. -/
def State.sensorAddr (s : State) (k : Nat) : Nat := bits (s.rd (Off.SB_TELEM_ADDR k)) 2 30 * 4

/-- A request of NI 255: the bridge agent ID, PRIV 0 and ORIGIN 1 (R410, SB_INB_MAP). -/
def State.sbReq (s : State) (vn opcode line ident : Nat) (data : List Body) (pl : Line) : Req :=
  { vn := vn, opcode := opcode, agent := s.fld Off.SB_INB_MAP Fld.SB_INB_MAP.AGENT, priv := false, origin := true, line := line, data := data,
    pl := pl, machine := none, ident := ident }

/-- The TELEM messages of a finished poll: four sensor words each, in ascending order (R419). -/
def State.telemSend (s : State) : List (List W64) → State
  | [] => s
  | ws :: l =>
    ((s.presentReq 255 (s.sbReq Vn.IOP 3 (s.fld Off.SB_TELEM_CFG Fld.SB_TELEM_CFG.LINE) 66000 [] (lineOfWords ws)) ReadErr.clean).bump
      Off.SB_TELEM_STATUS Fld.SB_TELEM_STATUS.MSGS).telemSend l

/-- Words grouped by four. -/
def fours : List W64 → List (List W64)
  | a :: b :: c :: d :: l => [a, b, c, d] :: fours l
  | [] => []
  | l => [l]

/-- A poll whose reads have all been answered ends (R419). -/
def State.pollEnd (s : State) : State :=
  match s.sb.poll with
  | none => s
  | some rs =>
    if rs.all (·.done) then
      let ws := s.sensors.map (fun k =>
        match rs.find? (fun r => r.addr == s.sensorAddr k) with
        | some r => BitVec.ofNat 64 (s.sensorWord k r)
        | none => 0)
      ((s.modSb (fun b => { b with poll := none })).telemSend (fours ws)).bump Off.SB_TELEM_STATUS Fld.SB_TELEM_STATUS.POLLS
    else s

/-- A sensor read is answered; ERR is counted (R420). -/
def State.sensorDone (s : State) (x : E5Tx) (d : Option (BitVec 32)) : State :=
  let s1 := if d.isNone then s.bump Off.SB_TELEM_STATUS Fld.SB_TELEM_STATUS.READ_ERR else s
  (s1.modSb (fun b => { b with poll := b.poll.map (fun rs => rs.map (fun r =>
    if r.addr == x.addr && !r.done then { r with done := true, data := d, time := x.since } else r)) })).pollEnd

/-! ### Answers of the E5LB -/

/-- The state with transaction x of the E5LB closed. -/
def State.sbClose (s : State) (x : E5Tx) : State := s.modSb (fun b => { b with open' := b.open'.erase x })

/-- A failed transaction: KIND as SB_FAR_INFO codes it (R404, R406). -/
def State.sbFail (s : State) (x : E5Tx) (kind : Nat) : State :=
  let src := match x.pkts.head? with
    | some p => p.h.src.toNat
    | none => 0
  let s1 := s.sbFarInfo x.addr kind src
  let s2 := if kind = 2 then (s1.setFld Off.SB_ERR_STATUS Fld.SB_ERR_STATUS.TIMEOUT 1).sbReport .SB_E5_TIMEOUT (x.addr / 2) 0 else s1
  match x.pkts.head? with
  | none => s2.sensorDone x none
  | some p =>
    if p.h.sbWrite then
      (s2.setFld Off.SB_ERR_STATUS Fld.SB_ERR_STATUS.FAR_WRITE 1).sbReport .SB_FAR_WRITE (x.addr / 2) src
    else if p.h.opcode.toNat = 4 then
      (s2.answer 254 p.h Vn.IOC 1 Resp.ERR_FAR (2 ^ 33) []).modSb (fun b => { b with lock := none })
    else
      let s3 := if p.h.opcode.toNat = 3 ∧ (s2.sb.lock.map (·.agent)) = some p.h.agent.toNat then s2.modSb (fun b => { b with lock := none }) else s2
      let s4 := (s3.answer 254 p.h Vn.IOC 2 Resp.ERR_FAR 0 []).setFld Off.SB_ERR_STATUS Fld.SB_ERR_STATUS.FAR_READ 1
      let e := epochMark s.sbTime
      if s.sb.farEpoch = e then s4 else (s4.modSb (fun b => { b with farEpoch := e })).sbReport .SB_FAR_READ (x.addr / 2) 0

/-- RETRY: the transaction is sent again; after 16 consecutive answers it counts as ERR (R406). -/
def State.sbRetry (s : State) (x : E5Tx) : State :=
  if x.retries + 1 = 16 then (s.sbClose x).sbFail x 3
  else (s.sbDrive x.msg).modSb (fun b => { b with open' := b.open'.map (fun y =>
    if y = x then { y with retries := y.retries + 1, since := s.sbTime, sent := s.refTime } else y) })

/-- SB_E5_READ_RESPONSE: the answer under a read tag, with the burst's words; a late one only frees the tag (R400, R406, R407). -/
def execSbE5ReadResponse (tag : Fin 64) (resp : E5Resp) (data : List (BitVec 32)) (s : State) : Outcome :=
  match s.sb.open'.find? (fun x => x.tag == some tag.val) with
  | none => .next s
  | some x =>
    if x.stuck then .next (s.sbClose x)
    else
      match resp with
      | .retry => .next (s.sbRetry x)
      | .err => .next ((s.sbClose x).sbFail x 0)
      | .ok =>
        match x.pkts.head? with
        | none => .next ((s.sbClose x).sensorDone x (some (data.headD 0)))
        | some p => .next ((s.sbClose x).answer 254 p.h Vn.IOC 2 Resp.OK 0 (readLines p.masks false (p.sbData data)))

/-- SB_E5_WRITE_RESPONSE: the answer of the k-th outstanding write burst (R399, R404, R406). -/
def execSbE5WriteResponse (k : Nat) (resp : E5Resp) (s : State) : Outcome :=
  match (s.sb.open'.filter (fun x => x.tag.isNone))[k]? with
  | none => .next s
  | some x =>
    match resp with
    | .retry => .next (s.sbRetry x)
    | .err => .next ((s.sbClose x).sbFail x 1)
    | .ok =>
      match x.pkts.head? with
      | none => .next (s.sbClose x)
      | some p =>
        if p.h.vn.toNat = Vn.ION ∧ p.h.opcode.toNat = 4 then
          .next (((s.sbClose x).modSb (fun b => { b with lock := none })).answer 254 p.h Vn.IOC 1 Resp.OK 0 [])
        else .next (s.sbClose x)

/-- SB_CTRL.E5_TIMEOUT in ft; 0 acts as 1 µs. -/
def State.e5Limit (s : State) : Nat := max 1 (s.fld Off.SB_CTRL Fld.SB_CTRL.E5_TIMEOUT) * 1000

/-- E5_TIMEOUT_EXPIRY: each transaction unanswered for E5_TIMEOUT fails; a read tag stays in use until its late answer (R406, R407). -/
def execE5TimeoutExpiry (s : State) : Outcome :=
  let late := s.sb.open'.filter (fun x => !x.stuck && decide (x.sent + s.e5Limit ≤ s.refTime))
  .next (late.foldl (fun s x =>
    match x.tag with
    | none => (s.sbClose x).sbFail x 2
    | some _ => (s.modSb (fun b => { b with open' := b.open'.map (fun y => if y = x then { y with stuck := true } else y) })).sbFail x 2) s)

/-- SB_LOCK_TIMEOUT: 2 µs after the RDL without the WRU the bridge unlocks, and the sequence fails (R405). -/
def execSbLockTimeout (s : State) : Outcome :=
  match s.sb.lock with
  | none => .next s
  | some l =>
    if !l.wru && decide (l.since + 2000 ≤ s.refTime) then
      .next ((((s.sbDrive .unlock).modSb (fun b => { b with lock := none })).setFld Off.SB_ERR_STATUS Fld.SB_ERR_STATUS.LOCK_BREAK 1).sbReport
        .SB_LOCK_BREAK (l.addr / 2) 0)
    else .next s

/-! ### Traffic from the E5LB -/

/-- The fabric address of an inbound E5LB address; none outside the aperture (R410). -/
def State.inbAddr (s : State) (a : Nat) : Option Nat :=
  let w := s.rd Off.SB_INB_MAP
  let base := bits w 32 12 * 2 ^ 20
  if bit w 63 && decide (base ≤ a ∧ a < base + 2 ^ bits w 46 5) then some (bits w 0 32 * 2 ^ 20 + (a - base)) else none

/-- The lines of an inbound burst at a fabric word address (R410). -/
def inbLines (fab : Nat) (beats : List (BitVec 4 × BitVec 32)) : List Body :=
  let off := fab % 64 / 4
  (List.range ((off + beats.length + 15) / 16)).map (fun i =>
    let beat := fun w => if 16 * i + w < off then (0#4, 0#32) else beats.getD (16 * i + w - off) (0#4, 0#32)
    ⟨false, BitVec.ofNat 64 ((List.range 16).foldl (fun a w => a + (beat w).1.toNat * 2 ^ (4 * w)) 0),
      BitVec.ofNat 512 ((List.range 16).foldl (fun a w => a + (beat w).2.toNat * 2 ^ (32 * w)) 0)⟩)

/-- Bursts in the inbound buffer: those that NI 255 has not admitted (R411). -/
def State.inbUsed (s : State) : Nat :=
  let u := s.niAt 255
  (u.wait.filter (fun w => w.r.ident == 65536)).length + (u.strain.held.filter (fun h => h.r.ident == 65536)).length +
    (u.wakeHeld.filter (fun r => r.ident == 65536)).length

/-- SB_INBOUND_WRITE: a write burst of another E5LB master enters the inbound buffer and becomes one PWR transfer, or is answered RETRY (R410, R411);
nothing is claimed outside the aperture or while FABRIC_READY is low (R33). -/
def execSbInboundWrite (addr : BitVec 32) (beats : List (BitVec 4 × BitVec 32)) (err : ReadErr) (s : State) : Outcome :=
  match s.inbAddr addr.toNat with
  | none => .next s
  | some fab =>
    if !s.pins.ready then .next s
    else if 8 ≤ s.inbUsed then .next (s.sbDrive (.inbWrite true))
    else
      let s1 := s.sbDrive (.inbWrite false)
      if beats.all (fun b => b.1 == 0) then .next s1
      else .next (s1.presentReq 255 (s.sbReq Vn.IOP 1 (fab / 64) 65536 (inbLines fab beats) 0) err)

/-- SB_INBOUND_READ: a read burst of another E5LB master becomes one NRD transfer, known by the master's tag (R410). -/
def execSbInboundRead (addr : BitVec 32) (strobes : List (BitVec 4)) (mtag : BitVec 16) (err : ReadErr) (s : State) : Outcome :=
  match s.inbAddr addr.toNat with
  | none => .next s
  | some fab =>
    if !s.pins.ready || strobes.all (· == 0) then .next s
    else .next (s.presentReq 255 (s.sbReq Vn.ION 1 (fab / 64) (131072 + mtag.toNat) (inbLines fab (strobes.map (fun b => (b, 0#32)))) 0) err)

/-- SB_INBOUND_COMPLETION: the completion of an inbound read is answered under the master's tag, ERR for a RESP other than OK (R410, R411). -/
def execSbInboundCompletion (s : State) : Outcome :=
  match (s.niAt 255).comps.find? (fun c => decide (131072 ≤ c.ident)) with
  | none => .next s
  | some c =>
    .next ((s.modNi 255 (fun u => { u with comps := u.comps.erase c })).sbDrive
      (.inbRead (c.ident - 131072) (c.resp == Resp.OK) (if c.resp = Resp.OK then c.lines else [])))

/-! ### Side-band inputs -/

/-- Event kinds of the SBMSG payload (R413). -/
def SbKind.edge : Nat := 0
def SbKind.assert : Nat := 1
def SbKind.deassert : Nat := 2

/-- A level mode's asserted state (R412). -/
def sbAsserted (mode : Nat) (level : Bool) : Bool := if mode = 4 then level else if mode = 5 then !level else false

/-- The event that a level change is under a mode (R412). -/
def sbEvent (mode : Nat) (level : Bool) : Option Nat :=
  if mode = 1 then (if level then some SbKind.edge else none)
  else if mode = 2 then (if level then none else some SbKind.edge)
  else if mode = 3 then some SbKind.edge
  else if mode = 4 ∨ mode = 5 then some (if sbAsserted mode level then SbKind.assert else SbKind.deassert)
  else none

/-- MODE of line j. -/
def State.inMode (s : State) (j : Nat) : Nat := s.fld (Off.SB_IN_CFG j) Fld.SB_IN_CFG.MODE

/-- Word 2 of an SBMSG (R413). -/
def sbMsgWord (kind : Nat) (level : Bool) (j edges time : Nat) : W64 :=
  BitVec.ofNat 64 (kind * 2 ^ 62 + b2n level * 2 ^ 61 + j * 2 ^ 56 + edges % 256 * 2 ^ 48 + time % 2 ^ 48)

/-- A pending message of a line with one more event folded into it (R415): EDGES saturates, an assert or deassert is the latest, LEVEL is
the level until admission. -/
def sbFold (j : Nat) (kind : Option Nat) (level : Bool) (r : Req) : Req :=
  if r.ident = 1000 + j ∧ r.opcode = 2 then
    let w := lineWord r.pl 0
    let k := kind.getD (bits w 62 2)
    { r with pl := lineOfWords [sbMsgWord k level j (if kind.isSome then satInc 255 (bits w 48 8) else bits w 48 8) (bits w 0 48)] }
  else r

/-- NI 255 with the pending request of a line rewritten. -/
def State.sbRewrite (s : State) (f : Req → Req) : State :=
  s.modNi 255 (fun u =>
    { u with wait := u.wait.map (fun w => { w with r := f w.r }),
             strain := { u.strain with held := u.strain.held.map (fun h => { h with r := f h.r }) },
             wakeHeld := u.wakeHeld.map f })

/-- True while a message of line j waits for admission at NI 255 (R415). -/
def State.sbPending (s : State) (j : Nat) : Bool :=
  let u := s.niAt 255
  u.wait.any (fun w => w.r.ident == 1000 + j) || u.strain.held.any (fun h => h.r.ident == 1000 + j) || u.wakeHeld.any (fun r => r.ident == 1000 + j)

/-- An event of line j produces its message, write or report, with the events already folded (R413, R414). -/
def State.sbProduce (s : State) (j kind edges time : Nat) : State :=
  let c := s.rd (Off.SB_IN_CFG j)
  let form := bits c 28 2
  let a := bits (s.rd (Off.SB_IN_ADDR j)) 2 50 * 4
  if form = 1 then
    s.presentReq 255 (s.sbReq Vn.IOP 2 (a / 64) (1000 + j) [] (lineOfWords [sbMsgWord kind (s.sb.lines.getLsbD j) j edges time])) ReadErr.clean
  else if form = 2 then
    s.presentReq 255 (s.sbReq Vn.IOP 1 (a / 64) (1000 + j)
      [⟨false, BitVec.ofNat 64 (15 * 2 ^ (a % 64)), BitVec.ofNat 512 (bits c 32 32 * 2 ^ (8 * (a % 64)))⟩] 0) ReadErr.clean
  else if form = 3 then (s.reportCls 255 5 .SB_LINE (bits c 30 2) (j * 2 ^ 8)).wakeNi 255
  else s

/-- The held event of a line (R417). -/
def Bridge.heldAt (b : Bridge) (j : Nat) : Option HeldEvent := KMap.get (fun _ => none) b.held j
/-- The bridge with a held event set. -/
def Bridge.setHeld (b : Bridge) (j : Nat) (e : Option HeldEvent) : Bridge := { b with held := KMap.set (fun _ => none) b.held j e }

/-- An event of line j: folded into a pending one, held with a wake request while domain 68 is below ON, or produced (R413, R415, R417). -/
def State.sbEmit (s : State) (j kind : Nat) : State :=
  let s0 := s.modSb (fun b => { b with told := if kind = SbKind.assert then b.told ||| BitVec.ofNat 32 (2 ^ j)
    else if kind = SbKind.deassert then b.told &&& ~~~(BitVec.ofNat 32 (2 ^ j)) else b.told })
  match s0.sb.heldAt j with
  | some e => (s0.modSb (fun b => b.setHeld j (some { e with edges := satInc 255 e.edges, kind := kind }))).sbInLost j
  | none =>
    if !s0.domOn 68 then
      (s0.modSb (fun b => b.setHeld j (some ⟨1, kind, s0.sbTime⟩))).wakeDomain 68
    else if s0.sbPending j then (s0.sbRewrite (sbFold j (some kind) (s0.sb.lines.getLsbD j))).sbInLost j
    else s0.sbProduce j kind 1 s0.sbTime

/-- Events held in AON-A are sent after the wake of domain 68 (R417). -/
def State.sbWoken (s : State) : State :=
  (List.range 32).foldl (fun s j =>
    match s.sb.heldAt j with
    | some e => (s.modSb (fun b => b.setHeld j none)).sbProduce j e.kind e.edges e.time
    | none => s) s

/-- SB_INPUT_EVENT: the synchronised level of line j changes (R412 to R417). While FABRIC_READY is low edges are lost and counted; in the 4 cycles of
a switch every event is. -/
def execSbInputEvent (j : Fin 32) (level : Bool) (s : State) : Outcome :=
  if s.sb.lines.getLsbD j == level then .next s
  else
    let s1 := (s.modSb (fun b => { b with lines := if level then b.lines ||| BitVec.ofNat 32 (2 ^ j.val)
      else b.lines &&& ~~~(BitVec.ofNat 32 (2 ^ j.val)) })).sbRewrite (sbFold j none level)
    let mode := s.inMode j
    match sbEvent mode level with
    | none => .next s1
    | some kind =>
      if s1.inReset then .next s1
      else if s1.sb.inSw.getLsbD j then .next (s1.sbInLost j)
      else if !s1.pins.ready then .next (if kind = SbKind.edge then s1.sbInLost j else s1)
      else .next (s1.sbEmit j kind)

/-- From now on the bridge acts at poll times and ticks; those up to now are passed over (R419, R421). -/
def State.sbAwake (s : State) : State := s.modSb (fun b => { b with awakeAt := s.sbTime })

/-- The last multiple of a period that the bridge's local time has reached, if it is after these times and the time runs (R67). -/
def State.sbDue (s : State) (period last : Nat) : Option Nat :=
  let b := s.sbTime / period * period
  if s.timeRuns 255 && decide (max last s.sb.awakeAt < b) then some b else none

/-- FABRIC_READY rises: every asserted line in a level mode sends assert (R417). -/
def State.sbReady (s : State) : State :=
  (List.range 32).foldl (fun s j =>
    if !s.sb.inSw.getLsbD j && sbAsserted (s.inMode j) (s.sb.lines.getLsbD j) then s.sbEmit j SbKind.assert else s) s.sbAwake

/-- SB_IN_COMMIT: the input group is committed, and each line whose function changes is switched; a reserved MODE refuses it (R416). -/
def execSbInCommit (s : State) : Outcome :=
  let js := List.range 32
  if js.any (fun j => decide (6 ≤ bits (s.pendOf (Off.SB_IN_CFG j)) 24 3)) then .next s.sbCfg
  else
    let changed := js.filter (fun j => s.pendOf (Off.SB_IN_CFG j) != s.rd (Off.SB_IN_CFG j) || s.pendOf (Off.SB_IN_ADDR j) != s.rd (Off.SB_IN_ADDR j))
    let s1 := changed.foldl (fun s j =>
      let s1 := if (s.inMode j = 4 ∨ s.inMode j = 5) ∧ s.sb.told.getLsbD j = true ∧ s.pins.ready = true then s.sbEmit j SbKind.deassert else s
      let s2 := match s1.sb.heldAt j with
        | some e => (s1.modSb (fun b => b.setHeld j none)).sbProduce j e.kind e.edges e.time
        | none => s1
      s2.modSb (fun b => { b with inSw := b.inSw ||| BitVec.ofNat 32 (2 ^ j), told := b.told &&& ~~~(BitVec.ofNat 32 (2 ^ j)) })) s
    .next (s1.commitRegs (js.map Off.SB_IN_CFG ++ js.map Off.SB_IN_ADDR))

/-- SB_IN_SWITCH_END: from the fifth bridge cycle the new function applies, and an asserted level mode sends assert at once (R416). -/
def execSbInSwitchEnd (j : Fin 32) (s : State) : Outcome :=
  if s.sb.inSw.getLsbD j then
    let s1 := s.modSb (fun b => { b with inSw := b.inSw &&& ~~~(BitVec.ofNat 32 (2 ^ j.val)) })
    .next (if s1.pins.ready && sbAsserted (s1.inMode j) (s1.sb.lines.getLsbD j) then s1.sbEmit j SbKind.assert else s1)
  else .next s

/-! ### Telemetry -/

/-- The registers of the telemetry group (R418). -/
def telemGroup : List Nat :=
  Off.SB_TELEM_CFG :: (List.range 32).flatMap (fun k => [Off.SB_TELEM_ADDR k, Off.SB_TELEM_SCALE k])

/-- A telemetry group that its commit refuses (R418). -/
def State.telemBad (s : State) : Bool :=
  let c := bits (s.pendOf Off.SB_TELEM_CFG) 58 5
  decide (c < 16 ∨ 30 < c) || (List.range 32).any (fun k =>
    let w := s.pendOf (Off.SB_TELEM_ADDR k)
    bit w 63 && (decide (bits w 60 3 = 0 ∨ 4 ≤ bits w 60 3) || decide (31 < bits w 54 5 + bits w 49 5)))

/-- SB_TELEM_COMMIT: the telemetry group is committed for the next poll time, or refused (R418). -/
def execSbTelemCommit (s : State) : Outcome :=
  if s.telemBad then .next s.sbCfg
  else .next (s.modSb (fun b => { b with telem := some (telemGroup.map (fun o => (o, s.pendOf o))) }))

/-- The committed telemetry values take effect (R13, R418). -/
def State.telemActive (s : State) : State :=
  match s.sb.telem with
  | none => s
  | some l => l.foldl (fun s (o, w) =>
      let s1 := s.wr o w
      if s.pendOf o = w then s1.dropPend o else s1) (s.modSb (fun b => { b with telem := none }))

/-- A poll time: a committed group takes effect; a poll starts with one read for each distinct address, or is skipped while the last one still runs,
whose entries stay as they are (R418, R419; log entry 53). -/
def State.sbPoll (s : State) : State :=
  if s.sb.poll.isSome then
    let s1 := (s.bump Off.SB_TELEM_STATUS Fld.SB_TELEM_STATUS.SKIPPED).setFld Off.SB_ERR_STATUS Fld.SB_ERR_STATUS.TELEM_SKIP 1
    let e := epochMark s.sbTime
    if s.sb.skipEpoch = e then s1 else (s1.modSb (fun b => { b with skipEpoch := e })).sbReport .SB_TELEM_SKIP 0 0
  else
    let s1 := s.telemActive
    if s1.flag Off.SB_TELEM_CFG Fld.SB_TELEM_CFG.EN && s1.pins.ready then
      let addrs := (s1.sensors.map s1.sensorAddr).eraseDups
      (s1.modSb (fun b => { b with order := b.order ++ addrs.map SbItem.sensor, poll := some (addrs.map (fun a => ⟨a, 0, false, none⟩)) })).pollEnd
    else s1

/-- SB_TELEM_POLL: local time has reached a multiple of 2^PERIOD_LOG2 ft. A sleeping domain polls nothing (R67, R418, R419). -/
def execSbTelemPoll (s : State) : Outcome :=
  if !s.domOn 68 || s.inReset then .next s
  else
    match s.sbDue (2 ^ s.fld Off.SB_TELEM_CFG Fld.SB_TELEM_CFG.PERIOD_LOG2) s.sb.pollAt with
    | none => .next s
    | some b => .next (s.modSb (fun x => { x with pollAt := b })).sbPoll

/-! ### Side-band outputs -/

/-- Output k. -/
def Bridge.outAt (b : Bridge) (k : Nat) : SbOut := KMap.get (fun _ => SbOut.reset) b.outs k
/-- The state with an output replaced. -/
def State.setOut (s : State) (k : Nat) (x : SbOut) : State := s.modSb (fun b => { b with outs := KMap.set (fun _ => SbOut.reset) b.outs k x })

/-- What the function of SB_OUT[k] drives (R421, R423). -/
def State.outDriven (s : State) (k : Nat) : Bool :=
  let c := s.rd (Off.SB_OUT_CFG k)
  let x := s.sb.outAt k
  if x.sw then bit c 4
  else
    match x.pulse with
    | some (v, _) => v
    | none => if bits c 0 2 = 0 then bit c 4 else if bits c 0 2 = 1 then x.held else false

/-- The level of SB_OUT[k]: low in reset, held by its latch while domain 68 is in OFF (R31, R421, R423). -/
def State.outLevel (s : State) (k : Nat) : Bool :=
  if s.inReset then false
  else
    match s.sb.outLatch with
    | some l => l.getLsbD k
    | none => s.outDriven k

/-- The levels of the 16 outputs. -/
def State.outLevels (s : State) : BitVec 16 := BitVec.ofNat 16 ((List.range 16).foldl (fun a k => a + b2n (s.outLevel k) * 2 ^ k) 0)

/-- SBOUT: a side-band output order at NI 254; only the Pot and the Saucer may send it (R422, R424). -/
def execSbout (s : State) : Outcome :=
  match s.takeIn 254 Vn.MGT (fun p => p.h.opcode.toNat == 5 && s.domOn 68) with
  | none => .next s
  | some (p, _, s1) =>
    if p.h.src.toNat ≠ 248 ∧ p.h.src.toNat ≠ 249 then
      .next ((s1.setFld Off.SB_ERR_STATUS Fld.SB_ERR_STATUS.OUT_SRC 1).sbReport .SB_OUT_SRC 0 0)
    else
      let w := p.word 0
      .next ((List.range 16).foldl (fun s k =>
        if bit w (48 + k) then
          let x := s.sb.outAt k
          let v := bit w (32 + k)
          if !bit w 31 then s.setOut k { x with held := v }
          else if bits (s.rd (Off.SB_OUT_CFG k)) 0 2 = 1 ∧ x.sw = false then
            s.setOut k { x with pulse := some (v, s.refTime + 4 * max 1 (bits w 0 16)) }
          else s
        else s) s1)

/-- SB_PULSE_END: a pulse of output k has lasted its width (R421, R422). -/
def execSbPulseEnd (k : Fin 16) (s : State) : Outcome :=
  let x := s.sb.outAt k
  match x.pulse with
  | some (_, t) => .next (if t ≤ s.refTime ∧ s.domOn 68 = true then s.setOut k { x with pulse := none } else s)
  | none => .next s

/-- SB_OUT_COMMIT: the output group is committed, and each output that changes drives PARK for 4 bridge cycles; a bad TICK_LOG2 or FUNC refuses it
(R421, R423). -/
def execSbOutCommit (s : State) : Outcome :=
  let ks := List.range 16
  let bad := ks.any (fun k =>
    let w := s.pendOf (Off.SB_OUT_CFG k)
    bits w 0 2 == 3 || (bits w 0 2 == 2 && decide (bits w 6 5 < 10 ∨ 30 < bits w 6 5)))
  if bad then .next s.sbCfg
  else
    let s1 := (ks.filter (fun k => s.pendOf (Off.SB_OUT_CFG k) != s.rd (Off.SB_OUT_CFG k))).foldl
      (fun s k => s.setOut k { s.sb.outAt k with pulse := none, sw := true }) s
    .next (s1.commitRegs (ks.map Off.SB_OUT_CFG))

/-- SB_OUT_SWITCH_END: after 4 bridge cycles output k's new function applies (R423). -/
def execSbOutSwitchEnd (k : Fin 16) (s : State) : Outcome :=
  .next (if (s.sb.outAt k).sw then s.setOut k { s.sb.outAt k with sw := false, tickAt := s.sbTime } else s)

/-- SB_TICK: local time has reached a multiple of 2^TICK_LOG2 ft, and a TICK output starts its pulse; a sleeping domain skips it (R67, R421). -/
def execSbTick (k : Fin 16) (s : State) : Outcome :=
  let c := s.rd (Off.SB_OUT_CFG k)
  let x := s.sb.outAt k
  if bits c 0 2 = 2 ∧ x.sw = false ∧ s.domOn 68 = true ∧ s.inReset = false then
    match s.sbDue (2 ^ bits c 6 5) x.tickAt with
    | none => .next s
    | some b => .next (s.setOut k { x with pulse := some (true, s.refTime + 4 * max 1 (bits c 16 16)), tickAt := b })
  else .next s

end Sys2Proof.Machine
end

