-- ==== Sys2Proof/Machine/HomeOps.lean ====
section
/-! DEFINITION. The shared operations of a home slice: its directory stores, its demands, and the course of a transaction from its
start to its end (R191 to R230, R234 to R248, R254 to R263, R585 to R587). -/
namespace Sys2Proof.Machine

/-! ### Slices and directory stores -/

/-- Home slice h. -/
def State.sliceAt (s : State) (h : Nat) : Slice := KMap.get (fun _ => Slice.reset) s.slice h
/-- The state with a slice replaced. -/
def State.setSlice (s : State) (h : Nat) (x : Slice) : State := { s with slice := KMap.set (fun _ => Slice.reset) s.slice h x }
/-- The state with a slice changed. -/
def State.modSlice (s : State) (h : Nat) (f : Slice → Slice) : State := s.setSlice h (f (s.sliceAt h))

/-- Set of a line within its slice (R236). -/
def setOf (line : Nat) : Nat := (line % 2 ^ 14) ^^^ (line / 2 ^ 14 % 2 ^ 14) ^^^ (line / 2 ^ 28 % 2 ^ 14) ^^^ (line / 2 ^ 42)
/-- Tag of a line (R236). -/
def tagOf (line : Nat) : Nat := line / 2 ^ 14
/-- The line of a set and tag (R236). -/
def lineOf (set tag : Nat) : Nat :=
  tag * 2 ^ 14 + (set ^^^ (tag % 2 ^ 14) ^^^ (tag / 2 ^ 14 % 2 ^ 14) ^^^ (tag / 2 ^ 28))

/-- A stored word of a directory store; words never written are zero. -/
def dirW (m : KMap W64) (k : Nat) : W64 := KMap.get (fun _ => 0) m k
/-- A directory store with a word written. -/
def setDirW (m : KMap W64) (k : Nat) (w : W64) : KMap W64 := KMap.set (fun _ => 0) m k w

/-- Set status word (R242). -/
def Slice.status (x : Slice) (set : Nat) : W64 := dirW x.stat set
/-- The slice with a set status word replaced. -/
def Slice.setStatus (x : Slice) (set : Nat) (w : W64) : Slice := { x with stat := setDirW x.stat set w }
/-- A set is in broadcast mode (R242). -/
def Slice.bcast (x : Slice) (set : Nat) : Bool := bit (x.status set) 63
/-- Way w of a set is retired (R242). -/
def Slice.retired (x : Slice) (set w : Nat) : Bool := bit (x.status set) (32 + w)
/-- Way w of a set is served by a spare (R242). -/
def Slice.spared (x : Slice) (set w : Nat) : Bool := bit (x.status set) (16 + w)

/-- The spare bound to a way (R243, R244). -/
def Slice.spareOf (x : Slice) (set way : Nat) : Option Nat :=
  (List.range 64).find? (fun k =>
    let w := dirW x.spTag0 k
    bit w 63 && !bit w 62 && bits w 46 14 == set && bits w 42 4 == way)

/-- Entry word and tag of a way, taken from its spare where it is spared (R244). -/
def Slice.slot (x : Slice) (set way : Nat) : W64 × Nat :=
  if x.spared set way then
    match x.spareOf set way with
    | some k => (dirW x.spEnt k, bits (dirW x.spTag0 k) 0 32)
    | none => (0, 0)
  else (dirW x.ent (set * 16 + way), bits (dirW x.tag0 (set * 8 + way / 2)) (32 * (way % 2)) 32)

/-- The slice with the entry word and tag of a way written, in both copies of the tag (R237, R244). -/
def Slice.setSlot (x : Slice) (set way : Nat) (e : W64) (tag : Nat) : Slice :=
  if x.spared set way then
    match x.spareOf set way with
    | some k =>
      let w := setBits (dirW x.spTag0 k) 0 32 tag
      { x with spEnt := setDirW x.spEnt k e, spTag0 := setDirW x.spTag0 k w, spTag1 := setDirW x.spTag1 k w }
    | none => x
  else
    let i := set * 8 + way / 2
    let w := setBits (dirW x.tag0 i) (32 * (way % 2)) 32 tag
    { x with ent := setDirW x.ent (set * 16 + way) e, tag0 := setDirW x.tag0 i w, tag1 := setDirW x.tag1 i w }

/-- An entry word's FORM is not free (R238). -/
def entryUsed (e : W64) : Bool := bits e 59 2 != 0

/-- What an entry word says (R238, R239). -/
def View.ofWord (e : W64) : View :=
  let st := bits e 61 3
  let form := bits e 59 2
  let n := bits e 57 2
  if form = 1 then
    let ps := [bits e 36 12, bits e 24 12, bits e 12 12].take n
    let own := decide (2 ≤ st)
    { st := st, hostg := bits e 55 2, proxy := bit e 54, owner := if own then ps.head? else none,
      ptrs := if own then ps.drop 1 else ps, vec := none }
  else if form = 2 then
    { st := st, hostg := bits e 55 2, proxy := bit e 54, owner := if n = 1 then some (bits e 36 12) else none,
      ptrs := [], vec := some (bits e 24 12) }
  else View.u

/-- The entry word of a view (R238, R239). -/
def View.word (v : View) : W64 :=
  if v.st = 0 then 0
  else
    let base := v.st % 8 * 2 ^ 61 + v.hostg % 4 * 2 ^ 55 + b2n v.proxy * 2 ^ 54
    match v.vec with
    | some i =>
      BitVec.ofNat 64 (base + 2 * 2 ^ 59 + b2n v.owner.isSome * 2 ^ 57 + (v.owner.getD 0) % 4096 * 2 ^ 36 + i % 4096 * 2 ^ 24)
    | none =>
      let ps := v.owner.toList ++ v.ptrs
      BitVec.ofNat 64 (base + 1 * 2 ^ 59 + ps.length % 4 * 2 ^ 57 + ps.getD 0 0 % 4096 * 2 ^ 36 + ps.getD 1 0 % 4096 * 2 ^ 24 +
        ps.getD 2 0 % 4096 * 2 ^ 12)

/-- The way that a line hits (R244). -/
def Slice.hitWay (x : Slice) (line : Nat) : Option Nat :=
  let set := setOf line
  (List.range 16).find? (fun w => !x.retired set w && entryUsed (x.slot set w).1 && (x.slot set w).2 == tagOf line)

/-- A way is held by a transaction in progress. -/
def Slice.wayBusy (x : Slice) (set way : Nat) : Bool := x.recs.any (fun t => t.set == set && t.way == some way)

/-- The line recovery of a way is due: its entry word is not to be used (R261). -/
def Slice.recovering (x : Slice) (set way : Nat) : Bool := x.maint.any (fun e => e.1 == .recover set way)

/-- A line's holders are unknown until the recovery of its way has run (R261). -/
def Slice.lineLost (x : Slice) (line : Nat) : Bool :=
  let set := setOf line
  (List.range 16).any (fun w => x.recovering set w && (x.slot set w).2 == tagOf line)

/-- REF bit w is set; when every usable way's REF bit would be set, the others are cleared (R244). -/
def Slice.touch (x : Slice) (set way : Nat) : Slice :=
  let w := x.status set
  let w1 := w ||| BitVec.ofNat 64 (2 ^ way)
  let full := (List.range 16).all (fun k => x.retired set k || bit w1 k)
  x.setStatus set (if full then (w1 &&& ~~~(BitVec.ofNat 64 0xFFFF)) ||| BitVec.ofNat 64 (2 ^ way) else w1)

/-- The free way a miss takes: the lowest-numbered usable one (R245). -/
def Slice.freeWay (x : Slice) (set : Nat) : Option Nat :=
  (List.range 16).find? (fun w => !x.retired set w && !entryUsed (x.slot set w).1 && !x.wayBusy set w && !x.recovering set w)

/-- Rank of a line as a victim (R245). -/
def victimRank (v : View) : Nat := if v.st = 1 then (if v.vec.isNone then 1 else 2) else if v.st = 2 then 3 else if v.st = 4 then 4 else 5

/-- The victim way of a full set (R245). -/
def Slice.victimWay (x : Slice) (set : Nat) : Option Nat :=
  let cand := (List.range 16).filter (fun w => !x.retired set w && entryUsed (x.slot set w).1 && !x.wayBusy set w && !x.recovering set w)
  let key := fun w => victimRank (View.ofWord (x.slot set w).1) * 32 + b2n (bit (x.status set) w) * 16 + w
  cand.foldl (fun a w => match a with
    | none => some w
    | some b => if key w < key b then some w else some b) none

/-- The lowest-indexed free vector (R240). -/
def Slice.freeVec (x : Slice) : Option Nat := (List.range 4096).find? (fun i => !KMap.get (fun _ => false) x.vecUsed i)
/-- The slice with a vector marked used or free. -/
def Slice.markVec (x : Slice) (i : Nat) (b : Bool) : Slice := { x with vecUsed := KMap.set (fun _ => false) x.vecUsed i b }

/-! ### Agents, ports and memory targets -/

/-- CPMASK of a group (R192). -/
def State.groupMask (s : State) (h bank g : Nat) : Nat := bits (s.tabW (sliceNi h) bank Sec.AGENT 0 (4096 + g)) 0 32
/-- The caching port mask of the instance (R192). -/
def State.portMask (s : State) (h bank : Nat) : Nat := (List.range 64).foldl (fun a g => a ||| s.groupMask h bank g) 0
/-- PORT_NI of an agent (R192). -/
def State.agentPort (s : State) (h bank a : Nat) : Nat := bits (s.agentWord h bank a) 48 8
/-- A port's table sets FWD_OK (R198, R222). -/
def State.portFwd (s : State) (bank n : Nat) : Bool := (s.xlateCaps n bank).testBit 1
/-- A port's table sets SILENT (R217, R222). -/
def State.portSilent (s : State) (bank n : Nat) : Bool := (s.xlateCaps n bank).testBit 0

/-- The memory target of a HOME line, with its number k (R235). -/
def State.memTarget (s : State) (h bank line : Nat) : Option (Nat × Nat) :=
  match (List.range 64).find? (fun k =>
      let w := s.tabW (sliceNi h) bank Sec.MEMMAP 0 (2 * k)
      bit w 63 && windowCovers w line && !s.entryBad (sliceNi h) bank Sec.MEMMAP 0 (2 * k) 2) with
  | none => none
  | some i =>
    let w0 := s.tabW (sliceNi h) bank Sec.MEMMAP 0 (2 * i)
    let w1 := s.tabW (sliceNi h) bank Sec.MEMMAP 0 (2 * i + 1)
    let ilv := bits w0 61 2
    let k := if ilv = 1 then nbits (line * 64) (bits w0 6 6) 1 else if ilv = 2 then nbits (line * 64) (bits w0 6 6) 2 else 0
    some (k, bits w1 (56 - 8 * k) 8)

/-- TARGET_NI of a line that the slice's address map decodes through a PROXY window (R157, R218). -/
def State.proxyOf (s : State) (h bank line : Nat) : Option Nat :=
  match s.mapWindow (sliceNi h) bank line with
  | some (w0, w1) => if bits w0 60 4 = 2 then some (bits w1 40 8) else none
  | none => none

/-! ### Reports -/

/-- A home slice reports through its HSL NI with SUB 2: set, way and store in DETAIL (R505, R506). -/
def State.reportHs (s : State) (h : Nat) (k : FaultKind) (set way spare store : Nat) : State :=
  s.report (sliceNi h) 2 k (set % 2 ^ 14 * 2 ^ 25 + way % 16 * 2 ^ 21 + spare % 2 ^ 13 * 2 ^ 8 + store)

/-- COH_PROTOCOL raised by a slice, with the agent and line, and SRC in the detail (R193, R201, R206, R213). DETAIL[7:0] holds SRC: DESIGN CHOICE, R506
gives it no place (log entry 49). -/
def State.cohProtocol (s : State) (h src agent line : Nat) : State := s.reportAt (sliceNi h) 2 .COH_PROTOCOL (src % 256) agent line

/-- COH_POISON: a line is poisoned (R213). -/
def State.cohPoison (s : State) (h agent line : Nat) : State :=
  (s.reportAt (sliceNi h) 2 .COH_POISON 0 agent line).evHs h 76 true none

/-! ### Transactions and their demands -/

/-- A transaction record by its number. -/
def Slice.tx (x : Slice) (num : Nat) : Option Tx := x.recs.find? (fun t => t.num == num)
/-- The slice with a transaction record changed. -/
def Slice.modTx (x : Slice) (num : Nat) (f : Tx → Tx) : Slice := { x with recs := x.recs.map (fun t => if t.num = num then f t else t) }
/-- The state with a transaction record changed. -/
def State.modTx (s : State) (h num : Nat) (f : Tx → Tx) : State := s.modSlice h (fun x => x.modTx num f)
/-- The transaction that holds a line (R204). -/
def Slice.busy (x : Slice) (line : Nat) : Option Tx := x.recs.find? (fun t => t.line == line)
/-- The lowest free record number. -/
def Slice.freeRec (x : Slice) : Nat := ((List.range 256).find? (fun k => !x.recs.any (fun t => t.num == k))).getD 0

/-- A demand to be sent: destination, packet, agent or group asked for, role, FWD. -/
structure Ask where
  dest : Nat
  p : Pkt
  who : Nat
  role : DemRole
  fwd : Bool
  deriving DecidableEq, Repr

/-- The header of a demand: the line, the requester's agent, or 0xFFF where no requester is served, and the request's EPOCH (R91, R197, R198). -/
def Tx.demHdr (t : Tx) (op : Nat) : Hdr :=
  let mine := match t.kind with
    | .req _ => true
    | _ => false
  { Hdr.zero with
    vn := 1, colour := 3, epoch := BitVec.ofNat 2 t.epoch, opcode := BitVec.ofNat 6 op,
    agent := if mine then t.h.agent else 0xFFF, priv := mine && t.h.priv, origin := mine && t.h.origin, mid := BitVec.ofNat 46 t.line }

/-- A snoop (R198): SCOPE and TARGET, FWD with the requester's NI, tag, NRESP and GRANT, WB. -/
def Tx.snoop (t : Tx) (op dest scope who : Nat) (role : DemRole) (fwd wb : Bool) : Ask :=
  let w := (if scope = 2 then 0 else who % 4096) * 2 ^ 52 + scope % 4 * 2 ^ 50 + b2n fwd * 2 ^ 49 + b2n wb * 2 ^ 48 +
    (if fwd then t.h.src.toNat * 2 ^ 40 + t.h.tag.toNat * 2 ^ 32 + t.nresp % 4 * 2 ^ 30 + t.grant % 8 * 2 ^ 27 else 0)
  ⟨dest, Pkt.one (t.demHdr op) (lineOfWords [BitVec.ofNat 64 w]), who, role, fwd⟩

/-- The snoops addressed to every sharer of a view other than an agent (R241). -/
def State.sharerSnoops (s : State) (h bank : Nat) (t : Tx) (v : View) (op : Nat) (wb : Bool) (but : Option Nat) : List Ask :=
  match v.vec with
  | none => (v.ptrs.filter (fun p => some p != but)).map (fun p => t.snoop op (s.agentPort h bank p) 0 p .sharer false wb)
  | some i =>
    let groups := dirW (s.sliceAt h).vec i
    let mask := s.portMask h bank
    ((List.range 32).filter (fun n => mask.testBit n)).foldl (fun a n =>
      let g := (List.range 64).filter (fun g => bit groups g && (s.groupMask h bank g).testBit n)
      if g.isEmpty then a
      else if g.length ≤ 4 then a ++ g.map (fun g => t.snoop op n 1 g .group false wb)
      else a ++ [t.snoop op n 2 64 .group false wb]) []

/-- The snoops of a broadcast: SCOPE 0b10 to every port of the caching port mask (R221, R261). -/
def State.portSnoops (s : State) (h bank : Nat) (t : Tx) (op : Nat) (wb : Bool) : List Ask :=
  ((List.range 32).filter (fun n => (s.portMask h bank).testBit n)).map (fun n => t.snoop op n 2 0 .port false wb)

/-- The read of a line's data: MRD to its memory target, or PXRD, PXRO or PXRC to the host (R207, R218, R235). -/
def State.readAsk (s : State) (h bank : Nat) (t : Tx) (px : Nat) (nodata : Bool) : List Ask :=
  match t.proxy with
  | some n => [⟨n, Pkt.one (t.demHdr px) (lineOfWords [BitVec.ofNat 64 (b2n nodata)]), 0, .read, false⟩]
  | none =>
    match s.memTarget h bank t.line with
    | some (_, n) => [⟨n, Pkt.one (t.demHdr 4) 0, 0, .read, false⟩]
    | none => []

/-- The write of a line: MWR of a whole or masked line, PXWB or PXWC of a whole one; POISON in the flit that carries it (R197, R208, R218). -/
def State.writeAsk (s : State) (h bank : Nat) (t : Tx) (b : Body) (sharersRemain : Bool) : List Ask :=
  match t.proxy with
  | some n =>
    [⟨n, Pkt.ofLines (t.demHdr (if sharersRemain then 11 else 10)) [⟨b.poison, allBytes, b.data⟩], 0, .write, false⟩]
  | none =>
    match s.memTarget h bank t.line with
    | some (_, n) =>
      let hd := t.demHdr 5
      if b.be = allBytes then [⟨n, Pkt.ofLines hd [b], 0, .write, false⟩]
      else [⟨n, { h := { hd with len := 1, hdata := false }, pl := 0, body := [⟨b.poison, b.be, b.data &&& byteMask b.be⟩] }, 0, .write, false⟩]
    | none => []

/-- PXEV to the host (R218). -/
def Tx.evictAsk (t : Tx) : List Ask :=
  match t.proxy with
  | some n => [⟨n, Pkt.one (t.demHdr 9) 0, 0, .write, false⟩]
  | none => []

/-- Tags of an HSL NI that a demand may take now: FREE and open to SNP, less the demands already handed over. -/
def State.demandTags (s : State) (n : Nat) : Nat :=
  let u := s.niAt n
  let coh := s.fld (Off.NI_TAG_CFG n) Fld.NI_TAG_CFG.RSV_COH
  let io := s.fld (Off.NI_TAG_CFG n) Fld.NI_TAG_CFG.RSV_IO
  let free := ((List.range 256).filter (fun k => decide ((u.tag k).st = .free) && tagClassOk coh io Vn.SNP k)).length
  free - (u.answers.filter (fun a => a.p.h.vn.toNat == Vn.SNP)).length

/-- The demand counters (R552). -/
def State.countDemand (s : State) (h : Nat) (p : Pkt) (dest : Nat) : State :=
  let op := p.h.opcode.toNat
  let w := p.word 0
  let s1 := (s.evHs h (43 + op) true (some p.h)).evHs h (104 + niTypeCode (niType dest)) true (some p.h)
  let s2 := if op ≤ 3 then (s1.evHs h (55 + bits w 50 2) true (some p.h)) else s1
  let s3 := if op ≤ 3 ∧ bit w 49 = true then s2.evHs h 58 true (some p.h) else s2
  match (if op = 4 ∨ op = 5 then s.memTarget h (s.bankOf (sliceNi h) p.h.epoch.toNat).1 p.h.line else none) with
  | some (k, _) => s3.evHs h ((if op = 4 then 112 else 116) + k) true (some p.h)
  | none => s3

/-- Demands leave for the HSL NI (R151, R197). -/
def State.sendDems (s : State) (h : Nat) (l : List (Nat × Pkt × Nat)) : State :=
  l.foldl (fun s e => (s.countDemand h e.2.1 e.2.2).handOver (sliceNi h) e.2.2 e.2.1 none e.1) s

/-! ### Answers to requesters -/

/-- A completion to the requester, with the counters of R552. -/
def State.complete (s : State) (h : Nat) (q : Hdr) (vn op resp msg : Nat) (lines : List Body) : State :=
  let n := sliceNi h
  let k := if vn = Vn.DAT then 67 else if op = 1 then 68 else if op = 2 then 69 else if op = 6 then 70 else if op = 3 then 30 else 128
  let s1 := s.answer n q vn op resp msg lines
  let s2 := if k < 128 then s1.evHs h k true (some q) else s1
  let s3 := if resp = Resp.OK then s2 else s2.evHs h 71 true (some q)
  let g := msgGrant msg
  if (vn = Vn.DAT ∨ op = 1) ∧ 1 ≤ g ∧ g ≤ 3 then s3.evHs h (71 + g) true (some q)
  else if (vn = Vn.DAT ∨ op = 1) ∧ q.opcode.toNat = 4 then s3.evHs h 75 true (some q) else s3

/-- CMP with an error RESP (R193, R195, R213, R235). -/
def State.cmpErr (s : State) (h : Nat) (q : Hdr) (resp : Nat) : State := s.complete h q Vn.RSP 1 resp 0 []

/-- The home answers with RTY (R205, R232). -/
def State.retry (s : State) (h : Nat) (q : Hdr) : State := s.complete h q Vn.RSP 3 Resp.OK 0 []

/-! ### Staging lines and demands -/

/-- An answer of the HSL NI's queue carries line data of a transaction: one of its demands, or its completion (R247). -/
def Tx.owns (t : Tx) (a : Answer) : Bool :=
  t.dems.any (fun d => d.id == a.ident) || (vnResponse a.p.h.vn.toNat && a.p.h.town == t.h.src.toNat && a.p.h.tag == t.h.tag)

/-- Staging lines in use: those of transactions that collect, one of each that still has a packet with data to hand over, and those of packets that wait for
room in the NI after their transaction has ended (R247). -/
def State.stgUsed (s : State) (h : Nat) : Nat :=
  let x := s.sliceAt h
  let out := (s.niAt (sliceNi h)).answers.filter (fun a => !a.p.lines.isEmpty)
  let closing := x.recs.filter (·.closing)
  x.recs.foldl (fun n t =>
    if !t.closing then n + (if t.staged then t.lines else 0)
    else n + b2n (x.bulk.any (fun b => b.1 == t.num) || t.unsent.any (fun e => !e.2.1.lines.isEmpty) || out.any t.owns)) 0 +
    (out.filter (fun a => !closing.any (fun t => t.owns a))).length

/-- A transaction takes its staging lines once they are free, and one that awaits write data then sends WRGO; until then it waits in its record
(R208, R247). -/
def State.reserve (s : State) (h num : Nat) : State :=
  match (s.sliceAt h).tx num with
  | none => s
  | some t =>
    if t.staged || (t.lines != 0 && decide (512 < s.stgUsed h + t.lines)) then s
    else
      let s1 := s.modTx h num (fun t => { t with staged := true })
      if t.wdat then s1.complete h t.h Vn.RSP 2 Resp.OK 0 [] else s1

/-- A transaction's unsent demands leave once a tag is free for each; those of a recall leave in a RECALL transfer (R232, R249). -/
def State.flushTx (s : State) (h num : Nat) (force : Bool) : State :=
  match (s.sliceAt h).tx num with
  | none => s
  | some t =>
    if t.unsent.isEmpty || !t.staged || (t.recalling && !force) || decide (s.demandTags (sliceNi h) < t.unsent.length) then s
    else (s.modTx h num (fun t => { t with unsent := [] })).sendDems h t.unsent

/-- A transaction asks: each demand gets an identifier; memory writes outside a recall go to the BULK queue, and all others leave for the NI (R232, R249). -/
def State.ask (s : State) (h num : Nat) (l : List Ask) : State :=
  let s1 := l.foldl (fun s a =>
    let x := s.sliceAt h
    let id := x.nextDem
    let recalling := match x.tx num with
      | some t => t.recalling
      | none => false
    let op := a.p.h.opcode.toNat
    let x1 := { x.modTx num (fun t => { t with dems := t.dems ++ [⟨id, op, a.dest, a.who, a.role, a.fwd⟩] }) with nextDem := id + 1 }
    if op = 5 ∧ recalling = false then
      s.setSlice h { x1 with bulk := x1.bulk ++ [(num, a.dest, a.p, id, s.niTime (sliceNi h))] }
    else s.setSlice h (x1.modTx num (fun t => { t with
      unsent := t.unsent ++ [(id, a.p, a.dest)], raised := if t.unsent.isEmpty then s.niTime (sliceNi h) else t.raised }))) s
  s1.flushTx h num false

/-! ### Wear -/

/-- The slice's wear fields of HS_WEAR follow the stores. -/
def Slice.wear (x : Slice) : Nat × Nat × Nat × Nat :=
  let used := (x.spTag0.filter (fun e => bit e.2 63 && !bit e.2 62)).length
  let dead := (x.spTag0.filter (fun e => bit e.2 62)).length
  let ret := x.stat.foldl (fun a e => a + ((List.range 16).filter (fun w => bit e.2 (32 + w))).length) 0
  let bc := (x.stat.filter (fun e => bit e.2 63)).length
  (used, dead, ret, bc)

/-- HS_WEAR with its counts brought up to date. -/
def State.updateWear (s : State) (h : Nat) : State :=
  let (u, d, r, b) := (s.sliceAt h).wear
  let o := Off.HS_WEAR h
  ((((s.setFld o Fld.HS_WEAR.SPARES_USED u).setFld o Fld.HS_WEAR.SPARES_DEAD d).setFld o Fld.HS_WEAR.WAYS_RETIRED r).setFld o
    Fld.HS_WEAR.BCAST_SETS b)

/-- Word 0 of the record of a repair with SEQ zero: KIND 1 SPARE, 2 SPARE_DEAD, 3 WAY_RETIRE, 4 BROADCAST (R266). -/
def repairWord (kind h set way spare : Nat) : W64 :=
  BitVec.ofNat 64 (kind * 2 ^ 60 + h * 2 ^ 56 + set * 2 ^ 42 + (if kind = 4 then 0 else way * 2 ^ 38) + (if kind ≤ 2 then spare * 2 ^ 32 else 0))

/-- A repair has been made, and its report is on its way to the Pot (R267). -/
def State.repaired (s : State) (h kind set way spare : Nat) : State :=
  s.modSlice h (fun x => { x with told := x.told ++ [(repairWord kind h set way spare, s.niTime (sliceNi h))] })

/-- A set enters broadcast mode: its remaining idle entries are freed by MAINT transfers (R259). -/
def State.enterBcast (s : State) (h set : Nat) : State :=
  let x := s.sliceAt h
  let before := x.wear.2.2.2
  let jobs := ((List.range 16).filter (fun k => !x.retired set k && entryUsed (x.slot set k).1)).map (fun k => (Maint.discard set k, s.niTime (sliceNi h)))
  let s1 := (s.modSlice h (fun x => { x.setStatus set (x.status set ||| BitVec.ofNat 64 (2 ^ 63)) with maint := x.maint ++ jobs })).repaired h 4 set 0 0
  let s2 := (((s1.setFld (Off.HS_ERR_STATUS h) Fld.HS_ERR_STATUS.BCAST 1).evHs h 92 false none).reportHs h .DIR_BROADCAST set 0 0 0).updateWear h
  if before = 256 then (s2.setFld (Off.HS_WEAR h) Fld.HS_WEAR.BCAST_LIMIT 1).reportHs h .DIR_BCAST_LIMIT set 0 0 0 else s2

/-- A set enters broadcast mode when eight ways are retired (R259). -/
def State.checkBcast (s : State) (h set : Nat) : State :=
  let w := (s.sliceAt h).status set
  let n := ((List.range 16).filter (fun k => bit w (32 + k))).length
  if bit w 63 || decide (n < 8) then s.updateWear h else s.enterBcast h set

/-- A way is retired once its recall has ended (R258). -/
def State.retireWay (s : State) (h set way : Nat) : State :=
  let x := s.sliceAt h
  let w := (x.status set ||| BitVec.ofNat 64 (2 ^ (32 + way))) &&& ~~~(BitVec.ofNat 64 (2 ^ (16 + way)))
  (((((s.setSlice h (x.setStatus set w)).setFld (Off.HS_ERR_STATUS h) Fld.HS_ERR_STATUS.RETIRED 1).evHs h 91 false none).reportHs h
    .DIR_WAY_RETIRED set way 0 0).repaired h 3 set way 0).checkBcast h set

/-! ### The end of a transaction -/

/-- A transaction's vector is freed when its line leaves vector form (R240). -/
def Slice.releaseVec (x : Slice) (old new : View) : Slice :=
  match old.vec with
  | some i => if new.vec = some i then x else x.markVec i false
  | none => x

/-- Waiters that may look up again when a line leaves busy: the first for the line, those that waited for the set, and one that
waited for a record (R204, R205, R245). -/
def Slice.wakeWaiters (x : Slice) (line set now : Nat) : Slice :=
  let first := x.waits.findIdx? (fun w => w.p.h.line == line)
  let starved := x.waits.findIdx? (fun w => !w.full && w.ready.isNone && (x.busy w.p.h.line).isNone)
  let idx := List.range x.waits.length
  { x with waits := idx.filterMap (fun i => match x.waits[i]? with
      | some w => some (if some i = first ∨ some i = starved ∨ (w.full = true ∧ w.set = set) then { w with ready := some (w.ready.getD now) } else w)
      | none => none) }

/-- The transaction ends: the line takes its target state, its record is free, and waiters may start (R204, R239, R245, R258, R259, R261). -/
def State.finishTx (s : State) (h : Nat) (t : Tx) : State :=
  let x := s.sliceAt h
  let gone := x.bcast t.set
  let v := if gone then View.u else t.new
  let x1 := match t.way with
    | some w =>
      let e := v.word
      ((x.setSlot t.set w e (tagOf t.line)).releaseVec t.old v)
    | none => x
  let x2 := { x1 with recs := x1.recs.filter (fun r => r.num != t.num) }
  let s1 := (s.setSlice h (x2.wakeWaiters t.line t.set (s.niTime (sliceNi h)))).evHs h 84 true (some t.h)
  match t.kind with
  | .retire => match t.way with
    | some w => s1.retireWay h t.set w
    | none => s1
  | .recover => match t.way with
    | some w => s1.modSlice h (fun x => { x with maint := x.maint ++ [(.spare t.set w, s.niTime (sliceNi h))] })
    | none => s1
  | _ => s1

/-- Fences answered once every earlier write of their SRC has passed its visibility point (R230). -/
def State.passFences (s : State) (h num : Nat) : State :=
  let l := (s.sliceAt h).fncs.map (fun f => (f.1, f.2.filter (· != num)))
  let go := l.filter (fun f => f.2.isEmpty)
  go.foldl (fun s f => s.complete h f.1 Vn.RSP 6 Resp.OK 0 []) (s.modSlice h (fun x => { x with fncs := l.filter (fun f => !f.2.isEmpty) }))

/-! ### Closing -/

/-- The requester's agent. -/
def Tx.agent (t : Tx) : Nat := t.h.agent.toNat
/-- REQ opcode of the request served, 0 for none. -/
def Tx.op (t : Tx) : Nat := match t.kind with
  | .req op => op
  | _ => 0

/-- A view with an owner that has become a sharer or is gone gets the state its holders make (R203). -/
def View.settle (v : View) : View :=
  match v.owner with
  | some _ => v
  | none => if v.ptrs.isEmpty && v.vec.isNone then { v with st := 0 } else { v with st := 1 }

/-- A new sharer is recorded: a group bit in vector form, a pointer where one is free, else a move to vector form (R240). -/
def State.addSharer (s : State) (h : Nat) (v : View) (a : Nat) (evicted : Bool) : State × View :=
  match v.vec with
  | some i =>
    (s.modSlice h (fun x => { x with vec := setDirW x.vec i (dirW x.vec i ||| BitVec.ofNat 64 (2 ^ (a / 64))) }), v)
  | none =>
    if v.ptrs.contains a then (s, v)
    else if v.owner.toList.length + v.ptrs.length < 3 then (s, { v with ptrs := v.ptrs ++ [a] })
    else if evicted then (s, { v with ptrs := v.ptrs.dropLast ++ [a] })
    else
      match (s.sliceAt h).freeVec with
      | none => (s, { v with ptrs := v.ptrs.dropLast ++ [a] })
      | some i =>
        let w := (v.ptrs ++ [a]).foldl (fun w p => w ||| BitVec.ofNat 64 (2 ^ (p / 64))) (0 : W64)
        ((s.modSlice h (fun x => { x.markVec i true with vec := setDirW x.vec i w })).evHs h 41 false none, { v with ptrs := [], vec := some i })

/-- The state granted and the line's new view when a transaction closes without a failure (R206 to R208). -/
def State.grantView (s : State) (h : Nat) (t : Tx) : State × View × Nat :=
  let v := t.new.settle
  let x := t.agent
  if t.bcast then (s, View.u, t.grant)
  else if t.op = 1 then
    if v.st = 0 then
      let e := t.old.st == 0 && bit t.w2 19 && (t.proxy.isNone || decide (2 ≤ t.new.hostg))
      (s, { v with st := if e then 2 else 1, owner := if e then some x else none, ptrs := if e then [] else [x], proxy := t.proxy.isSome }, if e then 2 else 1)
    else
      let (s1, v1) := s.addSharer h v x false
      (s1, v1, 1)
  else if t.op = 2 ∨ t.op = 3 then (s, { v with st := 3, owner := some x, ptrs := [], vec := none, proxy := t.proxy.isSome }, 3)
  else if t.op = 5 ∨ t.op = 6 ∨ t.op = 7 ∨ t.op = 4 ∨ t.op = 9 then (s, v, 0)
  else (s, { v with st := 0, owner := none, ptrs := [], vec := none }, 0)

/-- The completion of a request (R207, R208, R210, R213, R219): DATA, DATA and CMP, or CMP; SDATA or SRSP for an HSNP. -/
def State.sendCompletion (s : State) (h : Nat) (t : Tx) (grant : Nat) (writes : Bool) : State :=
  let b := t.data.getD ⟨true, allBytes, 0⟩
  let resp := if t.poisonAnswer then Resp.ERR_POISON else Resp.OK
  let data := fun (s : State) =>
    s.complete h t.h Vn.DAT 1 resp (leafMsg t.nresp grant (t.dirty && !writes) false 0 false)
      [⟨b.poison || t.poisonAnswer, allBytes, b.data⟩]
  let cmp := fun (s : State) => s.complete h t.h Vn.RSP 1 Resp.OK (leafMsg t.nresp grant false false 0 false) []
  if t.op = 9 then
    if t.poisonAnswer then s.answer (sliceNi h) t.h Vn.DAT 3 Resp.ERR_POISON (leafMsg 0 0 true false t.kept t.hit) [⟨true, allBytes, b.data⟩]
    else if t.dirty then s.answer (sliceNi h) t.h Vn.DAT 3 Resp.OK (leafMsg 0 0 true false t.kept t.hit) [b]
    else s.answer (sliceNi h) t.h Vn.RSP 4 Resp.OK (leafMsg 0 0 false false t.kept t.hit) []
  else if t.op = 5 ∨ t.op = 7 then (if t.perr then s.cmpErr h t.h Resp.ERR_POISON else s)
  else if t.op = 6 ∨ t.op = 0 then s
  else if t.stgBad then s.complete h t.h Vn.DAT 1 Resp.ERR_DATA (leafMsg 1 0 false false 0 false) []
  else if t.failed ≠ 0 ∧ t.dirty = false ∧ t.forwarded = false ∧ t.poisonAnswer = false then s.cmpErr h t.h t.failed
  else if t.poisonAnswer then (if t.nresp = 2 then cmp (data s) else data s)
  else if !t.needData then cmp s
  else if t.forwarded then cmp s
  else if t.nresp = 2 then cmp (data s)
  else data s

/-- Whether a grant is given: a completion with OK or ERR_POISON of RDS, RDO or UPG (R202, R207). -/
def Tx.grants (t : Tx) : Bool :=
  (t.op == 1 || t.op == 2 || t.op == 3) && (t.poisonAnswer || t.failed == 0 || t.dirty || t.forwarded)

/-- The bytes a closing transaction writes to memory or to the host, if any; written data that came poisoned is not merged (R132, R207, R208, R212, R213,
R221). -/
def Tx.writeBody (t : Tx) (new : View) : Option Body :=
  let b := t.data.getD ⟨true, allBytes, 0⟩
  if t.poison then some ⟨true, allBytes, b.data⟩
  else if t.op = 5 then
    match t.wdata with
    | none => none
    | some w =>
      if w.poison then some ⟨true, allBytes, w.data⟩
      else match t.data with
      | some d => some ⟨d.poison, allBytes, mergeLine d.data w.data t.mask⟩
      | none => some ⟨false, t.mask, w.data⟩
  else if t.op = 6 then t.wdata.map (fun w => ⟨w.poison, allBytes, w.data⟩)
  else if t.op = 9 then none
  else if t.bcast then (if t.dirty && (t.op == 1 || t.op == 0 || (t.op == 4 && !t.gave.isEmpty)) then some ⟨b.poison, allBytes, b.data⟩ else none)
  else if t.dirty && decide (new.st ≤ 1) then some ⟨b.poison, allBytes, b.data⟩
  else none

/-- Eight words of data that the spec does not state (log entry 1). -/
def State.freshLine (s : State) : Line × State :=
  (lineOfWords ((List.range 8).map (fun k => Config.freeValue (s.free + k))), { s with free := s.free + 8 })

/-- What an uncorrectable staging byte makes of a transaction (R248): dirty or written data poisons the line, clean data is lost. -/
def Tx.stagingLost (t : Tx) : Tx :=
  if !t.stgUe then t
  else if t.dirty || t.wdata.isSome then { t with poison := true, poisonAnswer := true }
  else if t.needData && !t.forwarded && t.data.isSome then { t with failed := Resp.ERR_DATA, stgBad := true }
  else t

/-- The data of a poisoned line is not stated; nor are the bytes that a WRI on a PROXY line could not read (R213, R218). -/
def State.openData (s : State) (t : Tx) : State × Tx :=
  if t.poison then
    let (l, s1) := s.freshLine
    (s1, { t with data := some ⟨true, allBytes, l⟩ })
  else if t.op = 5 ∧ t.proxy.isSome = true ∧ t.data.isNone = true then
    let (l, s1) := s.freshLine
    (s1, { t with data := some ⟨false, allBytes, l⟩ })
  else (s, t)

/-- Closing a transaction whose answers are all in: its completion, its grant, its memory write, or PXEV when the last holder of a
PROXY line has gone (R204, R207, R208, R218). -/
def State.closeTx (s0 : State) (h : Nat) (t0 : Tx) : State :=
  let bank := (s0.bankOf (sliceNi h) t0.epoch).1
  let ts := t0.stagingLost
  let (s, t) := (if ts.poison && !t0.poison then s0.cohPoison h ts.agent ts.line else s0).openData ts
  let grants := t.grants
  let (s1, v, g) := if grants || !(t.op == 1 || t.op == 2 || t.op == 3) then s.grantView h t else (s, t.new.settle, 0)
  let wb := t.writeBody v
  let s2 := s1.sendCompletion h t g (wb.isSome && t.op != 5 && t.op != 6)
  let ack := grants && decide (1 ≤ g)
  let s3 := s2.modTx h t.num (fun t => { t with
    new := v, closing := true, visible := true, ackw := if ack then some (s.niTime (sliceNi h)) else none })
  let s4 := s3.passFences h t.num
  let remain := decide (1 ≤ v.st) || (t.bcast && t.op == 1)
  match wb with
  | some b => s4.ask h t.num (s4.writeAsk h bank t b remain)
  | none =>
    if t.proxy.isSome && v.st == 0 && t.way.isSome && t.op != 9 && (t.new.hostg == 1 || t.new.hostg == 2) then s4.ask h t.num t.evictAsk
    else s4

/-- A transaction whose answers are all in still needs the line's data (R208, R210, R213, R218). -/
def Tx.wantsRead (t : Tx) : Bool :=
  !t.read && !t.poison && t.failed == 0 && t.data.isNone &&
    ((t.needData && !t.forwarded) ||
     (t.op == 5 && !t.bcast && (decide (2 ≤ t.old.st) || t.proxy.isSome)))

/-- The proxy opcode of a read: PXRD, PXRO or PXRC (R218). -/
def Tx.pxOp (t : Tx) : Nat := if t.op = 1 then 6 else if t.op = 4 then 8 else 7

/-- A read grants a new sharer that neither the pointers nor a free vector can record (R240). -/
def State.overflows (s : State) (h : Nat) (t : Tx) : Bool :=
  let v := t.new.settle
  t.op == 1 && t.grants && !t.bcast && v.vec.isNone && !v.ptrs.contains t.h.agent.toNat &&
    decide (3 ≤ v.owner.toList.length + v.ptrs.length) && (s.sliceAt h).freeVec.isNone

/-- The course of a transaction after each event: it waits, reads memory where no holder has supplied the data, closes, and ends once its
write and its acknowledgement are in (R204, R210). -/
def State.progress (s : State) (h num : Nat) : State :=
  match (s.sliceAt h).tx num with
  | none => s
  | some t =>
    if !t.staged || !t.dems.isEmpty || t.wdat || !t.wbs.isEmpty then s
    else if t.closing then (if t.ackw.isNone then s.finishTx h t else s)
    else if t.wantsRead then
      (s.modTx h num (fun t => { t with read := true })).ask h num (s.readAsk h (s.bankOf (sliceNi h) t.epoch).1 t t.pxOp false)
    else if s.overflows h t then
      match t.new.ptrs.getLast? with
      | some p =>
        (s.evHs h 42 false none).ask h num [t.snoop 2 (s.agentPort h (s.bankOf (sliceNi h) t.epoch).1 p) 0 p .evict false false]
      | none => s
    else
      let s1 := s.closeTx h t
      match (s1.sliceAt h).tx num with
      | some t1 => if t1.dems.isEmpty && t1.ackw.isNone then s1.finishTx h t1 else s1
      | none => s1

/-- Every transaction that waits for staging lines or for tags tries again (R232, R247). -/
def State.flushAll (s : State) (h : Nat) : State :=
  (s.sliceAt h).recs.foldl (fun s t =>
    if t.staged then (if t.unsent.isEmpty then s else s.flushTx h t.num false)
    else ((s.reserve h t.num).flushTx h t.num false).progress h t.num) s

end Sys2Proof.Machine
end

