-- ==== Sys2Proof/Machine/Caddy.lean ====
section
/-! DEFINITION. The Caddy and its tray: two-phase records, folding and freezes; and the Pot's branch trace (R529 to R537, R543, R544). -/
namespace Sys2Proof.Machine

/-! ### Time -/

/-- The always-on time: the keeper's fabric time, or REF_CLK time since reset in ns before fabric time runs. -/
def State.aonTime (s : State) : Nat := if s.time.running then s.time.now else s.uptime

/-- TIME of a record: fabric time, or the count of REF_CLK cycles since reset with bit 63 set (R532). -/
def State.cdTime (s : State) : W64 :=
  if s.time.running then BitVec.ofNat 64 s.time.now else BitVec.ofNat 64 (2 ^ 63 + s.uptime / 10)

/-! ### Records -/

/-- The state with the Caddy changed. -/
def State.modCd (s : State) (f : Caddy → Caddy) : State := { s with cd := f s.cd }
/-- A tray port (R530). -/
def Caddy.port (c : Caddy) (p : Nat) : CdPort := KMap.get (fun _ => CdPort.idle) c.ports p
/-- The Caddy with a tray port replaced. -/
def Caddy.setPort (c : Caddy) (p : Nat) (x : CdPort) : Caddy := { c with ports := KMap.set (fun _ => CdPort.idle) c.ports p x }
/-- Slot k. -/
def Caddy.slot (c : Caddy) (k : Nat) : CdSlot := KMap.get (fun _ => CdSlot.empty) c.slots k
/-- The Caddy with a slot replaced. -/
def Caddy.setSlot (c : Caddy) (k : Nat) (x : CdSlot) : Caddy := { c with slots := KMap.set (fun _ => CdSlot.empty) c.slots k x }
/-- Committed records held. -/
def Caddy.held (c : Caddy) : Nat := (c.slots.filter (fun e => e.2.st == .committed)).length
/-- Reservations outstanding. -/
def Caddy.reservations (c : Caddy) : Nat := (c.ports.filter (fun e => e.2.resv.isSome)).length

/-- KIND codes of R533. -/
def Cd.FAULT : Nat := 1
def Cd.LOSS : Nat := 2
def Cd.POWER : Nat := 3
def Cd.EPOCH : Nat := 4
def Cd.MAILBOX : Nat := 5
def Cd.LINK : Nat := 6
def Cd.PARTITION : Nat := 7
def Cd.FREEZE : Nat := 8
def Cd.RESET : Nat := 9

/-- A record of a kind (R532). -/
def State.cdRec (s : State) (kind w1 : Nat) (w2 w3 : W64) : CdRec :=
  ⟨s.cdTime, BitVec.ofNat 64 (kind % 16 * 2 ^ 60 + w1 % 2 ^ 58), w2, w3⟩

/-- A writer brings a record to its tray port: refused while the Caddy is frozen, folded where the buffer of four is full (R535, R536). -/
def State.cdPut (s : State) (p : Nat) (r : CdRec) : State :=
  if s.cd.frozen || s.cd.freezing then s.bump Off.CD_LOSS Fld.CD_LOSS.FROZEN_DROPS
  else
    let x := s.cd.port p
    if 4 ≤ x.buf.length then (s.modCd (fun c => c.setPort p { x with folded := x.folded + 1 })).bump Off.CD_LOSS Fld.CD_LOSS.FOLDED
    else s.modCd (fun c => c.setPort p { x with buf := x.buf ++ [r] })

/-- A writer's record of a kind (R532, R533). -/
def State.cdWrite (s : State) (p kind w1 : Nat) (w2 w3 : W64) : State := s.cdPut p (s.cdRec kind w1 w2 w3)

/-- The next slot is granted to a port: reserved, and the write pointer advances (R531). -/
def State.cdGrant (s : State) (p : Nat) : State :=
  let k := s.cd.wptr
  let t := s.refTime
  s.modCd (fun c =>
    let c1 := c.setSlot k ⟨.reserved, ⟨0, 0, 0, 0⟩⟩
    { c1.setPort p { c1.port p with resv := some (k, t) } with wptr := (k + 1) % 8192 })

/-- NEWEST moves to a committed slot that is ahead of it in ring order (R531). -/
def newestOf (newest k : Nat) : Nat := if (k + 8192 - newest) % 8192 ≤ 4096 then k else newest

/-- A slot takes its record and is committed; NEWEST moves to it if it is the highest committed slot in ring order (R531). -/
def State.cdStore (s : State) (k : Nat) (r : CdRec) : State :=
  s.modCd (fun c => { c.setSlot k ⟨.committed, r⟩ with newest := if c.newest = 0x1FFF ∧ c.held = 0 then k else newestOf c.newest k })

/-- The record with which a port that has folded records reports them once its buffer empties (R535). -/
def State.cdLoss (s : State) (p : Nat) : State :=
  let x := s.cd.port p
  if x.buf.isEmpty && decide (0 < x.folded) then
    let r := s.cdRec Cd.LOSS (2 ^ 45 + p % 8 * 2 ^ 42) 0 (BitVec.ofNat 64 (min 65535 x.folded * 2 ^ 48))
    s.modCd (fun c => c.setPort p { x with buf := [r], folded := 0 })
  else s

/-- The stop of the branch trace that a freeze causes while FOLLOW is 1 (R544). -/
def State.traceFreeze (s : State) : State :=
  if s.flag Off.PT_TRACE_CTRL Fld.PT_TRACE_CTRL.EN && s.flag Off.PT_TRACE_CTRL Fld.PT_TRACE_CTRL.FOLLOW && !s.tr.stopped then
    let w := BitVec.ofNat 64 (3 * 2 ^ 62 + 2 * 2 ^ 58 + s.aonTime % 2 ^ 58)
    { s with tr := { s.tr with
        buf := KMap.set (fun _ => 0) s.tr.buf s.tr.next w
        next := (s.tr.next + 1) % 512
        wrapped := s.tr.wrapped || s.tr.next == 511
        stopped := true } }
  else s

/-- The freeze is complete (R536). -/
def State.cdFreeze (s : State) (c4 : Bool) : State :=
  ((s.modCd (fun c => { c with frozen := true, byC4 := c4, freezing := false })).wr Off.CD_FREEZE_TIME (BitVec.ofNat 64 s.aonTime)).traceFreeze

/-- True while a C4 freeze awaits the C4 fault's own record, which port 0x1 holds (R536). -/
def State.cdC4 (s : State) : Bool := s.cd.freezing && s.cd.byC4

/-- CADDY_RESERVE: a port with a record and no reservation is granted the next slot. A freeze under way grants only its own record:
the C4 fault's at port 0x1, or the Pot's FREEZE record at port 0x4 (R531, R536, R546). -/
def execCaddyReserve (p : Fin 7) (s : State) : Outcome :=
  let x := s.cd.port p
  if x.buf.isEmpty || x.resv.isSome then .next s
  else if s.cd.frozen || (s.cd.freezing && p.val != (if s.cd.byC4 then 1 else 4)) then
    .next ((s.modCd (fun c => c.setPort p { x with buf := [] })).bumpBy Off.CD_LOSS Fld.CD_LOSS.FROZEN_DROPS x.buf.length)
  else .next (s.cdGrant p)

/-- CADDY_RECORD_COMMIT: a port's record is written to its slot and committed; the C4 record commits last and completes the freeze, and so does a
commanded FREEZE record (R531, R535, R536). -/
def execCaddyRecordCommit (p : Fin 7) (s : State) : Outcome :=
  let x := s.cd.port p
  match x.resv, x.buf with
  | some (k, _), r :: rest =>
    if s.cdC4 && p.val == 1 && s.cd.ports.any (fun e => e.1 != 1 && e.2.resv.isSome) then .next s
    else
      let s1 := (s.cdStore k r).modCd (fun c => c.setPort p { x with buf := rest, resv := none })
      if s.cdC4 && p.val == 1 then .next (s1.cdFreeze true)
      else if s.cd.freezing && !s.cd.byC4 && p.val == 4 && rest.isEmpty then .next (s1.cdFreeze false)
      else if s.cd.freezing then .next s1
      else .next (s1.cdLoss p)
  | _, _ => .next s

/-- CADDY_RESERVE_TIMEOUT: a reservation not committed within 1 µs is aborted; its record is lost (R531, R535). -/
def execCaddyReserveTimeout (p : Fin 7) (s : State) : Outcome :=
  let x := s.cd.port p
  match x.resv with
  | some (k, t) =>
    if t + 1000 ≤ s.refTime then
      let s1 := (s.modCd (fun c => (c.setSlot k ⟨.aborted, ⟨0, 0, 0, 0⟩⟩).setPort p { x with buf := x.buf.drop 1, resv := none })).bump
        Off.CD_LOSS Fld.CD_LOSS.ABORTED
      .next (if s.cd.freezing then s1 else s1.cdLoss p)
    else .next s
  | none => .next s

/-- A reset marks every reserved slot as aborted, and the writers' ports are cleared (R531, R569). -/
def State.cdReset (s : State) : State :=
  let ks := s.cd.ports.filterMap (fun e => e.2.resv.map (·.1))
  let s1 := s.bumpBy Off.CD_LOSS Fld.CD_LOSS.ABORTED ks.length
  s1.modCd (fun c => { ks.foldl (fun c k => c.setSlot k ⟨.aborted, ⟨0, 0, 0, 0⟩⟩) c with ports := [] })

/-- Word w of slot k as the record window shows it: STATE is laid over word 1, and an empty slot reads as zero (R532, CD_REC). -/
def Caddy.word (c : Caddy) (k w : Nat) : W64 :=
  let x := c.slot k
  if w = 0 then x.r.w0 else if w = 1 then (if x.st = .empty then 0 else setBits x.r.w1 58 2 x.st.code) else if w = 2 then x.r.w2 else x.r.w3

/-! ### Branch trace -/

/-- The state with an entry written to the trace buffer (R543). -/
def State.traceWrite (s : State) (w : Nat) : State :=
  { s with tr := { s.tr with
      buf := KMap.set (fun _ => 0) s.tr.buf s.tr.next (BitVec.ofNat 64 w)
      next := (s.tr.next + 1) % 512
      wrapped := s.tr.wrapped || s.tr.next == 511 } }

/-- A stop entry: 0 wait for interrupt, 1 domain 64 lowered, 2 Caddy frozen, 3 trace disabled (R543, R544). -/
def State.traceStop (s : State) (reason : Nat) : State :=
  let s1 := s.traceWrite (3 * 2 ^ 62 + reason * 2 ^ 58 + s.aonTime % 2 ^ 58)
  { s1 with tr := { s1.tr with stopped := true } }

/-- A resync entry: 0 trace enabled, 1 wake from sleep, 2 core restart, 3 thaw (R543, R544). -/
def State.traceResync (s : State) (reason : Nat) : State :=
  let s1 := s.traceWrite (2 * 2 ^ 62 + reason * 2 ^ 58 + s.aonTime % 2 ^ 58)
  { s1 with tr := { s1.tr with stopped := false, resync := none } }

/-- The trace records: EN is 1, and it is not stopped by a frozen Caddy under FOLLOW (R544). -/
def State.traceOn (s : State) : Bool :=
  s.flag Off.PT_TRACE_CTRL Fld.PT_TRACE_CTRL.EN && !(s.flag Off.PT_TRACE_CTRL Fld.PT_TRACE_CTRL.FOLLOW && s.cd.frozen)

/-- POT_BRANCH: a taken branch, jump, return or trap; the first entry after a stop is a resync entry (R543, R544). -/
def execPotBranch (trap : Bool) (src dst : BitVec 21) (cycles : Nat) (s : State) : Outcome :=
  if s.traceOn && s.domOn 64 then
    let s1 := match s.tr.resync with
      | some r => s.traceResync r
      | none => if s.tr.stopped then s.traceResync 1 else s
    .next (s1.traceWrite (b2n trap * 2 ^ 62 + bits src 1 20 * 2 ^ 42 + bits dst 1 20 * 2 ^ 22 + min (2 ^ 22 - 1) cycles))
  else .next s

/-- POT_WAIT_FOR_INTERRUPT: the trace writes a stop entry (R544). -/
def execPotWaitForInterrupt (s : State) : Outcome :=
  if s.traceOn && s.domOn 64 && !s.tr.stopped then .next (s.traceStop 0) else .next s

/-- TRACE_EN_WRITE: EN starts the trace with a resync entry or stops it with a stop entry (R544). -/
def execTraceEnWrite (on : Bool) (s : State) : Outcome :=
  let was := s.flag Off.PT_TRACE_CTRL Fld.PT_TRACE_CTRL.EN
  let s1 := s.setFld Off.PT_TRACE_CTRL Fld.PT_TRACE_CTRL.EN (b2n on)
  if on && !was then .next (if s1.traceOn then s1.traceResync 0 else { s1 with tr := { s1.tr with resync := some 0 } })
  else if !on && was && !s.tr.stopped then .next (s1.traceStop 3)
  else .next s1

end Sys2Proof.Machine
end

