-- ==== Sys2Proof/Machine/Link.lean ====
section
/-! DEFINITION. The reliable link layer: flow units, their words and CRC, and the meanings of the commands of a link end (R364 to R394).
A link end is named by its controller index k, 0 to 27, and e: 0 for the die-A half or the CLA end, 1 for the die-B half. -/
namespace Sys2Proof.Machine

/-! ### The words of a flow unit -/

/-- Reflected CRC-32C of one byte more (R370). -/
def crc32cByte (c b : Nat) : Nat :=
  (List.range 8).foldl (fun x _ => if x % 2 = 1 then x / 2 ^^^ 0x82F63B78 else x / 2) (c ^^^ b)

/-- CRC-32C of a string of bytes (R370). -/
def crc32c (l : List Nat) : Nat := (l.foldl crc32cByte 0xFFFFFFFF) ^^^ 0xFFFFFFFF

/-- The ten words of a flit (R86, R87). -/
def Flit.words : Flit → List W64
  | .head _ h pl => h.word0 :: h.word1 :: (List.range 8).map (lineWord pl)
  | .body _ v q l sr tg b => bodyWord0 v q l b.poison sr tg :: b.be :: (List.range 8).map (lineWord b.data)

/-- A slot's mark: VALID, HEAD, GTL (R369). -/
def slotMark : Option Flit → Nat
  | none => 0
  | some f => 4 + 2 * b2n f.isHead + b2n f.gt

/-- Words of a slot; an invalid slot is zero (R369). -/
def slotWords : Option Flit → List W64
  | none => List.replicate 10 0
  | some f => f.words

/-- The INIT word (R374). -/
def InitWord.word (w : InitWord) : W64 :=
  w.version ++ w.endId ++ w.nextSeq ++ w.rxAck ++ w.count ++ BitVec.ofBool w.start ++ BitVec.ofBool w.rxok ++ BitVec.ofBool w.resume ++
    (0 : BitVec 19)

/-- Slots of a flow unit. -/
def FluBody.slots : FluBody → List (Option Flit)
  | .new l => l
  | .replay _ l => l
  | .init _ => []

/-- Words 0 to 31 of a flow unit with sequence number seq, its CRC included (R369, R370). -/
def Flu.words (f : Flu) (seq : Nat) : List W64 :=
  let sl := fun k => (f.body.slots.getD k none)
  let kind := match f.body with
    | .new _ => 0
    | .replay _ _ => 1
    | .init _ => 2
  let es := match f.body with
    | .replay q _ => q.toNat
    | _ => 0
  let data := match f.body with
    | .init w => w.word :: ((0 : BitVec 32) ++ w.depth) :: List.replicate 28 0
    | _ => slotWords (sl 0) ++ slotWords (sl 1) ++ slotWords (sl 2)
  let w30 := kind * 2 ^ 62 + slotMark (sl 0) * 2 ^ 59 + slotMark (sl 1) * 2 ^ 56 + slotMark (sl 2) * 2 ^ 53 + es * 2 ^ 41 +
    f.ack.toNat * 2 ^ 29 + b2n f.nak.isSome * 2 ^ 28 + (f.nak.getD 0).toNat * 2 ^ 16 + f.lreq.val * 2 ^ 13 + f.larg.val * 2 ^ 10
  let body := data ++ [BitVec.ofNat 64 w30]
  let byte := fun (w : W64) k => bits w (8 * k) 8
  let s := if kind = 2 then 0 else seq
  let str := [s % 256, s / 256 % 16] ++ body.foldr (fun w a => (List.range 8).map (byte w) ++ a) [] ++
    (List.range 4).map (fun k => bits f.credit (8 * k) 8)
  body ++ [BitVec.ofNat 64 (crc32c str * 2 ^ 32 + f.credit.toNat)]

/-! ### Sequence numbers -/

/-- Sequence number a follows b (R373). -/
def seqFollows (a b : Nat) : Bool := let d := (a + 4096 - b) % 4096; decide (1 ≤ d ∧ d ≤ 2047)

/-- The DEPTH word that equals R109. -/
def depthWord : BitVec 32 := BitVec.ofNat 32 ((List.range 8).foldl (fun a v => a + (8 + sharedDepth v) * 2 ^ (4 * v)) 0)

/-! ### A link end -/

/-- Link end (k, e). -/
def State.lkAt (s : State) (k e : Nat) : Lk := KMap.get (fun _ => Lk.reset) s.lk (2 * k + e)
/-- The state with a link end replaced. -/
def State.setLk (s : State) (k e : Nat) (x : Lk) : State := { s with lk := KMap.set (fun _ => Lk.reset) s.lk (2 * k + e) x }
/-- A seam link: k = 0 to 11 (R18). -/
def lkSeam (k : Nat) : Bool := decide (k < 12)
/-- The end exists: a chiplet link has its CLA end alone. -/
def lkEnd (k e : Nat) : Bool := lkSeam k || e == 0
/-- The tile of a seam end. -/
def lkTile (k e : Nat) : Nat := tileAt k (7 + e)
/-- The router port of a seam end: S of row 7, N of row 8 (R18). -/
def lkPort (e : Nat) : Nat := if e = 0 then 2 else 0
/-- The CLA NI of a chiplet link. -/
def lkCla (k : Nat) : Nat := 16 + (k - 12)
/-- The wire from the router or CLA toward the link. -/
def lkTx (k e : Nat) : Nat := if lkSeam k then 4096 + 2 * k + e else claTxKey (lkCla k)
/-- The wire from the link toward the router or CLA. -/
def lkRx (k e : Nat) : Nat := if lkSeam k then lkTile k e * 8 + lkPort e else claRxKey (lkCla k)
/-- Local time of a link end. -/
def State.lkTime (s : State) (k e : Nat) : Nat := if lkSeam k then s.rtTime (lkTile k e) else s.niTime (lkCla k)
/-- The NI through which a link end reports (R394). -/
def lkNi (k e : Nat) : Nat := if lkSeam k then tileL0 (lkTile k e) else lkCla k

/-- The end lies on die B: the die-B half of a seam link, or a chiplet link of CLA 24 to 31. -/
def lkOnB (k e : Nat) : Bool := e == 1 || decide (20 ≤ k)
/-- WIDTH of LK_STATUS: 0 none, 1 FULL, 2 HALF. -/
def lkRecord (k e : Nat) (old new : Lk) : Nat :=
  k * 2 ^ 53 + e * 2 ^ 52 + old.st.code * 2 ^ 48 + new.st.code * 2 ^ 44 + new.width % 4 * 2 ^ 42

/-- Both halves of a seam link are in IN_SERVICE, PRE or PAUSED, and neither lies in a failed island (R583). -/
def State.seamLinkUp (s : State) (k : Nat) : Bool :=
  (List.range 2).all (fun e =>
    match (s.lkAt k e).st with
    | .inService | .pre | .paused => !(s.domAt (tileIsland (lkTile k e))).failed
    | _ => false)

/-- Some seam link is up (R583). -/
def State.seamUp (s : State) : Bool := (List.range 12).any s.seamLinkUp

/-- The time since which no seam link has been in service, kept up (R583). -/
def State.seamWatch (s : State) : State :=
  if s.seamUp then { s with seamDown := none }
  else if s.seamDown.isSome then s else { s with seamDown := some s.refTime }

/-- The state with a link end changed; a change of LK_STATUS.STATE is recorded in the Caddy, with the local time of the end's island (R534). -/
def State.modLk (s : State) (k e : Nat) (f : Lk → Lk) : State :=
  let old := s.lkAt k e
  let new := f old
  let s1 := s.setLk k e new
  if old.st = new.st then s1
  else
    let r := s.cdRec Cd.LINK (lkRecord k e old new) (s.rd (Off.LK_ERR_CNT k e)) (s.rd (Off.LK_RETRAIN_CNT k e))
    (s1.cdPut (if lkOnB k e then 6 else 5) { r with w0 := if s.time.running then BitVec.ofNat 64 (s.lkTime k e) else r.w0 }).seamWatch

/-- A link end reports a fault: STATE, occurrences, and k (R394, R505, R506). -/
def State.reportLk (s : State) (k e : Nat) (f : FaultKind) : State :=
  let cls := if f = .LINK_LOST ∧ lkSeam k = true then 2 else f.cls
  s.reportOcc (lkNi k e) (3 + e) (occKey (3 + e) f k) f cls 27 ((s.lkAt k e).st.code * 2 ^ 35 + k)

/-- A link end reports a fault and sets its status bit. -/
def State.lkFault (s : State) (k e : Nat) (f : FaultKind) (b : Fld) : State :=
  (s.setFld (Off.LK_ERR_STATUS k e) b 1).reportLk k e f

/-- The link end tells its router or CLA its neighbour state and up indication (R330, R367). -/
def State.lkTell (s : State) (k e : Nat) (st : Nbr) (up : Bool) : State :=
  if lkSeam k then
    s.giveNbr (lkTile k e) (lkPort e) st
  else s.portIndication (lkCla k) up

/-! ### Credits -/

/-- The cumulative counts of R380 advanced by the credits that the receiver owes, which are then no longer owed. -/
def State.creditCounts (s : State) (k e : Nat) : State × BitVec 32 :=
  let key := lkRx k e
  (List.range 8).foldl (fun (a : State × BitVec 32) v =>
    let sh := (bits a.2 (4 * v) 3 + a.1.owedAt key v false) % 8
    let g := (bits a.2 (4 * v + 3) 1 + a.1.owedAt key v true) % 2
    let w := (a.2 &&& ~~~(BitVec.ofNat 32 (15 * 2 ^ (4 * v)))) ||| BitVec.ofNat 32 ((g * 8 + sh) * 2 ^ (4 * v))
    ((a.1.setOwed key v false 0).setOwed key v true 0, w)) (s, (s.lkAt k e).credOut)

/-- A receiver of the link owes credits that no flow unit has carried yet. -/
def State.creditsOwed (s : State) (k e : Nat) : Bool :=
  (List.range 8).any (fun v => decide (0 < s.owedAt (lkRx k e) v false + s.owedAt (lkRx k e) v true))

/-- One lane's credits come back to the sender toward the link; a count never rises above its lane depth (R113, R380). -/
def State.lkReturn (s : State) (k e vn : Nat) (gt : Bool) (c : Nat) : State :=
  let u := s.usedAt (lkTx k e) vn gt
  let s1 := s.setUsed (lkTx k e) vn gt (u - c)
  if u < c then
    (if lkSeam k then
       (s1.setFld (Off.RT_ERR_STATUS (lkTile k e)) Fld.RT_ERR_STATUS.CREDIT_OVERFLOW 1).reportRt (lkTile k e) (lkPort e) .CREDIT_OVERFLOW 15
     else s1.reportNi (lkCla k) .CREDIT_OVERFLOW 0 vn)
  else s1

/-- The sender adds the difference of the peer's counts to its credits (R380). -/
def State.takeCredits (s : State) (k e : Nat) (w : BitVec 32) : State :=
  let old := (s.lkAt k e).credIn
  (List.range 8).foldl (fun s v =>
    (s.lkReturn k e v false ((bits w (4 * v) 3 + 8 - bits old (4 * v) 3) % 8)).lkReturn k e v true
      ((bits w (4 * v + 3) 1 + 2 - bits old (4 * v + 3) 1) % 2)) (s.modLk k e (fun l => { l with credIn := w }))

/-! ### LOST -/

/-- Flits in a list of slots. -/
def slotFlits (l : List (Option Flit)) : List Flit := l.filterMap id

/-- A flit is delivered to the router or CLA; a packet it starts or carries on is remembered (R378, R388). -/
def State.lkDeliver (s : State) (k e : Nat) (f : Flit) : State :=
  let lane := f.vn * 2 + b2n f.gt
  let s1 := s.sendFlit (lkRx k e) f
  s1.modLk k e (fun l => { l with opens := KMap.set (fun _ => none) l.opens lane (
    match f with
    | .head _ h _ => if f.isLast then none else some (h, 1)
    | .body _ _ _ last _ _ _ => if last then none else (KMap.get (fun _ => none) l.opens lane).map (fun x => (x.1, x.2 + 1))) })

/-- While an old epoch drains, a lost link end or an excluded NI lets the balance condition be met by time (R322). -/
def State.drainRelief (s : State) (gone : List Nat) : State :=
  match s.pot.sw with
  | some w =>
    if w.draining then
      { s with pot := { s.pot with sw := some { w with parts := w.parts.filter (fun n => !gone.contains n), relief := true, changed := s.time.now } } }
    else s
  | none => s

/-- The end goes to LOST (R388): records and held content are discarded, started packets are completed with synthesised flits, and flits
that the router had started toward the link are discarded with their credits returned. -/
def State.lkLost (s : State) (k e : Nat) : State :=
  let l := s.lkAt k e
  let o := Off.LK_LOSS_CNT k e
  let nf := (l.held.map (fun h => (slotFlits h.2).length)).foldl (· + ·) 0
  let part := l.opens.filterMap (fun x => x.2)
  let tx := s.wireAt (lkTx k e)
  let sent := l.recs.any (fun r => !(slotFlits r.2).isEmpty)
  let s1 := s.modLk k e (fun l => { l with
    st := .lost, wasLost := true, recs := [], owed := [], held := [], missing := [], naks := [], opens := [], txDrop := [], txHead := [], txProg := [], lreq := 0
    reqOpen := false, accept := none, wantArg := none, limitSince := none })
  let s2 := (s1.bumpBy o Fld.LK_LOSS_CNT.FLITS nf).bumpBy o Fld.LK_LOSS_CNT.PKTS part.length
  let s3 := part.foldl (fun s x => (synthFlits x.1 x.2).foldl (fun s f => s.sendFlit (lkRx k e) f) s) s2
  let s4 := tx.foldl (fun s f => s.lkReturn k e f.vn f.gt 1) (s3.setWire (lkTx k e) [])
  let s5 := (s4.setFld (Off.LK_CTRL k e) Fld.LK_CTRL.RETRAIN 0).lkFault k e .LINK_LOST Fld.LK_ERR_STATUS.LOST
  let s6 := if sent = true ∨ 0 < nf + part.length + tx.length then s5.lkFault k e .LINK_FLIT_LOST Fld.LK_ERR_STATUS.FLIT_LOST else s5
  (s6.lkTell k e .unreach false).drainRelief []

/-! ### Retrains -/

/-- A threshold of LK_THRESH; RETRAIN_LIMIT and NAK_REPEAT of 0 act as 1. -/
def State.lkTh (s : State) (k e : Nat) (f : Fld) : Nat := s.fld (Off.LK_THRESH k e) f

/-- A retrain condition (R382, R383): in PRE or PAUSED it is only counted; past LOST_RT retrains of the long window the link is LOST;
otherwise the end enters PRE, and asks for HALF once WIDTH_RT retrains have occurred. -/
def State.retrainDue (s : State) (k e larg : Nat) : State :=
  let l := s.lkAt k e
  let recent := s.fld (Off.LK_RETRAIN_CNT k e) Fld.LK_RETRAIN_CNT.RECENT
  if l.st ≠ .inService then s
  else if s.lkTh k e Fld.LK_THRESH.LOST_RT ≤ recent then s.lkLost k e
  else
    let a := if s.lkTh k e Fld.LK_THRESH.WIDTH_RT ≤ recent then 2 else larg
    s.modLk k e (fun l => { l with st := .pre, since := s.refTime, wantArg := some a })

/-- Every retrain is counted, reported, and told to the router as PAUSED (R382, R384, R386). -/
def State.enterPaused (s : State) (k e : Nat) : State :=
  let o := Off.LK_RETRAIN_CNT k e
  let s1 := s.modLk k e (fun l => { l with st := .paused, since := s.refTime })
  (((s1.bump o Fld.LK_RETRAIN_CNT.RETRAINS).bump o Fld.LK_RETRAIN_CNT.RECENT).lkFault k e .LINK_RETRAIN
    Fld.LK_ERR_STATUS.RETRAIN).lkTell k e .paused true

/-- The width that LARG names: 1 FULL, 2 HALF, 0 the current one (R366, R384). -/
def Lk.argWidth (l : Lk) (larg : Nat) : Nat := if larg = 0 then (if l.width = 2 then 2 else 1) else larg

/-- The requester asks the adapter to retrain at the width that LARG names (R366, R384). -/
def State.requestRetrain (s : State) (k e : Nat) : State :=
  s.modLk k e (fun l => { l with req := 2, reqOpen := false, asked := l.argWidth l.larg, widthReq := l.argWidth l.larg - 1 })

/-- END_ID of a link end. -/
def State.lkId (s : State) (k e : Nat) : Nat := if lkSeam k then e else s.fld (Off.LK_CFG k e) Fld.LK_CFG.END_ID

/-- An accepted flow unit with LREQ = REQUEST (R384, R385, R391). -/
def State.peerRequest (s : State) (k e larg : Nat) : State :=
  let l := s.lkAt k e
  let lower := decide (s.lkId k e < l.peerId)
  match l.st with
  | .inService => s.modLk k e (fun l => { l with st := .pre, since := s.refTime, accept := some larg })
  | .pre => if l.wantArg.isSome && lower then s else s.modLk k e (fun l => { l with accept := some larg })
  | .paused =>
    if l.reqOpen then
      (if lower then s.requestRetrain k e
       else (s.modLk k e (fun l => { l with reqOpen := false, accept := some larg, lreq := 2, larg := larg, asked := l.argWidth larg, dirty := true })).bump
         (Off.LK_RETRAIN_CNT k e) Fld.LK_RETRAIN_CNT.WITHDRAWN)
    else s
  | _ => s

/-! ### Sending -/

/-- What a lane toward a chiplet may not send now: the VN is taken by a packet that has not sent its LAST flit, in another lane, or the lane lacks
the credits: a head needs as many as its packet has flits, at most the depth of the lane, and a body flit one (R88, R111). -/
def State.laneStuck (s : State) (k e : Nat) (prog : KMap (Option Bool)) (f : Flit) : Bool :=
  let other := match KMap.get (fun _ => none) prog f.vn with
    | some g => g != f.gt
    | none => false
  let need := match f with
    | .head g h _ => if g then 1 else min (h.len.toNat + 1) (sharedDepth f.vn)
    | .body .. => 1
  other || decide (s.credit (lkTx k e) f.vn f.gt < need)

/-- The flits that a NEW flow unit takes from the wire: up to three, and toward a chiplet only those that have a credit, a VN staying with a
packet until its LAST flit (R88, R111, R369, R380). -/
def State.pickFlits (s : State) (k e : Nat) : State × List Flit :=
  let l := s.wireAt (lkTx k e)
  let step := fun (a : State × List Flit × List Flit × List Nat) (f : Flit) =>
    let (s, out, rest, stuck) := a
    let prog := (s.lkAt k e).txProg
    let free := lkSeam k || !s.laneStuck k e prog f
    if out.length < 3 && free && !stuck.contains (f.vn * 2 + b2n f.gt) then
      (if lkSeam k then s
       else (s.useCredit (lkTx k e) f.vn f.gt).modLk k e (fun l => { l with
         txProg := KMap.set (fun _ => none) l.txProg f.vn (if f.isLast then none else some f.gt) }), out ++ [f], rest, stuck)
    else (s, out, rest ++ [f], stuck ++ [f.vn * 2 + b2n f.gt])
  let (s1, out, rest, _) := l.foldl step (s, [], [], [])
  (s1.setWire (lkTx k e) rest, out)

/-- The flits taken pass the lane check on the mesh side one by one; marks of injected errors go with them (R131, R146, R527). -/
def State.meshMarks (s : State) (k e n : Nat) (errs : List LaneErrs) : State × List LaneErrs × Bool :=
  let (l, s1) := s.takeFlips (lkTx k e) (List.range n)
  (s1, (List.range n).map (fun i => (errs.getD i LaneErrs.clean).flipped (l.filter (fun f => f.1 == i))), !l.isEmpty)

/-- The lane check on the mesh side of a seam half, by the table of R131: a head whose word 0 or 1 is uncorrectable is discarded with its
packet, a body's word 0 is regenerated from its head, its byte enables are filled, and any other uncorrectable lane poisons the flit
(R131, R133, R146). -/
def State.meshCheck (s : State) (k e : Nat) (f : Flit) (x : LaneErrs) : State × Option Flit :=
  let lane := f.vn * 2 + b2n f.gt
  let l := s.lkAt k e
  let mark := fun (s : State) b => s.modLk k e (fun l => { l with txDrop := KMap.set (fun _ => false) l.txDrop lane b })
  if !f.isHead && KMap.get (fun _ => false) l.txDrop lane then (mark (s.lkReturn k e f.vn f.gt 1) (!f.isLast), none)
  else
    let seen := KMap.get (fun _ => none) l.txHead lane
    let (f1, now) := match f, seen with
      | .head g h pl, _ => (Flit.head g (if x.ueWord.isSome then { h with poison := true } else h) pl, some (h, 1))
      | f, some (h, n) => (repairBody h n f x.ueWord, some (h, n + 1))
      | f, none => (f, none)
    let ctl := match x.ueWord with
      | some w => decide (w ≤ 1)
      | none => false
    let kind := if ctl then FaultKind.LANE_UE_CTRL else FaultKind.LANE_UE_PAYLOAD
    let s1 := if x.ueWord.isSome then s.reportCls (lkNi k e) (3 + e) kind kind.cls (x.lastLane * 2 ^ 31 + 1 * 2 ^ 8 + lkPort e) else s
    if f.isHead && ctl then (mark (s1.lkReturn k e f.vn f.gt 1) (!f.isLast), none)
    else (s1.modLk k e (fun l => { l with txHead := KMap.set (fun _ => none) l.txHead lane (if f.isLast then none else now) }), some f1)

/-- The next NAK to send: the oldest that is due and whose slot is still missing (R379, R391). -/
def Lk.nextNak (l : Lk) : Option Nat := (l.missing.find? (fun m => l.naks.contains m.seq)).map (·.seq)

/-- A NAK goes: it is counted, and NAK_MAX of them for one number start a retrain (R379, R382). -/
def State.nakSent (s : State) (k e : Nat) (q : Option Nat) : State :=
  match q with
  | none => s
  | some q =>
    let now := s.refTime
    let s1 := (s.modLk k e (fun l => { l with
      naks := l.naks.filter (· != q)
      missing := l.missing.map (fun m => if m.seq = q then { m with naks := m.naks + 1, at' := now } else m) })).bump
      (Off.LK_ERR_CNT k e) Fld.LK_ERR_CNT.NAK_SENT
    if (s1.lkAt k e).missing.any (fun m => m.seq == q && decide (s1.lkTh k e Fld.LK_THRESH.NAK_MAX ≤ m.naks)) then s1.retrainDue k e 0 else s1

/-- A flow unit is started: ACK, NAK, LREQ, LARG and CREDIT are current; a CRC inverted by injection leaves it with a number that no receiver
counts (R365, R369, R375, R377, R527). -/
def State.putFlu (s : State) (k e : Nat) (b : FluBody) (record : Option (List (Option Flit))) : State :=
  let l0 := s.lkAt k e
  let q := match b with
    | .init _ => none
    | _ => l0.nextNak
  let (s1, cr) := s.creditCounts k e
  let l := s1.lkAt k e
  let (bad, s1) := match b with
    | .new _ => s1.takeFlips (fluFlipKey k e) [0]
    | _ => ([], s1)
  let f : Flu := { body := b, ack := BitVec.ofNat 12 l.rxAck, nak := q.map (BitVec.ofNat 12), lreq := Fin.ofNat 3 l.lreq,
                   larg := Fin.ofNat 3 l.larg, credit := cr }
  let now := s1.refTime
  let s2 := s1.modLk k e (fun l =>
    let l1 := { l with credOut := cr, dirty := false, lastSent := now, fdi := l.fdi ++ [(l.txNext + (if bad.isEmpty then 0 else 4096), f)] }
    match record with
    | none => l1
    | some c =>
      let r := l.recs ++ [(l.txNext, c)]
      { l1 with
        recs := r, txNext := (l.txNext + 1) % 4096
        limitSince := if 1024 ≤ r.length then some (l.limitSince.getD now) else none })
  s2.nakSent k e q

/-- The INIT flow unit of an end, which its countdown may number (R374, R387). -/
def State.initFlu (s : State) (k e : Nat) : InitWord :=
  let l := s.lkAt k e
  { version := 1, endId := BitVec.ofNat 8 (s.lkId k e), nextSeq := BitVec.ofNat 12 l.txNext, rxAck := BitVec.ofNat 12 l.rxAck,
    count := BitVec.ofNat 2 (match l.txCount with
      | some c => c
      | none => 0),
    start := l.txCount.isSome, rxok := decide (2 ≤ l.okInit), resume := l.resume, depth := depthWord }

/-- The end is in service: its router hears ON, a retrain's end is reported, and counts of the window start anew; a width other than full, or
other than the one asked, is reported (R382, R387, R394). -/
def State.resumeService (s : State) (k e : Nat) : State :=
  let l := s.lkAt k e
  let now := s.refTime
  let s1 := s.modLk k e (fun l => { l with
    st := .inService, consec := 0, lastAcc := now, since := now, lreq := 0, accept := none, wantArg := none, reqOpen := false })
  let s2 := (s1.setFld (Off.LK_ERR_CNT k e) Fld.LK_ERR_CNT.WINDOW_ERR 0).setFld (Off.LK_CTRL k e) Fld.LK_CTRL.RETRAIN 0
  let s3 := s2.lkTell k e .on true
  let s4 := if l.resume then s3.reportLk k e .LINK_RESUMED else s3
  if l.width ≠ 1 ∨ (l.asked ≠ 0 ∧ l.asked ≠ l.width) then s4.lkFault k e .LINK_WIDTH Fld.LK_ERR_STATUS.WIDTH else s4

/-- The own countdown has ended: what the peer has acknowledged is freed and the rest is owed as replays (R387). -/
def Lk.countdownDone (l : Lk) : Lk :=
  let keep := l.recs.filter (fun r => seqFollows r.1 l.peerAck)
  { l with txCount := none, txDone := true, recs := keep, owed := keep.map (·.1), limitSince := if keep.length < 1024 then none else l.limitSince }

/-- An end sends its next flow unit: an INIT flow unit until its countdown is done, else a replay owed, else a NEW one (R374, R377). -/
def State.sendFlu (s : State) (k e : Nat) (errs : List LaneErrs) : State :=
  let l := s.lkAt k e
  if l.st = .init ∧ l.txDone = false then
    let s0 := if l.txCount.isNone ∧ 2 ≤ l.okInit ∧ l.peerOk = true then s.modLk k e (fun l => { l with txCount := some 3 }) else s
    let s1 := s0.putFlu k e (.init (s0.initFlu k e)) none
    match (s1.lkAt k e).txCount with
    | none => s1
    | some 0 =>
      let s2 := s1.modLk k e Lk.countdownDone
      if l.rxCount = some 0 then s2.resumeService k e else s2
    | some (c + 1) => s1.modLk k e (fun l => { l with txCount := some c })
  else if 1024 ≤ l.recs.length then s
  else
    match l.owed with
    | q :: more =>
      match l.recs.find? (fun r => r.1 == q) with
      | none => s.modLk k e (fun l => { l with owed := more })
      | some r =>
        ((s.modLk k e (fun l => { l with owed := more })).bump (Off.LK_ERR_CNT k e) Fld.LK_ERR_CNT.REPLAYS).putFlu k e
          (.replay (BitVec.ofNat 12 q) r.2) (some [none, none, none])
    | [] =>
      let carrying := l.st = .inService ∨ l.st = .pre
      let (s1, fs) := if carrying then s.pickFlits k e else (s, [])
      let (s1, errs, hit) := s1.meshMarks k e fs.length errs
      let (s2, out) := (fs.zip (List.range 3)).foldl (fun (a : State × List Flit) x =>
        let (s', r) := a.1.meshCheck k e x.1 (errs.getD x.2 LaneErrs.clean)
        (s', a.2 ++ r.toList)) (s1, [])
      let s2 := if hit then State.markInj s1 (lkNi k e) s2 else s2
      let slots := (List.range 3).map (fun i => out[i]?)
      s2.putFlu k e (.new slots) (some slots)

/-- The end has something to send (R377). -/
def State.lkWork (s : State) (k e : Nat) : Bool :=
  let l := s.lkAt k e
  (l.st == .init && !l.txDone) || !l.owed.isEmpty || l.nextNak.isSome || l.dirty || s.creditsOwed k e ||
    (decide (l.st = .inService ∨ l.st = .pre) && !(s.wireAt (lkTx k e)).isEmpty)

/-- The adapter carries data in this state of the end. -/
def Lk.sends (l : Lk) : Bool := l.adapter && l.req == 1 && !(l.st == .down || l.st == .lost)

/-- FLU_SEND: an end starts a flow unit with its flits, replays, ACK, NAK and credits; `errs` is what the mesh-side lane check finds on
the flits taken (R145, R146, R365, R370, R372, R376, R377, R380). -/
def execFluSend (k : Fin 28) (e : Fin 2) (errs : List LaneErrs) (s : State) : Outcome :=
  if lkEnd k e && (s.lkAt k e).sends && s.lkWork k e then .next (s.sendFlu k e errs) else .next s

/-- FLU_IDLE_TIMER: 128 ns have passed since the last flow unit and one is started (R377). -/
def execFluIdleTimer (k : Fin 28) (e : Fin 2) (s : State) : Outcome :=
  if lkEnd k e && (s.lkAt k e).sends && decide ((s.lkAt k e).lastSent + 128 ≤ s.refTime) then .next (s.sendFlu k e []) else .next s

/-! ### Receiving -/

/-- The other end of a seam link. -/
def lkPeer (e : Nat) : Nat := 1 - e

/-- The flow unit that an end receives: of a seam link the oldest its peer has sent, of a chiplet link the one given. A unit whose number
is not the one the receiver counts fails its CRC (R370, R372). -/
def State.arriving (s : State) (k e : Nat) (f : Option Flu) : Option (Flu × State) :=
  let l := s.lkAt k e
  if !lkEnd k e || !l.adapter then none
  else if lkSeam k then
    match (s.lkAt k (lkPeer e)).fdi with
    | [] => none
    | (q, u) :: rest =>
      let isInit := match u.body with
        | .init _ => true
        | _ => false
      if isInit || q == l.rxNext then some (u, s.modLk k (lkPeer e) (fun l => { l with fdi := rest })) else none
  else f.map (fun u => (u, s))

/-- Records that an ACK covers are freed (R375, R391). -/
def State.takeAck (s : State) (k e ack : Nat) : State :=
  s.modLk k e (fun l =>
    let r := l.recs.filter (fun x => seqFollows x.1 ack)
    { l with recs := r, owed := l.owed.filter (fun q => seqFollows q ack), limitSince := if r.length < 1024 then none else l.limitSince })

/-- ACK, NAK, CREDIT and LREQ of an accepted flow unit (R375, R379, R380, R384). -/
def State.takeControl (s : State) (k e : Nat) (f : Flu) : State :=
  let s1 := s.takeAck k e f.ack.toNat
  let s2 := match f.nak with
    | none => s1
    | some q => s1.modLk k e (fun l =>
        if l.recs.any (fun r => r.1 == q.toNat) ∧ l.owed.contains q.toNat = false then { l with owed := l.owed ++ [q.toNat] } else l)
  let s3 := (s2.takeCredits k e f.credit).modLk k e (fun l => { l with lastAcc := s.refTime, consec := 0 })
  if f.lreq.val = 1 then s3.peerRequest k e f.larg
  else if f.lreq.val = 2 ∧ (s3.lkAt k e).reqOpen = true then s3.requestRetrain k e
  else s3

/-- Content is delivered in sequence order up to the oldest missing slot, and nothing while the crossing to the router or CLA is in reset
(R83, R375, R378). -/
def State.lkDrain (s : State) (k e : Nat) : Nat → State
  | 0 => s
  | fuel + 1 =>
    let l := s.lkAt k e
    let n := (l.rxAck + 1) % 4096
    if n = l.rxNext ∨ s.linkHeld (lkRx k e) = true ∨ l.missing.any (fun m => m.seq == n) = true then s
    else
      let fs := match l.held.find? (fun h => h.1 == n) with
        | some h => slotFlits h.2
        | none => []
      let s1 := s.modLk k e (fun l => { l with rxAck := n, held := l.held.filter (fun h => h.1 != n), dirty := true })
      (fs.foldl (fun s f => s.lkDeliver k e f) s1).lkDrain k e fuel

/-- A slot is filled with content and what can be delivered is (R375, R378). -/
def State.fill (s : State) (k e seq : Nat) (c : List (Option Flit)) : State :=
  (s.modLk k e (fun l => { l with held := l.held ++ [(seq, c)], missing := l.missing.filter (fun m => m.seq != seq) })).lkDrain k e 4096

/-- A number of the receiver's count is missing and owes a NAK (R378, R379). -/
def State.markMissing (s : State) (k e seq : Nat) (nak : Bool) : State :=
  s.modLk k e (fun l => { l with
    missing := l.missing ++ [⟨seq, 0, s.refTime⟩]
    naks := if nak then l.naks ++ [seq] else l.naks })

/-- The reorder window: the 64 numbers from the oldest missing one upward; every number while nothing is missing (R378). -/
def Lk.inWindow (l : Lk) (seq : Nat) : Bool :=
  match l.missing with
  | [] => true
  | m :: _ => decide ((seq + 4096 - m.seq) % 4096 < 64)

/-- The protocol errors of R390 in an accepted NEW or REPLAY flow unit. -/
def Lk.protoError (l : Lk) (f : Flu) : Bool :=
  let sl := f.body.slots
  let holes := (List.range 2).any (fun i => (sl.getD i none).isNone && (sl.getD (i + 1) none).isSome)
  let es := match f.body with
    | .replay q _ => !seqFollows l.rxNext q.toNat
    | _ => false
  let nk := match f.nak with
    | some q => seqFollows q.toNat l.txNext
    | none => false
  holes || es || nk || !seqFollows l.txNext f.ack.toNat || (f.lreq.val == 2 && !l.reqOpen && l.req != 2)

/-- A protocol error: the content is discarded, and a retrain starts through PRE (R390). -/
def State.lkProtocol (s : State) (k e : Nat) : State :=
  (s.lkFault k e .LINK_PROTOCOL Fld.LK_ERR_STATUS.PROTOCOL).retrainDue k e 0

/-- The receiver's count moves on by one flow unit (R372). -/
def State.countRx (s : State) (k e : Nat) : State := s.modLk k e (fun l => { l with rxNext := (l.rxNext + 1) % 4096 })

/-- An accepted NEW or REPLAY flow unit (R375, R378, R390, R391). -/
def State.acceptFlu (s : State) (k e : Nat) (f : Flu) : State :=
  let l := s.lkAt k e
  let seq := l.rxNext
  let s1 := s.countRx k e
  if l.protoError f then ((s1.markMissing k e seq false).modLk k e (fun l => { l with lastAcc := s.refTime, consec := 0 })).lkProtocol k e
  else
    let s2 := s1.takeControl k e f
    match f.body with
    | .new c => if l.inWindow seq then s2.fill k e seq c else s2.markMissing k e seq true
    | .replay q c =>
      let s3 := if (s2.lkAt k e).missing.any (fun m => m.seq == q.toNat) then s2.fill k e q.toNat c else s2
      s3.fill k e seq [none, none, none]
    | .init _ => s2

/-- An end counts NEW and REPLAY flow units: outside INIT, and in INIT once the peer's countdown has numbered them (R372, R374). -/
def Lk.receives (l : Lk) : Bool := l.st == .inService || l.st == .pre || l.st == .paused || (l.st == .init && l.rxCount == some 0)

/-- FLU_NEW: an accepted NEW flow unit fills its slot and yields its ACK, NAK, CREDIT and LREQ (R371, R375, R378 to R380, R384, R390). -/
def execFluNew (k : Fin 28) (e : Fin 2) (f : Option Flu) (s : State) : Outcome :=
  match s.arriving k e f with
  | some (u, s1) =>
    match u.body with
    | .new _ => if (s.lkAt k e).receives then .next (s1.acceptFlu k e u) else .next s
    | _ => .next s
  | none => .next s

/-- FLU_REPLAY: an accepted REPLAY flow unit fills its missing slot (R375, R378, R380, R390, R391). -/
def execFluReplay (k : Fin 28) (e : Fin 2) (f : Option Flu) (s : State) : Outcome :=
  match s.arriving k e f with
  | some (u, s1) =>
    match u.body with
    | .replay _ _ => if (s.lkAt k e).receives then .next (s1.acceptFlu k e u) else .next s
    | _ => .next s
  | none => .next s

/-- The next flow unit received is numbered NEXT_SEQ; the numbers between the receiver's own count and it are missing (R374, R387). -/
def Lk.numbered (l : Lk) (now : Nat) : Lk :=
  let skipped := ((List.range 2047).map (fun i => (l.rxNext + i) % 4096)).takeWhile (· != l.peerNext)
  { l with rxNext := l.peerNext, missing := l.missing ++ skipped.map (fun q => ⟨q, 0, now⟩) }

/-- The peer's countdown stands at c INIT flow units to come; at 0 the receiver counts from NEXT_SEQ, and it enters IN_SERVICE once its own
countdown is done too (R374; log entry 52). -/
def State.countDown (s : State) (k e c : Nat) : State :=
  let s1 := s.modLk k e (fun l => { l with rxCount := some c })
  if c = 0 then
    let s2 := s1.modLk k e (fun l => l.numbered s.refTime)
    if (s2.lkAt k e).txDone then s2.resumeService k e else s2
  else s1

/-- An INIT flow unit received in INIT (R374, R381, R387, R388). -/
def State.takeInit (s : State) (k e : Nat) (f : Flu) (w : InitWord) : State :=
  let l := s.lkAt k e
  let pass := w.version == 1 && w.depth == depthWord && w.endId.toNat != s.lkId k e && w.resume == l.resume
  let s0 := s.modLk k e (fun l => { l with lastAcc := s.refTime })
  if !pass then
    let s1 := s0.lkFault k e .LINK_INIT_ERR Fld.LK_ERR_STATUS.INIT_ERR
    if l.resume then s1.lkLost k e else s1
  else
    let s1 := (if l.resume then s0.takeCredits k e f.credit else s0).modLk k e (fun l => { l with
      okInit := l.okInit + 1, rxCount := none, peerOk := w.rxok, peerId := w.endId.toNat, peerAck := w.rxAck.toNat, peerNext := w.nextSeq.toNat })
    if w.start then s1.countDown k e w.count.toNat else s1

/-- FLU_INIT: an INIT flow unit advances the initialisation exchange and its countdown; in IN_SERVICE it is a protocol error (R374, R387, R390). -/
def execFluInit (k : Fin 28) (e : Fin 2) (f : Option Flu) (s : State) : Outcome :=
  match s.arriving k e f with
  | some (u, s1) =>
    match u.body with
    | .init w =>
      if (s.lkAt k e).st = .init then .next (s1.takeInit k e u w)
      else if (s.lkAt k e).st = .inService then .next ((s1.modLk k e (fun l => { l with lastAcc := s.refTime, consec := 0 })).lkProtocol k e)
      else .next s1
    | _ => .next s
  | none => .next s

/-- A bad flow unit is counted; its thresholds may start a retrain (R382). -/
def State.badFlu (s : State) (k e : Nat) : State :=
  let o := Off.LK_ERR_CNT k e
  let s1 := ((s.bump o Fld.LK_ERR_CNT.CRC_ERR).bump o Fld.LK_ERR_CNT.WINDOW_ERR).modLk k e (fun l => { l with consec := l.consec + 1 })
  let s2 := s1.setFld (Off.LK_ERR_STATUS k e) Fld.LK_ERR_STATUS.CRC 1
  let s3 := if s.flag (Off.LK_CTRL k e) Fld.LK_CTRL.CE_REPORT && !(s.lkAt k e).crcReported then
      (s2.modLk k e (fun l => { l with crcReported := true })).reportLk k e .LINK_CRC
    else s2.occurs (lkNi k e) (occKey (3 + e) .LINK_CRC k) 1
  if s3.lkTh k e Fld.LK_THRESH.CRC_WIN ≤ s3.fld o Fld.LK_ERR_CNT.WINDOW_ERR ∨
      s3.lkTh k e Fld.LK_THRESH.CONSEC ≤ (s3.lkAt k e).consec then s3.retrainDue k e 0 else s3

/-- FLU_BAD: a flow unit fails its checks: it is counted, its number is missing and NAKed; in INIT it counts in the peer's countdown, and a
unit that no countdown has numbered restarts the exchange (log entry 52). `lost` units before it were lost by the FDI, and one that the FDI repeats leaves
its original to come (R371, R372, R374, R378, R382). -/
def execFluBad (k : Fin 28) (e : Fin 2) (lost : Nat) (again : Bool) (s : State) : Outcome :=
  let l := s.lkAt k e
  if !lkEnd k e || !l.adapter || decide (l.st = .down ∨ l.st = .lost) then .next s
  else
    let front := if lkSeam k then (((s.lkAt k (lkPeer e)).fdi.drop lost).head?.map (·.1)).getD 0 else 0
    let s1 := if lkSeam k then s.modLk k (lkPeer e) (fun l => { l with fdi := (l.fdi.drop lost).drop (if again then 0 else 1) }) else s
    if l.receives = false then
      let s2 := s1.bump (Off.LK_ERR_CNT k e) Fld.LK_ERR_CNT.CRC_ERR
      match l.rxCount with
      | some (c + 1) => .next (s2.countDown k e c)
      | _ => .next (s2.modLk k e (fun l => { l with okInit := 0, peerOk := false, txCount := none, txDone := false }))
    else
      let s2 := ((s1.countRx k e).markMissing k e l.rxNext true).badFlu k e
      .next (if 4096 ≤ front then State.markInj s1 (lkNi k e) s2 else s2)

/-! ### Timers -/

/-- NAK_REPEAT: the NAK of a still-missing slot is repeated once its interval has passed (R379). -/
def execNakRepeat (k : Fin 28) (e : Fin 2) (s : State) : Outcome :=
  let l := s.lkAt k e
  let iv := 4 * max 1 (s.lkTh k e Fld.LK_THRESH.NAK_REPEAT)
  match l.missing.find? (fun m => decide (m.at' + iv ≤ s.refTime) && !l.naks.contains m.seq) with
  | some m => .next (s.modLk k e (fun l => { l with naks := m.seq :: l.naks }))
  | none => .next s

/-- LINK_WINDOW_START: a window of 2^20 ft starts and its counts clear; a long window of 2^24 ft clears the retrains too (R382). -/
def execLinkWindowStart (k : Fin 28) (e : Fin 2) (s : State) : Outcome :=
  let w := s.lkTime k e / 2 ^ 20
  let l := s.lkAt k e
  if !lkEnd k e || w == l.window then .next s
  else
    let s1 := (s.modLk k e (fun l => { l with window := w, crcReported := false })).setFld (Off.LK_ERR_CNT k e) Fld.LK_ERR_CNT.WINDOW_ERR 0
    .next (if w / 16 = l.window / 16 then s1 else s1.setFld (Off.LK_RETRAIN_CNT k e) Fld.LK_RETRAIN_CNT.RECENT 0)

/-- LINK_SILENCE_TIMEOUT: 1,024 ns without an accepted flow unit in IN_SERVICE or PRE start a retrain (R382). -/
def execLinkSilenceTimeout (k : Fin 28) (e : Fin 2) (s : State) : Outcome :=
  let l := s.lkAt k e
  if (l.st = .inService ∨ l.st = .pre) ∧ l.lastAcc + 1024 ≤ s.refTime then .next (s.retrainDue k e 0) else .next s

/-- RECORD_LIMIT_TIMEOUT: replay records at their limit for 2,048 ns start a retrain (R376, R382). -/
def execRecordLimitTimeout (k : Fin 28) (e : Fin 2) (s : State) : Outcome :=
  match (s.lkAt k e).limitSince with
  | some t => if t + 2048 ≤ s.refTime then .next (s.retrainDue k e 0) else .next s
  | none => .next s

/-- P3 and MGT flits that wait at the router output, or at a CLA for its link (R383). -/
def State.urgent (s : State) (k e : Nat) : Nat :=
  if lkSeam k then ((s.outWants (lkTile k e) (lkPort e)).filter (fun w => w.1.gt || w.1.vn == Vn.MGT)).length
  else ((s.wireAt (lkTx k e)).filter (fun f => f.gt || f.vn == Vn.MGT)).length

/-- PRE_END: PRE ends when no P3 or MGT candidate is left, or after 512 ns; the end enters PAUSED and sends REQUEST, or ACCEPT where it
owes one (R383 to R385, R391). -/
def execPreEnd (k : Fin 28) (e : Fin 2) (s : State) : Outcome :=
  let l := s.lkAt k e
  let left := s.urgent k e
  if l.st ≠ .pre ∨ (0 < left ∧ s.refTime < l.since + 512) then .next s
  else
    let s1 := if 0 < left then
        (s.setFld (Off.LK_RETRAIN_CNT k e) Fld.LK_RETRAIN_CNT.PRE_LEFT (min 255 left)).lkFault k e .LINK_PRE_TIMEOUT Fld.LK_ERR_STATUS.PRE_TIMEOUT
      else s.setFld (Off.LK_RETRAIN_CNT k e) Fld.LK_RETRAIN_CNT.PRE_LEFT 0
    let s2 := s1.enterPaused k e
    match l.accept with
    | some a =>
      let s3 := s2.modLk k e (fun l => { l with lreq := 2, larg := a, asked := l.argWidth a, wantArg := none, dirty := true })
      .next (if l.wantArg.isSome then s3.bump (Off.LK_RETRAIN_CNT k e) Fld.LK_RETRAIN_CNT.WITHDRAWN else s3)
    | none => .next (s2.modLk k e (fun l => { l with
        lreq := 1, larg := l.wantArg.getD 0, reqOpen := true, reqSince := s.refTime, dirty := true }))

/-- ACCEPT_TIMEOUT: no ACCEPT within 4,096 ns of the first REQUEST; the requester retrains anyway (R384). -/
def execAcceptTimeout (k : Fin 28) (e : Fin 2) (s : State) : Outcome :=
  let l := s.lkAt k e
  if l.st = .paused ∧ l.reqOpen = true ∧ l.reqSince + 4096 ≤ s.refTime then .next (s.requestRetrain k e) else .next s

/-! ### The adapter -/

/-- A link comes up anew: every credit toward it is at hand and none is owed (R368, R374, R380). -/
def State.linkAnew (s : State) (k e : Nat) : State :=
  (List.range 8).foldl (fun s v =>
    (((s.setUsed (lkTx k e) v false 0).setUsed (lkTx k e) v true 0).setOwed (lkRx k e) v false 0).setOwed (lkRx k e) v true 0) s

/-- ADAPTER_ACTIVE: pl_state_sts reports Active at a width, 1 FULL or 2 HALF, and the end enters INIT: of first bring-up from DOWN, of a
resume from PAUSED (R366, R368, R374, R387). -/
def execAdapterActive (k : Fin 28) (e : Fin 2) (half : Bool) (s : State) : Outcome :=
  let l := s.lkAt k e
  let w := if half then 2 else 1
  let now := s.refTime
  if !lkEnd k e then .next s
  else if l.st = .down ∧ l.req = 1 then
    .next ((s.linkAnew k e).modLk k e (fun l => { l.fresh with adapter := true, width := w, st := .init, since := now, lastAcc := now, lastSent := now }))
  else if l.adapter then .next s
  else if l.st = .paused then
    let s1 := if l.width ≠ w then s.bump (Off.LK_RETRAIN_CNT k e) Fld.LK_RETRAIN_CNT.WIDTH_CHANGES else s
    .next (s1.modLk k e (fun l => { l with
      adapter := true, req := 1, width := w, st := .init, resume := true, okInit := 0, peerOk := false, txCount := none, txDone := false
      rxCount := none, lreq := 0, reqOpen := false, accept := none, wantArg := none, naks := [] }))
  else .next (s.modLk k e (fun l => { l with adapter := true, width := w }))

/-- ADAPTER_LEAVE_ACTIVE: the adapter leaves Active; without a request of this end it enters PAUSED at once, and the retrain counts as the
adapter's. Units under way on the FDI are gone (R386). -/
def execAdapterLeaveActive (k : Fin 28) (e : Fin 2) (s : State) : Outcome :=
  let l := s.lkAt k e
  if !lkEnd k e || !l.adapter then .next s
  else
    let s0 := s.modLk k e (fun l => { l with adapter := false, fdi := [], req := if l.req = 2 then 1 else l.req })
    let s1 := if lkSeam k then s0.modLk k (lkPeer e) (fun l => { l with fdi := [] }) else s0
    match l.st with
    | .init | .inService | .pre =>
      .next (((s1.modLk k e (fun l => { l with asked := 0 })).enterPaused k e).bump (Off.LK_RETRAIN_CNT k e) Fld.LK_RETRAIN_CNT.ADAPTER)
    | _ => .next s1

/-- RETRAIN_LIMIT_EXPIRY: the end is not in service within RETRAIN_LIMIT: a first INIT starts again with LINK_INIT_ERR, a retrain takes the
link to LOST (R374, R388). -/
def execRetrainLimitExpiry (k : Fin 28) (e : Fin 2) (s : State) : Outcome :=
  let l := s.lkAt k e
  let lim := 1000 * max 1 (s.lkTh k e Fld.LK_THRESH.RETRAIN_LIMIT)
  if (l.st = .paused ∨ l.st = .init) ∧ l.since + lim ≤ s.refTime then
    if l.st = .paused ∨ l.resume = true then .next (s.lkLost k e)
    else
      .next ((s.lkFault k e .LINK_INIT_ERR Fld.LK_ERR_STATUS.INIT_ERR).modLk k e (fun l => { l with
        since := s.refTime, okInit := 0, peerOk := false, txCount := none, txDone := false, rxCount := none }))
  else .next s

/-- Both halves of every seam link stay in reset: die B is fenced, and no rejoin has come to J1 (R85, R583). -/
def State.seamFenced (s : State) : Bool :=
  s.kt.dieBFenced && decide (s.pot.joinStep < 3) && s.fld Off.GL_JOIN Fld.GL_JOIN.STATE != 5

/-- A link end may ask its adapter to train: enabled, not held under R33, R82, R581 or R583, and not LOST without a reset since (R33, R85, R368, R581, R583; log entry 52). -/
def State.lkAsk (s : State) (k e : Nat) : State :=
  let l := s.lkAt k e
  if l.st = .down ∧ l.wasLost = false ∧ s.pins.ready = true ∧ ¬(20 ≤ k ∧ s.kt.bHeld = true) ∧
      ¬(lkSeam k = true ∧ s.seamFenced = true) ∧ s.linkHeld (lkTx k e) = false ∧ s.flag (Off.LK_CTRL k e) Fld.LK_CTRL.ENABLE = true then
    s.modLk k e (fun l => { l with req := 1 })
  else s

/-- Both halves of a link are reset together (R81, R368). -/
def State.resetLink (s : State) (k : Nat) : State :=
  (List.range 2).foldl (fun s e => if lkEnd k e then (s.setLk k e Lk.reset).lkTell k e .unreach false else s) s

/-- LK_ENABLE_WRITE: ENABLE lets an end leave DOWN; cleared, it takes an end to LOST and then to DOWN (R368, R391). -/
def execLkEnableWrite (k : Fin 28) (e : Fin 2) (on : Bool) (s : State) : Outcome :=
  if !lkEnd k e then .next s
  else
    let s1 := s.setFld (Off.LK_CTRL k e) Fld.LK_CTRL.ENABLE (b2n on)
    if on then .next (s1.lkAsk k e)
    else
      let l := s.lkAt k e
      let s2 := if l.st = .down ∨ l.st = .lost then s1 else s1.lkLost k e
      .next (s2.modLk k e (fun l => { l with st := .down, req := 0 }))

/-- A retrain through PRE at the width of LK_CTRL.WIDTH_REQ; in PRE or PAUSED it is merged (R382, R383, R391). -/
def State.lkRetrain (s : State) (k e : Nat) : State :=
  let l := s.lkAt k e
  let w := s.fld (Off.LK_CTRL k e) Fld.LK_CTRL.WIDTH_REQ
  let a := if w = 3 then 0 else w
  if !lkEnd k e then s
  else
    match l.st with
    | .inService => (s.setFld (Off.LK_CTRL k e) Fld.LK_CTRL.RETRAIN 1).retrainDue k e a
    | .pre => (s.setFld (Off.LK_CTRL k e) Fld.LK_CTRL.RETRAIN 1).modLk k e (fun l => { l with wantArg := some a })
    | .paused => s.setFld (Off.LK_CTRL k e) Fld.LK_CTRL.RETRAIN 1
    | _ => s

/-- LK_RETRAIN_WRITE: LK_CTRL.RETRAIN is written (R382). -/
def execLkRetrainWrite (k : Fin 28) (e : Fin 2) (s : State) : Outcome := .next (s.lkRetrain k e)

/-- A seam link is in service at full width (R389). -/
def State.seamFull (s : State) (k : Nat) : Bool :=
  (List.range 2).all (fun e => (s.lkAt k e).st == .inService && (s.lkAt k e).width == 1)

end Sys2Proof.Machine
end

