-- ==== Sys2Proof/Machine/Snap.lean ====
section
/-! DEFINITION. Copies of counters: shadow banks, pushed pages and retention images (R558 to R565). -/
namespace Sys2Proof.Machine

/-- A unit with event counters. -/
inductive PmUnit where
  | router (t : Nat)
  | ni (n : Nat)
  | slice (h : Nat)
  deriving DecidableEq, Repr

/-- TYPE of a unit's page (PM_HDR). -/
def PmUnit.type : PmUnit → Nat
  | .router _ => 0 | .ni _ => 1 | .slice _ => 2
/-- INDEX of a unit's page (PM_HDR). -/
def PmUnit.index : PmUnit → Nat
  | .router t => t | .ni n => n | .slice h => h
/-- Counters of a unit. -/
def PmUnit.count : PmUnit → Nat
  | .router _ => 64 | .ni _ => 32 | .slice _ => 128
/-- The NI that owns a unit and pushes its page (R565). -/
def PmUnit.owner : PmUnit → Nat
  | .router t => tileL0 t | .ni n => n | .slice h => sliceNi h
/-- The domain whose state decides a unit's page (R561). -/
def PmUnit.domain : PmUnit → Nat
  | .router t => tileIsland t | .ni n => niIsland n | .slice h => 48 + h
/-- The island whose local time a unit follows. -/
def PmUnit.island : PmUnit → Nat
  | .router t => tileIsland t | .ni n => niIsland n | .slice h => sliceIsland h
/-- Store page of a unit (R566). -/
def PmUnit.page : PmUnit → Nat
  | .router t => t | .ni n => 192 + n | .slice h => 448 + h
/-- Offset of a unit's store page in the counter aperture (R567). -/
def PmUnit.aperture : PmUnit → Nat
  | .router t => 0x400 * t | .ni n => 0x30000 + 0x200 * n | .slice h => 0x50000 + 0x800 * h
/-- Offset of PM_CNT_0 of a unit. -/
def PmUnit.base : PmUnit → Nat
  | .router t => Off.RT_PM_CNT t 0 | .ni n => Off.NI_PM_CNT n 0 | .slice h => Off.HS_PM_CNT h 0
/-- Offset of PM_SHD_0 of a unit. -/
def PmUnit.shadow : PmUnit → Nat
  | .router t => Off.RT_PM_SHD t 0 | .ni n => Off.NI_PM_SHD n 0 | .slice h => Off.HS_PM_SHD h 0
/-- Offset of PM_HDR of a unit; PM_SNAP_T and PM_SNAP_AT follow it. -/
def PmUnit.hdr : PmUnit → Nat
  | .router t => Off.RT_PM_HDR t | .ni n => Off.NI_PM_HDR n | .slice h => Off.HS_PM_HDR h

/-- Units of a domain. -/
def domainUnits (d : Nat) : List PmUnit :=
  if d < 48 then (islandTiles d).map PmUnit.router ++ ((islandTiles d).flatMap tileNis).map PmUnit.ni
  else if d < 64 then [.slice (d - 48)] else []

/-- Live counts of a unit, each laid out as PM_CNT_k. -/
def State.unitCounts (s : State) (u : PmUnit) : List W64 := (List.range u.count).map (fun k => s.rd (u.base + 8 * k))

/-- PM_HDR of a page: 1 VALID, 2 ASLEEP, 3 INVALID. -/
def pmHdrOf (u : PmUnit) (num status : Nat) (late : Bool) (conf : Nat) : W64 :=
  BitVec.ofNat 64 (num % 2 ^ 32 * 2 ^ 32 + status * 2 ^ 30 + b2n late * 2 ^ 29 + conf * 2 ^ 27 + u.type * 2 ^ 14 + u.index)

/-- A page of a unit as of now (R559, R562). -/
def State.pageOf (s : State) (u : PmUnit) (num T status : Nat) (late : Bool) : PmPage :=
  { hdr := pmHdrOf u num status late (s.effConf u.island).code, t := BitVec.ofNat 64 T, at' := BitVec.ofNat 64 (s.localFt u.island), cnts := s.unitCounts u }

/-- A page is written to a unit's shadow bank (R559). -/
def State.putPage (s : State) (u : PmUnit) (p : PmPage) : State :=
  let s1 := (List.range u.count).foldl (fun s k => s.wr (u.shadow + 8 * k) (p.cnts.getD k 0)) s
  ((s1.wr u.hdr p.hdr).wr (u.hdr + 8) p.t).wr (u.hdr + 16) p.at'

/-- The lines of a store page (R567). -/
def PmPage.lines (p : PmPage) : List Line :=
  lineOfWords [p.hdr, p.t, p.at'] :: (List.range (p.cnts.length / 8)).map (fun k => lineOfWords ((p.cnts.drop (8 * k)).take 8))

/-- A unit's page leaves for the collector, as PWR packets of at most four lines (R565). -/
def State.pushPage (s : State) (u : PmUnit) (p : PmPage) : State :=
  let n := u.owner
  let base := ((s.ioWindowOf n 253 19).getD 0 + u.aperture) / 64
  let ls := p.lines.map (fun l => (⟨false, allBytes, l⟩ : Body))
  (splitPieces true ls.length 0 base ls).foldl (fun s q =>
    let h : Hdr := { Hdr.zero with
      vn := 4, colour := 3, epoch := BitVec.ofNat 2 (s.niAt n).ep.epoch, opcode := 1, agent := 0xFFF, priv := true, origin := true, mid := BitVec.ofNat 46 q.line }
    s.handOver n 253 (Pkt.ofLines h q.data) (some 1) 0) s

/-- A unit's snapshot number and T, if it holds them (R558). -/
def State.unitSnap (s : State) : PmUnit → Option (Nat × Nat)
  | .router t => (s.rtAt t).snap
  | .ni n => (s.niAt n).snap
  | .slice h => (KMap.get (fun _ => Slice.reset) s.slice h).snap

/-- A unit takes or drops a snapshot number and T. -/
def State.setSnap (s : State) (u : PmUnit) (v : Option (Nat × Nat)) : State :=
  match u with
  | .router t => s.modRt t (fun r => { r with snap := v })
  | .ni n => s.modNi n (fun x => { x with snap := v })
  | .slice h =>
    let x := KMap.get (fun _ => Slice.reset) s.slice h
    { s with slice := KMap.set (fun _ => Slice.reset) s.slice h { x with snap := v } }

/-- A unit copies its counters for the snapshot it holds, and pushes the page through its NI, whose island wakes for it (R559, R564, R565). -/
def State.copyUnit (s : State) (u : PmUnit) (num T : Nat) (late : Bool) : State :=
  let p := s.pageOf u num T 1 late
  (((s.setSnap u none).putPage u p).pushPage u p).wakeNi u.owner

/-- The units of a domain take their retention images and push them; they count no more (R548, R562). -/
def State.takeImages (s : State) (d : Nat) : State :=
  let at' := (((domainUnits d).map (fun u => s.localFt u.island)).head?).getD 0
  ((domainUnits d).foldl (fun s u => (s.pushPage u (s.pageOf u 0 0 2 false)).wakeNi u.owner) s).modDom d (fun x => { x with imaged := true, imgAt := at' })

/-- A domain comes up while a snapshot is pending: before T its units take the number and T; after T a unit from RET writes its held counts as ASLEEP, and
one from OFF zeros as INVALID, and neither pushes (R563). -/
def State.snapRaise (s : State) (d : Nat) (was : DomSt) : State :=
  match s.kt.snap with
  | some (num, T) =>
    if was = .ret ∨ was = .off then
      (domainUnits d).foldl (fun s u =>
        if s.time.now < T then s.setSnap u (some (num, T))
        else
          let p := s.pageOf u num T (if was = .ret then 2 else 3) false
          (s.setSnap u none).putPage u (if was = .ret then { p with at' := BitVec.ofNat 64 (s.domAt d).imgAt } else { p with cnts := [] })) s
    else s
  | none => s

end Sys2Proof.Machine
end

