-- ==== Sys2Proof/Machine/Time.lean ====
section
/-! DEFINITION. Meanings of the commands of fabric time, islands and event crossings (R44 to R85). -/
namespace Sys2Proof.Machine

/-! ### The keeper and its references -/

/-- The state with the keeper changed. -/
def State.modTime (s : State) (f : Keeper → Keeper) : State := { s with time := f s.time }

/-- A reference of the keeper. -/
def Keeper.ref (k : Keeper) (b : Bool) : Ref := if b then k.refB else k.refA

/-- The keeper with a reference replaced. -/
def Keeper.setRef (k : Keeper) (b : Bool) (r : Ref) : Keeper := if b then { k with refB := r } else { k with refA := r }

/-- Usable under R69: neither lost nor out of tolerance, drift at most 100 ppm. -/
def Ref.usable (r : Ref) : Bool := !r.lost && !r.out && decide (r.drift.natAbs ≤ 1600)

/-- Reference cycles from the mark of time epoch k to the next mark (R54). -/
def markCycles (k : Nat) : Nat := if k % 5 = 2 ∨ k % 5 = 4 then 104857 else 104858

/-- Fabric time of the mark of time epoch k (R54). -/
def markTime (k : Nat) : Nat := 2 ^ 20 * k + 4 * k % 10

/-- Whether a mark arrives at the count R54 gives: any mark starts a count, before fabric time starts either count is right. -/
def markRight (k : Keeper) (r : Ref) (cycles : Nat) : Bool :=
  match r.epoch with
  | none => true
  | some e => if k.running then cycles == markCycles e else cycles == 104857 || cycles == 104858

/-- The time epoch that a correct mark carries: one more than the last, or the nearest epoch boundary when it starts a count. -/
def markEpoch (k : Keeper) (r : Ref) : Nat :=
  match r.epoch with
  | some e => if k.running then e + 1 else 0
  | none => if k.running then (k.now + 2 ^ 19) / 2 ^ 20 else 0

/-- MARK_ERR count of a reference. -/
def markErrFld (b : Bool) : Fld := if b then Fld.FT_REF_ERR.MARK_ERR_B else Fld.FT_REF_ERR.MARK_ERR_A
/-- LOSS count of a reference. -/
def lossFld (b : Bool) : Fld := if b then Fld.FT_REF_ERR.LOSS_B else Fld.FT_REF_ERR.LOSS_A

/-- A mark error: counted, reported, and the next mark starts a new count; two in a row put the reference out of tolerance (R56). -/
def State.markError (s : State) (b : Bool) : State :=
  let r := s.time.ref b
  let r' := { r with epoch := none, errRun := r.errRun + 1, out := r.out || decide (2 ≤ r.errRun + 1), errNow := true, good := 0 }
  ((s.modTime (fun k => k.setRef b r')).bump Off.FT_REF_ERR (markErrFld b)).reportTime .TIME_MARK_ERR 0

/-- True when fabric time may start at a correct mark of reference b: the preferred one, or the other instead when the preferred
one is lost or shows a mark error (R58). -/
def startsAt (s : State) (b : Bool) : Bool :=
  let pref := s.flag Off.FT_CTRL Fld.FT_CTRL.PREF_REF
  let pr := s.time.ref pref
  s.time.armed && !s.time.running && (b == (if pr.lost || decide (0 < pr.errRun) then !pref else pref))

/-- Fabric time starts at a mark: the keeper takes the value R54 gives for FT_EPOCH_SET.TIME_EPOCH and begins to run (R58, R60). -/
def State.startTime (s : State) (b : Bool) : State :=
  let k := s.fld Off.FT_EPOCH_SET Fld.FT_EPOCH_SET.TIME_EPOCH
  (s.modTime (fun t =>
    let t1 := t.setRef b { t.ref b with epoch := some k, okNow := true }
    { t1.setRef (!b) { t1.ref (!b) with epoch := none } with
      now := markTime k, running := true, armed := false, conf := .nominal, selB := b, boundary := k })).setFld
    Off.FT_CTRL Fld.FT_CTRL.START 0

/-- A phase error in units of 1/16 ft as the keeper counts what it has still to remove (R71). -/
def phaseUnits (phase : Int) : Int := 5000 * phase

/-- The keeper moves to a reference at that reference's mark and removes its phase error by slewing (R71). A switch that FT_CTRL.SWITCH_REQ asked
for replaces the selected reference, which is reported here; an automatic one was reported when it was decided. Above 10 ppm of drift
a requested switch makes NOMINAL confidence DEGRADED; with confidence DEGRADED before, it stays so, nothing more is reported, and the
count of good boundaries starts again (log entry 47) (R72, R75). -/
def State.switchRef (s : State) (b : Bool) (phase : Int) : State :=
  let asked := s.flag Off.FT_CTRL Fld.FT_CTRL.SWITCH_REQ
  let s1 := s.modTime (fun t => { t with selB := b, switchTo := none, slew := phaseUnits phase })
  if asked then
    let s2 := (s1.setFld Off.FT_CTRL Fld.FT_CTRL.SWITCH_REQ 0).reportTime .TIME_REF_SWITCH (s.time.ref b).drift
    if s2.time.conf = .nominal then
      if 160 < (s2.time.ref b).drift.natAbs then
        (s2.modTime (fun t => { t with conf := .degraded, goodEpochs := 0 })).reportTime .TIME_DEGRADED (s2.time.ref b).drift
      else s2
    else s2.modTime (fun t => { t with goodEpochs := 0 })
  else s1

/-- A correct mark: it carries its time epoch, may start fabric time, and completes a switch that waits for it; a mark of the selected
reference is what the keeper is disciplined to (R54, R58, R71). -/
def State.markGood (s : State) (b : Bool) (phase : Int) : State :=
  let r := s.time.ref b
  if startsAt s b then s.startTime b
  else
    let run := match r.epoch with
      | some _ => 0
      | none => r.errRun
    let s1 := s.modTime (fun t => t.setRef b { r with epoch := some (markEpoch t r), okNow := true, errRun := run })
    if s1.time.switchTo = some b then s1.switchRef b phase
    else if s1.time.running && s1.time.selB == b && decide (s1.time.conf ≠ .holdover) then s1.modTime (fun t => { t with slew := phaseUnits phase })
    else s1

/-- A high phase that makes a rising edge an epoch mark, in units of 0.1 ns (R53). -/
def markHigh : Nat := 65

/-- TREF_EPOCH_MARK: a rising edge arrives on a reference, with the keeper's phase error against that reference in units of 1/16 ft; it is an
epoch mark when its high phase lasts long enough (R53 to R58, R71). -/
def execTrefEpochMark (refB : Bool) (edge : RefEdge) (phase : Int) (s : State) : Outcome :=
  if s.inReset || decide (edge.high < markHigh) then .next s
  else if markRight s.time (s.time.ref refB) edge.cycles then .next (s.markGood refB phase)
  else .next (s.markError refB)

/-- While fabric confidence is HOLDOVER the Kettle keeps the Pot's domain ON: one that is not, or that is being lowered, is raised (R74). -/
def State.keepPotOn (s : State) : State :=
  let d := s.domAt 64
  if d.st = .on ∧ d.phase = .steady then s else s.askWake 64

/-- The switching and holdover rows of R69, for a selected reference that is not usable. A switch that has been requested goes to the same
reference and stays requested; on entry to HOLDOVER neither reference is usable, and a request is refused (R72, R74). -/
def State.leaveSelected (s : State) : State :=
  let other := !s.time.selB
  if (s.time.ref other).usable then
    (s.modTime (fun t => { t with conf := .degraded, goodEpochs := 0, switchTo := some other })).reportTime
      .TIME_REF_SWITCH (s.time.ref s.time.selB).drift
  else
    let s1 := (s.modTime (fun t => { t with conf := .holdover, goodEpochs := 0, switchTo := none, slew := 0 })).reportTime
      .TIME_HOLDOVER (s.time.ref s.time.selB).drift
    let s2 := if s.flag Off.FT_CTRL Fld.FT_CTRL.SWITCH_REQ then
        (s1.setFld Off.FT_CTRL Fld.FT_CTRL.SWITCH_REQ 0).setFld Off.FT_CTRL Fld.FT_CTRL.SWITCH_FAILED 1
      else s1
    s2.keepPotOn

/-- REF_LOST: 25 ns pass without an edge on a reference; the loss of the selected one acts at once (R57, R70). -/
def execRefLost (refB : Bool) (s : State) : Outcome :=
  let r := s.time.ref refB
  if s.inReset || r.lost then .next s
  else
    let s1 := (s.modTime (fun t => t.setRef refB { r with lost := true, out := true, epoch := none, good := 0 })).bump
      Off.FT_REF_ERR (lossFld refB)
    if s1.time.running && s1.time.selB == refB && decide (s1.time.conf = .nominal ∨ s1.time.conf = .degraded)
    then .next s1.leaveSelected else .next s1

/-- FT_START_WRITE: FT_CTRL.START arms the start of fabric time, once per cold reset (R58). -/
def execFtStartWrite (s : State) : Outcome :=
  if s.time.running then .next s
  else .next ((s.modTime (fun t => { t with armed := true })).setFld Off.FT_CTRL Fld.FT_CTRL.START 1)

/-- FT_SWITCH_REQ_WRITE: a switch to the reference that is not selected, refused when that reference is not usable (R72). -/
def execFtSwitchReqWrite (s : State) : Outcome :=
  let other := !s.time.selB
  if (s.time.ref other).usable then
    .next ((s.modTime (fun t => { t with switchTo := some other })).setFld Off.FT_CTRL Fld.FT_CTRL.SWITCH_REQ 1)
  else .next ((s.setFld Off.FT_CTRL Fld.FT_CTRL.SWITCH_REQ 0).setFld Off.FT_CTRL Fld.FT_CTRL.SWITCH_FAILED 1)

/-- The sync word for a mark: MARK, CONF and the CRC-8 over them (R61). -/
def syncWordOf (mark : Nat) (c : Conf) : W64 :=
  let w := BitVec.ofNat 64 (mark % 2 ^ 54 * 2 ^ 10 + c.code * 2 ^ 8)
  w ||| BitVec.ofNat 64 (crc8 w)

/-- KEEPER_SYNC_MARK: the keeper's time has reached a multiple of 1,024 ft whose mark has not been sent, and its sync word is emitted (R61). -/
def execKeeperSyncMark (s : State) : Outcome :=
  if s.time.running && decide (bits s.time.syncWord 10 54 < s.time.now / 1024) then
    .next (s.modTime (fun t => { t with syncWord := syncWordOf (t.now / 1024) t.conf }))
  else .next s

/-! ### Island discipline -/

/-- The state in which island i goes to local confidence DEGRADED; entering it counts a slip and reports ISLAND_TIME_SLIP (R63). -/
def State.islandSlip (s : State) (i : Nat) (e : Int) : State :=
  if (s.islAt i).conf = .degraded then s
  else
    ((s.modIsl i (fun l => { l with conf := .degraded, goodRun := 0 })).bump (Off.FT_ISL_STATUS i) Fld.FT_ISL_STATUS.SLIPS).reportIsl
      i .ISLAND_TIME_SLIP e

/-- An island takes its local time from a mark: aligned and NOMINAL at once, and nothing is reported. PHASE_ERR keeps its value: the island
computes no phase error at that mark (log entry 47) (R68). -/
def State.takeLocalTime (s : State) (i : Nat) (true16 : Nat) (drift : Int) : State :=
  s.modIsl i (fun l => { l with base := true16, since := s.uptime, corr := 0, drift := drift, tru := true16, held := false,
                                aligned := true, takeNext := false, conf := .nominal, goodRun := 0, missedRun := 0 })

/-- The table of R63 for phase error e: the local time counter reads l16 and true time is true16, all in units of 1/16 ft. A held counter stays
held until true time reaches it. NOMINAL returns after 4 marks taken in a row with |e| ≤ 2 ft; a mark that is missed between
them gives no phase error and does not break the run (log entry 47). -/
def State.disciplineIsland (s : State) (i : Nat) (e : Int) (l16 true16 : Nat) (drift : Int) : State :=
  let was := (s.islAt i).held
  let l := fun (base : Nat) (corr : Int) (held : Bool) (l : Island) =>
    { l with base := base, since := s.uptime, corr := corr, drift := drift, tru := true16, held := held }
  if was && decide (0 < e) then s.modIsl i (fun x => { l l16 0 true x with aligned := false, goodRun := 0 })
  else if -48 ≤ e ∧ e ≤ 48 then
    let run := if -32 ≤ e ∧ e ≤ 32 then (s.islAt i).goodRun + 1 else 0
    s.modIsl i (fun x => { l l16 e false x with aligned := true, goodRun := run, conf := if 4 ≤ run then .nominal else x.conf })
  else
    let s1 :=
      if -1024 ≤ e ∧ e ≤ 1024 then s.modIsl i (l l16 e false)
      else if e < -1024 then s.modIsl i (l true16 0 false)
      else s.modIsl i (l l16 0 true)
    (s1.modIsl i (fun l => { l with aligned := false, goodRun := 0 })).islandSlip i e

/-- How far an island's oscillator may depart from its run frequency in 1,024 ft: 0.1 %, in units of 1/16 ft (R44). -/
def maxDrift : Int := 16

/-- ISLAND_SYNC_MARK: an island sees a mark edge. `drift` is how far its oscillator carries its counter off over the next 1,024 ft, in units of
1/16 ft, and `err` the bits of the sync word that arrive wrong (R44, R62 to R64, R68). -/
def execIslandSyncMark (i : Fin 48) (drift : Int) (err : W64) (s : State) : Outcome :=
  if !s.time.running || !s.oscRuns i then .next s
  else
    let w := s.time.syncWord ^^^ err
    if bits w 0 8 != crc8 w then
      let s1 := (s.modIsl i (fun l => { l with missedRun := l.missedRun + 1 })).bump (Off.FT_ISL_STATUS i) Fld.FT_ISL_STATUS.MISSED_MARKS
      if 2 ≤ (s1.islAt i).missedRun ∧ (s1.islAt i).takeNext = false then .next (s1.islandSlip i 0) else .next s1
    else
      let true16 := bits w 10 54 * 1024 * 16 + s.fld (Off.FT_ISL_DELAY i) Fld.FT_ISL_DELAY.TREE_DELAY
      let dr := max (-maxDrift) (min maxDrift drift)
      let s1 := s.modIsl i (fun l => { l with fabConf := Conf.ofCode (bits w 8 2), missedRun := 0, lastMark := bits w 10 54 })
      if (s1.islAt i).takeNext then .next (s1.takeLocalTime i true16 dr)
      else
        let l16 := s1.local16 i
        let e : Int := (l16 : Int) - true16
        .next ((s1.setFld (Off.FT_ISL_STATUS i) Fld.FT_ISL_STATUS.PHASE_ERR (unsigned 16 e)).disciplineIsland i e l16 true16 dr)

/-- LOCAL_TIME_COUNTER_RESUME: true time reaches a held counter's value and the counter resumes (R63). -/
def execLocalTimeCounterResume (i : Fin 48) (s : State) : Outcome :=
  let l := s.islAt i
  if l.held && !l.takeNext && decide (l.base ≤ l.tru + 16 * (s.uptime - l.since)) then
    .next (s.modIsl i (fun l => { l with held := false, since := s.uptime, corr := 0, tru := l.base }))
  else .next s

/-! ### The drift monitor -/

/-- The median of three rates (chapter 2, Time confidence). -/
def median3 (a b c : Int) : Int := max (min a b) (min (max a b) c)

/-- A reference after a boundary: its drift, and four good epochs in a row make it usable again (R57, R69). -/
def Ref.atBoundary (r : Ref) (d : Int) : Ref :=
  let ok := r.okNow && !r.errNow && decide (d.natAbs ≤ 320)
  let g := if ok then r.good + 1 else 0
  { r with drift := d, good := min g 4, lost := r.lost && decide (g < 4), out := r.out && decide (g < 4), okNow := false }

/-- The deciding row of R69 at a boundary. A return to NOMINAL asks at each of the 4 boundaries for a drift of at most 10 ppm, a phase error
of at most 3 ft still to be removed, and no mark error since the boundary before (log entry 47). -/
def State.driftDecide (s : State) : State :=
  let t := s.time
  let sel := t.ref t.selB
  let oth := t.ref (!t.selB)
  match t.conf with
  | .unset => s
  | .holdover =>
    if 4 ≤ t.refA.good then
      (s.modTime (fun t => { t with conf := .degraded, goodEpochs := 0, switchTo := some false })).reportTime .TIME_NOMINAL t.refA.drift
    else if 4 ≤ t.refB.good then
      (s.modTime (fun t => { t with conf := .degraded, goodEpochs := 0, switchTo := some true })).reportTime .TIME_NOMINAL t.refB.drift
    else s.modTime (fun t => { t with goodEpochs := max t.refA.good t.refB.good })
  | c =>
    if !sel.usable && !oth.usable then s.leaveSelected
    else if !sel.usable then s.leaveSelected
    else if c = .nominal then
      if 320 < sel.drift.natAbs then
        (s.modTime (fun t => { t with conf := .degraded, goodEpochs := 0 })).reportTime .TIME_DEGRADED sel.drift
      else s
    else
      let q := decide (sel.drift.natAbs ≤ 160) && decide (t.slew.natAbs ≤ 240000) && !sel.errNow
      let g := if q then t.goodEpochs + 1 else 0
      if 4 ≤ g then
        (s.modTime (fun t => { t with conf := .nominal, goodEpochs := 4 })).reportTime .TIME_NOMINAL sel.drift
      else s.modTime (fun t => { t with goodEpochs := g })

/-- The last two rows of R69: each reports once per change of its condition. -/
def State.driftStandby (s : State) : State :=
  let b := !s.time.selB
  let r := s.time.ref b
  let unfit := r.lost || r.out || decide (320 < r.drift.natAbs)
  let s1 := s.modTime (fun t => t.setRef b { t.ref b with standby := unfit })
  let s2 := if unfit && !r.standby then s1.reportTime .TIME_REF_STANDBY r.drift else s1
  let bad := decide (1600 < s2.time.meanDrift.natAbs)
  let s3 := s2.modTime (fun t => { t with meanBad := bad })
  if bad && !s2.time.meanBad then s3.reportTime .REF_CLK_DRIFT s3.time.meanDrift else s3

/-- DRIFT_EVALUATION: the keeper's time has passed a time-epoch boundary. The monitor takes the median of the three rates as the standard, measures
in HOLDOVER each reference against the holdover oscillator instead, and evaluates the references; rates and drifts are in units of 1/16 ppm (R69, R71). -/
def execDriftEvaluation (rateA rateB rateMean holdA holdB : Int) (s : State) : Outcome :=
  if !s.time.running || decide (s.time.now / 2 ^ 20 ≤ s.time.boundary) then .next s
  else
    let std := median3 rateA rateB rateMean
    let driftA := if s.time.conf = .holdover then holdA else rateA - std
    let driftB := if s.time.conf = .holdover then holdB else rateB - std
    let s1 := s.modTime (fun t =>
      { t with refA := t.refA.atBoundary driftA, refB := t.refB.atBoundary driftB, meanDrift := rateMean - std,
               boundary := t.now / 2 ^ 20 })
    let s2 := s1.wr Off.FT_DRIFT (BitVec.ofNat 64 (unsigned 16 driftA * 2 ^ 48 + unsigned 16 driftB * 2 ^ 32 +
      unsigned 16 (rateMean - std) * 2 ^ 16 + s1.time.now / 2 ^ 20 % 2 ^ 16))
    let s3 := s2.driftDecide.driftStandby
    .next (s3.modTime (fun t => { t with refA := { t.refA with errNow := false }, refB := { t.refB with errNow := false } }))

/-! ### Island frequency and event crossings -/

/-- The next frequency of a move in steps of 25 MHz (R50). -/
def freqStep (cur run : Nat) : Nat := if cur < run then min run (cur + 25) else max run (cur - 25)

/-- ISLAND_FREQ_STEP: 16 ns of a move have passed and the island steps its frequency toward its run frequency (R50). -/
def execIslandFreqStep (i : Fin 48) (s : State) : Outcome :=
  let l := s.islAt i
  if l.moving then
    let c := freqStep l.curMhz l.runMhz
    .next (s.modIsl i (fun l => { l with curMhz := c, moving := c != l.runMhz }))
  else .next s

/-- Overrun flag of a side of an island: 0 local, 1 north, 2 east, 3 south, 4 west (FT_ISL_XING). -/
def ovrFld (side : Nat) : Fld :=
  if side = 0 then Fld.FT_ISL_XING.OVR_LOCAL else if side = 1 then Fld.FT_ISL_XING.OVR_N
  else if side = 2 then Fld.FT_ISL_XING.OVR_E else if side = 3 then Fld.FT_ISL_XING.OVR_S else Fld.FT_ISL_XING.OVR_W

/-- The output whose link lies beside the event crossing of a side of island i: tile and port (R19, R76). -/
def evFace (i side : Nat) : Nat × Nat :=
  let t := islandTile i
  if side = 1 then (t, 0) else if side = 2 then (t + 1, 1) else if side = 3 then (t + 12, 2) else (t, 3)

/-- The service, slice and link controller domains that have event crossings with island i: those that its oscillator clocks, and those whose
controllers lie beside its tiles (R23, R46, FT_ISL_XING). -/
def localDoms (i : Nat) : List Nat :=
  ((List.range 21).map (· + 48)).filter (fun d => clockIsland d == some i) ++
  ((List.range 2).map (· + 69)).filter (fun d => (islandTiles i).any (fun t => (List.range 4).any (fun p =>
    (portSeam t p).isSome && (if tileOnB t then 70 else 69) == d))) ++
  (if (islandTiles i).any (fun t => niType (tileL0 t) = .cla) then [71] else [])

/-- An event crossing exists on a side of an island: toward a neighbouring island of its die, or, for side 0, toward a domain of its own (R76). -/
def evExists (i side : Nat) : Bool :=
  if side = 0 then !(localDoms i).isEmpty else portCrosses (evFace i side).1 (evFace i side).2

/-- Event crossing k is out of reset: for a neighbouring island, the pairs of that side are released; toward a domain of the island, none of these is OFF (R81, R82). -/
def State.evReady (s : State) (k : Nat) : Bool :=
  let i := k / 5
  let side := k % 5
  if side = 0 then !s.allHeld && (localDoms i).all (fun d => (s.domAt d).st != .off)
  else !s.linkHeld (outKey (evFace i side).1 (evFace i side).2)

/-- Event crossing k delivers: it is out of reset and the receiving half has a running clock (R76, R83). -/
def State.evGoes (s : State) (k : Nat) : Bool :=
  let i := k / 5
  let side := k % 5
  s.evReady k && (if side = 0 then (localDoms i).all s.domOn else s.domOn (tileIsland (portPeer (evFace i side).1 (evFace i side).2)))

/-- EVENT_CROSSING_SEND: an event of island i reaches the sending half on a side, whose pair is out of reset; with three waiting it is lost, the
overrun flag is set, and its rise is reported (R76, R78, R83). -/
def execEventCrossingSend (i : Fin 48) (side : Fin 5) (s : State) : Outcome :=
  let k := i.val * 5 + side.val
  let e := KMap.get (fun _ => (⟨0⟩ : EvXing)) s.ev k
  if !s.runs i || !evExists i side || !s.evReady k then .next s
  else if e.waiting < 3 then .next { s with ev := KMap.set (fun _ => (⟨0⟩ : EvXing)) s.ev k ⟨e.waiting + 1⟩ }
  else
    let was := s.flag (Off.FT_ISL_XING i) (ovrFld side)
    let s1 := s.setFld (Off.FT_ISL_XING i) (ovrFld side) 1
    if was then .next s1 else .next (s1.reportIsl i .XING_OVERRUN 0)

/-- The keeper over one cycle of its 1 GHz clock: its rate is slewed by at most 200 ppm while a phase error remains, and its time never steps
nor decreases (R52, R71). -/
def Keeper.tick (t : Keeper) : Keeper :=
  if t.running then
    let step := max (-16) (min 16 t.slew)
    let x := ((t.frac + 80000 : Nat) - step : Int).toNat
    { t with now := t.now + x / 80000, frac := x % 80000, slew := t.slew - step }
  else t

/-- One cycle of the block's clocks: cycles count, the keeper's time advances once it runs, and each event crossing whose receiver
is clocked delivers one waiting event. Nothing else happens that a command does not bring about. -/
def State.tick (s : State) : State :=
  { s with uptime := s.uptime + 1,
           time := s.time.tick,
           ev := s.ev.filterMap (fun e => if !s.evGoes e.1 then some e else if e.2.waiting ≤ 1 then none else some (e.1, ⟨e.2.waiting - 1⟩)) }

end Sys2Proof.Machine
end

