-- ==== Sys2Proof/Machine/Kettle.lean ====
section
/-! DEFINITION. The Kettle and its die-B companion: resting states, lowering and raising of the power domains, failures, the side channel
(R487 to R503). -/
namespace Sys2Proof.Machine

/-! ### Reading the domains -/

/-- The state with the Kettle changed. -/
def State.modKt (s : State) (f : Kettle → Kettle) : State := { s with kt := f s.kt }

/-- REST of a domain (R488). -/
def State.restOf (s : State) (d : Nat) : DomSt := DomSt.ofCode (s.fld (Off.KT_DOM d) Fld.KT_DOM.REST)

/-- A GT name of a domain (R491). -/
def State.gtNamed (s : State) (d : Nat) : Bool :=
  if d < 64 then (s.rd Off.KT_GT_MASK_0).getLsbD d else (s.rd Off.KT_GT_MASK_1).getLsbD (d - 64)

/-- The domain that holds the unit of a window offset; none for what lies in AON, and for TREE_DELAY and MAX_STRETCH, which keep their values below ON
(R23, R569, R594, FT_ISL_FREQ). -/
def offDomain (o : Nat) : Option Nat :=
  if 0x8000 ≤ o ∧ o < 0xA000 then some 64
  else if 0x10000 ≤ o ∧ o < 0x18000 then some 2
  else if 0x18000 ≤ o ∧ o < 0x18800 then some 64
  else if 0x10C000 ≤ o ∧ o < 0x10CC00 ∧ o % 64 ≠ 16 ∧ o % 64 ≠ 8 then some ((o - 0x10C000) / 64)
  else if 0x200000 ≤ o ∧ o < 0x220000 then some 66
  else if 0x300000 ≤ o ∧ o < 0x380000 then some 65
  else if 0x400000 ≤ o ∧ o < 0x800000 then some 68
  else if 0x800000 ≤ o ∧ o < 0xB00000 then some (tileIsland ((o - 0x800000) / 0x4000))
  else if 0xDFB000 ≤ o ∧ o < 0xDFC000 then some 67
  else if 0xC00000 ≤ o ∧ o < 0xE00000 then some (niIsland ((o - 0xC00000) / 0x2000))
  else if 0xE00000 ≤ o ∧ o < 0xF00000 then some (48 + (o - 0xE00000) / 0x10000)
  else if 0x1000000 ≤ o ∧ o < 0x10C0000 then some (tileIsland ((o - 0x1000000) / 0x1000))
  else if 0x1400000 ≤ o ∧ o < 0x1500000 then some (niIsland ((o - 0x1400000) / 0x1000))
  else if 0x1800000 ≤ o ∧ o < 0x1840000 then some (48 + (o - 0x1800000) / 0x4000)
  else if 0x2000000 ≤ o ∧ o < 0x20E0000 then
    let k := (o - 0x2000000) / 0x8000
    if 12 ≤ k then some 71 else if (o - 0x2000000) / 0x4000 % 2 = 0 then some 69 else some 70
  else none

/-- NIs of an island. -/
def islandNis (i : Nat) : List Nat := (islandTiles i).flatMap tileNis

/-- Mesh ports of an island's neighbours that face it, on the same die: the outputs whose wake fences guard it (R140, R493). -/
def facing (i : Nat) : List (Nat × Nat) :=
  (islandTiles i).flatMap (fun t => (List.range 4).filterMap (fun p =>
    if portCrosses t p then some (portPeer t p, portBack p) else none))

/-- The link ends of a domain (R23). -/
def domainEnds (d : Nat) : List (Nat × Nat) :=
  if d = 69 then (List.range 12).map (fun k => (k, 0))
  else if d = 70 then (List.range 12).map (fun k => (k, 1))
  else (List.range 16).map (fun c => (12 + c, 0))

/-- A table word's section and NI, read from its key. -/
def keySec (k : Nat) : Nat := k / 2 ^ 23 % 16
/-- The NI of a table word's key. -/
def keyNi (k : Nat) : Nat := k / 2 ^ 28
/-- The bank of a table word's key. -/
def keyBank (k : Nat) : Nat := k / 2 ^ 27 % 2

/-- Some coherent window of a loaded image sends lines to slice h; a bank whose GL_EPOCH state is 0 holds none (R489). -/
def State.sliceNamed (s : State) (h : Nat) : Bool :=
  s.tab.any (fun e => s.fld Off.GL_EPOCH (if keyBank e.1 = 0 then Fld.GL_EPOCH.BANK0 else Fld.GL_EPOCH.BANK1) != 0 && keySec e.1 == Sec.ADDRMAP && e.1 % 2 == 0 && decide (bits e.2 60 4 = 1 ∨ bits e.2 60 4 = 2) &&
    bit (KMap.get (fun _ => 0) s.tab (e.1 + 1)) (48 + h))

/-- Some USED spare binding of slice h has no record in the ledger (R489). -/
def State.spareUnsaved (s : State) (h : Nat) : Bool :=
  (s.sliceAt h).spTag0.any (fun e => bit e.2 63 && !bit e.2 62 &&
    !s.pot.ledger.recs.any (fun r => bits r.1 60 4 == 1 && bits r.1 56 4 == h && bits r.1 42 14 == bits e.2 46 14 &&
      bits r.1 38 4 == bits e.2 42 4 && bits r.1 32 6 == e.1))

/-- The further conditions that OFF asks of a domain; an open leaf record counts as an open tag (R489, R545). -/
def State.mayOff (s : State) (d : Nat) : Bool :=
  if d < 48 then
    (islandNis d).all (fun n => (s.niAt n).tags.all (fun e => e.2.st == .free) && (s.niAt n).leaf.recs.isEmpty && (s.niAt n).txFree == 1024)
  else if d < 64 then
    let x := s.sliceAt (d - 48)
    x.ent.all (fun e => !entryUsed e.2) && x.spEnt.all (fun e => !entryUsed e.2) && !s.spareUnsaved (d - 48) && !s.sliceNamed (d - 48)
  else if d = 64 ∨ d = 65 then false
  else if d = 66 then !s.st.wasLocked
  else true

/-- An NI has nothing queued, in progress or received (R489). -/
def Ni.quiet (u : Ni) : Bool :=
  u.mgt.isEmpty && u.p2.isEmpty && u.p1.isEmpty && u.p0.isEmpty && u.flows.all (fun e => e.2.q.isEmpty) && u.heldFaults.isEmpty &&
  u.inj.isEmpty && u.rx.all (fun e => e.2.isEmpty) && u.inbox.isEmpty && u.answers.isEmpty && u.wait.isEmpty && u.strain.held.isEmpty &&
  u.fences.isEmpty && u.leaf.stamps.isEmpty && u.leaf.arrived.isEmpty

/-- The outputs of an island whose next unit lies across a stream crossing or in a seam controller: tile and port (R79, R144). -/
def leaving (i : Nat) : List (Nat × Nat) :=
  (islandTiles i).flatMap (fun t => (List.range 4).filterMap (fun p => if portCrosses t p || (portSeam t p).isSome then some (t, p) else none))

/-- The event crossings of an island: its own sides, and those of its neighbours that face it. -/
def islandEvents (i : Nat) : List Nat :=
  (List.range 5).map (· + 5 * i) ++ (facing i).map (fun e => 5 * tileIsland e.1 + e.2 + 1)

/-- Every crossing of an island is empty: flits and credit words of its stream crossings in both directions, and events (R84, R489). -/
def State.xingsEmpty (s : State) (i : Nat) : Bool :=
  (facing i ++ leaving i).all (fun e => let k := outKey e.1 e.2
    (s.wireAt k).isEmpty && (s.creditWords k).isEmpty) &&
  (islandEvents i).all (fun k => (KMap.get (fun _ => (⟨0⟩ : EvXing)) s.ev k).waiting == 0)

/-- A domain is idle (R489). -/
def State.domIdle (s : State) (d : Nat) : Bool :=
  if d < 48 then
    (islandTiles d).all (fun t =>
      let r := s.rtAt t
      r.lanes.all (fun e => e.2.isEmpty) && r.prog.all (fun e => e.2.isNone) && r.wakePend.all (fun e => !e.2) &&
      (List.range 6).all (fun p => (s.wireAt (t * 8 + p)).isEmpty)) &&
    (islandNis d).all (fun n => (s.niAt n).quiet && (s.wireAt (niKey n)).isEmpty) &&
    s.xingsEmpty d
  else if d < 64 then
    let x := s.sliceAt (d - 48)
    x.recs.isEmpty && x.waits.isEmpty && x.maint.isEmpty && x.cur.isNone && (s.niAt (sliceNi (d - 48))).inbox.isEmpty
  else if d = 64 then
    s.pot.cmds.isEmpty && (List.range 16).all (fun r => s.fld (Off.PT_RING_STATE r) Fld.PT_RING_STATE.STATE != 1) &&
      (s.niAt 248).inbox.isEmpty
  else if d = 65 then s.sc.queue.isEmpty && (s.niAt 249).inbox.isEmpty
  else if d = 66 then s.st.phase == .idle && s.st.retries.isEmpty && !((List.range 4).any (fun k => s.rd (Off.ST_STALE k) != 0))
  else if d = 67 then s.pot.snapT.all (fun t => decide (t ≤ s.time.now)) && (s.niAt 253).inbox.isEmpty
  else if d = 68 then
    s.sb.order.isEmpty && s.sb.open'.isEmpty && s.sb.lock.isNone && s.sb.poll.isNone && (s.niAt 254).inbox.isEmpty && (s.niAt 255).inbox.isEmpty
  else (domainEnds d).all (fun e => (s.lkAt e.1 e.2).st == .down || (s.lkAt e.1 e.2).st == .lost)

/-! ### Crossings and neighbour states -/

/-- A domain's clock runs (R82). -/
def State.clockRuns (s : State) (d : Nat) : Bool :=
  let x := s.domAt d
  match x.st, x.phase with
  | .on, _ => true
  | .cg, _ => true
  | .ret, .wake => true
  | .off, .reload => true
  | _, _ => false

/-- What an output of tile t is told of its neighbour: the state of the island it faces, or of the seam link (R140 to R143, R367). -/
def State.neighbour (s : State) (t p : Nat) : Nbr :=
  match portSeam t p with
  | some k =>
    match (s.lkAt k (seamEnd t)).st with
    | .inService => .on
    | .pre => .on
    | .paused => .paused
    | _ => .unreach
  | none =>
    let x := s.domAt (portDomain t p)
    if x.failed then .unreach else if x.st = .on then .on else .asleep

/-- The Kettle gives the outputs that face a domain their neighbour state (R495). -/
def State.tellFacing (s : State) (d : Nat) (st : Nbr) : State :=
  if d < 48 then (facing d).foldl (fun s e => s.sendNbr e.1 e.2 st) s else s

/-- The events of crossings that are reset are dropped (R81). -/
def State.dropEvents (s : State) (own : Nat → Bool) : State := { s with ev := KMap.drop own s.ev }

/-- A link's crossing pair is cleared: flits, credits and credit counts (R81, R143). -/
def State.clearLink (s : State) (k : Nat) : State :=
  let s1 := { (s.setFlips k []).setWire k [] with cwire := KMap.set (fun _ => []) s.cwire k [] }
  (List.range 8).foldl (fun s v =>
    (((s.setUsed k v false 0).setUsed k v true 0).setOwed k v false 0).setOwed k v true 0) s1

/-- The link ends on the tiles and CLA NIs of an island (R144). -/
def islandEnds (i : Nat) : List (Nat × Nat) :=
  (List.range 28).flatMap (fun k => (List.range 2).filterMap (fun e =>
    if lkEnd k e && (if lkSeam k then tileIsland (lkTile k e) else niIsland (lkCla k)) == i then some (k, e) else none))

/-- The link ends that are reset with a link controller domain: both halves of every seam link, for the halves are reset together (R81, R85). -/
def pairEnds (d : Nat) : List (Nat × Nat) :=
  if d = 71 then domainEnds 71 else (List.range 24).map (fun j => (j / 2, j % 2))

/-- The link ends whose crossing pairs a domain takes part in. -/
def domPairEnds (d : Nat) : List (Nat × Nat) := if d < 48 then islandEnds d else if 69 ≤ d then pairEnds d else []

/-- Both keys of a pair are held in reset, or released. -/
def State.setHeld (s : State) (a b : Nat) (v : Bool) : State :=
  { s with held := KMap.set (fun _ => false) (KMap.set (fun _ => false) s.held a v) b v }

/-- Both halves of the pairs between a domain and its neighbours are put in reset: between an island and its neighbours, and between an island and
the link controllers on it (R81, R82, R499). -/
def State.holdPairs (s : State) (d : Nat) : State :=
  let s1 := (if d < 48 then facing d else []).foldl (fun s e =>
    let a := portPeer e.1 e.2 * 8 + portBack e.2
    let b := e.1 * 8 + e.2
    ((s.clearLink a).clearLink b).setHeld a b true) s
  (domPairEnds d).foldl (fun s e => ((s.clearLink (lkTx e.1 e.2)).clearLink (lkRx e.1 e.2)).setHeld (lkTx e.1 e.2) (lkRx e.1 e.2) true) s1

/-- The clocks of a link end's crossing run: its controller's, the other half's of a seam link, and its island's (R82, R85). -/
def State.endClocks (s : State) (k e : Nat) : Bool :=
  (if lkSeam k then s.clockRuns 69 && s.clockRuns 70 && s.clockRuns (tileIsland (lkTile k e))
   else s.clockRuns 71 && s.clockRuns (niIsland (lkCla k)))

/-- The pairs of a domain whose two halves have running clocks are released; a link end goes on from there (R82, R83, R368). -/
def State.releasePairs (s : State) (d : Nat) : State :=
  let s1 := (if d < 48 then facing d else []).foldl (fun s e =>
    if s.clockRuns (tileIsland e.1) && s.clockRuns d then s.setHeld (portPeer e.1 e.2 * 8 + portBack e.2) (e.1 * 8 + e.2) false else s) s
  (domPairEnds d).foldl (fun s e =>
    if s.endClocks e.1 e.2 && s.linkHeld (lkTx e.1 e.2) then ((s.setHeld (lkTx e.1 e.2) (lkRx e.1 e.2) false).lkAsk e.1 e.2).lkDrain e.1 e.2 4096 else s) s1

/-- The oscillator of an island stops and its local time is lost (R68). -/
def Island.stopped (l : Island) : Island := { l with held := true, base := 0, corr := 0, aligned := false, takeNext := true, conf := .unset, goodRun := 0, missedRun := 0 }

/-- The event crossings into service, slice or link controller domain d (R81). -/
def localEvents (d : Nat) (k : Nat) : Bool := k % 5 == 0 && (localDoms (k / 5)).contains d

/-- The crossing between a link end and its router or CLA is cleared with its controller half (R81). -/
def State.clearEnd (s : State) (k e : Nat) : State := (s.clearLink (lkTx k e)).clearLink (lkRx k e)

/-- Everything a domain's units hold is lost (R487); FENCE_HW is kept, which only a rejoin clears (R569); the always-on part keeps the input lines and held events of the bridge (R417). -/
def State.loseUnits (s : State) (d : Nat) : State :=
  let own := fun o => offDomain o == some d
  let s1 := { s with
    regs := KMap.drop own s.regs
    pend := KMap.drop own s.pend
    latch := KMap.drop own s.latch
    dbgLatch := KMap.drop own s.dbgLatch
    chk := KMap.drop own s.chk }
  if d < 48 then
    let nis := islandNis d
    let ours := fun k => nis.contains (keyNi k)
    let s2 := (islandTiles d).foldl (fun s t =>
      (List.range 6).foldl (fun s p => s.clearLink (t * 8 + p)) (s.setRt t Router.reset)) s1
    let s3 := nis.foldl (fun s n =>
      ((s.setNi n { Ni.reset n with fenceHw := (s.niAt n).fenceHw }).modPort n (fun x => { Port.reset with up := x.up, next := x.next })).clearLink (niKey n)) s2
    let s4 := (leaving d).foldl (fun s e => s.clearLink (outKey e.1 e.2)) s3
    (({ s4 with
      tab := KMap.drop ours s4.tab
      tabBad := KMap.drop ours s4.tabBad }).dropEvents (islandEvents d).contains).modIsl d (fun l => { Island.reset.stopped with since := l.since })
  else if d < 64 then (s1.setSlice (d - 48) { Slice.reset with taint := (s1.sliceAt (d - 48)).taint, told := (s1.sliceAt (d - 48)).told }).dropEvents (localEvents d)
  else if d = 64 then
    { s1 with pot := { s1.pot with cmds := s1.pot.cmds.filterMap (fun x => if x.src < 8 then some { x with started := true, res := some (4, []) } else none), rings := [], load := none, sw := none, oldSw := none, snapT := none, waitAll := none, overlay := [], restart := some none }, tr := Trace.reset }
  else if d = 65 then { s1 with sc := Saucer.reset }
  else if d = 66 then { s1 with st := { Strainer.reset with wasLocked := s1.st.wasLocked, gates := [] } }
  else if d = 67 then { s1 with pm := { Collector.reset with latched := s1.pm.latched, latchedFor := s1.pm.latchedFor } }
  else if d = 68 then { s1 with sb := { Bridge.reset with lines := s1.sb.lines, told := s1.sb.told, held := s1.sb.held, outLatch := some s.outLevels } }
  else ((pairEnds d).foldl (fun s e => (s.setLk e.1 e.2 Lk.reset).clearEnd e.1 e.2) s1).dropEvents (localEvents d)

/-! ### Reports and records -/

/-- The Kettle, or the companion for the failure of a die-B domain, reports through NI 251 and names the domain (R503, R505, R506). -/
def State.reportKt (s : State) (d : Nat) (k : FaultKind) : State :=
  s.reportUp 251 (if k = .KT_DOMAIN_FAIL ∧ domainOnB d = true then 8 else 5) k (d * 2 ^ 8)

/-- A POWER record, of the Kettle at port 2 or the companion at port 3 (R533, R534). -/
def State.recPower (s : State) (d : Nat) (dst : DomSt) (failed : Bool) : State :=
  let x := s.domAt d
  if (dst = .ret ∨ dst = .off ∨ x.st = .ret ∨ x.st = .off) || failed || s.flag Off.CD_CTRL Fld.CD_CTRL.LOG_CG then
    s.cdWrite (if domainOnB d then 3 else 2) Cd.POWER
      (d * 2 ^ 51 + x.st.code * 2 ^ 49 + dst.code * 2 ^ 47 + b2n (x.pendOn || x.wasPend) * 2 ^ 46 + b2n failed * 2 ^ 45 + x.cause * 2 ^ 43)
      (BitVec.ofNat 64 (min 65535 ((s.refTime - x.since) / 4))) 0
  else s

/-! ### Transitions -/

/-- A domain must be at CG or above: it is GT-named, or a load or a Strainer commit holds the domains (R315, R434, R490). -/
def State.needCg (s : State) (d : Nat) : Bool := s.gtNamed d || s.kt.loadHold || s.kt.winHold

/-- The Pot's domain is kept ON while fabric confidence is HOLDOVER: neither an idle interval nor a lowering under way takes it below (R74). -/
def State.potHeldOn (s : State) (d : Nat) : Bool := d == 64 && decide (s.time.conf = .holdover)

/-- Cause codes of a POWER record (R533). -/
def Cause.idle : Nat := 0
def Cause.rest : Nat := 1
def Cause.wake : Nat := 2
def Cause.name : Nat := 3

/-- The Kettle starts to raise a domain, to CG or to ON; from OFF a raise always passes through ON (R492, R495). -/
def State.startRaise (s : State) (d : Nat) (cg : Bool) (cause : Nat) (pended : Bool) : State :=
  s.modDom d (fun x =>
    let low := cg && x.st == .ret
    { x with
      phase := .wake, target := if low then .cg else .on, toCg := low, powered := false, pendOn := false
      cause := cause, wasPend := pended, since := s.refTime, stepAt := s.refTime })

/-- A raise to ON is wanted: it starts at once, is held as PENDING_ON while a lowering is under way, or continues one that was to stop at CG.
A failed domain drops it (R495, R496, R499). -/
def State.wantOn (s : State) (d cause : Nat) : State :=
  let x := s.domAt d
  if x.failed then s
  else
    match x.phase with
    | .steady => if x.st = .on then s else s.startRaise d false cause false
    | .wake => s.modDom d (fun x => { x with toCg := false, target := .on })
    | .reload => s
    | _ =>
      if x.pendOn then s
      else (s.modDom d (fun x => { x with pendOn := true })).bump (Off.KT_DOM_CNT d) Fld.KT_DOM_CNT.PENDED

/-- A domain in RET is raised to CG; one in OFF is raised where `off` holds (R315, R434, R492). -/
def State.wantCg (s : State) (d : Nat) (off : Bool) : State :=
  let x := s.domAt d
  if x.failed || x.phase != .steady then s
  else if x.st = .ret then s.startRaise d true Cause.name false
  else if x.st = .off ∧ off = true then s.startRaise d false Cause.name false
  else s

/-- Every domain in RET is raised to CG (R315, R434). -/
def State.raiseRets (s : State) : State := (List.range 72).foldl (fun s d => s.wantCg d false) s

/-- Step 3 of a lowering: every output whose next unit lies in the domain is asked to close its fence (R141, R493). -/
def State.askFences (s : State) (d : Nat) : State :=
  let l := if d < 48 then facing d else []
  let s1 := l.foldl (fun s e => (s.noteFence e.1 e.2).modRt e.1 (fun r => { r with closing := setPortFlag r.closing e.2 true })) s
  s1.modDom d (fun x => { x with phase := .fence, closes := l.map (fun e => e.1 * 8 + e.2), stepAt := s.refTime })

/-- A lowering starts: a commanded one stops admission and waits until the domain is idle, an automatic one closes the fences (R493). -/
def State.startLower (s : State) (d : Nat) (dst : DomSt) (commanded : Bool) : State :=
  let s1 := s.modDom d (fun x => { x with
    target := dst, phase := .stop, cause := if commanded then Cause.rest else Cause.idle, wasPend := false, since := s.refTime, stepAt := s.refTime })
  if commanded then s1 else s1.askFences d

/-- The state after R517's effects: FATAL, all four Lids, SC_STATUS.C4, and the Caddy grants only the C4 fault's own record. -/
def State.fatalEffects (s : State) : State :=
  let s1 := { s with pins := { s.pins with fatal := true } }
  let s2 := (s1.setFld Off.GL_LID_CTRL Fld.GL_LID_CTRL.SAUCER 15).setFld Off.SC_STATUS Fld.SC_STATUS.C4 1
  if s2.cd.frozen then s2 else s2.modCd (fun c => { c with freezing := true, byC4 := true })

/-- SAUCER_FAIL goes to the Caddy through NI 251: the record of the C4 fault that completes the freeze (R518, R536). -/
def State.saucerFail (s : State) : State :=
  let r := s.cdRec Cd.FAULT 0 (mkFault 251 5 .SAUCER_FAIL 4 (65 * 2 ^ 8)).word (BitVec.ofNat 64 (4 * 2 ^ 29))
  if s.cdC4 then s.modCd (fun c => c.setPort 1 { c.port 1 with buf := [r] }) else s

/-- A domain is declared failed: it goes to OFF with its pairs in reset, its neighbours see UNREACHABLE, and pending wakes are dropped. Domains 64
and 65 are first raised once more without a command (R499, R500, R518). -/
def State.domFail (s : State) (d : Nat) : State :=
  let x := s.domAt d
  let s1 := s.recPower d .off true
  let s2 := s1.wr Off.KT_FAIL_INFO (BitVec.ofNat 64 (d * 2 ^ 56 + x.phase.code * 2 ^ 52 + s.time.now % 2 ^ 48))
  let s3 := s2.loseUnits d
  let s4 := s3.holdPairs d
  let again := (d = 64 ∨ d = 65) ∧ x.tries = 0
  let s5 := s4.modDom d (fun x => { x with
    st := .off, target := .off, phase := .steady, failed := !decide again, pendOn := false, toCg := false, powered := false, closes := [], imaged := false
    tries := x.tries + 1 })
  let s6 := State.seamWatch { s5 with wakeQ := s5.wakeQ.filter (· != d) }
  if again then (s6.reportKt d .KT_DOMAIN_FAIL).startRaise d false Cause.wake false
  else
    let s7 := ((s6.tellFacing d .unreach).reportKt d .KT_DOMAIN_FAIL).drainRelief (if d < 48 then islandNis d else [])
    if d = 64 then s7.reportKt d .KT_POT_FAIL
    else if d = 65 then s7.fatalEffects.saucerFail
    else s7

/-- Key of a meter's RATE (b = 0) or BURST (b = 1) among the Pot's recorded register values: beyond the window (R464). -/
def meterKey (n m b : Nat) : Nat := 2 ^ 27 + n * 32 + m * 2 + b

/-- The domain of a recorded value's key. -/
def keyDomain (k : Nat) : Option Nat := if k < 2 ^ 26 then offDomain k else some (niIsland ((k - 2 ^ 27) / 32))

/-- A recorded register value is written and made active (R464, R497). -/
def State.applyReg (s : State) (k : Nat) (v : W64) : State :=
  if k < 2 ^ 26 then (s.wr k v).dropPend k
  else
    let i := k - 2 ^ 27
    s.modNi (i / 32) (fun u =>
      let m := i % 32 / 2
      let x := u.meter m
      let y := if i % 2 = 0 then { x with rate := v, pRate := v } else { x with burst := v, pBurst := v }
      u.setMeter m { y with tc := bits y.burst 0 24 * 16, tp := bits y.burst 24 24 * 16 })

/-- Values recorded for units of a domain are applied before it is reported ON (R464). -/
def State.applyDue (s : State) (own : Nat → Bool) : State :=
  let l := s.pot.due.filter (fun e => own e.1)
  let s1 := l.foldl (fun s e => match e.2 with
    | some v => s.applyReg e.1 v
    | none => s) s
  { s1 with pot := { s1.pot with due := KMap.drop own s1.pot.due } }

/-- Units whose domain has come to ON go on: held requests are admitted, the bridge sends its held events once its clock is there too
(R155, R417, R495). -/
def State.nowOn (s : State) (d : Nat) : State :=
  let s1 := if d < 48 then (islandNis d).foldl (fun s n => (s.admitHeld n).serveComps n ReadErr.clean) s else s
  let s2 := if (d = 68 ∨ clockIsland 68 = some d) ∧ s1.domOn 68 = true then s1.sbWoken else s1
  let s3 := if d = 64 ∧ s2.traceOn = true then { s2 with tr := { s2.tr with resync := some 1 } } else s2
  if s3.domIdle d then s3.modKt (fun k => { k with idleSince := KMap.set (fun _ => 0) k.idleSince d s.aonTime }) else s3

/-- A raise ends: the record, WAKES and LAST_WAKE, neighbour state ON, and the units go on. A raise to CG leaves the fences (R487, R495). -/
def State.raised (s : State) (d : Nat) : State :=
  let x := s.domAt d
  let dst : DomSt := if x.toCg then .cg else .on
  let s0 := s.snapRaise d x.st
  let s0 := if dst = .on ∧ x.st ≠ .cg then s0.applyDue (fun k => keyDomain k == some d) else s0
  let s1 := s0.recPower d dst false
  let s2 := State.seamWatch <| s1.modDom d (fun x => { x with
    st := dst, target := dst, phase := .steady, failed := false, toCg := false, powered := false, wasPend := false, tries := 0
    imaged := x.imaged && dst != .on
    busy := !s1.domIdle d })
  let s3 := if x.st = .ret then s2.releasePairs d else s2
  if dst = .on then
    let c := Off.KT_DOM_CNT d
    let s4 := (s3.bump c Fld.KT_DOM_CNT.WAKES).setFld c Fld.KT_DOM_CNT.LAST_WAKE (min 65535 ((s.refTime - x.since) / 4))
    let s5 := if d = 68 then (s4.modSb (fun b => { b with outLatch := none })).sbAwake else s4
    (s5.tellFacing d .on).nowOn d
  else s3

/-- WAKE_REQUEST: the Kettle receives the oldest wake request on its way and raises the domain, or holds it as PENDING_ON (R140, R155, R494 to R496). -/
def execWakeRequest (s : State) : Outcome :=
  match s.wakeQ with
  | [] => .next s
  | d :: rest => .next ({ s with wakeQ := rest }.wantOn d Cause.wake)

/-- DOMAIN_RAISE_DONE: a raise from CG or RET ends once the island is aligned; `ok` is false where the retention restore finds a state
check error (R495, R499). -/
def execDomainRaiseDone (d : Fin 72) (ok : Bool) (s : State) : Outcome :=
  let x := s.domAt d
  if x.phase = .wake ∧ (x.st = .cg ∨ x.st = .ret) then
    if x.st = .ret ∧ ok = false then .next (s.domFail d)
    else if x.st = .ret ∧ d.val < 48 ∧ (s.islAt d).takeNext = true then .next s
    else .next (s.raised d)
  else .next s

/-- DOMAIN_POWERED: a domain raised from OFF is powered and aligned; pairs whose partners run are released, its registers have their reset
values, its outputs learn their neighbours' states, and the Pot is told (R82, R495). -/
def execDomainPowered (d : Fin 72) (s : State) : Outcome :=
  let x := s.domAt d
  if x.phase = .wake ∧ x.st = .off ∧ ¬ (d.val < 48 ∧ (s.islAt d).takeNext = true) then
    let s1 := s.modDom d (fun x => { x with phase := .reload, powered := true, stepAt := s.refTime })
    if d.val < 48 then
      .next ((islandTiles d).foldl (fun s t => (List.range 4).foldl (fun s p =>
        if portCrosses t p then (s.giveNbr t p .asleep).sendNbr t p (s.neighbour t p)
        else if (portSeam t p).isSome then s.giveNbr t p (s.neighbour t p) else s.giveNbr t p .on) s) (s1.releasePairs d))
    else .next (s1.releasePairs d)
  else .next s

/-- IDLE_INTERVAL_END: a domain ON that has been idle for 2^IDLE_LOG2 ft starts an automatic lowering to its resting state, to CG at most while
it is held there (R488, R490, R493, R498). -/
def execIdleIntervalEnd (d : Fin 72) (s : State) : Outcome :=
  let x := s.domAt d
  let l := s.fld (Off.KT_DOM d) Fld.KT_DOM.IDLE_LOG2
  let span := 2 ^ (if 4 ≤ l ∧ l ≤ 24 then l else 24)
  let rest := s.restOf d
  let dst := if s.potHeldOn d then .on else if s.needCg d && rest != .on then .cg else rest
  if x.st = .on ∧ x.phase = .steady ∧ x.busy = false ∧ s.domIdle d = true ∧ dst ≠ .on ∧
      KMap.get (fun _ => 0) s.kt.idleSince d.val + span ≤ s.aonTime ∧ (dst = .off → s.mayOff d = true) then
    .next (s.startLower d dst false)
  else .next s

/-- DOMAIN_BUSY_CHANGE: the Kettle sees a unit's busy signal; the idle interval starts when it turns idle (R488, R489). -/
def execDomainBusyChange (d : Fin 72) (s : State) : Outcome :=
  let b := !s.domIdle d
  let s1 := s.modDom d (fun x => { x with busy := b })
  if !b && (s.domAt d).busy then .next (s1.modKt (fun k => { k with idleSince := KMap.set (fun _ => 0) k.idleSince d.val s.aonTime }))
  else .next s1

/-- The lowest REST that the Kettle lets a domain have (R490). -/
def State.lowestRest (s : State) (d : Nat) : DomSt :=
  if 69 ≤ d then (if s.domIdle d then (if s.needCg d then .cg else .off) else .on)
  else if s.potHeldOn d then .on
  else if s.needCg d then .cg
  else if d = 2 ∨ d = 64 ∨ d = 65 ∨ (d = 66 ∧ s.st.wasLocked = true) then .ret
  else if 48 ≤ d ∧ d < 64 ∧ ¬ (s.domIdle d = true ∧ s.mayOff d = true) then .ret
  else .off

/-- A write of REST: refused where it lowers REST below what R490 lets the domain have, else taken, and the raise or lowering that follows from
it starts or waits (R488, R490, R493, R495, R496, R499). -/
def State.writeRest (s : State) (d : Nat) (r : DomSt) : State :=
  let x := s.domAt d
  let low := s.lowestRest d
  if (s.restOf d).code < r.code ∧ low.code < r.code then
    (s.setFld (Off.KT_DOM d) Fld.KT_DOM.REFUSED 1).reportKt d .KT_REST_REFUSED
  else
    let s1 := s.setFld (Off.KT_DOM d) Fld.KT_DOM.REST r.code
    match x.phase with
    | .steady =>
      if x.failed then (if r = .on then s1.startRaise d false Cause.rest false else s1)
      else if r.code < x.st.code then s1.startRaise d false Cause.rest false
      else if x.st.code < r.code then s1.startLower d r true
      else s1
    | .wake => if r = .on then s1.wantOn d Cause.rest else s1
    | .reload => s1
    | _ => if r = .on then s1.wantOn d Cause.rest else s1

/-- KT_REST_WRITE: a write of KT_DOM_d.REST (R490). -/
def execKtRestWrite (d : Fin 72) (rest : Fin 4) (s : State) : Outcome := .next (s.writeRest d (DomSt.ofCode rest))

/-- A GT mask is written: a newly named domain whose REST is RET or OFF gets REST CG and is raised to CG (R492). -/
def State.writeGtMask (s : State) (k : Nat) (mask : W64) : State :=
  let o := if k = 0 then Off.KT_GT_MASK_0 else Off.KT_GT_MASK_1
  let m := if k = 0 then mask else mask &&& 0xFF#64
  let news := (List.range 64).filter (fun b => m.getLsbD b && !(s.rd o).getLsbD b)
  news.foldl (fun s b =>
    let d := 64 * k + b
    if 2 ≤ (s.restOf d).code then
      ((s.setFld (Off.KT_DOM d) Fld.KT_DOM.REST 1).wantCg d true).reportKt d .KT_GT_RAISE
    else s) (s.wr o m)

/-- KT_GT_MASK_WRITE: a write of the GT masks (R491, R492). -/
def execKtGtMaskWrite (k : Fin 2) (mask : W64) (s : State) : Outcome := .next (s.writeGtMask k mask)

/-- Every open leaf record of an island's NIs closes as INCOMPLETE (R545). -/
def State.cutLeaves (s : State) (i : Nat) : State :=
  (islandNis i).foldl (fun s n => (s.niAt n).leaf.recs.foldl (fun s e => match e.2 with
    | some r => s.cutLeaf n e.1 r
    | none => s) s) s

/-- LOWER_DRAIN_DONE: on the way to OFF the open leaf records of an island first close and are sent; the domain being lowered is idle, with the further
conditions of OFF, and its fences are asked to close (R493, R545). -/
def execLowerDrainDone (d : Fin 72) (s : State) : Outcome :=
  let x := s.domAt d
  if (x.phase = .stop ∨ x.phase = .drain) ∧ x.target = .off ∧ d.val < 48 ∧ (islandNis d).any (fun n => !(s.niAt n).leaf.recs.isEmpty) = true then
    .next ((s.modDom d (fun x => { x with phase := .drain })).cutLeaves d)
  else if (x.phase = .stop ∨ x.phase = .drain) ∧ s.domIdle d = true ∧ s.potHeldOn d = false ∧ (x.target = .off → s.mayOff d = true) then .next (s.askFences d)
  else if x.phase = .stop then .next (s.modDom d (fun x => { x with phase := .drain }))
  else .next s

/-- DOMAIN_FENCES_CLOSED: every fence has reported closed; the Kettle enters the target state. Before RET the units take their retention images, and
step 4 begins once their pushes have left the domain (R493, R562). -/
def execDomainFencesClosed (d : Fin 72) (s : State) : Outcome :=
  let x := s.domAt d
  let enter := fun (s : State) => s.modDom d (fun x => { x with phase := .enter, stepAt := s.refTime })
  if x.phase = .fence ∧ x.closes = [] ∧ s.potHeldOn d = false then
    if x.target = .ret ∧ d.val < 64 ∧ x.imaged = false then
      let s1 := s.takeImages d
      .next (if s1.domIdle d then enter s1 else s1)
    else if x.imaged = true ∧ s.domIdle d = false then .next s
    else .next (enter s)
  else .next s

/-- DOMAIN_LOWER_DONE: the domain reaches its target; its fences hold as neighbour state ASLEEP. Retention stops the island's oscillator; OFF puts
its pairs in reset and loses its contents. A held PENDING_ON, a REST above the state, or a need for CG raises it again (R487, R493, R496, R498). -/
def execDomainLowerDone (d : Fin 72) (s : State) : Outcome :=
  let x := s.domAt d
  if x.phase = .enter then
    let s1 := (s.recPower d x.target false).bump (Off.KT_DOM_CNT d) Fld.KT_DOM_CNT.LOWERINGS
    let s2 := if d.val = 64 ∧ 2 ≤ x.target.code ∧ s1.traceOn = true ∧ s1.tr.stopped = false then s1.traceStop 1 else s1
    let s3 := s2.modDom d (fun x => { x with st := x.target, phase := .steady, busy := false })
    let s4 := if x.target = .off then (s3.loseUnits d).holdPairs d
      else if x.target = .ret ∧ d.val < 48 then s3.modIsl d Island.stopped else s3
    let s5 := s4.tellFacing d .asleep
    if x.pendOn then .next (s5.startRaise d false Cause.wake true)
    else if (s5.restOf d).code < x.target.code then .next (s5.startRaise d false Cause.rest false)
    else if s5.needCg d then .next (s5.wantCg d (s5.gtNamed d))
    else .next s5
  else .next s

/-- Bounds of the steps of R495, in ns. -/
def Domain.bound (x : Domain) : Nat :=
  match x.phase, x.st with
  | .reload, _ => 150000
  | .wake, .off => 12000
  | .wake, .ret => 1500
  | .wake, .cg => 40
  | _, _ => 0

/-- DOMAIN_STEP_TIMEOUT: a step of a raise has taken more than four times its bound, and the domain is failed (R499). -/
def execDomainStepTimeout (d : Fin 72) (s : State) : Outcome :=
  let x := s.domAt d
  if (x.phase = .wake ∨ x.phase = .reload) ∧ x.stepAt + 4 * x.bound < s.refTime then .next (s.domFail d) else .next s

/-- SIDE_CHANNEL_MESSAGE: a message passes its check, or is sent again; eight failed attempts in a row lose the channel (R501). -/
def execSideChannelMessage (ok : Bool) (s : State) : Outcome :=
  if !s.kt.sideUp then .next s
  else if ok then .next (s.modKt (fun k => { k with sideRun := 0 }))
  else
    let run := s.kt.sideRun + 1
    let s1 := (s.bump Off.KT_SIDE Fld.KT_SIDE.RESENDS).setFld Off.KT_SIDE Fld.KT_SIDE.MAX_RUN
      (max (s.fld Off.KT_SIDE Fld.KT_SIDE.MAX_RUN) (min 255 run))
    let s2 := s1.modKt (fun k => { k with sideRun := run })
    if 8 ≤ run then .next ((s2.modKt (fun k => { k with sideUp := false })).reportUp 251 5 .KT_SIDE_CH_LOST 0) else .next s2

end Sys2Proof.Machine
end

