-- ==== Sys2Proof/Machine/Strainer.lean ====
section
/-! DEFINITION. The Strainer master: checking and committing the pending table, reloading stale shadows, the lock and the mode (R426 to R448). -/
namespace Sys2Proof.Machine

/-! ### The table -/

/-- The state with the master changed. -/
def State.modSt (s : State) (f : Strainer → Strainer) : State := { s with st := f s.st }

/-- Offsets of the pending table: regions, default map and TABLE_ID (R426, R432). -/
def tableOffset (o : Nat) : Bool := o == Off.ST_DEFMAP_CFG || o == Off.ST_DEFMAP_BOOT || o == Off.ST_TABLE_ID || decide (0x210000 ≤ o ∧ o < 0x220000)

/-- The pending table as a commit takes it, by ascending offset: each register of the table that differs from its reset value or has been written. -/
def State.pendingTable (s : State) : List (Nat × W64) :=
  let os := ((s.pend.map (·.1)) ++ (s.regs.map (·.1))).filter tableOffset
  os.foldl (fun m o => KMap.insert m o (s.pendOf o)) []

/-- A register of a table being committed. -/
def tableReg (l : List (Nat × W64)) (o : Nat) : W64 :=
  match l.find? (fun e => e.1 == o) with
  | some (_, w) => w
  | none => regReset o

/-- The valid entries of a table in ascending index: index and word 0 (R427). -/
def validRegions (l : List (Nat × W64)) : List (Nat × W64) :=
  (l.filter (fun e => decide (0x210000 ≤ e.1) && e.1 % 16 == 0 && bit e.2 63)).map (fun e => ((e.1 - 0x210000) / 16, e.2))

/-- SIZE_LOG2 of a region or window word. -/
def regionSize (w : W64) : Nat := bits w 54 6
/-- Base address of a region or window word. -/
def regionBase (w : W64) : Nat := bits w 12 40 * 2 ^ 12
/-- The base of a region is aligned to its size (R428). -/
def regionAligned (w : W64) : Bool := regionBase w % 2 ^ regionSize w == 0

/-- Two regions overlap: one contains the base of the other (R428). -/
def regionsOverlap (a b : W64) : Bool :=
  regionBase a / 2 ^ regionSize b == regionBase b / 2 ^ regionSize b || regionBase b / 2 ^ regionSize a == regionBase a / 2 ^ regionSize a

/-- The default-map registers are well-formed (R428). -/
def defmapOk (cfg boot : W64) : Bool :=
  if !bit boot 63 then true
  else
    let sz := regionSize boot
    let b := regionBase boot
    let c := bits cfg 26 26 * 2 ^ 26
    decide (12 ≤ sz ∧ sz ≤ 32) && regionAligned boot && !(bit cfg 63 && decide (b < c + 2 ^ 26 ∧ c < b + 2 ^ sz))

/-- What the CHECK phase finds: the RESULT code and the entries it records; none for a well-formed table (R434). -/
def checkTable (l : List (Nat × W64)) : Option (Nat × Nat × Nat) :=
  let es := validRegions l
  let badSize := fun w => !decide (12 ≤ regionSize w ∧ regionSize w ≤ 52)
  match es.find? (fun e => badSize e.2 || !regionAligned e.2) with
  | some (k, w) => some (if badSize w then 4 else 3, k, 0)
  | none =>
    if !defmapOk (tableReg l Off.ST_DEFMAP_CFG) (tableReg l Off.ST_DEFMAP_BOOT) then some (5, 0, 0)
    else
      match es.find? (fun e => es.any (fun f => f.1 != e.1 && regionsOverlap e.2 f.2)) with
      | some (a, w) =>
        match es.find? (fun f => f.1 != a && regionsOverlap w f.2) with
        | some (b, _) => some (2, a, b)
        | none => none
      | none => none

/-! ### Shadows -/

/-- A shadow bank of NI n takes the region words of a table (R434, R435, R313). -/
def State.putShadow (s : State) (n bank : Nat) (l : List (Nat × W64)) : State :=
  let lo := tabKey n bank Sec.SHADOW 0 0
  let ours := fun k => decide (lo ≤ k ∧ k < lo + 8192)
  let s1 := { s with tab := KMap.drop ours s.tab, tabBad := KMap.drop ours s.tabBad, chk := KMap.drop (fun k => k / 65536 == n * 4 + 2 + bank) s.chk }
  l.foldl (fun s e => if 0x210000 ≤ e.1 then s.setTab n bank Sec.SHADOW 0 ((e.1 - 0x210000) / 8) e.2 else s) s1

/-- The active table as registers list it. -/
def State.activeTable (s : State) : List (Nat × W64) := s.regs.filter (fun e => decide (0x210000 ≤ e.1 ∧ e.1 < 0x220000))

/-- A table goes into an NI's active shadow bank, and into its inactive one when that bank is LOADED (R434). -/
def State.pushShadow (s : State) (n : Nat) (l : List (Nat × W64)) : State :=
  let b := (s.niAt n).ep.bank
  let s1 := s.putShadow n b l
  if s.rd (Off.NI_BANK_ID n (1 - b)) != 0 then s1.putShadow n (1 - b) l else s1

/-- GEN of the active table. -/
def State.stGen (s : State) : Nat := s.fld Off.ST_STATUS Fld.ST_STATUS.GEN

/-- The master reports through NI 252 (R448, R506). -/
def State.reportSt (s : State) (k : FaultKind) (what : Nat) : State := s.reportUp 252 5 k (what * 2 ^ 8)

/-- A write to a boot-only field after lock (R14, R441). -/
def State.lockedWrite (s : State) (o : Nat) : State := s.reportSt .ST_LOCKED_WRITE o

/-- The protection set-up is locked (R441). -/
def State.locked (s : State) : Bool := s.flag Off.ST_CTRL Fld.ST_CTRL.LOCK

/-- An epoch switch is pending, a bank is DRAINING, or a load runs (R440). -/
def State.epochBusy (s : State) : Bool := s.pot.sw.isSome || s.pot.load.isSome

/-! ### A commit -/

/-- The commit ends with a RESULT: the hold of domains is released and COMMIT clears (R434). -/
def State.endCommit (s : State) (result : Nat) : State :=
  (((s.setFld Off.ST_STATUS Fld.ST_STATUS.RESULT result).setFld Off.ST_STATUS Fld.ST_STATUS.DISABLED 0).setFld Off.ST_CTRL
    Fld.ST_CTRL.COMMIT 0).modKt (fun k => { k with winHold := false }) |>.modSt (fun x =>
      { x with phase := .idle, table := [], parts := [], crcBad := [], result := result })

/-- The window ends once every participating NI has been released: its length is recorded and ST_COMMIT_DONE reported (R434). -/
def State.endWindow (s : State) : State :=
  if s.st.phase = .release ∧ s.st.parts = [] then
    let len := min (2 ^ 32 - 1) (s.refTime - s.st.start)
    let s1 := (s.setFld Off.ST_WINDOW Fld.ST_WINDOW.LAST_NS len).setFld Off.ST_WINDOW Fld.ST_WINDOW.MAX_NS
      (max len (s.fld Off.ST_WINDOW Fld.ST_WINDOW.MAX_NS))
    (s1.endCommit 1).reportSt .ST_COMMIT_DONE 0
  else s

/-- A commit starts with CHECK; not while an epoch switch or a load is under way, and not while another runs (R434, R440). -/
def State.startCommit (s : State) : State :=
  if s.st.phase != .idle || s.epochBusy then s
  else (s.setFld Off.ST_CTRL Fld.ST_CTRL.COMMIT 1).modSt (fun x => { x with phase := .check, table := s.pendingTable, result := 0 })

/-- ST_COMMIT: ST_CTRL.COMMIT is written; after lock the write has no effect, and is reported unless COMMIT stands at 1 already (R434, R441). -/
def execStCommit (s : State) : Outcome :=
  if s.locked then .next (if s.flag Off.ST_CTRL Fld.ST_CTRL.COMMIT then s else s.lockedWrite Off.ST_CTRL) else .next s.startCommit

/-- ST_CHECK_END: a table that is not well-formed ends the commit; otherwise every domain in RET is raised (R434). -/
def execStCheckEnd (s : State) : Outcome :=
  if s.st.phase = .check then
    match checkTable s.st.table with
    | some (r, a, b) =>
      .next (((s.wr Off.ST_COMMIT_INFO (BitVec.ofNat 64 (b * 2 ^ 32 + a))).endCommit r).reportSt .ST_COMMIT_REFUSED a)
    | none => .next ((s.modKt (fun k => { k with winHold := true })).modSt (fun x => { x with phase := .raise })).raiseRets
  else .next s

/-- An NI takes part in a commit: its domain is at CG or above, and FENCE_HW is clear (R435). -/
def State.participates (s : State) (n : Nat) : Bool :=
  let d := s.domAt (niIsland n)
  (d.st == .on || d.st == .cg) && !(s.niAt n).fenceHw

/-- Gate fields of a new protection table are written while the Strainer is disabled, and replace their entries of the BL store (R442, R443, R572). -/
def State.writeGates (s : State) : State :=
  let s1 := s.st.gates.foldl (fun s e => { s.wr e.1 e.2 with pot := { s.pot with bls := KMap.set (fun _ => none) s.pot.bls e.1 (some e.2) } }) s
  s1.modSt (fun x => { x with gates := [] })

/-- ST_RAISE_END: no domain is on its way up from RET and no shadow is being reloaded; NIs that do not participate are stale, the window opens
and HOLD is sent (R434, R435, R447). -/
def execStRaiseEnd (s : State) : Outcome :=
  if s.st.phase = .raise ∧ (List.range 72).all (fun d => !((s.domAt d).st == .ret && (s.domAt d).phase == .wake)) = true ∧
      (List.range 256).all (fun n => !(s.niAt n).strain.reloading) = true then
    let parts := (List.range 256).filter s.participates
    let s1 := ((List.range 256).filter (fun n => !s.participates n)).foldl (fun s n => s.markStale n) s
    .next ((s1.setFld Off.ST_STATUS Fld.ST_STATUS.DISABLED 1).modSt (fun x => { x with phase := .hold, start := s.refTime, parts := parts, crcBad := [] })).writeGates
  else .next s

/-- ST_HOLD: HOLD reaches a participating NI, which holds every request whose check has not begun, and acknowledges (R434, R436). -/
def execStHold (n : Fin 256) (s : State) : Outcome :=
  if s.st.phase = .hold ∧ n.val ∈ s.st.parts then
    .next (s.modNi n (fun u => { u with strain := { u.strain with hold := true, acked := true } }))
  else .next s

/-- ST_HOLD_DONE: every participating NI has acknowledged, and the master pushes the table (R434). -/
def execStHoldDone (s : State) : Outcome :=
  if s.st.phase = .hold ∧ s.st.parts.all (fun n => (s.niAt n).strain.acked) = true then .next (s.modSt (fun x => { x with phase := .push })) else .next s

/-- ST_PUSH_END: each participating NI has written its shadow; `bad` are those whose CRC failed. The pending table becomes active, GEN rises, and
RELEASE is sent. An uncorrectable word of the master's tables reaches no NI and is reported (R434, R439). -/
def execStPushEnd (bad : List (Fin 256)) (ue : Bool) (s : State) : Outcome :=
  if s.st.phase = .push then
    let l := s.st.table
    let failed := if ue then s.st.parts else s.st.parts.filter (fun n => bad.any (fun b => b.val == n))
    let s1 := (s.st.parts.filter (fun n => !failed.contains n)).foldl (fun s n => s.pushShadow n l) s
    let s2 := l.foldl (fun s e =>
      let s1 := s.wr e.1 e.2
      if s1.pendOf e.1 == e.2 then s1.dropPend e.1 else s1) s1
    let s3 := (s2.setFld Off.ST_STATUS Fld.ST_STATUS.GEN ((s.stGen + 1) % 2 ^ 32)).modSt (fun x => { x with phase := .release, crcBad := failed })
    .next (if ue then s3.reportSt .ST_MASTER_UE 0 else s3)
  else .next s

/-- ST_RELEASE: RELEASE reaches a participating NI whose CRC matched; it takes the new GEN and its held requests are checked (R434, R436). -/
def execStRelease (n : Fin 256) (s : State) : Outcome :=
  if s.st.phase = .release ∧ n.val ∈ s.st.parts ∧ n.val ∉ s.st.crcBad then
    let s1 := s.modNi n (fun u => { u with strain := { u.strain with hold := false, acked := false, gen := s.stGen } })
    let s2 := s1.modSt (fun x => { x with parts := x.parts.filter (· != n.val) })
    .next ((s2.checkHeld n).serveComps n ReadErr.clean).endWindow
  else .next s

/-- Participating NIs that RELEASE cannot reach become stale, and the others go on without them (R437). -/
def State.leaveParts (s : State) (l : List Nat) : State :=
  l.foldl (fun s n =>
    ((s.modNi n (fun u => { u with strain := { u.strain with hold := false, acked := false } })).markStale n).modSt (fun x =>
      { x with parts := x.parts.filter (· != n), crcBad := x.crcBad.filter (· != n), retryAt := KMap.set (fun _ => 0) x.retryAt n s.refTime })) s

/-- ST_WINDOW_LIMIT: 20 µs after HOLD began, NIs that have not acknowledged or whose CRC failed are reported by their lowest and marked stale;
RELEASE is completed for the others (R437). -/
def execStWindowLimit (s : State) : Outcome :=
  let late := if s.st.phase = .hold then s.st.parts.filter (fun n => !(s.niAt n).strain.acked)
    else if s.st.phase = .release then s.st.parts.filter s.st.crcBad.contains else []
  match late with
  | [] => .next s
  | n :: _ =>
    if s.st.start + 20000 ≤ s.refTime then .next (((s.reportSt .ST_WINDOW_OVERRUN n).leaveParts late).endWindow) else .next s

/-! ### Stale NIs -/

/-- ST_STALE is the master's own record of the NIs marked stale (R435). -/
def State.staleAt (s : State) (n : Nat) : Bool := (s.rd (Off.ST_STALE (n / 64))).getLsbD (n % 64)

/-- ST_STALE_RETRY: the master starts the reload of a stale NI it can reach; domain 66 is woken for it (R435, R437, R438). -/
def execStStaleRetry (n : Fin 256) (s : State) : Outcome :=
  if s.staleAt n && s.participates n && !(s.niAt n).strain.reloading && s.st.phase == .idle &&
      decide (KMap.get (fun _ => 0) s.st.retryAt n.val ≤ s.refTime) then
    if s.domOn 66 then .next (s.modNi n (fun u => { u with strain := { u.strain with reloading := true } }))
    else if s.wakeQ.contains 66 then .next s else .next (s.askWake 66)
  else .next s

/-- An NI has its shadow from the active table and the current GEN; it is no longer stale and its held requests are checked (R435). -/
def State.reloadShadow (s : State) (n : Nat) : State :=
  let s1 := (s.pushShadow n s.activeTable).modNi n (fun u => { u with strain := { u.strain with stale := false, reloading := false, gen := s.stGen } })
  let s2 := s1.wr (Off.ST_STALE (n / 64)) (s1.rd (Off.ST_STALE (n / 64)) &&& ~~~(BitVec.ofNat 64 (2 ^ (n % 64))))
  ((s2.modSt (fun x => { x with retries := KMap.set (fun _ => 0) x.retries n 0, retryAt := KMap.set (fun _ => 0) x.retryAt n 0 })).checkHeld n).serveComps n ReadErr.clean

/-- ST_SHADOW_RELOAD_DONE: a reload ends; a failed one is retried 20 µs later, and eight failures are reported (R435, R437). -/
def execStShadowReloadDone (n : Fin 256) (ok : Bool) (s : State) : Outcome :=
  if (s.niAt n).strain.reloading then
    if ok then .next (s.reloadShadow n)
    else
      let c := KMap.get (fun _ => 0) s.st.retries n.val + 1
      let s1 := (s.modNi n (fun u => { u with strain := { u.strain with reloading := false } })).modSt (fun x =>
        { x with retries := KMap.set (fun _ => 0) x.retries n.val c, retryAt := KMap.set (fun _ => 0) x.retryAt n.val (s.refTime + 20000) })
      .next (if c = 8 then s1.reportSt .ST_SHADOW_STALE n else s1)
  else .next s

/-! ### Lock and mode -/

/-- LOCK is set: MODE STARTUP or RECOVERY becomes SERVICE in the same cycle (R441). -/
def State.setLock (s : State) : State :=
  let m := s.fld Off.ST_CTRL Fld.ST_CTRL.MODE
  let s1 := (s.setFld Off.ST_CTRL Fld.ST_CTRL.LOCK 1).modSt (fun x => { x with wasLocked := true })
  if m = 1 ∨ m = 3 then s1.setFld Off.ST_CTRL Fld.ST_CTRL.MODE 0 else s1

/-- ST_LOCK_WRITE: 1 is written to ST_CTRL.LOCK (R441). -/
def execStLockWrite (s : State) : Outcome := .next s.setLock

/-- MODE is written: only while LOCK is 0, TEST only in test mode, RECOVERY never (R431, R441). -/
def State.writeMode (s : State) (m : Nat) : State :=
  if s.locked then (if m != s.fld Off.ST_CTRL Fld.ST_CTRL.MODE then s.lockedWrite Off.ST_CTRL else s)
  else if m = 3 ∨ (m = 2 ∧ s.pins.testMode = false) then s
  else s.setFld Off.ST_CTRL Fld.ST_CTRL.MODE m

/-- ST_MODE_WRITE: a write of ST_CTRL.MODE (R431). -/
def execStModeWrite (mode : Fin 4) (s : State) : Outcome := .next (s.writeMode mode)

end Sys2Proof.Machine
end

