-- ==== Sys2Proof/Machine/PotOps.lean ====
section
/-! DEFINITION. What the Pot's commands share: its requests and MGT messages, its reports and records, running commands and their results
(R449 to R454, R460, R486). -/
namespace Sys2Proof.Machine

/-- The state with the Pot changed. -/
def State.modPot (s : State) (f : Pot → Pot) : State := { s with pot := f s.pot }

/-! ### Identifiers of the Pot's requests at NI 248 -/

/-- Access of command issuer c. -/
def PotId.cmd (c : Nat) : Nat := 0x40000 + c
/-- Fetch of ring r. -/
def PotId.fetch (r : Nat) : Nat := 0x41000 + r
/-- Completion write of ring r. -/
def PotId.compl (r : Nat) : Nat := 0x42000 + r
/-- Status line write of ring r. -/
def PotId.line (r : Nat) : Nat := 0x43000 + r
/-- The FNC ahead of an interrupt of ring r. -/
def PotId.fnc (r : Nat) : Nat := 0x44000 + r
/-- Interrupt of ring r. -/
def PotId.ringIrq (r : Nat) : Nat := 0x45000 + r
/-- Interrupt of mailbox m. -/
def PotId.mbIrq (m : Nat) : Nat := 0x46000 + m
/-- Page j of a copy of records for command issuer c. -/
def PotId.copy (c : Nat) : Nat := 0x47000 + c

/-! ### Requests and messages -/

/-- Address of a window offset as NI 248 presents it: the boot decode puts the window at 0 (R159, R576, R593). -/
def State.cfgAddr (s : State) (o : Nat) : Nat :=
  (if (s.niAt 248).ep.boot then 0 else Config.cfgBase.toNat * 2 ^ 26) + o

/-- A request of the Pot: AGENT 0xFFF and PRIV 1; ORIGIN 1 toward host memory (R454). -/
def potReq (vn opcode line ident : Nat) (origin : Bool) (data : List Body) (pl : Line) : Req :=
  { vn := vn, opcode := opcode, agent := 0xFFF, priv := true, origin := origin, line := line, data := data, pl := pl, machine := none, ident := ident }

/-- The Pot presents a request at NI 248. -/
def State.potSend (s : State) (r : Req) : State := s.presentReq 248 r ReadErr.clean

/-- Byte enables of `size` bytes at an address within its line. -/
def bytesAt (addr size : Nat) : W64 := BitVec.ofNat 64 ((2 ^ size - 1) * 2 ^ (addr % 64))

/-- A write of `size` bytes of a value at an address (R103, R104). -/
def writeBody (addr size : Nat) (v : W64) : Body :=
  { poison := false, be := bytesAt addr size, data := BitVec.ofNat 512 (v.toNat % 2 ^ (8 * size) * 2 ^ (8 * (addr % 64))) }

/-- An interrupt: a PWR of 4 bytes (R461, R478). -/
def State.potIrq (s : State) (addr data ident : Nat) : State :=
  s.potSend (potReq Vn.IOP 1 (addr / 64) ident true [writeBody addr 4 (BitVec.ofNat 64 data)] 0)

/-- A line written by the Pot with WRI, all bytes enabled. -/
def State.potLine (s : State) (addr ident : Nat) (ws : List W64) : State :=
  s.potSend (potReq Vn.REQ 5 (addr / 64) ident true [⟨false, allBytes, lineOfWords ws⟩] (lineOfWords [0, allBytes]))

/-- An MGT message of a unit to an NI, words 2 on (R108). -/
def State.unitMgt (s : State) (n dest opcode : Nat) (ws : List W64) : State := s.handOver n dest (s.mgtPkt n opcode ws) none 0

/-- The oldest completion at an NI for an identifier, with the state that has taken it (R170). -/
def State.takeComp (s : State) (n ident : Nat) : Option (Completion × State) :=
  match (s.niAt n).comps.find? (fun c => c.ident == ident) with
  | some c => some (c, s.modNi n (fun u => { u with comps := u.comps.erase c }))
  | none => none

/-! ### Reports and records -/

/-- The Pot reports through NI 248: what the kind names, and the command opcode or mailbox (R486, R506). -/
def State.reportPot (s : State) (k : FaultKind) (what low : Nat) : State := s.reportUp 248 5 k (what % 2 ^ 31 * 2 ^ 8 + low % 256)

/-- An EPOCH record of the Pot at tray port 4 (R533, R534). -/
def State.recEpoch (s : State) (step number : Nat) (id : W64) (T : Nat) : State :=
  s.cdWrite 4 Cd.EPOCH (step * 2 ^ 55 + number % 4 * 2 ^ 48 + number % 2 ^ 32) id (BitVec.ofNat 64 T)

/-! ### Status codes and results -/

/-- Status codes of R450. -/
def Code.OK : Nat := 0
def Code.BUSY : Nat := 1
def Code.BAD_ARG : Nat := 2
def Code.DENIED : Nat := 3
def Code.TIMEOUT : Nat := 4
def Code.CANCELLED : Nat := 5
def Code.FENCED : Nat := 6
def Code.OVERLAP : Nat := 7
def Code.EPOCH_BUSY : Nat := 8

/-- The running command of an issuer. -/
def Pot.cmd (p : Pot) (c : Nat) : Option PotCmd := p.cmds.find? (fun x => x.src == c)

/-- The state with the running command of an issuer changed. -/
def State.modCmd (s : State) (c : Nat) (f : PotCmd → PotCmd) : State :=
  s.modPot (fun p => { p with cmds := p.cmds.map (fun x => if x.src = c then f x else x) })

/-- A command has come to its end: its status and results are known and COMMAND_END writes them (R450, R460). -/
def State.potDone (s : State) (c code : Nat) (rsp : List W64) : State :=
  s.modCmd c (fun x => if x.res.isSome then x else { x with started := true, res := some (code, rsp) })

/-- Word CMDk of a command. -/
def PotCmd.word (x : PotCmd) (k : Nat) : W64 := x.words.getD k 0
/-- OPCODE of a command (R449). -/
def PotCmd.op (x : PotCmd) : Nat := bits (x.word 0) 48 16

/-- The object a command acts on, as a class and a range of numbers; the mailbox form of RING_SETUP acts on no ring (R453, R471). -/
def PotCmd.object (x : PotCmd) : Option (Nat × Nat × Nat) :=
  let w := x.word 1
  let lo := bits w 0 8
  let hi := bits w 8 8
  let o := x.op
  if o = 0x20 then some (0, lo, hi) else if o = 0x21 then some (1, lo, hi) else if o = 0x22 then some (2, lo, hi)
  else if o = 0x41 ∨ o = 0x42 then some (3, lo, hi)
  else if o = 0x23 then (let u := bits w 0 2 * 256 + bits w 8 8; some (4, u, u))
  else if o = 0x30 then (let d := bits w 0 7; some (5, d, d))
  else if o = 0x32 then (let k := bits w 0 5; some (6, k, k))
  else if o = 0x50 ∧ bit w 8 = true then none
  else if 0x50 ≤ o ∧ o ≤ 0x53 then (let r := bits w 0 4; some (7, r, r))
  else none

/-- Two commands act on one object (R453). -/
def PotCmd.meets (x y : PotCmd) : Bool :=
  match x.object, y.object with
  | some (a, l, h), some (b, l', h') => a == b && decide (l ≤ h' ∧ l' ≤ h)
  | _, _ => false

/-- A command that has not started may start: no earlier command on its object still runs (R453). -/
def Pot.mayStart (p : Pot) (c : Nat) : Bool :=
  match p.cmd c with
  | some x => !x.started && x.res.isNone && !((p.cmds.takeWhile (fun y => y.src != c)).any (fun y => y.meets x))
  | none => false

/-- The command of issuer c runs, if it is there with this opcode and may start. -/
def State.runCmd (s : State) (c op : Nat) (k : PotCmd → State) : State :=
  match s.pot.cmd c with
  | some x => if x.op = op ∧ s.pot.mayStart c = true ∧ s.domOn 64 = true then k x else s
  | none => s

/-- The state with the command of an issuer marked as started. -/
def State.startCmd (s : State) (c : Nat) : State := s.modCmd c (fun x => { x with started := true })

/-! ### NI ranges -/

/-- NI range of CMD1 (R464). -/
def niRange (w : W64) : List Nat := ((List.range 256).drop (bits w 0 8)).take (bits w 8 8 + 1 - bits w 0 8)
/-- A range whose last NI lies below its first is refused (R464). -/
def rangeBad (w : W64) : Bool := decide (bits w 8 8 < bits w 0 8)

/-- An NI of a range is written at once (R464). -/
def State.writable (s : State) (n : Nat) : Bool :=
  let d := s.domAt (niIsland n)
  (d.st == .on || d.st == .cg) && !(s.niAt n).fenceHw

/-- Values that the Pot records for a unit and writes when its domain returns or it rejoins (R464, R497). -/
def State.fwNote (s : State) (l : List (Nat × W64)) : State :=
  s.modPot (fun p => { p with fwRec := l.foldl (fun m e => KMap.set (fun _ => none) m e.1 (some e.2)) p.fwRec })

/-- Values recorded for a unit that cannot be written at once (R464). -/
def State.fwDue (s : State) (l : List (Nat × W64)) : State :=
  s.modPot (fun p => { p with due := l.foldl (fun m e => KMap.set (fun _ => none) m e.1 (some e.2)) p.due })

/-- An NI-range command: the writable NIs are written at once, the values of the others are recorded, and FENCE_HW ends it with FENCED (R464). -/
def State.overRange (s : State) (c : Nat) (l : List Nat) (note : Nat → List (Nat × W64)) (f : State → Nat → State) (rsp1 : List W64) : State :=
  let now := l.filter s.writable
  let fenced := l.any (fun n => (s.niAt n).fenceHw)
  let s1 := l.foldl (fun s n => let s1 := s.fwNote (note n); if s.writable n then s1 else s1.fwDue (note n)) s
  (now.foldl f s1).potDone c (if fenced then Code.FENCED else Code.OK) (BitVec.ofNat 64 now.length :: rsp1)

end Sys2Proof.Machine
end

