-- ==== Sys2Proof/Machine/Epoch.lean ====
section
/-! DEFINITION. Table loads, sealing and epoch switches (R306 to R327). -/
namespace Sys2Proof.Machine

/-! ### Loading -/

/-- MOP of an MCTL message. -/
def Pkt.mop (p : Pkt) : Nat := bits (p.word 0) 56 8

/-- Where a table-load word is stored: an HSL NI's XLATE share is the agent map, and its ADDRMAP share goes on with its slice's memory map (R309, R314). -/
def loadPlace (n sec idx : Nat) : Nat × Nat :=
  if niType n = .hsl ∧ sec = Sec.XLATE then (Sec.AGENT, idx)
  else if niType n = .hsl ∧ sec = Sec.ADDRMAP ∧ 128 ≤ idx then (Sec.MEMMAP, idx - 128)
  else (sec, idx)

/-- A word written into a unit's bank; an unusable word becomes usable again (R314, R524). -/
def State.loadWord (s : State) (n bank sec part idx : Nat) (w : W64) : State :=
  let (sc, i) := loadPlace n sec idx
  let s1 := s.setTab n bank sc part i w
  { s1 with tabBad := KMap.set (fun _ => false) s1.tabBad (tabKey n bank sc part i) false }

/-- TABLE_LOAD: a unit writes the words of a table-load message into its bank, which is unsealed while it is being written (R314). -/
def execTableLoad (n : Fin 256) (s : State) : Outcome :=
  match s.takeIn n Vn.MGT (fun p => p.h.opcode.toNat == 6 && p.mop == 1) with
  | none => .next s
  | some (p, _, s1) =>
    let c := p.word 0
    let bank := bits c 51 1
    let ws := (List.range (bits c 48 3)).map (fun k => p.word (1 + k))
    let e := (s1.niAt n).ep
    let fresh := e.loading != some bank
    let s2 := (List.range ws.length).foldl (fun s k => s.loadWord n bank (bits c 52 4) (bits c 45 3) (bits c 0 32 + k) (ws.getD k 0)) s1
    let s3 := if fresh then s2.wr (Off.NI_BANK_ID n bank) 0 else s2
    .next (s3.modNi n (fun u => { u with ep := { u.ep with loading := some bank, loadCount := (if fresh then 0 else e.loadCount) + ws.length } }))

/-- BANK_SEAL: the unit records IMAGE_ID where the word counts agree, else zero, and reports (R314). -/
def execBankSeal (n : Fin 256) (s : State) : Outcome :=
  match s.takeIn n Vn.MGT (fun p => p.h.opcode.toNat == 6 && p.mop == 2) with
  | none => .next s
  | some (p, _, s1) =>
    let bank := bits (p.word 0) 51 1
    let e := (s1.niAt n).ep
    let count := if e.loading = some bank then e.loadCount else 0
    let s2 := s1.modNi n (fun u => { u with ep := { u.ep with loading := none, loadCount := 0 } })
    let note := fun (f : Load → Load) => s2.modPot (fun p => { p with load := p.load.map (fun l => if l.bank = bank then f l else l) })
    if (p.word 2).toNat = count then .next ((note (fun l => { l with good := l.good ++ [n.val] })).wr (Off.NI_BANK_ID n bank) (p.word 1))
    else
      let s3 := note (fun l => { l with bad := l.bad ++ [n.val] })
      .next ((s3.wr (Off.NI_BANK_ID n bank) 0).reportNi n .BANK_LOAD_ERR 0 0)

/-! ### The switch at an NI -/

/-- The image's service defaults: the VN priorities become active, the shapers are committed at the next refill boundary, and the meters at once, or are
refused (R295, R299, R310, R320). -/
def State.qosDefaults (s : State) (n bank : Nat) : State :=
  let w := fun i => s.tabW n bank Sec.QOS 0 i
  let s1 := (s.wr (Off.NI_PRI_MAP n) (setBits (w 0) 14 2 2)).modNi n (fun u => { u with shaperDefaults := some [w 2, w 3, w 4, w 5, w 1] })
  if !niHasMeter n then s1
  else if (List.range 16).any (fun m => meterBad (w (6 + 2 * m)) (w (7 + 2 * m))) then s1.meterRefused n
  else
    let s2 := (List.range 8).foldl (fun s k => (s.wr (Off.NI_METER_MATCH n k) (w (38 + k))).dropPend (Off.NI_METER_MATCH n k)) s1
    s2.modNi n (fun u => (List.range 16).foldl (fun v m =>
      v.setMeter m ({ v.meter m with pRate := w (6 + 2 * m), pBurst := w (7 + 2 * m) }).commit) u)

/-- The island controller takes the frequency plan entry of a bank: rising islands start to move, falling ones wait for DONE (R50, R320). -/
def State.freqPlan (s : State) (n bank : Nat) (now : Bool) : State :=
  let i := niIsland n
  if n = tileL0 (islandTile i) then
    let w := s.tabW n bank Sec.FREQ 0 0
    let run := bits w 16 16
    s.modIsl i (fun l => { l with
      runMhz := run, floorMhz := bits w 32 16
      moving := l.moving || decide (l.curMhz < run) || (now && decide (run < l.curMhz))
      fallWait := !now && decide (run < l.curMhz) })
  else s

/-- Packets in the flow queue of a flow whose entry changes go as P2 under the P3 shaper (R290). -/
def State.orphanFlows (s : State) (n old new : Nat) : State :=
  s.modNi n (fun u => (List.range 32).foldl (fun v f =>
    if s.tabW n old Sec.INJGATE 0 f = s.tabW n new Sec.INJGATE 0 f then v
    else
      let x := v.flow f
      v.setFlow f { x with
        q := x.q.map (fun e => { e with p := { e.p with h := { e.p.h with pri := 2 } } })
        due := false, missed := false, orphans := x.q.length }) u)

/-- Destinations whose selected route word differs between the banks (R183). -/
def State.changedRoutes (s : State) (n old new : Nat) : List Nat :=
  (List.range 256).filter (fun d => d != n && (s.selectRoute n old d).map (·.2) != (s.selectRoute n new d).map (·.2))

/-- An NI switches to a new epoch: its inactive bank becomes active and the old one drains; its router, home slice, port tables and island
controller change with it (R319, R320). -/
def State.switchNi (s : State) (n : Nat) : State :=
  let e := (s.niAt n).ep
  let new := 1 - e.bank
  let holds := s.changedRoutes n e.bank new
  let s1 := s.orphanFlows n e.bank new
  let s2 := s1.modNi n (fun u => { u with
    ep := { u.ep with
      bank := new, epoch := u.ep.armEpoch, oldEpoch := u.ep.epoch, draining := true, armed := false, holds := holds, reported := false
      sent := 0, recv := 0, sentOld := u.ep.sent % 2 ^ 16, recvOld := u.ep.recv % 2 ^ 16 } })
  let s3 := if niPort n = 4 then
      (s2.modRt (niTile n) (fun r => { r with unionOld := some (e.bank, e.armT) })).wr (Off.RT_EPOCH_DISC (niTile n)) 0
    else s2
  ((s3.qosDefaults n new).freqPlan n new false).demoteFlows n false

/-- The loss vector that start-up commits: all seam links, islands 24 to 47, bands 2 and 3 (R578). -/
def bootLoss : W64 := BitVec.ofNat 64 (0xC * 2 ^ 60 + 0xFFF * 2 ^ 48 + (2 ^ 48 - 2 ^ 24))

/-- The seam links in a loss vector (R161). -/
def seamLoss : W64 := BitVec.ofNat 64 (0xFFF * 2 ^ 48)

/-- A register of the route selection group as firmware last gave it to an NI (R464, R497). -/
def State.routesGiven (s : State) (n o : Nat) : W64 :=
  if s.writable n then s.rd o else (KMap.get (fun _ => none) s.pot.due o).getD (s.rd o)

/-- Firmware writes the loss vector and the port engines not to be used of an NI, keeps them in its record, and commits them (R163, R497). -/
def State.setRoutes (s : State) (n : Nat) (loss down : W64) : State :=
  (((s.fwNote [(Off.NI_LOSS n, loss), (Off.NI_PEA_DOWN n, down)]).setPend (Off.NI_LOSS n) loss).setPend (Off.NI_PEA_DOWN n) down).commitRoutes n

/-- The same of each of these NIs; one that cannot be written gets them when its domain returns or it rejoins (R164, R464). -/
def State.commitLoss (s : State) (l : List Nat) (loss down : W64 → W64) : State :=
  l.foldl (fun s n =>
    let a := loss (s.routesGiven n (Off.NI_LOSS n))
    let d := down (s.routesGiven n (Off.NI_PEA_DOWN n))
    let note := [(Off.NI_LOSS n, a), (Off.NI_PEA_DOWN n, d)]
    if s.writable n then s.setRoutes n a d else (s.fwNote note).fwDue note) s

/-- An NI leaves boot routes and the boot decode and uses bank 0; its island starts moving to its run frequency (R576, R578). -/
def State.activateBoot (s : State) (n : Nat) (loss : Option W64) : State :=
  let s1 := s.modNi n (fun u => { u with ep := { u.ep with boot := false, armed := false, bank := 0, epoch := 0 } })
  let s2 := match loss with
    | some l => s1.setRoutes n l (s1.rd (Off.NI_PEA_DOWN n))
    | none => s1
  ((s2.qosDefaults n 0).freqPlan n 0 true).demoteFlows n false

/-- Firmware shows where the apertures of the active image lie (R455, R567). -/
def State.noteApertures (s : State) : State :=
  let word := fun (o : Option Nat) => match o with
    | some a => BitVec.ofNat 64 (2 ^ 63 + a)
    | none => (0 : W64)
  let col := word (s.ioWindowOf 248 253 19)
  let s1 := (s.wr Off.PT_APERTURE (word (s.ioWindowOf 248 248 15))).fwNote [(Off.PM_COL_APERTURE, col)]
  if s1.domOn 67 then s1.wr Off.PM_COL_APERTURE col else s1.fwDue [(Off.PM_COL_APERTURE, col)]

/-- EPOCH_ARM: an NI receives an arming message and arms, or refuses with NOT_LOADED, BUSY or TOO_LATE; one that has already switched to the
epoch ignores it (R317 to R319, R324). -/
def execEpochArm (n : Fin 256) (s : State) : Outcome :=
  match s.takeIn n Vn.MGT (fun p => p.h.opcode.toNat == 3 && bits (p.word 1) 62 2 == 0) with
  | none => .next s
  | some (p, _, s1) =>
    let T := (p.word 0).toNat
    let new := bits (p.word 1) 0 2
    let e := (s1.niAt n).ep
    let bank := if e.boot then 0 else 1 - e.bank
    let answer := fun (s : State) (kind reason : Nat) =>
      s.unitMgt n 248 4 [BitVec.ofNat 64 (kind * 2 ^ 61 + new * 2 ^ 59 + reason * 2 ^ 56 + n * 2 ^ 48)]
    if !e.boot && e.draining && e.epoch == new then .next s1
    else if s1.rd (Off.NI_BANK_ID n bank) != p.word 2 || p.word 2 == 0 then .next (answer s1 2 1)
    else if e.armed then .next (answer s1 2 3)
    else if T ≤ s1.niTime n + 1024 then .next (answer s1 2 2)
    else
      .next (answer ((s1.wr (Off.NI_EPOCH_TIME n) (BitVec.ofNat 64 T)).modNi n (fun u =>
        { u with ep := { u.ep with armed := true, armEpoch := new, armT := T } })) 1 0)

/-- EPOCH_CANCEL: an NI receives CANCEL before T and disarms; from T on the switch comes first, and one that has already switched stays in the new epoch, answers SWITCHED and reports (R319, R324). -/
def execEpochCancel (n : Fin 256) (s : State) : Outcome :=
  match s.takeIn n Vn.MGT (fun p => p.h.opcode.toNat == 3 && bit (p.word 1) 63) with
  | none => .next s
  | some (p, _, s1) =>
    let new := bits (p.word 1) 0 2
    let e := (s1.niAt n).ep
    if e.armed && e.armEpoch == new && decide (e.armT ≤ s1.niTime n) then .next s
    else if e.armed && e.armEpoch == new then .next (s1.modNi n (fun u => { u with ep := { u.ep with armed := false } }))
    else if !e.boot && e.epoch == new then
      .next ((s1.unitMgt n 248 4 [BitVec.ofNat 64 (4 * 2 ^ 61 + new * 2 ^ 59 + n * 2 ^ 48)]).reportNi n .EPOCH_SPLIT new 0)
    else .next s1

/-- EPOCH_DONE_MESSAGE: an NI receives DONE: its holds are released, its old bank becomes EMPTY, and a falling island starts to move (R50, R183, R319). -/
def execEpochDoneMessage (n : Fin 256) (s : State) : Outcome :=
  match s.takeIn n Vn.MGT (fun p => p.h.opcode.toNat == 3 && !bit (p.word 1) 63 && bit (p.word 1) 62) with
  | none => .next s
  | some (p, _, s1) =>
    let e := (s1.niAt n).ep
    if e.draining && e.epoch == bits (p.word 1) 0 2 then
      let s2 := (s1.modNi n (fun u => { u with ep := { u.ep with draining := false, holds := [], reported := false } })).wr
        (Off.NI_BANK_ID n (1 - e.bank)) 0
      let i := niIsland n
      .next (if n.val = tileL0 (islandTile i) then
        s2.modIsl i (fun l => { l with moving := l.moving || l.fallWait, fallWait := false }) else s2)
    else .next s1

/-! ### Drain reports -/

/-- An NI is locally drained for its old epoch (R321). -/
def State.locallyDrained (s : State) (n : Nat) : Bool :=
  let u := s.niAt n
  let e := u.ep.oldEpoch
  let old := fun (p : Pkt) => p.h.epoch.toNat == e
  let queued := fun (q : List QPkt) => q.any (fun x => old x.p)
  u.tags.all (fun x => !((x.2.st == .opened || x.2.st == .retryWait) && (x.2.req.map old).getD false)) &&
  !queued u.mgt && !queued u.p2 && !queued u.p1 && !queued u.p0 && u.flows.all (fun f => !queued f.2.q) &&
  u.inj.all (fun x => !old x.2.2.1.p) && !u.answers.any (fun a => old a.p) && !u.unanswered.any (fun a => a.2.2 == e) &&
  (niType n != .hsl || (s.sliceAt (n - 232)).recs.all (fun t => t.epoch % 4 != e))

/-- RECV of an NI's drain report: arrivals of the old epoch, with those its router discarded where it is an L0 NI (R318). -/
def State.drainRecv (s : State) (n : Nat) : Nat :=
  ((s.niAt n).ep.recvOld + (if niPort n = 4 then s.fld (Off.RT_EPOCH_DISC (niTile n)) Fld.RT_EPOCH_DISC.OLD_IOP else 0)) % 2 ^ 16

/-- UNKN of an L0 NI's drain report (R318). -/
def State.drainUnkn (s : State) (n : Nat) : Nat :=
  if niPort n = 4 then s.fld (Off.RT_EPOCH_DISC (niTile n)) Fld.RT_EPOCH_DISC.UNKNOWN else 0

/-- NI_LOCAL_DRAINED: an NI that is locally drained sends DRAINED, and again when RECV or UNKN has changed, at most once per 1,024 ft (R319, R321). -/
def execNiLocalDrained (n : Fin 256) (s : State) : Outcome :=
  let e := (s.niAt n).ep
  let r := s.drainRecv n
  let k := s.drainUnkn n
  if e.draining && (if e.reported then (r != e.lastRecv || k != e.lastUnkn) && decide (e.repAt + 1024 ≤ s.niTime n) else s.locallyDrained n) then
    let w := 3 * 2 ^ 61 + e.oldEpoch * 2 ^ 59 + n * 2 ^ 48 + e.sentOld % 2 ^ 16 * 2 ^ 32 + r * 2 ^ 16 + k
    .next ((s.unitMgt n 248 4 [BitVec.ofNat 64 w]).modNi n (fun u =>
      { u with ep := { u.ep with reported := true, lastRecv := r, lastUnkn := k, repAt := s.niTime n } }))
  else .next s

/-! ### The switch at the Pot -/

/-- The state of a bank in GL_EPOCH: 0 EMPTY, 1 LOADED, 2 ACTIVE, 3 DRAINING. -/
def State.bankSt (s : State) (b : Nat) : Nat := s.fld Off.GL_EPOCH (if b = 0 then Fld.GL_EPOCH.BANK0 else Fld.GL_EPOCH.BANK1)
/-- A bank's state recorded in GL_EPOCH. -/
def State.setBankSt (s : State) (b v : Nat) : State := s.setFld Off.GL_EPOCH (if b = 0 then Fld.GL_EPOCH.BANK0 else Fld.GL_EPOCH.BANK1) v
/-- GL_EPOCH.STATE. -/
def State.setEpochSt (s : State) (v : Nat) : State := s.setFld Off.GL_EPOCH Fld.GL_EPOCH.STATE v
/-- The number of the active epoch. -/
def State.epochNum (s : State) : Nat := s.fld Off.GL_EPOCH Fld.GL_EPOCH.NUMBER

/-- The rejoin waits for its switch (R589). -/
def State.rejoinSwitch (s : State) : Bool := s.fld Off.GL_JOIN Fld.GL_JOIN.STATE == 5

/-- A fenced die-B NI takes part in the load and in the switch that a rejoin waits for (R589). -/
def State.rejoins (s : State) (n : Nat) : Bool :=
  let d := s.domAt (niIsland n)
  s.rejoinSwitch && niOnB n && (s.niAt n).fenceHw && (d.st == .on || d.st == .cg)

/-- NIs that participate in a switch: in a domain at CG or above, not fenced by hardware but for a rejoin, not of an island in NI 248's NI_LOSS
(R319, R589). -/
def State.switchParts (s : State) : List Nat :=
  (List.range 256).filter (fun n => (s.writable n || s.rejoins n) && !(s.loss 248).getLsbD (niIsland n))

/-- The seam links that the last join found lost, as NI_LOSS names them (R582). -/
def State.lostSeam (s : State) : W64 := BitVec.ofNat 64 ((4095 - s.fld Off.GL_JOIN Fld.GL_JOIN.LINKS_UP) * 2 ^ 48)

/-- At its local time T the companion clears a rejoining NI's FENCE_HW; when the Pot's NI has switched, the Pot has NI_LOSS committed in every die-A NI with
only the lost seam links set (R589). -/
def State.rejoinAt (s : State) (n : Nat) : State :=
  if !s.rejoinSwitch then s
  else
    let s1 := if niOnB n then { s.modNi n (fun u => { u with fenceHw := false }) with kt := { s.kt with dieBFenced := false } } else s
    if n = 248 then s1.commitLoss ((List.range 256).filter (fun m => !niOnB m)) (fun _ => s.lostSeam) id else s1

/-- DONE of the switch that a rejoin waits for: STATE becomes JOINED, with the record and the report (R589, R592). -/
def State.rejoinDone (s : State) (number T : Nat) : State :=
  if !s.rejoinSwitch then s
  else
    let s1 := (s.setFld Off.GL_JOIN Fld.GL_JOIN.STATE 2).setFld Off.GL_BOOT_TIME Fld.GL_BOOT_TIME.JOIN_US (min (2 ^ 32 - 1) ((s.refTime - s.pot.joinSince) / 1000))
    (s1.cdWrite 4 Cd.PARTITION (6 * 2 ^ 54 + (4095 - s.fld Off.GL_JOIN Fld.GL_JOIN.LINKS_UP) * 2 ^ 42) (BitVec.ofNat 64 number) (BitVec.ofNat 64 T)).reportPot
      .DIE_B_REJOIN 0 0

/-- The Pot sends an EPOCH message to an NI (R317). -/
def State.sendEpoch (s : State) (n T flags : Nat) (id : W64) : State :=
  s.unitMgt 248 n 3 [BitVec.ofNat 64 T, BitVec.ofNat 64 flags, id]

/-- The state with the switch under way changed. -/
def State.modSw (s : State) (f : Switch → Switch) : State := s.modPot (fun p => { p with sw := p.sw.map f })

/-- Latest report of an NI. -/
def Switch.rep (w : Switch) (n : Nat) : Option DrainRep := KMap.get (fun _ => none) w.reps n
/-- ΣSENT − ΣRECV modulo 2^16 over the participating NIs' reports (R322). -/
def Switch.balance (w : Switch) : Nat :=
  let rs := w.parts.filterMap w.rep
  (rs.foldl (fun a r => a + r.sent) 0 + 2 ^ 16 * 256 - rs.foldl (fun a r => a + r.recv) 0) % 2 ^ 16
/-- ΣUNKN, saturating (R322). -/
def Switch.unknown (w : Switch) : Nat := min 65535 ((w.parts.filterMap w.rep).foldl (fun a r => a + r.unkn) 0)
/-- Participating NIs not yet reported DRAINED. -/
def Switch.missing (w : Switch) : List Nat := w.parts.filter (fun n => (w.rep n).isNone)

/-- GL_EPOCH_DRAIN follows the reports. -/
def State.drainStatus (s : State) (w : Switch) : State :=
  s.wr Off.GL_EPOCH_DRAIN (BitVec.ofNat 64 (w.missing.headD 0 * 2 ^ 56 + w.missing.length * 2 ^ 39 + w.balance * 2 ^ 16 + w.unknown))

/-- The old epoch has drained (R322). -/
def Switch.drained (w : Switch) (now : Nat) : Bool :=
  w.missing.isEmpty && (decide (w.balance ≤ w.unknown) || (w.relief && decide (w.changed + 2 ^ 20 ≤ now)))

/-- GT-named domains of the image in a bank, as a 72-bit mask (R491): islands with a floor, home slices and ports of its flows, and what they cross. -/
def imageNames (m : KMap W64) (bank : Nat) : Nat :=
  let flows := (m.filter (fun e => keySec e.1 == Sec.INJGATE && keyBank e.1 == bank && decide (e.1 % 2 ^ 20 < 32) && bits e.2 62 2 == 1)).map
    (fun e => (keyNi e.1, bits e.2 40 8))
  let isl := (m.filter (fun e => keySec e.1 == Sec.FREQ && keyBank e.1 == bank && bits e.2 32 16 != 0)).map (fun e => bits e.2 0 8)
  let hs := flows.flatMap (fun f => [f.1, f.2].filterMap (fun n => if niType n = .hsl then some (48 + (n - 232)) else none))
  let svc := flows.filterMap (fun f =>
    if f.2 = 248 then some 64 else if f.2 = 249 then some 65 else if f.2 = 252 then some 66 else if f.2 = 253 then some 67
    else if f.2 = 254 ∨ f.2 = 255 then some 68 else none)
  let seam := if flows.any (fun f => bits (KMap.get (fun _ => 0) m (tabKey f.1 bank Sec.ROUTE 0 (f.2 * 8 + 2))) 48 12 != 0) then [69, 70] else []
  let cla := if flows.any (fun f => niType f.1 == .cla || niType f.2 == .cla) then [71] else []
  (isl ++ hs ++ svc ++ seam ++ cla).foldl (fun a d => a ||| 2 ^ d) 0

/-- The Pot writes the union of the names of every image in the banks into the GT masks (R491). -/
def State.writeNames (s : State) : State :=
  let m := (List.range 2).foldl (fun a b => if s.bankSt b = 0 then a else a ||| imageNames s.pot.img b) 0
  (s.writeGtMask 0 (BitVec.ofNat 64 m)).writeGtMask 1 (BitVec.ofNat 64 (m / 2 ^ 64))

/-- The switch is done: DONE goes to every participating NI, GL_EPOCH shows the new epoch and the old bank EMPTY, domains are no longer held, and
the names of the old image are dropped (R319, R315, R491). -/
def State.epochDone (s : State) (w : Switch) : State :=
  let old := 1 - w.number % 2
  let s1 := w.parts.foldl (fun s n => s.sendEpoch n w.T (2 ^ 62 + w.number % 4) 0) s
  let s2 := ((s1.setFld Off.GL_EPOCH Fld.GL_EPOCH.NUMBER w.number).setBankSt old 0).wr (Off.GL_BANK_ID old) 0
  let s3 := (s2.setEpochSt 0).setFld Off.GL_EPOCH Fld.GL_EPOCH.DRAIN_SLOW 0
  let s4 := (s3.modPot (fun p => { p with sw := none, oldSw := none })).modKt (fun k => { k with loadHold := false })
  (((s4.recEpoch 5 w.number w.id w.T).reportPot .EPOCH_DONE w.number 0).rejoinDone w.number w.T).writeNames

/-- The Pot looks whether the switch under way has drained (R322). -/
def State.tryDone (s : State) : State :=
  match s.pot.sw with
  | some w => if w.draining && w.drained s.time.now then s.epochDone w else s
  | none => s

/-- EPOCH_SWITCH: at local time T an armed NI switches, or leaves the boot routes for epoch 0. When the Pot's own NI switches, GL_EPOCH shows the
new bank ACTIVE and the old one DRAINING (R319, R320, R578). -/
def execEpochSwitch (n : Fin 256) (s : State) : Outcome :=
  let e := (s.niAt n).ep
  if e.armed && decide (e.armT ≤ s.niTime n) then
    if e.boot then
      let s1 := s.activateBoot n (if niOnB n then none else some bootLoss)
      .next (if n.val = 248 then s1.noteApertures else s1)
    else
      let s1 := (s.switchNi n).rejoinAt n
      match n.val == 248, s.pot.sw with
      | true, some w =>
        let b := w.number % 2
        let s2 := (((s1.setBankSt b 2).setBankSt (1 - b) 3).setEpochSt 5).setFld Off.GL_EPOCH Fld.GL_EPOCH.SPLIT 0
        let s3 := s2.modSw (fun w => { w with draining := true, changed := s.time.now })
        .next (s3.recEpoch 3 w.number w.id w.T).noteApertures
      | _, _ => .next s1
  else .next s

/-- R51 and R290 hold for the loaded image at a switch time (R316). -/
def State.floorBroken (s : State) (act : Nat) : Bool :=
  (List.range 48).any (fun i =>
    let n := tileL0 (islandTile i)
    let w := fun b => KMap.get (fun _ => 0) s.pot.img (tabKey n b Sec.FREQ 0 0)
    decide (bits (w act) 16 16 < bits (w (1 - act)) 32 16))

/-- Some injection or router gate list differs between the banks (R290). -/
def State.gatesDiffer (s : State) : Bool :=
  let other := fun k => if keyBank k = 0 then k + 2 ^ 27 else k - 2 ^ 27
  s.pot.img.any (fun e => (keySec e.1 == Sec.INJGATE || keySec e.1 == Sec.RTGATE) && KMap.get (fun _ => 0) s.pot.img (other e.1) != e.2)

/-- COMMIT_EPOCH: the conditions of R316 in their order; then the switch is pending and arming messages leave for every participating NI (R316, R319). -/
def execCommitEpoch (c : Fin 24) (s : State) : Outcome :=
  .next (s.runCmd c 0x11 (fun x =>
    let T := (x.word 1).toNat
    let act := s.epochNum % 2
    let now := s.time.now
    let blend := fun b => KMap.get (fun _ => Blend.empty) s.pot.blends b
    if s.pot.sw.isSome || s.bankSt 0 == 3 || s.bankSt 1 == 3 then s.potDone c Code.EPOCH_BUSY []
    else if s.bankSt (1 - act) != 1 then s.potDone c Code.BAD_ARG []
    else if (blend (1 - act)).follows != (blend act).id then s.potDone c Code.DENIED []
    else if s.floorBroken act then s.potDone c Code.BAD_ARG []
    else if s.gatesDiffer && T % 1024 != 0 then s.potDone c Code.BAD_ARG []
    else if T < now + 65536 ∨ now + 2 ^ 32 < T then s.potDone c Code.BAD_ARG []
    else
      let number := s.epochNum + 1
      let parts := s.switchParts
      let id := (blend (1 - act)).id
      let w : Switch := {
        src := some c, T := T, number := number, id := id, parts := parts, ans := [], armed := false, split := false,
        reps := [], draining := false, changed := now, relief := false, quiet := false, slow := false }
      let s1 := (((s.startCmd c).modPot (fun p => { p with sw := some w, oldSw := none })).setEpochSt 3).wr Off.GL_EPOCH_T (BitVec.ofNat 64 T)
      parts.foldl (fun s n => s.sendEpoch n T (number % 4) id) s1))

/-- Every participating NI has answered ARMED: COMMIT_EPOCH ends with OK (R319). -/
def State.allArmed (s : State) : State :=
  match s.pot.sw with
  | some w =>
    if !w.armed && w.parts.all (fun n => KMap.get (fun _ => 0) w.ans n == 1) then
      let s1 := ((s.modSw (fun w => { w with armed := true })).setEpochSt 4).recEpoch 2 w.number w.id w.T
      match w.src with
      | some c => s1.potDone c Code.OK [BitVec.ofNat 64 w.number, BitVec.ofNat 64 w.T]
      | none => s1
    else s
  | none => s

/-- EPOCH_ARM_DEADLINE: 32,768 ft before T, a switch for which some participating NI has not answered ARMED is cancelled; COMMIT_EPOCH ends with
BAD_ARG if any answered NOT_LOADED, else with TIMEOUT (R319). -/
def execEpochArmDeadline (s : State) : Outcome :=
  match s.pot.sw with
  | some w =>
    if !w.armed && !w.split && !w.draining && decide (w.T ≤ s.time.now + 32768) then
      let s1 := w.parts.foldl (fun s n => s.sendEpoch n w.T (2 ^ 63 + w.number % 4) 0) s
      let s2 := ((s1.modPot (fun p => { p with sw := none, oldSw := some w })).setEpochSt 2).recEpoch 4 w.number w.id w.T
      let s3 := s2.reportPot .EPOCH_CANCELLED w.number 0
      let code := if w.parts.any (fun n => KMap.get (fun _ => 0) w.ans n == 2) then Code.BAD_ARG else Code.TIMEOUT
      .next (match w.src with
        | some c => s3.potDone c code []
        | none => s3)
    else .next s
  | none => .next s

/-- A report SWITCHED after a cancelled switch: the switch goes on for the NIs that have not switched, at the first multiple of 1,024 ft that lies
at least 65,536 ft ahead (R324). -/
def State.splitSwitch (s : State) (n : Nat) : State :=
  let T' := (s.time.now + 65536 + 1023) / 1024 * 1024
  match s.pot.sw, s.pot.oldSw with
  | some w, _ => if w.split then s.modSw (fun w => { w with ans := KMap.set (fun _ => 0) w.ans n 1 }) else s
  | none, some w =>
    let w' := { w with src := none, T := T', ans := [(n, 1)], armed := false, split := true, reps := [], draining := false }
    let s1 := (s.modPot (fun p => { p with sw := some w', oldSw := none })).setFld Off.GL_EPOCH Fld.GL_EPOCH.SPLIT 1
    let s2 := ((s1.wr Off.GL_EPOCH_T (BitVec.ofNat 64 T')).setEpochSt 3).recEpoch 6 w.number w.id T'
    (w.parts.filter (· != n)).foldl (fun s k => s.sendEpoch k T' (w.number % 4) w.id) s2
  | none, none => s

/-- EDRAIN: the Pot takes a report: ARMED and REFUSED decide the arming, DRAINED the drain, SWITCHED splits the switch (R318, R319, R322, R324). -/
def execEdrain (s : State) : Outcome :=
  match s.takeIn 248 Vn.MGT (fun p => p.h.opcode.toNat == 4 && s.domOn 64) with
  | none => .next s
  | some (p, _, s1) =>
    let w0 := p.word 0
    let n := bits w0 48 8
    let kind := bits w0 61 3
    let epoch := bits w0 59 2
    match s1.pot.sw with
    | some w =>
      let mine := w.parts.contains n
      if kind = 1 ∧ epoch = w.number % 4 ∧ mine = true then .next (s1.modSw (fun w => { w with ans := KMap.set (fun _ => 0) w.ans n 1 })).allArmed
      else if kind = 2 ∧ epoch = w.number % 4 ∧ mine = true then
        let r := bits w0 56 3
        .next (s1.modSw (fun w => { w with ans := KMap.set (fun _ => 0) w.ans n (1 + r) }))
      else if kind = 3 ∧ epoch = (w.number + 3) % 4 ∧ mine = true then
        let r : DrainRep := ⟨bits w0 32 16, bits w0 16 16, bits w0 0 16⟩
        let w' := { w with reps := KMap.set (fun _ => none) w.reps n (some r), changed := if w.rep n = some r then w.changed else s1.time.now }
        .next ((s1.modSw (fun _ => w')).drainStatus w').tryDone
      else if kind = 4 then .next (s1.splitSwitch n)
      else .next s1
    | none => .next (if kind = 4 then s1.splitSwitch n else s1)

/-- DRAIN_QUIET_TIMER: no report has changed for 2^20 ft and R322's relief applies, so the balance condition is treated as met (R322). -/
def execDrainQuietTimer (s : State) : Outcome := .next s.tryDone

/-- EPOCH_DRAIN_SLOW: the old epoch has not drained 2^24 ft after T; reported once with the lowest NI that is not locally drained (R323). -/
def execEpochDrainSlow (s : State) : Outcome :=
  match s.pot.sw with
  | some w =>
    if w.draining && !w.slow && decide (w.T + 2 ^ 24 ≤ s.time.now) then
      .next (((s.modSw (fun w => { w with slow := true })).setFld Off.GL_EPOCH Fld.GL_EPOCH.DRAIN_SLOW 1).reportPot .EPOCH_DRAIN_SLOW
        (w.missing.headD 0) 0)
    else .next s
  | none => .next s

end Sys2Proof.Machine
end

