-- ==== Sys2Proof/Machine/HomeErr.lean ====
section
/-! DEFINITION. The opening of a home slice's transactions, and its wear: MAINT work, sparing, retirement, line recovery, diagnostic accesses and what the
errors of directory words do (R204, R209, R237, R254 to R263, R273, R274, R526). -/
namespace Sys2Proof.Machine

/-! ### Opening transactions -/

/-- A transaction record with nothing done. -/
def Tx.open (num : Nat) (k : TxKind) (line : Nat) (proxy : Option Nat) (q : Hdr) (w2 mask : W64) (epoch set : Nat) (way : Option Nat)
    (bcast : Bool) (v : View) (now : Nat) : Tx :=
  { num := num, kind := k, line := line, proxy := proxy, h := q, w2 := w2, mask := mask, epoch := epoch, set := set, way := way,
    bcast := bcast, old := v, new := v, dems := [], unsent := [], recalling := false, wdat := false, wbs := [], gave := [], ackw := none,
    data := none, dirty := false, wdata := none, forwarded := false, read := false, failed := 0, poison := false, poisonAnswer := false,
    stgUe := false, stgBad := false, kept := 0, hit := false, closing := false, visible := false, nresp := 0, grant := 0,
    needData := false, perr := false, start := now, lines := 0, staged := false, raised := now, lost := none }

/-- Staging lines that a transaction needs: one where line data may come or go, two where WRI data may be merged over a holder's dirty copy (R247). -/
def Tx.linesNeeded (t : Tx) : Nat :=
  if t.op = 5 then (if t.bcast || decide (2 ≤ t.old.st) then 2 else 1)
  else b2n (t.needData || t.wdat || t.perr || t.recalling || t.poison || t.op == 9)

/-- A transaction is recorded, takes its staging lines, sends what it asks, and goes on as far as it can (R204, R232, R247). -/
def State.begin (s : State) (h : Nat) (t : Tx) (l : List Ask) : State :=
  (((s.modSlice h (fun x => { x with recs := x.recs ++ [{ t with lines := t.linesNeeded }] })).reserve h t.num).ask h t.num l).progress h t.num

/-- A snoop of the recorded owner (R207, R208). -/
def State.ownerSnoop (s : State) (h bank : Nat) (t : Tx) (op : Nat) (fwd wb : Bool) : List Ask :=
  match t.new.owner with
  | some y => [t.snoop op (s.agentPort h bank y) 0 y .owner fwd wb]
  | none => []

/-- A recall of the line of a way: SNPI with WB to every holder, on RECALL, in the bank and with the EPOCH of the request that needs the way, or of the HSL NI
where none does (R209, R249, R258, R320). -/
def State.recallWay (s : State) (h : Nat) (k : TxKind) (set way epoch : Nat) : State :=
  let x := s.sliceAt h
  let (e, tag) := x.slot set way
  let v := View.ofWord e
  let line := lineOf set tag
  let n := sliceNi h
  let bank := (s.bankOf n epoch).1
  let t := Tx.open x.freeRec k line (s.proxyOf h bank line) Hdr.zero 0 0 epoch set (some way) false v (s.niTime n)
  let l := s.ownerSnoop h bank t 2 false true ++ s.sharerSnoops h bank t v 2 true none
  (s.evHs h 39 false none).begin h { t with recalling := true, new := { View.u with hostg := v.hostg, proxy := v.proxy } } l

/-! ### MAINT work -/

/-- A line of a way is held by a transaction, by its way or by its name. -/
def Slice.lineHeld (x : Slice) (set way : Nat) : Bool :=
  x.wayBusy set way || (entryUsed (x.slot set way).1 && (x.busy (lineOf set (x.slot set way).2)).isSome)

/-- MAINT work joins the queue, once for each piece of work (R249). -/
def State.maint (s : State) (h : Nat) (m : Maint) : State :=
  s.modSlice h (fun x => if x.maint.any (fun e => e.1 == m) then x else { x with maint := x.maint ++ [(m, s.niTime (sliceNi h))] })

/-- The lowest spare that is neither USED nor DEAD (R256). -/
def Slice.freeSpare (x : Slice) : Option Nat :=
  (List.range 64).find? (fun k => !bit (dirW x.spTag0 k) 63 && !bit (dirW x.spTag0 k) 62)

/-- A spare tag word of R243. -/
def spareTag (used dead : Bool) (set way tag : Nat) : W64 :=
  BitVec.ofNat 64 (b2n used * 2 ^ 63 + b2n dead * 2 ^ 62 + set % 2 ^ 14 * 2 ^ 46 + way % 16 * 2 ^ 42 + tag % 2 ^ 32)

/-- The slice with a spare's words written, in both copies of its tag word (R243). -/
def Slice.setSpare (x : Slice) (k : Nat) (e tw : W64) : Slice :=
  { x with spEnt := setDirW x.spEnt k e, spTag0 := setDirW x.spTag0 k tw, spTag1 := setDirW x.spTag1 k tw }

/-- A spare is marked DEAD: it is never bound again, and the repair is reported to the Pot (R257, R266). -/
def State.killSpare (s : State) (h k : Nat) : State :=
  let x := s.sliceAt h
  let w := dirW x.spTag0 k
  ((s.setSlice h (x.setSpare k (dirW x.spEnt k) (w ||| BitVec.ofNat 64 (2 ^ 62)))).repaired h 2 (bits w 46 14) (bits w 42 4) k).updateWear h

/-- A way moves to the lowest free spare, or is recalled for retirement; a spare it leaves is DEAD, its line staying in it until the copy is made or the
recall has taken its holders (R256 to R258). -/
def State.spareWay (s : State) (h set way : Nat) : State :=
  let x := s.sliceAt h
  if x.retired set way || x.bcast set then s
  else
    let (e, tag) := x.slot set way
    let leave := fun (s : State) => match (if x.spared set way then x.spareOf set way else none) with
      | some k => s.killSpare h k
      | none => s
    match x.freeSpare with
    | some k =>
      let s1 := (leave s).modSlice h (fun x =>
        let x1 := x.setSpare k e (spareTag true false set way tag)
        x1.setStatus set (x1.status set ||| BitVec.ofNat 64 (2 ^ (16 + way))))
      ((((s1.setFld (Off.HS_ERR_STATUS h) Fld.HS_ERR_STATUS.SPARED 1).evHs h 90 false none).reportHs h .DIR_SPARED set way k 0).repaired h 1 set way k).updateWear h
    | none =>
      if !entryUsed e then (leave s).retireWay h set way
      else if x.recs.length < 256 then leave (s.recallWay h .retire set way (s.niAt (sliceNi h)).ep.epoch)
      else s.maint h (.spare set way)

/-- A line recovery: SNPI with SCOPE 0b10 and WB = 1 to every port of the caching port mask, on RECALL (R261). -/
def State.recoverLine (s : State) (h set way : Nat) : State :=
  let x := s.sliceAt h
  let (_, tag) := x.slot set way
  let line := lineOf set tag
  let n := sliceNi h
  let ep := (s.niAt n).ep
  let px := s.proxyOf h ep.bank line
  let t := Tx.open x.freeRec .recover line px Hdr.zero 0 0 ep.epoch set (some way) true View.u (s.niTime n)
  s.begin h { t with recalling := true, new := { View.u with hostg := if px.isSome then 2 else 0, proxy := px.isSome } }
    (s.portSnoops h ep.bank t 2 true)

/-! ### Words by store -/

/-- Key of the raw check bits of a word of a store (R526). -/
def chkKey (store index way : Nat) : Nat := (store * 2 ^ 14 + index % 2 ^ 14) * 16 + way % 16

/-- A word that HS_DIAG_SEL selects (R242, R526). -/
def Slice.diagWord (x : Slice) (store index way : Nat) : W64 :=
  if store = 0 then dirW x.ent (index * 16 + way)
  else if store = 1 then dirW x.tag0 (index * 8 + way / 2)
  else if store = 2 then dirW x.tag1 (index * 8 + way / 2)
  else if store = 3 then dirW x.vec (index % 4096)
  else if store = 4 then x.status index
  else if store = 5 then dirW x.spEnt (index % 64)
  else if store = 6 then dirW x.spTag0 (index % 64)
  else lineWord (KMap.get (fun _ => 0) x.stg (index % 512)) (way / 2)

/-- The slice with a selected word written; BCAST, RETIRED and SPARED bits of a set status word are never cleared (R260, R526). -/
def Slice.setDiagWord (x : Slice) (store index way : Nat) (w : W64) : Slice :=
  if store = 0 then { x with ent := setDirW x.ent (index * 16 + way) w }
  else if store = 1 then { x with tag0 := setDirW x.tag0 (index * 8 + way / 2) w }
  else if store = 2 then { x with tag1 := setDirW x.tag1 (index * 8 + way / 2) w }
  else if store = 3 then { x with vec := setDirW x.vec (index % 4096) w }
  else if store = 4 then x.setStatus index (w ||| (x.status index &&& BitVec.ofNat 64 0x8000FFFFFFFF0000))
  else if store = 5 then { x with spEnt := setDirW x.spEnt (index % 64) w }
  else if store = 6 then { x with spTag0 := setDirW x.spTag0 (index % 64) w, spTag1 := setDirW x.spTag1 (index % 64) w }
  else { x with stg := KMap.set (fun _ => 0) x.stg (index % 512) (setLineWord (KMap.get (fun _ => 0) x.stg (index % 512)) (way / 2) w) }

/-- The check bits stored with a selected word: those generated from it, unless diagnosis has stored others (R526). -/
def Slice.diagChk (x : Slice) (store index way : Nat) : Nat :=
  match KMap.get (fun _ => none) x.chk (chkKey store index way) with
  | some c => bits c 0 40
  | none =>
    let w := x.diagWord store index way
    if store = 7 then (Config.check13 w).toNat else (Config.check72 w).toNat

/-- A staging line is reserved by a transaction: the line of a record has the record's number, and its second line 256 more (R247, log entry 24). -/
def Slice.stgHeld (x : Slice) (line : Nat) : Bool :=
  x.recs.any (fun t => t.staged && ((t.num == line && decide (1 ≤ t.lines)) || (t.num + 256 == line && decide (2 ≤ t.lines))))

/-- A diagnostic access of the Pot (R526): a read loads HS_DIAG_DATA and CHK; a write stores data with raw or generated check bits, but a staging line in
use refuses it and sets BUSY. Eight retired ways that a write leaves put their set in broadcast mode (R259). -/
def State.diagAccess (s : State) (h : Nat) (write : Bool) (sel data chk : W64) : State :=
  let st := bits sel 29 3
  let ix := bits sel 15 14
  let wy := bits sel 11 4
  let x := s.sliceAt h
  if !write then (s.wr (Off.HS_DIAG_DATA h) (x.diagWord st ix wy)).setFld (Off.HS_DIAG_CHK h) Fld.HS_DIAG_CHK.CHK (x.diagChk st ix wy)
  else if st = 7 ∧ x.stgHeld (ix % 512) = true then s.setFld (Off.HS_DIAG_CHK h) Fld.HS_DIAG_CHK.BUSY 1
  else
    let x1 := x.setDiagWord st ix wy data
    let s1 := (s.wr (Off.HS_DIAG_DATA h) data).setSlice h { x1 with chk := KMap.set (fun _ => none) x1.chk (chkKey st ix wy) (if bit chk 63 then some chk else none) }
    if st = 4 then s1.checkBcast h ix else s1.updateWear h

/-- The words that a scrub write-back must find as its read left them: all words of the set, or the word itself for a vector or a spare (R274). -/
def Slice.scrubSeen (x : Slice) (store index : Nat) : List W64 :=
  if store = 3 ∨ store = 5 then [x.diagWord store index 0]
  else if store = 6 then [dirW x.spTag0 (index % 64), dirW x.spTag1 (index % 64)]
  else x.status index :: ((List.range 16).map (fun w => dirW x.ent (index * 16 + w)) ++ (List.range 8).map (fun w => dirW x.tag0 (index * 8 + w)) ++
    (List.range 8).map (fun w => dirW x.tag1 (index * 8 + w)))

/-- A scrub write-back: the corrected word gets its check bits, unless its set has been written since the read, when the word is read again (R273, R274).
A write is seen by what it changes (DESIGN CHOICE, log entry 51). -/
def Slice.scrubBack (x : Slice) (k store index way : Nat) (seen : List W64) : Slice :=
  if x.scrubSeen store index = seen then { x with chk := KMap.set (fun _ => none) x.chk (chkKey store index way) none }
  else { x with reread := x.reread ++ [k] }

/-- MAINT work can be done now: a way is spared, freed or recovered only while its line is idle (R256, R259). -/
def Slice.maintReady (x : Slice) : Maint → Bool
  | .spare set way => !x.lineHeld set way
  | .discard _ _ => true
  | .recover set way => !x.lineHeld set way && decide (x.recs.length < 256)
  | .copy _ _ => true
  | .diag _ _ _ _ => true
  | .writeBack _ _ _ _ _ => true

/-- A piece of MAINT work is done after its last beat (R237, R251, R256, R259, R261, R273, R526). -/
def State.doMaint (s : State) (h : Nat) (m : Maint) : State :=
  let x := s.sliceAt h
  match m with
  | .spare set way => s.spareWay h set way
  | .discard set way =>
    if x.lineHeld set way then s
    else s.setSlice h ((x.releaseVec (View.ofWord (x.slot set way).1) View.u).setSlot set way 0 (x.slot set way).2)
  | .recover set way => s.recoverLine h set way
  | .copy set w => s.setSlice h { x with tag1 := setDirW x.tag1 (set * 8 + w) (dirW x.tag0 (set * 8 + w)) }
  | .diag write sel data chk => s.diagAccess h write sel data chk
  | .writeBack k store index way seen => s.setSlice h (x.scrubBack k store index way seen)

/-! ### Directory errors -/

/-- A directory word error is counted, and its register and status follow (R254, R276). -/
def State.dirErrCount (s : State) (h : Nat) (e : DirErr) : State :=
  let o := Off.HS_DIR_ERR h
  let s1 := (((s.bump o (if e.ue then Fld.HS_DIR_ERR.UE else Fld.HS_DIR_ERR.CE)).setFld o Fld.HS_DIR_ERR.LAST_STORE e.store).setFld o
    Fld.HS_DIR_ERR.LAST_SET e.index).setFld o Fld.HS_DIR_ERR.LAST_WAY e.way
  if e.ue then (s1.setFld (Off.HS_ERR_STATUS h) Fld.HS_ERR_STATUS.DIR_UE 1).evHs h 89 false none
  else (s1.setFld (Off.HS_ERR_STATUS h) Fld.HS_ERR_STATUS.DIR_CE 1).evHs h 88 false none

/-- DIR_CE: at most once per time epoch while CE_REPORT is 1 (R276). -/
def State.reportDirCe (s : State) (h : Nat) (e : DirErr) : State :=
  let ep := epochMark (s.niTime (sliceNi h))
  if s.flag (Off.HS_CTRL h) Fld.HS_CTRL.CE_REPORT && (s.sliceAt h).ceEpoch != ep then
    (s.modSlice h (fun x => { x with ceEpoch := ep })).reportHs h .DIR_CE e.index e.way 0 e.store
  else s

/-- DIR_TAG_LOST: both copies of a tag word are uncorrectable (R263). -/
def State.tagLost (s : State) (h set way spare store : Nat) : State :=
  (s.setFld (Off.HS_ERR_STATUS h) Fld.HS_ERR_STATUS.TAG_LOST 1).reportHs h .DIR_TAG_LOST set way spare store

/-- The watch list after a corrected error of (set, way), and the count that it reaches (R254). -/
def watchAdd (l : List (Nat × Nat × Nat)) (set way : Nat) : List (Nat × Nat × Nat) × Nat :=
  match l.find? (fun e => e.1 == set && e.2.1 == way) with
  | some (_, _, c) => (l.map (fun e => if e.1 = set ∧ e.2.1 = way then (set, way, c + 1) else e), c + 1)
  | none =>
    if l.length < 32 then (l ++ [(set, way, 1)], 1)
    else
      let least := l.foldl (fun a e => min a e.2.2) (l.headD (0, 0, 0)).2.2
      match l.findIdx? (fun e => e.2.2 == least) with
      | some i => (l.eraseIdx i ++ [(set, way, 1)], 1)
      | none => (l, 1)

/-- A corrected error counts toward the wear of a way, or of a spare under the key 2^14; at CE_THRESH its entry leaves the list and it is spared
(R254, R257). -/
def State.watchCe (s : State) (h key sub : Nat) (worn : State → State) : State :=
  let (l, c) := watchAdd (s.sliceAt h).watch key sub
  let th := max 1 (s.fld (Off.HS_CTRL h) Fld.HS_CTRL.CE_THRESH)
  let s1 := s.modSlice h (fun x => { x with watch := if th ≤ c then l.filter (fun e => !(e.1 == key && e.2.1 == sub)) else l })
  if th ≤ c then worn s1 else s1

/-- The own words of a way serve no lookup: it is retired, or a spare serves it (R244). -/
def Slice.idleWay (x : Slice) (set way : Nat) : Bool := x.retired set way || x.spared set way

/-- An uncorrectable entry word: the line of a way in service is recovered, which spares the way; a way out of service holds no line (R255, R261). -/
def State.entryUe (s : State) (h set way : Nat) : State :=
  let s1 := s.reportHs h .DIR_UE set way 0 0
  if (s.sliceAt h).idleWay set way then s1 else s1.maint h (.recover set way)

/-- One copy of a tag word is uncorrectable: the other copy serves in its place, and both ways of the word are spared (R237, R255). -/
def State.tagUe (s : State) (h : Nat) (e : DirErr) : State :=
  let set := e.index.val
  let i := set * 8 + e.way.val / 2
  let s1 := (s.modSlice h (fun x =>
    if e.store.val = 1 then { x with tag0 := setDirW x.tag0 i (dirW x.tag1 i) } else { x with tag1 := setDirW x.tag1 i (dirW x.tag0 i) })).reportDirCe h e
  ([e.way.val / 2 * 2, e.way.val / 2 * 2 + 1].filter (fun w => !(s.sliceAt h).idleWay set w)).foldl (fun s w => s.maint h (.spare set w)) s1

/-- An error in a way's entry or tag word (R237, R254, R255, R261, R263). A corrected error in the own words of a way that is retired or spared is counted and
reported only: DEDUCED (log entry 51). -/
def State.wayErr (s : State) (h : Nat) (e : DirErr) : State :=
  let set := e.index.val
  let way := e.way.val
  if e.ue then
    (if e.store.val = 0 then s.entryUe h set way else if e.both then s.tagLost h set way 0 e.store else s.tagUe h e)
  else
    let s1 := (if e.store.val ≠ 0 ∧ e.both = true then s.maint h (.copy set (way / 2)) else s).reportDirCe h e
    if (s.sliceAt h).idleWay set way then s1 else s1.watchCe h set way (fun s => s.maint h (.spare set way))

/-- An error in a spare's words (R254, R257, R261, R263). A spare that is bound is left by the way that it serves; an unbound one is DEAD at once. -/
def State.spareErr (s : State) (h : Nat) (e : DirErr) : State :=
  let k := e.index.val % 64
  let tw := dirW (s.sliceAt h).spTag0 k
  let set := bits tw 46 14
  let way := bits tw 42 4
  let bound := bit tw 63 && !bit tw 62
  let worn := fun (s : State) => if bit tw 62 then s else if bound then s.maint h (.spare set way) else s.killSpare h k
  if e.ue then
    (if e.store.val = 6 ∧ e.both = true then s.tagLost h set way k e.store
     else if e.store.val = 6 then worn (s.reportDirCe h e)
     else
       let s1 := s.reportHs h .DIR_UE set way k e.store
       if bound then s1.maint h (.recover set way) else worn s1)
  else (s.reportDirCe h e).watchCe h 16384 k worn

/-- Ways of a set that the ledger records as retired (R262, R266). -/
def State.ledgerRetired (s : State) (h set : Nat) : List Nat :=
  (s.pot.ledger.recs.filter (fun r => bits r.1 60 4 == 3 && bits r.1 56 4 == h && bits r.1 42 14 == set)).map (fun r => bits r.1 38 4)

/-- An uncorrectable set status word: RETIRED is rewritten from the ledger and SPARED from the spare store, and the set enters broadcast mode (R262). -/
def State.statusUe (s : State) (h set : Nat) : State :=
  let x := s.sliceAt h
  let ret := s.ledgerRetired h set
  let w := (List.range 16).foldl (fun a k =>
    a + (if ret.contains k then 2 ^ (32 + k) else if (x.spareOf set k).isSome then 2 ^ (16 + k) else 0)) (b2n (x.bcast set) * 2 ^ 63)
  let s1 := (s.setSlice h (x.setStatus set (BitVec.ofNat 64 w))).reportHs h .DIR_UE set 0 0 4
  if x.bcast set then s1.updateWear h else s1.enterBcast h set

/-- A directory word error found by a lookup or by the scrubber (R237, R254 to R263). -/
def State.dirErr (s : State) (h : Nat) (e : DirErr) : State :=
  let s1 := s.dirErrCount h e
  if e.store.val ≤ 2 then s1.wayErr h e
  else if e.store.val = 3 then
    (if e.ue then
       (s1.modSlice h (fun x => { x with vec := setDirW x.vec (e.index.val % 4096) (BitVec.ofNat 64 (2 ^ 64 - 1)) })).reportHs h .DIR_UE e.index 0 0 3
     else s1.reportDirCe h e)
  else if e.store.val = 4 then (if e.ue then s1.statusUe h e.index else s1.reportDirCe h e)
  else s1.spareErr h e

/-- The copies of a tag word that both read well and yet differ for a way in use: copy 0 is used, a corrected error of copy 1 is counted, and the copy is
rewritten (R237, R254). -/
def State.copiesDiffer (s : State) (h set : Nat) : State :=
  let x := s.sliceAt h
  ((List.range 16).filter (fun w =>
    let half := fun (m : KMap W64) => bits (dirW m (set * 8 + w / 2)) (32 * (w % 2)) 32
    !x.idleWay set w && entryUsed (x.slot set w).1 && half x.tag0 != half x.tag1)).foldl
    (fun s w => s.dirErr h ⟨2, Fin.ofNat 16384 set, Fin.ofNat 16 w, false, true⟩) s

end Sys2Proof.Machine
end

