-- ==== Sys2Proof/Machine/Home.lean ====
section
/-! DEFINITION. Meanings of a home slice's requests, of the responses it awaits, and of its acknowledgement timeout (R193 to R221,
R228 to R230, R244, R245). -/
namespace Sys2Proof.Machine

/-! ### Plans -/

/-- The owner's port accepts forwarding snoops (R198). -/
def State.ownerFwd (s : State) (h bank : Nat) (v : View) : Bool :=
  match v.owner with
  | some y => s.portFwd bank (s.agentPort h bank y)
  | none => false

/-- The sharers whom SNPI removes are no longer recorded. -/
def View.noSharers (v : View) : View := { v with ptrs := [], vec := none }

/-- PXRO with NODATA = 1 where the host grant does not cover a write and the fabric's data is current (R218). -/
def State.permission (s : State) (h bank : Nat) (t : Tx) : List Ask :=
  if t.proxy.isSome ∧ t.new.hostg ≤ 1 then s.readAsk h bank t 7 true else []

/-- RDS (R207, R218). -/
def State.planRds (s : State) (h bank : Nat) (t : Tx) : Tx × List Ask :=
  let t1 := { t with nresp := 1, needData := true }
  if t.new.st = 0 then ({ t1 with read := true }, s.readAsk h bank t1 6 false)
  else if t.new.st = 1 then
    match (if t.proxy.isSome ∧ 1 ≤ t.new.hostg then t.new.ptrs.head? else none) with
    | some p =>
      if s.portFwd bank (s.agentPort h bank p) then
        let t2 := { t1 with nresp := 2, grant := 1 }
        (t2, [t2.snoop 3 (s.agentPort h bank p) 0 p .sharer true false])
      else ({ t1 with grant := 1, read := true }, s.readAsk h bank t1 6 false)
    | none => ({ t1 with grant := 1, read := true }, s.readAsk h bank t1 6 false)
  else
    let f := s.ownerFwd h bank t.new
    let t2 := { t1 with nresp := if f then 2 else 1, grant := 1 }
    (t2, s.ownerSnoop h bank t2 1 f t.proxy.isSome)

/-- RDO, and UPG where it is served as RDO: an upgrading agent whose group the vector names is left out of the snoops and stays a sharer until its grant
(R207, R213, R218). -/
def State.planRdo (s : State) (h bank : Nat) (t : Tx) : Tx × List Ask :=
  let stays := t.op == 3 && t.new.vec.any (fun i => bit (dirW (s.sliceAt h).vec i) (t.agent / 64))
  let t1 := { t with nresp := 1, grant := 3, needData := true, new := { t.new.noSharers with ptrs := if stays then [t.agent] else [] } }
  let inv := s.sharerSnoops h bank t t.new 2 false (some t.agent)
  if t.new.st = 0 then ({ t1 with read := true }, s.readAsk h bank t1 7 false)
  else if t.new.st = 1 then ({ t1 with nresp := 2, read := true }, inv ++ s.readAsk h bank t1 7 false)
  else
    let f := s.ownerFwd h bank t.new
    let t2 := { t1 with nresp := if f || t.new.st == 4 then 2 else 1 }
    (t2, s.ownerSnoop h bank t2 2 f false ++ inv ++ s.permission h bank t)

/-- UPG (R207, R218). -/
def State.planUpg (s : State) (h bank : Nat) (t : Tx) : Tx × List Ask :=
  let x := t.agent
  let inv := s.sharerSnoops h bank t t.new 2 false (some x)
  if t.new.st = 1 ∧ t.new.ptrs.contains x = true then
    ({ t with nresp := 1, grant := 3, new := { t.new.noSharers with ptrs := [x] } }, inv ++ s.permission h bank t)
  else if t.new.st = 4 ∧ t.new.owner = some x then
    ({ t with nresp := 1, grant := 3, new := t.new.noSharers }, inv)
  else s.planRdo h bank t

/-- RDC (R207, R218). -/
def State.planRdc (s : State) (h bank : Nat) (t : Tx) : Tx × List Ask :=
  let t1 := { t with nresp := 1, needData := true }
  if t.new.st ≤ 1 then ({ t1 with read := true }, s.readAsk h bank t1 8 false)
  else
    let f := s.ownerFwd h bank t.new
    let t2 := { t1 with nresp := if f then 2 else 1 }
    (t2, s.ownerSnoop h bank t2 3 f false)

/-- WRI (R208, R218): a PROXY line first gains M by PXRO. -/
def State.planWri (s : State) (h bank : Nat) (t : Tx) : Tx × List Ask :=
  let t1 := { t with wdat := true, new := t.new.noSharers }
  let inv := s.sharerSnoops h bank t t.new 2 false (some t.agent)
  if t.new.st ≤ 1 then
    (if t.proxy.isSome then ({ t1 with read := true }, inv ++ s.readAsk h bank t1 7 false) else (t1, inv))
  else (t1, s.ownerSnoop h bank t1 2 false true ++ inv)

/-- WBM from the owner (R208): the owner gives its copy up, the sharers remain. -/
def Tx.planWbm (t : Tx) : Tx := { t with wdat := true, new := { t.new with owner := none } }

/-- HSNP: the Leaf snoop named by SNPTYPE, with WB = 1, to every fabric holder; it lowers the host grant (R218, R219). -/
def State.planHsnp (s : State) (h bank : Nat) (t : Tx) : Tx × List Ask :=
  let op := bits t.w2 20 4
  let g := if op = 2 then 0 else if op = 1 then min 1 t.new.hostg else t.new.hostg
  let v := { (if op = 2 then t.new.noSharers else t.new) with hostg := g }
  let t1 := { t with new := v }
  (t1, if t.bcast then s.portSnoops h bank t1 op true
       else s.ownerSnoop h bank t1 op false true ++ s.sharerSnoops h bank t t.new op true none)

/-- A request of an owner of M or O that R206 takes as a protocol error: the line is poisoned. -/
def State.planError (s : State) (h bank : Nat) (t : Tx) : Tx × List Ask :=
  let t1 := { t with perr := true, poison := true, poisonAnswer := true }
  if t.op = 5 ∨ t.op = 7 then
    ({ t1 with new := { View.u with hostg := t.new.hostg } },
      s.ownerSnoop h bank t 2 false false ++ s.sharerSnoops h bank t t.new 2 false none)
  else if t.op = 1 then ({ t1 with nresp := 1, needData := true, grant := 1, new := { t.new with owner := none } }, [])
  else if t.op = 2 then
    ({ t1 with nresp := 1, needData := true, grant := 3, new := { t.new.noSharers with owner := none } },
      s.sharerSnoops h bank t t.new 2 false (some t.agent))
  else ({ t1 with nresp := 1, needData := true }, [])

/-- A line of a broadcast-mode set (R221); in a tainted set every answer counts as a failed dirty target (R587). -/
def State.planBcast (s : State) (h bank : Nat) (t : Tx) : Tx × List Ask :=
  let op := t.op
  let read := s.readAsk h bank t (if op = 1 then 6 else if op = 4 then 8 else 7) false
  let t1 := { t with nresp := 1, read := true, needData := true }
  let (t2, l) :=
    if op = 1 then ({ t1 with grant := 1 }, s.portSnoops h bank t 1 true ++ read)
    else if op = 2 ∨ op = 3 then ({ t1 with grant := 3 }, s.portSnoops h bank t 2 false ++ read)
    else if op = 4 then (t1, s.portSnoops h bank t 3 false ++ read)
    else if op = 5 then
      ({ t with wdat := true, read := t.proxy.isSome }, s.portSnoops h bank t 2 true ++ (if t.proxy.isSome then read else []))
    else if op = 6 then ({ t with wdat := true }, [])
    else if op = 9 then s.planHsnp h bank t
    else (t, [])
  if KMap.get (fun _ => false) (s.sliceAt h).taint t.set ∧ op ≠ 6 ∧ op ≠ 7 then ({ t2 with poison := true, poisonAnswer := true }, l)
  else (t2, l)

/-- The plan of a request by its state (R206 to R208, R219, R221). -/
def State.plan (s : State) (h bank : Nat) (t : Tx) : Tx × List Ask :=
  if t.bcast then s.planBcast h bank t
  else if t.perr then s.planError h bank t
  else if t.op = 1 then s.planRds h bank t
  else if t.op = 2 then s.planRdo h bank t
  else if t.op = 3 then s.planUpg h bank t
  else if t.op = 4 then s.planRdc h bank t
  else if t.op = 5 then s.planWri h bank t
  else if t.op = 6 then (t.planWbm, [])
  else if t.op = 9 then s.planHsnp h bank t
  else (t, [])

/-! ### Serving a request -/

/-- A request leaves its wait place, if it holds one. -/
def State.leaveWait (s : State) (h : Nat) (w : Option Nat) : State :=
  match w with
  | some i => s.modSlice h (fun x => { x with waits := x.waits.eraseIdx i })
  | none => s

/-- A request is answered without a transaction: the next waiting request for its line may start (R204, R205). -/
def State.answered (s : State) (h line : Nat) (w : Option Nat) : State :=
  let s1 := s.leaveWait h w
  if ((s1.sliceAt h).busy line).isSome then s1
  else s1.modSlice h (fun x => x.wakeWaiters line 0x4000 (s.niTime (sliceNi h)))

/-- A request takes a wait place, keeps the one it holds, or is answered with RTY (R205, R232). -/
def State.waitOrRetry (s : State) (h : Nat) (p : Pkt) (w : Option Nat) (full : Bool) : State :=
  let set := setOf p.h.line
  match w with
  | some i =>
    s.modSlice h (fun x => { x with waits := x.waits.modify i (fun e => { e with ready := none, full := full }) })
  | none =>
    if (s.sliceAt h).waits.length < 512 then
      (s.modSlice h (fun x => { x with waits := x.waits ++ [⟨p, set, full, s.niTime (sliceNi h), none⟩] })).evHs h 31 true (some p.h)
    else s.retry h p.h

/-- The request is answered in error and its fault is raised (R193). -/
def State.refuse (s : State) (h : Nat) (p : Pkt) (w : Option Nat) : State :=
  ((s.cohProtocol h p.h.src.toNat p.h.agent.toNat p.h.line).cmpErr h p.h Resp.ERR_UNSUPPORTED).answered h p.h.line w

/-- R193: a home slice accepts a request only from an agent that may send it. -/
def State.accepts (s : State) (h bank : Nat) (q : Hdr) (proxy : Option Nat) : Bool :=
  let a := q.agent.toNat
  let op := q.opcode.toNat
  if op = 9 then niType q.src.toNat == .cpa && proxy.isSome
  else if op = 4 ∨ op = 5 ∨ op = 8 then bit (s.agentWord h bank a) 63
  else s.agentCaching h bank a && s.agentPort h bank a == q.src.toNat

/-- A demand of a transaction is a snoop pending toward an agent behind a port (R212). -/
def Dem.targets (d : Dem) (agent src : Nat) : Bool :=
  decide (d.op ≤ 3) && (match d.role with
    | .owner | .sharer | .evict => d.who == agent
    | .group => d.dest == src && (d.who == agent / 64 || d.who == 64)
    | .port => d.dest == src
    | _ => false)

/-- A request for a busy line: R212 and R220 serve three kinds at once, an HSNP with its effect on the host grant; any other waits (R205, R218). -/
def State.serveBusy (s : State) (h : Nat) (p : Pkt) (t : Tx) (w : Option Nat) : State :=
  let q := p.h
  let hits := t.dems.any (fun d => d.targets q.agent.toNat q.src.toNat)
  if q.opcode.toNat = 6 ∧ hits = true then
    ((s.modTx h t.num (fun t => { t with wbs := t.wbs ++ [(q.src.toNat, q.tag.toNat, q.agent.toNat)] })).complete h q Vn.RSP 2 Resp.OK 0 []).leaveWait h w
  else if q.opcode.toNat = 7 ∧ hits = true then
    ((s.modTx h t.num (fun t => { t with gave := t.gave ++ [q.agent.toNat] })).complete h q Vn.RSP 1 Resp.OK (leafMsg 1 0 false false 0 false) []).leaveWait h w
  else if q.opcode.toNat = 9 ∧ t.dems.any (fun d => d.role == .read) = true then
    let op := bits (p.word 0) 20 4
    (((s.modTx h t.num (fun t => { t with new := { t.new with hostg := if op = 2 then 0 else if op = 1 then min 1 t.new.hostg else t.new.hostg } })).answer (sliceNi h) q Vn.RSP 4 Resp.OK (leafMsg 0 0 false false 0 false) []).evHs h 79 true (some q)).leaveWait h w
  else s.waitOrRetry h p w false

/-- A fence: answered once every transaction opened by an earlier WRI or WBM of its SRC has passed its visibility point (R230). -/
def State.serveFence (s : State) (h : Nat) (q : Hdr) : State :=
  let x := s.sliceAt h
  let own := (x.recs.filter (fun t => !t.visible && (t.op == 5 || t.op == 6) && t.h.src == q.src)).map (·.num)
  let taken := (x.recs.filter (fun t => t.wbs.any (fun b => b.1 == q.src.toNat))).map (fun t => 256 + t.num)
  if (own ++ taken).isEmpty then s.complete h q Vn.RSP 6 Resp.OK 0 []
  else s.modSlice h (fun x => { x with fncs := x.fncs ++ [(q, own ++ taken)] })

/-- R206: the state that the tables apply to, and whether the request is a protocol error of the recorded owner. -/
def View.seenBy (v : View) (op x : Nat) : View × Bool :=
  if op = 9 then (v, false)
  else if v.owner = some x then
    if v.st = 2 then
      (if op = 6 ∨ op = 7 then (v, false) else ({ v with owner := none }.settle, false))
    else if op = 3 ∨ op = 6 then (v, false)
    else (v, true)
  else if v.ptrs.contains x then
    (if op = 3 ∨ op = 7 then (v, false) else ({ v with ptrs := v.ptrs.filter (· != x) }.settle, false))
  else (v, false)

/-- The transaction of a request on its way or in a broadcast-mode set opens (R206 to R208, R221). -/
def State.openReq (s : State) (h bank : Nat) (p : Pkt) (proxy : Option Nat) (way : Option Nat) (v0 : View) (w : Option Nat) : State :=
  let q := p.h
  let n := sliceNi h
  let set := setOf q.line
  let s1 := s.leaveWait h w
  let x := s1.sliceAt h
  let op := q.opcode.toNat
  let bc := x.bcast set
  let (v, perr) := if bc then (v0, false) else v0.seenBy op q.agent.toNat
  let t0 := Tx.open x.freeRec (.req op) q.line proxy q (p.word 0) (p.word 1) q.epoch.toNat set way bc v (s.niTime n)
  let (t, l) := s1.plan h bank { t0 with new := { v with proxy := proxy.isSome }, perr := perr }
  let s2 := if perr then (s1.cohProtocol h q.src.toNat q.agent.toNat q.line).cohPoison h q.agent.toNat q.line
    else if t.poison then s1.cohPoison h q.agent.toNat q.line else s1
  let t := { t with old := { v with vec := v0.vec } }
  let s3 := if op = 7 ∧ perr = false then s2.complete h q Vn.RSP 1 Resp.OK (leafMsg 1 0 false false 0 false) [] else s2
  s3.begin h (if op = 7 ∧ perr = false then
      { t with new := { v with owner := if v.owner = some q.agent.toNat then none else v.owner, ptrs := v.ptrs.filter (· != q.agent.toNat) } }
    else t) l

/-- Counter of a request by the state it finds: U, S, E, O, M (R552). -/
def foundCnt (st : Nat) : Nat := if st = 3 then 36 else if st = 4 then 35 else 32 + st

/-- A request whose line is idle: it is answered at once, opens a transaction, recalls a victim, or waits (R207 to R209, R221, R244, R245). -/
def State.serveIdle (s : State) (h bank : Nat) (p : Pkt) (proxy : Option Nat) (w : Option Nat) : State :=
  let q := p.h
  let x := s.sliceAt h
  let op := q.opcode.toNat
  let set := setOf q.line
  let a := q.agent.toNat
  let cmp := fun (s : State) (stale : Bool) => s.complete h q Vn.RSP 1 Resp.OK (leafMsg 1 0 false stale 0 false) []
  if x.bcast set then
    let s1 := s.evHs h 40 true (some q)
    if op = 7 then (cmp s1 false).answered h q.line w
    else if 256 ≤ x.recs.length then s1.waitOrRetry h p w false
    else s1.openReq h bank p proxy none View.u w
  else
    let way := x.hitWay q.line
    let v := match way with
      | some k => View.ofWord (x.slot set k).1
      | none => View.u
    let s1 := s.evHs h (foundCnt v.st) true (some q)
    let s2 := if way.isSome then s1.evHs h 37 true (some q) else s1
    let held := v.owner == some a || v.ptrs.contains a
    if op = 7 ∧ held = false then (cmp s2 false).answered h q.line w
    else if op = 6 ∧ v.owner ≠ some a ∧ held = false then ((cmp s2 true).evHs h 78 true (some q)).answered h q.line w
    else if op = 9 ∧ way.isNone = true then
      ((s2.answer (sliceNi h) q Vn.RSP 4 Resp.OK (leafMsg 0 0 false false 0 false) []).evHs h 79 true (some q)).answered h q.line w
    else if 256 ≤ x.recs.length then s2.waitOrRetry h p w false
    else if op = 6 ∧ v.owner ≠ some a then
      let s3 := (cmp s2 true).evHs h 78 true (some q)
      match way with
      | some k =>
        let v' := { v with ptrs := v.ptrs.filter (· != a) }.settle
        let t := Tx.open x.freeRec (.req 7) q.line proxy q 0 0 q.epoch.toNat set (some k) false v (s.niTime (sliceNi h))
        (s3.leaveWait h w).begin h { t with new := v' } []
      | none => s3.answered h q.line w
    else if way.isNone = true ∧ 1 ≤ op ∧ op ≤ 3 then
      let s3 := s2.evHs h 38 true (some q)
      match x.freeWay set with
      | some k => (s3.modSlice h (fun x => x.touch set k)).openReq h bank p proxy (some k) View.u w
      | none =>
        match x.victimWay set with
        | some k => (s3.waitOrRetry h p w true).recallWay h .victim set k q.epoch.toNat
        | none => s3.waitOrRetry h p w true
    else (if op = 9 then s2.evHs h 79 true (some q) else s2).openReq h bank p proxy way v w

/-- What a lookup of a line reads: differing copies are dealt with, and a hit sets its REF bit, busy or not (R237, R244). -/
def State.readSet (s : State) (h line : Nat) : State :=
  let set := setOf line
  if (s.sliceAt h).bcast set then s
  else
    let s1 := s.copiesDiffer h set
    match (s1.sliceAt h).hitWay line with
    | some k => s1.modSlice h (fun x => x.touch set k)
    | none => s1

/-- A lookup of a request that the arbiter has granted (R193, R195, R205, R230, R235, R244, R261). `w` is the wait place it comes from. -/
def State.lookup (s0 : State) (h : Nat) (p : Pkt) (w : Option Nat) : State :=
  let q := p.h
  let n := sliceNi h
  let op := q.opcode.toNat
  let s := (s0.evHs h 125 false none).staleCheck n q.epoch.toNat
  let bank := (s.bankOf n q.epoch.toNat).1
  let proxy := s.proxyOf h bank q.line
  if !s.accepts h bank q proxy then s.refuse h p w
  else if op = 8 then (s.serveFence h q).leaveWait h w
  else if op = 5 ∧ p.word 1 = 0 then (s.cmpErr h q Resp.ERR_UNSUPPORTED).answered h q.line w
  else if proxy.isNone = true ∧ (s.memTarget h bank q.line).isNone = true then
    (((s.setFld (Off.HS_ERR_STATUS h) Fld.HS_ERR_STATUS.MAP_MISS 1).reportAt n 2 .HS_MAP_MISS 0 q.agent.toNat q.line).cmpErr h q
      Resp.ERR_UNSUPPORTED).answered h q.line w
  else
    let s1 := (if proxy.isSome ∧ w = none then s.evHs h 43 true (some q) else s).readSet h q.line
    match (s1.sliceAt h).busy q.line with
    | some t => s1.serveBusy h p t w
    | none =>
      let ahead := ((s1.sliceAt h).waits.take (w.getD (s1.sliceAt h).waits.length)).any (fun e => e.p.h.line == q.line)
      if ahead || (!(s1.sliceAt h).bcast (setOf q.line) && (s1.sliceAt h).lineLost q.line) then s1.waitOrRetry h p w false
      else s1.serveIdle h bank p proxy w

/-! ### Requests -/

/-- Requester of a request packet at the arbiter: REQ_HI for P2 and P3, REQ for the others (R249). -/
def reqClass (h : Hdr) : Nat := if 2 ≤ h.pri.toNat then 2 else 3

/-- The oldest request packet of a class in a slice's inbox, with its arrival and its place (R185, R249). -/
def State.reqFront (s : State) (h q : Nat) : Option (Nat × Pkt × Nat) :=
  let l := (s.niAt (sliceNi h)).inbox
  (List.range l.length).findSome? (fun i => match l[i]? with
    | some (p, _, t) => if p.h.vn.toNat = Vn.REQ ∧ reqClass p.h = q then some (i, p, t) else none
    | none => none)

/-- The waiting request that may look up again soonest, with its place (R204, R249). -/
def State.waitFront (s : State) (h : Nat) : Option (Nat × Nat) :=
  let l := (s.sliceAt h).waits
  (List.range l.length).foldl (fun a i =>
    match l[i]? with
    | some w => match w.ready, a with
      | some t, none => some (i, t)
      | some t, some (_, u) => if t < u then some (i, t) else a
      | none, _ => a
    | none => a) none

/-- The transfer in progress is a beat of a requester that has not been served. -/
def Slice.granted (x : Slice) (q : Nat) : Bool :=
  match x.cur with
  | some c => c.q == q && !c.served
  | none => false

/-- The transfer's beat has been served. -/
def State.served (s : State) (h : Nat) : State :=
  s.modSlice h (fun x => { x with cur := x.cur.map (fun c => { c with served := true }) })

/-- A wait place goes before the oldest new request of class REQ when it may look up no later (R249). -/
def State.waiterFirst (s : State) (h : Nat) : Bool :=
  match s.waitFront h, s.reqFront h 3 with
  | some _, none => true
  | some (_, t), some (_, _, u) => decide (t ≤ u)
  | none, _ => false

/-- The request that the grant in progress serves, if it has an opcode (R249). -/
def State.grantedReq (s : State) (h op : Nat) : Option (Nat × Pkt) :=
  let x := s.sliceAt h
  let f := if x.granted 2 then s.reqFront h 2 else if x.granted 3 && !s.waiterFirst h then s.reqFront h 3 else none
  match f with
  | some (i, p, _) => if p.h.opcode.toNat = op then some (i, p) else none
  | none => none

/-- A new request is served in the beat granted to it. -/
def State.request (s : State) (h op : Nat) : State :=
  match s.grantedReq h op, s.runs (48 + h) with
  | none, _ => s
  | some _, false => s
  | some (i, p), true =>
    let n := sliceNi h
    let s1 := (s.modNi n (fun u => u.dropIn i)).served h
    let s2 := (s1.evHs h (20 + op) true (some p.h)).evHs h (96 + niTypeCode (niType p.h.src.toNat)) true (some p.h)
    (s2.lookup h p none).flushAll h

/-- RDS: a read-shared request is served at its home by the state of the line (R206, R207, R218, R221). -/
def execRds (h : Fin 16) (s : State) : Outcome := .next (s.request h 1)
/-- RDO: a read with ownership is served at its home (R206, R207, R218, R221). -/
def execRdo (h : Fin 16) (s : State) : Outcome := .next (s.request h 2)
/-- UPG: an upgrade is served at its home (R206, R207, R218, R221). -/
def execUpg (h : Fin 16) (s : State) : Outcome := .next (s.request h 3)
/-- RDC: a read of current data is served at its home (R207, R218, R221). -/
def execRdc (h : Fin 16) (s : State) : Outcome := .next (s.request h 4)
/-- WRI: a masked write is served at its home; WRGO leaves at once (R195, R208, R218, R221). -/
def execWri (h : Fin 16) (s : State) : Outcome := .next (s.request h 5)
/-- WBM: a write-back is served at its home, or at once for a snooped agent (R208, R212, R221). -/
def execWbm (h : Fin 16) (s : State) : Outcome := .next (s.request h 6)
/-- EVC: a notice of a dropped clean copy is served at its home (R206, R208, R212). -/
def execEvc (h : Fin 16) (s : State) : Outcome := .next (s.request h 7)
/-- FNC: a fence is answered once earlier writes of its SRC are visible (R228, R230). -/
def execFnc (h : Fin 16) (s : State) : Outcome := .next (s.request h 8)
/-- HSNP: a host snoop of a PROXY line is served as a transaction, or at once while the line is in MEMR (R219, R220). -/
def execHsnp (h : Fin 16) (s : State) : Outcome := .next (s.request h 9)

/-- HOME_WAITER_START: the waiting request that has been free to start longest looks up again (R204, R205, R245). -/
def execHomeWaiterStart (h : Fin 16) (s : State) : Outcome :=
  let x := s.sliceAt h
  if s.runs (48 + h) && x.granted 3 && s.waiterFirst h then
    match s.waitFront h with
    | some (i, _) =>
      match x.waits[i]? with
      | some w => .next (((s.served h).lookup h w.p (some i)).flushAll h)
      | none => .next s
    | none => .next s
  else .next s

/-! ### Responses -/

/-- A demand has been answered: it leaves the transaction's list (R204, R552). -/
def State.demDone (s : State) (h num : Nat) (d : Dem) (q : Hdr) : State :=
  (s.modTx h num (fun t => { t with dems := t.dems.filter (fun e => e.id != d.id) })).evHs h 86 true (some q)

/-- A line is poisoned unless dirty data has arrived (R213). -/
def State.poisonLine (s : State) (h : Nat) (t : Tx) (proto : Bool) (src : Nat) : State :=
  if t.dirty then s
  else
    let s1 := if proto then s.cohProtocol h src t.agent t.line else s
    (s1.modTx h t.num (fun t => { t with poison := true, poisonAnswer := true })).cohPoison h t.agent t.line

/-- An agent has given its copy up under R212: its EVC or its WBM has been received. -/
def Tx.gaveUp (t : Tx) (a : Nat) : Bool := t.gave.contains a || t.wbs.any (fun w => w.2.2 == a)

/-- A dirty owner's answer brought no data: the line is poisoned, unless group snoops are out that may still bring the owner's dirty copy (R213, R241). -/
def State.doubtLine (s : State) (h : Nat) (t : Tx) (proto : Bool) (src : Nat) : State :=
  if t.dems.any (fun d => d.role == .group) then s.modTx h t.num (fun t => { t with lost := some (proto, src) }) else s.poisonLine h t proto src

/-- The last group snoop has been answered: a line in doubt is poisoned unless its dirty data has come (R213, R241). -/
def State.settleDoubt (s : State) (h num : Nat) : State :=
  match (s.sliceAt h).tx num with
  | none => s
  | some t =>
    match t.lost with
    | some (proto, src) =>
      if t.dems.any (fun d => d.role == .group) then s else (s.modTx h num (fun t => { t with lost := none })).poisonLine h t proto src
    | none => s

/-- The owner's answer to a snoop (R207, R210, R213). A holder whose answer fails, or that has nothing, is no longer recorded, so that RDC leaves U and RDS
the requester alone: DESIGN CHOICE, R213 does not say whether it stays (log entry 49). -/
def State.ownerAnswer (s : State) (h : Nat) (t : Tx) (d : Dem) (failed hit : Bool) (rstate src : Nat) : State :=
  let gone := fun (s : State) => s.modTx h t.num (fun t =>
    { t with new := if t.new.owner = some d.who then { t.new with owner := none } else t.new })
  if failed then (gone s).doubtLine h t false src
  else if !hit then
    let bank := (s.bankOf (sliceNi h) t.epoch).1
    if t.gaveUp d.who || (t.old.st == 2 && s.portSilent bank d.dest) then gone s else (gone s).doubtLine h t true src
  else if d.op = 1 then
    s.modTx h t.num (fun t =>
      if rstate = 4 ∧ t.proxy.isNone = true then { t with new := { t.new with st := 4 } }
      else if rstate = 0 then { t with new := { t.new with owner := none } }
      else { t with new := { t.new with owner := none, ptrs := d.who :: t.new.ptrs } })
  else if d.op = 2 then gone s
  else s

/-- A clean holder that failed or dropped its copy is removed: a pointer, or the group bits that name its port alone (R213). -/
def State.dropSharer (s : State) (h : Nat) (t : Tx) (d : Dem) (failed : Bool) : State :=
  match d.role with
  | .group =>
    match t.new.vec with
    | some i =>
      if failed then
        let bank := (s.bankOf (sliceNi h) t.epoch).1
        let out := (List.range 64).filter (fun g => (d.who == 64 || d.who == g) && s.groupMask h bank g == 2 ^ d.dest)
        s.modSlice h (fun x => { x with vec := setDirW x.vec i (out.foldl (fun w g => w &&& ~~~(BitVec.ofNat 64 (2 ^ g))) (dirW x.vec i)) })
      else s
    | none => s
  | _ => s.modTx h t.num (fun t => { t with new := { t.new with ptrs := t.new.ptrs.filter (· != d.who) } })

/-- The answer to a snoop: SRSP or SDATA (R201, R204, R210, R213, R219). -/
def State.snoopAnswer (s : State) (h : Nat) (t : Tx) (d : Dem) (p : Pkt) : State :=
  let q := p.h
  let failed := q.resp != Resp.OK && q.resp != Resp.ERR_POISON
  let hit := !failed && msgHit q.msg
  let rs := if hit then msgRstate q.msg else 0
  let sdata := q.vn.toNat == Vn.DAT && !failed
  let dirty := sdata && msgDirty q.msg
  let s1 := s.modTx h t.num (fun t => { t with
    data := if sdata && (dirty || !t.dirty) then p.lines.head? else t.data
    dirty := t.dirty || dirty
    forwarded := t.forwarded || (d.fwd && hit)
    hit := t.hit || hit
    kept := max t.kept rs })
  match (s1.sliceAt h).tx t.num with
  | none => s1
  | some t1 =>
    match d.role with
    | .owner => s1.ownerAnswer h t1 d failed hit rs q.src.toNat
    | .port => if failed then s1.poisonLine h t1 false q.src.toNat else s1
    | .group => (if failed || rs == 0 then s1.dropSharer h t1 d failed else s1).settleDoubt h t.num
    | _ => if d.role == .evict || failed || rs == 0 then s1.dropSharer h t1 d failed else s1

/-- The answer to a read of memory or of the host: its line, unless dirty data is in, its error, and the host grant (R210, R213, R218). -/
def State.readAnswer (s : State) (h : Nat) (t : Tx) (p : Pkt) : State :=
  let q := p.h
  let ok := q.resp == Resp.OK || q.resp == Resp.ERR_POISON
  s.modTx h t.num (fun t => { t with
    data := if ok && !t.dirty && !p.lines.isEmpty then p.lines.head? else t.data
    failed := if ok then t.failed else q.resp
    new := if t.proxy.isSome && ok then { t.new with hostg := msgGrant q.msg % 4 } else t.new })

/-- DEFER_POISON: a poisoning write that ended with ERR_FENCED toward die B is deferred and its entry freed (R586, R590). -/
def State.deferPoison (s : State) (h : Nat) (t : Tx) (target : Nat) : State :=
  let n := sliceNi h
  (s.modTx h t.num (fun t => { t with new := View.u })).handOver n 248
    (s.mgtPkt n 6 [BitVec.ofNat 64 (0x13 * 2 ^ 56), BitVec.ofNat 64 t.line, BitVec.ofNat 64 target]) none 0

/-- The answer to a write of memory or to the host: MCMP or PXCMP (R218, R586). -/
def State.writeAnswer (s : State) (h : Nat) (t : Tx) (d : Dem) (q : Hdr) : State :=
  if d.op = 5 then (if t.poison ∧ q.resp = Resp.ERR_FENCED ∧ niOnB d.dest = true then s.deferPoison h t d.dest else s)
  else s.modTx h t.num (fun t => { t with new := { t.new with hostg := if d.op = 11 then 1 else 0 } })

/-- A response that answers a demand of the slice, matched by the demand's identifier (R201). -/
def State.demAnswer (s : State) (h : Nat) (p : Pkt) (id : Nat) : State :=
  match (s.sliceAt h).recs.find? (fun t => t.dems.any (fun d => d.id == id)) with
  | none => s
  | some t =>
    match t.dems.find? (fun d => d.id == id) with
    | none => s
    | some d =>
      let s1 := s.demDone h t.num d p.h
      let s2 := match d.role with
        | .read => s1.readAnswer h t p
        | .write => s1.writeAnswer h t d p.h
        | _ => s1.snoopAnswer h t d p
      s2.progress h t.num

/-- The response in the beat granted to RESPONSE, if the front packet of its VN has an opcode (R249). -/
def State.response (s : State) (h vn op cnt : Nat) (act : State → Pkt → Nat → State) : State :=
  if s.runs (48 + h) && (s.sliceAt h).granted 1 then
    match s.takeIn (sliceNi h) vn (fun p => p.h.opcode.toNat == op) with
    | none => s
    | some (p, id, s1) => (act ((s1.served h).evHs h cnt true (some p.h)) p id).flushAll h
  else s

/-- SRSP: a snoop response without data arrives at the home; a synthesised one stands for any demand (R201, R202, R204, R210, R213). -/
def execSrsp (h : Fin 16) (s : State) : Outcome := .next (s.response h Vn.RSP 4 59 (fun s p id => s.demAnswer h p id))
/-- SDATA: a snoop response with data arrives at the home (R201, R204, R210, R213). -/
def execSdata (h : Fin 16) (s : State) : Outcome := .next (s.response h Vn.DAT 3 60 (fun s p id => s.demAnswer h p id))
/-- MDATA: memory data arrives at the home (R201, R204, R210, R213). -/
def execMdata (h : Fin 16) (s : State) : Outcome := .next (s.response h Vn.DAT 4 61 (fun s p id => s.demAnswer h p id))
/-- MCMP: a memory write has been done (R201, R204, R586). -/
def execMcmp (h : Fin 16) (s : State) : Outcome := .next (s.response h Vn.RSP 7 62 (fun s p id => s.demAnswer h p id))
/-- PXDATA: the host's data and grant arrive at the home (R201, R204, R218). -/
def execPxdata (h : Fin 16) (s : State) : Outcome := .next (s.response h Vn.DAT 5 63 (fun s p id => s.demAnswer h p id))
/-- PXCMP: the host's completion without data arrives at the home (R201, R204, R218). -/
def execPxcmp (h : Fin 16) (s : State) : Outcome := .next (s.response h Vn.RSP 8 64 (fun s p id => s.demAnswer h p id))

/-- WDATA and CACK that match no transaction awaiting them are discarded with COH_PROTOCOL (R201). -/
def State.unmatched (s : State) (h : Nat) (q : Hdr) : State := s.cohProtocol h q.src.toNat q.agent.toNat 0

/-- WDATA: write data arrives and is merged, for the transaction's own write or for a write-back served under R212 (R201, R208, R212, R228). -/
def execWdata (h : Fin 16) (s : State) : Outcome :=
  .next (s.response h Vn.DAT 2 65 (fun s p _ =>
    let q := p.h
    let b := p.lines.headD ⟨true, allBytes, 0⟩
    let mine := fun (w : Nat × Nat × Nat) => w.1 == q.town && w.2.1 == q.tag.toNat
    match (s.sliceAt h).recs.find? (fun t => t.wdat && t.h.src.toNat == q.town && t.h.tag == q.tag) with
    | some t => (s.modTx h t.num (fun t => { t with wdat := false, wdata := some b })).progress h t.num
    | none =>
      match (s.sliceAt h).recs.find? (fun t => t.wbs.any mine) with
      | none => s.unmatched h q
      | some t =>
        let left := t.wbs.filter (fun w => !mine w)
        let s1 := s.modTx h t.num (fun t => { t with
          wbs := left
          gave := t.gave ++ (t.wbs.filter mine).map (fun w => w.2.2)
          data := some b
          dirty := true })
        let s2 := if left.any (fun w => w.1 == q.town) then s1 else s1.passFences h (256 + t.num)
        s2.progress h t.num))

/-- CACK: the requester has installed its grant (R201, R204, R217). -/
def execCack (h : Fin 16) (s : State) : Outcome :=
  .next (s.response h Vn.RSP 5 66 (fun s p _ =>
    let q := p.h
    match (s.sliceAt h).recs.find? (fun t => t.ackw.isSome && t.h.src.toNat == q.town && t.h.tag == q.tag) with
    | some t => (s.modTx h t.num (fun t => { t with ackw := none })).progress h t.num
    | none => s.unmatched h q))

/-- COH_ACK_TIMEOUT: CACK has not arrived within the TO_COH limit of the HSL NI, and the home leaves ACKW with the granted state (R211). -/
def execCohAckTimeout (h : Fin 16) (num : Fin 256) (s : State) : Outcome :=
  let n := sliceNi h
  match (s.sliceAt h).tx num with
  | none => .next s
  | some t =>
    match t.ackw with
    | none => .next s
    | some t0 =>
      if t0 + 2 ^ (s.fld (Off.NI_TIMEOUT n) Fld.NI_TIMEOUT.TO_COH + 10) ≤ s.niTime n ∧ s.timeRuns n = true then
        .next (((((s.modTx h t.num (fun t => { t with ackw := none })).reportAt n 2 .COH_ACK_TIMEOUT 0 t.agent t.line).evHs h 77 true
          (some t.h)).progress h t.num).flushAll h)
      else .next s

end Sys2Proof.Machine
end

