-- ==== Sys2Proof/Machine/HomeArb.lean ====
section
/-! DEFINITION. Meanings of a home slice's arbiter, of its wear and error handling, of its scrubber and of its diagnostic accesses
(R237, R242, R248 to R263, R273 to R275, R526). -/
namespace Sys2Proof.Machine

/-! ### Staging errors -/

/-- A packet with POISON in every flit that carries line data. -/
def Pkt.spoiled (p : Pkt) : Pkt :=
  { h := { p.h with poison := p.h.poison || p.h.hdata }, pl := p.pl, body := p.body.map (fun y => { y with poison := true }) }

/-- An uncorrectable byte in the staging line of a transaction: write packets that still wait to be handed over leave with POISON, a recall's
poisoning its line, and otherwise the completion is spoiled as its transaction closes (R213, R248). -/
def State.stgLost (s : State) (h num : Nat) : State :=
  let line := match (s.sliceAt h).tx num with
    | some t => if t.unsent.any (fun e => !e.2.1.lines.isEmpty) && t.op != 6 then some (t.agent, t.line) else none
    | none => none
  let s1 := s.modSlice h (fun x => { x.modTx num (fun t => { t with
      stgUe := true, unsent := t.unsent.map (fun e => (e.1, if e.2.1.lines.isEmpty then e.2.1 else e.2.1.spoiled, e.2.2)) }) with
    bulk := x.bulk.map (fun b => if b.1 = num then (b.1, b.2.1, b.2.2.1.spoiled, b.2.2.2) else b) })
  match line with
  | some (a, l) => s1.cohPoison h a l
  | none => s1

/-- A staging line error (R248). -/
def State.stgErr (s : State) (h : Nat) (e : StgErr) : State :=
  let o := Off.HS_STG_ERR h
  let s1 := if e.ce then
      let s1 := (((s.bump o Fld.HS_STG_ERR.CE).setFld o Fld.HS_STG_ERR.LAST_LINE e.line).setFld (Off.HS_ERR_STATUS h)
        Fld.HS_ERR_STATUS.STG_CE 1).evHs h 126 false none
      let ep := epochMark (s.niTime (sliceNi h))
      if s.flag (Off.HS_CTRL h) Fld.HS_CTRL.CE_REPORT && (s.sliceAt h).stgCeEpoch != ep then
        (s1.modSlice h (fun x => { x with stgCeEpoch := ep })).reportHs h .STG_CE e.line 0 0 7
      else s1
    else s
  match e.ue with
  | none => s1
  | some num =>
    ((((s1.bump o Fld.HS_STG_ERR.UE).setFld o Fld.HS_STG_ERR.LAST_LINE e.line).setFld (Off.HS_ERR_STATUS h)
      Fld.HS_ERR_STATUS.STG_UE 1).reportHs h .STG_UE e.line 0 0 7).stgLost h num

/-! ### The arbiter -/

/-- The oldest of some times. -/
def oldest (l : List Nat) : Option Nat :=
  l.foldl (fun a t => match a with
    | none => some t
    | some u => some (min t u)) none

/-- Recalls and recoveries with demands to send for which tags are free (R232, R249). -/
def State.recallsReady (s : State) (h : Nat) : List Tx :=
  let free := s.demandTags (sliceNi h)
  (s.sliceAt h).recs.filter (fun t => t.recalling && t.staged && !t.unsent.isEmpty && decide (t.unsent.length ≤ free))

/-- The recall whose demands were raised first. -/
def State.recallNext (s : State) (h : Nat) : Option Tx :=
  (s.recallsReady h).foldl (fun a t => match a with
    | none => some t
    | some u => if t.raised < u.raised then some t else some u) none

/-- Beats of the transfer that requester q would make (R249). -/
def State.beats (s : State) (h q : Nat) : Nat :=
  let x := s.sliceAt h
  if q = 0 then ((s.recallNext h).map (fun t => min 8 t.unsent.length)).getD 1
  else if q = 4 then
    match x.bulk with
    | b :: _ => min 8 (x.bulk.filter (fun e => e.2.1 == b.2.1)).length
    | [] => 1
  else if q = 5 then
    match x.maint.find? (fun e => x.maintReady e.1) with
    | some (.spare _ _, _) => 2
    | _ => 1
  else 1

/-- The scrubber has a read to make, of its lap or again (R273 to R275). -/
def State.scrubWants (s : State) (h : Nat) : Bool :=
  s.flag (Off.HS_CTRL h) Fld.HS_CTRL.SCRUB_EN && ((s.sliceAt h).scrub.isSome || !(s.sliceAt h).reread.isEmpty)

/-- The age of the oldest request of requester q, if it has one (R249, R250). -/
def State.reqAge (s : State) (h q : Nat) : Option Nat :=
  let n := sliceNi h
  let x := s.sliceAt h
  if q = 0 then
    oldest ((s.recallsReady h).map (·.raised))
  else if q = 1 then
    oldest (((s.niAt n).inbox.filter (fun e => e.1.h.vn.toNat == Vn.RSP || e.1.h.vn.toNat == Vn.DAT)).map (fun e => e.2.2))
  else if q = 2 then (s.reqFront h 2).map (fun e => e.2.2)
  else if q = 3 then oldest (((s.reqFront h 3).map (fun e => e.2.2)).toList ++ ((s.waitFront h).map (·.2)).toList)
  else if q = 4 then (if 1 ≤ s.demandTags n then oldest (x.bulk.map (fun b => b.2.2.2.2)) else none)
  else if q = 5 then oldest ((x.maint.filter (fun e => x.maintReady e.1)).map (·.2))
  else none

/-- Requester q is masked: HI, with a quota that the window has used up (R252). -/
def State.arbMasked (s : State) (h q : Nat) : Bool :=
  let quota := bits (s.rd (Off.HS_ARB_QUOTA h)) (8 * q) 8
  decide (q ≤ 5) && (s.fld (Off.HS_ARB_CFG h) Fld.HS_ARB_CFG.HI).testBit q && quota != 0 &&
    decide (quota ≤ KMap.get (fun _ => 0) (s.sliceAt h).win q)

/-- The effects of a BULK or MAINT transfer come after its last beat (R251). -/
def State.endTransfer (s : State) (h : Nat) : State :=
  let x := s.sliceAt h
  match x.cur with
  | none => s
  | some c =>
    if c.served then s
    else if c.q = 4 then
      match x.bulk with
      | [] => s
      | b :: _ =>
        let n := min 8 (s.demandTags (sliceNi h))
        let out := (x.bulk.filter (fun e => e.2.1 == b.2.1)).take n
        let rest := x.bulk.filter (fun e => !out.contains e)
        ((s.setSlice h { x with bulk := rest, pre4 := 0 }).sendDems h (out.map (fun e => (e.2.2.2.1, e.2.2.1, e.2.1)))).evHs h 120 false none
    else if c.q = 5 then
      match x.maint.findIdx? (fun e => x.maintReady e.1) with
      | none => s
      | some i =>
        match x.maint[i]? with
        | some (m, _) => ((s.setSlice h { x with maint := x.maint.eraseIdx i, pre5 := 0 }).doMaint h m).evHs h 121 false none
        | none => s
    else s

/-- Requester q takes the pipeline: its grants and beats count, and a recall's demands leave (R249, R252, R552). -/
def State.grant (s : State) (h q : Nat) : State :=
  let b := s.beats h q
  let s1 := ((s.evHs h (4 + q) false none).evHsBy h (11 + q) b).modSlice h (fun x => { x with
    cur := some ⟨q, b, q == 0⟩
    win := if q ≤ 5 then KMap.set (fun _ => 0) x.win q (KMap.get (fun _ => 0) x.win q + 1) else x.win })
  if q = 0 then
    match s1.recallNext h with
    | some t => (s1.flushTx h t.num true).evHs h 122 false none
    | none => s1
  else s1

/-- The requester that a decision grants (R250). -/
def State.choose (s : State) (h : Nat) (eighth : Bool) : Option Nat :=
  let l := (List.range 6).filterMap (fun q => (s.reqAge h q).map (fun t => (q, t)))
  let open' := l.filter (fun e => !s.arbMasked h e.1)
  if eighth then
    (l.foldl (fun a e => match a with
      | none => some e
      | some b => if e.2 < b.2 then some e else some b) none).map (·.1)
  else
    match open' with
    | e :: _ => some e.1
    | [] => (l.head?).map (·.1)

/-- HOME_ARBITER_DECISION: during the last beat of a transfer the arbiter chooses the next one; a beat granted to a request, a response
or the scrubber must have been served first. `stg` is what the staging check has found, and `errs` what the checks of the words find that the beat now
granted reads, so that the beat's own lookup already waits for a line recovery (R237, R248 to R263). -/
def execHomeArbiterDecision (h : Fin 16) (errs : List DirErr) (stg : StgErr) (s : State) : Outcome :=
  let waiting := match (s.sliceAt h).cur with
    | some c => !c.served && c.q != 4 && c.q != 5
    | none => false
  if waiting || !s.runs (48 + h) then .next s
  else
    let s1 := ((s.stgErr h stg).endTransfer h).flushAll h
    let o := Off.HS_ARB_STATUS h
    let d := (s1.fld o Fld.HS_ARB_STATUS.DECISION + 1) % 8
    match s1.choose h (d == 0) with
    | some q =>
      let s2 := s1.setFld o Fld.HS_ARB_STATUS.DECISION d
      let low := (List.range 6).find? (fun k => (s1.reqAge h k).isSome && !s1.arbMasked h k)
      let s3 := if d = 0 ∧ low ≠ some q then (s2.bump o Fld.HS_ARB_STATUS.AGE_GRANTS).evHs h 19 false none else s2
      .next (errs.foldl (fun s e => s.dirErr h e) (s3.grant h q))
    | none => .next (if s1.scrubWants h then s1.grant h 6 else s1.modSlice h (fun x => { x with cur := none }))

/-- HOME_PREEMPT: RECALL or RESPONSE takes the pipeline from a BULK or MAINT transfer, which is abandoned and keeps its age (R251). -/
def execHomePreempt (h : Fin 16) (q : Fin 2) (s : State) : Outcome :=
  let x := s.sliceAt h
  let may := fun k => (s.fld (Off.HS_ARB_CFG h) Fld.HS_ARB_CFG.PREEMPT).testBit k && (s.reqAge h k).isSome && !s.arbMasked h k
  match x.cur with
  | none => .next s
  | some c =>
    let count := if c.q = 4 then x.pre4 else x.pre5
    if (c.q = 4 ∨ c.q = 5) ∧ 1 < c.beats ∧ count < 3 ∧ may q = true ∧ (q.val = 0 ∨ may 0 = false) then
      let s1 := s.modSlice h (fun x => if c.q = 4 then { x with pre4 := x.pre4 + 1 } else { x with pre5 := x.pre5 + 1 })
      .next (((s1.bump (Off.HS_ARB_STATUS h) Fld.HS_ARB_STATUS.PREEMPTS).evHs h 18 false none).grant h q)
    else .next s

/-- QUOTA_WINDOW_START: the grants of the window before are forgotten, and committed arbiter settings become active (R252, R253). -/
def execQuotaWindowStart (h : Fin 16) (s : State) : Outcome :=
  let s1 := s.modSlice h (fun x => { x with win := [], arb := none })
  match (s.sliceAt h).arb with
  | none => .next s1
  | some (c, q) =>
    let put := fun (s : State) (o : Nat) (w : W64) => let s1 := s.wr o w; if s.pendOf o = w then s1.dropPend o else s1
    .next (put (put s1 (Off.HS_ARB_CFG h) c) (Off.HS_ARB_QUOTA h) q)

/-- HS_ARB_COMMIT: the arbiter group is committed for the next quota window (R253). -/
def execHsArbCommit (h : Fin 16) (s : State) : Outcome :=
  .next (s.modSlice h (fun x => { x with arb := some (s.pendOf (Off.HS_ARB_CFG h), s.pendOf (Off.HS_ARB_QUOTA h)) }))

/-! ### The scrubber -/

/-- Reads of a lap (R273). -/
def lapReads : Nat := 544960

/-- The word that read k of a lap reads: store, set or index, and way (R273). -/
def scrubWord (k odd : Nat) : Nat × Nat × Nat :=
  if k < 16384 * 33 then
    let r := k % 33
    if r = 0 then (4, k / 33, 0) else if r ≤ 16 then (0, k / 33, r - 1) else (1 + (r - 17) % 2, k / 33, (r - 17) / 2 * 2 + odd % 2)
  else if k < 16384 * 33 + 4096 then (3, k - 16384 * 33, 0)
  else if k < 16384 * 33 + 4096 + 64 then (5, k - 16384 * 33 - 4096, 0)
  else (6, (k - 16384 * 33 - 4096 - 64) / 2, 0)

/-- What the scrubber's check of a word finds: a corrected word is to be written back, and both kinds of error act as a lookup's would (R273). -/
def State.scrubFound (s : State) (h k : Nat) (e : DirErr) : State :=
  let (st, ix, wy) := scrubWord k e.way
  let e' : DirErr := { e with store := Fin.ofNat 7 st, index := Fin.ofNat 16384 ix, way := Fin.ofNat 16 wy }
  let s1 := s.dirErr h e'
  if e.ue then s1
  else (s1.maint h (.writeBack k st ix wy ((s.sliceAt h).scrubSeen st ix))).evHs h 94 false none

/-- SCRUB_READ: in an idle beat the scrubber reads the next word of its lap, or first a word whose write-back it has dropped; a corrected word is written
back by a MAINT transfer, and an uncorrectable one acts as for a lookup; the lap's end records its length (R273 to R275). -/
def execScrubRead (h : Fin 16) (err : Option DirErr) (s : State) : Outcome :=
  let x := s.sliceAt h
  let found := fun (k : Nat) (s : State) => match err with
    | none => s
    | some e => s.scrubFound h k e
  if !x.granted 6 then .next s
  else
    let s1 := (s.served h).evHs h 93 false none
    match x.reread, x.scrub with
    | k :: rest, _ => .next (found k (s1.modSlice h (fun x => { x with reread := rest })))
    | [], none => .next s
    | [], some k =>
      let now := s.niTime (sliceNi h)
      let s2 := found k (s1.modSlice h (fun x => { x with
        scrub := if k + 1 < lapReads then some (k + 1) else none
        lapFirst := if k = 0 then now else x.lapFirst }))
      if k + 1 < lapReads then .next s2
      else .next ((s2.setFld (Off.HS_SCRUB_STATUS h) Fld.HS_SCRUB_STATUS.LAP_FT (now - (s2.sliceAt h).lapFirst)).evHs h 95 false none)

/-- SCRUB_LAP_START: a new lap starts, no earlier than MIN_LAP · 2^20 ft after the start of the one before (R275). -/
def execScrubLapStart (h : Fin 16) (s : State) : Outcome :=
  let x := s.sliceAt h
  let now := s.niTime (sliceNi h)
  let due := match x.lapStart with
    | none => true
    | some t => decide (t + s.fld (Off.HS_SCRUB_CFG h) Fld.HS_SCRUB_CFG.MIN_LAP * 2 ^ 20 ≤ now)
  if s.flag (Off.HS_CTRL h) Fld.HS_CTRL.SCRUB_EN && x.scrub.isNone && due then
    .next (s.modSlice h (fun x => { x with scrub := some 0, lapStart := some now }))
  else .next s

/-! ### Diagnostic accesses -/

/-- A diagnostic access joins the MAINT work behind those before it (R249, R526). -/
def State.askDiag (s : State) (h : Nat) (write : Bool) (sel data chk : W64) : State :=
  s.modSlice h (fun x => { x with maint := x.maint ++ [(.diag write sel data chk, s.niTime (sliceNi h))] })

/-- HS_DIAG_GO: HS_DIAG_SEL is written, and a MAINT transfer will read the selected word into HS_DIAG_DATA, with its check bits (R249, R526). -/
def execHsDiagGo (h : Fin 16) (sel : W64) (s : State) : Outcome :=
  let w := BitVec.ofNat 64 (bits sel 29 3 * 2 ^ 29 + bits sel 15 14 * 2 ^ 15 + bits sel 11 4 * 2 ^ 11)
  .next ((s.wr (Off.HS_DIAG_SEL h) w).askDiag h false w 0 0)

/-- HS_DIAG_DATA_WRITE: while DIAG_EN is 1 a MAINT transfer will replace the selected word, with raw or generated check bits; a staging line in use
refuses the write and sets BUSY (R249, R259, R260, R526). -/
def execHsDiagDataWrite (h : Fin 16) (data : W64) (s : State) : Outcome :=
  if !s.flag (Off.HS_CTRL h) Fld.HS_CTRL.DIAG_EN then .next s
  else
    let s1 := s.setFld (Off.HS_DIAG_CHK h) Fld.HS_DIAG_CHK.RAW 0
    .next (s1.askDiag h true (s.rd (Off.HS_DIAG_SEL h)) data (s.rd (Off.HS_DIAG_CHK h)))

end Sys2Proof.Machine
end

