-- ==== Sys2Proof/Machine/Views.lean ====
section
/-! DEFINITION. What the registers of the configuration window read as: the register file, with the identity of each unit and the fields that
show unit state laid over it (R8, R10, R594, R595). -/
namespace Sys2Proof.Machine

/-- A word with fields laid over it: low bit, width and value of each. -/
def lay (w : W64) (l : List (Nat × Nat × Nat)) : W64 := l.foldl (fun a f => setBits a f.1 f.2.1 f.2.2) w

/-- GL_STATUS (chapter 1). -/
def State.glStatus (s : State) : W64 :=
  lay 0 [(7, 1, b2n s.pins.debugEn), (6, 1, b2n s.pins.testMode), (2, 4, (List.range 4).foldl (fun a b => a + b2n (s.lidClosed b) * 2 ^ b) 0),
    (1, 1, b2n s.pins.fatal), (0, 1, b2n s.pins.ready)]

/-- FT_STATUS (chapter 2). -/
def State.ftStatus (s : State) : W64 :=
  let t := s.time
  let beyond := fun (r : Ref) (k : Nat) => b2n (decide ((k : Int) < r.drift ∨ r.drift < -(k : Int)))
  lay 0 [(16, 8, ((List.range 48).filter (fun i => s.domOn i && !(s.islAt i).aligned)).length), (12, 4, t.goodEpochs),
    (11, 1, b2n (decide (t.conf = .holdover ∨ t.conf = .unset))), (10, 1, b2n t.running), (9, 1, b2n t.refB.lost), (8, 1, b2n t.refA.lost),
    (7, 1, b2n t.refB.out), (6, 1, b2n t.refA.out), (5, 1, beyond t.refB 320), (4, 1, beyond t.refA 320), (2, 1, b2n t.selB), (0, 2, t.conf.code)]

/-- The island time block (chapter 2): word k of island i over the register file's word. -/
def State.islReg (s : State) (i k : Nat) (w : W64) : W64 :=
  let l := s.islAt i
  if k = 0 then lay w [(3, 1, b2n l.aligned), (2, 1, b2n l.held), (0, 2, l.conf.code)]
  else if k = 8 then lay w [(48, 16, l.curMhz), (32, 16, l.runMhz), (16, 16, l.floorMhz), (0, 1, b2n l.moving)]
  else w

/-- Fields of RT_GATE_P (chapter 4). -/
def State.gateReg (s : State) (t p : Nat) : W64 :=
  let b := s.rtBank t
  let hw := s.gateHead t p b
  let i := tileIsland t
  let has := bits hw 16 8 != 0
  let ws := s.outWindows t p
  let now := s.local16 i
  let nxt := match nextOpen ws (now % frame16) with
    | some d => (now + d) % 2 ^ 16
    | none => 0
  lay 0 [(48, 16, bits hw 48 16), (32, 16, bits hw 32 16), (16, 16, nxt), (7, 1, b2n (bit hw 31)), (6, 1, b2n has),
    (2, 2, (gateMode (s.effConf i) (has || s.gateBad t p b) (bit hw 31)).code), (1, 1, b2n (windowOpen ws (now % frame16)))]

/-- The router block (chapter 4): register k of tile t. -/
def State.rtReg (s : State) (t k : Nat) (w : W64) : W64 :=
  if k = 0 then BitVec.ofNat 64 (rtId t)
  else if k = 0x10 then
    lay 0 ((List.range 6).flatMap (fun p =>
      [(4 * p + 2, 2, (s.nbrOf t p).code), (4 * p + 1, 1, b2n (portFlag (s.rtAt t).wakePend p)), (4 * p, 1, b2n (portEdge t p || s.fenced t p))]))
  else if 0x40 ≤ k ∧ k < 0x70 then s.gateReg t ((k - 0x40) / 8)
  else if 0xC0 ≤ k ∧ k < 0xF0 then
    let p := (k - 0xC0) / 8
    if portEdge t p then 0
    else lay 0 ((List.range 8).flatMap (fun v => [(4 * v + 3, 1, s.credit (outKey t p) v true), (4 * v, 3, s.credit (outKey t p) v false)]))
  else w

/-- NI_ID (chapter 5). -/
def niId (n : Nat) : Nat :=
  n * 2 ^ 32 + niTypeCode (niType n) * 2 ^ 29 + b2n (niPort n == 5) * 2 ^ 28 + niTile n * 2 ^ 20 + niIsland n * 2 ^ 14 + niBand n * 2 ^ 12 +
    b2n (niOnB n) * 2 ^ 11 + b2n (niHasMeter n) * 2 ^ 10 + b2n (niHasDgt n) * 2 ^ 9

/-- NI_TAG_INFO of a tag (chapter 5). -/
def Tag.info (x : Tag) : W64 :=
  if x.st = .free then 0
  else
    let h := (x.req.map (·.h)).getD Hdr.zero
    lay 0 [(62, 2, x.st.code), (58, 4, x.resends), (55, 3, h.vn.toNat), (53, 2, h.epoch.toNat), (45, 8, x.dest), (8, 32, x.sentAt.getD 0)]

/-- A shaper holds its head packet: HELD of NI_SHAPER_STAT_p. -/
def State.shaperHeld (s : State) (n p : Nat) : Bool :=
  let u := s.niAt n
  let head := if p = 3 then u.flows.any (fun e => e.2.ready && (e.2.head.map (fun q => q.p.h.pri.toNat == 2)).getD false)
    else if p = 2 then !u.p2.isEmpty else if p = 1 then !u.p1.isEmpty else !u.p0.isEmpty
  head && s.shaperHolds n p

/-- The NI block (chapters 5, 8 to 10, 13, 16 to 18): register k of NI n. -/
def State.niReg (s : State) (n k : Nat) (w : W64) : W64 :=
  let u := s.niAt n
  if k = 0 then BitVec.ofNat 64 (niId n)
  else if k = 0x10 then
    lay 0 [(38, 2, u.ep.epoch), (37, 1, b2n u.ep.draining), (36, 1, b2n (!u.ep.holds.isEmpty)), (35, 1, b2n (s.niFenced n)), (34, 1, b2n u.fenceHw),
      (21, 11, u.txFree), (10, 11, u.rxFree)]
  else if k = 0x40 then
    lay 0 [(45, 9, u.tagCount .opened), (36, 9, u.tagCount .retryWait), (27, 9, u.tagCount .quarantine), (18, 9, u.highWater)]
  else if k = 0x70 then (u.tag (s.fld (Off.NI_TAG_SEL n) Fld.NI_TAG_SEL.TAG)).info
  else if k = 0xA0 then lay 0 [(7, 1, b2n u.ep.armed), (5, 2, u.ep.armEpoch), (4, 1, u.ep.bank)]
  else if k = 0xC0 then lay 0 [(48, 16, u.ep.sentOld), (32, 16, s.drainRecv n), (16, 16, s.drainUnkn n)]
  else if k = 0x400 then lay w [(0, 1, b2n u.shaperCommit.isSome)]
  else if k = 0x208 then
    lay 0 [(32, 9, if niType n = .cla then (s.portAt n).opens.length else 0), (23, 9, (u.recs.filter (fun e => e.2.isSome)).length),
      (0, 1, b2n (s.portAt n).up)]
  else if 0x418 ≤ k ∧ k ≤ 0x448 ∧ (k - 0x418) % 16 = 0 then
    let p := (k - 0x418) / 16
    let x := (u.shaper p).touch (u.shaperBusy p) (s.niTime n)
    lay 0 [(32, 32, unsigned 32 x.c), (16, 16, x.busy), (0, 1, b2n (s.shaperHeld n p))]
  else if 0x480 ≤ k ∧ k < 0x500 then
    if niHasMeter n then
      let x := u.meter (s.fld (Off.NI_METER_SEL n) Fld.NI_METER_SEL.METER)
      if k = 0x488 then x.rate else if k = 0x490 then x.burst
      else if k = 0x498 then lay 0 [(32, 32, x.tp), (0, 32, x.tc)]
      else if k = 0x4A0 then lay 0 [(48, 16, x.green), (32, 16, x.yellow), (16, 16, x.red), (0, 16, x.dropped)]
      else w
    else 0
  else if k = 0x500 then
    lay 0 [(32, 32, u.demoted.toNat), (0, 32, (List.range 32).foldl (fun a f => a + b2n (s.isFlow n f) * 2 ^ f) 0)]
  else if k = 0x600 then
    lay 0 [(32, 32, u.strain.gen), (2, 1, b2n u.strain.reloading), (1, 1, b2n (!u.strain.held.isEmpty)), (0, 1, b2n u.strain.stale)]
  else if k = 0x640 then lay w [(0, 4, min 15 u.heldFaults.length)]
  else if k = 0x698 then
    if s.pins.testMode then
      let armed := match s.sc.inj with
        | some j => if j.target = n ∧ j.point ≠ 0 ∧ j.point ≠ 5 then some j else none
        | none => none
      lay 0 [(60, 4, (armed.map (·.point)).getD 0), (52, 8, (armed.map (·.left)).getD 0), (36, 16, KMap.get (fun _ => 0) s.sc.injDone n),
        (0, 1, b2n armed.isSome)]
    else 0
  else if k = 0x710 then
    lay 0 [(57, 7, (u.leaf.recs.filter (fun e => e.2.isSome)).length), (52, 5, u.leaf.stamps.length), (0, 31, u.leaf.lfsr.toNat)]
  else if 0x1000 ≤ k then
    if n = 253 then
      let c := s.pm
      let shown := fun (p : PmPage → Bool) => (c.banks.filter (fun e => decide (some (e.1 / 464) = c.shown) && (e.2.map p).getD false)).length
      let st := fun (v : Nat) (p : PmPage) => bits p.hdr 30 2 == v
      if k = 0x1000 then
        lay 0 [(32, 32, (c.fill.map (·.1)).getD c.shownNum), (23, 9, if c.fill.isSome then 464 - c.settled.length else 0), (22, 1, c.shown.getD 0),
          (21, 1, b2n c.shown.isSome)]
      else if k = 0x1008 then
        lay 0 [(48, 16, shown (st 1)), (32, 16, shown (st 2)), (16, 16, shown (st 3)), (0, 16, shown (fun p => bit p.hdr 29))]
      else if k = 0x1010 then BitVec.ofNat 64 c.shownT
      else w
    else 0
  else w

/-- The home slice block (chapter 7): register k of slice h. -/
def State.hsReg (s : State) (h k : Nat) (w : W64) : W64 :=
  let x := s.sliceAt h
  if k = 0 then lay 0 [(12, 4, h), (4, 8, sliceNi h), (0, 1, b2n (sliceOnB h))]
  else if k = 0x10 then
    lay 0 [(46, 9, x.recs.length), (36, 10, x.waits.length), (23, 13, 4096 - x.vecUsed.length), (13, 10, 512 - s.stgUsed h)]
  else if k = 0x28 then lay w [(0, 6, (List.range 6).foldl (fun a q => a + b2n (s.arbMasked h q) * 2 ^ q) 0)]
  else if k = 0x58 then
    match x.scrub with
    | none => lay w [(14, 2, if x.lapStart.isSome then 3 else 0), (0, 14, 0)]
    | some r => let (st, ix, _) := scrubWord r 0; lay w [(14, 2, if st = 3 then 1 else if 5 ≤ st then 2 else 0), (0, 14, ix)]
  else if k = 0x60 then lay w [(0, 1, b2n (x.maint.any (fun e => match e.1 with
    | .diag false _ _ _ => true
    | _ => false)))]
  else w

/-- The link controller block (chapter 11): register k of half e of controller c. -/
def State.lkReg (s : State) (c e k : Nat) (w : W64) : W64 :=
  let l := s.lkAt c e
  if k = 0 then lay 0 [(8, 8, c), (7, 1, b2n (lkSeam c)), (6, 1, e)]
  else if k = 8 then (if lkSeam c then lay w [(Fld.LK_CFG.END_ID.lo, Fld.LK_CFG.END_ID.w, e)] else w)
  else if k = 0x18 then
    lay 0 [(56, 8, l.peerId), (44, 12, l.txNext), (32, 12, l.rxAck), (21, 11, l.recs.length), (14, 7, l.held.length), (9, 2, l.width),
      (8, 1, b2n (decide (l.st = .inService ∨ l.st = .pre ∨ l.st = .paused))), (0, 4, l.st.code)]
  else w

/-- The Service Bridge block (chapter 12). -/
def State.sbReg (s : State) (k : Nat) (w : W64) : W64 :=
  let b := s.sb
  if k = 0 then lay w [(0, 1, b2n b.telem.isSome)]
  else if k = 8 then
    lay 0 [(57, 7, (b.open'.filter (fun x => x.tag.isSome)).length), (50, 7, (b.open'.filter (fun x => x.stuck)).length), (43, 7, b.wbuf), (39, 4, s.inbUsed),
      (38, 1, b2n b.lock.isSome), (26, 12, (b.lock.map (·.agent)).getD 0)]
  else if k = 0x10 then lay 0 [(32, 16, s.outLevels.toNat), (0, 32, b.lines.toNat)]
  else w

/-- The Kettle block (chapter 15). -/
def State.ktReg (s : State) (k : Nat) (w : W64) : W64 :=
  let ds := List.range 72
  let count := fun (p : Domain → Bool) => (ds.filter (fun d => p (s.domAt d))).length
  if k = 0 then
    let on := count (fun x => x.st == .on)
    let cg := count (fun x => x.st == .cg)
    let deep := (List.range 48).all (fun i => i == 2 || (s.domAt i).st == .off)
    lay 0 [(49, 7, on), (42, 7, cg), (35, 7, count (fun x => x.st == .ret)), (28, 7, count (fun x => x.st == .off)), (21, 7, count (·.failed)),
      (14, 7, count (·.pendOn)), (3, 1, b2n s.kt.sideUp), (2, 1, b2n s.kt.dieBFenced), (0, 2, if 0 < on then 0 else if 0 < cg then 1 else if deep then 3 else 2)]
  else if 0x1000 ≤ k ∧ k < 0x1240 then
    let d := (k - 0x1000) / 8
    let x := s.domAt d
    lay w [(63, 1, b2n x.failed), (62, 1, b2n x.pendOn), (61, 1, b2n (s.gtNamed d)), (52, 4, x.phase.code), (48, 2, x.st.code), (44, 2, x.target.code),
      (7, 1, b2n (domainOnB d)), (0, 7, d)]
  else w

/-- The Strainer block (chapter 13). -/
def State.stReg (s : State) (k : Nat) (w : W64) : W64 :=
  if k = 0 then lay w [(4, 1, b2n (s.st.phase != .idle))]
  else if k = 8 then
    lay w [(16, 9, ((List.range 256).filter s.staleAt).length), (8, 4, s.st.phase.code), (0, 1, b2n s.locked)]
  else w

/-- Place p of the Saucer's open entries, if it is open (R515). -/
def Saucer.openAt (c : Saucer) (p : Nat) : Option ScOpen := c.opens.find? (fun o => o.place == p)

/-- The Saucer block (chapter 16). -/
def State.scReg (s : State) (k : Nat) (w : W64) : W64 :=
  let c := s.sc
  let cls := fun (v : Nat) => (c.opens.filter (fun o => o.cls == v)).length
  if k = 8 then
    lay w [(56, 8, c.queue.length), (32, 9, c.opens.length), (4, 1, b2n c.stopped), (3, 1, b2n (c.lost.any (fun e => decide (0 < e.2.c2 + e.2.c1 + e.2.c0)))),
      (2, 1, b2n c.inj.isSome), (1, 1, b2n s.pins.fatal)]
  else if k = 0x10 then BitVec.ofNat 64 (c.seq % 2 ^ 32)
  else if k = 0x18 then lay 0 [(48, 16, cls 4), (32, 16, cls 3), (16, 16, cls 2), (0, 16, cls 1)]
  else if k = 0x58 then lay w [(36, 12, c.head), (35, 1, b2n c.phase)]
  else if k = 0x78 then
    match c.openAt (bits (s.rd Off.SC_OPEN_SEL) 0 9) with
    | some o => lay 0 [(63, 1, 1), (60, 3, o.cls), (52, 8, o.src), (44, 8, o.kind), (12, 32, o.seq)]
    | none => 0
  else if 0x100 ≤ k ∧ s.pins.testMode = false then 0
  else if k = 0x108 then lay w [(0, 1, b2n c.inj.isSome)]
  else w

/-- The Caddy block (chapter 17). -/
def State.cdReg (s : State) (k : Nat) (w : W64) : W64 :=
  let c := s.cd
  if k = 8 then lay 0 [(51, 13, c.newest), (37, 14, c.held), (34, 3, c.reservations), (33, 1, b2n c.frozen), (32, 1, b2n (c.frozen && c.byC4))]
  else if 0x40000 ≤ k then c.word ((k - 0x40000) / 32) ((k - 0x40000) % 32 / 8)
  else w

/-- Ring r of the Pot (R471). -/
def Pot.ring (p : Pot) (r : Nat) : PotRing := KMap.get (fun _ => PotRing.reset) p.rings r

/-- Doorbells and ring entries are accepted: the core runs firmware, and no REPROTECT is in progress (R459, R484). -/
def State.accepting (s : State) : Bool :=
  s.domOn 64 && s.fld Off.PT_POT_STATUS Fld.PT_POT_STATUS.STAGE == 1 && s.pot.waitAll.isNone && s.pot.restart.isNone

/-- Status fields of PT_POT_STATUS and of a ring's PT_RING_STATE that firmware keeps, with what they are now: places, widths and values; none of
another register (chapter 14). -/
def State.ptKept (s : State) (o : Nat) : List (Nat × Nat × Nat) :=
  if o = 0x8000 then
    let fw := s.fld Off.PT_POT_STATUS Fld.PT_POT_STATUS.STAGE == 1
    [(48, 16, if fw then 1 else 0), (32, 16, if fw then bits (Config.firmware 0) 32 16 else 0), (8, 8, s.pot.cmds.length), (0, 1, b2n s.accepting)]
  else if 0x18000 ≤ o ∧ o < 0x18800 ∧ (o - 0x18000) % 128 = 0x30 then
    let r := (o - 0x18000) / 128
    let x := s.pot.ring r
    [(44, 3, x.fetched.length), (43, 1, b2n (s.pot.cmd (8 + r)).isSome), (0, 13, x.marks.length)]
  else []

/-- The Pot block and its rings; a status field that has been written reads as written until firmware next changes one of its register (R11, chapters 14
and 17). -/
def State.ptReg (s : State) (o : Nat) (w : W64) : W64 :=
  if o = 0x8028 then lay 0 [(55, 9, s.tr.next), (54, 1, b2n s.tr.wrapped), (53, 1, b2n s.tr.stopped)]
  else if 0x9000 ≤ o ∧ o < 0xA000 then KMap.get (fun _ => 0) s.tr.buf ((o - 0x9000) / 8)
  else
    let l := s.ptKept o
    let c := lay 0 l
    let m := lay 0 (l.map (fun e => (e.1, e.2.1, 2 ^ e.2.1 - 1)))
    match KMap.get (fun _ => none) s.pot.overlay o with
    | some (v, was) => (w &&& ~~~m) ||| (if was = c then v else c)
    | none => (w &&& ~~~m) ||| c

/-- The global block (chapters 1, 19 and 20). -/
def State.glReg (s : State) (o : Nat) (w : W64) : W64 :=
  if o = 8 then s.glStatus
  else if o = 0xC0 then lay w [(0, 1, b2n s.pins.debugEn)]
  else if o = 0xC8 then lay w [(38, 10, s.pot.bls.length)]
  else if o = 0xD0 then ((KMap.get (fun _ => none) s.pot.bls (s.fld Off.GL_BLS_SEL Fld.GL_BLS_SEL.OFFSET * 8)).getD 0)
  else w

/-- Header of a counter page before its first copy: 0x1800_0000 with TYPE and INDEX (R565, R595). -/
def pmHdr (type index : Nat) : W64 := BitVec.ofNat 64 (0x18000000 + type * 0x4000 + index)

/-- A counter page: register k of a page of a type (0 router, 1 NI, 2 home slice) and index. -/
def pmReg (type index k : Nat) (w : W64) : W64 := if k = (if type = 2 then 0x2000 else 0x800) ∧ w = 0 then pmHdr type index else w

/-- What the register at an offset holds, as a 64-bit read returns it before access codes apply (R10, R595). -/
def State.regValue (s : State) (o : Nat) : W64 :=
  let w := s.rd o
  if o < 0x8000 then s.glReg o w
  else if o < 0x100000 then s.ptReg o w
  else if o < 0x108000 then s.ktReg (o - 0x100000) w
  else if o = 0x108000 then BitVec.ofNat 64 s.time.now
  else if o = 0x108008 then s.ftStatus
  else if 0x10C000 ≤ o ∧ o < 0x10CC00 then s.islReg ((o - 0x10C000) / 64) ((o - 0x10C000) % 64) w
  else if 0x200000 ≤ o ∧ o < 0x220000 then s.stReg (o - 0x200000) w
  else if 0x300000 ≤ o ∧ o < 0x300110 then s.scReg (o - 0x300000) w
  else if 0x380000 ≤ o ∧ o < 0x400000 then s.cdReg (o - 0x380000) w
  else if 0x400000 ≤ o ∧ o < 0x800000 then s.sbReg (o - 0x400000) w
  else if 0x800000 ≤ o ∧ o < 0xB00000 then s.rtReg ((o - 0x800000) / 0x4000) ((o - 0x800000) % 0x4000) w
  else if 0xC00000 ≤ o ∧ o < 0xE00000 then s.niReg ((o - 0xC00000) / 0x2000) ((o - 0xC00000) % 0x2000) w
  else if 0xE00000 ≤ o ∧ o < 0xF00000 then s.hsReg ((o - 0xE00000) / 0x10000) ((o - 0xE00000) % 0x10000) w
  else if 0x1000000 ≤ o ∧ o < 0x10C0000 then pmReg 0 ((o - 0x1000000) / 0x1000) ((o - 0x1000000) % 0x1000) w
  else if 0x1400000 ≤ o ∧ o < 0x1500000 then pmReg 1 ((o - 0x1400000) / 0x1000) ((o - 0x1400000) % 0x1000) w
  else if 0x1800000 ≤ o ∧ o < 0x1840000 then pmReg 2 ((o - 0x1800000) / 0x4000) ((o - 0x1800000) % 0x4000) w
  else if 0x2000000 ≤ o ∧ o < 0x20E0000 then
    s.lkReg ((o - 0x2000000) / 0x8000) ((o - 0x2000000) % 0x8000 / 0x4000) ((o - 0x2000000) % 0x4000) w
  else w

/-- The register row at an offset where the unit there has it (R10, R594, R595): meter and port registers at the NIs that have them, collector
registers at NI 253, one half of a chiplet link. -/
def rowAt (o : Nat) : Option RegRow :=
  let k := (o - 0xC00000) % 0x2000
  let absent := (decide (0xC00000 ≤ o ∧ o < 0xE00000) && decide (0x1000 ≤ k) && (o - 0xC00000) / 0x2000 != 253) ||
    (decide (0x2000000 ≤ o ∧ o < 0x20E0000) && decide (12 ≤ (o - 0x2000000) / 0x8000) && decide ((o - 0x2000000) % 0x8000 / 0x4000 = 1))
  if absent then none
  else
    match regAt o with
    | some (r, i, _) =>
      let there : Bool := match r.pres with
        | .meters => niHasMeter i
        | .ports => isPort i
        | .mpa => niType i == .mpa
        | _ => true
      if there then some r else none
    | none => none

/-- Bits of a row's fields with a given access code. -/
def RegRow.mask (r : RegRow) (p : Acc → Bool) : W64 :=
  BitVec.ofNat 64 (r.fields.foldl (fun a f => if p f.acc then a + (2 ^ f.w - 1) * 2 ^ f.lo else a) 0)

/-- The injection registers exist only while TEST_MODE is 1 (R527). -/
def State.rowHidden (s : State) (r : RegRow) : Bool := r.pres == .testMode && !s.pins.testMode

/-- A 64-bit read of the configuration window at an aligned offset: write-only fields and reserved bits read as zero, an offset without a
register reads as zero (R10, R11, R527). -/
def State.readReg (s : State) (o : Nat) : W64 :=
  match rowAt o with
  | some r => if s.rowHidden r then 0 else s.regValue o &&& r.mask (fun a => a != .wo)
  | none => 0

end Sys2Proof.Machine
end

