-- ==== Sys2Proof/Machine/Mailbox.lean ====
section
/-! DEFINITION. The Pot's mailbox aperture, the acceptance and the end of commands, and the rings beneath them (R449 to R463, R471 to R485). -/
namespace Sys2Proof.Machine

/-! ### Register accesses -/

/-- An aligned access of 4 or 8 bytes in one line: its byte address and size (R8, R456). -/
def Pkt.regAccess (p : Pkt) : Option (Nat × Nat) :=
  let n := (sbBytes p.sbMasks).length
  match p.sbSpan with
  | some (a, b) => if (n = 4 ∨ n = 8) ∧ b - a + 1 = n ∧ a % n = 0 then some (p.h.line * 64 + a, n) else none
  | none => none

/-- The write data of an access whose first byte lies at an address, moved to bit 0. -/
def Pkt.regData (p : Pkt) (addr : Nat) : W64 :=
  match p.lines[addr / 64 - p.h.line]? with
  | some b => BitVec.ofNat 64 (b.data.toNat / 2 ^ (8 * (addr % 64)))
  | none => 0

/-- A register value with the half or the whole that an access reaches replaced (R8). -/
def mergeHalf (old : W64) (addr size : Nat) (data : W64) : W64 := if size = 8 then data else setBits old (8 * (addr % 8)) 32 data.toNat

/-- The lines that answer a masked read of registers: `read` gives the 64-bit value at an aligned address (R8, R106). -/
def Pkt.regLines (p : Pkt) (read : Nat → W64) : List Body :=
  readLines p.masks false ((List.range 4).map (fun m => lineOfWords ((List.range 8).map (fun w => read ((p.h.line + m) * 64 + 8 * w)))))

/-! ### The aperture -/

/-- An access to the mailbox aperture: mailbox and page offset of its first byte (R455). -/
def Pkt.mailbox (p : Pkt) : Nat × Nat :=
  let a := ((p.regAccess.map (·.1)).getD 0) % 0x8000
  (a / 0x1000, a % 0x1000)

/-- A write that an access of the right shape makes. -/
def Pkt.isWrite (p : Pkt) : Bool := p.h.vn.toNat == Vn.IOP || p.h.opcode.toNat == 2

/-- True for an access that rings a doorbell (R456, R459). -/
def Pkt.rings (p : Pkt) : Bool := p.isWrite && p.regAccess.isSome && p.mailbox.2 / 8 == 8 && (p.h.vn.toNat == Vn.IOP || p.h.opcode.toNat ≤ 2)

/-- What the aperture returns for the word at a page offset (R455). -/
def State.mailboxWord (s : State) (m off : Nat) : W64 :=
  if off < 0x60 ∨ (0x80 ≤ off ∧ off < 0xC0) then s.readReg (0x10000 + 0x1000 * m + off) else 0

/-- An aperture access at NI 248 that rings no doorbell: reads, command words, and the accesses refused (R8, R455, R456). -/
def State.serveAperture (s : State) (p : Pkt) : State :=
  let op := p.h.opcode.toNat
  let ion := p.h.vn.toNat == Vn.ION
  let bad := fun (s : State) => if ion then s.answerErr 248 p.h Resp.ERR_UNSUPPORTED else s
  if ion ∧ (op = 3 ∨ op = 4) then bad s
  else
    match p.regAccess with
    | none => bad s
    | some (a, n) =>
      let (m, off) := p.mailbox
      if ion ∧ op = 1 then
        s.answer 248 p.h Vn.IOC 2 Resp.OK 0 (p.regLines (fun x => s.mailboxWord (x % 0x8000 / 0x1000) (x % 0x1000)))
      else
        let s1 := if off < 0x40 then (let o := Off.PT_MB_CMD m (off / 8); s.wr o (mergeHalf (s.rd o) a n (p.regData a))) else s
        if ion then s1.answer 248 p.h Vn.IOC 1 Resp.OK 0 [] else s1

/-- The oldest aperture access of a VN at NI 248 that passes a test; island 2 serves it while domain 2 is ON (R459). -/
def State.takeAperture (s : State) (posted : Bool) (ok : Pkt → Bool) : Option (Pkt × State) :=
  if s.domOn 2 then (s.takeIn 248 (if posted then Vn.IOP else Vn.ION) ok).map (fun x => (x.1, x.2.2)) else none

/-- MAILBOX_CMD_WRITE: the next aperture access at NI 248, of IOP where `posted`, that rings no doorbell is served: a write sets the command word
it reaches (R455, R456, R458). -/
def execMailboxCmdWrite (posted : Bool) (s : State) : Outcome :=
  match s.takeAperture posted (fun p => !p.rings) with
  | none => .next s
  | some (p, s1) => .next (s1.serveAperture p)

/-- A ring of mailbox m: RUNG is set; while a command runs it is lost and reported, else it awaits acceptance and wakes domain 64 (R456, R459). -/
def State.ringBell (s : State) (m : Nat) : State :=
  let s1 := s.setFld (Off.PT_MB_DOORBELL m) Fld.PT_MB_DOORBELL.RUNG 1
  if s.fld (Off.PT_MB_STATUS m) Fld.PT_MB_STATUS.STATE = 1 then
    (s1.setFld (Off.PT_MB_STATUS m) Fld.PT_MB_STATUS.DB_LOST 1).reportPot .PT_DB_LOST 0 m
  else
    let s2 := s1.modPot (fun p => { p with rung := if p.rung.contains m then p.rung else p.rung ++ [m] })
    if s.domOn 64 then s2 else s2.askWake 64

/-- DOORBELL_WRITE: the next aperture access at NI 248 is a write of DOORBELL, and rings it (R456, R459). -/
def execDoorbellWrite (posted : Bool) (s : State) : Outcome :=
  match s.takeAperture posted (fun p => p.rings) with
  | none => .next s
  | some (p, s1) =>
    let s2 := s1.ringBell p.mailbox.1
    .next (if posted then s2 else s2.answer 248 p.h Vn.IOC 1 Resp.OK 0 [])

/-! ### Acceptance -/

/-- Class of a command: 0 CONTROL, 1 OPERATE, 2 OBSERVE; none for an opcode that is not listed (R451, R463). -/
def cmdClass (op : Nat) : Option Nat :=
  if [0x03, 0x10, 0x11, 0x60, 0x30, 0x31, 0x32, 0x45, 0x41, 0x42, 0x40, 0x43].contains op then some 0
  else if [0x20, 0x21, 0x22, 0x23, 0x24, 0x50, 0x51, 0x52, 0x53].contains op then some 1
  else if [0x01, 0x02, 0x44].contains op then some 2
  else none

/-- A mailbox may issue a class (R451). -/
def mayIssue (m cls : Nat) : Bool := m == 0 || (decide (m ≤ 3) && decide (1 ≤ cls)) || cls == 2

/-- The mailbox whose classes an issuer has: itself, or the owner of the ring (R451, R472). -/
def State.issuer (s : State) (c : Nat) : Nat := if c < 8 then c else s.fld (Off.PT_RING_CFG (c - 8)) Fld.PT_RING_CFG.OWNER

/-- Commands that a ring's entries may not issue (R481). -/
def ringBars (op : Nat) : Bool := op == 0x50 || op == 0x51 || op == 0x52 || op == 0x60

/-- Duration bound of a command in ft from its acceptance; those that end at a fabric time of their own have none here (R463). -/
def State.cmdBound (s : State) (x : PotCmd) : Nat :=
  let o := x.op
  let w := x.word 1
  if o = 2 ∨ o = 3 ∨ o = 0x30 then 200000
  else if o = 0x10 then 60000000
  else if o = 0x20 ∨ o = 0x21 ∨ o = 0x22 ∨ o = 0x41 ∨ o = 0x42 then 60000
  else if o = 0x23 then 20000
  else if o = 0x31 then bits w 32 16 * 1000
  else if o = 0x32 then max 1 (s.lkTh (bits w 0 5) (bits w 8 1) Fld.LK_THRESH.RETRAIN_LIMIT) * 1000 + 20000
  else if o = 0x44 then (if bits w 16 14 = 0 then 10000 else 2000000)
  else if o = 0x45 then 5000000000
  else if o = 0x60 then 150000000
  else if o = 0x11 then bits w 0 64 - 32768 + 20000 - x.since
  else if o = 0x24 then bits w 0 64 + 4096 - x.since
  else 10000

/-- The time by which a command's bound has passed. -/
def State.deadline (s : State) (x : PotCmd) : Nat := x.since + s.cmdBound x

/-- A MAILBOX record of a CONTROL or OPERATE command, at its acceptance or its end (R533, R534). -/
def State.recMailbox (s : State) (x : PotCmd) (status : Nat) (atEnd : Bool) (w3 : W64) : State :=
  match cmdClass x.op with
  | some 2 => s
  | none => s
  | some _ =>
    s.cdWrite 4 Cd.MAILBOX (b2n (decide (8 ≤ x.src)) * 2 ^ 57 + (if 8 ≤ x.src then x.src - 8 else x.src) * 2 ^ 53 +
      x.op * 2 ^ 37 + bits (x.word 0) 16 16 * 2 ^ 21 + status * 2 ^ 13 + b2n atEnd * 2 ^ 12) (x.word 1) w3

/-- A command denied by its class is reported at most once per time epoch per mailbox or ring (R452). -/
def State.cmdDenied (s : State) (c op : Nat) : State :=
  let e := epochMark s.time.now
  if KMap.get (fun _ => 0) s.pot.denied c = e then s
  else (s.modPot (fun p => { p with denied := KMap.set (fun _ => 0) p.denied c e })).reportPot .PT_CMD_DENIED (if c < 8 then c else c - 8) op

/-- The Pot accepts a command of an issuer and makes checks 1 and 2 of R452; it waits at most for earlier commands on its object, whose time
left it is granted. A ninth word marks a poisoned ring entry, which ends with BAD_ARG (R451 to R453, R481, R482). -/
def State.acceptCmd (s : State) (c : Nat) (ws : List W64) (idx : Nat) : State :=
  let now := s.refTime
  let x0 : PotCmd := { src := c, words := ws.take 8, since := now, started := false, res := none, data := [], idx := idx }
  let x := { x0 with since := s.pot.cmds.foldl (fun t y => if y.meets x0 then max t (s.deadline y) else t) now }
  let s1 := (s.modPot (fun p => { p with cmds := p.cmds ++ [x] })).recMailbox x 0xFF false (x.word 2)
  match cmdClass x.op with
  | some cls =>
    if 8 < ws.length then s1.potDone c Code.BAD_ARG []
    else if !mayIssue (s.issuer c) cls then (s1.cmdDenied c x.op).potDone c Code.DENIED []
    else if 8 ≤ c ∧ ringBars x.op = true then s1.potDone c Code.BAD_ARG []
    else s1
  | none => s1.potDone c Code.BAD_ARG []

/-- MAILBOX_ACCEPT: the Pot accepts a rung doorbell: the words are copied and STATUS shows RUNNING (R459, R485). -/
def execMailboxAccept (m : Fin 8) (s : State) : Outcome :=
  let o := Off.PT_MB_STATUS m
  if s.pot.rung.contains m && s.fld o Fld.PT_MB_STATUS.STATE != 1 && s.accepting then
    let ws := (List.range 8).map (fun k => s.rd (Off.PT_MB_CMD m k))
    let w0 := ws.getD 0 0
    let st := BitVec.ofNat 64 (bits w0 48 16 * 2 ^ 48 + bits w0 16 16 * 2 ^ 32 + 1 * 2 ^ 8)
    let s1 := ((s.wr o st).setFld (Off.PT_MB_DOORBELL m) Fld.PT_MB_DOORBELL.RUNG 0).modPot (fun p => { p with rung := p.rung.filter (· != m.val) })
    .next (s1.acceptCmd m ws 0)
  else .next s

/-! ### Rings -/

/-- The state with ring r changed. -/
def State.modRing (s : State) (r : Nat) (f : PotRing → PotRing) : State :=
  s.modPot (fun p => { p with rings := KMap.set (fun _ => PotRing.reset) p.rings r (f (p.ring r)) })

/-- STATE of a ring: 0 IDLE, 1 ENABLED, 2 DISABLED, 3 STOPPED. -/
def State.ringSt (s : State) (r : Nat) : Nat := s.fld (Off.PT_RING_STATE r) Fld.PT_RING_STATE.STATE
/-- STATE of a ring recorded. -/
def State.setRingSt (s : State) (r v : Nat) : State := s.setFld (Off.PT_RING_STATE r) Fld.PT_RING_STATE.STATE v
/-- Entries of a ring (R471). -/
def State.ringSize (s : State) (r : Nat) : Nat := 2 ^ s.fld (Off.PT_RING_CFG r) Fld.PT_RING_CFG.LOG2
/-- HEAD of a ring. -/
def State.ringHead (s : State) (r : Nat) : Nat := s.fld (Off.PT_RING_STATE r) Fld.PT_RING_STATE.HEAD
/-- PHASE of a ring. -/
def State.ringPhase (s : State) (r : Nat) : Bool := s.flag (Off.PT_RING_STATE r) Fld.PT_RING_STATE.PHASE

/-- The status line is written (R479). -/
def State.ringLine (s : State) (r : Nat) : State :=
  let x := s.pot.ring r
  let w0 := s.ringHead r * 2 ^ 52 + b2n (s.ringPhase r) * 2 ^ 51 + s.ringSt r * 2 ^ 48 + (x.writes + 1) % 2 ^ 32
  (s.modRing r (fun x => { x with
    writes := x.writes + 1
    dirty := false
    line := some (s.ringHead r, s.ringPhase r, s.ringSt r, x.writes + 1, x.completed, x.cancelled) })).potLine (s.fld (Off.PT_RING_SL r) Fld.PT_RING_SL.ADDR) (PotId.line r)
    [BitVec.ofNat 64 w0, BitVec.ofNat 64 x.completed, BitVec.ofNat 64 (x.cancelled % 2 ^ 32 * 2 ^ 32), BitVec.ofNat 64 s.time.now]

/-- A ring interrupt that is due is sent unless the gap or an earlier one is under way: FNC first (R478). -/
def State.ringIrqTry (s : State) (r : Nat) : State :=
  let x := s.pot.ring r
  if x.irqDue && !x.irqFnc && decide (x.gapUntil ≤ s.refTime) then
    (s.modRing r (fun x => { x with irqDue := false, irqFnc := true })).potSend (potReq Vn.REQ 8 0 (PotId.fnc r) true [] 0)
  else s

/-- A completion entry is written at its index, and the interrupt it causes becomes due (R476, R478). -/
def State.ringComplete (s : State) (r idx : Nat) (w0 : W64) (code : Nat) (rsp : List W64) : State :=
  let o := Off.PT_RING_STATE r
  let cp := s.flag o Fld.PT_RING_STATE.CPHASE
  let e := bits w0 48 16 * 2 ^ 48 + code * 2 ^ 40 + min 7 rsp.length * 2 ^ 32 + bits w0 16 16 * 2 ^ 16 + idx % 4096 * 2 ^ 4 + b2n cp
  let s1 := s.potLine (s.fld (Off.PT_RING_CQ r) Fld.PT_RING_CQ.ADDR + 64 * idx) (PotId.compl r) (BitVec.ofNat 64 e :: rsp.take 7)
  let s2 := if idx + 1 = s.ringSize r then s1.setFld o Fld.PT_RING_STATE.CPHASE (b2n !cp) else s1
  let s3 := s2.bumpMod (Off.PT_RING_CNT r) Fld.PT_RING_CNT.COMPLETED
  let s4 := s3.modRing r (fun x => { x with completed := x.completed + 1, dirty := true, dirtyAt := if x.dirty then x.dirtyAt else s.time.now })
  let due := s.flag (Off.PT_RING_CFG r) Fld.PT_RING_CFG.IRQ_EN && (bit w0 47 || code != 0)
  if due then (s4.modRing r (fun x => { x with irqDue := true })).ringIrqTry r else s4

/-- HEAD and PHASE move past an entry that starts (R473). -/
def State.ringPass (s : State) (r idx : Nat) : State :=
  let o := Off.PT_RING_STATE r
  let wrap := idx + 1 == s.ringSize r
  let s1 := s.setFld o Fld.PT_RING_STATE.HEAD (if wrap then 0 else idx + 1)
  if wrap then s1.setFld o Fld.PT_RING_STATE.PHASE (b2n !(s.ringPhase r)) else s1

/-- The fetched entries of a ring start one at a time; a marked one completes with CANCELLED (R475, R483). -/
def State.ringStart (s : State) (r : Nat) : Nat → State
  | 0 => s
  | fuel + 1 =>
    match s.ringSt r == 1 && s.accepting && (s.pot.cmd (8 + r)).isNone, (s.pot.ring r).fetched with
    | true, (idx, ws) :: rest =>
      let s1 := (s.modRing r (fun x => { x with fetched := rest })).ringPass r idx
      if (s.pot.ring r).marks.contains idx then
        let s2 := s1.modRing r (fun x => { x with marks := x.marks.filter (· != idx), cancelled := x.cancelled + 1 })
        ((s2.bumpMod (Off.PT_RING_CNT r) Fld.PT_RING_CNT.CANCELLED).ringComplete r idx (ws.getD 0 0) Code.CANCELLED []).ringStart r fuel
      else s1.acceptCmd (8 + r) ws idx
    | _, _ => s

/-- RING_POLL: the Pot reads the next entry of an enabled ring with RDC, with fewer than four taken entries waiting (R454, R474, R475). -/
def execRingPoll (r : Fin 16) (s : State) : Outcome :=
  let x := s.pot.ring r
  if s.ringSt r == 1 && s.accepting && !x.reading && decide (x.fetched.length < 4) && decide (x.pollAt ≤ s.refTime) then
    .next ((s.modRing r (fun x => { x with reading := true })).potSend
      (potReq Vn.REQ 4 ((s.fld (Off.PT_RING_SQ r) Fld.PT_RING_SQ.ADDR + 64 * x.next) / 64) (PotId.fetch r) true [] 0))
  else .next s

/-- RING_ENTRY_FETCHED: the entry read has come; with the ring's phase, or poisoned, it is taken, else it is read again a poll interval later
(R473 to R475, R481, R482, R485). -/
def execRingEntryFetched (r : Fin 16) (s : State) : Outcome :=
  match s.takeComp 248 (PotId.fetch r) with
  | none => .next s
  | some (c, s1) =>
    if c.resp != Resp.OK && c.resp != Resp.ERR_POISON then .next s
    else
      let x := s.pot.ring r
      let s2 := s1.modRing r (fun x => { x with reading := false, staleRead := false })
      let ws := (List.range 8).map (fun k => lineWord ((c.lines.head?.map Body.data).getD 0) k)
      if s.ringSt r != 1 || x.staleRead then .next s2
      else if c.resp = Resp.ERR_POISON ∨ bit (ws.getD 0 0) 0 = x.nextPhase then
        let wrap := x.next + 1 == s.ringSize r
        let e := (x.next, if c.resp = Resp.OK then ws else ws ++ [0])
        .next ((s2.modRing r (fun x => { x with
          fetched := x.fetched ++ [e], next := if wrap then 0 else x.next + 1, nextPhase := x.nextPhase != wrap, pollAt := 0 })).ringStart r 8)
      else .next (s2.modRing r (fun x => { x with pollAt := s.refTime + s.fld (Off.PT_RING_CFG r) Fld.PT_RING_CFG.POLL_NS }))

/-- A ring stops at an error response: fetched entries are dropped, the status line is tried once, and it is reported (R482). -/
def State.ringStop (s : State) (r : Nat) : State :=
  if s.ringSt r = 3 then s
  else
    (((s.setRingSt r 3).modRing r (fun x => { x with fetched := [], next := s.ringHead r, nextPhase := s.ringPhase r })).ringLine r).reportPot
      .PT_RING_ERR r 0

/-- The Pot's accesses for a ring that are answered: 0 entry fetch, 1 completion write, 2 status line write, 3 the FNC ahead of an interrupt. -/
def ringIdent (k r : Nat) : Nat := if k = 0 then PotId.fetch r else if k = 1 then PotId.compl r else if k = 2 then PotId.line r else PotId.fnc r

/-- RING_ACCESS_RESPONSE: the response of a ring's access `k` is taken: an error stops the ring, and the FNC's completion lets its interrupt go
(R478, R482). -/
def execRingAccessResponse (r : Fin 16) (k : Fin 4) (s : State) : Outcome :=
  match s.takeComp 248 (ringIdent k r) with
  | none => .next s
  | some (c, s1) =>
    if k = 3 then
      let a := s.fld (Off.PT_RING_IRQ_HI r) Fld.PT_RING_IRQ_HI.ADDR_HI * 2 ^ 32 + s.fld (Off.PT_RING_IRQ r) Fld.PT_RING_IRQ.ADDR_LO
      let gap := s.fld (Off.PT_RING_CFG r) Fld.PT_RING_CFG.IRQ_GAP_US * 1000
      .next ((s1.modRing r (fun x => { x with irqFnc := false, gapUntil := s.refTime + gap })).potIrq a
        (s.fld (Off.PT_RING_IRQ r) Fld.PT_RING_IRQ.DATA) (PotId.ringIrq r))
    else if c.resp = Resp.OK then (if k = 0 then .next s else .next s1)
    else if k = 0 ∧ c.resp = Resp.ERR_POISON then .next s
    else
      let s2 := if k = 0 then s1.modRing r (fun x => { x with reading := false, staleRead := false }) else s1
      .next (s2.ringStop r)

/-- RING_IRQ_GAP_END: the gap has passed and one interrupt covers the completions in it (R478). -/
def execRingIrqGapEnd (r : Fin 16) (s : State) : Outcome := .next (if s.domOn 64 then s.ringIrqTry r else s)

/-- RING_STATUS_LINE_WRITE: 2^20 ft of the keeper's time in which the enabled ring has written a completion are over (R479). -/
def execRingStatusLineWrite (r : Fin 16) (s : State) : Outcome :=
  if s.ringSt r = 1 ∧ (s.pot.ring r).dirty = true ∧ (s.pot.ring r).dirtyAt / 2 ^ 20 < s.time.now / 2 ^ 20 ∧ s.domOn 64 = true then .next (s.ringLine r) else .next s

/-! ### The end of a command -/

/-- Every NI of the bands is quiet: no P0 to P2 packet in its injection stage, and no open tag of an injected request (R469). -/
def State.bandQuiet (s : State) (n : Nat) : Bool :=
  let u := s.niAt n
  u.inj.all (fun e => e.2.2.1.p.h.pri.toNat == 3) &&
    u.tags.all (fun e => !((e.2.st == .opened || e.2.st == .retryWait) && e.2.sentAt.isSome))

/-- NIs of the bands of a QUIESCE. -/
def bandNis (w : W64) : List Nat := (List.range 256).filter (fun n => w.getLsbD (niBand n))

/-- Results of QUIESCE: tags still open, and the lowest NI not yet quiet (R465). -/
def State.quiesceRsp (s : State) (w : W64) : List W64 :=
  let l := (bandNis w).filter (fun n => !s.bandQuiet n)
  let t := l.foldl (fun a n => a + (s.niAt n).tagCount .opened + (s.niAt n).tagCount .retryWait) 0
  [BitVec.ofNat 64 (min 511 t), BitVec.ofNat 64 (l.headD 0)]

/-- The state reached by DOMAIN_POWER, and whether it waited under PENDING_ON (R465, R468). -/
def State.powerRsp (s : State) (x : PotCmd) : List W64 :=
  [BitVec.ofNat 64 ((s.domAt (bits (x.word 1) 0 7)).st.code + 4 * x.data.headD 0)]

/-- LK_STATUS of the end that LINK_RETRAIN names. -/
def State.retrainRsp (s : State) (w : W64) : List W64 := [s.readReg (Off.LK_STATUS (bits w 0 5) (bits w 8 1))]

/-- Status that a RESP code of an access to the configuration window gives (R467). -/
def respCode (resp : Nat) : Nat :=
  if resp = Resp.OK then Code.OK else if resp = Resp.ERR_TIMEOUT then Code.TIMEOUT else if resp = Resp.ERR_FENCED then Code.FENCED else Code.DENIED

/-- The value that an access of a command's size at its OFFSET returned (R465). -/
def PotCmd.valueOf (x : PotCmd) (c : Completion) : W64 :=
  let o := bits (x.word 1) 0 26
  let v := ((c.lines.head?.map Body.data).getD (0 : Line)).toNat / 2 ^ (8 * (o % 64))
  BitVec.ofNat 64 (if bit (x.word 1) 32 then v % 2 ^ 64 else v % 2 ^ 32)

/-- The end of a command that waits, where its condition holds: its status and results, with the state that has taken the response it waited
for (R467 to R470, R537). -/
def State.waitEnd (s : State) (x : PotCmd) : Option (State × Nat × List W64) :=
  let o := x.op
  let w := x.word 1
  if x.started = false then none
  else if o = 2 ∨ (o = 3 ∧ x.data = [2]) then
    match s.takeComp 248 (PotId.cmd x.src) with
    | some (c, s1) => some (s1, respCode c.resp, if c.resp = Resp.OK then [x.valueOf c] else [])
    | none => none
  else if o = 3 ∧ x.data = [1] then
    match s.takeComp 248 (PotId.cmd x.src) with
    | some (c, s1) => if c.resp = Resp.OK then none else some (s1, respCode c.resp, [])
    | none => none
  else if o = 0x24 then (if bits w 0 64 + 2048 ≤ s.time.now then some (s, Code.OK, [w]) else none)
  else if o = 0x30 then
    let d := s.domAt (bits w 0 7)
    if d.phase = .steady ∧ d.st.code = bits w 8 2 then some (s, Code.OK, s.powerRsp x) else none
  else if o = 0x31 then (if (bandNis w).all s.bandQuiet then some (s, Code.OK, s.quiesceRsp w) else none)
  else if o = 0x32 then
    let l := s.lkAt (bits w 0 5) (bits w 8 1)
    if l.st = .lost ∨ l.st = .down then some (s, Code.TIMEOUT, s.retrainRsp w)
    else if l.st = .inService ∧ s.flag (Off.LK_CTRL (bits w 0 5) (bits w 8 1)) Fld.LK_CTRL.RETRAIN = false then some (s, Code.OK, s.retrainRsp w)
    else none
  else none

/-- A command ends: a mailbox gets its results and status, and an interrupt where it asked for one; a ring entry gets its completion, and what
waits for it goes on (R460, R461, R476, R481). -/
def State.endCmd (s : State) (x : PotCmd) (code : Nat) (rsp : List W64) : State :=
  let s1 := (s.modPot (fun p => { p with cmds := p.cmds.filter (fun y => y.src != x.src) })).recMailbox x code true (rsp.getD 0 0)
  if x.src < 8 then
    let m := x.src
    let s2 := (List.range 7).foldl (fun s k => s.wr (Off.PT_MB_RSP m k) (rsp.getD k 0)) s1
    let s3 := s2.wr (Off.PT_MB_RSP m 7) (BitVec.ofNat 64 s.time.now)
    let o := Off.PT_MB_STATUS m
    let s4 := ((s3.setFld o Fld.PT_MB_STATUS.NRSP (min 7 rsp.length)).setFld o Fld.PT_MB_STATUS.CODE code).setFld o Fld.PT_MB_STATUS.STATE 2
    let a := s.rd (Off.PT_MB_IRQ_ADDR m)
    if bit (x.word 0) 47 && bit a 63 then
      (s4.setFld o Fld.PT_MB_STATUS.IRQ_SENT 1).potIrq (bits a 2 50 * 4) (bits (s.rd (Off.PT_MB_IRQ_DATA m)) 0 32) (PotId.mbIrq m)
    else s4
  else
    let r := x.src - 8
    let s2 := s1.ringComplete r x.idx (x.word 0) code rsp
    match s2.pot.cmds.find? (fun y => y.op == 0x52 && y.started && y.res.isNone && bits (y.word 1) 0 4 == r) with
    | some y => (if s2.ringSt r = 2 then s2.ringLine r else s2).potDone y.src Code.OK []
    | none => s2.ringStart r 8

/-- COMMAND_END: a command whose end has come writes its results and status (R460). -/
def execCommandEnd (c : Fin 24) (s : State) : Outcome :=
  match s.pot.cmd c with
  | none => .next s
  | some x =>
    if !s.domOn 64 then .next s
    else
      match x.res with
      | some (code, rsp) => .next (s.endCmd x code rsp)
      | none =>
        match s.waitEnd x with
        | some (s1, code, rsp) => .next (s1.endCmd x code rsp)
        | none => .next s

/-- Commands that can end with TIMEOUT at their bound (R463). -/
def canTimeout (op : Nat) : Bool := [0x02, 0x03, 0x10, 0x30, 0x31, 0x32, 0x44, 0x45].contains op

/-- Results that a command ending with TIMEOUT returns: what was done (R450, R465, R468, R469). -/
def State.timeoutRsp (s : State) (x : PotCmd) : List W64 :=
  if x.op = 0x30 then s.powerRsp x else if x.op = 0x31 then s.quiesceRsp (x.word 1) else if x.op = 0x32 then s.retrainRsp (x.word 1) else []

/-- A load ends without a sealed image: its bank is EMPTY, and domains are no longer held for it (R313, R315). -/
def State.failLoad (s : State) (bank : Nat) : State :=
  ((((s.setBankSt bank 0).wr (Off.GL_BANK_ID bank) 0).setEpochSt 0).modPot (fun p => { p with load := none })).modKt (fun k => { k with loadHold := false })

/-- COMMAND_TIMEOUT: a command's bound has passed; it ends with its own status if its end has come, else with TIMEOUT. A load that ends so
leaves its bank EMPTY (R313, R463, R485). -/
def execCommandTimeout (c : Fin 24) (s : State) : Outcome :=
  match s.pot.cmd c with
  | none => .next s
  | some x =>
    if !s.domOn 64 || !canTimeout x.op || decide (s.refTime < s.deadline x) then .next s
    else
      match x.res with
      | some (code, rsp) => .next (s.endCmd x code rsp)
      | none =>
        match s.waitEnd x with
        | some (s1, code, rsp) => .next (s1.endCmd x code rsp)
        | none =>
          let s1 := match s.pot.load with
            | some l => if l.src = c.val ∧ x.op = 0x10 then s.failLoad l.bank else s
            | none => s
          .next (s1.endCmd x Code.TIMEOUT (s1.timeoutRsp x))

end Sys2Proof.Machine
end

