-- ==== Sys2Proof/Machine/PotCmds.lean ====
section
/-! DEFINITION. The commands of the Pot (R463 to R470, R472, R480, R481, R483). -/
namespace Sys2Proof.Machine

/-! ### Shared -/

/-- The command of issuer c goes on: it is there with this opcode and no end, and has started or may start. -/
def State.onCmd (s : State) (c op : Nat) (k : PotCmd → State) : State :=
  match s.pot.cmd c with
  | some x => if x.op = op ∧ x.res = none ∧ s.domOn 64 = true ∧ (x.started = true ∨ s.pot.mayStart c = true) then k x else s
  | none => s

/-- An address argument (R464). -/
def PotCmd.addr (x : PotCmd) (k : Nat) : Nat := bits (x.word k) 0 52

/-- Every line of an area decodes, in NI 248's address map, to a HOME or a PROXY window (R471). -/
def State.hostLines (s : State) (addr lines : Nat) : Bool :=
  (List.range lines).all (fun j =>
    match s.mapWindow 248 (s.niAt 248).ep.bank (addr / 64 + j) with
    | some (w, _) => bits w 60 4 == 1 || bits w 60 4 == 2
    | none => false)

/-- The value recorded for a register that cannot be written at once, else its pending value (R464). -/
def State.recorded (s : State) (o : Nat) : W64 := (KMap.get (fun _ => none) s.pot.due o).getD (s.pendOf o)

/-- A target of the configuration window lies on a fenced die B (R467). -/
def State.behindFence (s : State) (o : Nat) : Bool :=
  s.kt.dieBFenced && (match offDomain o with
    | some d => domainOnB d
    | none => niOnB (cfgOwner o))

/-! ### Queries and registers -/

/-- Six words of a 48-byte digest. -/
def digest (f : Nat → W64) : List W64 := (List.range 6).map f

/-- What QUERY returns; none for an argument out of range (R465, R466). -/
def State.queryRsp (s : State) (sel index : Nat) : Option (List W64) :=
  let act := s.epochNum % 2
  let fw := Config.firmware
  let counts := fw 1
  if sel = 0 then some [s.readReg Off.GL_INSTANCE, BitVec.ofNat 64 (2 ^ 48 + bits (fw 0) 0 48), BitVec.ofNat 64 (bits counts 0 16), BitVec.ofNat 64 (bits (fw 2) 0 32)]
  else if sel = 1 then
    some [s.readReg Off.GL_STATUS, s.readReg Off.GL_EPOCH, s.readReg Off.FT_STATUS, s.readReg Off.ST_STATUS, s.rd (Off.GL_BANK_ID act),
      s.readReg Off.ST_TABLE_ID]
  else if sel = 2 then (if index < bits counts 0 8 then some (digest (fun w => fw (16 + 6 * index + w))) else none)
  else if sel = 3 then (if index < bits counts 8 8 then some (digest (fun w => fw (4096 + 6 * index + w))) else none)
  else if sel = 4 then some (digest (fun w => (KMap.get (fun _ => Blend.empty) s.pot.blends act).cert.getD w 0))
  else if sel = 5 then some [BitVec.ofNat 64 (8 * 2 ^ 56 + 16 * 2 ^ 48 + 4096 * 2 ^ 32 + 1000000)]
  else none

/-- QUERY (R466). -/
def execQuery (c : Fin 24) (s : State) : Outcome :=
  .next (s.runCmd c 0x01 (fun x =>
    match s.queryRsp (bits (x.word 1) 0 4) (bits (x.word 1) 8 4) with
    | some l => s.potDone c Code.OK l
    | none => s.potDone c Code.BAD_ARG []))

/-- The Pot's read of a register of 4 or 8 bytes (R454, R467). -/
def State.potRead (s : State) (ident o size : Nat) : State :=
  let a := s.cfgAddr o
  s.potSend (potReq Vn.ION 1 (a / 64) ident false [⟨false, bytesAt a size, 0⟩] 0)

/-- The Pot's write of a register of 4 or 8 bytes (R454, R467). -/
def State.potWrite (s : State) (ident o size : Nat) (v : W64) : State :=
  let a := s.cfgAddr o
  s.potSend (potReq Vn.ION 2 (a / 64) ident false [writeBody a size v] 0)

/-- An access of the Pot to a register: its alignment is checked, a target domain in RET or OFF is raised and waited for, a fenced die B refused
(R465, R467). -/
def State.regCmd (s : State) (c : Nat) (x : PotCmd) (go : State → Nat → Nat → State) : State :=
  let w := x.word 1
  let o := bits w 0 26
  let size := if bit w 32 then 8 else 4
  if o % size ≠ 0 then s.potDone c Code.BAD_ARG []
  else if s.behindFence o then s.potDone c Code.FENCED []
  else
    match offDomain o with
    | some d =>
      let y := s.domAt d
      if y.st = .ret ∨ y.st = .off then
        (if x.data = [] then ((s.startCmd c).modCmd c (fun x => { x with data := [0] })).askWake d else s)
      else go (s.startCmd c) o size
    | none => go (s.startCmd c) o size

/-- READ_REG: the read is sent once the target is up; run again, it goes on (R467). -/
def execReadReg (c : Fin 24) (s : State) : Outcome :=
  .next (s.onCmd c 0x02 (fun x =>
    if x.data = [] ∨ x.data = [0] then
      s.regCmd c x (fun s o n => (s.potRead (PotId.cmd c) o n).modCmd c (fun x => { x with data := [2] }))
    else s))

/-- WRITE_REG: the write is sent once the target is up, and the read that follows once the write is answered (R467). -/
def execWriteReg (c : Fin 24) (s : State) : Outcome :=
  .next (s.onCmd c 0x03 (fun x =>
    if x.data = [] ∨ x.data = [0] then
      s.regCmd c x (fun s o n => (s.potWrite (PotId.cmd c) o n (x.word 2)).modCmd c (fun x => { x with data := [1] }))
    else if x.data = [1] then
      match s.takeComp 248 (PotId.cmd c) with
      | some (r, s1) =>
        if r.resp = Resp.OK then
          (s1.potRead (PotId.cmd c) (bits (x.word 1) 0 26) (if bit (x.word 1) 32 then 8 else 4)).modCmd c (fun x => { x with data := [2] })
        else s
      | none => s
    else s))

/-! ### Settings of NI ranges -/

/-- The period in which SET_SHAPER and SET_METER are refused: from a COMMIT_EPOCH's acceptance to the first refill boundary at or after T + 4,096 ft (R316). -/
def State.qosBusy (s : State) (n : Nat) : Bool :=
  let T := (s.rd Off.GL_EPOCH_T).toNat
  match s.pot.sw with
  | some w => !w.draining || decide (s.time.now < s.refillNext n (w.T + 4096))
  | none => s.pot.oldSw.isNone && T != 0 && decide (s.time.now < s.refillNext n (T + 4096))

/-- SET_SHAPER (R295, R464, R465, R470). -/
def execSetShaper (c : Fin 24) (s : State) : Outcome :=
  .next (s.runCmd c 0x20 (fun x =>
    let w := x.word 1
    let p := bits w 16 2
    let keep := bit w 24
    let rl := bits w 20 4
    let first := bits w 0 8
    if rangeBad w || shaperBad [x.word 2] (if keep then 6 else rl) then s.potDone c Code.BAD_ARG []
    else if s.qosBusy first then s.potDone c Code.EPOCH_BUSY []
    else
      let ctl := fun n => if keep then s.recorded (Off.NI_QOS_CTRL n) else setBits (s.recorded (Off.NI_QOS_CTRL n)) 12 4 rl
      s.overRange c (niRange w) (fun n => (Off.NI_SHAPER_CFG n p, x.word 2) :: (if keep then [] else [(Off.NI_QOS_CTRL n, ctl n)]))
        (fun s n => ((s.setPend (Off.NI_SHAPER_CFG n p) (x.word 2)).setPend (Off.NI_QOS_CTRL n) (ctl n)).commitShapers n)
        [BitVec.ofNat 64 (s.refillNext first (s.niTime first + 1))]))

/-- SET_METER (R299, R464, R465, R470). -/
def execSetMeter (c : Fin 24) (s : State) : Outcome :=
  .next (s.runCmd c 0x21 (fun x =>
    let w := x.word 1
    let m := bits w 16 4
    let k := bits w 21 3
    let set := bit w 20
    if rangeBad w || !(niRange w).all niHasMeter || meterBad (x.word 2) (x.word 3) then s.potDone c Code.BAD_ARG []
    else if s.qosBusy (bits w 0 8) then s.potDone c Code.EPOCH_BUSY []
    else
      s.overRange c (niRange w)
        (fun n => [(meterKey n m 0, x.word 2), (meterKey n m 1, x.word 3)] ++ (if set then [(Off.NI_METER_MATCH n k, x.word 4)] else []))
        (fun s n =>
          let s1 := s.modNi n (fun u => u.setMeter m { u.meter m with pRate := x.word 2, pBurst := x.word 3 })
          (if set then s1.setPend (Off.NI_METER_MATCH n k) (x.word 4) else s1).commitMeters n) []))

/-- The leaf group of an NI becomes active together (R13, NI_LEAF_CFG). -/
def State.commitLeaf (s : State) (n : Nat) : State := s.commitRegs [Off.NI_LEAF_CFG n, Off.NI_LEAF_DEST n]

/-- LEAF_CFG (R464, R465, R538). -/
def execLeafCfg (c : Fin 24) (s : State) : Outcome :=
  .next (s.runCmd c 0x22 (fun x =>
    let w := x.word 1
    let k := bits w 16 5
    if rangeBad w || k == 31 then s.potDone c Code.BAD_ARG []
    else
      let cfg := fun n => setBits (setBits (s.recorded (Off.NI_LEAF_CFG n)) 63 1 (bits w 21 1)) 32 5 k
      let dest := BitVec.ofNat 64 (bits (x.word 2) 6 46 * 64)
      s.overRange c (niRange w) (fun n => [(Off.NI_LEAF_CFG n, cfg n), (Off.NI_LEAF_DEST n, dest)])
        (fun s n => ((s.setPend (Off.NI_LEAF_CFG n) (cfg n)).setPend (Off.NI_LEAF_DEST n) dest).commitLeaf n) []))

/-- The counter page of a unit: 0 router tile, 1 NI, 2 home slice. -/
def unitPage (unit index : Nat) : CntPage := if unit = 0 then rtPage index else if unit = 1 then niPage index else hsPage index
/-- The NI through which a unit is reached (R464, R558). -/
def unitNi (unit index : Nat) : Nat := if unit = 0 then tileL0 index else if unit = 1 then index else sliceNi index
/-- A unit's filter sets: match, base and limit of set k become active together (R13, R556). -/
def State.commitFilter (s : State) (pg : CntPage) (k : Nat) : State := s.commitRegs [pg.fmatch k, pg.fbase k, pg.flimit k]

/-- PM_FILTER: the filter set is written where the unit's domain is at CG or above, and recorded elsewhere (R464, R465). -/
def execPmFilter (c : Fin 24) (s : State) : Outcome :=
  .next (s.runCmd c 0x23 (fun x =>
    let w := x.word 1
    let u := bits w 0 2
    let i := bits w 8 8
    let k := bits w 16 2
    if u = 3 ∨ (u = 0 ∧ 191 < i) ∨ (u = 2 ∧ 15 < i) ∨ bits (x.word 2) 38 2 = 3 then s.potDone c Code.BAD_ARG []
    else
      let pg := unitPage u i
      let line := fun (v : W64) => BitVec.ofNat 64 (bits v 6 46 * 64)
      let vals := [(pg.fmatch k, lay 0 [(52, 12, bits (x.word 2) 52 12), (40, 12, bits (x.word 2) 40 12), (38, 2, bits (x.word 2) 38 2), (37, 1, bits w 18 1),
        (0, 8, bits (x.word 2) 0 8)]), (pg.fbase k, line (x.word 3)), (pg.flimit k, line (x.word 4))]
      let d := s.domAt (if u = 2 then 48 + i else niIsland (unitNi u i))
      let fenced := (s.niAt (unitNi u i)).fenceHw
      let now := (d.st == .on || d.st == .cg) && !fenced
      let s1 := s.fwNote vals
      let s2 := if now then (vals.foldl (fun s e => s.setPend e.1 e.2) s1).commitFilter pg k else s1.fwDue vals
      s2.potDone c (if fenced then Code.FENCED else Code.OK) [BitVec.ofNat 64 (b2n now)]))

/-- The lowest NI_AFENCE entry of an NI whose VALID is 0. -/
def State.freeFence (s : State) (n : Nat) : Option Nat := (List.range 4).find? (fun k => !bit (s.recorded (Off.NI_AFENCE n k)) 63)

/-- The software fence of an NI is written, and requests held at step 2 fail as step 1 fails (R188, R436). -/
def State.fenceSw (s : State) (n : Nat) (on : Bool) : State :=
  ((s.setFld (Off.NI_CTRL n) Fld.NI_CTRL.FENCE_SW (b2n on)).refenceHeld n).serveComps n ReadErr.clean

/-- NI_CTRL with FENCE_SW set or clear, as it is recorded for an NI. -/
def State.fenceNote (s : State) (n : Nat) (on : Bool) : List (Nat × W64) := [(Off.NI_CTRL n, setBits (s.recorded (Off.NI_CTRL n)) 7 1 (b2n on))]

/-- FENCE_AGENT (R189, R464, R465, R470). -/
def execFenceAgent (c : Fin 24) (s : State) : Outcome :=
  .next (s.runCmd c 0x41 (fun x =>
    let w := x.word 1
    let l := niRange w
    let e := BitVec.ofNat 64 (2 ^ 63 + bits (x.word 2) 0 24)
    if rangeBad w then s.potDone c Code.BAD_ARG []
    else if bit w 16 then s.overRange c l (fun n => s.fenceNote n true) (fun s n => s.fenceSw n true) []
    else if l.any (fun n => (s.freeFence n).isNone) then s.potDone c Code.BUSY []
    else
      s.overRange c l (fun n => [(Off.NI_AFENCE n ((s.freeFence n).getD 0), e)])
        (fun s n => ((s.wr (Off.NI_AFENCE n ((s.freeFence n).getD 0)) e).refenceHeld n).serveComps n ReadErr.clean) []))

/-- Valid NI_AFENCE entries of an NI that equal a pattern. -/
def State.fencesOf (s : State) (n pat : Nat) : List Nat :=
  (List.range 4).filter (fun k => let v := s.recorded (Off.NI_AFENCE n k); bit v 63 && bits v 0 24 == pat)

/-- UNFENCE (R189, R464, R465, R470). -/
def execUnfence (c : Fin 24) (s : State) : Outcome :=
  .next (s.runCmd c 0x42 (fun x =>
    let w := x.word 1
    let l := niRange w
    let pat := bits (x.word 2) 0 24
    if rangeBad w then s.potDone c Code.BAD_ARG []
    else if bit w 16 then s.overRange c l (fun n => s.fenceNote n false) (fun s n => s.fenceSw n false) [0]
    else
      let cleared := l.foldl (fun a n => a + (s.fencesOf n pat).length) 0
      s.overRange c l (fun n => (s.fencesOf n pat).map (fun k => (Off.NI_AFENCE n k, 0)))
        (fun t n => (s.fencesOf n pat).foldl (fun t k => t.wr (Off.NI_AFENCE n k) 0) t) [BitVec.ofNat 64 cleared]))

/-! ### Snapshots, domains, Lids and links -/

/-- NIs to which SNAP is sent (R558). -/
def State.snapNis (s : State) : List Nat :=
  (List.range 256).filter (fun n =>
    let d := s.domAt (niIsland n)
    !(s.niAt n).fenceHw && (n == 251 || n == 253 || (niPort n == 4 && (d.st == .on || d.st == .cg))))

/-- SNAPSHOT: SNAP leaves for every unit; the command ends at T + 2,048 ft (R470, R558). -/
def execSnapshot (c : Fin 24) (s : State) : Outcome :=
  .next (s.runCmd c 0x24 (fun x =>
    let T := (x.word 1).toNat
    let now := s.time.now
    if !s.time.running || decide (T < now + 2000 ∨ now + 2 ^ 32 < T) then s.potDone c Code.BAD_ARG []
    else if (match s.pot.snapT with
      | some t => decide (now < t)
      | none => false) then s.potDone c Code.BUSY []
    else
      let num := (s.pot.snapNum + 1) % 2 ^ 32
      let s1 := (s.startCmd c).modPot (fun p => { p with snapNum := num, snapT := some T })
      s1.snapNis.foldl (fun s n => s.unitMgt 248 n 2 [BitVec.ofNat 64 T, BitVec.ofNat 64 num]) s1))

/-- The status that refuses a DOMAIN_POWER, if one does (R468, R490). -/
def State.powerRefused (s : State) (d st : Nat) : Option Nat :=
  let lower := decide ((s.restOf d).code < st) || decide ((s.domAt d).st.code < st)
  let rings := (List.range 16).any (fun r => s.ringSt r == 1)
  let never := (s.gtNamed d && decide (2 ≤ st)) || (d == 2 && st == 3) || (d == 64 && s.time.conf == .holdover && st != 0) ||
    (d == 64 && rings && decide (2 ≤ st)) || ((d == 64 || d == 65) && st == 3) || (d == 66 && s.st.wasLocked && st == 3)
  let notNow := (decide (48 ≤ d ∧ d < 64) && st == 3 && !(s.domIdle d && s.mayOff d)) || (decide (69 ≤ d) && st != 0 && !s.domIdle d)
  if never || (lower && notNow) then some Code.DENIED
  else if lower && (s.kt.loadHold || s.kt.winHold) && decide (2 ≤ st) then some Code.EPOCH_BUSY
  else if s.kt.dieBFenced && domainOnB d then some Code.FENCED
  else none

/-- DOMAIN_POWER: the Kettle is asked for the state, and the command waits until it is reached (R465, R468). -/
def execDomainPower (c : Fin 24) (s : State) : Outcome :=
  .next (s.runCmd c 0x30 (fun x =>
    let d := bits (x.word 1) 0 7
    let st := bits (x.word 1) 8 2
    if 72 ≤ d then s.potDone c Code.BAD_ARG []
    else
      match s.powerRefused d st with
      | some code => s.potDone c code []
      | none =>
        let s1 := (s.startCmd c).writeRest d (DomSt.ofCode st)
        s1.modCmd c (fun x => { x with data := [b2n (s1.domAt d).pendOn] })))

/-- QUIESCE: the Lids of the bands close, and the command waits until their NIs are quiet (R469). -/
def execQuiesce (c : Fin 24) (s : State) : Outcome :=
  .next (s.runCmd c 0x31 (fun x =>
    let w := x.word 1
    if bit w 4 then s
    else if bits w 32 16 = 0 then s.potDone c Code.BAD_ARG []
    else (s.startCmd c).setPotClose (s.fld Off.GL_LID_CTRL Fld.GL_LID_CTRL.POT_CLOSE ||| bits w 0 4)))

/-- QUIESCE_OPEN: the Pot's closure of the bands ends; DENIED where the Saucer keeps one of their Lids closed (R469). -/
def execQuiesceOpen (c : Fin 24) (s : State) : Outcome :=
  .next (s.runCmd c 0x31 (fun x =>
    let w := x.word 1
    if !bit w 4 then s
    else
      let b := bits w 0 4
      let saucer := s.fld Off.GL_LID_CTRL Fld.GL_LID_CTRL.SAUCER
      let s1 := s.setPotClose (s.fld Off.GL_LID_CTRL Fld.GL_LID_CTRL.POT_CLOSE &&& (15 - b))
      if saucer &&& b = 0 then s1.potDone c Code.OK [] else s1.potDone c Code.DENIED [BitVec.ofNat 64 saucer]))

/-- LINK_RETRAIN: the link end retrains, and the command waits until it is in service again (R465, R470). -/
def execLinkRetrainCommand (c : Fin 24) (s : State) : Outcome :=
  .next (s.runCmd c 0x32 (fun x =>
    let w := x.word 1
    let k := bits w 0 5
    let e := bits w 8 1
    if 27 < k ∨ (e = 1 ∧ 12 ≤ k) then s.potDone c Code.BAD_ARG []
    else if (s.lkAt k e).st = .down ∨ (s.lkAt k e).st = .lost then s.potDone c Code.DENIED []
    else if lkSeam k && s.kt.dieBFenced then s.potDone c Code.FENCED []
    else ((s.startCmd c).setFld (Off.LK_CTRL k e) Fld.LK_CTRL.WIDTH_REQ (bits w 9 2)).lkRetrain k e))

/-! ### The Caddy -/

/-- Results of CADDY_FREEZE: records held, and the time of the freeze (R465). -/
def State.freezeRsp (s : State) : List W64 := [BitVec.ofNat 64 s.cd.held, s.rd Off.CD_FREEZE_TIME]

/-- CADDY_FREEZE: the Pot writes a FREEZE record, after which no reservation is granted; run again once the Caddy is frozen, the command ends
(R470, R536). -/
def execCaddyFreeze (c : Fin 24) (s : State) : Outcome :=
  .next (s.onCmd c 0x43 (fun x =>
    if bit (x.word 1) 0 then s
    else if s.cd.frozen then s.potDone c Code.OK s.freezeRsp
    else if s.cd.freezing || x.started || decide (4 ≤ (s.cd.port 4).buf.length) then s
    else ((s.startCmd c).cdWrite 4 Cd.FREEZE 0 (BitVec.ofNat 64 s.cd.held) 0).modCd (fun d => { d with freezing := true, byC4 := false })))

/-- CADDY_THAW: recording resumes with a FREEZE record marked THAW; refused after a C4 fault (R470, R536). -/
def execCaddyThaw (c : Fin 24) (s : State) : Outcome :=
  .next (s.runCmd c 0x43 (fun x =>
    if !bit (x.word 1) 0 then s
    else if s.pins.fatal || s.cd.byC4 then s.potDone c Code.DENIED []
    else if s.cd.frozen then
      ((s.modCd (fun d => { d with frozen := false, freezing := false })).cdWrite 4 Cd.FREEZE (2 ^ 57) (BitVec.ofNat 64 s.cd.held) 0).potDone c
        Code.OK s.freezeRsp
    else s.potDone c Code.OK s.freezeRsp))

/-- An error that a read of the Caddy meets is counted, an uncorrectable one reported once per slot (R537). -/
def State.cdReadErrs (s : State) (errs : CdErrs) : State :=
  errs.foldl (fun s e =>
    let s1 := s.setFld Off.CD_ERR Fld.CD_ERR.LAST_SLOT e.1
    if e.2.2 then
      let s2 := s1.bump Off.CD_ERR Fld.CD_ERR.UE
      if s2.cd.ueSlots.contains e.1.val then s2
      else (s2.modCd (fun d => { d with ueSlots := d.ueSlots ++ [e.1.val] })).reportUp 250 5 .CD_UE (e.1.val * 2 ^ 8)
    else s1.bump Off.CD_ERR Fld.CD_ERR.CE) s

/-- The four words of a record as a read returns them: with an uncorrectable word, KIND 0xF and that word zero (R537). -/
def Caddy.readRec (d : Caddy) (k : Nat) (errs : CdErrs) : List W64 :=
  let bad := fun w => errs.any (fun e => e.1.val == k && e.2.1.val == w && e.2.2)
  let ws := (List.range 4).map (fun w => if bad w then 0 else d.word k w)
  if (List.range 4).any bad then (List.range 4).map (fun w => if w = 1 then setBits (ws.getD 1 0) 60 4 15 else ws.getD w 0) else ws

/-- CADDY_READ: a record is returned, or records are copied to host memory two to a line (R465, R470, R537). -/
def execCaddyRead (c : Fin 24) (errs : CdErrs) (s : State) : Outcome :=
  .next (s.onCmd c 0x44 (fun x =>
    let first := bits (x.word 1) 0 13
    let count := bits (x.word 1) 16 14
    let dest := x.addr 2
    let newest := BitVec.ofNat 64 s.cd.newest
    if x.started then
      let l := (s.niAt 248).comps.filter (fun e => e.ident == PotId.copy c)
      if l.length < x.data.headD 0 then s
      else
        let s1 := s.modNi 248 (fun u => { u with comps := u.comps.filter (fun e => e.ident != PotId.copy c) })
        s1.potDone c (if l.all (fun e => e.resp == Resp.OK) then Code.OK else Code.TIMEOUT) [0, 0, 0, 0, newest]
    else if count = 0 then (s.cdReadErrs errs).potDone c Code.OK (s.cd.readRec first errs ++ [newest])
    else if 8192 < count ∨ dest % 64 ≠ 0 ∨ s.hostLines dest ((count + 1) / 2) = false then s.potDone c Code.BAD_ARG []
    else
      let n := (count + 1) / 2
      let rec2 := fun j => if j < count then s.cd.readRec ((first + j) % 8192) errs else [0, 0, 0, 0]
      let s1 := ((s.cdReadErrs errs).startCmd c).modCmd c (fun x => { x with data := [n] })
      (List.range n).foldl (fun s j => s.potLine (dest + 64 * j) (PotId.copy c) (rec2 (2 * j) ++ rec2 (2 * j + 1))) s1))

/-! ### Rings -/

/-- An issuer may act on a ring: mailbox 0, the owner, or any where the ring has no owner yet (R472). -/
def State.mayRing (s : State) (c r : Nat) : Bool :=
  let m := s.issuer c
  m == 0 || !(s.pot.ring r).setUp || s.fld (Off.PT_RING_CFG r) Fld.PT_RING_CFG.OWNER == m

/-- The arguments of RING_SETUP's ring form are in range, aligned and decoded (R465, R471). -/
def State.ringArgsOk (s : State) (x : PotCmd) : Bool :=
  let lg := bits (x.word 1) 4 4
  let size := 64 * 2 ^ lg
  let poll := bits (x.word 5) 32 20
  decide (lg ≤ 12) && x.addr 2 % size == 0 && x.addr 3 % size == 0 && x.addr 4 % 64 == 0 && decide (64 ≤ poll ∧ poll ≤ 1000000) && x.addr 6 % 4 == 0 &&
    s.hostLines (x.addr 2) (2 ^ lg) && s.hostLines (x.addr 3) (2 ^ lg) && s.hostLines (x.addr 4) 1

/-- RING_SETUP: the ring's areas, owner and phases are set, and it is left disabled (R471, R472). -/
def execRingSetup (c : Fin 24) (s : State) : Outcome :=
  .next (s.runCmd c 0x50 (fun x =>
    let w := x.word 1
    let r := bits w 0 4
    if bit w 8 then s
    else if !s.ringArgsOk x then s.potDone c Code.BAD_ARG []
    else if s.ringSt r = 1 then s.potDone c Code.BUSY []
    else if !s.mayRing c r then s.potDone c Code.DENIED []
    else
      let cfg := lay 0 [(60, 4, bits w 4 4), (57, 3, s.issuer c), (52, 1, bits (x.word 5) 0 1), (32, 20, bits (x.word 5) 32 20), (16, 16, bits (x.word 5) 16 16)]
      let s1 := (((s.wr (Off.PT_RING_SQ r) (BitVec.ofNat 64 (x.addr 2))).wr (Off.PT_RING_CQ r) (BitVec.ofNat 64 (x.addr 3))).wr (Off.PT_RING_SL r)
        (BitVec.ofNat 64 (x.addr 4))).wr (Off.PT_RING_CFG r) cfg
      let s2 := ((s1.wr (Off.PT_RING_IRQ r) (BitVec.ofNat 64 (bits (x.word 7) 0 32 * 2 ^ 32 + x.addr 6 % 2 ^ 32))).wr (Off.PT_RING_IRQ_HI r)
        (BitVec.ofNat 64 (x.addr 6 / 2 ^ 32))).wr (Off.PT_RING_STATE r) (lay 0 [(51, 1, 1), (50, 1, 1)])
      let busy := (s.pot.ring r).reading
      ((s2.wr (Off.PT_RING_CNT r) 0).modRing r (fun _ => { PotRing.reset with setUp := true, reading := busy, staleRead := busy })).potDone c Code.OK []))

/-- RING_SETUP in its mailbox form: the interrupt address and data of the issuing mailbox are set, or cleared (R461, R471). -/
def execRingSetupMailboxForm (c : Fin 24) (s : State) : Outcome :=
  .next (s.runCmd c 0x50 (fun x =>
    let m := s.issuer c
    if !bit (x.word 1) 8 then s
    else if x.addr 6 % 4 ≠ 0 then s.potDone c Code.BAD_ARG []
    else if bit (x.word 5) 0 then
      ((s.wr (Off.PT_MB_IRQ_ADDR m) (BitVec.ofNat 64 (2 ^ 63 + x.addr 6))).wr (Off.PT_MB_IRQ_DATA m) (BitVec.ofNat 64 (bits (x.word 7) 0 32))).potDone c
        Code.OK []
    else ((s.wr (Off.PT_MB_IRQ_ADDR m) 0).wr (Off.PT_MB_IRQ_DATA m) 0).potDone c Code.OK []))

/-- RING_ENABLE: polling starts at the head, and the status line is written; a ring never set up, or stopped, is refused (R480, R482). -/
def execRingEnable (c : Fin 24) (s : State) : Outcome :=
  .next (s.runCmd c 0x51 (fun x =>
    let r := bits (x.word 1) 0 4
    if !s.mayRing c r then s.potDone c Code.DENIED []
    else if !(s.pot.ring r).setUp || s.ringSt r == 3 then s.potDone c Code.BAD_ARG []
    else if s.ringSt r = 1 then s.potDone c Code.OK []
    else
      (((s.setRingSt r 1).modRing r (fun y => { y with
        next := s.ringHead r, nextPhase := s.ringPhase r, pollAt := 0, staleRead := y.reading })).ringLine r).potDone c Code.OK []))

/-- RING_DISABLE: polling stops and fetched entries are discarded; the status line is written once the running entry has completed (R481). -/
def execRingDisable (c : Fin 24) (s : State) : Outcome :=
  .next (s.runCmd c 0x52 (fun x =>
    let r := bits (x.word 1) 0 4
    if !s.mayRing c r then s.potDone c Code.DENIED []
    else if s.ringSt r ≠ 1 then s.potDone c Code.OK []
    else
      let s1 := (s.setRingSt r 2).modRing r (fun y => { y with fetched := [], next := s.ringHead r, nextPhase := s.ringPhase r })
      if (s.pot.cmd (8 + r)).isSome then s1.startCmd c else (s1.ringLine r).potDone c Code.OK []))

/-- CANCEL: entries are marked from FIRST onward, wrapping at the ring's end; those of the present lap that have started are counted (R483). -/
def execCancel (c : Fin 24) (s : State) : Outcome :=
  .next (s.runCmd c 0x53 (fun x =>
    let w := x.word 1
    let r := bits w 0 4
    let first := bits w 16 12
    let count := bits w 32 13
    let size := s.ringSize r
    if !s.mayRing c r then s.potDone c Code.DENIED []
    else if !(s.pot.ring r).setUp || decide (count = 0 ∨ size < count ∨ size ≤ first) then s.potDone c Code.BAD_ARG []
    else
      let l := (List.range count).map (fun k => (first + k) % size)
      let started := (l.filter (fun i => decide (i < s.ringHead r))).length
      (s.modRing r (fun y => { y with marks := y.marks ++ l.filter (fun i => !y.marks.contains i) })).potDone c Code.OK
        [BitVec.ofNat 64 count, BitVec.ofNat 64 started]))

end Sys2Proof.Machine
end

