-- ==== Sys2Proof/Machine/Ledger.lean ====
section
/-! DEFINITION. The repair ledger: records, compaction, rescans and the PLATFORM procedures that write them (R264 to R272, R311). -/
namespace Sys2Proof.Machine

/-! ### Records -/

/-- The state with the ledger changed. -/
def State.modLedger (s : State) (f : Ledger → Ledger) : State := s.modPot (fun p => { p with ledger := f p.ledger })

/-- CHECK of a ledger word pair: CRC-8 over word 0 and then word 1 bits [63:8], bit 63 first (R265, R266). -/
def crc8Pair (w0 w1 : W64) : Nat :=
  (List.range 56).foldl (fun c k => crc8Step c (w1.getLsbD (63 - k))) ((List.range 64).foldl (fun c k => crc8Step c (w0.getLsbD (63 - k))) 0)

/-- Word 1 of a record or a header with its CHECK. -/
def withCheck (w0 : W64) (v : Nat) : W64 :=
  let w1 := BitVec.ofNat 64 (v / 256 * 256)
  setBits w1 0 8 (crc8Pair w0 w1)

/-- Word 0 of the record of a report, SEQ zero (R266). -/
def Repair.word (r : Repair) : W64 := repairWord (r.kind.val + 1) r.slice r.set.toNat r.way.toNat r.spare.toNat

/-- The record of a report with the next SEQ and the time of the repair (R266). -/
def State.ledgerRec (s : State) (w : W64 × Nat) : W64 × W64 :=
  let w0 := setBits w.1 0 32 s.pot.ledger.seq
  (w0, withCheck w0 (bits (BitVec.ofNat 64 w.2) 10 48 * 2 ^ 16))

/-- Two records name the same repair, TIME and SEQ apart. -/
def sameRepair (a b : W64) : Bool := bits a 32 32 == bits b 32 32

/-- A record is live: no later record supersedes it (R268). -/
def liveRecords : List (W64 × W64) → List (W64 × W64)
  | [] => []
  | r :: rest =>
    let k := bits r.1 60 4
    let slice := bits r.1 56 4
    let gone := rest.any (fun q => bits q.1 56 4 == slice &&
      ((k == 1 && bits q.1 60 4 == 2 && bits q.1 32 6 == bits r.1 32 6) || (k == 3 && bits q.1 60 4 == 4 && bits q.1 42 14 == bits r.1 42 14)))
    if gone then liveRecords rest else r :: liveRecords rest

/-- A repair that is not recorded is counted, and kept in SRAM for a reload (R269, R497). -/
def State.volatileRepair (s : State) (w : W64) : State :=
  (s.bump (Off.HS_WEAR (bits w 56 4)) Fld.HS_WEAR.VOLATILE).modLedger (fun l => { l with vol := l.vol ++ [w] })

/-- The ledger takes no record: none is present, or it is full or treated as full (R269, R270). -/
def State.ledgerClosed (s : State) : Bool :=
  !s.flag Off.GL_LEDGER_CFG Fld.GL_LEDGER_CFG.ENABLE || s.flag Off.GL_LEDGER_STATUS Fld.GL_LEDGER_STATUS.FULL

/-! ### Accesses to the flash -/

/-- Address at which NI 248 reaches an E5LB address: through the boot decode, or through an IO window of NI 254 (R397, R576). -/
def State.e5lbAddr (s : State) (a : Nat) : Option Nat :=
  if (s.niAt 248).ep.boot then some (2 ^ 51 + a)
  else
    (List.range 64).findSome? (fun k =>
      let w0 := s.tabW 248 (s.niAt 248).ep.bank Sec.ADDRMAP 0 (2 * k)
      let base := bits w0 12 40 * 2 ^ 12
      let addr := base + (a + 2 ^ 32 - base % 2 ^ 32) % 2 ^ 32
      if bits w0 60 4 = 3 ∧ bits (s.tabW 248 (s.niAt 248).ep.bank Sec.ADDRMAP 0 (2 * k + 1)) 40 8 = 254 ∧ windowCovers w0 (addr / 64) = true then some addr else none)

/-- Identifier of the ledger's access in its order. -/
def PotId.flash (k : Nat) : Nat := 0x48000 + k % 4096

/-- The Pot reads or writes four bytes at an E5LB address; none where no window leads there. -/
def State.flashAccess (s : State) (a : Nat) (wr : Option Nat) : Option State :=
  match s.e5lbAddr (a % 2 ^ 32) with
  | none => none
  | some addr =>
    let k := s.pot.ledger.access + 1
    let s1 := s.modLedger (fun l => { l with access := k })
    some (match wr with
      | some v => s1.potSend (potReq Vn.ION 2 (addr / 64) (PotId.flash k) false [writeBody addr 4 (BitVec.ofNat 64 v)] 0)
      | none => s1.potSend (potReq Vn.ION 1 (addr / 64) (PotId.flash k) false [⟨false, bytesAt addr 4, 0⟩] 0))

/-- The outcome of a stretch of a procedure: it waits, has ended, or has failed (R311). -/
inductive ProcEnd where
  | waits | ended | failed
  deriving DecidableEq, Repr

/-- The state with the procedure under way replaced. -/
def State.setProc (s : State) (p : Proc) : State := s.modLedger (fun l => { l with proc := some p })

/-- VALUE of a step (R311). -/
def Proc.value (p : Proc) (st : W64 × W64) : Nat := if bit st.1 47 then p.target else bits st.2 0 32

/-- The procedure begins its next step (R311). -/
def State.procStep (s : State) (p : Proc) : State × ProcEnd :=
  match p.steps with
  | [] => (s, .ended)
  | st :: rest =>
    let op := bits st.1 60 4
    let a := bits st.1 0 32
    if op = 1 then
      match s.flashAccess a (some (p.value st)) with
      | some s1 => (s1.setProc { p with steps := rest, pend := 1 }, .waits)
      | none => (s, .failed)
    else if op = 2 then
      match s.flashAccess a none with
      | some s1 => (s1.setProc { p with pend := 2, since := if p.pend = 2 then p.since else s.refTime }, .waits)
      | none => (s, .failed)
    else if op = 3 then (s.setProc { p with pend := 3, since := s.refTime }, .waits)
    else if op = 4 then
      let v := (p.data.take 4).foldr (fun b acc => b + 256 * acc) 0
      match s.flashAccess a (some v) with
      | some s1 => (s1.setProc { p with steps := rest, data := p.data.drop 4, pend := 1 }, .waits)
      | none => (s, .failed)
    else (s, .ended)

/-- Bytes of a word, byte 0 first. -/
def wordBytes (w : W64) : List Nat := (List.range 8).map (fun k => bits w (8 * k) 8)

/-- E5LB address of the active copy, or of the other one (R264). -/
def State.copyBase (s : State) (other : Bool) : Nat :=
  let act := s.fld Off.GL_LEDGER_STATUS Fld.GL_LEDGER_STATUS.ACTIVE
  s.fld Off.GL_LEDGER_CFG Fld.GL_LEDGER_CFG.BASE + 0x20000 * (if other then 1 - act else act)

/-- The platform procedures of the active image (R311). -/
def State.platformSteps (s : State) : List (W64 × W64) :=
  KMap.get (fun _ => []) s.pot.platform (s.fld Off.GL_EPOCH Fld.GL_EPOCH.NUMBER % 2)

/-- The procedure that the present phase asks for is started: ERASE of the other copy, or PROGRAM of 8 bytes (R267, R268, R311). -/
def State.startProc (s : State) : State × ProcEnd :=
  let l := s.pot.ledger
  let other := l.phase != .single
  let target := s.copyBase other + (if l.phase = .erase then 0 else (if l.phase = .header then 0 else 0x40 + 16 * l.slot) + (if l.half = 0 then 8 else 0))
  let proc := if l.phase = .erase then 0 else 1
  let steps := s.platformSteps.filter (fun st => bits st.1 56 4 == proc)
  s.procStep { steps := steps, target := target, data := wordBytes (if l.half = 0 then l.cur.2 else l.cur.1), pend := 0, since := s.refTime }

/-! ### The order of writes -/

/-- A ledger write has failed twice: it is reported, and the ledger is treated as full; what was to be written stays volatile, and a compaction ends
(R270, R470). -/
def State.ledgerFail (s : State) : State :=
  let l := s.pot.ledger
  let s1 := (s.setFld Off.GL_LEDGER_STATUS Fld.GL_LEDGER_STATUS.FULL 1).reportPot .LEDGER_WRITE_ERR 0 0
  let s2 := if l.phase = .single then s1.volatileRepair l.cur.1 else s1.setFld Off.GL_LEDGER_STATUS Fld.GL_LEDGER_STATUS.COMPACTING 0
  let s3 := l.wait.foldl (fun s w => s.volatileRepair w.1) s2
  let s4 := s3.modLedger (fun l => { l with phase := .idle, wait := [], rescan := [], todo := [], kept := [], proc := none, again := false })
  s4.pot.cmds.foldl (fun s x => if x.op = 0x45 ∧ x.started = true then s.potDone x.src Code.TIMEOUT [] else s) s4

/-- A compaction starts: live records are kept, and the other copy is erased (R268). -/
def State.startCompact (s : State) : State :=
  (s.setFld Off.GL_LEDGER_STATUS Fld.GL_LEDGER_STATUS.COMPACTING 1).modLedger (fun l => { l with
    phase := .erase, todo := liveRecords l.recs, kept := [], keptGap := none, again := false, half := 1 })

/-- The next thing to write is chosen: a waiting report, after a compaction where no slot is left for it, or the next live record or the header of a
compaction (R267 to R269). -/
def State.ledgerNext (s : State) : State :=
  let l := s.pot.ledger
  match l.phase with
  | .idle =>
    match l.wait with
    | [] => s
    | w :: rest =>
      if s.ledgerClosed then (l.wait.foldl (fun s w => s.volatileRepair w.1) s).modLedger (fun l => { l with wait := [] })
      else if 4096 ≤ s.fld Off.GL_LEDGER_STATUS Fld.GL_LEDGER_STATUS.COUNT then s.startCompact
      else
        s.modLedger (fun l => { l with
          wait := rest, phase := .single, cur := s.ledgerRec w, slot := s.fld Off.GL_LEDGER_STATUS Fld.GL_LEDGER_STATUS.COUNT
          half := 0, again := false, seq := l.seq + 1 })
  | .erase | .live =>
    match l.todo with
    | r :: rest => s.modLedger (fun l => { l with
        phase := .live, cur := r, todo := rest, slot := if l.phase = .erase then 0 else l.slot, half := 0, again := false })
    | [] =>
      let w0 := BitVec.ofNat 64 (2 ^ 48 + (s.fld Off.GL_LEDGER_STATUS Fld.GL_LEDGER_STATUS.GEN + 1) % 2 ^ 32)
      s.modLedger (fun l => { l with phase := .header, cur := (w0, withCheck w0 0), slot := if l.phase = .erase then 0 else l.slot, half := 0, again := false })
  | _ => s

/-- A compaction has written its header: the other copy is active, and the command that asked for it ends (R268, R269, R465). -/
def State.endCompact (s : State) : State :=
  let o := Off.GL_LEDGER_STATUS
  let l := s.pot.ledger
  let gen := (s.fld o Fld.GL_LEDGER_STATUS.GEN + 1) % 2 ^ 32
  let s1 := ((s.setFld o Fld.GL_LEDGER_STATUS.GEN gen).setFld o Fld.GL_LEDGER_STATUS.ACTIVE (1 - s.fld o Fld.GL_LEDGER_STATUS.ACTIVE)).setFld o
    Fld.GL_LEDGER_STATUS.COUNT l.slot
  let s2 := (s1.setFld o Fld.GL_LEDGER_STATUS.COMPACTING 0).modLedger (fun l => { l with phase := .idle, recs := l.kept, kept := [], gap := l.keptGap, keptGap := none, proc := none })
  let s3 := if 4096 ≤ l.slot then (s2.setFld o Fld.GL_LEDGER_STATUS.FULL 1).reportPot .LEDGER_FULL 0 0 else s2
  s3.pot.cmds.foldl (fun s x => if x.op = 0x45 ∧ x.started = true then
    s.potDone x.src Code.OK [BitVec.ofNat 64 l.kept.length, BitVec.ofNat 64 gen] else s) s3

/-- A procedure has ended well: the second half follows, or what it wrote is complete (R267, R268). -/
def State.writeDone (s : State) : State :=
  let l := s.pot.ledger
  let o := Off.GL_LEDGER_STATUS
  match l.phase with
  | .idle => s
  | .erase => s.ledgerNext
  | .single =>
    if l.half = 0 then s.modLedger (fun l => { l with half := 1 })
    else
      let n := l.slot + 1
      let s1 := (s.setFld o Fld.GL_LEDGER_STATUS.COUNT n).modLedger (fun l => { l with recs := l.recs ++ [l.cur], phase := .idle })
      if 4096 ≤ n then s1.startCompact else s1.ledgerNext
  | .live =>
    if l.half = 0 then s.modLedger (fun l => { l with half := 1 })
    else (s.modLedger (fun l => { l with kept := l.kept ++ [l.cur], slot := l.slot + 1 })).ledgerNext
  | .header => if l.half = 0 then s.modLedger (fun l => { l with half := 1 }) else s.endCompact.ledgerNext

/-- A procedure has failed: the record is written once more at the next slot, an erasure or a header once more in its place; a second failure
makes the ledger full (R270). -/
def State.writeFailed (s : State) : State :=
  let l := s.pot.ledger
  if l.again || (l.phase == .single && decide (4096 ≤ l.slot + 1)) then s.ledgerFail
  else
    let place := l.phase == .single || l.phase == .live
    let s1 := if l.phase = .single then s.setFld Off.GL_LEDGER_STATUS Fld.GL_LEDGER_STATUS.COUNT (l.slot + 1) else s
    s1.modLedger (fun l => { l with
      again := true, slot := if place then l.slot + 1 else l.slot, half := if l.phase = .erase then 1 else 0
      gap := if l.phase = .single then some (l.gap.getD l.recs.length) else l.gap
      keptGap := if l.phase = .live then some (l.keptGap.getD l.kept.length) else l.keptGap })

/-- A fuel that every stretch of ledger work stays below. -/
def ledgerFuel : Nat := 20000

/-- Procedures run until one waits for the flash or nothing is left to write. -/
def State.ledgerRun (s : State) (r : ProcEnd) : Nat → State
  | 0 => s
  | fuel + 1 =>
    match r with
    | .waits => s
    | .ended | .failed =>
      let s1 := (if r = .ended then s.writeDone else s.writeFailed).modLedger (fun l => { l with proc := none })
      if s1.pot.ledger.phase = .idle then s1
      else
        let (s2, r2) := s1.startProc
        s2.ledgerRun r2 fuel

/-- Writing begins where the ledger is idle and something waits, or a compaction has just started. -/
def State.ledgerKick (s : State) : State :=
  if s.pot.ledger.proc.isSome then s
  else
    let s1 := if s.pot.ledger.phase = .idle then s.ledgerNext else s
    if s1.pot.ledger.phase = .idle then s1
    else
      let (s2, r) := s1.startProc
      s2.ledgerRun r ledgerFuel

/-- The answer to the ledger's access is taken, and the procedure goes on (R270, R311). -/
def State.ledgerGo (s : State) : State :=
  match s.pot.ledger.proc with
  | none => s
  | some p =>
    match s.takeComp 248 (PotId.flash s.pot.ledger.access) with
    | none => s
    | some (c, s1) =>
      if p.pend = 3 then s
      else if c.resp ≠ Resp.OK then s1.ledgerRun .failed ledgerFuel
      else if p.pend = 1 then
        let (s2, r) := s1.procStep { p with pend := 0 }
        s2.ledgerRun r ledgerFuel
      else
        match p.steps with
        | [] => s
        | st :: rest =>
          let a := bits st.1 0 32
          let v := ((c.lines.head?.map Body.data).getD (0 : Line)).toNat / 2 ^ (8 * (a % 64)) % 2 ^ 32
          let hit := v &&& bits st.2 32 32 == p.value st
          let (s2, r) := s1.procStep (if hit then { p with steps := rest, pend := 0 } else p)
          s2.ledgerRun r ledgerFuel

/-- The E5LB address of a fault word's DETAIL lies in the flash of the ledger, or is one that its procedures write (R264, R270, R311). -/
def State.ledgerAddr (s : State) (a : Nat) : Bool :=
  let base := s.fld Off.GL_LEDGER_CFG Fld.GL_LEDGER_CFG.BASE
  (decide (base ≤ a) && decide (a < base + 0x40000)) || s.platformSteps.any (fun st => (bits st.1 60 4 == 1 || bits st.1 60 4 == 4) && bits st.1 0 32 == a)

/-- SB_FAR_WRITE of a write of the Pot to the ledger's flash: the write under way has failed; with none under way, the record last written has (R270). -/
def State.ledgerNews (s : State) (w : W64) : State :=
  if bits w 44 8 != FaultKind.SB_FAR_WRITE.code || bits w 0 8 != 248 || s.ledgerClosed || !s.ledgerAddr (bits w 8 31 * 2) then s
  else
    let l := s.pot.ledger
    let s1 := s.modLedger (fun l => { l with proc := none })
    if l.phase ≠ .idle then s1.ledgerRun .failed ledgerFuel
    else
      match l.recs.getLast? with
      | none => s
      | some r =>
        (s1.modLedger (fun l => { l with
          phase := .single, cur := r, recs := l.recs.dropLast, slot := s.fld Off.GL_LEDGER_STATUS Fld.GL_LEDGER_STATUS.COUNT - 1
          half := 0 })).ledgerRun .failed ledgerFuel

/-! ### Commands -/

/-- A repair waits for the ledger: up to 64 of them, after which its slice is flagged for a rescan (R267). -/
def State.ledgerWait (s : State) (h : Nat) (w : W64 × Nat) : State :=
  s.modLedger (fun l => if l.wait.length < 64 then { l with wait := l.wait ++ [w] }
    else { l with rescan := if l.rescan.contains h then l.rescan else l.rescan ++ [h] })

/-- LEDGER_REPAIR_REPORT: the Pot takes the report of a repair that a slice has made and writes its record, or goes on with the record being written once
the flash has answered (R267, R269). -/
def execLedgerRepairReport (r : Option Repair) (s : State) : Outcome :=
  if !s.domOn 64 then .next (if s.wakeQ.contains 64 then s else s.askWake 64)
  else
    match r with
    | none => .next s.ledgerGo
    | some r =>
      match (s.sliceAt r.slice).told.find? (fun e => e.1 == r.word) with
      | none => .next s
      | some e =>
        let s1 := s.modSlice r.slice (fun x => { x with told := x.told.erase e })
        if s1.ledgerClosed then .next (s1.volatileRepair e.1)
        else .next (s1.ledgerWait r.slice e).ledgerKick

/-- Repairs of a slice that the active copy does not yet hold (R267). -/
def State.missingRepairs (s : State) (h : Nat) : List W64 :=
  let x := s.sliceAt h
  let put := fun (k set way spare : Nat) => BitVec.ofNat 64 (k * 2 ^ 60 + h * 2 ^ 56 + set * 2 ^ 42 + way * 2 ^ 38 + spare * 2 ^ 32)
  let spares := x.spTag0.flatMap (fun e =>
    let dead := bit e.2 62
    if bit e.2 63 || dead then [put (if dead then 2 else 1) (bits e.2 46 14) (bits e.2 42 4) e.1] else [])
  let sets := x.stat.flatMap (fun e =>
    let w := x.status e.1
    ((List.range 16).filter (x.retired e.1)).map (fun k => put 3 e.1 k 0) ++ (if bit w 63 then [put 4 e.1 0 0] else []))
  (spares ++ sets).filter (fun w => !s.pot.ledger.recs.any (fun r => sameRepair r.1 w))

/-- HS_DIAG_SEL for the word that a rescan reads last: the tag word of spare 63. DEDUCED: a rescan reads the set status words and then the spares, all within its
one command (log entry 51). -/
def rescanLast : W64 := BitVec.ofNat 64 (6 * 2 ^ 29 + 63 * 2 ^ 15)

/-- LEDGER_RESCAN: with no compaction and no report waiting, the first flagged slice is read and a record is written for every repair that the
active copy lacks (R267). -/
def execLedgerRescan (s : State) : Outcome :=
  let l := s.pot.ledger
  match l.rescan with
  | [] => .next s
  | h :: rest =>
    if l.phase ≠ .idle ∨ l.wait ≠ [] ∨ s.domOn 64 = false then .next s
    else if s.domOn (48 + h) then
      .next (((s.diagAccess h false rescanLast 0 0).wr (Off.HS_DIAG_SEL h) rescanLast).modLedger (fun l => { l with
        rescan := rest, wait := (s.missingRepairs h).map (fun w => (w, s.time.now)) })).ledgerKick
    else .next (if s.wakeQ.contains (48 + h) then s else s.askWake (48 + h))

/-- LEDGER_COMPACT (R268, R470). -/
def execLedgerCompact (c : Fin 24) (s : State) : Outcome :=
  .next (s.runCmd c 0x45 (fun _ =>
    if !s.flag Off.GL_LEDGER_CFG Fld.GL_LEDGER_CFG.ENABLE then s.potDone c Code.DENIED []
    else if s.flag Off.GL_LEDGER_STATUS Fld.GL_LEDGER_STATUS.COMPACTING then s.potDone c Code.BUSY []
    else if s.pot.ledger.phase = .idle then ((s.startCmd c).startCompact).ledgerKick
    else s))

/-- PLATFORM_WAIT_END: the VALUE µs of a WAIT step have passed (R311). -/
def execPlatformWaitEnd (s : State) : Outcome :=
  match s.pot.ledger.proc with
  | none => .next s
  | some p =>
    match p.pend, p.steps with
    | 3, st :: rest =>
      if p.since + p.value st * 1000 ≤ s.refTime ∧ s.domOn 64 = true then
        let (s2, r) := s.procStep { p with steps := rest, pend := 0 }
        .next (s2.ledgerRun r ledgerFuel)
      else .next s
    | _, _ => .next s

/-- PLATFORM_POLL_LIMIT: a POLL step has not matched within LIMIT × 100 µs, and the procedure fails as a ledger write does (R270, R311). -/
def execPlatformPollLimit (s : State) : Outcome :=
  match s.pot.ledger.proc with
  | none => .next s
  | some p =>
    match p.pend, p.steps with
    | 2, st :: _ =>
      if p.since + bits st.1 48 8 * 100000 ≤ s.refTime ∧ s.domOn 64 = true then .next (s.ledgerRun .failed ledgerFuel) else .next s
    | _, _ => .next s

/-! ### Replay -/

/-- A record of the active copy is applied to its slice; eight retired ways put a set in broadcast mode, as at any time (R259, R271). -/
def State.replayRec (s : State) (r : W64 × W64) : State :=
  let h := bits r.1 56 4
  let set := bits r.1 42 14
  let way := bits r.1 38 4
  let k := bits r.1 32 6
  let kind := bits r.1 60 4
  let x := s.sliceAt h
  if kind = 1 then
    let x1 := x.setSpare k 0 (spareTag true false set way 0)
    (s.setSlice h (x1.setStatus set (x1.status set ||| BitVec.ofNat 64 (2 ^ (16 + way))))).updateWear h
  else if kind = 2 then (s.setSlice h (x.setSpare k 0 (spareTag true true set way 0))).updateWear h
  else if kind = 3 then
    let w := (x.status set ||| BitVec.ofNat 64 (2 ^ (32 + way))) &&& ~~~(BitVec.ofNat 64 (2 ^ (16 + way)))
    (s.setSlice h (x.setStatus set w)).checkBcast h set
  else if kind = 4 then (s.setSlice h (x.setStatus set (x.status set ||| BitVec.ofNat 64 (2 ^ 63)))).updateWear h
  else s

/-- The records of the active copy are replayed in slot order up to the first slot without one, of the slices that a test picks (R271, R497). -/
def State.replayLedger (s : State) (own : Nat → Bool) : State :=
  let l := s.pot.ledger
  if s.flag Off.GL_LEDGER_CFG Fld.GL_LEDGER_CFG.ENABLE then
    ((l.recs.take (l.gap.getD l.recs.length)).filter (fun r => own (bits r.1 56 4))).foldl State.replayRec s
  else s

/-- Repairs that were not recorded are applied again (R497). -/
def State.replayVolatile (s : State) (own : Nat → Bool) : State :=
  (s.pot.ledger.vol.filter (fun w => own (bits w 56 4))).foldl (fun s w => s.replayRec (w, 0)) s

/-! ### Copies in the flash -/

/-- A word of a copy as the flash holds it; what has not been written reads as all ones (R264). -/
def copyWord (c : List W64) (i : Nat) : W64 := c.getD i (BitVec.ofNat 64 (2 ^ 64 - 1))

/-- A copy is valid: FORMAT is 0x0001 and CHECK is correct (R265). -/
def copyValid (c : List W64) : Bool :=
  bits (copyWord c 0) 48 16 == 1 && bits (copyWord c 1) 0 8 == crc8Pair (copyWord c 0) (setBits (copyWord c 1) 0 8 0)

/-- GEN of a copy. -/
def copyGen (c : List W64) : Nat := bits (copyWord c 0) 0 32

/-- The active copy: the valid one with the higher GEN, copy 0 when both are equal; none where neither is valid (R265). -/
def activeCopy (c0 c1 : List W64) : Option (Nat × List W64) :=
  if copyValid c0 && (!copyValid c1 || decide (copyGen c1 ≤ copyGen c0)) then some (0, c0)
  else if copyValid c1 then some (1, c1)
  else none

/-- The record in a slot of a copy, if it is written (R264, R266). -/
def copySlot (c : List W64) (i : Nat) : Option (W64 × W64) :=
  let w0 := copyWord c (8 + 2 * i)
  if bits w0 60 4 = 15 then none else some (w0, copyWord c (9 + 2 * i))

/-- CHECK of a record is correct (R266). -/
def recordOk (r : W64 × W64) : Bool := bits r.2 0 8 == crc8Pair r.1 (setBits r.2 0 8 0)

/-- The Pot reads the active copy at start-up: its good records in slot order, how many stand before the first slot without one, and the write count, which
ends after the last written slot: DEDUCED, so that no write falls on a written slot after a failed one (R267, R270, R271, log entry 51). -/
def State.readCopy (s : State) (k : Nat) (c : List W64) : State :=
  let slots := (List.range 4096).map (copySlot c)
  let good := slots.filterMap (fun r => if (r.map recordOk).getD false then r else none)
  let before := (slots.takeWhile (fun r => (r.map recordOk).getD false)).length
  let count := (slots.reverse.dropWhile Option.isNone).length
  let seq := good.foldl (fun a r => max a (bits r.1 0 32 + 1)) 0
  let o := Off.GL_LEDGER_STATUS
  (((s.setFld o Fld.GL_LEDGER_STATUS.COUNT count).setFld o Fld.GL_LEDGER_STATUS.ACTIVE k).setFld o Fld.GL_LEDGER_STATUS.GEN (copyGen c)).modLedger (fun l =>
    { l with recs := good, seq := seq % 2 ^ 32, gap := if before < count then some before else none })

end Sys2Proof.Machine
end

