-- ==== Sys2Proof/Machine/Diag.lean ====
section
/-! DEFINITION. Diagnostic accesses of a network interface, and the restoring of unusable table entries (R524, R526). -/
namespace Sys2Proof.Machine

/-- Key of the check bits of a word that NI_DIAG_SEL selects (R526). -/
def niChkKey (n buf index group : Nat) : Nat := ((n * 4 + buf) * 8192 + index) * 8 + group

/-- Section under which diagnostic writes keep words of the transmit and receive buffers (R526). -/
def Sec.BUFFER : Nat := 12

/-- Where a selected word is kept: a shadow word in its bank, a buffer word by line and group. -/
def diagKey (n buf index group : Nat) : Nat :=
  if 2 ≤ buf then tabKey n (buf - 2) Sec.SHADOW 0 index else tabKey n 0 Sec.BUFFER buf (index % 1024 * 8 + group)

/-- A buffer word holds what a diagnostic write has stored in it. -/
def State.diagStored (s : State) (n buf index group : Nat) : Bool :=
  (KMap.get (fun _ => 0) s.chk (niChkKey n buf index group)).getLsbD 62

/-- NI_DIAG_GO: NI_DIAG_SEL is written, and the selected word and its check bits are loaded. Which line of a buffer holds which data the spec leaves to
the NI: a line that packets have used (`used`) reads as a free value (R526). -/
def execNiDiagGo (n : Fin 256) (sel : W64) (used : Bool) (s : State) : Outcome :=
  let buf := bits sel 60 2
  let ix := bits sel 13 13
  let gr := if 2 ≤ buf then 0 else bits sel 10 3
  let o := Off.NI_DIAG_SEL n
  let busy := if bit sel 62 then 0 else s.fld o Fld.NI_DIAG_SEL.BUSY
  let s1 := s.wr o (setBits (sel &&& BitVec.ofNat 64 (2 ^ 63 + 3 * 2 ^ 60 + (2 ^ 16 - 1) * 2 ^ 10 + 2)) 62 1 busy)
  let load := fun (s : State) (w : W64) =>
    let c := KMap.get (fun _ => 0) s.chk (niChkKey n buf ix gr)
    let chk := if bit c 63 then bits c 0 40 else if 2 ≤ buf then (Config.check72 w).toNat else (Config.check13 w).toNat
    (s.wr (Off.NI_DIAG_DATA n) w).wr (Off.NI_DIAG_CHK n) (BitVec.ofNat 64 chk)
  if 2 ≤ buf ∨ (used = false ∧ s.diagStored n buf ix gr = true) then .next (load s1 (KMap.get (fun _ => 0) s.tab (diagKey n buf ix gr)))
  else
    let (v, s2) := s1.fresh
    .next (load { s2 with chk := KMap.set (fun _ => 0) s2.chk (niChkKey n buf ix gr) 0 } v)

/-- NI_DIAG_DATA_WRITE: while EN is 1 the selected word is stored with raw or generated check bits; a buffer line reserved or in use refuses the write
and sets BUSY. Which lines are in use the spec leaves to the NI (`used`), none where the buffer is empty and all where it is full (R186, R526). -/
def execNiDiagDataWrite (n : Fin 256) (data : W64) (used : Bool) (s : State) : Outcome :=
  let sel := s.rd (Off.NI_DIAG_SEL n)
  let buf := bits sel 60 2
  let ix := bits sel 13 13
  let gr := if 2 ≤ buf then 0 else bits sel 10 3
  let u := s.niAt n
  let free := if buf = 0 then u.txFree else u.rxFree
  let busy := decide (buf < 2) && ((used && decide (free < 1024)) || decide (free = 0))
  let s0 := s.wr (Off.NI_DIAG_DATA n) data
  if !bit sel 63 then .next s0
  else if busy then .next (s0.setFld (Off.NI_DIAG_SEL n) Fld.NI_DIAG_SEL.BUSY 1)
  else
    let c : W64 := setBits (if bit sel 1 then BitVec.ofNat 64 (2 ^ 63 + bits (s.rd (Off.NI_DIAG_CHK n)) 0 40) else 0) 62 1 1
    let s1 := s0.setFld (Off.NI_DIAG_SEL n) Fld.NI_DIAG_SEL.RAW 0
    .next { s1 with tab := KMap.set (fun _ => 0) s1.tab (diagKey n buf ix gr) data, chk := KMap.set (fun _ => 0) s1.chk (niChkKey n buf ix gr) c }

/-- TABLE_RESTORE: the Pot rewrites an unusable word of a table from its source; without the source it reports TABLE_UE again (R497, R524). -/
def execTableRestore (n : Fin 256) (bank : Fin 2) (sec : BitVec 4) (part : BitVec 3) (idx : BitVec 20) (ok : Bool) (s : State) : Outcome :=
  let k := tabKey n bank sec.toNat part.toNat idx.toNat
  if !s.domOn 64 || !KMap.get (fun _ => false) s.tabBad k then .next s
  else if ok then
    .next { s with tab := KMap.set (fun _ => 0) s.tab k (KMap.get (fun _ => 0) s.pot.img k), tabBad := KMap.set (fun _ => false) s.tabBad k false }
  else .next (s.reportUp 248 5 .TABLE_UE (sec.toNat * 2 ^ 8))

end Sys2Proof.Machine
end

