-- ==== Sys2Proof/Machine/Load.lean ====
section
/-! DEFINITION. LOAD_BLEND: the header and directory of an image, the streaming of its sections, its signature and its seal (R307 to R315). -/
namespace Sys2Proof.Machine

/-! ### Header and directory -/

/-- Bank into which a load goes: the one that is neither ACTIVE nor DRAINING (R313). -/
def State.freeBank (s : State) : Nat := 1 - s.epochNum % 2

/-- Router gate lists of an image: one for every router output that has a link or an NI (R309). -/
def gateLists : Nat := ((List.range 192).flatMap (fun t => (List.range 6).filter (fun p => !portEdge t p))).length

/-- COUNT and SIZE of a section agree with the section table; k = 0 to 8 in type order (R309). -/
def sectionOk (k count size : Nat) : Bool :=
  if k = 0 then count == 48 && size == 384
  else if k = 1 then count == 272 && size == 278528
  else if k = 2 then count == 256 && size == 4194304
  else if k = 3 then count == 4160 && size == 49152
  else if k = 4 then count == 256 && size == 67584
  else if k = 5 then count == gateLists && size % 8 == 0 && decide (16 * count ≤ size)
  else if k = 6 then count == 256 && size == 98304
  else if k = 7 then count == 4184 && size == 39424
  else size == 16 * count && decide (size ≤ 4096)

/-- Byte offset of section k of an image, by its directory (R308). -/
def sectionStart (ws : List W64) (k : Nat) : Nat := bits (ws.getD (16 + 2 * k) 0) 0 32
/-- Byte offset at which section k of an image ends (R308). -/
def sectionEnd (ws : List W64) (k : Nat) : Nat := sectionStart ws k + bits (ws.getD (17 + 2 * k) 0) 0 32

/-- The directory of an image: TYPEs in order, OFFSETs aligned and ascending without overlap, sizes as fixed, all before the signature block (R308,
R309, R312). -/
def directoryOk (ws : List W64) (len : Nat) : Bool :=
  (List.range 9).all (fun k =>
    bits (ws.getD (16 + 2 * k) 0) 56 8 == k + 1 && sectionStart ws k % 64 == 0 && decide ((if k = 0 then 272 else sectionEnd ws (k - 1)) ≤ sectionStart ws k) &&
      sectionOk k (bits (ws.getD (17 + 2 * k) 0) 32 32) (bits (ws.getD (17 + 2 * k) 0) 0 32)) && decide (sectionEnd ws 8 + 192 ≤ len)

/-- The words between the sections are all there and zero (R308). -/
def gapsOk (ws gaps : List W64) : Bool :=
  gaps.length == ((List.range 8).foldl (fun a k => a + (sectionStart ws (k + 1) - sectionEnd ws k)) 0) / 8 && gaps.all (· == 0)

/-- The words of the RTGATE section are one gate list for every router output that has a link or an NI, in ascending order of TILE and PORT, and nothing more;
so far `lists` lists have been met, the last at place `prev`, with `left` of its windows to come (R285, R309). -/
def gatesOk (lists prev left : Nat) : List W64 → Bool
  | [] => left == 0 && lists == gateLists
  | w :: rest =>
    if left = 0 then
      let t := bits w 0 8
      let p := bits w 8 3
      decide (t < 192) && decide (p < 6) && !portEdge t p && decide (prev ≤ t * 8 + p) && gatesOk (lists + 1) (t * 8 + p + 1) (bits w 16 8) rest
    else gatesOk lists prev (left - 1) rest

/-- The header of an image, its BOOT bit and its length as given, the words between its sections and its gate lists (R307 to R309). -/
def imageOk (boot : Bool) (ws : List W64) (len : Nat) (gaps gates : List W64) : Bool :=
  let w0 := ws.getD 0 0
  let w1 := ws.getD 1 0
  bits w0 32 32 == 0x424C4E44 && bits w0 16 16 == 1 && bits w0 0 16 == 9 && bits w1 48 16 == 0x1216 && bits w1 40 8 == 1 && bit w1 32 == boot &&
    bits w1 0 32 == len && decide (len ≤ 2 ^ 23) && ws.getD 2 0 != 0 && directoryOk ws len && gapsOk ws gaps &&
    gates.length * 8 == bits (ws.getD 27 0) 0 32 && gatesOk 0 0 0 gates

/-- COUNT and SIZE of each section. -/
def directoryOf (ws : List W64) : List (Nat × Nat) :=
  (List.range 9).map (fun k => (bits (ws.getD (17 + 2 * k) 0) 32 32, bits (ws.getD (17 + 2 * k) 0) 0 32))

/-! ### Streaming -/

/-- Where the words of a section go: the NIs, the word index in their share, and the words of the share from there on; k = 0 to 7, the gate lists
apart (R309). -/
def sharePlace (k pos : Nat) : List Nat × Nat × Nat :=
  let per := fun (n : Nat) => ([pos / n], pos % n, n - pos % n)
  if k = 0 then ([tileL0 (islandTile pos)], 0, 1)
  else if k = 1 then (if pos / 128 < 256 then per 128 else ([sliceNi (pos / 128 - 256)], 128 + pos % 128, 128 - pos % 128))
  else if k = 2 then per 2048
  else if k = 3 then ((List.range 256).filter (fun n => niType n == .eng || n == 248), pos, 6144 - pos)
  else if k = 4 then per 33
  else if k = 6 then per 48
  else if k = 7 then
    (if pos < 4160 then ((List.range 16).map sliceNi, pos, 4160 - pos)
     else
       let t := (pos - 4160) / 32
       ([if t < 8 then t else 8 + t], (pos - 4160) % 32, 32 - (pos - 4160) % 32))
  else ([], pos, 1)

/-- The control word of a table-load message (R314). -/
def loadControl (mop sec bank n part idx : Nat) : W64 :=
  BitVec.ofNat 64 (mop * 2 ^ 56 + sec * 2 ^ 52 + bank * 2 ^ 51 + n * 2 ^ 48 + part * 2 ^ 45 + idx % 2 ^ 32)

/-- The Pot keeps image words for an NI's share, and sends them to it in one table-load message (R314, R497). -/
def State.sendWords (s : State) (l : Load) (n sec part idx : Nat) (ws : List W64) : State :=
  let s1 := s.modPot (fun p => { p with img := (List.range ws.length).foldl (fun m k =>
    let (sc, i) := loadPlace n sec (idx + k)
    KMap.set (fun _ => 0) m (tabKey n l.bank sc part i) (ws.getD k 0)) p.img })
  if l.parts.contains n then s1.unitMgt 248 n 6 (loadControl 1 sec l.bank ws.length part idx :: ws) else s1

/-- The load goes on by so many words of its section; an empty section is passed. -/
def Load.advance (l : Load) (k : Nat) (ns : List Nat) : Load :=
  let sent := ns.foldl (fun m n => KMap.set (fun _ => 0) m n (KMap.get (fun _ => 0) m n + k)) l.sent
  let size := (l.dir.getD l.sect (0, 0)).2 / 8
  if l.pos + k < size then { l with pos := l.pos + k, sent := sent }
  else
    let next := ((List.range 10).find? (fun j => decide (l.sect < j) && (j == 9 || (l.dir.getD j (0, 0)).2 != 0))).getD 9
    { l with sect := next, pos := 0, sent := sent }

/-- The next words of the image are streamed: at most seven, and no more than the share and the section hold (R313, R314). -/
def State.streamWords (s : State) (l : Load) (ws : List W64) : State :=
  let put := fun (s : State) (l : Load) => s.modPot (fun p => { p with load := some l })
  let most := min 7 (min ws.length ((l.dir.getD l.sect (0, 0)).2 / 8 - l.pos))
  if l.sect = 5 then
    let (n, part, idx, left) := if l.list.2.2.2 = 0 then
        (let h := ws.getD 0 0; (tileL0 (bits h 0 8 % 192), bits h 8 3, 0, 1 + bits h 16 8))
      else l.list
    let k := min most left
    let l1 := { l.advance k [n] with list := (n, part, idx + k, left - k) }
    put (s.sendWords l n 6 part idx (ws.take k)) l1
  else if l.sect = 8 then
    let k := min 2 most
    if k < 2 then s
    else put (s.modPot (fun p => { p with platform := KMap.set (fun _ => []) p.platform l.bank (KMap.get (fun _ => []) p.platform l.bank ++ [(ws.getD 0 0, ws.getD 1 0)]) })) (l.advance 2 [])
  else if l.sect < 8 then
    let (ns, idx, run) := sharePlace l.sect l.pos
    let k := min most run
    put (ns.foldl (fun s n => s.sendWords l n (l.sect + 1) 0 idx (ws.take k)) s) (l.advance k ns)
  else s

/-- What an NI holds of each section: section, part and words; a gate list gives its own length (R309). -/
def State.sharesOf (s : State) (n bank : Nat) : List (Nat × Nat × Nat) :=
  let hsl := niType n == .hsl
  let gates := if niPort n = 4 then ((List.range 6).filter (fun p => !portEdge (niTile n) p)).map (fun p =>
      (6, p, 1 + bits (KMap.get (fun _ => 0) s.pot.img (tabKey n bank Sec.RTGATE p 0)) 16 8))
    else []
  (if n = tileL0 (islandTile (niIsland n)) then [(1, 0, 1)] else []) ++ [(2, 0, if hsl then 256 else 128), (3, 0, 2048)] ++
    (if niType n == .eng || n == 248 then [(4, 0, 6144)] else []) ++ [(5, 0, 33)] ++ gates ++ [(7, 0, 48)] ++
    (if hsl then [(8, 0, 4160)] else if niType n == .cpa || niType n == .cla then [(8, 0, 32)] else [])

/-- The words of a share are sent again, seven to a message (R314). -/
def State.sendShare (s : State) (bank n : Nat) (e : Nat × Nat × Nat) : State :=
  let (sec, part, len) := e
  let word := fun i => let (sc, j) := loadPlace n sec i; KMap.get (fun _ => 0) s.pot.img (tabKey n bank sc part j)
  (List.range ((len + 6) / 7)).foldl (fun s m =>
    let k := min 7 (len - 7 * m)
    s.unitMgt 248 n 6 (loadControl 1 sec bank k part (7 * m) :: (List.range k).map (fun i => word (7 * m + i)))) s

/-- Every word of an NI's bank is sent again, and the bank is sealed (R314). -/
def State.sendAgain (s : State) (l : Load) (n : Nat) : State :=
  let shares := s.sharesOf n l.bank
  (shares.foldl (fun s e => s.sendShare l.bank n e) s).unitMgt 248 n 6
    [loadControl 2 0 l.bank 0 0 0, l.blend.id, BitVec.ofNat 64 (shares.foldl (fun a e => a + e.2.2) 0)]

/-! ### The command -/

/-- LOAD_BLEND starts: the refusals of R313, then the bank is EMPTY, the units count their words from here, every domain in RET is raised and none may be
lowered (R313 to R315). -/
def State.startLoad (s : State) (c : Nat) (x : PotCmd) (ws gaps gates : List W64) : State :=
  let len := bits (x.word 2) 0 32
  let b := s.freeBank
  if x.addr 1 % 64 ≠ 0 then s.potDone c Code.BAD_ARG []
  else if s.pot.sw.isSome || s.bankSt 0 == 3 || s.bankSt 1 == 3 then s.potDone c Code.EPOCH_BUSY []
  else if s.pot.load.isSome then s.potDone c Code.BUSY []
  else if !imageOk false ws len gaps gates then s.potDone c Code.BAD_ARG []
  else
    let parts := (List.range 256).filter (fun n =>
      let d := s.domAt (niIsland n)
      (d.st != .off && !d.failed && !(s.niAt n).fenceHw) || s.rejoins n)
    let l0 : Load := {
      src := c, bank := b, blend := ⟨ws.getD 2 0, ws.getD 3 0, (List.range 6).map (fun k => ws.getD (5 + k) 0)⟩, dir := directoryOf ws
      sect := 0, pos := 0, list := (0, 0, 0, 0), parts := parts, sent := [], verdict := none, sealed := [], again := [], bad := [], good := [] }
    let s1 := (((s.startCmd c).setBankSt b 0).wr (Off.GL_BANK_ID b) 0).setEpochSt 1
    let s2 := s1.modPot (fun p => { p with
      load := some l0, oldSw := none, platform := KMap.set (fun _ => []) p.platform b [], img := KMap.drop (fun k => keyBank k == b) p.img
      blends := KMap.set (fun _ => Blend.empty) p.blends b Blend.empty })
    let s3 := parts.foldl (fun s n => s.modNi n (fun u => { u with ep := { u.ep with loading := none, loadCount := 0 } })) s2
    ((s3.modKt (fun k => { k with loadHold := true })).writeNames).raiseRets

/-- A signature that fails ends the load with DENIED; with a good one, each NI's inactive shadow bank takes the master's table, and the banks are
sealed (R312, R313). -/
def State.loadVerdict (s : State) (l : Load) (ok : Bool) : State :=
  if ok then
    let s1 := s.modPot (fun p => { p with load := some { l with verdict := some true } })
    l.parts.foldl (fun s n => s.putShadow n l.bank s.activeTable) s1
  else (s.failLoad l.bank).potDone l.src Code.DENIED []

/-- Every NI that takes part and can still be reached has recorded IMAGE_ID at this load's seal: the bank is LOADED and the command ends (R313, R314, R491). -/
def State.loadFinish (s : State) (l : Load) : State :=
  let reach := l.parts.filter (fun n => s.writable n || s.rejoins n)
  if l.verdict == some true && reach.all (fun n => l.good.contains n) then
    let s1 := ((s.setBankSt l.bank 1).wr (Off.GL_BANK_ID l.bank) l.blend.id).setEpochSt 2
    let s2 := (s1.modPot (fun p => { p with load := none, blends := KMap.set (fun _ => Blend.empty) p.blends l.bank l.blend })).writeNames
    (s2.recEpoch 1 s.epochNum l.blend.id 0).potDone l.src Code.OK [l.blend.id, BitVec.ofNat 64 l.bank]
  else s

/-- LOAD_BLEND: one step of a load (R313). -/
def execLoadBlend (c : Fin 24) (st : LoadStep) (s : State) : Outcome :=
  .next (s.onCmd c 0x10 (fun x =>
    match st, s.pot.load with
    | .header ws gaps gates, _ => if x.started then s else s.startLoad c x ws gaps gates
    | .words ws, some l => if l.src = c.val ∧ l.verdict = none then s.streamWords l ws else s
    | .verdict ok, some l => if l.src = c.val ∧ l.sect = 9 ∧ l.verdict = none then s.loadVerdict l ok else s
    | .bankSeal n, some l =>
      if l.src = c.val ∧ l.verdict = some true ∧ n.val ∈ l.parts ∧ n.val ∉ l.sealed then
        (s.modPot (fun p => { p with load := some { l with sealed := l.sealed ++ [n.val] } })).unitMgt 248 n 6
          [loadControl 2 0 l.bank 0 0 0, l.blend.id, BitVec.ofNat 64 (KMap.get (fun _ => 0) l.sent n.val)]
      else s
    | .reload n, some l =>
      if l.src = c.val ∧ n.val ∈ l.bad then
        if n.val ∈ l.again then (s.failLoad l.bank).potDone c Code.TIMEOUT []
        else
          (s.modPot (fun p => { p with load := some { l with bad := l.bad.filter (· != n.val), again := l.again ++ [n.val] } })).sendAgain l n
      else s
    | .finish, some l => if l.src = c.val then s.loadFinish l else s
    | _, none => s))

end Sys2Proof.Machine
end

