-- ==== Sys2Proof/Machine/PotRestart.lean ====
section
/-! DEFINITION. Restarts of the Pot core: REPROTECT, the power-up of domain 64 and SRAM errors (R441 to R446, R484, R500, R525). -/
namespace Sys2Proof.Machine

/-! ### The restart -/

/-- STAGE of PT_POT_STATUS: 0 boot ROM, 1 firmware, 2 REPROTECT restart, 3 halted. -/
def State.setStage (s : State) (v : Nat) : State := s.setFld Off.PT_POT_STATUS Fld.PT_POT_STATUS.STAGE v

/-- Step 2 of R443: the Pot core is reset: LOCK clears, and while FABRIC_READY is high MODE becomes RECOVERY unless it is TEST. Its trace goes on with a
resync entry (R431, R441, R544). -/
def State.coreReset (s : State) (stage : Nat) : State :=
  let s1 := (s.setFld Off.ST_CTRL Fld.ST_CTRL.LOCK 0).setStage stage
  let s2 := if s.pins.ready && s.fld Off.ST_CTRL Fld.ST_CTRL.MODE != 2 then s1.setFld Off.ST_CTRL Fld.ST_CTRL.MODE 3 else s1
  if s2.flag Off.PT_TRACE_CTRL Fld.PT_TRACE_CTRL.EN then { s2 with tr := { s2.tr with resync := some 2 } } else s2

/-- Entries fetched and not started are read again: polling resumes at the head that a ring had reached (R484). -/
def PotRing.rewind (x : PotRing) (head : Nat) (phase : Bool) : PotRing :=
  { x with fetched := [], next := head, nextPhase := phase, pollAt := 0, staleRead := x.reading }

/-- Rings resume at their heads. -/
def State.rewindRings (s : State) : State :=
  (List.range 16).foldl (fun s r => if s.ringSt r = 1 then s.modRing r (fun x => x.rewind (s.ringHead r) (s.ringPhase r)) else s) s

/-- The RESET record of a restart, the first the firmware writes: 0 cold, 1 warm, 2 Pot core (R533, R534). -/
def State.recReset (s : State) (k : Nat) : State :=
  s.cdWrite 4 Cd.RESET (k * 2 ^ 56) (s.rd Off.GL_INSTANCE) (BitVec.ofNat 64 s.cd.newest)

/-- Step 6 of R443: LOCK is set, which returns MODE to SERVICE, the firmware restarts, and doorbells and rings are accepted again (R443, R484). -/
def State.firmwareRuns (s : State) : State :=
  let s1 := (s.setLock.setStage 1).modPot (fun p => { p with waitAll := none, restart := none })
  (List.range 16).foldl (fun s r => s.ringStart r 8) (s1.recReset 2).rewindRings

/-- POT_CORE_RESTART: the core restarts at its boot ROM once REPROTECT has waited for every other command, or at the power-up of domain 64 or an
SRAM error. The ROM verifies the firmware, or loads it from flash; with no good copy the Pot halts. Without a protection table to commit it
sets LOCK and starts the firmware (R443, R484, R500, R525, R574). -/
def execPotCoreRestart (found : FwFound) (s : State) : Outcome :=
  let fw := fun (s : State) => match found with
    | .sram => s
    | .copyA => s.setFld Off.GL_BOOT Fld.GL_BOOT.FW_COPY 0
    | .copyB => s.setFld Off.GL_BOOT Fld.GL_BOOT.FW_COPY 1
    | .bad => (s.setStage 3).modPot (fun p => { p with restart := none, waitAll := none })
  if !s.domOn 64 || !s.pins.ready then .next s
  else
    match s.pot.restart, s.pot.waitAll with
    | some none, _ =>
      let s1 := fw (s.coreReset 0)
      .next (if found = .bad then s1 else s1.firmwareRuns)
    | none, some _ =>
      match s.pot.cmds with
      | [x] => .next (fw ((s.coreReset 2).modPot (fun p => { p with restart := some (some (bits (x.word 1) 0 52)) })))
      | _ => .next s
    | _, _ => .next s

/-! ### REPROTECT -/

/-- The header of a protection table (R444). -/
def protHeaderOk (ws : List W64) : Bool :=
  let w0 := ws.getD 0 0
  let w1 := ws.getD 1 0
  ws.length == 8376 && bits w0 32 32 == 0x5354524E && bits w0 16 16 == 1 && bits w1 48 16 == 0x1216 && bits w1 40 8 == 1 && bits w1 0 32 == 67008

/-- Registers that a protection table sets: the default map, TABLE_ID and the regions, and apart from them the target gates (R444). -/
def protRegs (ws : List W64) : List (Nat × W64) :=
  [(Off.ST_TABLE_ID, ws.getD 2 0), (Off.ST_DEFMAP_CFG, ws.getD 3 0), (Off.ST_DEFMAP_BOOT, ws.getD 4 0)] ++
    (List.range 8192).map (fun k => (0x210000 + 8 * k, ws.getD (8 + k) 0))
/-- The target gates of a protection table (R444). -/
def protGates (ws : List W64) : List (Nat × W64) :=
  (List.range 16).flatMap (fun g => (Off.SB_GATE g, ws.getD (8200 + 9 * g) 0) :: (List.range 8).map (fun r => (Off.SB_GATE_RGN g r, ws.getD (8201 + 9 * g + r) 0)))

/-- Step 5 of R443: the pending table and ST_TABLE_ID are written, the gate fields wait for HOLD, and COMMIT is set. -/
def State.commitProt (s : State) (ws : List W64) : State :=
  let s1 := (protRegs ws).foldl (fun s e => if s.pendOf e.1 = e.2 then s else s.setPend e.1 e.2) s
  (s1.modSt (fun x => { x with gates := protGates ws })).startCommit

/-- REPROTECT ends after a restart: LOCK is set, the firmware runs, and the outcome is reported (R443). -/
def State.endReprotect (s : State) (c code : Nat) (rsp : List W64) : State :=
  let s1 := (s.modSt (fun x => { x with gates := [] })).firmwareRuns
  (s1.reportPot (if code = Code.OK then .ST_REPROTECT else .ST_REPROTECT_FAIL) 0 0x60).potDone c code rsp

/-- REPROTECT: refused while an epoch switch or a load is under way; else it waits for the other commands (R484), and after the restart `t`, the table as
the ROM reads it, is checked and committed; the command ends with the commit (R443, R444, R445). -/
def execReprotect (c : Fin 24) (t : ProtTable) (s : State) : Outcome :=
  .next (s.onCmd c 0x60 (fun x =>
    if x.started = false then
      if x.addr 1 % 64 ≠ 0 then s.potDone c Code.BAD_ARG []
      else if s.pot.sw.isSome || s.bankSt 0 == 3 || s.bankSt 1 == 3 then s.potDone c Code.EPOCH_BUSY []
      else if s.pot.load.isSome || s.pot.waitAll.isSome then s.potDone c Code.BUSY []
      else (s.startCmd c).modPot (fun p => { p with waitAll := some s.refTime })
    else
      match s.pot.restart with
      | some (some _) =>
        if x.data = [] then
          if !protHeaderOk t.words then s.endReprotect c Code.BAD_ARG []
          else if !t.sig then s.endReprotect c Code.DENIED []
          else (s.commitProt t.words).modCmd c (fun x => { x with data := [1] })
        else if s.st.phase = .idle then
          if s.st.result = 1 then s.endReprotect c Code.OK [s.rd Off.ST_TABLE_ID, BitVec.ofNat 64 s.stGen]
          else s.endReprotect c (if s.st.result = 2 then Code.OVERLAP else Code.BAD_ARG) []
        else s
      | _ => s))

/-- REPROTECT_WAIT_LIMIT: other commands have not ended within 100 ms; REPROTECT ends with BUSY and acceptance resumes (R484). -/
def execReprotectWaitLimit (s : State) : Outcome :=
  match s.pot.waitAll, s.pot.restart, s.pot.cmds.find? (fun x => x.op == 0x60 && x.started && x.res.isNone) with
  | some t, none, some x =>
    if s.domOn 64 && decide (1 < s.pot.cmds.length) && decide (t + 100000000 ≤ s.refTime) then
      let s1 := (s.potDone x.src Code.BUSY []).modPot (fun p => { p with waitAll := none })
      .next ((List.range 16).foldl (fun s r => s.ringStart r 8) s1)
    else .next s
  | _, _, _ => .next s

/-! ### SRAM errors -/

/-- POT_SRAM_CE: a single-bit error of a Pot SRAM word is corrected and counted (R523). -/
def execPotSramCe (word : BitVec 16) (s : State) : Outcome :=
  if !s.domOn 64 then .next s
  else .next ((s.bump Off.GL_POT_ECC Fld.GL_POT_ECC.CE).setFld Off.GL_POT_ECC Fld.GL_POT_ECC.LAST_WORD word.toNat)

/-- A ring whose state lay in a damaged word is rebuilt from the status line last written; one that has written none is as reset leaves it (R525). -/
def State.rebuildRing (s : State) (r : Nat) : State :=
  let x := s.pot.ring r
  match x.line with
  | none => (s.setRingSt r 0).modRing r (fun x => { PotRing.reset with setUp := x.setUp, reading := x.reading, staleRead := x.reading })
  | some (head, phase, st, writes, completed, cancelled) =>
    let s1 := ((s.setRingSt r st).setFld (Off.PT_RING_STATE r) Fld.PT_RING_STATE.HEAD head).setFld (Off.PT_RING_STATE r) Fld.PT_RING_STATE.PHASE (b2n phase)
    s1.modRing r (fun x => { x.rewind head phase with writes := writes, completed := completed, cancelled := cancelled })

/-- POT_SRAM_UE: the core reads an uncorrectable SRAM word and restarts at its boot ROM; every running command ends with TIMEOUT, a load under way with
its bank EMPTY, and the rings whose state the word held are rebuilt (R525). -/
def execPotSramUe (word : BitVec 16) (rings : List (Fin 16)) (s : State) : Outcome :=
  if !s.domOn 64 || s.fld Off.PT_POT_STATUS Fld.PT_POT_STATUS.STAGE == 3 then .next s
  else
    let s1 := (s.bump Off.GL_POT_ECC Fld.GL_POT_ECC.UE).setFld Off.GL_POT_ECC Fld.GL_POT_ECC.LAST_WORD word.toNat
    let s2 := match s1.pot.load with
      | some l => s1.failLoad l.bank
      | none => s1
    let s3 := s2.modPot (fun p => { p with
      cmds := p.cmds.map (fun x => { x with started := true, res := some (Code.TIMEOUT, []) })
      sw := p.sw.map (fun w => { w with src := none })
      waitAll := none
      restart := some none })
    let s4 := (s3.modSt (fun x => { x with gates := [] })).rewindRings
    .next (((rings.foldl (fun s r => s.rebuildRing r) s4).coreReset 0).reportPot .POT_SRAM_UE word.toNat 0)

end Sys2Proof.Machine
end

