-- ==== Sys2Proof/Machine/Reload.lean ====
section
/-! DEFINITION. Reloads: what the Pot and the Kettle put back into the units of a domain raised from OFF, and into die B as it joins (R315, R497, R572, R582). -/
namespace Sys2Proof.Machine

/-! ### Tables and epochs -/

/-- The words of an NI's share of a bank are loaded from the image's source, with the IMAGE_ID of the bank (R497). -/
def State.loadBank (s : State) (n bank : Nat) : State :=
  let mine := s.pot.img.filter (fun e => keyNi e.1 == n && keyBank e.1 == bank)
  let ours := fun k => keyNi k == n && keyBank k == bank
  let s1 := { s with tab := KMap.drop ours s.tab, tabBad := KMap.drop ours s.tabBad }
  let s2 := mine.foldl (fun s e => { s with tab := KMap.set (fun _ => 0) s.tab e.1 e.2 }) s1
  s2.wr (Off.NI_BANK_ID n bank) (KMap.get (fun _ => Blend.empty) s.pot.blends bank).id

/-- An NI joins the epoch that the Pot has active, with the bank's service defaults and frequency plan; `arm` arms it for the switch under way (R315, R319). -/
def State.joinEpoch (s : State) (n number : Nat) (arm : Option Switch) : State :=
  let bank := number % 2
  let s1 := s.modNi n (fun u => { u with ep := { u.ep with
    boot := false, bank := bank, epoch := number % 4, draining := false, armed := arm.isSome
    armEpoch := (arm.map (fun w => w.number % 4)).getD u.ep.armEpoch, armT := (arm.map Switch.T).getD u.ep.armT } })
  let s2 := match arm with
    | some w => (s1.wr (Off.NI_EPOCH_TIME n) (BitVec.ofNat 64 w.T)).modSw (fun w => if w.parts.contains n then w else
        { w with parts := w.parts ++ [n], ans := KMap.set (fun _ => 0) w.ans n 1 })
    | none => s1
  ((s2.qosDefaults n bank).freqPlan n bank true).demoteFlows n false

/-- The tables of an NI are reloaded: before T the active bank, a loaded bank, and for a switch under way its arming; from T to DONE the new bank alone,
as active (R315, R497). -/
def State.reloadTables (s : State) (n : Nat) : State :=
  match s.pot.sw with
  | some w =>
    if w.draining then (s.loadBank n (w.number % 2)).joinEpoch n w.number none
    else ((s.loadBank n (s.epochNum % 2)).loadBank n (w.number % 2)).joinEpoch n s.epochNum (some w)
  | none =>
    let act := s.epochNum % 2
    let s1 := s.loadBank n act
    (if s.bankSt (1 - act) = 1 then s1.loadBank n (1 - act) else s1).joinEpoch n s.epochNum none

/-- The Kettle holds a domain below ON from 4,096 ft before the T of a switch until T has passed (R315). -/
def State.reloadHeld (s : State) : Bool :=
  match s.pot.sw with
  | some w => !w.draining && decide (w.T < s.time.now + 4096)
  | none => false

/-! ### Registers -/

/-- Fields that the reload of a BL value sets are its register's, and a value that firmware has recorded then sets the fields that are not BL (R497, R572, R582). -/
def State.reloadRegs (s : State) (own : Nat → Bool) : State :=
  let bl := fun o => ((rowAt o).map (fun r => r.mask (· == .bl))).getD 0
  let s1 := (s.pot.bls.filter (fun e => own e.1)).foldl (fun s e => match e.2 with
    | some v => s.applyReg e.1 v
    | none => s) s
  (s1.pot.fwRec.filter (fun e => own e.1)).foldl (fun s e => match e.2 with
    | some v => if e.1 < 2 ^ 26 then s.applyReg e.1 ((v &&& ~~~(bl e.1)) ||| (s.rd e.1 &&& bl e.1)) else s.applyReg e.1 v
    | none => s) s1

/-- Link ends whose ENABLE has been restored ask their adapter to train (R33, R366). -/
def State.askLinks (s : State) (d : Nat) : State := (domainEnds d).foldl (fun s e => s.lkAsk e.1 e.2) s

/-- The NIs of a domain get their tables and shadows back. -/
def State.reloadNis (s : State) (l : List Nat) : State := l.foldl (fun s n => (s.reloadTables n).reloadShadow n) s

/-- DOMAIN_RELOAD_DONE: the Pot has reloaded a powered domain from the sources of R497, and the Kettle reports it ON; a share that fails its digest check
or cannot be read fails the domain. Domain 66 is woken for the shadows of an island, and an island that had failed is no longer lost to route selection (R164, R315, R435, R495, R497,
R499). -/
def execDomainReloadDone (d : Fin 72) (ok : Bool) (s : State) : Outcome :=
  let x := s.domAt d
  if x.phase ≠ .reload then .next s
  else if !ok then .next (s.domFail d)
  else if d.val ≠ 64 ∧ s.domOn 64 = false then .next (if s.wakeQ.contains 64 then s else s.askWake 64)
  else if d.val < 48 ∧ s.domOn 66 = false then .next (if s.wakeQ.contains 66 then s else s.askWake 66)
  else if d.val < 48 ∧ s.reloadHeld = true then .next s
  else
    let own := fun k => keyDomain k == some d.val
    let s1 := if d.val < 48 then s.reloadNis (islandNis d) else s
    let s2 := s1.reloadRegs own
    let s3 := if 48 ≤ d.val ∧ d.val < 64 then (s2.replayLedger (· == d.val - 48)).replayVolatile (· == d.val - 48)
      else if 69 ≤ d.val then s2.askLinks d
      else s2
    .next (if x.failed = true ∧ d.val < 48 then (s3.raised d).commitLoss (List.range 256) (· &&& ~~~(BitVec.ofNat 64 (2 ^ d.val))) id else s3.raised d)

end Sys2Proof.Machine
end

