-- ==== Sys2Proof/Machine/Reset.lean ====
section
/-! DEFINITION. Resets, the start-up sequence and the rails (R28 to R45, R569 to R580), and the IEEE 1500 wrappers (R42, R43). -/
namespace Sys2Proof.Machine

/-! ### Resets -/

/-- A register keeps its value through a reset: those of the Caddy, MAX_STRETCH of a warm one, and TREE_DELAY of a warm one (R569). -/
def regKept (warm : Bool) (o : Nat) : Bool :=
  decide (0x380000 ≤ o ∧ o < 0x400000) || (warm && decide (0x10C000 ≤ o ∧ o < 0x10CC00 ∧ (o % 64 = 16 ∨ o % 64 = 8)))

/-- The Lids that FATAL keeps closed (R517), and what counts since the last cold reset and a warm one keeps: the longest Strainer window, the injections made
and the number of the last snapshot (log entry 12). -/
def State.resetKeeps (t s : State) (warm : Bool) : State :=
  let t1 := if s.pins.fatal then t.setFld Off.GL_LID_CTRL Fld.GL_LID_CTRL.SAUCER 15 else t
  if !warm then t1
  else
    { t1.setFld Off.ST_WINDOW Fld.ST_WINDOW.MAX_NS (s.fld Off.ST_WINDOW Fld.ST_WINDOW.MAX_NS) with
      sc := { t1.sc with injDone := s.sc.injDone }
      pot := { t1.pot with snapNum := s.pot.snapNum } }

/-- A cold or warm reset: what R569 marks as kept is kept, and everything else returns to its reset value, with what was in flight dropped (R31, R35, R569).
Inputs from outside keep their levels. -/
def State.resetAll (s : State) (warm : Bool) : State :=
  let s1 := s.cdReset
  State.resetKeeps { State.reset with
    pending := s1.pending
    free := s1.free
    pins := { s1.pins with ready := false }
    wrapA := s1.wrapA
    wrapB := s1.wrapB
    regs := s1.regs.filter (fun e => regKept warm e.1)
    time := if warm then s1.time else Keeper.reset
    port := s1.port.map (fun e => (e.1, { Port.reset with up := e.2.up, next := e.2.next }))
    sb := { Bridge.reset with lines := s1.sb.lines }
    cd := s1.cd
    pot := { Pot.reset with fwRec := if warm then s1.pot.fwRec else [] } } s1 warm

/-- The instruction that a wrapper carries out (R42, R43). -/
def Wrapper.acts (w : Wrapper) (testMode : Bool) : BitVec 8 :=
  let known := [0x01, 0x02, 0x10, 0x11, 0x12]
  if w.late || !known.contains w.wir.toNat || (decide (0x10 ≤ w.wir.toNat) && !testMode) then 0 else w.wir

/-- The loaded instruction, once it acts, takes what came with it: WS_EXTEST drives what the cells held and captures, WS_PRELOAD loads them,
WS_INTEST_SCAN shifts the selected chain, MBIST_RUN leaves its verdict and CHAIN_SEL the chain number (R42). -/
def Wrapper.perform (w : Wrapper) (testMode : Bool) : Wrapper :=
  let op := w.acts testMode
  match w.due with
  | none => w
  | some d =>
    if op = 0 then w
    else match d with
      | .capture c => { w with due := none, driven := some w.cells, cells := c }
      | .shift b => if op = 0x02 then { w with due := none, cells := b } else { w with due := none, scan := b }
      | .verdict p => { w with due := none, mbist := some p }
      | .chainNo c => { w with due := none, chain := c }

/-- A wrapper as PORST_N falls: the instruction loaded acts from now on (R43). -/
def Wrapper.onPorst (w : Wrapper) (testMode : Bool) : Wrapper := { w with late := false }.perform testMode

/-- PORST_N_ASSERT: cold reset applies; it also ends a warm reset under way (R30, R31, R569). -/
def execPorstNAssert (s : State) : Outcome :=
  if !s.pins.porstN then .next s
  else
    let s1 := s.resetAll false
    .next { s1 with
      pins := { s1.pins with porstN := false, coldDue := true }
      wrapA := s1.wrapA.onPorst s.pins.testMode
      wrapB := s1.wrapB.onPorst s.pins.testMode }

/-- WARM_N_ASSERT: a warm reset starts if PORST_N is high (R30, R569). -/
def execWarmNAssert (s : State) : Outcome :=
  if !s.pins.warmN then .next s
  else
    let s1 := if s.pins.porstN then s.resetAll true else s
    .next { s1 with pins := { s1.pins with warmN := false } }

/-- VDD_AON_RISE: the rails were removed and VDD_AON rises, with PORST_N low: FATAL and C4 read 0 and every Caddy slot is empty (R37, R40, R529). -/
def execVddAonRise (s : State) : Outcome :=
  let s1 := s.resetAll false
  .next { s1 with
    pins := { State.reset.pins with warmN := s.pins.warmN }
    wrapA := Wrapper.reset
    wrapB := Wrapper.reset
    regs := []
    cd := Caddy.cleared }

/-! ### The start-up sequence -/

/-- What a step of start-up answers: the state it goes on with, or the state in which the sequence has stopped (R580). -/
abbrev BootStep := Except State State

/-- Start-up stops: the cause and the step are shown and the Pot halts (R580). -/
def State.bootFail (s : State) (step cause : Nat) : BootStep :=
  .error (((s.setFld Off.GL_BOOT Fld.GL_BOOT.STEP step).setFld Off.GL_BOOT Fld.GL_BOOT.FAIL cause).setStage 3)

/-- Steps 1 and 2: the keeper calibrates the tree branches at a cold start; every domain is ON with its crossings released, and the Pot is at its
boot ROM (R62, R82, R571, R577). -/
def State.boot1 (s : State) (b : BootIn) : BootStep :=
  let cold := s.pins.coldDue
  let s1 := if cold then (List.range 48).foldl (fun s i => s.setFld (Off.FT_ISL_DELAY i) Fld.FT_ISL_DELAY.TREE_DELAY (b.delays.getD i 0).toNat) s else s
  let s2 := { s1 with pins := { s1.pins with coldDue := false }, allHeld := false, nbrBase := .on }
  .ok (((s2.setFld Off.GL_BOOT Fld.GL_BOOT.WARM (b2n (!cold))).setFld Off.ST_CTRL Fld.ST_CTRL.MODE 1).setStage 0)

/-- The boot directory is valid (R573). -/
def bootDirOk (ws : List W64) : Bool :=
  let bytes := (ws.take 7).flatMap wordBytes
  bits (ws.getD 0 0) 32 32 == 0x45425A31 && bits (ws.getD 0 0) 16 16 == 1 && bits (ws.getD 7 0) 0 32 == crc32c bytes && ws.length == 8

/-- Step 3: the boot directory and the firmware; the copy in SRAM is verified at a warm start only. The firmware writes the RESET record (R534, R573, R574, R577). -/
def State.boot3 (s : State) (b : BootIn) (cold : Bool) : BootStep :=
  if !bootDirOk b.dir then s.bootFail 3 1
  else if b.fw = .bad ∨ (b.fw = .sram ∧ cold = true) then s.bootFail 3 2
  else
    let s1 := if b.fw = .copyB then s.setFld Off.GL_BOOT Fld.GL_BOOT.FW_COPY 1 else s
    .ok ((s1.setStage 1).recReset (if cold then 0 else 1))

/-- The header and signature of the platform block (R575). -/
def platOk (b : BootIn) : Bool :=
  let w0 := b.plat.getD 0 0
  let w1 := b.plat.getD 1 0
  b.plat.length == 152 && bits w0 32 32 == 0x504C4154 && bits w0 16 16 == 1 && bits w1 48 16 == 0x1216 && bits w1 40 8 == 1 && bits w1 0 32 == 1216 && b.platSig

/-- An island is aligned to the keeper's time, with the keeper's confidence (R60, R68). -/
def State.alignIsland (s : State) (i : Nat) : State :=
  (s.takeLocalTime i (s.time.now * 16) 0).modIsl i (fun l => { l with fabConf := s.time.conf, lastMark := s.time.now / 1024 })

/-- Step 4: the platform block is verified; at a cold start fabric time starts, unless no reference does so within 4 time epochs; every island is aligned
(R58, R60, R68, R577). -/
def State.boot4 (s : State) (b : BootIn) (cold : Bool) : BootStep :=
  if !platOk b then s.bootFail 4 3
  else
    let s1 := if cold then
        let s1 := (s.wr Off.FT_EPOCH_SET (b.epochNum.setWidth 64)).setFld Off.FT_CTRL Fld.FT_CTRL.PREF_REF (bits (b.plat.getD 4 0) 0 1)
        let s2 := (s1.modTime (fun t => { t with armed := true })).setFld Off.FT_CTRL Fld.FT_CTRL.START 1
        match b.startRef with
        | some r => s2.startTime r
        | none => s2
      else s
    if s1.time.running then .ok ((List.range 48).foldl State.alignIsland s1) else s1.bootFail 4 4

/-- A word of the boot image: its source keeps it, and a die-A unit stores it in bank 0 (R497, R577). -/
def State.bootWord (s : State) (n sec part idx : Nat) (w : W64) : State :=
  let (sc, i) := loadPlace n sec idx
  let s1 := s.modPot (fun p => { p with img := KMap.set (fun _ => 0) p.img (tabKey n 0 sc part i) w })
  if niOnB n then s1 else s1.setTab n 0 sc part i w

/-- The router gate lists of the boot image, read one after another: NI, part, next index and words left of the present one (R309). -/
def State.bootGates (s : State) (cur : Nat × Nat × Nat × Nat) : List W64 → State
  | [] => s
  | w :: rest =>
    let (n, part, idx, left) := if cur.2.2.2 = 0 then (tileL0 (bits w 0 8 % 192), bits w 8 3, 0, 1 + bits w 16 8) else cur
    (s.bootWord n 6 part idx w).bootGates (n, part, idx + 1, left - 1) rest

/-- The words between the sections of the boot image (R308). -/
def imageGaps (ws : List W64) : List W64 := (List.range 8).flatMap (fun k => (ws.drop (sectionEnd ws k / 8)).take ((sectionStart ws (k + 1) - sectionEnd ws k) / 8))

/-- The words of a section of the boot image: k = 0 to 8 in type order (R309). -/
def sectionWords (ws : List W64) (k : Nat) : List W64 := (ws.drop (sectionStart ws k / 8)).take ((sectionEnd ws k - sectionStart ws k) / 8)

/-- Pairs of words, in order. -/
def pairsOf : List W64 → List (W64 × W64)
  | a :: b :: rest => (a, b) :: pairsOf rest
  | _ => []

/-- A section with one share for each unit goes to bank 0 (R309, R314). -/
def State.bootSection (s : State) (ws : List W64) (k : Nat) : State :=
  if k = 5 then s.bootGates (0, 0, 0, 0) (sectionWords ws 5)
  else
    let l := sectionWords ws k
    (List.range l.length).foldl (fun s pos =>
      let (ns, idx, _) := sharePlace k pos
      ns.foldl (fun s n => s.bootWord n (k + 1) 0 idx (l.getD pos 0)) s) s

/-- Step 5: the boot image is checked, and bank 0 of every die-A unit is loaded; the platform block must name it (R307 to R314, R575, R577). -/
def State.boot5 (s : State) (b : BootIn) : BootStep :=
  let ws := b.image
  let id := ws.getD 2 0
  if !(imageOk true ws (bits (ws.getD 1 0) 0 32) (imageGaps ws) (sectionWords ws 5) && ws.length * 8 == bits (ws.getD 1 0) 0 32 && b.imageSig) then s.bootFail 5 5
  else if b.plat.getD 2 0 ≠ id then s.bootFail 5 3
  else
    let s1 := (List.range 8).foldl (fun s k => s.bootSection ws k) s
    let s2 := ((List.range 256).filter (fun n => !niOnB n)).foldl (fun s n => s.wr (Off.NI_BANK_ID n 0) id) s1
    let s3 := s2.modPot (fun p => { p with
      platform := KMap.set (fun _ => []) p.platform 0 (pairsOf (sectionWords ws 8))
      blends := KMap.set (fun _ => Blend.empty) p.blends 0 ⟨id, ws.getD 3 0, (List.range 6).map (fun k => ws.getD (5 + k) 0)⟩ })
    .ok ((((s3.setBankSt 0 1).wr (Off.GL_BANK_ID 0) id).writeNames).recEpoch 1 0 id 0)

/-- Boot code gives a register its value from the platform block, its read-only bits apart: die-A units at once, and every register of a switched domain
in the BL store too (R572, R575, R577). -/
def State.bootReg (s : State) (o : Nat) (w : W64) (dieB : Bool) : State :=
  match rowAt o with
  | none => s
  | some r =>
    let v := w &&& r.mask (· != .ro)
    let s1 := if dieB then s else s.wr o v
    if (offDomain o).isSome then s1.modPot (fun p => { p with bls := KMap.set (fun _ => none) p.bls o (some v) }) else s1

/-- Step 6: the BL values of the platform block (R575, R577). -/
def State.boot6 (s : State) (b : BootIn) : BootStep :=
  let w := fun k => b.plat.getD k 0
  let s1 := (List.range 96).foldl (fun s i =>
    let n := if i < 32 then i else 136 + i
    s.bootReg (Off.NI_PORT_CFG n) (w (8 + i)) (niOnB n)) s
  let s2 := (List.range 8).foldl (fun s m => s.bootReg (Off.NI_MPA_ECAM (8 + m)) (w (104 + m)) (niOnB (8 + m))) s1
  let s3 := (List.range 16).foldl (fun s c => s.bootReg (Off.LK_CFG (12 + c) 0) (w (112 + c)) (decide (8 ≤ c))) s2
  let s4 := (s3.bootReg Off.GL_LEDGER_CFG (w 3) false).setFld Off.FT_CTRL Fld.FT_CTRL.PREF_REF (bits (w 4) 0 1)
  let v := w 5 &&& Row.SB_INB_MAP.mask (· != .ro)
  .ok ((s4.wr Off.SB_INB_MAP v).fwNote [(Off.SB_INB_MAP, v)])

/-- Step 7: the boot protection table is checked and committed, and every shadow takes it (R434, R443 to R445, R577). -/
def State.boot7 (s : State) (b : BootIn) : BootStep :=
  let ws := b.prot.words
  let l := protRegs ws
  if !(protHeaderOk ws && b.prot.sig) then s.bootFail 7 6
  else
    match checkTable l with
    | some (r, x, y) =>
      ((((s.wr Off.ST_COMMIT_INFO (BitVec.ofNat 64 (y * 2 ^ 32 + x))).setFld Off.ST_STATUS Fld.ST_STATUS.RESULT r).reportSt .ST_COMMIT_REFUSED x)).bootFail 7 6
    | none =>
      let s1 := ((l.foldl (fun s e => s.wr e.1 e.2) s).modSt (fun x => { x with gates := protGates ws })).writeGates
      let s2 := (s1.setFld Off.ST_STATUS Fld.ST_STATUS.GEN 1).setFld Off.ST_STATUS Fld.ST_STATUS.RESULT 1
      let s3 := (List.range 256).foldl (fun s n => (s.pushShadow n l).modNi n (fun u => { u with strain := { u.strain with gen := 1 } })) s2
      let s4 := (s3.setFld Off.ST_WINDOW Fld.ST_WINDOW.LAST_NS b.windowNs).setFld Off.ST_WINDOW Fld.ST_WINDOW.MAX_NS
        (max b.windowNs (s3.fld Off.ST_WINDOW Fld.ST_WINDOW.MAX_NS))
      .ok ((s4.modSt (fun x => { x with result := 1 })).reportSt .ST_COMMIT_DONE 0)

/-- The time T of epoch 0: at least 65,536 ft after the keeper's time, and a multiple of 1,024 ft (R316, R578). -/
def bootT (now : Nat) : Nat := (now + 65536 + 1023) / 1024 * 1024

/-- Step 8: epoch 0 is armed and active at T in every die-A NI, with die B marked lost; the Pot waits for it, so the keeper's time has come
to T (R578). -/
def State.boot8 (s : State) (b : BootIn) : BootStep :=
  let T := bootT s.time.now
  let id := b.image.getD 2 0
  let s1 := ((List.range 256).filter (fun n => !niOnB n)).foldl (fun s n =>
    (s.wr (Off.NI_EPOCH_TIME n) (BitVec.ofNat 64 T)).activateBoot n (some bootLoss)) ((s.recEpoch 2 0 id T).modTime (fun t => { t with now := T }))
  let s2 := ((s1.setBankSt 0 2).wr Off.GL_EPOCH_T (BitVec.ofNat 64 T))
  .ok ((s2.recEpoch 3 0 id T).noteApertures)

/-- Step 9: the ledger is read, or formatted where the flash holds no valid copy, and replayed into every slice; what cannot be read or formatted
stops start-up (R265, R271, R272, R579, R580). -/
def State.boot9 (s : State) (b : BootIn) : BootStep :=
  if !s.flag Off.GL_LEDGER_CFG Fld.GL_LEDGER_CFG.ENABLE then .ok s
  else if !b.ledgerOk then s.bootFail 9 7
  else
    match activeCopy b.copy0 b.copy1 with
    | some (k, c) => .ok ((s.readCopy k c).replayLedger (fun _ => true))
    | none => .ok ((s.setFld Off.GL_LEDGER_STATUS Fld.GL_LEDGER_STATUS.GEN 1).reportPot .LEDGER_FORMAT 0 0)

/-- Start-up has come to step 10; domains are idle from here on (R577). -/
def State.bootEnd (s : State) (b : BootIn) : State :=
  let s1 := (List.range 48).foldl State.alignIsland { s with uptime := b.us * 1000 }
  (s1.setFld Off.GL_BOOT Fld.GL_BOOT.STEP 10).modKt (fun k => { k with
    idleSince := (List.range 72).foldl (fun m d => KMap.set (fun _ => 0) m d s1.aonTime) k.idleSince })

/-- Steps 1 to 9 of start-up in order; a step that fails ends them (R577, R580). -/
def State.startUp (s : State) (b : BootIn) : State :=
  let cold := s.pins.coldDue
  let r := (((((((s.boot1 b).bind (fun s => s.boot3 b cold)).bind (fun s => s.boot4 b cold)).bind (fun s => s.boot5 b)).bind (fun s => s.boot6 b)).bind
    (fun s => s.boot7 b)).bind (fun s => s.boot8 b)).bind (fun s => s.boot9 b)
  match r with
  | .ok s1 => s1.bootEnd b
  | .error s1 => s1

/-- PORST_N_RELEASE: the fuses are sampled, and with WARM_N high start-up runs (R29, R30, R577). -/
def execPorstNRelease (b : BootIn) (s : State) : Outcome :=
  if s.pins.porstN then .next s
  else
    let s1 := { s with
      pins := { s.pins with porstN := true, testMode := b.testMode, debugEn := b.debugEn }
      wrapA := s.wrapA.perform b.testMode
      wrapB := s.wrapB.perform b.testMode }
    .next (if s1.pins.warmN then s1.startUp b else s1)

/-- WARM_N_RELEASE: with PORST_N high, start-up runs; it is a warm one unless PORST_N has fallen since the last (R30, R577). -/
def execWarmNRelease (b : BootIn) (s : State) : Outcome :=
  if s.pins.warmN then .next s
  else
    let s1 := { s with pins := { s.pins with warmN := true } }
    .next (if s1.pins.porstN then s1.startUp b else s1)

/-- BOOT_READY_WRITE: step 10: the Lids of bands 0 and 1 open, the protection set-up is locked, and GL_BOOT.READY raises FABRIC_READY; die-A interfaces
open (R32, R33, R577). -/
def execBootReadyWrite (s : State) : Outcome :=
  if s.inReset || s.pins.ready || s.fld Off.GL_BOOT Fld.GL_BOOT.STEP != 10 || s.fld Off.GL_BOOT Fld.GL_BOOT.FAIL != 0 then .next s
  else
    let s1 := ((s.setPotClose 0xC).setLock).setFld Off.GL_BOOT Fld.GL_BOOT.READY 1
    let s2 := { s1 with pins := { s1.pins with ready := true } }
    let s3 := (s2.setFld Off.GL_BOOT_TIME Fld.GL_BOOT_TIME.READY_US (s.uptime / 1000)).sbReady
    .next ((List.range 8).foldl (fun s c => s.lkAsk (12 + c) 0) s3)

/-! ### Rails -/

/-- VDD_FAB_DROOP: an island's oscillator lengthens a cycle by so many 1/1,024 of its period, at most 12.5 %, and keeps the largest (R45). -/
def execVddFabDroop (i : Fin 48) (stretch : Fin 129) (s : State) : Outcome :=
  if s.oscRuns i && !s.inReset then
    .next (s.setFld (Off.FT_ISL_FREQ i) Fld.FT_ISL_FREQ.MAX_STRETCH (max stretch.val (s.fld (Off.FT_ISL_FREQ i) Fld.FT_ISL_FREQ.MAX_STRETCH)))
  else .next s

/-! ### Wrappers -/

/-- The state with the wrapper of a die changed. -/
def State.modWrap (s : State) (die : Die) (f : Wrapper → Wrapper) : State :=
  match die with
  | .a => { s with wrapA := f s.wrapA }
  | .b => { s with wrapB := f s.wrapB }

/-- An instruction is loaded into a wrapper, with what comes with it: one other than WS_BYPASS loaded while PORST_N is high, or one that needs
TEST_MODE without it, acts as WS_BYPASS; the cells drive only under WS_EXTEST (R42, R43). -/
def Wrapper.load (w : Wrapper) (v : BitVec 8) (late testMode : Bool) (d : WData) : Wrapper :=
  { w with wir := v, late := late, due := some d, driven := none }.perform testMode

/-- The state with an instruction loaded into a die's wrapper (R42, R43). -/
def State.loadWir (s : State) (die : Die) (v : BitVec 8) (d : WData) : State :=
  s.modWrap die (fun w => w.load v s.pins.porstN s.pins.testMode d)

/-- WS_BYPASS: the bit at WSI goes into the one-bit bypass (R42). -/
def execWsBypass (wsi : Die × Bool) (s : State) : Outcome :=
  .next (s.modWrap wsi.1 (fun w => { w with wir := 0, late := false, due := none, driven := none, bypass := wsi.2 }))
/-- WS_EXTEST: the boundary cells drive what they hold and capture the values at the die's interfaces and signals (R42). -/
def execWsExtest (captured : Die × List Bool) (s : State) : Outcome := .next (s.loadWir captured.1 0x01 (.capture captured.2))
/-- WS_PRELOAD: the boundary cells are loaded from WSI without driving (R42). -/
def execWsPreload (cells : Die × List Bool) (s : State) : Outcome := .next (s.loadWir cells.1 0x02 (.shift cells.2))
/-- WS_INTEST_SCAN: the selected chain lies between WSI and WSO, and takes these bits (R42). What a chain's bits are in the fabric's units the
spec does not say: none of them changes (log entry 50). -/
def execWsIntestScan (wsi : Die × List Bool) (s : State) : Outcome := .next (s.loadWir wsi.1 0x10 (.shift wsi.2))

/-- MBIST_RUN: self-test runs and its verdict stands in the wrapper's data register; without TEST_MODE it is WS_BYPASS (R42, R43). -/
def execMbistRun (die : Die) (pass : Bool) (s : State) : Outcome := .next (s.loadWir die 0x11 (.verdict pass))

/-- CHAIN_SEL: the chain that WS_INTEST_SCAN reaches; without TEST_MODE it is WS_BYPASS (R42, R43). -/
def execChainSel (die : Die) (chain : BitVec 8) (s : State) : Outcome := .next (s.loadWir die 0x12 (.chainNo chain))

end Sys2Proof.Machine
end

