-- ==== Sys2Proof/Machine/Join.lean ====
section
/-! DEFINITION. Joining die B, seam partition and rejoining (R580 to R592). -/
namespace Sys2Proof.Machine

/-! ### Join state -/

/-- GL_JOIN.STATE: 0 NONE, 1 JOINING, 2 JOINED, 3 PARTITIONED, 4 REJOINING, 5 WAIT_SWITCH, 6 FAILED. -/
def State.joinState (s : State) : Nat := s.fld Off.GL_JOIN Fld.GL_JOIN.STATE
/-- GL_JOIN.STATE written. -/
def State.setJoin (s : State) (v : Nat) : State := s.setFld Off.GL_JOIN Fld.GL_JOIN.STATE v

/-- Seam links not in service, as PARTITION records map them (R592). -/
def State.seamLostMap (s : State) : Nat := (List.range 12).foldl (fun a k => if s.seamLinkUp k then a else a + 2 ^ k) 0

/-- A PARTITION record: the companion's at tray port 3, the Pot's at port 4 (R592). -/
def State.recPartition (s : State) (port event : Nat) (w2 w3 : W64) : State :=
  s.cdWrite port Cd.PARTITION (event * 2 ^ 54 + s.seamLostMap * 2 ^ 42) w2 w3

/-- NIs of a die. -/
def diesNis (onB : Bool) : List Nat := (List.range 256).filter (fun n => niOnB n == onB)

/-- The join ends as failed with a REASON; a rejoin that loses the seam goes back to PARTITIONED (R582, R588, R591, R592). -/
def State.joinFail (s : State) (reason : Nat) : State :=
  let s1 := (s.setJoin (if reason = 7 then 3 else 6)).setFld Off.GL_JOIN Fld.GL_JOIN.REASON reason
  (s1.modPot (fun p => { p with joinStep := 0, poisoning := [], sweeps := p.sweeps.filter (· < 8) })).recPartition 4 7 (BitVec.ofNat 64 reason) (s1.rd Off.GL_JOIN)

/-- The join goes on with a step, whose wait begins now. -/
def State.joinGo (s : State) (k : Nat) : State := s.modPot (fun p => { p with joinStep := k, joinAt := s.refTime })

/-! ### The die-B join reset -/

/-- A die-B slice after the join reset: its directory stores, with their repairs, and its taint map are kept (R569, R587). -/
def Slice.joinReset (x : Slice) : Slice :=
  { Slice.reset with
    ent := x.ent, tag0 := x.tag0, tag1 := x.tag1, vec := x.vec, vecUsed := x.vecUsed, stat := x.stat
    spEnt := x.spEnt, spTag0 := x.spTag0, spTag1 := x.spTag1, told := x.told, taint := x.taint }

/-- A link controller's register offsets: controller and half. -/
def lkOffset (o : Nat) : Option (Nat × Nat) :=
  if 0x2000000 ≤ o ∧ o < 0x20E0000 then some ((o - 0x2000000) / 0x8000, (o - 0x2000000) / 0x4000 % 2) else none

/-- The offset lies in a unit that the die-B join reset resets (R569). -/
def joinResets (o : Nat) : Bool :=
  match lkOffset o with
  | some (k, _) => lkSeam k || decide (20 ≤ k)
  | none => match offDomain o with
    | some d => domainOnB d
    | none => false

/-- Both halves of every seam link, or of links 20 to 27, are reset together, with what is under way on them (R81, R85, R583). -/
def State.resetLinks (s : State) (l : List Nat) : State :=
  l.foldl (fun s k => (List.range 2).foldl (fun s e =>
    if !lkEnd k e then s
    else
      let st := (s.lkAt k e).st
      let s1 := if st = .down ∨ st = .lost then s else s.lkLost k e
      (s1.setWire (lkTx k e) []).modLk k e (fun _ => Lk.reset)) s) s

/-- The die-B join reset: islands 24 to 47 realign, slices 8 to 15 keep their stores, and domain 70, links 20 to 27 and both halves of the seam links
are reset; FENCE_HW stays set (R569, R588). -/
def State.joinReset (s : State) : State :=
  let kept := (List.range 8).map (fun j => (8 + j, (s.sliceAt (8 + j)).joinReset))
  let s1 := s.resetLinks (List.range 12 ++ (List.range 8).map (20 + ·))
  let ds := (List.range 24).map (24 + ·) ++ (List.range 8).map (56 + ·) ++ [70]
  let s2 := ds.foldl (fun s d => (s.loseUnits d).setDom d Domain.reset) s1
  let s3 := kept.foldl (fun s e => (s.setSlice e.1 e.2).updateWear e.1) s2
  let s4 := (diesNis true).foldl (fun s n => s.modNi n (fun u => { u with fenceHw := true })) { s3 with regs := KMap.drop joinResets s3.regs, pend := KMap.drop joinResets s3.pend }
  let s5 := ((List.range 24).map (24 + ·)).foldl (fun s i => (s.alignIsland i).releasePairs i) s4 |>.releasePairs 70
  let s6 := ((List.range 24).map (24 + ·)).foldl (fun s i => s.tellFacing i .on) s5
  s6.recPartition 3 5 (BitVec.ofNat 64 ds.length) 0

/-! ### Steps of a join -/

/-- J1: ENABLE is written on both halves of every seam link (R582). -/
def State.joinTrain (s : State) : State :=
  (List.range 12).foldl (fun s k => (List.range 2).foldl (fun s e => (s.setFld (Off.LK_CTRL k e) Fld.LK_CTRL.ENABLE 1).lkAsk k e) s) (s.joinGo 3)

/-- J1 ends once every seam link is in service at full width or its RETRAIN_LIMIT has passed; with at least 11 of them the Pot gains routes to die B
(J2), and otherwise the join fails (R582). -/
def State.joinLinks (s : State) : State :=
  let decided := (List.range 12).all (fun k => s.seamFull k ||
    decide (s.pot.joinAt + 1000 * max 1 (s.fld (Off.LK_THRESH k 0) Fld.LK_THRESH.RETRAIN_LIMIT) ≤ s.refTime))
  if !decided then s
  else
    let up := (List.range 12).filter s.seamFull
    let s1 := s.setFld Off.GL_JOIN Fld.GL_JOIN.LINKS_UP (up.foldl (fun a k => a + 2 ^ k) 0)
    if up.length < 11 then s1.joinFail 1
    else (s1.commitLoss [248] (fun _ => s1.lostSeam) id).joinGo 4

/-- An offset of a unit of die B (R572, R582). -/
def unitOnB (o : Nat) : Bool :=
  match lkOffset o with
  | some (k, e) => lkOnB k e
  | none => match keyDomain o with
    | some d => domainOnB d
    | none => false

/-- J3 and J4: die B's units get their BL values, tables, recorded values and shadows back, and the devices of every MPA that is up their decoders; a share
that fails its digest check fails the join (R351, R582). -/
def State.joinLoad (s : State) (ok : Bool) : State :=
  if !ok then s.joinFail 2
  else
    let s1 := ((s.reloadRegs unitOnB).modPot (fun p => { p with due := KMap.drop (fun k => (keyDomain k).any domainOnB) p.due })).reloadNis (diesNis true)
    let s2 := (diesNis true).foldl (fun s n => s.setRoutes n s.lostSeam (s.rd (Off.NI_PEA_DOWN n))) s1
    (((List.range 8).map (8 + ·)).foldl (fun s n => s.programHdm n) s2).joinGo 5

/-- J6 of the first join: die B's interfaces are released, every NI knows the lost seam links alone, the Lids of bands 2 and 3 open, and STATE is JOINED (R582). -/
def State.joinEnd (s : State) : State :=
  let s1 := s.commitLoss (List.range 256) (fun _ => s.lostSeam) id
  let s2 := (s1.modKt (fun k => { k with bHeld := false })).setPotClose (s1.fld Off.GL_LID_CTRL Fld.GL_LID_CTRL.POT_CLOSE % 4)
  let s3 := ((List.range 8).foldl (fun s c => s.lkAsk (20 + c) 0) s2).setJoin 2
  (s3.setFld Off.GL_BOOT_TIME Fld.GL_BOOT_TIME.JOIN_US (min (2 ^ 32 - 1) ((s.refTime - s.pot.joinSince) / 1000))).modPot (fun p => { p with joinStep := 0 })

/-- J5 of a rejoin: POISON_LINE goes to the memory target of each line of the poison list (R588, R590). -/
def State.joinPoison (s : State) : State :=
  let l := s.pot.poison
  let s1 := l.foldl (fun s e => s.unitMgt 248 e.2 6 [BitVec.ofNat 64 (0x14 * 2 ^ 56), BitVec.ofNat 64 e.1]) s
  (s1.modPot (fun p => { p with poisoning := l.map (·.1) })).joinGo 6

/-- Sweep messages go to eight slices: PART_SWEEP or REJOIN_SWEEP with the die-B CLAs (R584, R588, R590). -/
def State.sendSweeps (s : State) (first mop : Nat) : State :=
  let hs := (List.range 8).map (first + ·)
  (hs.foldl (fun s h => s.unitMgt 248 (sliceNi h) 6 [BitVec.ofNat 64 (mop * 2 ^ 56), 0xFF00]) s).modPot (fun p => { p with sweeps := p.sweeps ++ hs })

/-- A join that may start or go on: the Pot runs, out of reset and with FABRIC_READY high. -/
def State.joinable (s : State) : Bool := s.pins.ready && s.domOn 64

/-- DIE_B_JOIN: the join is begun after FABRIC_READY rises, or goes on with its next step once what it waits for has come; `ok` is the verdict on
the digests of step J3 (R582, R588, R589). -/
def execDieBJoin (ok : Bool) (s : State) : Outcome :=
  let p := s.pot
  if !s.joinable then .next (if s.pins.ready && p.joinStep != 0 && !s.wakeQ.contains 64 then s.askWake 64 else s)
  else
    .next (match p.joinStep with
      | 0 => if s.joinState = 0 then ((s.setJoin 1).modPot (fun p => { p with rejoin := false, joinSince := s.refTime })).joinGo 2 else s
      | 1 =>
        if (List.range 8).all (fun j => s.domIdle (56 + j)) then s.joinReset.joinGo 2
        else if p.joinAt + 1000000 ≤ s.refTime then s.joinFail 5 else s
      | 2 => s.joinTrain
      | 3 => s.joinLinks
      | 4 => s.joinLoad ok
      | 5 => if p.rejoin then s.joinPoison else s.joinEnd
      | 6 => if p.poisoning = [] ∨ p.joinAt + 100000000 ≤ s.refTime then (s.sendSweeps 8 0x11).joinGo 7 else s
      | 7 => if p.sweeps = [] then (s.setJoin 5).modPot (fun p => { p with joinStep := 0 }) else s
      | _ => s)

/-- JOIN_GO_WRITE: a failed first join starts again from J1; a rejoin starts unless one of its conditions fails it; in any other state the write
has no effect (R582, R588, R591). -/
def execJoinGoWrite (s : State) : Outcome :=
  let st := s.joinState
  if !s.joinable || !(st == 3 || st == 6) || s.pot.joinStep != 0 then .next s
  else
    let s0 := s.modPot (fun p => { p with joinSince := s.refTime })
    if s.kt.bHeld then .next ((((s0.setJoin 1).setFld Off.GL_JOIN Fld.GL_JOIN.REASON 0).modPot (fun p => { p with rejoin := false })).joinGo 2)
    else if s.flag Off.GL_JOIN Fld.GL_JOIN.POISON_OVF then .next (s0.joinFail 3)
    else if s.pot.sw.isSome || s.bankSt 0 == 3 || s.bankSt 1 == 3 || s.pot.load.isSome || s.st.phase != .idle then .next (s0.joinFail 4)
    else if s.pot.sweeps.any (· < 8) then .next (s0.joinFail 6)
    else
      let s1 := ((s0.setJoin 4).setFld Off.GL_JOIN Fld.GL_JOIN.REASON 0).recPartition 4 4 (BitVec.ofNat 64 s.pot.poison.length) 0
      .next ((s1.modPot (fun p => { p with rejoin := true })).joinGo 1)

/-! ### Partition -/

/-- Die B is fenced by its companion: FENCE_HW on every die-B NI; die-B NIs leave a drain and a Strainer window, and both halves of every seam link are
reset (R188, R322, R435, R583, R584, R591). -/
def State.fenceDieB (s : State) : State :=
  let bs := diesNis true
  let s1 := (bs.foldl (fun s n => s.modNi n (fun u => { u with fenceHw := true })) s).modKt (fun k => { k with dieBFenced := true })
  let s2 := (s1.resetLinks (List.range 12)).drainRelief bs
  let out := s2.st.parts.filter niOnB
  if out = [] then s2 else (s2.leaveParts out).endWindow

/-- The Pot has the loss of all of die B committed in every die-A NI (R164, R584). -/
def State.loseDieB (s : State) : State := s.commitLoss (diesNis false) (· ||| bootLoss) id

/-- A partition is declared: die B is fenced, the records and the report are written, the losses are committed and the die-A slices sweep (R583, R584). -/
def State.partition (s : State) : State :=
  let d := s.time.now
  let states := (List.range 12).foldl (fun a k => a + (s.lkAt k 1).st.code * 2 ^ (4 * k)) 0
  let lost := s.seamLostMap
  let s1 := (s.recPartition 3 1 (BitVec.ofNat 64 states) (BitVec.ofNat 64 d)).recPartition 3 2 (BitVec.ofNat 64 (diesNis true).length) 0
  let s2 := (s1.fenceDieB).reportUp 251 8 .SEAM_PARTITION 0
  let s3 := ((s2.setJoin 3).setFld Off.GL_JOIN Fld.GL_JOIN.LINKS_LOST lost).wr Off.GL_PARTITION (BitVec.ofNat 64 d)
  s3.loseDieB.sendSweeps 0 0x10

/-- SEAM_LOSS_DECLARE: no seam link has had both halves in service for 1 µs: joined, a partition is declared; in a join past J1 it fails; while a rejoin
waits for its switch it goes back to PARTITIONED (R583, R584, R591). -/
def execSeamLossDeclare (s : State) : Outcome :=
  match s.seamDown with
  | none => .next s
  | some t =>
    if s.inReset || decide (s.refTime < t + 1000) then .next s
    else if s.joinState = 2 then .next s.partition
    else if s.joinState = 1 ∧ 4 ≤ s.pot.joinStep then .next (s.joinFail 1)
    else if (s.joinState = 4 ∧ 4 ≤ s.pot.joinStep) ∨ s.joinState = 5 then .next ((s.fenceDieB.joinFail 7).loseDieB)
    else .next s

/-! ### Sweeps -/

/-- The die-B CLA ports that a sweep names: bit c is CLA 16 + c (R590). -/
def Sweep.goneMask (w : Sweep) : Nat := w.ports * 2 ^ 16

/-- An agent is a die-B holder (R585). -/
def State.goneHolder (s : State) (h bank : Nat) (w : Sweep) (a : Nat) : Bool := w.goneMask.testBit (s.agentPort h bank a)

/-- A view without the die-B sharers: pointers, and group bits whose CPMASK names die-B ports alone (R585). -/
def State.stripSharers (s : State) (h bank : Nat) (w : Sweep) (v : View) : State × View :=
  match v.vec with
  | none => (s, { v with ptrs := v.ptrs.filter (fun a => !s.goneHolder h bank w a) })
  | some i =>
    let g := (List.range 64).foldl (fun x k =>
      let m := s.groupMask h bank k
      if m &&& w.goneMask = m then x &&& ~~~(BitVec.ofNat 64 (2 ^ k)) else x) (dirW (s.sliceAt h).vec i)
    (s.modSlice h (fun x => { x with vec := setDirW x.vec i g }), v)

/-- A view names no sharer. -/
def State.noSharer (s : State) (h : Nat) (v : View) : Bool :=
  match v.vec with
  | none => v.ptrs.isEmpty
  | some i => dirW (s.sliceAt h).vec i == 0

/-- The sweep's counts changed. -/
def State.sweepCount (s : State) (h : Nat) (f : Sweep → Sweep) : State := s.modSlice h (fun x => { x with sweep := x.sweep.map f })

/-- One entry of a sweep (R585, R589): the line of a die-B owner is poisoned, its die-A sharers invalidated; die-B sharers are removed, and an S entry
without a holder is freed, with PXEV for a PROXY line that needs one (R218). -/
def State.sweepEntry (s : State) (h set way : Nat) (w : Sweep) : State :=
  let x := s.sliceAt h
  let n := sliceNi h
  let ep := (s.niAt n).ep
  let (e, tag) := x.slot set way
  let v := View.ofWord e
  let line := lineOf set tag
  let gone := match v.owner with
    | some y => s.goneHolder h ep.bank w y
    | none => false
  let t := Tx.open x.freeRec .sweep line (s.proxyOf h ep.bank line) Hdr.zero 0 0 ep.epoch set (some way) false v (s.niTime n)
  let free := { View.u with hostg := v.hostg, proxy := v.proxy }
  if x.retired set way || !entryUsed e || x.wayBusy set way || (x.busy line).isSome then s
  else if gone then
    let s1 := (s.sweepCount h (fun w => { w with poisoned := w.poisoned + 1, freed := w.freed + 1 })).cohPoison h (v.owner.getD 0xFFF) line
    let (s2, v1) := s1.stripSharers h ep.bank w v
    let l := if v.st = 4 then s2.sharerSnoops h ep.bank t v1 2 false none else []
    s2.begin h { t with poison := true, new := free } l
  else
    let (s1, v1) := s.stripSharers h ep.bank w v
    if v.st = 1 ∧ s1.noSharer h v1 = true then
      let s2 := s1.sweepCount h (fun w => { w with freed := w.freed + 1 })
      if v.proxy && (v.hostg == 1 || v.hostg == 2) then s2.begin h { t with new := free } []
      else s2.modSlice h (fun x => (x.setSlot set way 0 tag).releaseVec v View.u)
    else s1.modSlice h (fun x => x.setSlot set way v1.word tag)

/-- One set of a sweep: a set in broadcast mode is tainted by a partition sweep; the entries of any other set are swept (R585, R587, R589). -/
def State.sweepSet (s : State) (h set : Nat) (w : Sweep) : State :=
  let x := s.sliceAt h
  if x.bcast set then
    (if w.rejoin || KMap.get (fun _ => false) x.taint set then s
     else (s.modSlice h (fun x => { x with taint := KMap.set (fun _ => false) x.taint set true })).sweepCount h (fun w => { w with tainted := w.tainted + 1 }))
  else (List.range 16).foldl (fun s k => s.sweepEntry h set k w) s

/-- A sweep goes through the sets as long as transaction records are free (R232, R585). -/
def State.sweepRun (s : State) (h : Nat) : Nat → State
  | 0 => s
  | fuel + 1 =>
    match (s.sliceAt h).sweep with
    | none => s
    | some w =>
      if w.pos = 16384 ∨ 240 < (s.sliceAt h).recs.length then s
      else ((s.sweepSet h w.pos w).sweepCount h (fun w => { w with pos := w.pos + 1 })).sweepRun h fuel

/-- A sweep that has been through every set and whose transactions have ended answers SWEEP_DONE (R585, R590). -/
def State.sweepEnd (s : State) (h : Nat) : State :=
  let x := s.sliceAt h
  match x.sweep with
  | some w =>
    if w.pos = 16384 ∧ x.recs.all (fun t => t.kind != .sweep) = true then
      let c := min 65535 w.tainted * 2 ^ 32 + min 65535 w.poisoned * 2 ^ 16 + min 65535 w.freed
      (s.modSlice h (fun x => { x with sweep := none })).unitMgt (sliceNi h) 248 6 [BitVec.ofNat 64 (0x12 * 2 ^ 56), BitVec.ofNat 64 c]
    else s
  | none => s

/-- A slice takes a sweep message, and goes on with its sweep. -/
def State.sweep (s : State) (h mop : Nat) : State :=
  if !s.domOn (48 + h) then (if s.wakeQ.contains (48 + h) then s else s.askWake (48 + h))
  else
    let s1 := match s.takeIn (sliceNi h) Vn.MGT (fun p => p.h.opcode.toNat == 6 && p.mop == mop) with
      | some (p, _, s1) => s1.modSlice h (fun x => { x with
          sweep := some { ports := bits (p.word 1) 0 16, rejoin := mop == 0x11, pos := 0, tainted := 0, poisoned := 0, freed := 0 } })
      | none => s
    match (s1.sliceAt h).sweep with
    | some w => if w.rejoin = (mop == 0x11) then (s1.sweepRun h 16384).sweepEnd h else s1
    | none => s1

/-- PART_SWEEP: a die-A slice takes the message, and sweeps its entries for die-B holders (R585, R590). -/
def execPartSweep (h : Fin 16) (s : State) : Outcome := .next (s.sweep h 0x10)
/-- REJOIN_SWEEP: a die-B slice removes die-B holders after the join reset (R589, R590). -/
def execRejoinSweep (h : Fin 16) (s : State) : Outcome := .next (s.sweep h 0x11)

/-! ### Messages at the Pot and at memory targets -/

/-- The Pot takes an MCTL message of a MOP. -/
def State.potMctl (s : State) (mop : Nat) (k : State → Pkt → State) : Outcome :=
  if !s.domOn 64 then .next s
  else
    match s.takeIn 248 Vn.MGT (fun p => p.h.opcode.toNat == 6 && p.mop == mop) with
    | none => .next s
    | some (p, _, s1) => .next (k s1 p)

/-- SWEEP_DONE: the Pot notes a slice's sweep as ended and writes the record (R590, R592). -/
def execSweepDone (s : State) : Outcome :=
  s.potMctl 0x12 (fun s p =>
    let h := p.h.src.toNat - 232
    (s.modPot (fun x => { x with sweeps := x.sweeps.filter (· != h) })).recPartition 4 3 (BitVec.ofNat 64 h) (p.word 1))

/-- POISON_LIST shows the length of the list. -/
def State.showPoison (s : State) : State := s.setFld Off.GL_JOIN Fld.GL_JOIN.POISON_LIST s.pot.poison.length

/-- DEFER_POISON: the Pot lists the line with its memory target, or notes that its 8,192 places are taken (R586, R590). -/
def execDeferPoison (s : State) : Outcome :=
  s.potMctl 0x13 (fun s p =>
    let line := bits (p.word 1) 0 46
    if s.pot.poison.any (fun e => e.1 == line) then s
    else if 8192 ≤ s.pot.poison.length then s.setFld Off.GL_JOIN Fld.GL_JOIN.POISON_OVF 1
    else (s.modPot (fun x => { x with poison := x.poison ++ [(line, bits (p.word 2) 0 8)] })).showPoison)

/-- POISON_DONE: with RESP OK the Pot takes the line off its list (R588, R590). -/
def execPoisonDone (s : State) : Outcome :=
  s.potMctl 0x15 (fun s p =>
    let line := bits (p.word 1) 0 46
    (s.modPot (fun x => { x with
      poisoning := x.poisoning.filter (· != line)
      poison := if bits (p.word 2) 0 4 = Resp.OK then x.poison.filter (fun e => e.1 != line) else x.poison })).showPoison)

/-- POISON_LINE: an MPA sends MemWr with poison set, and a CLA MWR with POISON set; a port that is down answers at once with ERR_FENCED (R330, R590). -/
def execPoisonLine (n : Fin 256) (s : State) : Outcome :=
  if niType n ≠ .mpa ∧ niType n ≠ .cla then .next s
  else
    match s.takeIn n Vn.MGT (fun p => p.h.opcode.toNat == 6 && p.mop == 0x14) with
    | none => .next s
    | some (p, _, s1) =>
      let line := bits (p.word 1) 0 46
      if !(s1.portAt n).up then .next (s1.poisonDone n line Resp.ERR_FENCED)
      else
        let (d, s2) := s1.freshLine
        let b : Body := ⟨true, allBytes, d⟩
        let tag := ((List.range 256).find? (fun k => !(s.portAt n).demands.any (fun x => x.p.h.src.toNat == 248 && x.p.h.tag.toNat == k))).getD 0
        let h : Hdr := { Hdr.zero with vn := 1, colour := 3, epoch := p.h.epoch, opcode := 5, src := 248, tag := BitVec.ofNat 8 tag, agent := 0xFFF, mid := BitVec.ofNat 46 line }
        let q := Pkt.ofLines h [b]
        if niType n = .cla then .next ((s2.keepDemand n (248 * 256 + tag) q).toChiplet n q)
        else
          .next ((s2.keepDemand n (4096 + tag) q).portOut n (.memWr false (4096 + tag) line b))

end Sys2Proof.Machine
end

