-- ==== Sys2Proof/Machine/Leaf.lean ====
section
/-! DEFINITION. Leaf records at the sampling NI: stamps, closing, sending, and the return of LEAF_IDs (R538 to R542). -/
namespace Sys2Proof.Machine

/-- LEAF_STAMP: the sampling NI takes a stamp into its open record, which closes when the delivery stamp and every expected router stamp have arrived;
a stamp without an open record is discarded and counted (R539, R541). -/
def execLeafStamp (n : Fin 256) (s : State) : Outcome :=
  match (s.niAt n).leaf.arrived with
  | [] => .next s
  | p :: rest =>
    let s1 := s.modNi n (fun u => { u with leaf := { u.leaf with arrived := rest } })
    let k := bits (p.word 0) 56 6
    match (s1.niAt n).leaf.recAt k with
    | none => .next (s1.bump (Off.NI_LEAF_CNT n) Fld.NI_LEAF_CNT.STAMP_DROPS)
    | some r =>
      let r' := if bits (p.word 0) 62 2 = 2 then { r with deliver := some (p.word 1).toNat }
        else { r with arrived := r.arrived + 1, stamps := if r.arrived < 29 then r.stamps ++ [p.word 1] else r.stamps }
      .next (if r'.deliver.isSome && decide (r'.expect ≤ r'.arrived) then s1.closeLeaf n k r' false else s1.setLeafRec n k (some r'))

/-- LEAF_RECORD_TIMEOUT: an open record closes 2^TO_LOG2 ft after admission as INCOMPLETE, and is counted (R541). -/
def execLeafRecordTimeout (n : Fin 256) (k : Fin 64) (s : State) : Outcome :=
  match (s.niAt n).leaf.recAt k with
  | some r =>
    if s.timeRuns n && decide (r.admitted + 2 ^ leafTo (s.rd (Off.NI_LEAF_CFG n)) ≤ s.niTime n) then
      .next (s.cutLeaf n k r)
    else .next s
  | none => .next s

/-- LEAF_ID_RELEASE: 2^16 ft after its record closed a LEAF_ID becomes free (R541). -/
def execLeafIdRelease (n : Fin 256) (k : Fin 64) (s : State) : Outcome :=
  let q := KMap.get (fun _ => 0) (s.niAt n).leaf.quar k.val
  if q ≠ 0 ∧ q ≤ s.niTime n + 1 then
    .next (s.modNi n (fun u => { u with leaf := { u.leaf with quar := KMap.set (fun _ => 0) u.leaf.quar k.val 0 } }))
  else .next s

/-- LEAF_COMMIT: the leaf group becomes active together (R538). -/
def execLeafCommit (n : Fin 256) (s : State) : Outcome := .next (s.commitLeaf n)

end Sys2Proof.Machine
end

