-- ==== Sys2Proof/Machine/Perf.lean ====
section
/-! DEFINITION. Snapshots, the collector and the counter aperture (R549, R558 to R567). -/
namespace Sys2Proof.Machine

/-- The state with the collector changed. -/
def State.modPm (s : State) (f : Collector → Collector) : State := { s with pm := f s.pm }

/-- Unit of a store page (R566). -/
def pageUnit (i : Nat) : PmUnit := if i < 192 then .router i else if i < 448 then .ni (i - 192) else .slice (i - 448)
/-- Store pages. -/
def pmPages : Nat := 464

/-- A page of a store bank. -/
def Collector.page (c : Collector) (b i : Nat) : Option PmPage := KMap.get (fun _ => none) c.banks (b * pmPages + i)
/-- A retention image. -/
def Collector.image (c : Collector) (i : Nat) : Option PmPage := KMap.get (fun _ => none) c.images i

/-- A page of the bank being filled is settled (R561, R566). -/
def Collector.settle (c : Collector) (i : Nat) (p : PmPage) : Collector :=
  { c with banks := KMap.set (fun _ => none) c.banks (c.filling * pmPages + i) (some p), settled := if c.settled.contains i then c.settled else i :: c.settled }

/-- The INVALID page of a unit: zero counts (R561). -/
def invalidPage (i num T : Nat) : PmPage :=
  let u := pageUnit i
  { hdr := pmHdrOf u num 3 false 3, t := BitVec.ofNat 64 T, at' := 0, cnts := List.replicate u.count 0 }

/-! ### The units -/

/-- The operand of SNAPSHOT_COPY as a unit. -/
def CopyUnit.unit : CopyUnit → PmUnit
  | .router t => .router t
  | .ni n => .ni n
  | .slice h => .slice h

/-- A unit takes a snapshot number and T: it holds them until T, or copies at once where its local time is past T, with LATE and PM_SNAP_LATE (R558, R564). -/
def State.armSnap (s : State) (u : PmUnit) (num T : Nat) : State :=
  if s.localFt u.island ≤ T then s.setSnap u (some (num, T))
  else (s.copyUnit u num T true).report u.owner (match u with
    | .router _ => 1 | .ni _ => 0 | .slice _ => 2) .PM_SNAP_LATE (num % 2 ^ 31 * 2 ^ 8)

/-- The pages of the snapshot being filled that the Kettle's latched states settle: those of domains in RET from their images, those of domains OFF,
failed or fenced as INVALID (R561). -/
def Collector.settleLatched (c : Collector) (num T : Nat) : Collector :=
  (List.range pmPages).foldl (fun c i =>
    let st := KMap.get (fun _ => 0) c.latched (pageUnit i).domain
    if c.settled.contains i || st ≤ 1 then c
    else
      match st == 2, c.image i with
      | true, some p => c.settle i { p with hdr := setBits (setBits p.hdr 32 32 num) 30 2 2, t := BitVec.ofNat 64 T }
      | _, _ => c.settle i (invalidPage i num T)) c

/-- The collector starts to fill the bank that is not shown; where the Kettle has latched for this snapshot already, its pages are settled (R561, R566). -/
def State.startFill (s : State) (num T : Nat) : State :=
  s.modPm (fun c =>
    let b := match c.shown with
      | some k => 1 - k
      | none => 0
    let c1 := { c with filling := b, fill := some (num, T), settled := [], into := [], banks := KMap.drop (fun k => k / pmPages == b) c.banks }
    if c.latchedFor = num then c1.settleLatched num T else c1)

/-- SNAP: an L0 NI receives a SNAP message and passes T and the number to its tile's units; NI 251 gives them to the Kettle, NI 253 to the collector (R558). -/
def execSnap (n : Fin 256) (s : State) : Outcome :=
  match s.takeIn n Vn.MGT (fun p => p.h.opcode.toNat == 2) with
  | none => .next s
  | some (p, _, s1) =>
    let T := (p.word 0).toNat
    let num := bits (p.word 1) 0 32
    let t := niTile n
    let us := .router t :: (tileNis t).map PmUnit.ni ++ (if niType n = .hsl ∧ ((s.domAt (48 + (n.val - 232))).st = .on ∨ (s.domAt (48 + (n.val - 232))).st = .cg) then [PmUnit.slice (n.val - 232)] else [])
    let s2 := us.foldl (fun s u => s.armSnap u num T) s1
    if n.val = 251 then .next { s2 with kt := { s2.kt with snap := some (num, T) } }
    else if n.val = 253 then .next (if s2.domOn 67 then s2.startFill num T else (s2.startFill num T).askWake 67)
    else .next s2

/-- SNAPSHOT_COPY: at local time T a unit that holds T copies its counters, in CG too, and pushes the page (R559, R560). -/
def execSnapshotCopy (u : CopyUnit) (s : State) : Outcome :=
  let v := u.unit
  let st := (s.domAt v.domain).st
  match s.unitSnap v with
  | some (num, T) =>
    if (st = .on ∨ st = .cg) ∧ T ≤ s.localFt v.island ∧ (s.islAt v.island).held = false then
      let s1 := s.copyUnit v num T false
      .next (if st = .cg ∧ s1.wakeQ.contains v.domain = false then s1.askWake v.domain else s1)
    else .next s
  | none => .next s

/-! ### The collector -/

/-- What the Kettle latches of a domain at T: its state, or its target in step 4 of a lowering; 3 also where it failed or lies behind FENCE_HW (R561). -/
def State.latchState (s : State) (d : Nat) : Nat :=
  let x := s.domAt d
  if x.failed || (s.kt.dieBFenced && domainOnB d) then 3 else if x.phase = .enter then x.target.code else x.st.code

/-- KETTLE_SNAPSHOT_LATCH: at keeper time T the Kettle latches every domain's state; the pages of domains in RET are settled from their images, those of
domains OFF, failed or fenced as INVALID (R561). -/
def execKettleSnapshotLatch (s : State) : Outcome :=
  match s.kt.snap with
  | some (num, T) =>
    if s.time.now < T ∨ s.pm.latchedFor = num then .next s
    else
      let c := { s.pm with latched := (List.range 72).foldl (fun m d => KMap.set (fun _ => 0) m d (s.latchState d)) [], latchedFor := num }
      .next { s with pm := if c.fill = some (num, T) then c.settleLatched num T else c }
  | none => .next s

/-- The page that an aperture offset lies in, and the offset in it (R567). -/
def pageAt (o : Nat) : Option (Nat × Nat) :=
  if o < 0x30000 then some (o / 0x400, o % 0x400)
  else if o < 0x50000 then some (192 + (o - 0x30000) / 0x200, o % 0x200)
  else if o < 0x58000 then some (448 + (o - 0x50000) / 0x800, o % 0x800)
  else none

/-- Line k of a page is written. -/
def PmPage.put (p : PmPage) (k : Nat) (l : Line) : PmPage :=
  if k = 0 then { p with hdr := lineWord l 0, t := lineWord l 1, at' := lineWord l 2 }
  else { p with cnts := p.cnts.take (8 * (k - 1)) ++ (List.range 8).map (lineWord l) ++ p.cnts.drop (8 * k) }

/-- A line of a push reaches the collector: the header line decides whether the page goes to the bank being filled or is a retention image; a push of another
snapshot is discarded and counted (R562, R565, R566). -/
def State.pushLine (s : State) (i k : Nat) (l : Line) : State :=
  let c := s.pm
  let u := pageUnit i
  let last := u.count / 8
  let where' := if k = 0 then
      (if bits (lineWord l 0) 30 2 = 2 then 2 else if c.fill.map (·.1) = some (bits (lineWord l 0) 32 32) ∧ c.settled.contains i = false then 1 else 0)
    else KMap.get (fun _ => 0) c.into i
  let blank : PmPage := { hdr := 0, t := 0, at' := 0, cnts := List.replicate u.count 0 }
  let c1 := { c with into := KMap.set (fun _ => 0) c.into i (if k = last then 0 else where') }
  if last < k then s
  else if where' = 2 then
    let p := (if k = 0 then blank else (c.image i).getD blank).put k l
    { s with pm := { c1 with images := KMap.set (fun _ => none) c1.images i (some p) } }
  else if where' = 1 then
    let p := (if k = 0 then blank else (c.page c.filling i).getD blank).put k l
    let c2 := { c1 with banks := KMap.set (fun _ => none) c1.banks (c.filling * pmPages + i) (some p) }
    { s with pm := if k = last then c2.settle i p else c2 }
  else
    let s1 := { s with pm := c1 }
    if k = 0 then s1.bump Off.PM_COL_ERR Fld.PM_COL_ERR.DISCARDED else s1

/-- A PWR at NI 253 is a push: AGENT 0xFFF, PRIV 1 and ORIGIN 1 from a unit's owning NI (R565). -/
def Pkt.isPush (p : Pkt) : Bool := p.h.agent.toNat == 0xFFF && p.h.priv && p.h.origin

/-- COUNTER_PUSH: the collector takes the next posted write at NI 253: the lines of a pushed page, or a PWR that it discards (R565 to R567). -/
def execCounterPush (s : State) : Outcome :=
  match s.takeIn 253 Vn.IOP (fun _ => s.domOn 67) with
  | none => .next (if (s.niAt 253).inbox.any (fun e => e.1.h.vn.toNat == Vn.IOP) && !s.domOn 67 && !s.wakeQ.contains 67 then s.askWake 67 else s)
  | some (p, _, s1) =>
    if !p.isPush then .next s1
    else
      .next ((List.range p.lines.length).foldl (fun s k =>
        match pageAt ((p.h.line + k) * 64 % 0x80000), p.lines[k]? with
        | some (i, o), some b => if (pageUnit i).owner = p.h.src.toNat then s.pushLine i (o / 64) b.data else s
        | _, _ => s) s1)

/-- PAGE_SETTLE_TIMEOUT: pages still unsettled 65,536 ft after T are settled INVALID and counted (R566). -/
def execPageSettleTimeout (s : State) : Outcome :=
  match s.pm.fill with
  | some (num, T) =>
    if s.time.now < T + 65536 then .next s
    else
      let l := (List.range pmPages).filter (fun i => !s.pm.settled.contains i)
      .next (({ s with pm := l.foldl (fun c i => c.settle i (invalidPage i num T)) s.pm }).bumpBy Off.PM_COL_ERR Fld.PM_COL_ERR.TIMED_OUT l.length)
  | none => .next s

/-- COLLECTOR_BANK_SWITCH: a complete bank becomes the shown bank; the snapshot is no longer pending (R563, R566). -/
def execCollectorBankSwitch (s : State) : Outcome :=
  match s.pm.fill with
  | some (num, T) =>
    if s.pm.settled.length = pmPages ∧ s.domOn 67 = true then
      .next { s with
        pm := { s.pm with shown := some s.pm.filling, shownT := T, shownNum := num, fill := none, complete := true }
        kt := { s.kt with snap := if (s.kt.snap.map (·.1)) = some num then none else s.kt.snap } }
    else .next s
  | none => .next s

/-! ### The aperture -/

/-- A word of a store page (R567). -/
def PmPage.word (p : PmPage) (o : Nat) : W64 :=
  if o = 0 then p.hdr else if o = 8 then p.t else if o = 16 then p.at' else if o < 64 then 0 else p.cnts.getD ((o - 64) / 8) 0

/-- The word at an aperture offset: zero where none is held, and a page's header and STATUS NONE before a bank is shown (R567). -/
def State.apertureWord (s : State) (o : Nat) : W64 :=
  let c := s.pm
  match pageAt o with
  | some (i, k) =>
    match c.shown with
    | some b => match c.page b i with
      | some p => p.word k
      | none => 0
    | none => if k = 0 then pmHdrOf (pageUnit i) 0 0 false 3 else 0
  | none =>
    if c.shown.isNone then 0
    else if o = 0x58000 then BitVec.ofNat 64 c.shownNum
    else if o = 0x58008 then BitVec.ofNat 64 c.shownT
    else if o = 0x58010 then s.regValue Off.PM_COL_COUNTS
    else 0

/-- Store pages that a read touches. -/
def Pkt.touched (p : Pkt) : List Nat :=
  (List.range p.masks.length).filterMap (fun k => if p.masks.getD k 0 = 0 then none else (pageAt ((p.h.line + k) * 64 % 0x80000)).map (·.1))

/-- COUNTER_APERTURE_READ: the collector answers the next non-posted access of the aperture: an NRD from the shown bank, with PRIV 0 only from pages that
PM_USER opens; anything else with ERR_UNSUPPORTED (R567). -/
def execCounterApertureRead (s : State) : Outcome :=
  match s.takeIn 253 Vn.ION (fun _ => s.domOn 67) with
  | none => .next (if (s.niAt 253).inbox.any (fun e => e.1.h.vn.toNat == Vn.ION) && !s.domOn 67 && !s.wakeQ.contains 67 then s.askWake 67 else s)
  | some (p, _, s1) =>
    if p.h.opcode.toNat ≠ 1 then .next (s1.answerErr 253 p.h Resp.ERR_UNSUPPORTED)
    else if !p.h.priv && p.touched.any (fun i => !(s.rd (Off.PM_USER (i / 64))).getLsbD (i % 64)) then
      .next ((s1.bump Off.PM_COL_ERR Fld.PM_COL_ERR.DENIED).answerErr 253 p.h Resp.ERR_ACCESS)
    else .next (s1.answer 253 p.h Vn.IOC 2 Resp.OK 0 (p.regLines (fun a => s.apertureWord (a % 0x80000))))

/-! ### Filters and latches -/

/-- The counter page of an operand. -/
def PmUnit.cntPage : PmUnit → CntPage
  | .router t => rtPage t | .ni n => niPage n | .slice h => hsPage h

/-- PM_FLT_COMMIT: the filter sets that a mask names become active, each set together (R556, R557). -/
def execPmFltCommit (u : CopyUnit) (sets : BitVec 4) (s : State) : Outcome :=
  .next (((List.range 4).filter (fun k => sets.getLsbD k)).foldl (fun s k => s.commitFilter u.unit.cntPage k) s)

/-- A register whose 32-bit reads latch its high half: a live counter, or FT_NOW (R549, R598). -/
def hasLatch (o : Nat) : Bool :=
  o == 0x108000 || (decide (0x1000000 ≤ o ∧ o < 0x10C0000) && decide (o % 0x1000 < 0x200)) ||
    (decide (0x1400000 ≤ o ∧ o < 0x1500000) && decide (o % 0x1000 < 0x100)) ||
    (decide (0x1800000 ≤ o ∧ o < 0x1840000) && decide (o % 0x4000 < 0x400))

/-- COUNTER_LATCH_READ: a 32-bit read at the offset of a counter, or of FT_NOW, latches its high half; reads of the debug port and of debug NRDs have
a latch of their own (R549, R598). -/
def execCounterLatchRead (o : BitVec 23) (debug : Bool) (s : State) : Outcome :=
  let a := 8 * o.toNat
  if hasLatch a then
    let v := s.readReg a
    .next (if debug then { s with dbgLatch := KMap.set (fun _ => 0) s.dbgLatch a v } else { s with latch := KMap.set (fun _ => 0) s.latch a v })
  else .next s

end Sys2Proof.Machine
end

