-- ==== Sys2Proof/Machine/Saucer.lean ====
section
/-! DEFINITION. The Saucer: its queue, escalation, open entries, Lids and host fault ring, and fault injection (R504 to R522, R527). -/
namespace Sys2Proof.Machine

/-- The state with the Saucer changed. -/
def State.modSc (s : State) (f : Saucer → Saucer) : State := { s with sc := f s.sc }

/-! ### Messages -/

/-- SRC of a fault word (R504). -/
def fwSrc (w : W64) : Nat := bits w 56 8
/-- KIND of a fault word. -/
def fwKind (w : W64) : Nat := bits w 44 8
/-- CLASS of a fault word. -/
def fwCls (w : W64) : Nat := bits w 41 3
/-- SRC, SUB and KIND of a fault word, which merged messages share (R511). -/
def fwWho (w : W64) : Nat := bits w 44 20
/-- A fault word of a FAULT_LOSS, from an NI or from the Saucer's queue (R508, R512). -/
def fwIsLoss (w : W64) : Bool := fwKind w == FaultKind.FAULT_LOSS.code

/-- Lost counts of one SRC with none lost. -/
def ScLost.zero : ScLost := { c2 := 0, c1 := 0, c0 := 0 }

/-- Lost counts of a SRC (R511). -/
def Saucer.lostOf (c : Saucer) (src : Nat) : ScLost := KMap.get (fun _ => ScLost.zero) c.lost src

/-- The state with the lost counts of a SRC changed. -/
def State.modLost (s : State) (src : Nat) (f : ScLost → ScLost) : State :=
  s.modSc (fun c => { c with lost := KMap.set (fun _ => ScLost.zero) c.lost src (f (c.lostOf src)) })

/-- A message is folded into the lost count of its SRC and class (R511). -/
def State.scFold (s : State) (w : W64) : State :=
  let c := fwCls w
  let s1 := s.modLost (fwSrc w) (fun l =>
    if c = 2 then { l with c2 := l.c2 + 1 } else if c = 1 then { l with c1 := l.c1 + 1 } else { l with c0 := l.c0 + 1 })
  s1.bump Off.SC_LOSS (if c = 2 then Fld.SC_LOSS.C2 else if c = 1 then Fld.SC_LOSS.C1 else Fld.SC_LOSS.C0)

/-- A queued message is displaced: it is folded, or the counts of a FAULT_LOSS are added back to those of its SRC (R511). -/
def State.scDisplaced (s : State) (w : W64) : State :=
  if fwIsLoss w then
    s.modLost (fwSrc w) (fun l => { c2 := l.c2 + bits w 26 13, c1 := l.c1 + bits w 13 13, c0 := l.c0 + bits w 0 13 })
  else s.scFold w

/-! ### The host fault ring -/

/-- Identifiers of the Saucer's requests at NI 249: ring writes, the FNC ahead of an interrupt, and the interrupt. -/
def ScId.write : Nat := 0x50000
def ScId.fnc : Nat := 0x51000
def ScId.irq : Nat := 0x52000

/-- The Saucer presents a request with SC_CTRL.AGENT, PRIV 1 and ORIGIN 1 (R520). -/
def State.scSend (s : State) (vn opcode line ident : Nat) (data : List Body) (pl : Line) : State :=
  s.presentReq 249
    { vn := vn, opcode := opcode, agent := s.fld Off.SC_CTRL Fld.SC_CTRL.AGENT, priv := true, origin := true, line := line, data := data, pl := pl
      machine := none, ident := ident } ReadErr.clean

/-- Entries of the host fault ring: 2^LOG2, a LOG2 outside 4 to 12 acting as 4 (R519). -/
def State.scRingSize (s : State) : Nat :=
  let l := s.fld Off.SC_HRING_CFG Fld.SC_HRING_CFG.LOG2
  2 ^ (if 4 ≤ l ∧ l ≤ 12 then l else 4)

/-- An interrupt that is due is sent unless one is under way or 1,024 ft have not passed: FNC goes first (R520). -/
def State.scIrqTry (s : State) : State :=
  let c := s.sc
  if c.irqDue && !c.irqFnc && decide (c.irqAt ≤ s.niTime 249) then
    (s.modSc (fun c => { c with irqDue := false, irqFnc := true })).scSend Vn.REQ 8 0 ScId.fnc [] 0
  else s

/-- A record is written at HEAD of the host fault ring, and HEAD advances (R519, R520). -/
def State.scRing (s : State) (ws : List W64) : State :=
  let c := s.sc
  let line := (s.fld Off.SC_HRING_BASE Fld.SC_HRING_BASE.ADDR + 64 * c.head) / 64
  let s1 := s.scSend Vn.REQ 5 line ScId.write [⟨false, allBytes, lineOfWords ws⟩] (lineOfWords [0, allBytes])
  let wrap := c.head + 1 == s.scRingSize
  let s2 := s1.modSc (fun c => { c with
    head := if wrap then 0 else c.head + 1
    phase := c.phase != wrap
    irqDue := c.irqDue || s.flag Off.SC_CTRL Fld.SC_CTRL.IRQ_EN })
  s2.scIrqTry

/-! ### Steps of R510 -/

/-- The record of a fault goes to the Caddy: at once while it records; by C4 it is the one record that a freeze under way still takes (R510, R531, R536). -/
def State.scRecordCd (s : State) (r : CdRec) (fatal : Bool) : State :=
  if fatal && s.cdC4 && (s.cd.port 1).buf.isEmpty then s.modCd (fun c => c.setPort 1 { c.port 1 with buf := [r] })
  else if s.cd.frozen || s.cd.freezing then s.bump Off.CD_LOSS Fld.CD_LOSS.FROZEN_DROPS
  else
    let k := s.cd.wptr
    ((s.cdGrant 1).cdStore k r).modCd (fun c => c.setPort 1 CdPort.idle)

/-- The lowest free place of a range of the open entries (R515). -/
def Saucer.freePlace (c : Saucer) (lo n : Nat) : Option Nat := ((List.range n).map (· + lo)).find? (fun p => (c.openAt p).isNone)

/-- The open C1 entry with the lowest SEQ (R515). -/
def Saucer.oldestC1 (c : Saucer) : Option ScOpen :=
  c.opens.foldl (fun a o => if o.cls = 1 then
    (match a with
      | none => some o
      | some b => if o.seq < b.seq then some o else some b) else a) none

/-- Where an entry of a class is opened, or none where it is acknowledged at once; an entry of C4 or of an escalated fault may take the place
of the oldest C1 entry, or a reserved place (R515). -/
def Saucer.placeFor (c : Saucer) (cls : Nat) (esc : Bool) : Option Nat :=
  match c.freePlace 0 256 with
  | some p => some p
  | none =>
    if cls = 4 ∨ esc = true then
      match c.oldestC1 with
      | some o => some o.place
      | none => c.freePlace 256 8
    else none

/-- An entry is opened at a place, in the room of what lay there. -/
def Saucer.openIn (c : Saucer) (o : ScOpen) : Saucer := { c with opens := c.opens.filter (fun x => x.place != o.place) ++ [o] }

/-- Step 4: an acknowledgement entry is opened where the class requires one; while C1_AUTO is 1 a C1 entry is closed as soon as its record is
written (R509, R514, R515). -/
def State.scOpen (s : State) (cls src kind seq : Nat) (esc : Bool) : State :=
  if cls = 0 then s
  else
    match s.sc.placeFor cls esc with
    | none => s.bump Off.SC_STATUS Fld.SC_STATUS.OPEN_FULL
    | some p => if cls = 1 ∧ s.flag Off.SC_CTRL Fld.SC_CTRL.C1_AUTO = true then s else s.modSc (fun c => c.openIn ⟨p, cls, src, kind, seq⟩)

/-- The class at which a fault of class c from a SRC is recorded, and whether it is escalated: by an open entry of its class and SRC (R513), or because
all 256 entries are in use (R515). -/
def Saucer.classOf (c : Saucer) (cls src : Nat) : Nat × Bool :=
  if 1 ≤ cls ∧ cls ≤ 3 ∧ c.opens.any (fun o => o.cls == cls && o.src == src) = true then (cls + 1, true)
  else if (cls = 2 ∨ cls = 3) ∧ (c.freePlace 0 256).isNone = true then (cls + 1, true)
  else (cls, false)

/-- A C3 fault closes the Lid of the band of its SRC's tile while C3_LID is 1 (R516). -/
def State.scLid (s : State) (src : Nat) : State :=
  if s.flag Off.SC_CTRL Fld.SC_CTRL.C3_LID then
    s.setFld Off.GL_LID_CTRL Fld.GL_LID_CTRL.SAUCER (s.fld Off.GL_LID_CTRL Fld.GL_LID_CTRL.SAUCER ||| 2 ^ niBand src)
  else s

/-- SEQ after a SEQ: 0xFFFF_FFFF is followed by 1 (R510). -/
def seqNext (q : Nat) : Nat := if q = 0xFFFFFFFF then 1 else q + 1

/-- The Caddy record of a fault: FAULT, or LOSS for a FAULT_LOSS (R533, R534). -/
def State.scCdRec (s : State) (w hw1 : W64) (w3 : Nat) (seq : Nat) : CdRec :=
  if fwIsLoss w then
    s.cdRec Cd.LOSS (fwSrc w * 2 ^ 50 + bits w 52 4 * 2 ^ 46) (BitVec.ofNat 64 (bits w 0 39 * 2 ^ 25)) (BitVec.ofNat 64 seq)
  else s.cdRec Cd.FAULT (if bit w 40 then bits hw1 6 58 else 0) w (BitVec.ofNat 64 w3)

/-- The five steps of R510 for one message. -/
def State.scRecord (s : State) (m : ScMsg) : State :=
  let orig := fwCls m.w
  let src := fwSrc m.w
  let seq := s.sc.seq
  let (cls, esc) := s.sc.classOf orig src
  let w := setBits m.w 41 3 cls
  let s1 := s.modSc (fun c => { c with seq := seqNext seq })
  let s2 := if cls = 4 then s1.fatalEffects else if cls = 3 then s1.scLid src else s1
  let w3 := seq * 2 ^ 32 + orig * 2 ^ 29 + b2n esc * 2 ^ 28 + min 255 m.rep * 2 ^ 20
  let s3 := (s2.scRecordCd (s2.scCdRec w m.hw1 w3 seq) (cls == 4)).wr (Off.SC_LAST cls) w
  let s4 := s3.scOpen cls src (fwKind w) seq esc
  if s4.flag Off.SC_CTRL Fld.SC_CTRL.HRING_EN && !s4.sc.stopped && decide (s4.fld Off.SC_CTRL Fld.SC_CTRL.NOTIFY_CLASS ≤ cls) then
    s4.scRing [w, BitVec.ofNat 64 (w3 + b2n s4.sc.phase), BitVec.ofNat 64 m.time, if bit w 40 then setBits m.hw1 0 6 0 else 0]
  else s4

/-! ### Arrival -/

/-- A message enters the queue, is folded, displaces another or is merged; a C4 fault takes effect and is recorded at once, and a C3 that finds
no room is recorded at once and followed by SC_FLOOD (R510, R511, R517). -/
def State.scArrive (s : State) (w hw1 : W64) (rep : Nat) : State :=
  let m : ScMsg := { w := w, hw1 := hw1, rep := rep, time := s.niTime 249, own := false }
  let q := s.sc.queue
  let push := fun (s : State) (l : List ScMsg) => s.modSc (fun c => { c with queue := l ++ [m] })
  if fwCls w = 4 then s.fatalEffects.scRecord m
  else if fwCls w ≤ 2 then (if q.length < 120 then push s q else s.scFold w)
  else if q.length < 128 then push s q
  else
    match (List.range q.length).reverse.find? (fun k => decide (((q[k]?.map (fun e => fwCls e.w)).getD 3) ≤ 2)) with
    | some k => push (s.scDisplaced ((q[k]?.map ScMsg.w).getD 0)) (q.eraseIdx k)
    | none =>
      if q.any (fun e => fwWho e.w == fwWho w) then
        (s.modSc (fun c => { c with queue := (match q.findIdx? (fun e => fwWho e.w == fwWho w) with
          | some k => q.modify k (fun e => { e with rep := e.rep + 1 })
          | none => q) })).bump Off.SC_LOSS Fld.SC_LOSS.MERGED
      else
        let flood : ScMsg := { m with w := (mkFault 249 5 .SC_FLOOD 4 0).word, hw1 := 0, rep := 0 }
        (s.scRecord m).fatalEffects.scRecord flood

/-- A FAULT packet's message; one whose KIND or CLASS is reserved becomes MSG_RESERVED from its SRC with bits [63:25] of its own fault word (R504, R506). -/
def faultOf (p : Pkt) : W64 × W64 × Nat :=
  let w := p.word 0
  if kindListed (fwKind w) && decide (fwCls w ≤ 4) then (w, p.h.word1, bits (p.word 1) 0 8)
  else ((mkFault p.h.src.toNat 0 .MSG_RESERVED FaultKind.MSG_RESERVED.cls (bits w 25 39)).word, 0, bits (p.word 1) 0 8)

/-- Every NI's route selection group follows a fault or a report that the Saucer receives: a failed island or seam controller domain; a seam link that
retrains, runs at half width or is LOST, and its return at full width; a port engine that goes down or comes up (R164, R389, R499). -/
def State.pathNews (s : State) (w : W64) : State :=
  let all := List.range 256
  let k := fwKind w
  let d := bits w 8 31
  let lk := bits w 0 8
  let pea := BitVec.ofNat 64 (2 ^ (fwSrc w - 168))
  let isPea := decide (168 ≤ fwSrc w ∧ fwSrc w < 232)
  if k = FaultKind.KT_DOMAIN_FAIL.code then
    if d < 48 then s.commitLoss all (· ||| BitVec.ofNat 64 (2 ^ d)) id
    else if d = 69 ∨ d = 70 then s.commitLoss all (· ||| seamLoss) id
    else s
  else if ([FaultKind.LINK_RETRAIN, .LINK_RESUMED, .LINK_WIDTH, .LINK_LOST].map FaultKind.code).contains k && decide (lk < 12) then
    let link := BitVec.ofNat 64 (2 ^ (48 + lk))
    if k = FaultKind.LINK_RETRAIN.code ∨ k = FaultKind.LINK_LOST.code ∨ s.seamFull lk = false then s.commitLoss all (· ||| link) id
    else s.commitLoss all (· &&& ~~~link) id
  else if k = FaultKind.PORT_DOWN.code ∧ isPea = true then s.commitLoss all id (· ||| pea)
  else if k = FaultKind.PORT_UP.code ∧ isPea = true then s.commitLoss all id (· &&& ~~~pea)
  else s

/-- FAULT_ARRIVE: the oldest FAULT packet that NI 249 has received enters the Saucer, and firmware commits what it says of routes and writes a
ledger record again that has failed (R164, R270, R504, R510, R511, R517). -/
def execFaultArrive (s : State) : Outcome :=
  if !s.domOn 65 then .next s
  else
    match s.takeIn 249 Vn.MGT (fun p => p.h.opcode.toNat == 1) with
    | none => .next s
    | some (p, _, s1) => let (w, hw1, rep) := faultOf p; .next (((s1.scArrive w hw1 rep).pathNews w).ledgerNews w)

/-- When the queue becomes empty, each SRC with a lost count adds a FAULT_LOSS entry, and its counts are cleared (R512). -/
def State.scLossEntries (s : State) : State :=
  if s.sc.queue.isEmpty then
    s.modSc (fun c => { c with
      queue := c.lost.map (fun e =>
        { w := (mkFault e.1 15 .FAULT_LOSS 1 (min 8191 e.2.c2 * 2 ^ 26 + min 8191 e.2.c1 * 2 ^ 13 + min 8191 e.2.c0)).word, hw1 := 0, rep := 0
          time := s.niTime 249, own := true })
      lost := [] })
  else s

/-- SAUCER_PROCESS_ENTRY: the entry at the queue's head goes through the steps of R510. -/
def execSaucerProcessEntry (s : State) : Outcome :=
  if !s.domOn 65 then .next s
  else
    match s.sc.queue with
    | [] => .next s
    | m :: rest => .next ((s.modSc (fun c => { c with queue := rest })).scRecord m).scLossEntries

/-! ### Acknowledgement and Lids -/

/-- The Lid of a band that no open C3 entry holds any longer is released (R514, R516, R517). -/
def State.scRelease (s : State) (band : Nat) : State :=
  if s.pins.fatal || s.sc.opens.any (fun o => o.cls == 3 && niBand o.src == band) then s
  else s.setFld Off.GL_LID_CTRL Fld.GL_LID_CTRL.SAUCER (s.fld Off.GL_LID_CTRL Fld.GL_LID_CTRL.SAUCER &&& (15 - 2 ^ band))

/-- FAULT_ACK: the open entry of a class with a SEQ is closed; BAD_ARG where there is none. RSP0 counts the entries of the class that stay open
(R465, R470, R514). -/
def execFaultAck (c : Fin 24) (s : State) : Outcome :=
  .next (s.runCmd c 0x40 (fun x =>
    let w := x.word 1
    match s.sc.opens.find? (fun o => o.cls == bits w 0 3 && o.seq == bits w 16 32) with
    | none => s.potDone c Code.BAD_ARG []
    | some o =>
      let s1 := s.modSc (fun c => { c with opens := c.opens.filter (fun y => y.place != o.place) })
      let s2 := if o.cls = 3 then s1.scRelease (niBand o.src) else s1
      s2.potDone c Code.OK [BitVec.ofNat 64 (s2.sc.opens.filter (fun y => y.cls == o.cls)).length]))

/-- SC_C3_LID_WRITE: C3_LID is written; at 0 every Lid held under R516 is released, and those held for C4 stay closed (R521). -/
def execScC3LidWrite (on : Bool) (s : State) : Outcome :=
  let s1 := s.setFld Off.SC_CTRL Fld.SC_CTRL.C3_LID (b2n on)
  .next (if on || s.pins.fatal then s1 else s1.setFld Off.GL_LID_CTRL Fld.GL_LID_CTRL.SAUCER 0)

/-! ### The ring's responses -/

/-- SC_HRING_RESPONSE: the response of a ring write or of the FNC ahead of an interrupt is taken: an error of a write stops the ring and is
reported, and the FNC's completion lets the interrupt go (R520). -/
def execScHringResponse (fnc : Bool) (s : State) : Outcome :=
  if !s.domOn 65 then .next s
  else
    match s.takeComp 249 (if fnc then ScId.fnc else ScId.write) with
    | none => .next s
    | some (c, s1) =>
      if fnc then
        let a := s.fld Off.SC_IRQ_ADDR Fld.SC_IRQ_ADDR.ADDR * 4
        .next ((s1.modSc (fun c => { c with irqFnc := false, irqAt := s.niTime 249 + 1024 })).scSend Vn.IOP 1 (a / 64) ScId.irq
          [writeBody a 4 (s.rd Off.SC_IRQ_DATA)] 0)
      else if c.resp = Resp.OK then .next s1
      else if s.sc.stopped then .next s1
      else .next ((s1.modSc (fun c => { c with stopped := true })).reportUp 249 5 .SC_HRING_ERR 0)

/-- SC_IRQ_INTERVAL_END: 1,024 ft have passed since the last interrupt, and one covers what has been written since (R520). -/
def execScIrqIntervalEnd (s : State) : Outcome := .next (if s.domOn 65 then s.scIrqTry else s)

/-- SC_HRING_ENABLE_WRITE: HRING_EN is written; from 0 to 1 it restarts the ring at HEAD 0 and PHASE 1 (R520). -/
def execScHringEnableWrite (on : Bool) (s : State) : Outcome :=
  let was := s.flag Off.SC_CTRL Fld.SC_CTRL.HRING_EN
  let s1 := s.setFld Off.SC_CTRL Fld.SC_CTRL.HRING_EN (b2n on)
  .next (if on && !was then s1.modSc (fun c => { c with head := 0, phase := true, stopped := false }) else s1)

/-! ### Fault injection -/

/-- The armed injection, where its point is one of two and TEST_MODE is 1 (R527). -/
def State.armed (s : State) (a b : Nat) : Option ScInj :=
  if s.pins.testMode && s.domOn 65 then s.sc.inj.filter (fun j => j.point == a || j.point == b) else none

/-- One injection of those armed has been made (R527). -/
def State.injected (s : State) (j : ScInj) : State :=
  s.modSc (fun c => { c with
    inj := if j.left ≤ 1 then none else some { j with left := j.left - 1 }
    injDone := if 1 ≤ j.point ∧ j.point ≤ 4 then KMap.set (fun _ => 0) c.injDone j.target ((KMap.get (fun _ => 0) c.injDone j.target + 1) % 2 ^ 16) else c.injDone })

/-- SC_INJ_CTRL.ARM: COUNT injections are armed at the point named; a reserved POINT, or a LANE above 0xA or PORT 6 of a lane point, arms none (R527). -/
def State.armInjection (s : State) : State :=
  let w := s.rd Off.SC_INJ_CTRL
  let p := bits w 60 4
  let lane := bits w 48 4
  let port := bits w 45 3
  if !s.pins.testMode || decide (5 < p) || (decide (p = 1 ∨ p = 2) && decide (10 < lane ∨ port = 6)) then s
  else s.modSc (fun c => { c with inj := some ⟨p, bits w 52 8, lane, port, bits w 44 1, max 1 (bits w 36 8)⟩ })

/-- INJECT_FAULT: the Saucer takes SC_INJ_FAULT as a FAULT packet from its SRC, with INJ 1 (R527). -/
def execInjectFault (s : State) : Outcome :=
  match s.armed 0 0 with
  | none => .next s
  | some j =>
    let w := setBits (s.rd Off.SC_INJ_FAULT) 39 1 1
    let p := Pkt.one { Hdr.zero with src := BitVec.ofNat 8 (fwSrc w) } (lineOfWords [w])
    let (v, hw1, rep) := faultOf p
    .next ((s.injected j).scArrive (setBits v 39 1 1) hw1 rep)

/-- INJECT_LANE: the next flit sent by the named router output or injection stage carries one or two flipped bits in a lane (R527). -/
def execInjectLane (s : State) : Outcome :=
  match s.armed 1 2 with
  | none => .next s
  | some j =>
    let t := niTile j.target
    if j.port ≠ 7 ∧ portEdge t j.port = true then .next s
    else
      let key := if j.port = 7 then injKey j.target else outKey t j.port
      .next ((s.injected j).addFlip key (s.wireAt key).length j.lane j.point)

/-- INJECT_BUF: one or two bits of the next byte written into an NI's transmit buffer are flipped; the line that leaves it next is the one that
holds it (R527). -/
def execInjectBuf (s : State) : Outcome :=
  match s.armed 3 4 with
  | none => .next s
  | some j => .next ((s.injected j).addFlip (bufFlipKey j.target) 0 0 (j.point - 2))

/-- INJECT_FLU_CRC: the next NEW flow unit of a link half goes with its CRC inverted (R527). -/
def execInjectFluCrc (s : State) : Outcome :=
  match s.armed 5 5 with
  | none => .next s
  | some j =>
    if !lkEnd j.target j.half then .next s
    else .next ((s.injected j).addFlip (fluFlipKey j.target j.half) 0 0 1)

end Sys2Proof.Machine
end

