-- ==== Sys2Proof/Machine/Access.lean ====
section
/-! DEFINITION. Accesses to the registers of the configuration window, the BL store's registers, and the debug view (R8 to R14, R159, R467, R572,
R596 to R601). -/
namespace Sys2Proof.Machine

/-! ### What a written field does -/

/-- The state that a command which always completes leaves. -/
def doneState (o : Outcome) (s : State) : State :=
  match o with
  | .next t => t
  | _ => s

/-- A field whose write acts: the action gets the value written to the field. -/
structure FieldAct where
  fld : Fld
  act : State → Nat → State

/-- A field that acts when 1 is written to it, as a command does. -/
def onSet (f : Fld) (c : State → Outcome) : FieldAct := ⟨f, fun s v => if v = 1 then doneState (c s) s else s⟩

/-- A field whose write is a command of its own. -/
def onWrite (f : Fld) (c : Nat → State → Outcome) : FieldAct := ⟨f, fun s v => doneState (c v s) s⟩

/-- Registers of the global, Pot and Kettle blocks, fabric time, the Strainer, the Saucer and the bridge whose fields act when written. -/
def blockActs (o : Nat) : List FieldAct :=
  if o = Off.GL_BOOT then [onSet Fld.GL_BOOT.READY execBootReadyWrite]
  else if o = Off.GL_JOIN then [onSet Fld.GL_JOIN.GO execJoinGoWrite]
  else if o = Off.GL_LID_CTRL then [⟨Fld.GL_LID_CTRL.POT_CLOSE, fun s v => s.setPotClose v⟩]
  else if o = Off.FT_CTRL then [onSet Fld.FT_CTRL.START execFtStartWrite, onSet Fld.FT_CTRL.SWITCH_REQ execFtSwitchReqWrite]
  else if o = Off.ST_CTRL then
    [⟨Fld.ST_CTRL.MODE, fun s v => if s.locked then s else s.writeMode v⟩,
     ⟨Fld.ST_CTRL.COMMIT, fun s v => if v = 1 ∧ s.locked = false then s.startCommit else s⟩,
     ⟨Fld.ST_CTRL.LOCK, fun s v => if v = 1 then s.setLock else s⟩]
  else if o = Off.SC_CTRL then
    [onWrite Fld.SC_CTRL.C3_LID (fun v => execScC3LidWrite (v == 1)), onWrite Fld.SC_CTRL.HRING_EN (fun v => execScHringEnableWrite (v == 1))]
  else if o = Off.SC_INJ_CTRL then [⟨Fld.SC_INJ_CTRL.ARM, fun s v => if v = 1 then s.armInjection else s⟩]
  else if o = Off.SB_CTRL then
    [onSet Fld.SB_CTRL.TELEM_COMMIT execSbTelemCommit, onSet Fld.SB_CTRL.IN_COMMIT execSbInCommit, onSet Fld.SB_CTRL.OUT_COMMIT execSbOutCommit]
  else if o = Off.PT_TRACE_CTRL then [onWrite Fld.PT_TRACE_CTRL.EN (fun v => execTraceEnWrite (v == 1))]
  else if 0x101000 ≤ o ∧ o < 0x101240 then [⟨Fld.KT_DOM.REST, fun s v => s.writeRest ((o - 0x101000) / 8) (DomSt.ofCode v)⟩]
  else []

/-- Registers of a router, an NI, a home slice or a link controller whose fields act when written. -/
def unitActs (o : Nat) : List FieldAct :=
  if 0xC00000 ≤ o ∧ o < 0xE00000 then
    let n := (o - 0xC00000) / 0x2000
    if h : n < 256 then
      let f : Fin 256 := ⟨n, h⟩
      if o = Off.NI_CTRL n then
        [⟨Fld.NI_CTRL.FENCE_SW, fun s v => s.fenceSw n (v == 1)⟩, onSet Fld.NI_CTRL.LOSS_COMMIT (execNiLossCommit f),
         onSet Fld.NI_CTRL.TAG_COMMIT (execNiTagCommit f)]
      else if o = Off.NI_QOS_CTRL n then
        [⟨Fld.NI_QOS_CTRL.SHAPER_COMMIT, fun s v => if v = 1 then s.commitShapers n else s⟩,
         ⟨Fld.NI_QOS_CTRL.METER_COMMIT, fun s v => if v = 1 ∧ niHasMeter n = true then s.commitMeters n else s⟩]
      else if o = Off.NI_LEAF_CFG n then [⟨Fld.NI_LEAF_CFG.COMMIT, fun s v => if v = 1 then s.commitLeaf n else s⟩]
      else []
    else []
  else if 0x800000 ≤ o ∧ o < 0xB00000 then
    let t := (o - 0x800000) / 0x4000
    if h : t < 192 then
      if o = Off.RT_CTRL t then [onWrite Fld.RT_CTRL.FORCE_UNREACH (fun v => execRtForceUnreachWrite ⟨t, h⟩ (BitVec.ofNat 6 v))] else []
    else []
  else if 0xE00000 ≤ o ∧ o < 0xF00000 then
    let i := (o - 0xE00000) / 0x10000
    if h : i < 16 then
      if o = Off.HS_CTRL i then [onSet Fld.HS_CTRL.ARB_COMMIT (execHsArbCommit ⟨i, h⟩)] else []
    else []
  else if 0x2000000 ≤ o ∧ o < 0x20E0000 then
    let k := (o - 0x2000000) / 0x8000
    let e := (o - 0x2000000) % 0x8000 / 0x4000
    if h : k < 28 ∧ e < 2 then
      if o = Off.LK_CTRL k e then
        [⟨Fld.LK_CTRL.ENABLE, fun s v =>
            if v = s.fld (Off.LK_CTRL k e) Fld.LK_CTRL.ENABLE then s else doneState (execLkEnableWrite ⟨k, h.1⟩ ⟨e, h.2⟩ (v == 1) s) s⟩,
         ⟨Fld.LK_CTRL.RETRAIN, fun s v => if v = 1 then s.lkRetrain k e else s⟩]
      else []
    else []
  else
    let page := fun (c : CopyUnit) (f : Fld) => [(⟨f, fun s v => doneState (execPmFltCommit c (BitVec.ofNat 4 v) s) s⟩ : FieldAct)]
    if 0x1000000 ≤ o ∧ o < 0x10C0000 then
      let t := (o - 0x1000000) / 0x1000
      if h : t < 192 then (if o = Off.RT_PM_FLT_COMMIT t then page (.router ⟨t, h⟩) Fld.RT_PM_FLT_COMMIT.COMMIT else []) else []
    else if 0x1400000 ≤ o ∧ o < 0x1500000 then
      let n := (o - 0x1400000) / 0x1000
      if h : n < 256 then (if o = Off.NI_PM_FLT_COMMIT n then page (.ni ⟨n, h⟩) Fld.NI_PM_FLT_COMMIT.COMMIT else []) else []
    else if 0x1800000 ≤ o ∧ o < 0x1840000 then
      let i := (o - 0x1800000) / 0x4000
      if h : i < 16 then (if o = Off.HS_PM_FLT_COMMIT i then page (.slice ⟨i, h⟩) Fld.HS_PM_FLT_COMMIT.COMMIT else []) else []
    else []

/-- The fields of a register that act when written, in the order in which they act. -/
def fieldActs (o : Nat) : List FieldAct := if o < 0x800000 then blockActs o else unitActs o

/-- Bits of a field. -/
def Fld.mask (f : Fld) : W64 := BitVec.ofNat 64 ((2 ^ f.w - 1) * 2 ^ f.lo)

/-! ### Registers written as a whole -/

/-- GL_BLS_DATA is written: an entry joins the BL store, or is refused with GL_BLS_SEL.ERR (R572). -/
def State.blsWrite (s : State) (v : W64) : State :=
  let o := s.fld Off.GL_BLS_SEL Fld.GL_BLS_SEL.OFFSET * 8
  let held := KMap.get (fun _ => none) s.pot.bls o
  if s.locked then (if v = held.getD 0 then s else s.lockedWrite Off.GL_BLS_DATA)
  else if (rowAt o).isNone || (offDomain o).isNone || (held.isNone && decide (512 ≤ s.pot.bls.length)) then s.setFld Off.GL_BLS_SEL Fld.GL_BLS_SEL.ERR 1
  else s.modPot (fun p => { p with bls := KMap.set (fun _ => none) p.bls o (some v) })

/-- A value with the bits that an access reaches replaced (R8). -/
def merged (old v reach : W64) : W64 := (old &&& ~~~reach) ||| (v &&& reach)

/-- A histogram selection is written (R304). -/
def histWrite (v : W64) (w : Nat) (select clear clearAll : State → Nat → State) (s : State) : State :=
  let q := bits v 0 w
  if bit v 9 then clearAll s q else if bit v 8 then clear s q else select s q

/-- Whether a diagnostic access meets a buffer line in use, which the spec leaves to the NI: a free value (R526). -/
def State.lineUsed (s : State) : Bool × State :=
  let (v, s1) := s.fresh
  (v.getLsbD 0, s1)

/-- Registers of which any write acts on the whole; none for the others (R304, R491, R526, R572, NI_METER_SEL). -/
def State.wholeWrite (s : State) (o : Nat) (v reach : W64) : Option State :=
  if o = Off.GL_BLS_DATA then some (s.blsWrite (merged (s.regValue o) v reach))
  else if o = Off.KT_GT_MASK_0 then some (s.writeGtMask 0 (merged (s.rd o) v reach))
  else if o = Off.KT_GT_MASK_1 then some (s.writeGtMask 1 (merged (s.rd o) v reach))
  else if 0x800000 ≤ o ∧ o < 0xB00000 then
    let t := (o - 0x800000) / 0x4000
    if o = Off.RT_HIST_SEL t ∧ reach.getLsbD 0 = true then
      some (histWrite v 6 (fun s q => s.selectRt t q)
        (fun s q => (s.selectRt t q).modRt t (fun r => { r with hist := KMap.set (fun _ => Hist.zero) r.hist q Hist.zero }))
        (fun s q => (s.selectRt t q).modRt t (fun r => { r with hist := [] })) s)
    else none
  else if 0xE00000 ≤ o ∧ o < 0xF00000 then
    let i := (o - 0xE00000) / 0x10000
    if h : i < 16 then
      if o = Off.HS_DIAG_SEL i ∧ reach.getLsbD 0 = true ∧ v.getLsbD 0 = true then some (doneState (execHsDiagGo ⟨i, h⟩ (merged (s.rd o) v reach) s) s)
      else if o = Off.HS_DIAG_DATA i then some (doneState (execHsDiagDataWrite ⟨i, h⟩ (merged (s.rd o) v reach) s) s)
      else none
    else none
  else if 0xC00000 ≤ o ∧ o < 0xE00000 then
    let n := (o - 0xC00000) / 0x2000
    if h : n < 256 then
      let f : Fin 256 := ⟨n, h⟩
      let m := s.fld (Off.NI_METER_SEL n) Fld.NI_METER_SEL.METER
      let x := (s.niAt n).meter m
      if o = Off.NI_METER_RATE n then some (s.modNi n (fun u => u.setMeter m { x with pRate := merged x.pRate v (reach &&& Row.NI_METER_RATE.mask (· == .st)) }))
      else if o = Off.NI_METER_BURST n then
        some (s.modNi n (fun u => u.setMeter m { x with pBurst := merged x.pBurst v (reach &&& Row.NI_METER_BURST.mask (· == .st)) }))
      else if o = Off.NI_HIST_SEL n ∧ reach.getLsbD 0 = true then
        some (histWrite v 4 (fun s q => s.selectNi n q)
          (fun s q => (s.selectNi n q).modNi n (fun u => { u with hist := KMap.set (fun _ => Hist.zero) u.hist q Hist.zero }))
          (fun s q => (s.selectNi n q).modNi n (fun u => { u with hist := [] })) s)
      else if o = Off.NI_DIAG_SEL n ∧ reach.getLsbD 0 = true ∧ v.getLsbD 0 = true then
        let (used, s1) := s.lineUsed
        some (doneState (execNiDiagGo f (merged (setBits (s.rd o) 62 1 0) v reach) used s1) s1)
      else if o = Off.NI_DIAG_DATA n then
        let (used, s1) := s.lineUsed
        some (doneState (execNiDiagDataWrite f (merged (s.rd o) v reach) used s1) s1)
      else none
    else none
  else none

/-! ### Writes -/

/-- Bits of a register that only boot code writes: BL fields, the fields of the Strainer's pending table, and ST_CTRL.COMMIT (R11, R441). -/
def bootBits (o : Nat) (r : RegRow) : W64 :=
  let bl := r.mask (· == .bl)
  if 0x200020 ≤ o ∧ o < 0x220000 then bl ||| r.mask (· == .st) else if o = Off.ST_CTRL then bl ||| Fld.ST_CTRL.COMMIT.mask else bl

/-- Bits of a register that a write does not change though their code lets it: END_ID of a seam half, and FT_EPOCH_SET once time runs. -/
def State.fixedBits (s : State) (o : Nat) : W64 :=
  if 0x2000000 ≤ o ∧ o < 0x20E0000 ∧ (o - 0x2000000) % 0x4000 = 8 ∧ lkSeam ((o - 0x2000000) / 0x8000) = true then Fld.LK_CFG.END_ID.mask
  else if o = Off.FT_EPOCH_SET ∧ s.time.running = true then BitVec.allOnes 64
  else 0

/-- A write over status fields that firmware keeps is remembered (R11). -/
def State.overWrite (s : State) (o : Nat) (v reach : W64) : State :=
  let l := s.ptKept o
  if l.isEmpty then s
  else
    let m := lay 0 (l.map (fun e => (e.1, e.2.1, 2 ^ e.2.1 - 1)))
    s.modPot (fun p => { p with overlay := KMap.set (fun _ => none) p.overlay o (some (merged (s.ptReg o 0) v reach &&& m, lay 0 l)) })

/-- The access codes of R11 applied to the bits that a write reaches; the fields that act then act on what was written to them. -/
def State.plainWrite (s : State) (o : Nat) (r : RegRow) (v reach : W64) : State :=
  let acts := fieldActs o
  let actMask := acts.foldl (fun a x => a ||| x.fld.mask) 0
  let boot := bootBits o r
  let free := if s.locked then ~~~boot else BitVec.allOnes 64
  let m := reach &&& free &&& ~~~(s.fixedBits o)
  let set := r.mask (fun a => a == .rw || a == .bl) &&& m &&& ~~~actMask
  let clr := r.mask (· == .w1c) &&& m
  let one := r.mask (· == .w1s) &&& m &&& ~~~actMask
  let old := s.rd o
  let s1 := s.wr o ((merged old v set &&& ~~~(v &&& clr)) ||| (v &&& one))
  let st := r.mask (· == .st) &&& m
  let s2 := (if st = 0 then s1 else s1.setPend o (merged (s1.pendOf o) v st)).overWrite o v m
  (acts.filter (fun x => x.fld.mask &&& m != 0)).foldl (fun s x => x.act s (bits (merged old v m) x.fld.lo x.fld.w)) s2

/-- The values that the Pot records of a register it has written, of its fields that are neither BL nor status, the pending ones included; a meter's
lie under keys of their own (R497). -/
def State.noteWrite (s : State) (o : Nat) (r : RegRow) : State :=
  let rw := r.mask (· == .rw)
  let st := r.mask (· == .st)
  if (offDomain o).isNone || rw ||| st == 0 then s
  else
    let n := (o - 0xC00000) / 0x2000
    let m := s.fld (Off.NI_METER_SEL n) Fld.NI_METER_SEL.METER
    if r.name = Row.NI_METER_RATE.name then s.fwNote [(meterKey n m 0, ((s.niAt n).meter m).pRate)]
    else if r.name = Row.NI_METER_BURST.name then s.fwNote [(meterKey n m 1, ((s.niAt n).meter m).pBurst)]
    else s.fwNote [(o, (s.rd o &&& rw) ||| (s.pendOf o &&& st))]

/-- A write of the bits that `reach` names of the register at an aligned offset, by the Pot (R8, R9, R11). A write to boot-only fields after lock has no
effect, and is reported where it would change one (R14, R441). -/
def State.writeReg (s : State) (o : Nat) (v reach : W64) : State :=
  match rowAt o with
  | none => s
  | some r =>
    if s.rowHidden r then s
    else
      match s.wholeWrite o v reach with
      | some t => t.noteWrite o r
      | none =>
        let differs := s.locked && ((v ^^^ s.readReg o) &&& reach &&& bootBits o r) != 0
        let s1 := s.plainWrite o r v reach
        (if differs then s1.lockedWrite o else s1).noteWrite o r

/-- The bits that an access of a size at an address reaches (R8). -/
def reachOf (a size : Nat) : W64 := if size = 8 then BitVec.allOnes 64 else if a % 8 = 0 then BitVec.ofNat 64 (2 ^ 32 - 1) else BitVec.ofNat 64 ((2 ^ 32 - 1) * 2 ^ 32)

/-- The unit that holds the register at an offset takes accesses: it is out of reset and its domain is ON (R467, R594). -/
def State.regLive (s : State) (o : Nat) : Bool :=
  !s.inReset && (match offDomain o with
    | some d => s.domOn d
    | none => true)

/-- REGISTER_WRITE: a write of 4 or 8 bytes by the Pot reaches the unit that holds the register at a 4-byte offset; an access of 8 bytes at an offset that is
not a multiple of 8 has no effect (R8, R9, R11). -/
def execRegisterWrite (a : BitVec 24) (wide : Bool) (value : W64) (s : State) : Outcome :=
  let o := 4 * a.toNat
  let size := if wide then 8 else 4
  if o % size ≠ 0 ∨ s.regLive o = false then .next s
  else .next (s.writeReg (o / 8 * 8) (if o % 8 = 0 then value else value <<< 32) (reachOf o size))

/-- GL_BLS_DATA_WRITE: a write of GL_BLS_DATA records an entry in the BL store, or is refused (R14, R572). -/
def execGlBlsDataWrite (value : W64) (s : State) : Outcome := if s.inReset then .next s else .next (s.blsWrite value)

/-! ### Reads -/

/-- A read of 4 or 8 bytes: the register's value in its place, and the state with the halves it latches. A read by the Pot clears HIGH_WATER; reads through
the debug view change no state but their own latch (R8, R10, R549, R598). -/
def State.regRead (s : State) (a size : Nat) (debug : Bool) : W64 × State :=
  let o := a / 8 * 8
  let v := s.readReg o
  let n := (o - 0xC00000) / 0x2000
  let s1 := if !debug && decide (0xC00000 ≤ o ∧ o < 0xE00000) && decide (o = Off.NI_TAG_STATUS n) && decide (a % 8 = 0) then
      s.modNi n (fun u => { u with highWater := 0 })
    else s
  if size = 8 || !hasLatch o then (v, s1)
  else if a % 8 = 0 then
    (v, if debug then { s1 with dbgLatch := KMap.set (fun _ => 0) s1.dbgLatch o v } else { s1 with latch := KMap.set (fun _ => 0) s1.latch o v })
  else (KMap.get (fun _ => 0) (if debug then s.dbgLatch else s.latch) o, s1)

/-- An access to the configuration window that has reached its owning NI: its shape is checked, a read is answered, and a write is made by the Pot alone
(R8, R9, R159, R467, R597). A register has no poison to take from a write's line: such a write has no effect, and is answered ERR_POISON (log entry 48)
(R132). -/
def State.serveRegister (s : State) (n : Nat) (p : Pkt) : State :=
  let op := p.h.opcode.toNat
  let debug := p.h.src.toNat != 248
  match p.regAccess with
  | none => s.answerErr n p.h Resp.ERR_UNSUPPORTED
  | some (addr, size) =>
    let a := addr % 2 ^ 26
    if op = 1 then
      let (v, s1) := s.regRead a size debug
      s1.answer n p.h Vn.IOC 2 Resp.OK 0 (p.regLines (fun _ => v))
    else if op ≠ 2 then s.answerErr n p.h Resp.ERR_UNSUPPORTED
    else if debug then s.answerErr n p.h Resp.ERR_ACCESS
    else if p.lines.any (·.poison) then s.answerErr n p.h Resp.ERR_POISON
    else
      let d := p.regData addr
      (s.writeReg (a / 8 * 8) (if a % 8 = 0 then d else d <<< 32) (reachOf a size)).answer n p.h Vn.IOC 1 Resp.OK 0 []

/-! ### The debug view -/

/-- The debug port claims its addresses: DEBUG_EN is 1 and neither reset is low (R596, R599). -/
def State.debugLive (s : State) : Bool := s.pins.debugEn && !s.inReset

/-- DBG_SEL_WRITE: a 4-byte write of DBG_SEL starts a capture; one under way is abandoned (R599, R601). -/
def execDbgSelWrite (data : BitVec 32) (s : State) : Outcome :=
  if s.debugLive then .next { s with dbg := { sel := bits data 3 23 * 8, busy := true, refused := false, valid := false, value := 0 } }
  else .next s

/-- Offsets that the debug port captures: the global block to 0x00FF, the Kettle, the fabric time and the Caddy (R599). -/
def debugAllows (o : Nat) : Bool :=
  decide (o < 0x100) || decide (0x100000 ≤ o ∧ o < 0x101800) || decide (0x108000 ≤ o ∧ o < 0x108030) || decide (0x380000 ≤ o ∧ o < 0x400000)

/-- DEBUG_CAPTURE_DONE: the capture ends with the register's value, or is refused and holds zero; each is counted (R599). -/
def execDebugCaptureDone (s : State) : Outcome :=
  if !s.debugLive || !s.dbg.busy then .next s
  else if debugAllows s.dbg.sel then
    .next ({ s with dbg := { s.dbg with busy := false, valid := true, value := s.readReg s.dbg.sel } }.bump Off.GL_DEBUG Fld.GL_DEBUG.PORT_READS)
  else .next ({ s with dbg := { s.dbg with busy := false, refused := true } }.bump Off.GL_DEBUG Fld.GL_DEBUG.PORT_REFUSED)

/-- The word that an E5LB read of the debug port returns at a 4-byte offset from 0xFFFE_0000 (R599). -/
def State.debugWord (s : State) (o : Nat) : Nat :=
  let d := s.dbg
  if !s.debugLive then 0
  else if o = 8 then (if d.busy then 0 else bits d.value 0 32)
  else if o = 12 then (if d.busy then 0 else bits d.value 32 32)
  else if o = 16 then b2n d.busy * 4 + b2n d.refused * 2 + b2n d.valid
  else 0

/-- DEBUG_MESH_READ: a host's MRd of 4 or 8 bytes at an offset of the configuration window, which its CPA carries as an NRD (R597). -/
def execDebugMeshRead (n : Fin 8) (tag : BitVec 10) (a : BitVec 24) (wide : Bool) (pasid : Option Bool) (err : ReadErr) (s : State) : Outcome :=
  if !s.portLive n then .next s
  else
    let o := Config.cfgBase.toNat * 2 ^ 26 + 4 * a.toNat
    let r := ioReq Vn.ION 1 (o / 64) [⟨false, bytesAt o (if wide then 8 else 4), 0⟩] (s.ioPriv n pasid)
    .next ((s.openExt n .ioRead tag.toNat [] r err).serveComps n err)

end Sys2Proof.Machine
end

