-- ==== Sys2Proof/Machine/Receive.lean ====
section
/-! DEFINITION. Meanings of the two ends of a network interface: a request presented at its interface (R149), and a packet that its receive side
takes, checks, matches and hands over (R118, R130 to R132, R153, R175 to R179, R185 to R188, R330, R331). -/
namespace Sys2Proof.Machine

/-! ### Requests presented -/

/-- The interface or unit attached to an NI presents requests: the macro is out of reset, a boundary port is up (R330), and an engine has seen
FABRIC_READY and is not held for the first join (R33, R581). -/
def State.presents (s : State) (n : Nat) : Bool :=
  !s.inReset &&
  (if isPort n then s.portLive n else if niType n = .eng then s.pins.ready && !(niOnB n && s.kt.bHeld) else true)

/-- The opcodes of a request that an interface may present: REQ, IOP and ION (R108, R195). -/
def reqOpcode (vn op : Nat) : Bool :=
  (vn == Vn.REQ && decide (1 ≤ op ∧ op ≤ 9)) || ((vn == Vn.IOP || vn == Vn.ION) && decide (1 ≤ op ∧ op ≤ 4))

/-! ### What the receive side knows of a packet -/

/-- Opcodes listed for a VN (R108, R195, R197, R199). -/
def knownOpcode (vn op : Nat) : Bool :=
  decide (1 ≤ op) && decide (op ≤ (if vn = 0 then 9 else if vn = 1 then 11 else if vn = 2 then 8 else if vn = 3 then 5
    else if vn = 4 then 4 else if vn = 5 then 4 else if vn = 6 then 2 else 6))

/-- True for a VN whose packets are requests that expect an answer. -/
def vnAsks (vn : Nat) : Bool := vn == Vn.REQ || vn == Vn.SNP || vn == Vn.ION

/-- A request, demand or posted packet is one that the unit behind NI n serves (R20, R195, R197, R347 to R355, R397, R455, R566). -/
def unitServes (n : Nat) (h : Hdr) : Bool :=
  let op := h.opcode.toNat
  let vn := h.vn.toNat
  match niType n with
  | .cpa => (vn == Vn.SNP && (decide (op ≤ 3) || decide (6 ≤ op))) || (vn == Vn.IOP && op == 1) || vn == Vn.ION
  | .mpa => (vn == Vn.SNP && (op == 4 || op == 5)) || (vn == Vn.IOP && op == 1) || vn == Vn.ION
  | .cla => (vn == Vn.SNP && decide (op ≤ 5)) || vn == Vn.IOP || vn == Vn.ION
  | .pea | .eng => vn == Vn.IOP || vn == Vn.ION
  | .hsl => vn == Vn.REQ
  | .svc | .sbr => (n == 248 || n == 253 || n == 254) && ((vn == Vn.IOP && op == 1) || vn == Vn.ION)

/-- A MGT message is one that NI n or the unit behind it serves (R108, R315, R318, R420, R504, R558, R585 to R587). -/
def mgtServes (n : Nat) (p : Pkt) : Bool :=
  let op := p.h.opcode.toNat
  if op = 1 then n == 249
  else if op = 2 ∨ op = 3 then true
  else if op = 4 then n == 248
  else if op = 5 then n == 254
  else
    let m := p.mop
    m == 1 || m == 2 || ((m == 0x10 || m == 0x11) && niType n == .hsl) || ((m == 0x12 || m == 0x13 || m == 0x15) && n == 248) ||
      (m == 0x14 && (niType n == .mpa || niType n == .cla))

/-- The domain, other than the NI's own island, of the unit that a packet is for (R140, R467, R594). -/
def unitDomain (n : Nat) (p : Pkt) : Option Nat :=
  let vn := p.h.vn.toNat
  let op := p.h.opcode.toNat
  let own := vn == Vn.MGT && (op == 2 || op == 3 || (op == 6 && (p.mop == 1 || p.mop == 2)))
  if own then none
  else if niType n = .hsl then some (48 + (n - 232))
  else if n = 248 then (if vn = Vn.MGT then some 64 else none)
  else if n = 249 then some 65
  else if n = 252 then some 66
  else if n = 253 then some 67
  else if n = 254 ∨ n = 255 then some 68
  else none

/-- A packet for a unit whose domain is below ON raises one wake request (R140). -/
def State.wakeUnit (s : State) (n : Nat) (p : Pkt) : State :=
  match unitDomain n p with
  | some d => if s.domOn d || s.wakeQ.contains d then s else s.askWake d
  | none => s

/-- A line lies in the configuration window as NI n knows it: at zero under the boot decode, else at CFG_BASE (R159, R576, R594). -/
def State.inCfgWindow (s : State) (n line : Nat) : Bool :=
  if (s.niAt n).ep.boot then decide (line * 64 < 2 ^ 26) else line * 64 / 2 ^ 26 == Config.cfgBase.toNat

/-- A non-posted access to the configuration window (R159). -/
def State.isCfg (s : State) (n : Nat) (h : Hdr) : Bool := h.vn.toNat == Vn.ION && s.inCfgWindow n h.line

/-! ### Answers that are not served -/

/-- A message with a reserved encoding, or one that the unit does not serve: answered with ERR_UNSUPPORTED, or discarded and reported (R7, R349, R397). -/
def State.unserved (s : State) (n : Nat) (h : Hdr) : State :=
  let vn := h.vn.toNat
  if n = 254 then s.sbUnserved h (h.line * 64 % 2 ^ 32)
  else if vnAsks vn then s.answerErr n h Resp.ERR_UNSUPPORTED
  else if n = 255 then s.sbUnserved h (h.line * 64 % 2 ^ 32)
  else
    match niType n with
    | .cpa | .mpa | .pea => s.portUnsup n vn
    | .hsl => s.reportReserved n (if vn = Vn.MGT then 0 else 2) h
    | _ => s.reportReserved n 0 h

/-- NI_REQUEST_PRESENT: an interface presents a request, which runs through the fence, Strainer, decode, route and meter steps; a reserved opcode is
completed locally with ERR_UNSUPPORTED, or discarded and reported (R7, R149, R155, R328, R329). -/
def execNiRequestPresent (n : Fin 256) (r : Req) (err : ReadErr) (s : State) : Outcome :=
  if !s.presents n then .next s
  else if reqOpcode r.vn r.opcode then .next ((s.presentExt n r err).serveComps n err)
  else if r.vn = Vn.REQ ∨ r.vn = Vn.ION then
    .next ((s.localDone n r (s.niAt n).ep.epoch Resp.ERR_UNSUPPORTED).serveComps n err)
  else .next (s.unserved n { Hdr.zero with
    src := BitVec.ofNat 8 n, vn := BitVec.ofNat 3 r.vn, opcode := BitVec.ofNat 6 r.opcode, mid := BitVec.ofNat 46 r.line })

/-- A response that matches no request of the NI (R176). -/
def State.stray (s : State) (n : Nat) (h : Hdr) : State :=
  ((s.bump (Off.NI_ERR_CNT n) Fld.NI_ERR_CNT.STRAY).setFld (Off.NI_ERR_STATUS n) Fld.NI_ERR_STATUS.RSP_STRAY 1).reportNi
    n .RSP_STRAY h.tag.toNat h.vn.toNat

/-! ### Responses to the NI's own tags -/

/-- A retry response places the tag in RETRY_WAIT, or ends the transaction once the limit of resends is reached (R178). -/
def State.retried (s : State) (n t : Nat) (x : Tag) : State :=
  let s1 := s.evNi n 26 true (x.req.map (·.h))
  let o := Off.NI_RETRY n
  if s.fld o Fld.NI_RETRY.MAX ≤ x.resends then
    (((s1.synthDone n t x Resp.ERR_TIMEOUT).dropTag n t).setFld (Off.NI_ERR_STATUS n) Fld.NI_ERR_STATUS.RETRY_EXH 1).reportNi
      n .RETRY_EXHAUSTED t Vn.REQ
  else
    s1.modNi n (fun u => u.setTag t
      { x with st := .retryWait, retryAt := s.niTime n + s.fld o Fld.NI_RETRY.BACKOFF * 16 * 2 ^ x.resends })

/-- A response that opens a completion record: WRGO, or a grant other than I (R331). -/
def opensRecord (h : Hdr) : Bool :=
  let vn := h.vn.toNat
  let op := h.opcode.toNat
  (vn == Vn.RSP && op == 2) ||
    (((vn == Vn.RSP && op == 1) || (vn == Vn.DAT && op == 1)) && msgGrant h.msg != 0 && (h.resp == Resp.OK || h.resp == Resp.ERR_POISON))

/-- The completion record of a REQ tag at a CPA or CLA opens with the first response that asks for WDATA or CACK (R331). -/
def State.openRecord (s : State) (n t dest : Nat) (q : Hdr) (p : Hdr) : State :=
  if (niType n = .cpa ∨ niType n = .cla) ∧ opensRecord p = true ∧ (s.niAt n).compRec t = none then
    s.modNi n (fun u => u.setRec t (some ⟨dest, q.epoch.toNat, q.agent.toNat, q.priv, q.origin, p.vn.toNat == Vn.RSP && p.opcode.toNat == 2,
      s.niTime n, false⟩))
  else s

/-- The requester's WDATA or CACK, which an NI without a port's completion record sends itself (R201, R208). -/
def State.ownAnswer (s : State) (n t : Nat) (x : Tag) (q : Hdr) (got : List Pkt) : State :=
  if niType n = .cpa ∨ niType n = .cla then s
  else
    match got.find? (fun g => opensRecord g.h) with
    | none => s
    | some g =>
      let wr := g.h.vn.toNat == Vn.RSP && g.h.opcode.toNat == 2
      let b := x.data.headD ⟨true, allBytes, 0⟩
      s.handOver n x.dest (mkResp (if wr then Vn.DAT else Vn.RSP) (if wr then 2 else 5) t q.agent.toNat q.priv q.origin q.epoch.toNat Resp.OK n 0
        (if wr then [⟨b.poison, allBytes, b.data⟩] else [])) none 0

/-- The completing packet of a REQ or ION tag has arrived: the tag becomes FREE and its piece's completion goes on; the line of a write that WRGO
lets go on stays in the transmit buffer (R170, R175, R208, R229). -/
def State.completeTag (s : State) (n t : Nat) (x : Tag) (q : Pkt) (got : List Pkt) (p : Pkt) : State :=
  let wr := q.h.vn.toNat == Vn.REQ && (q.h.opcode.toNat == 5 || q.h.opcode.toNat == 6)
  let wrgo := p.h.vn.toNat == Vn.RSP && p.h.opcode.toNat == 2
  let s1 := if wr && decide (232 ≤ x.dest ∧ x.dest < 248) then
      s.modNi n (fun u => { u with fenceMask := u.fenceMask ||| BitVec.ofNat 16 (2 ^ (x.dest - 232)) })
    else s
  let s2 := (s1.modNi n (fun u => u.setTag t { x with tx := if wrgo && niType n != .cla then 0 else x.tx })).dropTag n t
  let msg := ((got.find? (fun g => g.h.vn.toNat == Vn.DAT)).getD p).h.msg
  let s3 := s2.pieceDone n x.xfer x.piece (got.foldl (fun a g => worstResp a g.h.resp) Resp.OK) msg (got.flatMap Pkt.lines) x.dest t x.rx false
  s3.ownAnswer n t x q.h got

/-- A chiplet gets each response of its request as it came; a fence and a transfer of several packets end with one completion (R170, R229, R359). -/
def State.toLinkTag (s : State) (n : Nat) (x : Tag) (q : Pkt) (p : Pkt) : State :=
  match niType n, (s.niAt n).xfer x.xfer with
  | .cla, some v => if v.fence || decide (1 < v.pieces.length) || q.h.vn.toNat == Vn.SNP then s else s.claDeliver n v.r.ident p
  | _, _ => s

/-- A response for an OPEN or waiting tag is accepted (R175, R331). -/
def State.accepted (s : State) (n t : Nat) (x : Tag) (q p : Pkt) : State :=
  if q.h.vn.toNat = Vn.SNP then
    (s.modNi n (fun u => u.putIn p x.ident (s.niTime n) x.rx)).dropTag n t
  else
    let got := x.got ++ [p]
    let s1 := (s.openRecord n t x.dest q.h p.h).toLinkTag n x q p
    if tagComplete q got p then s1.completeTag n t x q got p
    else s1.modNi n (fun u => u.setTag t { x with got := got })

/-- A response whose TOWN is this NI: checked against its tag, then accepted, discarded late, or stray (R176). -/
def State.ownResponse (s : State) (n : Nat) (p : Pkt) : State :=
  let h := p.h
  let t := h.tag.toNat
  let x := (s.niAt n).tag t
  match x.req with
  | none => s.stray n h
  | some q =>
    let rty := isRetry h
    if x.st = .free ∨ expectsVn q.h h.vn.toNat = false ∨ q.h.agent ≠ h.agent ∨ (rty ∧ (x.st = .retryWait ∨ q.h.vn.toNat ≠ Vn.REQ)) then s.stray n h
    else if x.st = .quarantine then
      (((s.dropTag n t).bump (Off.NI_ERR_CNT n) Fld.NI_ERR_CNT.LATE).setFld (Off.NI_ERR_STATUS n) Fld.NI_ERR_STATUS.RSP_LATE 1).reportNi
        n .RSP_LATE t h.vn.toNat
    else if rty then s.retried n t x
    else s.accepted n t x q p

/-! ### Requests, demands and posted packets -/

/-- A packet is handed to the attached unit, which takes the packets of one VN in their order (R185). -/
def State.toUnit (s : State) (n : Nat) (p : Pkt) : State :=
  (s.modNi n (fun u => u.putIn p 0 (s.niTime n) 0)).wakeUnit n p

/-- A request or posted packet reaches the interface or unit behind its NI (R185, R347, R355, R358). -/
def State.deliver (s : State) (n : Nat) (p : Pkt) : State :=
  let ask := p.h.vn.toNat == Vn.ION
  let id := p.h.src.toNat * 256 + p.h.tag.toNat
  match niType n with
  | .cla =>
    if p.h.vn.toNat = Vn.SNP then s.toUnit n p
    else (if ask then s.keepDemand n id p else s).toChiplet n p
  | .pea => (if ask then s.keepDemand n (65536 + id) p else s).portOut n (.machine p)
  | .eng => (if ask then s.keepDemand n (65536 + id) p else s).modNi n (fun u => { u with out := u.out ++ [p] })
  | _ => s.toUnit n p

/-- A request of the fabric awaits its unit's answer (R321). -/
def State.noteAsked (s : State) (n : Nat) (h : Hdr) : State :=
  if vnAsks h.vn.toNat then s.modNi n (fun u => { u with unanswered := u.unanswered ++ [(h.src.toNat, h.tag.toNat, h.epoch.toNat)] }) else s

/-- A REQ, SNP, IOP or ION packet: the effective fence, leaf stamps, register accesses, the packets the unit does not serve, a port whose
indication is low, and the hand-over (R7, R159, R188, R330, R539). -/
def State.takeRequest (s0 : State) (n : Nat) (p : Pkt) : State :=
  let h := p.h
  let vn := h.vn.toNat
  let s := s0.noteAsked n h
  let form := bits (p.word 0) 62 2
  if s.niFenced n then
    (if vnAsks vn then s.answerErr n h Resp.ERR_FENCED else s.bump (Off.NI_ERR_CNT n) Fld.NI_ERR_CNT.FENCE_DROPS)
  else if vn = Vn.IOP ∧ h.opcode.toNat = 4 ∧ (form = 1 ∨ form = 2) then s.modNi n (fun u => { u with leaf := { u.leaf with arrived := u.leaf.arrived ++ [p] } })
  else if s.isCfg n h then s.serveRegister n p
  else if !unitServes n h || (vn == Vn.IOP && h.opcode.toNat == 4 && form == 0) then s.unserved n h
  else if isPort n && !(s.portAt n).up then
    (if vnAsks vn then s.answerErr n h Resp.ERR_FENCED else s.bump (Off.NI_PORT_CNT n) Fld.NI_PORT_CNT.DOWN_DROPS)
  else s.deliver n p

/-- A field that selects behaviour holds a reserved encoding: RESP of a response; NRESP, GRANT or RSTATE where its opcode defines them; SCOPE, FWD_NRESP
or FWD_GRANT of a snoop; HOLD of a coherent request and SNPTYPE of HSNP (R7, R97, R194, R196, R198, R200). -/
def Pkt.reservedValue (p : Pkt) : Bool :=
  let vn := p.h.vn.toNat
  let op := p.h.opcode.toNat
  let w := p.word 0
  let m := p.h.msg
  let grants := (vn == Vn.RSP && (op == 1 || op == 8)) || (vn == Vn.DAT && (op == 1 || op == 5))
  let snoops := (vn == Vn.RSP && op == 4) || (vn == Vn.DAT && op == 3)
  (vnResponse vn && decide (8 ≤ p.h.resp)) || (grants && (decide (5 ≤ msgGrant m) || msgNresp m == 3)) || (snoops && decide (5 ≤ msgRstate m)) ||
    (vn == Vn.SNP && decide (op ≤ 3) && (bits w 50 2 == 3 || (bit w 49 && (bits w 30 2 == 3 || decide (5 ≤ bits w 27 3))))) ||
    (vn == Vn.REQ && (decide (5 ≤ bits w 13 3) || (op == 9 && !decide (1 ≤ bits w 20 4 ∧ bits w 20 4 ≤ 3))))

/-- What an NI does with a checked packet. The spec does not say which goes first where a request with a reserved encoding meets a fence: here the
reserved encoding does (log entry 48) (R7, R96, R176, R185). -/
def State.takePkt (s : State) (n : Nat) (p : Pkt) : State :=
  let h := p.h
  let vn := h.vn.toNat
  if !knownOpcode vn h.opcode.toNat || p.reservedValue then (s.noteAsked n h).unserved n h
  else if vnResponse vn then (if h.town = n then s.ownResponse n p else s.toUnit n p)
  else if vn = Vn.MGT then (if mgtServes n p then s.toUnit n p else s.unserved n h)
  else s.takeRequest n p

/-! ### Checks of an arriving packet -/

/-- The NI's report of a lane error that cannot be corrected (R131, R505, R506). -/
def State.niLaneUe (s : State) (n : Nat) (e : LaneErrs) (ctrl : Bool) : State :=
  s.report n 0 (if ctrl then .LANE_UE_CTRL else .LANE_UE_PAYLOAD) (e.lastLane % 256 * 2 ^ 31 + 2 ^ 8 + niPort n)

/-- Body flits with their lane findings: reported, and repaired as R131 gives. A body flit whose VN differs from its packet's keeps it, and
the packet is malformed (R118). -/
def State.bodyChecks (s : State) (n : Nat) (h : Hdr) : Nat → List Flit → List LaneErrs → State × List Flit
  | _, [], _ => (s, [])
  | k, f :: fs, es =>
    let e := es.headD LaneErrs.clean
    let s1 := match e.ueWord with
      | none => s
      | some w => s.niLaneUe n e (decide (w ≤ 1))
    let f1 := repairBody h k f e.ueWord
    let f2 := if e.vnBad && e.ueWord != some 0 then
        match f1 with
        | .body g _ q l sr tg b => .body g (h.vn + 1) q l sr tg b
        | f => f
      else f1
    let (s2, rest) := s1.bodyChecks n h (k + 1) fs (es.drop 1)
    (s2, f2 :: rest)

/-- The receive buffer's check as the packet's data is read: a corrected byte is counted and reported, an uncorrectable one poisons its line, and
read data for the interface ends with ERR_DATA (R187). -/
def State.rxCheck (s : State) (n : Nat) (p : Pkt) (e : BufErr) : State × Pkt :=
  if p.lines.isEmpty then (s, p)
  else
    let o := Off.NI_BUF_ERR n
    let mark := fun (s : State) => (s.setFld o Fld.NI_BUF_ERR.LAST_BUF 1).setFld o Fld.NI_BUF_ERR.LAST_LINE e.line
    let s1 := if 0 < e.ce then
        let s1 := (mark (s.bumpBy o Fld.NI_BUF_ERR.CE_RX e.ce)).setFld (Off.NI_ERR_STATUS n) Fld.NI_ERR_STATUS.BUF_CE 1
        let ep := epochMark (s.niTime n)
        if s.flag (Off.NI_CTRL n) Fld.NI_CTRL.CE_REPORT && (s.niAt n).bufCeEpoch != ep then
          ((s1.modNi n (fun u => { u with bufCeEpoch := ep })).occursNi n .NI_BUF_CE 0 0 (e.ce - 1)).reportNi n .NI_BUF_CE 0 0
        else s1.occursNi n .NI_BUF_CE 0 0 e.ce
      else s
    if e.ue.isEmpty then (s1, p)
    else
      let s2 := e.ue.foldl (fun s _ =>
        ((mark (s.bump o Fld.NI_BUF_ERR.UE_RX)).setFld (Off.NI_ERR_STATUS n) Fld.NI_ERR_STATUS.BUF_UE 1).reportNi n .NI_BUF_UE 0 p.h.vn.toNat) s1
      let bad := e.ue.map (· % p.lines.length)
      let off := if p.h.hdata then 1 else 0
      let p1 : Pkt :=
        { p with
          h := if p.h.hdata && bad.contains 0 then { p.h with poison := true } else p.h
          body := p.body.mapIdx (fun i b => if bad.contains (i + off) then { b with poison := true } else b) }
      let mine := vnResponse p.h.vn.toNat && p.h.town == n && niType n != .hsl
      (s2, if mine then { p1 with h := { p1.h with mid := midOf Resp.ERR_DATA p.h.town p.h.msg } } else p1)

/-- A response with RESP OK that carries poison is delivered as ERR_POISON (R98, R132). -/
def Pkt.asPoisoned (p : Pkt) : Pkt :=
  if vnResponse p.h.vn.toNat && p.h.resp == Resp.OK && (p.h.poison || p.body.any (·.poison)) then
    { p with h := { p.h with mid := midOf Resp.ERR_POISON p.h.town p.h.msg } }
  else p

/-- A posted packet counts toward the balance of its epoch as it reaches the receive side (R318). -/
def State.countIop (s : State) (n : Nat) (h : Hdr) : State :=
  if h.vn.toNat = Vn.IOP then
    s.modNi n (fun u =>
      if h.epoch.toNat = u.ep.epoch then { u with ep := { u.ep with recv := u.ep.recv + 1 } }
      else if u.ep.draining && h.epoch.toNat == u.ep.oldEpoch then { u with ep := { u.ep with recvOld := u.ep.recvOld + 1 } } else u)
  else s

/-- A malformed packet is discarded and reported (R118). -/
def State.malformed (s : State) (n vn : Nat) (tag : Nat) : State :=
  (s.setFld (Off.NI_ERR_STATUS n) Fld.NI_ERR_STATUS.MALFORMED 1).reportNi n .PKT_MALFORMED tag vn

/-- A packet that has entered the receive side runs through the delivery stage (R118, R130 to R132, R153, R187, R539). -/
def State.received (s : State) (n vn : Nat) (fs : List Flit) (es : List LaneErrs) (err : BufErr) : State :=
  match fs with
  | .head g h pl :: body =>
    let e := es.headD LaneErrs.clean
    let s1 := fs.foldl (fun s _ => s.evNi n 10 true (some h)) (s.evNi n 9 true (some h))
    let s2 := match e.ueWord with
      | none => s1
      | some w => s1.niLaneUe n e (decide (w ≤ 1))
    let s3 := if e.ueWord = some 0 then s2 else s2.countIop n h
    let h1 := if e.ueWord.isSome then { h with poison := true } else h
    let (s4, body1) := s3.bodyChecks n h1 1 body (es.drop 1)
    if e.ueWord = some 0 ∨ e.ueWord = some 1 then s4
    else if pktMalformed (.head g h1 pl :: body1) then s4.malformed n vn h.tag.toNat
    else
      match pktOf (.head g h1 pl :: body1) with
      | none => s4
      | some p =>
        let s5 := if h.leaf then s4.pushStamp n 2 h (s4.niTime n) else s4
        let (s6, p1) := s5.rxCheck n p err
        s6.takePkt n p1.asPoisoned
  | _ => s.malformed n vn 0

/-! ### The command -/

/-- What stands before the packet at the front of a lane: nothing, a wake of the domain that holds the register it accesses, a failed domain, whose
accesses get no answer, or a receive buffer without room for its data (R140, R143, R186, R467, R594). -/
inductive Entry where
  | go
  | wake (d : Nat)
  | drop
  | full
  deriving DecidableEq, Repr

/-- The receive buffer has room for a packet's data: what answers a request of the NI has its lines reserved (R174, R186). -/
def State.rxRoom (s : State) (n : Nat) (p : Pkt) : Bool :=
  (vnResponse p.h.vn.toNat && p.h.town == n) || decide (p.lines.length ≤ (s.niAt n).rxFree)

/-- What stands before a packet: an access to a register whose domain is below ON waits at its owner's fence (R594). -/
def State.entry (s : State) (n : Nat) (fs : List Flit) (es : List LaneErrs) : Entry :=
  match pktOf fs with
  | none => .go
  | some p =>
    let bad := match (es.headD LaneErrs.clean).ueWord with
      | some w => decide (w ≤ 1)
      | none => false
    if bad || pktMalformed fs then .go
    else if !s.rxRoom n p then .full
    else if s.niFenced n || !s.isCfg n p.h then .go
    else
      match p.regAccess with
      | none => .go
      | some (a, _) =>
        match offDomain (a % 2 ^ 26) with
        | none => .go
        | some d => if s.domOn d then .go else if (s.domAt d).failed then .drop else .wake d

/-- The places, on a wire, of the first flits of a lane. -/
def flitPlaces (l : List Flit) (vn : Nat) (gt : Bool) (k : Nat) : List Nat :=
  ((List.range l.length).filter (fun i => match l[i]? with
    | some f => f.vn == vn && f.gt == gt
    | none => false)).take k

/-- The credits of a packet's flits are owed to the router; a packet of the NI's own came without them (R112, R602). -/
def State.oweFlits (s : State) (n vn : Nat) (fs : List Flit) : State :=
  let own := match fs with
    | .head _ h _ :: _ => h.src.toNat == n
    | _ => false
  if own then s else fs.foldl (fun s f => s.oweCredit (niKey n) vn f.gt) s

/-- The lane findings of the packet at the front of a lane, with injected errors, and the state that has used those up (R527). -/
def State.rxErrs (s : State) (n vn : Nat) (gt : Bool) (fs : List Flit) (errs : List LaneErrs) : List LaneErrs × State × Bool :=
  let places := flitPlaces (s.wireAt (niKey n)) vn gt fs.length
  let (marks, s1) := s.takeFlips (niKey n) places
  ((List.range fs.length).map (fun k => (errs.getD k LaneErrs.clean).flipped (marks.filter (fun m => m.1 == places.getD k 0))), s1, !marks.isEmpty)

/-- The packet at the front of a lane of a VN runs through the receive side; none where it has not come whole, or must wait (R110, R118, R186, R594). -/
def State.rxLane (s : State) (n vn : Nat) (gt : Bool) (errs : List LaneErrs) (err : BufErr) : Option State :=
  let key := niKey n
  match frontPkt vn gt (s.wireAt key) with
  | none => none
  | some (fs, rest) =>
    let (es, s1, inj) := s.rxErrs n vn gt fs errs
    match s.entry n fs es with
    | .wake _ => none
    | .full => none
    | .drop => some ((s1.setWire key rest).oweFlits n vn fs)
    | .go =>
      let s2 := ((s1.setWire key rest).oweFlits n vn fs).received n vn fs es err
      some ((if inj then State.markInj s1 n s2 else s2).serveComps n ReadErr.clean)

/-- The domain that the packet at the front of a lane waits for (R594). -/
def State.rxWake (s : State) (n vn : Nat) (gt : Bool) (errs : List LaneErrs) : Option Nat :=
  match frontPkt vn gt (s.wireAt (niKey n)) with
  | none => none
  | some (fs, _) =>
    match s.entry n fs (s.rxErrs n vn gt fs errs).1 with
    | .wake d => some d
    | _ => none

/-- NI_PACKET_RECEIVE: the packet at the front of a VN, once all its flits have come, enters the NI's receive side, is checked and matched, and is handed
to the unit or interface. The lane with the oldest flit goes first; where its packet waits, that of the other lane goes, for a P3 packet never
waits behind one of lower priority (R110, R118, R130 to R132, R153, R175 to R179, R185 to R188, R330, R331). -/
def execNiPacketReceive (n : Fin 256) (vn : Fin 8) (errs : List LaneErrs) (err : BufErr) (s : State) : Outcome :=
  let g := oldLane vn (s.wireAt (niKey n))
  if s.inReset || !s.domOn (niIsland n) then .next s
  else
    match (s.rxLane n vn g errs err).or (s.rxLane n vn (!g) errs err) with
    | some t => .next t
    | none =>
      match (s.rxWake n vn g errs).or (s.rxWake n vn (!g) errs) with
      | some d => .next (if s.wakeQ.contains d then s else s.askWake d)
      | none => .next s

end Sys2Proof.Machine
end

