-- ==== Sys2Proof/Machine/Dispatch.lean ====
section
/-! DEFINITION. One arm per command: a direct call of its meaning. -/
namespace Sys2Proof.Machine
open Sys2Proof

def exec (i : Instr) (s : State) : Host.Outcome State Fault Refusal :=
  match i with
  | .porstNAssert => Sys2Proof.Machine.execPorstNAssert s
  | .porstNRelease b => Sys2Proof.Machine.execPorstNRelease b s
  | .warmNAssert => Sys2Proof.Machine.execWarmNAssert s
  | .warmNRelease b => Sys2Proof.Machine.execWarmNRelease b s
  | .vddAonRise => Sys2Proof.Machine.execVddAonRise s
  | .bootReadyWrite => Sys2Proof.Machine.execBootReadyWrite s
  | .wsBypass wsi => Sys2Proof.Machine.execWsBypass wsi s
  | .wsExtest captured => Sys2Proof.Machine.execWsExtest captured s
  | .wsPreload cells => Sys2Proof.Machine.execWsPreload cells s
  | .wsIntestScan wsi => Sys2Proof.Machine.execWsIntestScan wsi s
  | .mbistRun die pass => Sys2Proof.Machine.execMbistRun die pass s
  | .chainSel die chain => Sys2Proof.Machine.execChainSel die chain s
  | .trefEpochMark refB edge phase => Sys2Proof.Machine.execTrefEpochMark refB edge phase s
  | .refLost refB => Sys2Proof.Machine.execRefLost refB s
  | .ftStartWrite => Sys2Proof.Machine.execFtStartWrite s
  | .ftSwitchReqWrite => Sys2Proof.Machine.execFtSwitchReqWrite s
  | .keeperSyncMark => Sys2Proof.Machine.execKeeperSyncMark s
  | .islandSyncMark isl drift err => Sys2Proof.Machine.execIslandSyncMark isl drift err s
  | .driftEvaluation rateA rateB rateMean holdA holdB => Sys2Proof.Machine.execDriftEvaluation rateA rateB rateMean holdA holdB s
  | .islandFreqStep isl => Sys2Proof.Machine.execIslandFreqStep isl s
  | .eventCrossingSend isl side => Sys2Proof.Machine.execEventCrossingSend isl side s
  | .routerHeadArrive t p errs => Sys2Proof.Machine.execRouterHeadArrive t p errs s
  | .routerBodyArrive t p errs => Sys2Proof.Machine.execRouterBodyArrive t p errs s
  | .outputArbitration t p => Sys2Proof.Machine.execOutputArbitration t p s
  | .creditWordSend k => Sys2Proof.Machine.execCreditWordSend k s
  | .creditWordReceive k => Sys2Proof.Machine.execCreditWordReceive k s
  | .neighbourStateChange t p seen => Sys2Proof.Machine.execNeighbourStateChange t p seen s
  | .fenceClosedReport t p => Sys2Proof.Machine.execFenceClosedReport t p s
  | .gateWindowOpen t p => Sys2Proof.Machine.execGateWindowOpen t p s
  | .gateUnionEnd t => Sys2Proof.Machine.execGateUnionEnd t s
  | .rtForceUnreachWrite t mask => Sys2Proof.Machine.execRtForceUnreachWrite t mask s
  | .rtHistSelect t q => Sys2Proof.Machine.execRtHistSelect t q s
  | .rtHistClear t q => Sys2Proof.Machine.execRtHistClear t q s
  | .rtHistClearAll t => Sys2Proof.Machine.execRtHistClearAll t s
  | .niHistSelect n q => Sys2Proof.Machine.execNiHistSelect n q s
  | .niHistClear n q => Sys2Proof.Machine.execNiHistClear n q s
  | .niHistClearAll n => Sys2Proof.Machine.execNiHistClearAll n s
  | .queueSample u => Sys2Proof.Machine.execQueueSample u s
  | .niRequestPresent n r err => Sys2Proof.Machine.execNiRequestPresent n r err s
  | .niTagAllocate n => Sys2Proof.Machine.execNiTagAllocate n s
  | .niFenceAdmit n err => Sys2Proof.Machine.execNiFenceAdmit n err s
  | .injectionArbitration n err => Sys2Proof.Machine.execInjectionArbitration n err s
  | .niPacketReceive n vn errs err => Sys2Proof.Machine.execNiPacketReceive n vn errs err s
  | .niSendAnswer n err => Sys2Proof.Machine.execNiSendAnswer n err s
  | .initTimeout n tag => Sys2Proof.Machine.execInitTimeout n tag s
  | .retryResend n tag err => Sys2Proof.Machine.execRetryResend n tag err s
  | .quarantineEnd n tag => Sys2Proof.Machine.execQuarantineEnd n tag s
  | .niLossCommit n => Sys2Proof.Machine.execNiLossCommit n s
  | .niTagCommit n => Sys2Proof.Machine.execNiTagCommit n s
  | .niFenceSwWrite n on => Sys2Proof.Machine.execNiFenceSwWrite n on s
  | .niTagStatusRead n => Sys2Proof.Machine.execNiTagStatusRead n s
  | .gtSlotStart n => Sys2Proof.Machine.execGtSlotStart n s
  | .gtSlotEnd n => Sys2Proof.Machine.execGtSlotEnd n s
  | .shaperRefill n => Sys2Proof.Machine.execShaperRefill n s
  | .shaperCommit n => Sys2Proof.Machine.execShaperCommit n s
  | .meterCommit n => Sys2Proof.Machine.execMeterCommit n s
  | .lidPotCloseWrite mask => Sys2Proof.Machine.execLidPotCloseWrite mask s
  | .homeArbiterDecision h errs stg => Sys2Proof.Machine.execHomeArbiterDecision h errs stg s
  | .homePreempt h q => Sys2Proof.Machine.execHomePreempt h q s
  | .quotaWindowStart h => Sys2Proof.Machine.execQuotaWindowStart h s
  | .hsArbCommit h => Sys2Proof.Machine.execHsArbCommit h s
  | .rds h => Sys2Proof.Machine.execRds h s
  | .rdo h => Sys2Proof.Machine.execRdo h s
  | .upg h => Sys2Proof.Machine.execUpg h s
  | .rdc h => Sys2Proof.Machine.execRdc h s
  | .wri h => Sys2Proof.Machine.execWri h s
  | .wbm h => Sys2Proof.Machine.execWbm h s
  | .evc h => Sys2Proof.Machine.execEvc h s
  | .fnc h => Sys2Proof.Machine.execFnc h s
  | .hsnp h => Sys2Proof.Machine.execHsnp h s
  | .homeWaiterStart h => Sys2Proof.Machine.execHomeWaiterStart h s
  | .srsp h => Sys2Proof.Machine.execSrsp h s
  | .sdata h => Sys2Proof.Machine.execSdata h s
  | .mdata h => Sys2Proof.Machine.execMdata h s
  | .mcmp h => Sys2Proof.Machine.execMcmp h s
  | .pxdata h => Sys2Proof.Machine.execPxdata h s
  | .pxcmp h => Sys2Proof.Machine.execPxcmp h s
  | .wdata h => Sys2Proof.Machine.execWdata h s
  | .cack h => Sys2Proof.Machine.execCack h s
  | .cohAckTimeout h num => Sys2Proof.Machine.execCohAckTimeout h num s
  | .scrubRead h err => Sys2Proof.Machine.execScrubRead h err s
  | .scrubLapStart h => Sys2Proof.Machine.execScrubLapStart h s
  | .hsDiagGo h sel => Sys2Proof.Machine.execHsDiagGo h sel s
  | .hsDiagDataWrite h data => Sys2Proof.Machine.execHsDiagDataWrite h data s
  | .ledgerRepairReport r => Sys2Proof.Machine.execLedgerRepairReport r s
  | .ledgerRescan => Sys2Proof.Machine.execLedgerRescan s
  | .snps n => Sys2Proof.Machine.execSnps n s
  | .snpi n => Sys2Proof.Machine.execSnpi n s
  | .snpc n => Sys2Proof.Machine.execSnpc n s
  | .mrd n => Sys2Proof.Machine.execMrd n s
  | .mwr n => Sys2Proof.Machine.execMwr n s
  | .pxrd n => Sys2Proof.Machine.execPxrd n s
  | .pxro n => Sys2Proof.Machine.execPxro n s
  | .pxrc n => Sys2Proof.Machine.execPxrc n s
  | .pxev n => Sys2Proof.Machine.execPxev n s
  | .pxwb n => Sys2Proof.Machine.execPxwb n s
  | .pxwc n => Sys2Proof.Machine.execPxwc n s
  | .memrd n tag line mv err => Sys2Proof.Machine.execMemrd n tag line mv err s
  | .memrddata n tag line err => Sys2Proof.Machine.execMemrddata n tag line err s
  | .meminv n tag line mv err => Sys2Proof.Machine.execMeminv n tag line mv err s
  | .memclnevct n tag line err => Sys2Proof.Machine.execMemclnevct n tag line err s
  | .memwr n tag line poison data err => Sys2Proof.Machine.execMemwr n tag line poison data err s
  | .memwrptl n tag line be poison data err => Sys2Proof.Machine.execMemwrptl n tag line be poison data err s
  | .biconflict n tag => Sys2Proof.Machine.execBiconflict n tag s
  | .memspecrd n => Sys2Proof.Machine.execMemspecrd n s
  | .birsp n bitag st => Sys2Proof.Machine.execBirsp n bitag st s
  | .h2dGo n cqid kind => Sys2Proof.Machine.execH2dGo n cqid kind s
  | .h2dData n cqid poison data => Sys2Proof.Machine.execH2dData n cqid poison data s
  | .snpdata n uqid line err => Sys2Proof.Machine.execSnpdata n uqid line err s
  | .snpinv n uqid line err => Sys2Proof.Machine.execSnpinv n uqid line err s
  | .snpcur n uqid line err => Sys2Proof.Machine.execSnpcur n uqid line err s
  | .cxlIoMrd n tag line masks pasid err => Sys2Proof.Machine.execCxlIoMrd n tag line masks pasid err s
  | .cxlIoMwr n relaxed line data pasid err => Sys2Proof.Machine.execCxlIoMwr n relaxed line data pasid err s
  | .cxlIoCpl n id st data => Sys2Proof.Machine.execCxlIoCpl n id st data s
  | .cxlIoUnsupported n tag message => Sys2Proof.Machine.execCxlIoUnsupported n tag message s
  | .cpaIoRequest n posted => Sys2Proof.Machine.execCpaIoRequest n posted s
  | .mpaEcamAccess n => Sys2Proof.Machine.execMpaEcamAccess n s
  | .deviceMemdata n tag nxm poison data => Sys2Proof.Machine.execDeviceMemdata n tag nxm poison data s
  | .deviceCmp n tag => Sys2Proof.Machine.execDeviceCmp n tag s
  | .deviceMwr n line data err => Sys2Proof.Machine.execDeviceMwr n line data err s
  | .deviceMrd n tag line masks err => Sys2Proof.Machine.execDeviceMrd n tag line masks err s
  | .deviceErrMsg n severity => Sys2Proof.Machine.execDeviceErrMsg n severity s
  | .deviceBisnp n bitag => Sys2Proof.Machine.execDeviceBisnp n bitag s
  | .portIndicationRise n => Sys2Proof.Machine.execPortIndicationRise n s
  | .portIndicationFall n => Sys2Proof.Machine.execPortIndicationFall n s
  | .completionRecordTimeout n tag => Sys2Proof.Machine.execCompletionRecordTimeout n tag s
  | .claChipletPacket n vn err => Sys2Proof.Machine.execClaChipletPacket n vn err s
  | .nreq n err => Sys2Proof.Machine.execNreq n err s
  | .portEngineStatus n src tag status exfail data => Sys2Proof.Machine.execPortEngineStatus n src tag status exfail data s
  | .portEngineRequest n r err => Sys2Proof.Machine.execPortEngineRequest n r err s
  | .fluSend k e errs => Sys2Proof.Machine.execFluSend k e errs s
  | .fluIdleTimer k e => Sys2Proof.Machine.execFluIdleTimer k e s
  | .fluNew k e f => Sys2Proof.Machine.execFluNew k e f s
  | .fluReplay k e f => Sys2Proof.Machine.execFluReplay k e f s
  | .fluInit k e f => Sys2Proof.Machine.execFluInit k e f s
  | .fluBad k e lost again => Sys2Proof.Machine.execFluBad k e lost again s
  | .nakRepeat k e => Sys2Proof.Machine.execNakRepeat k e s
  | .linkWindowStart k e => Sys2Proof.Machine.execLinkWindowStart k e s
  | .linkSilenceTimeout k e => Sys2Proof.Machine.execLinkSilenceTimeout k e s
  | .recordLimitTimeout k e => Sys2Proof.Machine.execRecordLimitTimeout k e s
  | .preEnd k e => Sys2Proof.Machine.execPreEnd k e s
  | .acceptTimeout k e => Sys2Proof.Machine.execAcceptTimeout k e s
  | .adapterActive k e half => Sys2Proof.Machine.execAdapterActive k e half s
  | .adapterLeaveActive k e => Sys2Proof.Machine.execAdapterLeaveActive k e s
  | .retrainLimitExpiry k e => Sys2Proof.Machine.execRetrainLimitExpiry k e s
  | .lkEnableWrite k e on => Sys2Proof.Machine.execLkEnableWrite k e on s
  | .lkRetrainWrite k e => Sys2Proof.Machine.execLkRetrainWrite k e s
  | .sbWriteRequest => Sys2Proof.Machine.execSbWriteRequest s
  | .sbReadRequest => Sys2Proof.Machine.execSbReadRequest s
  | .nrdx => Sys2Proof.Machine.execNrdx s
  | .nwrx => Sys2Proof.Machine.execNwrx s
  | .sbE5lbIssue => Sys2Proof.Machine.execSbE5lbIssue s
  | .sbE5ReadResponse tag resp data => Sys2Proof.Machine.execSbE5ReadResponse tag resp data s
  | .sbE5WriteResponse k resp => Sys2Proof.Machine.execSbE5WriteResponse k resp s
  | .e5TimeoutExpiry => Sys2Proof.Machine.execE5TimeoutExpiry s
  | .sbLockTimeout => Sys2Proof.Machine.execSbLockTimeout s
  | .sbInboundWrite addr beats err => Sys2Proof.Machine.execSbInboundWrite addr beats err s
  | .sbInboundRead addr strobes mtag err => Sys2Proof.Machine.execSbInboundRead addr strobes mtag err s
  | .sbInboundCompletion => Sys2Proof.Machine.execSbInboundCompletion s
  | .sbout => Sys2Proof.Machine.execSbout s
  | .sbPulseEnd k => Sys2Proof.Machine.execSbPulseEnd k s
  | .sbInputEvent j level => Sys2Proof.Machine.execSbInputEvent j level s
  | .sbInCommit => Sys2Proof.Machine.execSbInCommit s
  | .sbInSwitchEnd j => Sys2Proof.Machine.execSbInSwitchEnd j s
  | .sbTelemCommit => Sys2Proof.Machine.execSbTelemCommit s
  | .sbTelemPoll => Sys2Proof.Machine.execSbTelemPoll s
  | .sbOutCommit => Sys2Proof.Machine.execSbOutCommit s
  | .sbOutSwitchEnd k => Sys2Proof.Machine.execSbOutSwitchEnd k s
  | .sbTick k => Sys2Proof.Machine.execSbTick k s
  | .stCommit => Sys2Proof.Machine.execStCommit s
  | .stCheckEnd => Sys2Proof.Machine.execStCheckEnd s
  | .stRaiseEnd => Sys2Proof.Machine.execStRaiseEnd s
  | .stHold n => Sys2Proof.Machine.execStHold n s
  | .stHoldDone => Sys2Proof.Machine.execStHoldDone s
  | .stPushEnd bad ue => Sys2Proof.Machine.execStPushEnd bad ue s
  | .stRelease n => Sys2Proof.Machine.execStRelease n s
  | .stWindowLimit => Sys2Proof.Machine.execStWindowLimit s
  | .stStaleRetry n => Sys2Proof.Machine.execStStaleRetry n s
  | .stShadowReloadDone n ok => Sys2Proof.Machine.execStShadowReloadDone n ok s
  | .stLockWrite => Sys2Proof.Machine.execStLockWrite s
  | .stModeWrite mode => Sys2Proof.Machine.execStModeWrite mode s
  | .mailboxCmdWrite posted => Sys2Proof.Machine.execMailboxCmdWrite posted s
  | .doorbellWrite posted => Sys2Proof.Machine.execDoorbellWrite posted s
  | .mailboxAccept m => Sys2Proof.Machine.execMailboxAccept m s
  | .commandEnd c => Sys2Proof.Machine.execCommandEnd c s
  | .commandTimeout c => Sys2Proof.Machine.execCommandTimeout c s
  | .query c => Sys2Proof.Machine.execQuery c s
  | .readReg c => Sys2Proof.Machine.execReadReg c s
  | .writeReg c => Sys2Proof.Machine.execWriteReg c s
  | .loadBlend c st => Sys2Proof.Machine.execLoadBlend c st s
  | .commitEpoch c => Sys2Proof.Machine.execCommitEpoch c s
  | .setShaper c => Sys2Proof.Machine.execSetShaper c s
  | .setMeter c => Sys2Proof.Machine.execSetMeter c s
  | .leafCfg c => Sys2Proof.Machine.execLeafCfg c s
  | .pmFilter c => Sys2Proof.Machine.execPmFilter c s
  | .snapshot c => Sys2Proof.Machine.execSnapshot c s
  | .domainPower c => Sys2Proof.Machine.execDomainPower c s
  | .quiesce c => Sys2Proof.Machine.execQuiesce c s
  | .quiesceOpen c => Sys2Proof.Machine.execQuiesceOpen c s
  | .linkRetrainCommand c => Sys2Proof.Machine.execLinkRetrainCommand c s
  | .faultAck c => Sys2Proof.Machine.execFaultAck c s
  | .fenceAgent c => Sys2Proof.Machine.execFenceAgent c s
  | .unfence c => Sys2Proof.Machine.execUnfence c s
  | .caddyFreeze c => Sys2Proof.Machine.execCaddyFreeze c s
  | .caddyThaw c => Sys2Proof.Machine.execCaddyThaw c s
  | .caddyRead c errs => Sys2Proof.Machine.execCaddyRead c errs s
  | .ledgerCompact c => Sys2Proof.Machine.execLedgerCompact c s
  | .ringSetup c => Sys2Proof.Machine.execRingSetup c s
  | .ringSetupMailboxForm c => Sys2Proof.Machine.execRingSetupMailboxForm c s
  | .ringEnable c => Sys2Proof.Machine.execRingEnable c s
  | .ringDisable c => Sys2Proof.Machine.execRingDisable c s
  | .cancel c => Sys2Proof.Machine.execCancel c s
  | .reprotect c t => Sys2Proof.Machine.execReprotect c t s
  | .reprotectWaitLimit => Sys2Proof.Machine.execReprotectWaitLimit s
  | .potCoreRestart found => Sys2Proof.Machine.execPotCoreRestart found s
  | .potSramUe word rings => Sys2Proof.Machine.execPotSramUe word rings s
  | .ringPoll r => Sys2Proof.Machine.execRingPoll r s
  | .ringEntryFetched r => Sys2Proof.Machine.execRingEntryFetched r s
  | .ringAccessResponse r k => Sys2Proof.Machine.execRingAccessResponse r k s
  | .ringIrqGapEnd r => Sys2Proof.Machine.execRingIrqGapEnd r s
  | .ringStatusLineWrite r => Sys2Proof.Machine.execRingStatusLineWrite r s
  | .tableLoad n => Sys2Proof.Machine.execTableLoad n s
  | .bankSeal n => Sys2Proof.Machine.execBankSeal n s
  | .epochArm n => Sys2Proof.Machine.execEpochArm n s
  | .epochArmDeadline => Sys2Proof.Machine.execEpochArmDeadline s
  | .epochCancel n => Sys2Proof.Machine.execEpochCancel n s
  | .epochSwitch n => Sys2Proof.Machine.execEpochSwitch n s
  | .niLocalDrained n => Sys2Proof.Machine.execNiLocalDrained n s
  | .edrain => Sys2Proof.Machine.execEdrain s
  | .epochDoneMessage n => Sys2Proof.Machine.execEpochDoneMessage n s
  | .drainQuietTimer => Sys2Proof.Machine.execDrainQuietTimer s
  | .epochDrainSlow => Sys2Proof.Machine.execEpochDrainSlow s
  | .wakeRequest => Sys2Proof.Machine.execWakeRequest s
  | .domainRaiseDone d ok => Sys2Proof.Machine.execDomainRaiseDone d ok s
  | .domainPowered d => Sys2Proof.Machine.execDomainPowered d s
  | .domainReloadDone d ok => Sys2Proof.Machine.execDomainReloadDone d ok s
  | .idleIntervalEnd d => Sys2Proof.Machine.execIdleIntervalEnd d s
  | .domainBusyChange d => Sys2Proof.Machine.execDomainBusyChange d s
  | .ktRestWrite d rest => Sys2Proof.Machine.execKtRestWrite d rest s
  | .ktGtMaskWrite k mask => Sys2Proof.Machine.execKtGtMaskWrite k mask s
  | .lowerDrainDone d => Sys2Proof.Machine.execLowerDrainDone d s
  | .domainFencesClosed d => Sys2Proof.Machine.execDomainFencesClosed d s
  | .domainLowerDone d => Sys2Proof.Machine.execDomainLowerDone d s
  | .domainStepTimeout d => Sys2Proof.Machine.execDomainStepTimeout d s
  | .sideChannelMessage ok => Sys2Proof.Machine.execSideChannelMessage ok s
  | .faultArrive => Sys2Proof.Machine.execFaultArrive s
  | .saucerProcessEntry => Sys2Proof.Machine.execSaucerProcessEntry s
  | .scHringResponse fnc => Sys2Proof.Machine.execScHringResponse fnc s
  | .scIrqIntervalEnd => Sys2Proof.Machine.execScIrqIntervalEnd s
  | .scHringEnableWrite on => Sys2Proof.Machine.execScHringEnableWrite on s
  | .scC3LidWrite on => Sys2Proof.Machine.execScC3LidWrite on s
  | .injectFault => Sys2Proof.Machine.execInjectFault s
  | .injectLane => Sys2Proof.Machine.execInjectLane s
  | .injectBuf => Sys2Proof.Machine.execInjectBuf s
  | .injectFluCrc => Sys2Proof.Machine.execInjectFluCrc s
  | .niDiagGo n sel used => Sys2Proof.Machine.execNiDiagGo n sel used s
  | .niDiagDataWrite n data used => Sys2Proof.Machine.execNiDiagDataWrite n data used s
  | .tableRestore n bank sec part idx ok => Sys2Proof.Machine.execTableRestore n bank sec part idx ok s
  | .caddyReserve p => Sys2Proof.Machine.execCaddyReserve p s
  | .caddyRecordCommit p => Sys2Proof.Machine.execCaddyRecordCommit p s
  | .caddyReserveTimeout p => Sys2Proof.Machine.execCaddyReserveTimeout p s
  | .leafStamp n => Sys2Proof.Machine.execLeafStamp n s
  | .leafRecordTimeout n k => Sys2Proof.Machine.execLeafRecordTimeout n k s
  | .leafIdRelease n k => Sys2Proof.Machine.execLeafIdRelease n k s
  | .leafCommit n => Sys2Proof.Machine.execLeafCommit n s
  | .traceEnWrite on => Sys2Proof.Machine.execTraceEnWrite on s
  | .snap n => Sys2Proof.Machine.execSnap n s
  | .snapshotCopy u => Sys2Proof.Machine.execSnapshotCopy u s
  | .kettleSnapshotLatch => Sys2Proof.Machine.execKettleSnapshotLatch s
  | .counterPush => Sys2Proof.Machine.execCounterPush s
  | .pageSettleTimeout => Sys2Proof.Machine.execPageSettleTimeout s
  | .collectorBankSwitch => Sys2Proof.Machine.execCollectorBankSwitch s
  | .counterApertureRead => Sys2Proof.Machine.execCounterApertureRead s
  | .pmFltCommit u sets => Sys2Proof.Machine.execPmFltCommit u sets s
  | .counterLatchRead o debug => Sys2Proof.Machine.execCounterLatchRead o debug s
  | .dieBJoin ok => Sys2Proof.Machine.execDieBJoin ok s
  | .joinGoWrite => Sys2Proof.Machine.execJoinGoWrite s
  | .seamLossDeclare => Sys2Proof.Machine.execSeamLossDeclare s
  | .partSweep h => Sys2Proof.Machine.execPartSweep h s
  | .rejoinSweep h => Sys2Proof.Machine.execRejoinSweep h s
  | .sweepDone => Sys2Proof.Machine.execSweepDone s
  | .deferPoison => Sys2Proof.Machine.execDeferPoison s
  | .poisonLine n => Sys2Proof.Machine.execPoisonLine n s
  | .poisonDone => Sys2Proof.Machine.execPoisonDone s
  | .glBlsDataWrite value => Sys2Proof.Machine.execGlBlsDataWrite value s
  | .dbgSelWrite data => Sys2Proof.Machine.execDbgSelWrite data s
  | .debugCaptureDone => Sys2Proof.Machine.execDebugCaptureDone s
  | .debugMeshRead n tag a wide pasid err => Sys2Proof.Machine.execDebugMeshRead n tag a wide pasid err s
  | .registerWrite a wide value => Sys2Proof.Machine.execRegisterWrite a wide value s
  | .vddFabDroop isl stretch => Sys2Proof.Machine.execVddFabDroop isl stretch s
  | .localTimeCounterResume isl => Sys2Proof.Machine.execLocalTimeCounterResume isl s
  | .potBranch trap src dst cycles => Sys2Proof.Machine.execPotBranch trap src dst cycles s
  | .potWaitForInterrupt => Sys2Proof.Machine.execPotWaitForInterrupt s
  | .potSramCe word => Sys2Proof.Machine.execPotSramCe word s
  | .platformWaitEnd => Sys2Proof.Machine.execPlatformWaitEnd s
  | .platformPollLimit => Sys2Proof.Machine.execPlatformPollLimit s

end Sys2Proof.Machine
end

