-- ==== Sys2Proof/WellFormed.lean ====
section
/-! DEFINITION. Which operands an interface or an event can present: the shape of transfers, masks, bursts and images (R8, R20, R108, R149, R168, R169,
R195, R307, R355, R573, R575). A command whose operands fail this names nothing that happens, and no statement is made of it. -/
namespace Sys2Proof
open Sys2Proof.Machine

/-- A read mask for each line of a read: at least one byte is asked for (R105). -/
def masksWf (lim : Nat) (ms : List W64) : Bool := decide (1 ≤ ms.length ∧ ms.length ≤ lim) && ms.any (· != 0)

/-- The lines of a write: each has an enabled byte (R118, R169). -/
def linesWf (lim : Nat) (ls : List Body) : Bool := decide (1 ≤ ls.length ∧ ls.length ≤ lim) && ls.all (fun b => b.be != 0)

/-- The status codes of R355. -/
def engineStatus (st : BitVec 4) : Bool := [0, 2, 3, 4, 5, 7].contains st.toNat

/-- A burst of the E5LB: 1 to 256 beats at word addresses within one 1 KiB block (chapter 12). -/
def beatsWf (bs : List (BitVec 4)) (addr : BitVec 32) : Bool :=
  decide (1 ≤ bs.length) && addr.toNat % 4 == 0 && decide (addr.toNat % 1024 + 4 * bs.length ≤ 1024)

/-- A request has the shape of its opcode: a transfer's lines lie within 4 KiB, a WRI or WBM carries one whole line, other REQ carry none, and a machine
request is IOP or ION and comes from an engine or NI 248 (R104, R105, R108, R149, R168, R169, R195). -/
def Machine.Req.wf (r : Req) (n : Fin 256) : Bool :=
  (r.vn == 0 || r.vn == 4 || r.vn == 5) && decide (r.opcode < 64 ∧ r.agent < 4096 ∧ r.line < 2 ^ 46) &&
    (if r.vn = 0 then r.machine.isNone && (if r.opcode = 5 ∨ r.opcode = 6 then r.data.length == 1 else r.data.isEmpty)
     else
      (match r.machine with
       | some e => decide (e < 2 ^ 20 ∧ r.line < 2 ^ 26) && (niType n == .eng || n == 248)
       | none => true) &&
      (if r.vn = 5 ∨ r.opcode = 1 then
         (if r.vn = 5 ∧ (r.opcode = 1 ∨ r.opcode = 3) then masksWf 64 (r.data.map (·.be)) else linesWf 64 r.data) && decide (r.line % 64 + r.data.length ≤ 64)
       else decide (r.data.length ≤ 3)))

/-- A step of LOAD_BLEND has the words it names (R307). -/
def Machine.LoadStep.wf (st : LoadStep) : Bool :=
  match st with
  | .header ws _ _ => ws.length == 34
  | .words ws => !ws.isEmpty
  | .verdict _ => true
  | .bankSeal _ => true
  | .reload _ => true
  | .finish => true

/-- What start-up reads has the lengths of R573 and R575. -/
def Machine.BootIn.wf (b : BootIn) : Bool := b.delays.length == 48 && b.dir.length == 8 && b.plat.length == 152

/-- The operands of a command are well formed. -/
def Instr.wf (i : Instr) : Bool :=
  match i with
  | .porstNAssert => true
  | .porstNRelease b => b.wf
  | .warmNAssert => true
  | .warmNRelease b => b.wf
  | .vddAonRise => true
  | .bootReadyWrite => true
  | .wsBypass _ => true
  | .wsExtest _ => true
  | .wsPreload _ => true
  | .wsIntestScan _ => true
  | .mbistRun _ _ => true
  | .chainSel _ _ => true
  | .trefEpochMark _ _ _ => true
  | .refLost _ => true
  | .ftStartWrite => true
  | .ftSwitchReqWrite => true
  | .keeperSyncMark => true
  | .islandSyncMark _ _ _ => true
  | .driftEvaluation _ _ _ _ _ => true
  | .islandFreqStep _ => true
  | .eventCrossingSend _ _ => true
  | .routerHeadArrive _ _ _ => true
  | .routerBodyArrive _ _ _ => true
  | .outputArbitration _ _ => true
  | .creditWordSend _ => true
  | .creditWordReceive _ => true
  | .neighbourStateChange _ _ _ => true
  | .fenceClosedReport _ _ => true
  | .gateWindowOpen _ _ => true
  | .gateUnionEnd _ => true
  | .rtForceUnreachWrite _ _ => true
  | .rtHistSelect _ _ => true
  | .rtHistClear _ _ => true
  | .rtHistClearAll _ => true
  | .niHistSelect _ _ => true
  | .niHistClear _ _ => true
  | .niHistClearAll _ => true
  | .queueSample _ => true
  | .niRequestPresent n r _ => r.wf n
  | .niTagAllocate _ => true
  | .niFenceAdmit _ _ => true
  | .injectionArbitration _ _ => true
  | .niPacketReceive _ _ errs _ => decide (errs.length ≤ 4)
  | .niSendAnswer _ _ => true
  | .initTimeout _ _ => true
  | .retryResend _ _ _ => true
  | .quarantineEnd _ _ => true
  | .niLossCommit _ => true
  | .niTagCommit _ => true
  | .niFenceSwWrite _ _ => true
  | .niTagStatusRead _ => true
  | .gtSlotStart _ => true
  | .gtSlotEnd _ => true
  | .shaperRefill _ => true
  | .shaperCommit _ => true
  | .meterCommit _ => true
  | .lidPotCloseWrite _ => true
  | .homeArbiterDecision _ errs _ => decide (errs.length ≤ 8)
  | .homePreempt _ _ => true
  | .quotaWindowStart _ => true
  | .hsArbCommit _ => true
  | .rds _ => true
  | .rdo _ => true
  | .upg _ => true
  | .rdc _ => true
  | .wri _ => true
  | .wbm _ => true
  | .evc _ => true
  | .fnc _ => true
  | .hsnp _ => true
  | .homeWaiterStart _ => true
  | .srsp _ => true
  | .sdata _ => true
  | .mdata _ => true
  | .mcmp _ => true
  | .pxdata _ => true
  | .pxcmp _ => true
  | .wdata _ => true
  | .cack _ => true
  | .cohAckTimeout _ _ => true
  | .scrubRead _ _ => true
  | .scrubLapStart _ => true
  | .hsDiagGo _ _ => true
  | .hsDiagDataWrite _ _ => true
  | .ledgerRepairReport _ => true
  | .ledgerRescan => true
  | .snps _ => true
  | .snpi _ => true
  | .snpc _ => true
  | .mrd _ => true
  | .mwr _ => true
  | .pxrd _ => true
  | .pxro _ => true
  | .pxrc _ => true
  | .pxev _ => true
  | .pxwb _ => true
  | .pxwc _ => true
  | .memrd _ _ _ _ _ => true
  | .memrddata _ _ _ _ => true
  | .meminv _ _ _ _ _ => true
  | .memclnevct _ _ _ _ => true
  | .memwr _ _ _ _ _ _ => true
  | .memwrptl _ _ _ be _ _ _ => be != 0
  | .biconflict _ _ => true
  | .memspecrd _ => true
  | .birsp _ _ _ => true
  | .h2dGo _ _ _ => true
  | .h2dData _ _ _ _ => true
  | .snpdata _ _ _ _ => true
  | .snpinv _ _ _ _ => true
  | .snpcur _ _ _ _ => true
  | .cxlIoMrd _ _ _ masks _ _ => masksWf 64 masks
  | .cxlIoMwr _ _ _ data _ _ => linesWf 64 data
  | .cxlIoCpl _ _ _ data => decide (data.length ≤ 4)
  | .cxlIoUnsupported _ _ _ => true
  | .cpaIoRequest _ _ => true
  | .mpaEcamAccess _ => true
  | .deviceMemdata _ _ _ _ _ => true
  | .deviceCmp _ _ => true
  | .deviceMwr _ _ data _ => linesWf 64 data
  | .deviceMrd _ _ _ masks _ => masksWf 64 masks
  | .deviceErrMsg _ _ => true
  | .deviceBisnp _ _ => true
  | .portIndicationRise _ => true
  | .portIndicationFall _ => true
  | .completionRecordTimeout _ _ => true
  | .claChipletPacket _ _ _ => true
  | .nreq _ _ => true
  | .portEngineStatus _ _ _ status _ data => engineStatus status && decide (data.length ≤ 4)
  | .portEngineRequest n r _ => r.wf n
  | .fluSend _ _ _ => true
  | .fluIdleTimer _ _ => true
  | .fluNew _ _ _ => true
  | .fluReplay _ _ _ => true
  | .fluInit _ _ _ => true
  | .fluBad _ _ _ _ => true
  | .nakRepeat _ _ => true
  | .linkWindowStart _ _ => true
  | .linkSilenceTimeout _ _ => true
  | .recordLimitTimeout _ _ => true
  | .preEnd _ _ => true
  | .acceptTimeout _ _ => true
  | .adapterActive _ _ _ => true
  | .adapterLeaveActive _ _ => true
  | .retrainLimitExpiry _ _ => true
  | .lkEnableWrite _ _ _ => true
  | .lkRetrainWrite _ _ => true
  | .sbWriteRequest => true
  | .sbReadRequest => true
  | .nrdx => true
  | .nwrx => true
  | .sbE5lbIssue => true
  | .sbE5ReadResponse _ _ _ => true
  | .sbE5WriteResponse _ _ => true
  | .e5TimeoutExpiry => true
  | .sbLockTimeout => true
  | .sbInboundWrite addr beats _ => beatsWf (beats.map (·.1)) addr
  | .sbInboundRead addr strobes _ _ => beatsWf strobes addr
  | .sbInboundCompletion => true
  | .sbout => true
  | .sbPulseEnd _ => true
  | .sbInputEvent _ _ => true
  | .sbInCommit => true
  | .sbInSwitchEnd _ => true
  | .sbTelemCommit => true
  | .sbTelemPoll => true
  | .sbOutCommit => true
  | .sbOutSwitchEnd _ => true
  | .sbTick _ => true
  | .stCommit => true
  | .stCheckEnd => true
  | .stRaiseEnd => true
  | .stHold _ => true
  | .stHoldDone => true
  | .stPushEnd _ _ => true
  | .stRelease _ => true
  | .stWindowLimit => true
  | .stStaleRetry _ => true
  | .stShadowReloadDone _ _ => true
  | .stLockWrite => true
  | .stModeWrite _ => true
  | .mailboxCmdWrite _ => true
  | .doorbellWrite _ => true
  | .mailboxAccept _ => true
  | .commandEnd _ => true
  | .commandTimeout _ => true
  | .query _ => true
  | .readReg _ => true
  | .writeReg _ => true
  | .loadBlend _ st => st.wf
  | .commitEpoch _ => true
  | .setShaper _ => true
  | .setMeter _ => true
  | .leafCfg _ => true
  | .pmFilter _ => true
  | .snapshot _ => true
  | .domainPower _ => true
  | .quiesce _ => true
  | .quiesceOpen _ => true
  | .linkRetrainCommand _ => true
  | .faultAck _ => true
  | .fenceAgent _ => true
  | .unfence _ => true
  | .caddyFreeze _ => true
  | .caddyThaw _ => true
  | .caddyRead _ _ => true
  | .ledgerCompact _ => true
  | .ringSetup _ => true
  | .ringSetupMailboxForm _ => true
  | .ringEnable _ => true
  | .ringDisable _ => true
  | .cancel _ => true
  | .reprotect _ _ => true
  | .reprotectWaitLimit => true
  | .potCoreRestart _ => true
  | .potSramUe _ _ => true
  | .ringPoll _ => true
  | .ringEntryFetched _ => true
  | .ringAccessResponse _ _ => true
  | .ringIrqGapEnd _ => true
  | .ringStatusLineWrite _ => true
  | .tableLoad _ => true
  | .bankSeal _ => true
  | .epochArm _ => true
  | .epochArmDeadline => true
  | .epochCancel _ => true
  | .epochSwitch _ => true
  | .niLocalDrained _ => true
  | .edrain => true
  | .epochDoneMessage _ => true
  | .drainQuietTimer => true
  | .epochDrainSlow => true
  | .wakeRequest => true
  | .domainRaiseDone _ _ => true
  | .domainPowered _ => true
  | .domainReloadDone _ _ => true
  | .idleIntervalEnd _ => true
  | .domainBusyChange _ => true
  | .ktRestWrite _ _ => true
  | .ktGtMaskWrite _ _ => true
  | .lowerDrainDone _ => true
  | .domainFencesClosed _ => true
  | .domainLowerDone _ => true
  | .domainStepTimeout _ => true
  | .sideChannelMessage _ => true
  | .faultArrive => true
  | .saucerProcessEntry => true
  | .scHringResponse _ => true
  | .scIrqIntervalEnd => true
  | .scHringEnableWrite _ => true
  | .scC3LidWrite _ => true
  | .injectFault => true
  | .injectLane => true
  | .injectBuf => true
  | .injectFluCrc => true
  | .niDiagGo _ _ _ => true
  | .niDiagDataWrite _ _ _ => true
  | .tableRestore _ _ _ _ _ _ => true
  | .caddyReserve _ => true
  | .caddyRecordCommit _ => true
  | .caddyReserveTimeout _ => true
  | .leafStamp _ => true
  | .leafRecordTimeout _ _ => true
  | .leafIdRelease _ _ => true
  | .leafCommit _ => true
  | .traceEnWrite _ => true
  | .snap _ => true
  | .snapshotCopy _ => true
  | .kettleSnapshotLatch => true
  | .counterPush => true
  | .pageSettleTimeout => true
  | .collectorBankSwitch => true
  | .counterApertureRead => true
  | .pmFltCommit _ _ => true
  | .counterLatchRead _ _ => true
  | .dieBJoin _ => true
  | .joinGoWrite => true
  | .seamLossDeclare => true
  | .partSweep _ => true
  | .rejoinSweep _ => true
  | .sweepDone => true
  | .deferPoison => true
  | .poisonLine _ => true
  | .poisonDone => true
  | .glBlsDataWrite _ => true
  | .dbgSelWrite _ => true
  | .debugCaptureDone => true
  | .debugMeshRead _ _ a wide _ _ => !wide || a.toNat % 2 == 0
  | .registerWrite a wide _ => !wide || a.toNat % 2 == 0
  | .vddFabDroop _ _ => true
  | .localTimeCounterResume _ => true
  | .potBranch _ _ _ _ => true
  | .potWaitForInterrupt => true
  | .potSramCe _ => true
  | .platformWaitEnd => true
  | .platformPollLimit => true

end Sys2Proof
end

