-- ==== Sys2Proof/Safety.lean ====
section
/-! DEFINITION. What counts as a safe state and a safe run of the block. -/
namespace Sys2Proof.Machine

/-- The tables of a state are in canonical form: keys strictly rise, and no entry equals what an unlisted key reads as. -/
def State.canon (s : State) : Bool :=
  KMap.wf regReset s.regs && KMap.wf (fun _ => none) s.pend && KMap.wf (fun _ => 0) s.tab && KMap.wf (fun _ => false) s.tabBad &&
    KMap.wf Ni.reset s.ni && KMap.wf (fun _ => Router.reset) s.rt

/-- The commands that wait are well formed. -/
def State.queueWf (s : State) : Bool := s.pending.all Instr.wf

/-- A safe state: canonical tables, and a queue of well-formed commands. -/
def State.Safe (s : State) : Prop := s.canon = true ∧ s.queueWf = true

/-- A run of k steps ends in a state: no fault and no refusal on the way. -/
def runs (k : Nat) (s t : State) : Prop := core.run k s = .next t

/-! ### Words of the claims -/

/-- The components of the state, by which a claim names what a command may change. -/
inductive Part where
  | pending | free | pins | wrapA | wrapB | uptime | regs | pend | tab | tabBad | time | isl | ev | rt | ni | port | slice | lk | dom | sb | kt | st | cd | tr | sc | pot | pm | dbg | latch | dbgLatch | chk | seamDown | wire | cwire | owed | used | allHeld | held | nbrBase | wakeQ
  deriving DecidableEq, Repr

/-- Every component of one list is in another. -/
def Part.sub (ps qs : List Part) : Bool := ps.all (fun p => qs.contains p)

/-- The state with the components of a list blanked. -/
def State.rest (s : State) (ps : List Part) : State :=
  { pending := if ps.contains .pending then State.reset.pending else s.pending
    free := if ps.contains .free then State.reset.free else s.free
    pins := if ps.contains .pins then State.reset.pins else s.pins
    wrapA := if ps.contains .wrapA then State.reset.wrapA else s.wrapA
    wrapB := if ps.contains .wrapB then State.reset.wrapB else s.wrapB
    uptime := if ps.contains .uptime then State.reset.uptime else s.uptime
    regs := if ps.contains .regs then State.reset.regs else s.regs
    pend := if ps.contains .pend then State.reset.pend else s.pend
    tab := if ps.contains .tab then State.reset.tab else s.tab
    tabBad := if ps.contains .tabBad then State.reset.tabBad else s.tabBad
    time := if ps.contains .time then State.reset.time else s.time
    isl := if ps.contains .isl then State.reset.isl else s.isl
    ev := if ps.contains .ev then State.reset.ev else s.ev
    rt := if ps.contains .rt then State.reset.rt else s.rt
    ni := if ps.contains .ni then State.reset.ni else s.ni
    port := if ps.contains .port then State.reset.port else s.port
    slice := if ps.contains .slice then State.reset.slice else s.slice
    lk := if ps.contains .lk then State.reset.lk else s.lk
    dom := if ps.contains .dom then State.reset.dom else s.dom
    sb := if ps.contains .sb then State.reset.sb else s.sb
    kt := if ps.contains .kt then State.reset.kt else s.kt
    st := if ps.contains .st then State.reset.st else s.st
    cd := if ps.contains .cd then State.reset.cd else s.cd
    tr := if ps.contains .tr then State.reset.tr else s.tr
    sc := if ps.contains .sc then State.reset.sc else s.sc
    pot := if ps.contains .pot then State.reset.pot else s.pot
    pm := if ps.contains .pm then State.reset.pm else s.pm
    dbg := if ps.contains .dbg then State.reset.dbg else s.dbg
    latch := if ps.contains .latch then State.reset.latch else s.latch
    dbgLatch := if ps.contains .dbgLatch then State.reset.dbgLatch else s.dbgLatch
    chk := if ps.contains .chk then State.reset.chk else s.chk
    seamDown := if ps.contains .seamDown then State.reset.seamDown else s.seamDown
    wire := if ps.contains .wire then State.reset.wire else s.wire
    cwire := if ps.contains .cwire then State.reset.cwire else s.cwire
    owed := if ps.contains .owed then State.reset.owed else s.owed
    used := if ps.contains .used then State.reset.used else s.used
    allHeld := if ps.contains .allHeld then State.reset.allHeld else s.allHeld
    held := if ps.contains .held then State.reset.held else s.held
    nbrBase := if ps.contains .nbrBase then State.reset.nbrBase else s.nbrBase
    wakeQ := if ps.contains .wakeQ then State.reset.wakeQ else s.wakeQ }

/-- Nothing differs but the components of a list. -/
def State.only (s t : State) (ps : List Part) : Prop := t.rest ps = s.rest ps

/-- The wrapper of a die (R42). -/
def State.wrapAt (s : State) : Die → Wrapper
  | .a => s.wrapA
  | .b => s.wrapB

/-- The event crossing with key k: side k mod 5 of island k / 5 (R76). -/
def State.evAt (s : State) (k : Nat) : EvXing := KMap.get (fun _ => ⟨0⟩) s.ev k

/-- Every stored register keeps its value, those of a list apart. -/
def State.regsKeep (s t : State) (os : List Nat) : Prop := ∀ o, o ∉ os → t.rd o = s.rd o

/-- Nothing but the register file differs, and of that only the registers of a list. -/
def State.onlyRegs (s t : State) (os : List Nat) : Prop := t = { s with regs := t.regs } ∧ s.regsKeep t os

/-- Nothing but the wrapper of a die differs. -/
def State.onlyWrap (s t : State) (die : Die) : Prop :=
  t = { s with wrapA := t.wrapA, wrapB := t.wrapB } ∧ ∀ d, d ≠ die → t.wrapAt d = s.wrapAt d

/-- Every NI but one is as before. -/
def State.nisKeep (s t : State) (n : Nat) : Prop := ∀ m, m ≠ n → t.niAt m = s.niAt m

/-- The injection queue of a priority, or of a flow (R279). -/
def Ni.queueFor (u : Ni) (pri : Nat) (flow : Option Nat) : List QPkt :=
  match flow with
  | some f => (u.flow f).q
  | none => if pri = 2 then u.p2 else if pri = 1 then u.p1 else u.p0

/-- Home slice h runs and can open a transaction for a line: none holds it, its set is not in broadcast mode, its set's tag copies agree and none of its ways awaits a
recovery of that line; a record and two staging lines are free, and every record has the staging lines that it needs (R204, R205, R232, R237, R247, R261). -/
def State.homeReady (s : State) (h line : Nat) : Prop :=
  let x := s.sliceAt h
  let set := setOf line
  s.runs (48 + h) = true ∧ x.busy line = none ∧ x.bcast set = false ∧ x.recs.length < 256 ∧ (∀ r ∈ x.recs, r.staged = true) ∧
    (∀ k, k < 8 → dirW x.tag0 (set * 8 + k) = dirW x.tag1 (set * 8 + k)) ∧ x.lineLost line = false ∧ s.stgUsed h + 2 ≤ 512

/-- Home slice h can open a transaction for a line, and no request waits for the line (R204). -/
def State.homeIdle (s : State) (h line : Nat) : Prop := s.homeReady h line ∧ ∀ w ∈ (s.sliceAt h).waits, w.p.h.line ≠ line

/-- The MAINT transfer of home slice h comes to its last beat with a piece of work in front, and no transaction of the slice has anything to send (R249, R251). -/
def State.maintEnds (s : State) (h : Nat) (m : Maint) (rest : List (Maint × Nat)) : Prop :=
  let x := s.sliceAt h
  s.runs (48 + h) = true ∧ (∃ b, x.cur = some ⟨5, b, false⟩) ∧ (∃ a, x.maint = (m, a) :: rest) ∧ ∀ r ∈ x.recs, r.staged = true ∧ r.unsent = []

/-- A request is one that its home accepts (R193), for a line in a target's memory (R235). -/
def State.homeMemory (s : State) (h : Nat) (q : Hdr) (target : Nat) : Prop :=
  let bank := (s.bankOf (sliceNi h) q.epoch.toNat).1
  s.accepts h bank q none = true ∧ s.proxyOf h bank q.line = none ∧ ∃ k, s.memTarget h bank q.line = some (k, target)

/-- NI n has handed to it an answer for a destination, on a VN, of an opcode and a RESP. -/
def State.answers (s : State) (n dest vn op resp : Nat) : Prop :=
  ∃ a ∈ (s.niAt n).answers, a.dest = dest ∧ a.p.h.vn.toNat = vn ∧ a.p.h.opcode.toNat = op ∧ a.p.h.resp = resp

/-- A demand with an identifier and opcode is with NI n, on its way to a destination. -/
def State.demands (s : State) (n dest op id : Nat) : Prop :=
  ∃ a ∈ (s.niAt n).answers, a.dest = dest ∧ a.p.h.vn.toNat = Vn.SNP ∧ a.p.h.opcode.toNat = op ∧ a.ident = id

/-- A request of a home slice has been taken from its NI: only the slice, its NI and registers may differ, and no other slice or NI. -/
def State.homeFrame (s t : State) (h : Nat) : Prop :=
  s.only t [.regs, .ni, .slice] ∧ s.nisKeep t (sliceNi h) ∧ ∀ h', h' ≠ h → t.sliceAt h' = s.sliceAt h'

/-- A request that NI n takes now passes steps 1 to 5 of R149 toward a destination: no fence, no hold, no failed check, no meter that drops it; it has a packet. -/
def State.passesTo (s : State) (n : Nat) (r : Req) (dest : Nat) : Prop :=
  let b := (s.niAt n).ep.bank
  s.admits n = true ∧ s.niFenced n = false ∧ s.agentFenced n r.agent = false ∧ (s.niAt n).strain.hold = false ∧ (s.niAt n).strain.stale = false ∧
    (s.strainer n b r.vn r.opcode r.agent r.priv r.line = .pass ∨ s.strainer n b r.vn r.opcode r.agent r.priv r.line = .byDefault) ∧
    s.decodeMap n b r.vn r.opcode r.line = .to dest ∧ (s.routeTo n b dest).isSome = true ∧ (s.niAt n).comps = [] ∧ r.machine = none ∧ ¬(r.vn = Vn.REQ ∧ r.opcode = 8) ∧ r.pieces ≠ [] ∧
    (niHasMeter n = true → bit ((s.niAt n).meter (s.meterOf n r.agent)).rate 62 = false)

/-- A request has joined those that wait for step 6 at NI n, with all its pieces to send. -/
def State.waitsFor (s t : State) (n : Nat) (r : Req) (dest : Nat) : Prop :=
  ∃ v, (t.niAt n).wait = (s.niAt n).wait ++ [v] ∧ v.r = r ∧ v.dest = dest ∧ v.todo = r.pieces

/-- A coherent request of a host or chiplet, with its request word and write mask. -/
def cohReq (op : Nat) (w : W64) (line : Nat) (data : List Body) (mask : W64) : Req :=
  { vn := Vn.REQ, opcode := op, agent := 0, priv := false, origin := false, line := line, data := data,
    pl := lineOfWords (if op = 5 then [setBits w 4 4 0, mask] else [setBits w 4 4 0]), machine := none, ident := 0 }

/-- A port has taken a request of the party outside: it is open under the port's next identifier, and waits at the NI toward its destination. -/
def State.opensReq (s t : State) (n : Nat) (k : ExtKind) (tag : Nat) (keep : List Body) (r : Req) (dest : Nat) : Prop :=
  (t.portAt n).opens = (if r.posted = true then (s.portAt n).opens else (s.portAt n).opens ++ [⟨(s.portAt n).next, k, tag, r.line, keep, none⟩]) ∧
    (t.portAt n).next = (s.portAt n).next + 1 ∧ s.waitsFor t n (s.identify n { r with ident := (s.portAt n).next }) dest ∧ s.nisKeep t n

/-- A boundary port has presented messages outside, and no other port differs. -/
def State.portSays (s t : State) (n : Nat) (ms : List PortMsg) : Prop :=
  (t.portAt n).out = (s.portAt n).out ++ ms ∧ ∀ m, m ≠ n → t.portAt m = s.portAt m

/-- NI n has handed to it an MGT message for a destination, of an opcode and with these payload words (R108). -/
def State.tells (s : State) (n dest op : Nat) (ws : List W64) : Prop :=
  ∃ a ∈ (s.niAt n).answers, a.dest = dest ∧ a.p.h.vn.toNat = Vn.MGT ∧ a.p.h.opcode.toNat = op ∧ ∀ k, k < ws.length → a.p.word k = ws.getD k 0

/-- Kinds of fault that the Saucer's receiving a message makes firmware act on: paths lost and regained, and a far write that failed (R164, R270). -/
def pathKinds : List FaultKind :=
  [.KT_DOMAIN_FAIL, .LINK_RETRAIN, .LINK_RESUMED, .LINK_WIDTH, .LINK_LOST, .PORT_DOWN, .PORT_UP, .SB_FAR_WRITE]

/-- A command of an issuer is there with an opcode and may start at the Pot (R453). -/
def State.runs1 (s : State) (c op : Nat) (x : PotCmd) : Prop := s.pot.cmd c = some x ∧ x.op = op ∧ s.pot.mayStart c = true ∧ s.domOn 64 = true

/-- The command of an issuer has come to its end, with a status and result words (R450). -/
def State.ended (s : State) (c code : Nat) (rsp : List W64) : Prop := ∃ y, s.pot.cmd c = some y ∧ y.started = true ∧ y.res = some (code, rsp)

end Sys2Proof.Machine

namespace Sys2Proof

/-- The commands at a reset pin or a rail (R29 to R37). -/
def Instr.isReset : Instr → Bool
  | .porstNAssert | .porstNRelease _ | .warmNAssert | .warmNRelease _ | .vddAonRise => true
  | _ => false

/-- The commands of the test wrappers (R42). -/
def Instr.ofWrapper : Instr → Bool
  | .wsBypass _ | .wsExtest _ | .wsPreload _ | .wsIntestScan _ | .mbistRun _ _ | .chainSel _ _ => true
  | _ => false

/-- The commands that may change the keeper of fabric time: its references and marks, and register writes, of which a debug write that an NI receives is one (chapter 2). -/
def Instr.ofTime : Instr → Bool
  | .trefEpochMark _ _ _ | .refLost _ | .ftStartWrite | .ftSwitchReqWrite | .keeperSyncMark | .driftEvaluation _ _ _ _ _ | .niPacketReceive _ _ _ _
  | .registerWrite _ _ _ => true
  | _ => false

/-- The commands that may change an island: its marks and steps, an epoch switch, and a domain that comes up or goes down (R50 to R66). -/
def Instr.ofIslands : Instr → Bool
  | .islandSyncMark _ _ _ | .islandFreqStep _ | .epochSwitch _ | .epochDoneMessage _ | .domainRaiseDone _ _ | .domainReloadDone _ _
  | .domainLowerDone _ | .domainStepTimeout _ | .dieBJoin _ | .localTimeCounterResume _ => true
  | _ => false

/-- The commands that may write the branch trace: those of the Pot core, a freeze of the Caddy, a domain that comes up or goes down, and register writes (R543, R544). -/
def Instr.ofTrace : Instr → Bool
  | .niPacketReceive _ _ _ _ | .potCoreRestart _ | .potSramUe _ _ | .domainRaiseDone _ _ | .domainReloadDone _ _ | .domainLowerDone _
  | .domainStepTimeout _ | .caddyRecordCommit _ | .traceEnWrite _ | .dieBJoin _ | .registerWrite _ _ _ | .potBranch _ _ _ _ | .potWaitForInterrupt => true
  | _ => false

/-- The commands of the debug view (R595 to R599). -/
def Instr.ofDebug : Instr → Bool
  | .dbgSelWrite _ | .debugCaptureDone => true
  | _ => false

/-- The commands that may write a table of an NI: loads, restores and reloads, a domain that comes up or goes down, and register writes (R309, R436, R497). -/
def Instr.ofTables : Instr → Bool
  | .niPacketReceive _ _ _ _ | .stPushEnd _ _ | .stShadowReloadDone _ _ | .loadBlend _ _ | .tableLoad _ | .domainRaiseDone _ _ | .domainReloadDone _ _
  | .domainLowerDone _ | .domainStepTimeout _ | .niDiagDataWrite _ _ _ | .tableRestore _ _ _ _ _ _ | .dieBJoin _ | .registerWrite _ _ _ => true
  | _ => false

/-- The commands that may change the Strainer: its own, those that restart the Pot core, a domain that comes up or goes down, a seam that is lost, and register writes (R434 to R443). -/
def Instr.ofStrainer : Instr → Bool
  | .bootReadyWrite | .niPacketReceive _ _ _ _ | .stCommit | .stCheckEnd | .stRaiseEnd | .stHoldDone | .stPushEnd _ _ | .stRelease _ | .stWindowLimit
  | .stShadowReloadDone _ _ | .stLockWrite | .reprotect _ _ | .potCoreRestart _ | .potSramUe _ _ | .domainRaiseDone _ _ | .domainReloadDone _ _
  | .domainLowerDone _ | .domainStepTimeout _ | .dieBJoin _ | .seamLossDeclare | .registerWrite _ _ _ => true
  | _ => false

/-- The commands that may change the Service Bridge: its own, requests its NI does not serve, NRDX and NWRX to it, a domain that comes up or goes down, and register writes (chapter 12). -/
def Instr.ofBridge : Instr → Bool
  | .bootReadyWrite | .niRequestPresent _ _ _ | .niPacketReceive _ _ _ _ | .sbWriteRequest | .sbReadRequest | .nrdx | .nwrx | .sbE5lbIssue | .sbE5ReadResponse _ _ _
  | .sbE5WriteResponse _ _ | .e5TimeoutExpiry | .sbLockTimeout | .sbInboundWrite _ _ _ | .sbInboundCompletion | .sbout | .sbPulseEnd _
  | .sbInputEvent _ _ | .sbInCommit | .sbInSwitchEnd _ | .sbTelemCommit | .sbTelemPoll | .sbOutCommit | .sbOutSwitchEnd _ | .sbTick _
  | .domainRaiseDone _ _ | .domainReloadDone _ _ | .domainLowerDone _ | .domainStepTimeout _ | .dieBJoin _ | .registerWrite _ _ _ => true
  | _ => false

/-- The commands that may change a link controller: its own, LINK_RETRAIN, a domain that comes up or goes down, a seam that is lost, and register writes (chapter 11). -/
def Instr.ofLinks : Instr → Bool
  | .bootReadyWrite | .niPacketReceive _ _ _ _ | .fluSend _ _ _ | .fluIdleTimer _ _ | .fluNew _ _ _ | .fluReplay _ _ _ | .fluInit _ _ _
  | .fluBad _ _ _ _ | .nakRepeat _ _ | .linkWindowStart _ _ | .linkSilenceTimeout _ _ | .recordLimitTimeout _ _ | .preEnd _ _ | .acceptTimeout _ _
  | .adapterActive _ _ _ | .adapterLeaveActive _ _ | .retrainLimitExpiry _ _ | .lkEnableWrite _ _ _ | .lkRetrainWrite _ _ | .linkRetrainCommand _
  | .domainPowered _ | .domainRaiseDone _ _ | .domainReloadDone _ _ | .domainLowerDone _ | .domainStepTimeout _ | .dieBJoin _ | .seamLossDeclare | .registerWrite _ _ _ => true
  | _ => false

/-- The commands that may change a power domain: those of the Kettle, and loads and checks that wake one (chapter 15). -/
def Instr.ofDomains : Instr → Bool
  | .fenceClosedReport _ _ | .niPacketReceive _ _ _ _ | .stCheckEnd | .loadBlend _ _ | .domainPower _ | .edrain | .drainQuietTimer | .wakeRequest
  | .domainRaiseDone _ _ | .domainPowered _ | .domainReloadDone _ _ | .idleIntervalEnd _ | .domainBusyChange _ | .ktRestWrite _ _ | .ktGtMaskWrite _ _
  | .lowerDrainDone _ | .domainFencesClosed _ | .domainLowerDone _ | .domainStepTimeout _ | .dieBJoin _ | .registerWrite _ _ _ => true
  | _ => false

/-- The commands that may change a home slice: its own, a quota window, diagnostic accesses, the repair ledger's reports and rescans, snapshots, sweeps, a domain that comes up or goes down, and register writes (chapter 7). -/
def Instr.ofSlices : Instr → Bool
  | .niPacketReceive _ _ _ _ | .homeArbiterDecision _ _ _ | .homePreempt _ _ | .quotaWindowStart _ | .hsArbCommit _ | .rds _ | .rdo _ | .upg _
  | .rdc _ | .wri _ | .wbm _ | .evc _ | .fnc _ | .hsnp _ | .homeWaiterStart _ | .srsp _ | .sdata _ | .mdata _ | .mcmp _ | .pxdata _ | .pxcmp _
  | .wdata _ | .cack _ | .cohAckTimeout _ _ | .scrubRead _ _ | .scrubLapStart _ | .hsDiagGo _ _ | .hsDiagDataWrite _ _ | .ledgerRepairReport _ | .ledgerRescan | .domainRaiseDone _ _ | .domainReloadDone _ _
  | .domainLowerDone _ | .domainStepTimeout _ | .snap _ | .snapshotCopy _ | .dieBJoin _ | .partSweep _ | .rejoinSweep _ | .registerWrite _ _ _ => true
  | _ => false

/-- The commands that may change the collector: its own, SNAP, and a domain that comes up or goes down (R566). -/
def Instr.ofCollector : Instr → Bool
  | .domainRaiseDone _ _ | .domainReloadDone _ _ | .domainLowerDone _ | .domainStepTimeout _ | .snap _ | .kettleSnapshotLatch | .counterPush
  | .pageSettleTimeout | .collectorBankSwitch | .dieBJoin _ => true
  | _ => false

/-- The commands after which an output of the macro may differ: start-up, faults, and what may raise one of class C4 (R32, R36). -/
def Instr.ofPins : Instr → Bool
  | .bootReadyWrite | .niPacketReceive _ _ _ _ | .domainRaiseDone _ _ | .domainReloadDone _ _ | .domainStepTimeout _ | .faultArrive
  | .saucerProcessEntry | .injectFault | .registerWrite _ _ _ => true
  | _ => false

end Sys2Proof
end

