-- ==== Sys2Proof/Certificates/Slice0/Obligations.lean ====
section
/-! DEFINITION. The statements about the model, for the provers. -/
open Sys2Proof Sys2Proof.Machine

/-- Commands wait in a queue, first in first out: a step takes the command at the front and runs it with the queue's rest. -/
def Obligations.StepRunsFront : Prop :=
  ∀ (c : Instr) (s : State) (rest : List Instr),
    step (s.withPending (c :: rest)) = exec c (s.withPending rest)

/-- With no command waiting one cycle of the clocks passes (log entry 5, the model's choice): cycles count; once it runs the keeper's time advances at its rate, slewed by at most 200 ppm, 16 of
80,000 parts of a cycle, while a phase error remains, never stepping or decreasing (R52, R71); and each event crossing whose receiver is clocked delivers one of the events that wait at it
(R76). -/
def Obligations.EmptyQueueTicks : Prop :=
  ∀ s : State, s.pending = [] → KMap.sortedFrom 0 s.ev = true →
    let r : Int := max (-16) (min 16 s.time.slew)
    ∃ t, step s = .next t ∧ t.uptime = s.uptime + 1 ∧ (s.time.running = false → t.time = s.time) ∧
      (s.time.running = true → t.time = { s.time with now := t.time.now, frac := t.time.frac, slew := s.time.slew - r } ∧ s.time.now ≤ t.time.now ∧
        t.time.frac < 80000 ∧ (80000 * t.time.now + t.time.frac : Int) = 80000 * s.time.now + s.time.frac + 80000 - r) ∧
      (∀ k, (t.evAt k).waiting = (if s.evGoes k = true then (s.evAt k).waiting - 1 else (s.evAt k).waiting)) ∧
      t = { s with uptime := t.uptime, time := t.time, ev := t.ev }

/-- The state after reset is canonical, with no command waiting; the pins are as VDD_AON leaves them, both reset inputs of the macro unserved: PORST_N low, FATAL low, FABRIC_READY low (R31,
R37); every register has the reset value of its definition, no table entry is written, the Caddy is cleared (R529) and fabric time does not run (R60). -/
def Obligations.ResetState : Prop :=
  let s := State.reset
  s.canon = true ∧ s.queueWf = true ∧ s.pending = [] ∧ s.pins.porstN = false ∧ s.pins.fatal = false ∧ s.pins.ready = false ∧ (∀ o, s.rd o = regReset o) ∧ (∀ o, s.pendOf o = regReset o) ∧
    s.cd = Caddy.cleared ∧ s.time.running = false ∧ (∀ n, s.niAt n = Ni.reset n) ∧ (∀ d, s.domAt d = Domain.reset) ∧ (∀ i, s.islAt i = Island.reset) ∧ s.pot.cmds = [] ∧ s.sc.queue = [] ∧ s.sc.opens = [] ∧ s.sc.seq = 1

/-- Every command completes, and none but a step touches the queue. Apart from the commands at a reset pin or rail, each unit's state changes only by the commands that the spec gives it: the
uptime by none; a wrapper by its own instructions (R42), fabric time, the islands, the trace, the debug view, the tables, the Strainer, the bridge, the links, the domains, the slices, the
collector and the outputs by the commands named for them. -/
def Obligations.EveryCommand : Prop :=
  ∀ (c : Instr) (s : State), ∃ t, exec c s = .next t ∧ t.pending = s.pending ∧
    (c.isReset = false → t.uptime = s.uptime ∧ t.allHeld = s.allHeld ∧ t.nbrBase = s.nbrBase ∧
      (c.ofWrapper = false → t.wrapA = s.wrapA ∧ t.wrapB = s.wrapB) ∧ (c.ofTime = false → t.time = s.time) ∧ (c.ofIslands = false → t.isl = s.isl) ∧ (c.ofTrace = false → t.tr = s.tr) ∧
      (c.ofDebug = false → t.dbg = s.dbg) ∧ (c.ofTables = false → t.tab = s.tab) ∧ (c.ofStrainer = false → t.st = s.st) ∧ (c.ofBridge = false → t.sb = s.sb) ∧ (c.ofLinks = false → t.lk = s.lk) ∧
      (c.ofDomains = false → t.dom = s.dom) ∧ (c.ofSlices = false → t.slice = s.slice) ∧ (c.ofCollector = false → t.pm = s.pm) ∧ (c.ofPins = false → t.pins = s.pins))

/-- R37: FATAL stays high through every step, resets included, until VDD_AON rises; then it is low. -/
def Obligations.FatalStays : Prop :=
  ∀ s : State,
    (s.pins.fatal = true → s.pending.head? ≠ some .vddAonRise → ∃ t, step s = .next t ∧ t.pins.fatal = true) ∧
    (∃ t, exec .vddAonRise s = .next t ∧ t.pins.fatal = false)

/-- R536, R517: once a freeze by C4 is complete the Caddy keeps every record it holds and takes none, whatever step follows, until VDD_AON rises. -/
def Obligations.CaddyFreezeStays : Prop :=
  ∀ s : State, let sealed := fun t : State => t.cd.frozen = true ∧ t.cd.byC4 = true ∧ t.cd.freezing = false ∧ ∀ e ∈ t.cd.ports, e.2.resv = none
    sealed s → s.pending.head? ≠ some .vddAonRise → ∃ t, step s = .next t ∧ sealed t ∧ t.cd.slots = s.cd.slots ∧ t.cd.wptr = s.cd.wptr ∧ t.cd.newest = s.cd.newest

/-- R29: the macro samples TEST_MODE and DEBUG_EN when PORST_N deasserts, and ignores any change in them until PORST_N is next asserted: no other command changes what it sampled, but for
VDD_AON_RISE, after which PORST_N is asserted. -/
def Obligations.TestModeSampled : Prop :=
  ∀ s : State,
    (∀ b, s.pins.porstN = false → ∃ t, exec (.porstNRelease b) s = .next t ∧ t.pins.porstN = true ∧ t.pins.testMode = b.testMode ∧ t.pins.debugEn = b.debugEn) ∧
    (∀ b, s.pins.porstN = true → exec (.porstNRelease b) s = .next s) ∧
    (∀ c, (∀ b, c ≠ .porstNRelease b) → c ≠ .vddAonRise → ∃ t, exec c s = .next t ∧ t.pins.testMode = s.pins.testMode ∧ t.pins.debugEn = s.pins.debugEn) ∧
    (∃ t, exec .vddAonRise s = .next t ∧ t.pins.porstN = false)

/-- R113: a credit return that would raise a count above its lane depth leaves the count at the lane depth, and the sender, the router or NI at the other end of the link, reports
CREDIT_OVERFLOW. -/
def Obligations.CreditOverflow : Prop :=
  ∀ (s : State) (k : LinkPort) (w : BitVec 24) (rest : List (BitVec 24)) (v : Nat) (gt : Bool), KMap.get (fun _ => []) s.cwire k.key = w :: rest → v < 8 →
    s.runs k.sender = true → s.linkHeld k.key = false → s.usedAt k.key v gt < creditOf w v gt → let n := match k with
        | .tile t p => (portNi t p).getD (tileL0 (portPeer t p))
        | .ni n => tileL0 (niTile n)
      ∃ u, exec (.creditWordReceive k) s = .next u ∧ u.usedAt k.key v gt = 0 ∧ u.credit k.key v gt = laneDepth v gt ∧
        ((s.niAt n).mgt.length < 8 → ∃ q ∈ (u.niAt n).mgt, isFaultPkt q.p = true ∧ bits (q.p.word 0) 44 8 = FaultKind.CREDIT_OVERFLOW.code) ∧ s.nisKeep u n

/-- R42, R43: each wrapper instruction is loaded into the wrapper of its die and nothing else differs. While it acts, WS_EXTEST drives what the boundary cells hold and captures into them,
WS_PRELOAD loads them without driving, WS_INTEST_SCAN shifts bits into the selected chain, MBIST_RUN leaves its verdict and CHAIN_SEL the chain number; WS_BYPASS shifts its one bit. Loaded
while PORST_N is high, or needing TEST_MODE without it, an instruction acts as WS_BYPASS, and so does a reserved value; once PORST_N falls the instruction loaded last acts. -/
def Obligations.WrapperInstructions : Prop :=
  ∀ (die : Die) (s : State),
    (∀ b, ∃ t, exec (.wsBypass (die, b)) s = .next t ∧ t.wrapAt die = { s.wrapAt die with wir := 0x00, late := false, due := none, driven := none, bypass := b } ∧
      (t.wrapAt die).acts s.pins.testMode = 0x00 ∧ s.onlyWrap t die) ∧
    (∀ c, ∃ t, exec (.wsExtest (die, c)) s = .next t ∧ (t.wrapAt die).acts s.pins.testMode = (if s.pins.porstN then 0x00 else 0x01) ∧
      t.wrapAt die = (if s.pins.porstN then { s.wrapAt die with wir := 0x01, late := true, due := some (.capture c), driven := none }
        else { s.wrapAt die with wir := 0x01, late := false, due := none, driven := some (s.wrapAt die).cells, cells := c }) ∧ s.onlyWrap t die) ∧
    (∀ b, ∃ t, exec (.wsPreload (die, b)) s = .next t ∧ (t.wrapAt die).acts s.pins.testMode = (if s.pins.porstN then 0x00 else 0x02) ∧
      t.wrapAt die = (if s.pins.porstN then { s.wrapAt die with wir := 0x02, late := true, due := some (.shift b), driven := none }
        else { s.wrapAt die with wir := 0x02, late := false, due := none, driven := none, cells := b }) ∧ s.onlyWrap t die) ∧
    (∀ b, ∃ t, exec (.wsIntestScan (die, b)) s = .next t ∧ (t.wrapAt die).acts s.pins.testMode = (if s.pins.porstN || !s.pins.testMode then 0x00 else 0x10) ∧
      t.wrapAt die = (if s.pins.porstN || !s.pins.testMode then { s.wrapAt die with wir := 0x10, late := s.pins.porstN, due := some (.shift b), driven := none }
        else { s.wrapAt die with wir := 0x10, late := false, due := none, driven := none, scan := b }) ∧ s.onlyWrap t die) ∧
    (∀ pass, ∃ t, exec (.mbistRun die pass) s = .next t ∧ (t.wrapAt die).acts s.pins.testMode = (if s.pins.porstN || !s.pins.testMode then 0x00 else 0x11) ∧
      t.wrapAt die = (if s.pins.porstN || !s.pins.testMode then { s.wrapAt die with wir := 0x11, late := s.pins.porstN, due := some (.verdict pass), driven := none }
        else { s.wrapAt die with wir := 0x11, late := false, due := none, driven := none, mbist := some pass }) ∧ s.onlyWrap t die) ∧
    (∀ c, ∃ t, exec (.chainSel die c) s = .next t ∧ (t.wrapAt die).acts s.pins.testMode = (if s.pins.porstN || !s.pins.testMode then 0x00 else 0x12) ∧
      t.wrapAt die = (if s.pins.porstN || !s.pins.testMode then { s.wrapAt die with wir := 0x12, late := s.pins.porstN, due := some (.chainNo c), driven := none }
        else { s.wrapAt die with wir := 0x12, late := false, due := none, driven := none, chain := c }) ∧ s.onlyWrap t die) ∧
    (∀ w : Wrapper, w.wir ∉ [0x01, 0x02, 0x10, 0x11, 0x12] → w.acts s.pins.testMode = 0x00) ∧
    (s.pins.porstN = true → ∃ t, exec .porstNAssert s = .next t ∧ (t.wrapAt die).wir = (s.wrapAt die).wir ∧ (t.wrapAt die).late = false ∧
      (∀ pass, s.pins.testMode = true → (s.wrapAt die).wir = 0x11 → (s.wrapAt die).due = some (.verdict pass) → (t.wrapAt die).mbist = some pass) ∧
      (∀ c, (s.wrapAt die).wir = 0x01 → (s.wrapAt die).due = some (.capture c) → (t.wrapAt die).driven = some (s.wrapAt die).cells ∧ (t.wrapAt die).cells = c))

/-- R30, R31, R35, R37, R569: as PORST_N or WARM_N falls, FABRIC_READY falls and what is in flight is dropped; registers return to their reset values but for those of the Caddy, and of a
warm reset TREE_DELAY, MAX_STRETCH and ST_WINDOW.MAX_NS (log entry 12); FATAL is held; fabric time is kept by a warm reset only; a warm reset does not start while PORST_N is low, and a pin that is low already
does nothing. The Lids that the Saucer closed stay closed while FATAL is high (R517). VDD_AON_RISE clears the Caddy and FATAL as well. -/
def Obligations.ResetAsserted : Prop :=
  (∀ s : State, s.pins.porstN = true →
    ∃ t, exec .porstNAssert s = .next t ∧ t.pins = { s.pins with porstN := false, ready := false, coldDue := true } ∧
      (∀ o, ¬(0x380000 ≤ o ∧ o < 0x400000) → (s.pins.fatal = true → o ≠ Off.GL_LID_CTRL) → t.rd o = regReset o) ∧
      (s.pins.fatal = true → t.fld Off.GL_LID_CTRL Fld.GL_LID_CTRL.SAUCER = 15) ∧ t.cd.frozen = s.cd.frozen ∧ t.cd.wptr = s.cd.wptr ∧ t.cd.newest = s.cd.newest ∧
      t.time = Keeper.reset ∧ t.wire = [] ∧ t.ni = [] ∧ t.rt = [] ∧ t.slice = [] ∧ t.lk = [] ∧ t.dom = [] ∧ t.tab = [] ∧ t.pend = [] ∧
      t.st = Strainer.reset ∧ t.kt = Kettle.reset ∧ t.sc = Saucer.reset ∧ t.pending = s.pending) ∧
  (∀ s : State, s.pins.porstN = true → s.pins.warmN = true →
    ∃ t, exec .warmNAssert s = .next t ∧ t.pins = { s.pins with warmN := false, ready := false } ∧
      (∀ o, ¬(0x380000 ≤ o ∧ o < 0x400000) → (s.pins.fatal = true → o ≠ Off.GL_LID_CTRL) → o ≠ Off.ST_WINDOW → t.rd o =
        if 0x10C000 ≤ o ∧ o < 0x10CC00 ∧ (o % 64 = 16 ∨ o % 64 = 8) then s.rd o else regReset o) ∧
      (s.pins.fatal = true → t.fld Off.GL_LID_CTRL Fld.GL_LID_CTRL.SAUCER = 15) ∧
      t.fld Off.ST_WINDOW Fld.ST_WINDOW.MAX_NS = s.fld Off.ST_WINDOW Fld.ST_WINDOW.MAX_NS ∧ t.sc = { Saucer.reset with injDone := s.sc.injDone } ∧
      t.time = s.time ∧ t.wire = [] ∧ t.ni = [] ∧ t.rt = [] ∧ t.slice = [] ∧ t.lk = [] ∧ t.dom = [] ∧ t.tab = [] ∧ t.pend = [] ∧
      t.pot = { Pot.reset with fwRec := s.pot.fwRec, snapNum := s.pot.snapNum } ∧ t.pending = s.pending) ∧
  (∀ s : State, s.pins.porstN = false → s.pins.warmN = true →
    exec .porstNAssert s = .next s ∧ ∃ t, exec .warmNAssert s = .next t ∧ t.pins = { s.pins with warmN := false } ∧ t = { s with pins := t.pins }) ∧
  (∀ s : State, s.pins.warmN = false → exec .warmNAssert s = .next s) ∧
  (∀ s : State, ∃ t, exec .vddAonRise s = .next t ∧
      t.pins = { State.reset.pins with warmN := s.pins.warmN } ∧ t.pins.fatal = false ∧ t.pins.porstN = false ∧ t.regs = [] ∧ t.cd = Caddy.cleared ∧
      t.wrapA = Wrapper.reset ∧ t.wrapB = Wrapper.reset ∧ t.time = Keeper.reset ∧ t.wire = [] ∧ t.ni = [] ∧ t.pending = s.pending)

/-- R29, R30, R577, R580: PORST_N's release samples the fuses; start-up runs once both pins are high, whichever is released last, and comes to STEP 10 of R577 or stops with a cause in
GL_BOOT.FAIL and the Pot halted; a boot directory that is not valid is cause 1 at step 3. While the other pin is low nothing else happens. R32, R577 step 10: BOOT_READY_WRITE raises
FABRIC_READY, writes GL_BOOT.READY and locks the protection set-up, when start-up has come to STEP 10; at no other step does it do anything. -/
def Obligations.StartUp : Prop :=
  ((∀ (s : State) (b : BootIn), s.pins.porstN = false → s.pins.warmN = false →
     (∃ t, exec (.porstNRelease b) s = .next t ∧ t.pins = { s.pins with porstN := true, testMode := b.testMode, debugEn := b.debugEn } ∧ t = { s with pins := t.pins }) ∧
     (∃ t, exec (.warmNRelease b) s = .next t ∧ t.pins = { s.pins with warmN := true } ∧ t = { s with pins := t.pins })) ∧
   (∀ (s : State) (b : BootIn) (c : Instr), (c = .porstNRelease b ∧ s.pins.porstN = false ∧ s.pins.warmN = true ∨
       c = .warmNRelease b ∧ s.pins.porstN = true ∧ s.pins.warmN = false) →
     ∃ t, exec c s = .next t ∧
       (t.fld Off.GL_BOOT Fld.GL_BOOT.STEP = 10 ∨ t.fld Off.GL_BOOT Fld.GL_BOOT.FAIL ≠ 0 ∧ t.fld Off.PT_POT_STATUS Fld.PT_POT_STATUS.STAGE = 3) ∧
       (bootDirOk b.dir = false → t.fld Off.GL_BOOT Fld.GL_BOOT.FAIL = 1 ∧ t.fld Off.GL_BOOT Fld.GL_BOOT.STEP = 3 ∧ t.pins.ready = s.pins.ready ∧
         t.pending = s.pending ∧ t.pins.porstN = true ∧ t.pins.warmN = true))) ∧
  (∀ s : State,
     (s.inReset = false → s.pins.ready = false → s.fld Off.GL_BOOT Fld.GL_BOOT.STEP = 10 → s.fld Off.GL_BOOT Fld.GL_BOOT.FAIL = 0 →
       ∃ t, exec .bootReadyWrite s = .next t ∧ t.pins = { s.pins with ready := true } ∧ t.fld Off.GL_BOOT Fld.GL_BOOT.READY = 1 ∧
         t.fld Off.ST_CTRL Fld.ST_CTRL.LOCK = 1 ∧ t.fld Off.GL_LID_CTRL Fld.GL_LID_CTRL.POT_CLOSE = 0xC ∧ t.st.wasLocked = true ∧ t.pending = s.pending) ∧
     (s.fld Off.GL_BOOT Fld.GL_BOOT.STEP ≠ 10 → exec .bootReadyWrite s = .next s))

/-- R53, R54, R58: a rising edge is an epoch mark when its high phase lasts at least 6.5 ns. FT_CTRL.START arms the start of fabric time, once; at the next correct mark of the preferred
reference, or of the other instead when the preferred one is lost or shows a mark error, the keeper takes the value of R54 for FT_EPOCH_SET.TIME_EPOCH and runs. R54, R56, R71, R72: with fabric
time running, a mark at the cycle count of R54 carries the next time epoch; a mark of the selected reference gives the keeper the phase error to remove by slewing, and one of the reference
that a switch waits for completes the switch, the keeper's time never stepping; a requested switch to a reference of more than 10 ppm drift makes confidence NOMINAL DEGRADED. A mark at any
other count is counted and reported, the next mark starts a new count, and two in a row put the reference out of tolerance. -/
def Obligations.KeeperTime : Prop :=
  ((∀ s : State, s.time.running = false → ∃ t, exec .ftStartWrite s = .next t ∧ t.time = { s.time with armed := true } ∧
     t.fld Off.FT_CTRL Fld.FT_CTRL.START = 1 ∧ s.only t [.time, .regs] ∧ s.regsKeep t [Off.FT_CTRL]) ∧
   (∀ s : State, s.time.running = true → exec .ftStartWrite s = .next s) ∧
   (∀ (s : State) (b : Bool) (high cycles : Nat) (phase : Int), s.inReset = true ∨ high < 65 → exec (.trefEpochMark b ⟨high, cycles⟩ phase) s = .next s) ∧
   (∀ (s : State) (b : Bool) (high cycles : Nat) (phase : Int), s.inReset = false → 65 ≤ high → s.time.armed = true → s.time.running = false →
     (s.time.ref b).epoch = none ∨ cycles = 104857 ∨ cycles = 104858 →
     let p := s.flag Off.FT_CTRL Fld.FT_CTRL.PREF_REF
     b = p ∧ (s.time.ref p).lost = false ∧ (s.time.ref p).errRun = 0 ∨ b = !p ∧ ((s.time.ref p).lost = true ∨ 0 < (s.time.ref p).errRun) →
     ∃ t, exec (.trefEpochMark b ⟨high, cycles⟩ phase) s = .next t ∧ t.time.running = true ∧ t.time.armed = false ∧ t.time.selB = b ∧ t.time.conf = .nominal ∧
       t.time.now = 2 ^ 20 * s.fld Off.FT_EPOCH_SET Fld.FT_EPOCH_SET.TIME_EPOCH + 4 * s.fld Off.FT_EPOCH_SET Fld.FT_EPOCH_SET.TIME_EPOCH % 10 ∧
       t.fld Off.FT_CTRL Fld.FT_CTRL.START = 0 ∧ s.only t [.time, .regs] ∧ s.regsKeep t [Off.FT_CTRL])) ∧
  (∀ (s : State) (b : Bool) (high cycles e : Nat) (phase : Int), s.inReset = false → 65 ≤ high → s.time.running = true → (s.time.ref b).epoch = some e →
     (cycles = (if e % 5 = 2 ∨ e % 5 = 4 then 104857 else 104858) → s.time.switchTo ≠ some b →
       exec (.trefEpochMark b ⟨high, cycles⟩ phase) s = .next (s.modTime (fun k =>
         { k.setRef b { s.time.ref b with epoch := some (e + 1), okNow := true, errRun := 0 } with
           slew := if s.time.selB = b ∧ s.time.conf ≠ .holdover then 5000 * phase else s.time.slew }))) ∧
     (cycles = (if e % 5 = 2 ∨ e % 5 = 4 then 104857 else 104858) → s.time.switchTo = some b →
       let asked := s.flag Off.FT_CTRL Fld.FT_CTRL.SWITCH_REQ
       ∃ t, exec (.trefEpochMark b ⟨high, cycles⟩ phase) s = .next t ∧ t.time.selB = b ∧ t.time.switchTo = none ∧ t.time.slew = 5000 * phase ∧ t.time.now = s.time.now ∧
         t.time.frac = s.time.frac ∧ (t.time.ref b).epoch = some (e + 1) ∧ t.time.ref (!b) = s.time.ref (!b) ∧
         t.time.conf = (if asked = true ∧ 160 < (s.time.ref b).drift.natAbs ∧ s.time.conf = .nominal then .degraded else s.time.conf) ∧
         (asked = true → t.fld Off.FT_CTRL Fld.FT_CTRL.SWITCH_REQ = 0) ∧ s.only t [.time, .regs, .ni, .wakeQ] ∧ (asked = false → s.only t [.time])) ∧
     (cycles ≠ (if e % 5 = 2 ∨ e % 5 = 4 then 104857 else 104858) →
       exec (.trefEpochMark b ⟨high, cycles⟩ phase) s = .next (((s.modTime (fun k => k.setRef b { s.time.ref b with
         epoch := none, errRun := (s.time.ref b).errRun + 1, out := (s.time.ref b).out || decide (2 ≤ (s.time.ref b).errRun + 1), errNow := true, good := 0 })).bump
           Off.FT_REF_ERR (if b then Fld.FT_REF_ERR.MARK_ERR_B else Fld.FT_REF_ERR.MARK_ERR_A)).reportTime .TIME_MARK_ERR 0)))

/-- R57, R70, R72: a lost reference is out of tolerance and counted; the loss of the selected one while confidence is NOMINAL or DEGRADED acts at once: a usable other reference is taken at
its next mark, with none usable the keeper holds over and the Pot's domain is kept ON (R74). A switch request is taken when the other reference is usable and refused with SWITCH_FAILED otherwise. R61: once at each multiple of 1,024
ft that it has reached the keeper emits the sync word: the mark, the confidence, and the CRC-8 of both. R69, R71: once at each time-epoch boundary that it has passed the drifts are taken against the median rate, or in HOLDOVER against
the holdover oscillator, and the first row of R69 that applies decides the confidence; fabric time is not stepped. -/
def Obligations.References : Prop :=
  ((∀ (s : State) (b : Bool), s.inReset = false → (s.time.ref b).lost = false →
     ∃ t, exec (.refLost b) s = .next t ∧ (t.time.ref b).lost = true ∧ (t.time.ref b).out = true ∧ (t.time.ref b).epoch = none ∧ t.time.ref (!b) = s.time.ref (!b) ∧
       t.time.now = s.time.now ∧ t.time.running = s.time.running ∧
       (¬(s.time.running = true ∧ s.time.selB = b ∧ (s.time.conf = .nominal ∨ s.time.conf = .degraded)) → t.time.conf = s.time.conf ∧ t.time.switchTo = s.time.switchTo ∧ s.only t [.time, .regs] ∧ s.regsKeep t [Off.FT_REF_ERR] ∧
         t.fld Off.FT_REF_ERR (if b then Fld.FT_REF_ERR.LOSS_B else Fld.FT_REF_ERR.LOSS_A) =
           satInc 65535 (s.fld Off.FT_REF_ERR (if b then Fld.FT_REF_ERR.LOSS_B else Fld.FT_REF_ERR.LOSS_A))) ∧
       (s.time.running = true → s.time.selB = b → s.time.conf = .nominal ∨ s.time.conf = .degraded →
         (if (s.time.ref (!b)).usable = true then t.time.conf = .degraded ∧ t.time.switchTo = some (!b)
           else t.time.conf = .holdover ∧ t.time.switchTo = none ∧ ((s.domAt 64).st ≠ .on → 64 ∈ t.wakeQ)) ∧
         s.only t [.time, .regs, .ni, .wakeQ])) ∧
   (∀ s : State, (s.time.ref (!s.time.selB)).usable = true → ∃ t, exec .ftSwitchReqWrite s = .next t ∧ t.time = { s.time with switchTo := some (!s.time.selB) } ∧
     t.fld Off.FT_CTRL Fld.FT_CTRL.SWITCH_REQ = 1 ∧ s.only t [.time, .regs] ∧ s.regsKeep t [Off.FT_CTRL]) ∧
   (∀ s : State, (s.time.ref (!s.time.selB)).usable = false → ∃ t, exec .ftSwitchReqWrite s = .next t ∧
     t.fld Off.FT_CTRL Fld.FT_CTRL.SWITCH_REQ = 0 ∧ t.fld Off.FT_CTRL Fld.FT_CTRL.SWITCH_FAILED = 1 ∧ s.onlyRegs t [Off.FT_CTRL])) ∧
  (∀ s : State, (s.time.running = true → bits s.time.syncWord 10 54 < s.time.now / 1024 →
       ∃ w : W64, exec .keeperSyncMark s = .next { s with time := { s.time with syncWord := w } } ∧
         bits w 10 54 = s.time.now / 1024 % 2 ^ 54 ∧ bits w 8 2 = s.time.conf.code ∧ bits w 0 8 = crc8 w) ∧
     (s.time.running = false ∨ s.time.now / 1024 ≤ bits s.time.syncWord 10 54 → exec .keeperSyncMark s = .next s)) ∧
  (∀ (s : State) (a b m ha hb : Int), s.time.running = false ∨ s.time.now / 2 ^ 20 ≤ s.time.boundary → exec (.driftEvaluation a b m ha hb) s = .next s) ∧
  (∀ (s : State) (a b m ha hb : Int), s.time.running = true → s.time.boundary < s.time.now / 2 ^ 20 →
     let std := median3 a b m
     ∃ t, exec (.driftEvaluation a b m ha hb) s = .next t ∧ t.time.now = s.time.now ∧ t.time.boundary = s.time.now / 2 ^ 20 ∧ t.time.selB = s.time.selB ∧
       t.time.refA.drift = (if s.time.conf = .holdover then ha else a - std) ∧ t.time.refB.drift = (if s.time.conf = .holdover then hb else b - std) ∧ t.time.meanDrift = m - std ∧
       (s.time.conf = .nominal ∨ s.time.conf = .degraded →
         ((t.time.ref s.time.selB).usable = false → t.time.conf = (if (t.time.ref (!s.time.selB)).usable = true then .degraded else .holdover)) ∧
         ((t.time.ref s.time.selB).usable = true → s.time.conf = .nominal →
           t.time.conf = (if 320 < (t.time.ref s.time.selB).drift.natAbs then .degraded else .nominal)) ∧
         ((t.time.ref s.time.selB).usable = true → s.time.conf = .degraded →
           t.time.conf = (if 3 ≤ s.time.goodEpochs ∧ (t.time.ref s.time.selB).drift.natAbs ≤ 160 ∧ s.time.slew.natAbs ≤ 5000 * 48 ∧ (s.time.ref s.time.selB).errNow = false
             then .nominal else .degraded))) ∧
       (s.time.conf = .holdover → t.time.conf = (if t.time.refA.good = 4 ∨ t.time.refB.good = 4 then .degraded else .holdover) ∧
         (t.time.refA.good = 4 → t.time.switchTo = some false) ∧ (t.time.refA.good ≠ 4 → t.time.refB.good = 4 → t.time.switchTo = some true)) ∧
       s.only t [.time, .regs, .ni, .wakeQ])

/-- R44, R62, R63, R64, R68: what an island does at a mark, with L its local time, T = MARK·1,024 + TREE_DELAY in units of 1/16 ft and e = L − T. A word whose CHECK fails is a missed mark, the
second in a row a slip. An island that waits for a mark takes T at once, aligned and NOMINAL. A held counter stays held while e is above 0. Else: |e| ≤ 3 ft leaves the island aligned; above
that it is unaligned and DEGRADED, set to T when it is more than 64 ft late, held when it is more than 64 ft early; L itself never decreases. R50, R63, R76, R78: a held local time counter
resumes from its value once true time reaches it; a moving island steps its frequency by at most 25 MHz toward its run frequency and ends the move there; an event waits at its crossing, where
there is one out of reset, unless three wait, when it is lost and the overrun flag is set. R45: an island whose oscillator runs keeps the largest stretch it has seen, and nothing else
changes. -/
def Obligations.IslandTime : Prop :=
  (∀ (s : State) (i : Fin 48) (drift : Int) (err : W64), s.time.running = false ∨ s.oscRuns i = false → exec (.islandSyncMark i drift err) s = .next s) ∧
  (∀ (s : State) (i : Fin 48) (drift : Int) (err : W64), s.time.running = true → s.oscRuns i = true →
     let w := s.time.syncWord ^^^ err
     let T : Nat := bits w 10 54 * 1024 * 16 + s.fld (Off.FT_ISL_DELAY i) Fld.FT_ISL_DELAY.TREE_DELAY
     let L := s.local16 i
     let e : Int := (L : Int) - T
     let hold := (s.islAt i).held = true ∧ 0 < e
     (bits w 0 8 ≠ crc8 w → ∃ t, exec (.islandSyncMark i drift err) s = .next t ∧ (t.islAt i).missedRun = (s.islAt i).missedRun + 1 ∧
       t.fld (Off.FT_ISL_STATUS i) Fld.FT_ISL_STATUS.MISSED_MARKS = satInc 65535 (s.fld (Off.FT_ISL_STATUS i) Fld.FT_ISL_STATUS.MISSED_MARKS) ∧
       (t.islAt i).conf = (if 1 ≤ (s.islAt i).missedRun ∧ (s.islAt i).takeNext = false then .degraded else (s.islAt i).conf) ∧
       t.local16 i = L ∧ (∀ j, j ≠ i.val → t.islAt j = s.islAt j) ∧ s.only t [.isl, .regs, .ni]) ∧
     (bits w 0 8 = crc8 w → (s.islAt i).takeNext = true → ∃ t, exec (.islandSyncMark i drift err) s = .next t ∧
       (t.islAt i).aligned = true ∧ (t.islAt i).conf = .nominal ∧ (t.islAt i).takeNext = false ∧ (t.islAt i).fabConf = Conf.ofCode (bits w 8 2) ∧
       t.local16 i = T ∧ (∀ j, j ≠ i.val → t.islAt j = s.islAt j) ∧ s.only t [.isl]) ∧
     (bits w 0 8 = crc8 w → (s.islAt i).takeNext = false → ∃ t, exec (.islandSyncMark i drift err) s = .next t ∧
       (t.islAt i).missedRun = 0 ∧ (t.islAt i).fabConf = Conf.ofCode (bits w 8 2) ∧
       t.fld (Off.FT_ISL_STATUS i) Fld.FT_ISL_STATUS.PHASE_ERR = unsigned 16 e ∧
       t.local16 i = (if ¬hold ∧ e < -1024 then T else L) ∧ ((t.islAt i).held = true ↔ hold ∨ 1024 < e) ∧
       ((t.islAt i).aligned = true ↔ ¬hold ∧ -48 ≤ e ∧ e ≤ 48) ∧
       (hold → (t.islAt i).goodRun = 0 ∧ (t.islAt i).conf = (s.islAt i).conf) ∧
       (¬hold → -48 ≤ e → e ≤ 48 → (t.islAt i).corr = e ∧ (t.islAt i).goodRun = (if -32 ≤ e ∧ e ≤ 32 then (s.islAt i).goodRun + 1 else 0) ∧
         (t.islAt i).conf = (if 4 ≤ (t.islAt i).goodRun then .nominal else (s.islAt i).conf)) ∧
       (¬hold → ¬(-48 ≤ e ∧ e ≤ 48) → (t.islAt i).conf = .degraded ∧ (t.islAt i).goodRun = 0 ∧ (-1024 ≤ e → e ≤ 1024 → (t.islAt i).corr = e)) ∧
       (∀ j, j ≠ i.val → t.islAt j = s.islAt j) ∧ s.only t [.isl, .regs, .ni])) ∧
  ((∀ (s : State) (i : Fin 48), let l := s.islAt i
     (l.held = true → l.takeNext = false → l.base ≤ l.tru + 16 * (s.uptime - l.since) →
       ∃ t, exec (.localTimeCounterResume i) s = .next t ∧ (t.islAt i).held = false ∧ t.local16 i = l.base ∧ (∀ j, j ≠ i.val → t.islAt j = s.islAt j) ∧ s.only t [.isl]) ∧
     (l.held = false ∨ l.takeNext = true ∨ l.tru + 16 * (s.uptime - l.since) < l.base → exec (.localTimeCounterResume i) s = .next s)) ∧
   (∀ (s : State) (i : Fin 48), (s.islAt i).moving = true →
     ∃ t, exec (.islandFreqStep i) s = .next t ∧
       (s.islAt i).curMhz - 25 ≤ (t.islAt i).curMhz ∧ (t.islAt i).curMhz ≤ (s.islAt i).curMhz + 25 ∧
       ((s.islAt i).curMhz + 25 ≤ (s.islAt i).runMhz → (t.islAt i).curMhz = (s.islAt i).curMhz + 25) ∧
       ((s.islAt i).runMhz + 25 ≤ (s.islAt i).curMhz → (t.islAt i).curMhz = (s.islAt i).curMhz - 25) ∧
       (t.islAt i).moving = ((t.islAt i).curMhz != (s.islAt i).runMhz) ∧ (t.islAt i).runMhz = (s.islAt i).runMhz ∧
       (∀ j, j ≠ i.val → t.islAt j = s.islAt j) ∧ s.only t [.isl]) ∧
   (∀ (s : State) (i : Fin 48) (side : Fin 5), let k := i.val * 5 + side.val
     (s.runs i = false ∨ evExists i side = false ∨ s.evReady k = false → exec (.eventCrossingSend i side) s = .next s) ∧
     (s.runs i = true → evExists i side = true → s.evReady k = true →
       ((s.evAt k).waiting < 3 →
         ∃ t, exec (.eventCrossingSend i side) s = .next t ∧ (t.evAt k).waiting = (s.evAt k).waiting + 1 ∧ (∀ k', k' ≠ k → t.evAt k' = s.evAt k') ∧ s.only t [.ev]) ∧
       (3 ≤ (s.evAt k).waiting →
         exec (.eventCrossingSend i side) s = .next (if s.fld (Off.FT_ISL_XING i) (ovrFld side) = 0
           then (s.setFld (Off.FT_ISL_XING i) (ovrFld side) 1).reportIsl i .XING_OVERRUN 0 else s.setFld (Off.FT_ISL_XING i) (ovrFld side) 1))))) ∧
  (∀ (s : State) (i : Fin 48) (x : Fin 129), s.inReset = false → s.oscRuns i = true →
     ∃ t, exec (.vddFabDroop i x) s = .next t ∧
       t.fld (Off.FT_ISL_FREQ i) Fld.FT_ISL_FREQ.MAX_STRETCH = max x.val (s.fld (Off.FT_ISL_FREQ i) Fld.FT_ISL_FREQ.MAX_STRETCH) ∧
       (∀ f : Fld, f ∈ [Fld.FT_ISL_FREQ.RUN_MHZ, Fld.FT_ISL_FREQ.CUR_MHZ] → t.fld (Off.FT_ISL_FREQ i) f = s.fld (Off.FT_ISL_FREQ i) f) ∧
       s.onlyRegs t [Off.FT_ISL_FREQ i])

/-- R117, R124, R131, R133, R140, R143: a head flit at the front of a link enters its lane with its time, and one that wants a fenced output has asked for a wake; an uncorrectable payload
word poisons it; one whose header words cannot be read, that is malformed, or that wants an UNREACHABLE output is discarded with its credit returned, and its body flits are dropped as they
come. Other lanes and other tiles are not touched. R131, R133, R134: a body flit that the lane's packet expects enters the lane; the last one ends the packet. One that comes while the packet
is discarded, or that no packet expects, is discarded with its credit returned, and the second case is a framing error. -/
def Obligations.FlitArrival : Prop :=
  (∀ (s : State) (t : Fin 192) (p : Fin 6) (errs : LaneErrs) (h : Hdr) (pl : Line) (rest : List Flit),
     let key := t.val * 8 + p.val
     let k := laneIx p h.vn.toNat h.gt
     s.runs (tileIsland t) = true → s.wireAt key = .head h.gt h pl :: rest → s.flipsAt key = [] → ((s.rtAt t).laneRx k).h = none →
     ∃ u, exec (.routerHeadArrive t p errs) s = .next u ∧ u.wireAt key = rest ∧
       (∀ k', k' ≠ k → (u.rtAt t).lane k' = (s.rtAt t).lane k') ∧ (∀ t', t' ≠ t.val → u.rtAt t' = s.rtAt t') ∧ s.only u [.wire, .rt, .regs, .ni, .owed, .wakeQ] ∧
       (∀ h', errs.ueWord = none ∧ h' = h ∨ (∃ w, errs.ueWord = some w ∧ 2 ≤ w ∧ h' = { h with poison := true }) →
         headMalformed t h' = false → s.nbrOf t h'.out ≠ .unreach →
           (u.rtAt t).lane k = (s.rtAt t).lane k ++ [⟨.head h.gt h' pl, s.rtTime t, 0, false⟩] ∧
           (u.rtAt t).laneRx k = { h := if h.len = 0 then none else some h', next := 1, dropping := false } ∧ u.owed = s.owed ∧
           (s.fenced t h'.out = true → portFlag (u.rtAt t).wakePend h'.out = true)) ∧
       ((∃ w, errs.ueWord = some w ∧ w ≤ 1) ∨ headMalformed t h = true ∨ s.nbrOf t h.out = .unreach →
           (u.rtAt t).lane k = (s.rtAt t).lane k ∧ u.owedAt key h.vn.toNat h.gt = s.owedAt key h.vn.toNat h.gt + 1 ∧
           (u.rtAt t).laneRx k = { h := none, next := 1, dropping := true })) ∧
  (∀ (s : State) (t : Fin 192) (p : Fin 6) (v : BitVec 3) (g : Bool) (q : BitVec 2) (l : Bool) (sr tg : BitVec 8) (b : Body) (rest : List Flit),
     let key := t.val * 8 + p.val
     let k := laneIx p v.toNat g
     s.runs (tileIsland t) = true → s.wireAt key = .body g v q l sr tg b :: rest → s.flipsAt key = [] →
     ∃ u, exec (.routerBodyArrive t p .clean) s = .next u ∧ u.wireAt key = rest ∧
       (∀ k', k' ≠ k → (u.rtAt t).lane k' = (s.rtAt t).lane k') ∧ (∀ t', t' ≠ t.val → u.rtAt t' = s.rtAt t') ∧ s.only u [.wire, .rt, .regs, .ni, .owed] ∧
       (∀ h, ((s.rtAt t).laneRx k).dropping = false → ((s.rtAt t).laneRx k).h = some h →
         (u.rtAt t).lane k = (s.rtAt t).lane k ++ [⟨.body g v q l sr tg b, s.rtTime t, 0, false⟩] ∧ u.owed = s.owed ∧
         ((u.rtAt t).laneRx k).h = if h.len.toNat ≤ ((s.rtAt t).laneRx k).next then none else some h) ∧
       (((s.rtAt t).laneRx k).dropping = true ∨ ((s.rtAt t).laneRx k).h = none →
         (u.rtAt t).lane k = (s.rtAt t).lane k ∧ u.owedAt key v.toNat g = s.owedAt key v.toNat g + 1) ∧
       (((s.rtAt t).laneRx k).dropping = false → ((s.rtAt t).laneRx k).h = none → u.fld (Off.RT_ERR_STATUS t) Fld.RT_ERR_STATUS.FRAMING = 1))

/-- R101, R111, R124, R127: in a cycle an output that is not UNREACHABLE grants, of the flits that want it and that nothing stops, one of the best rank; that flit leaves the front of its
lane, uses a credit, and goes to the next unit, a head with its route word rewritten. With none, no flit moves. (An output that completes a packet ended by a forced UNREACHABLE drives that
packet's flits first, R143.) R76, R83, R111, R112, R113: a receiver whose clock runs, and whose pair is out of reset and not full, returns at most one GT credit and three shared
credits of each VN in one word and owes so many fewer; the sender adds what a word returns to its counts. -/
def Obligations.OutputsAndCredits : Prop :=
  (∀ (s : State) (t : Fin 192) (p : Fin 6), portEdge t p = false → s.runs (tileIsland t) = true → s.nbrOf t p ≠ .unreach →
     (∀ v g, v < 8 → (s.rtAt t).progAt p v = some g → g.synth = false) →
     let free := ((s.outWants t p).filter (fun w => w.2 == .no)).map (·.1)
     (free ≠ [] → ∃ u c cell cells, exec (.outputArbitration t p) s = .next u ∧ c ∈ free ∧ (∀ d ∈ free, c.rank ≤ d.rank) ∧
       (s.rtAt t).lane (laneIx c.inp c.vn c.gt) = cell :: cells ∧ (u.rtAt t).lane (laneIx c.inp c.vn c.gt) = cells ∧
       (∀ k, k ≠ laneIx c.inp c.vn c.gt → (u.rtAt t).lane k = (s.rtAt t).lane k) ∧
       u.usedAt (outKey t p) c.vn c.gt = s.usedAt (outKey t p) c.vn c.gt + 1 ∧
       u.wireAt (outKey t p) = s.wireAt (outKey t p) ++ [match cell.f with
         | .head g h pl => .head g h.routed pl
         | f => f] ∧
       (∀ t', t' ≠ t.val → u.rtAt t' = s.rtAt t') ∧ s.only u [.rt, .used, .owed, .wire, .regs, .ni, .wakeQ]) ∧
     (free = [] → ∃ u, exec (.outputArbitration t p) s = .next u ∧ (∀ k, (u.rtAt t).lane k = (s.rtAt t).lane k) ∧ s.only u [.rt, .regs, .wakeQ])) ∧
  ((∀ (s : State) (k : LinkPort), (∀ t p, k = .tile t p → portSeam t p = none) → (∃ v gt, v < 8 ∧ s.owedAt k.key v gt ≠ 0) →
     s.runs k.island = true → s.linkHeld k.key = false → (k.crosses = true → (s.creditWords k.key).length < 8) →
     ∃ u w, exec (.creditWordSend k) s = .next u ∧ KMap.get (fun _ => []) u.cwire k.key = KMap.get (fun _ => []) s.cwire k.key ++ [w] ∧
       (∀ v gt, v < 8 → creditOf w v gt = min (if gt then 1 else 3) (s.owedAt k.key v gt) ∧ u.owedAt k.key v gt = s.owedAt k.key v gt - creditOf w v gt) ∧
       (∀ k', k' ≠ k.key → KMap.get (fun _ => []) u.cwire k' = KMap.get (fun _ => []) s.cwire k') ∧ s.only u [.owed, .cwire]) ∧
   (∀ (s : State) (k : LinkPort) (w : BitVec 24) (rest : List (BitVec 24)), KMap.get (fun _ => []) s.cwire k.key = w :: rest →
     (∀ v gt, v < 8 → creditOf w v gt ≤ s.usedAt k.key v gt) → s.runs k.sender = true → s.linkHeld k.key = false →
     ∃ u, exec (.creditWordReceive k) s = .next u ∧ KMap.get (fun _ => []) u.cwire k.key = rest ∧
       (∀ v gt, v < 8 → u.usedAt k.key v gt = s.usedAt k.key v gt - creditOf w v gt) ∧ s.only u [.cwire, .used]))

/-- R77, R140, R141, R142, R143: an output accepts a neighbour state that the Kettle has sent once two samples in a row agree on it and it differs from the last one accepted; ON opens its fence and ends its wake request; an output asked to close reports its fence
closed once no packet is in progress on it and its crossing is empty; RT_CTRL.FORCE_UNREACH holds the ports of its mask, and forcing no port that was not UNREACHABLE already changes nothing
else. R137, R139, R290: a GT window that opens while a P0 to P2 packet is in progress on its output counts GATE_LATE, once for each opening, and sets its status; with none in progress, or
in a mode that applies no windows, it does not. 256 ft after a
switch an output drops the old windows. R303, R304: each sample adds one to the samples of every observed queue and to its depth bin. Selecting a queue copies its bins, its sample count and
its largest age to the data registers; the clears copy and then empty the queue's histogram, or those of the whole unit. -/
def Obligations.RouterControls : Prop :=
  ((∀ (s : State) (t : Fin 192) (p : Fin 6) (a b : Nbr), s.runs (tileIsland t) = false ∨ a ≠ b ∨ s.nbrSentAt t p ≠ some a →
     exec (.neighbourStateChange t p (a, b)) s = .next s) ∧
   (∀ (s : State) (t : Fin 192) (p : Fin 6) (st : Nbr), portEdge t p = false → s.runs (tileIsland t) = true → s.nbrSentAt t p = some st → s.nbrTaken t p ≠ st →
     ∃ u, exec (.neighbourStateChange t p (st, st)) s = .next u ∧ u.nbrTaken t p = st ∧ u.nbrSentAt t p = none ∧
       (st = .on → portFlag (u.rtAt t).wakePend p = false ∧ portFlag (u.rtAt t).closing p = false ∧ portFlag (u.rtAt t).closed p = false) ∧
       (st = .on ∨ st = .paused → s.only u [.rt]) ∧ (∀ t', t' ≠ t.val → u.rtAt t' = s.rtAt t')) ∧
   (∀ (s : State) (t : Fin 192) (p : Fin 6), portFlag (s.rtAt t).closing p = true → (∀ v, v < 8 → (s.rtAt t).progAt p v = none) → s.wireAt (outKey t p) = [] →
     ∃ u, exec (.fenceClosedReport t p) s = .next u ∧ portFlag (u.rtAt t).closing p = false ∧ portFlag (u.rtAt t).closed p = true ∧
       t.val * 8 + p.val ∉ (u.domAt (portDomain t p)).closes ∧ s.only u [.rt, .dom]) ∧
   (∀ (s : State) (t : Fin 192) (mask : BitVec 6),
     ∃ u, exec (.rtForceUnreachWrite t mask) s = .next u ∧ u.fld (Off.RT_CTRL t) Fld.RT_CTRL.FORCE_UNREACH = mask.toNat ∧
       ((∀ p, p < 6 → mask.getLsbD p = true → s.nbrOf t p = .unreach) → s.onlyRegs u [Off.RT_CTRL t]))) ∧
  ((∀ (s : State) (t : Fin 192) (p : Fin 6), ∀ o, s.gtOpening t p = some o → s.runs (tileIsland t) = true →
     s.outMode t p ≠ .closed → s.outMode t p ≠ .none → KMap.get (fun _ => 0) (s.rtAt t).glSeen p ≠ o + 1 →
     (∃ v g, v < 8 ∧ (s.rtAt t).progAt p v = some g ∧ g.gt = false) →
     ∃ u, exec (.gateWindowOpen t p) s = .next u ∧
       u.fld (Off.RT_ERR_CNT t) Fld.RT_ERR_CNT.GATE_LATE = satInc 65535 (s.fld (Off.RT_ERR_CNT t) Fld.RT_ERR_CNT.GATE_LATE) ∧
       u.fld (Off.RT_ERR_STATUS t) Fld.RT_ERR_STATUS.GATE_LATE = 1 ∧ s.only u [.regs, .rt, .ni] ∧ (∀ k, (u.rtAt t).lane k = (s.rtAt t).lane k) ∧
       KMap.get (fun _ => 0) (u.rtAt t).glSeen p = o + 1) ∧
   (∀ (s : State) (t : Fin 192) (p : Fin 6), s.outMode t p = .closed ∨ s.outMode t p = .none ∨ (∃ o, s.gtOpening t p = some o ∧ KMap.get (fun _ => 0) (s.rtAt t).glSeen p = o + 1) →
     exec (.gateWindowOpen t p) s = .next s) ∧
   (∀ (s : State) (t : Fin 192) (p : Fin 6), (∀ v, v < 8 → (s.rtAt t).progAt p v = none) → ∃ u, exec (.gateWindowOpen t p) s = .next u ∧
     (∀ k, (u.rtAt t).lane k = (s.rtAt t).lane k) ∧ s.only u [.rt]) ∧
   (∀ (s : State) (t : Fin 192) (b T : Nat), (s.rtAt t).unionOld = some (b, T) → T + 256 ≤ s.rtTime t →
     ∃ u, exec (.gateUnionEnd t) s = .next u ∧ u.rtAt t = { s.rtAt t with unionOld := none } ∧ (∀ t', t' ≠ t.val → u.rtAt t' = s.rtAt t') ∧ s.only u [.rt])) ∧
  ((∀ (s : State) (t : Fin 192) (q : Nat), q < 48 → s.runs (tileIsland t) = true → ∃ u, exec (.queueSample (.router t)) s = .next u ∧
     (histAt (u.rtAt t).hist q).samples = satInc (2 ^ 32 - 1) (histAt (s.rtAt t).hist q).samples ∧ (∀ t', t' ≠ t.val → u.rtAt t' = s.rtAt t') ∧ s.only u [.rt]) ∧
   (∀ (s : State) (n : Fin 256) (q : Nat), q < 5 ∨ 8 ≤ q ∧ q < 16 → s.runs (niIsland n) = true → ∃ u, exec (.queueSample (.ni n)) s = .next u ∧
     (histAt (u.niAt n).hist q).samples = satInc (2 ^ 32 - 1) (histAt (s.niAt n).hist q).samples ∧ s.nisKeep u n ∧ s.only u [.ni]) ∧
   (∀ (s : State) (t : Fin 192) (q : BitVec 6) (k : Fin 4), let h := histAt (s.rtAt t).hist q.toNat
     (∃ u, exec (.rtHistSelect t q) s = .next u ∧ u.fld (Off.RT_HIST_SEL t) Fld.RT_HIST_SEL.QUEUE = q.toNat ∧
       u.rd (Off.RT_HIST_DATA t k) = BitVec.ofNat 64 (h.bins.getD (2 * k + 1) 0 * 2 ^ 32 + h.bins.getD (2 * k) 0) ∧
       u.rd (Off.RT_HIST_DATA t (k + 4)) = BitVec.ofNat 64 (h.bins.getD (8 + 2 * k + 1) 0 * 2 ^ 32 + h.bins.getD (8 + 2 * k) 0) ∧
       u.rd (Off.RT_HIST_INFO t) = BitVec.ofNat 64 (h.samples * 2 ^ 32 + h.maxAge) ∧ s.only u [.regs]) ∧
     (∃ u, exec (.rtHistClear t q) s = .next u ∧ u.rd (Off.RT_HIST_INFO t) = BitVec.ofNat 64 (h.samples * 2 ^ 32 + h.maxAge) ∧
       histAt (u.rtAt t).hist q.toNat = Hist.zero ∧ s.only u [.regs, .rt]) ∧
     (∃ u, exec (.rtHistClearAll t) s = .next u ∧ (∀ q', histAt (u.rtAt t).hist q' = Hist.zero) ∧ s.only u [.regs, .rt])) ∧
   (∀ (s : State) (n : Fin 256) (q : BitVec 4) (k : Fin 4), q.toNat < 5 ∨ 8 ≤ q.toNat → let h := histAt (s.niAt n).hist q.toNat
     (∃ u, exec (.niHistSelect n q) s = .next u ∧ u.fld (Off.NI_HIST_SEL n) Fld.NI_HIST_SEL.QUEUE = q.toNat ∧
       u.rd (Off.NI_HIST_DATA n k) = BitVec.ofNat 64 (h.bins.getD (2 * k + 1) 0 * 2 ^ 32 + h.bins.getD (2 * k) 0) ∧
       u.rd (Off.NI_HIST_INFO n) = BitVec.ofNat 64 (h.samples * 2 ^ 32 + h.maxAge) ∧ s.only u [.regs]) ∧
     (∃ u, exec (.niHistClear n q) s = .next u ∧ u.rd (Off.NI_HIST_INFO n) = BitVec.ofNat 64 (h.samples * 2 ^ 32 + h.maxAge) ∧
       histAt (u.niAt n).hist q.toNat = Hist.zero ∧ s.nisKeep u n ∧ s.only u [.regs, .ni]) ∧
     (∃ u, exec (.niHistClearAll n) s = .next u ∧ (∀ q', histAt (u.niAt n).hist q' = Hist.zero) ∧ s.nisKeep u n ∧ s.only u [.regs, .ni])))

/-- R149, R155, R157, R159, R160 to R167, R296: a request presented at an NI that admits, with no fence, hold or Strainer failure in its way, is decoded and routed and waits for step 6 with
its pieces, of which it has one at least, whatever its priority and colour; only a red posted request may be dropped by its meter. A machine request is decoded by the Destination Group Table; an FNC waits for its fence;
one presented to an island below ON waits in the crossing. R149, R150, R157, R180, R188, R189, R433: a non-posted request that a step stops is completed by the NI itself with the RESP that
the step names: ERR_FENCED at a fence, ERR_ACCESS at the Strainer, ERR_UNSUPPORTED where nothing decodes it or its opcode is reserved. -/
def Obligations.AdmissionPipeline : Prop :=
  (∀ (s : State) (n : Fin 256) (r0 : Req),
     let r := s.identify n r0
     let e := (s.niAt n).ep.epoch
     let b := (s.niAt n).ep.bank
     s.presents n = true → reqOpcode r0.vn r0.opcode = true → ((niType n = .cla ∨ niType n = .pea) → s.agentOk n r.agent = true) → (s.niAt n).comps = [] →
     (s.admits n = false → ∃ t, exec (.niRequestPresent n r0 .clean) s = .next t ∧ (t.niAt n).wakeHeld = (s.niAt n).wakeHeld ++ [r] ∧ s.nisKeep t n ∧
       ((s.niAt n).wakeHeld = [] → niIsland n ∈ t.wakeQ) ∧ s.only t [.ni, .wakeQ]) ∧
     (s.admits n = true → s.niFenced n = false → s.agentFenced n r.agent = false →
       niType n = .hsl ∨ r.machine.isSome ∨ (s.niAt n).strain.hold = false ∧ (s.niAt n).strain.stale = false ∧
         (s.strainer n b r.vn r.opcode r.agent r.priv r.line = .pass ∨ s.strainer n b r.vn r.opcode r.agent r.priv r.line = .byDefault) →
       (r.vn = Vn.REQ ∧ r.opcode = 8 → ∃ t, exec (.niRequestPresent n r0 .clean) s = .next t ∧
         (t.niAt n).fences = (s.niAt n).fences ++ [⟨r, (s.niAt n).seq, e⟩] ∧ s.nisKeep t n ∧ s.only t [.ni, .regs]) ∧
       (∀ dest r', ¬(r.vn = Vn.REQ ∧ r.opcode = 8) → (s.routeTo n b dest).isSome = true → r'.pieces ≠ [] →
         (r.machine = none ∧ r' = r ∧ s.decodeMap n b r.vn r.opcode r.line = .to dest ∨
           ∃ m l k, r.machine = some m ∧ s.peaList n b (m % 2 ^ 20) = some l ∧ s.pickPea n b l = some (k, dest) ∧
             r' = { r with line := m % 2 ^ 20 * 2 ^ 26 + r.line % 2 ^ 26, machine := none }) →
         ∃ t, exec (.niRequestPresent n r0 .clean) s = .next t ∧ s.nisKeep t n ∧ s.only t [.ni, .regs] ∧ (t.niAt n).seq = (s.niAt n).seq + 1 ∧
           ((∃ v, (t.niAt n).wait = (s.niAt n).wait ++ [v] ∧ v.r = r' ∧ v.dest = dest ∧ v.epoch = e ∧ v.seq = (s.niAt n).seq ∧ v.todo = r'.pieces) ∨
             (r.vn = Vn.IOP ∧ r.opcode ≠ 4 ∧ niHasMeter n = true ∧ bit ((s.niAt n).meter (s.meterOf n r.agent)).rate 62 = true ∧ (t.niAt n).wait = (s.niAt n).wait))))) ∧
  (∀ (s : State) (n : Fin 256) (r : Req), isPort n = false → s.presents n = true → r.vn = Vn.REQ ∨ r.vn = Vn.ION →
     let b := (s.niAt n).ep.bank
     ∀ resp,
       (reqOpcode r.vn r.opcode = false ∧ resp = Resp.ERR_UNSUPPORTED ∨
         reqOpcode r.vn r.opcode = true ∧ s.admits n = true ∧ (s.niFenced n = true ∨ s.agentFenced n r.agent = true) ∧ resp = Resp.ERR_FENCED ∨
         reqOpcode r.vn r.opcode = true ∧ s.admits n = true ∧ s.niFenced n = false ∧ s.agentFenced n r.agent = false ∧ niType n ≠ .hsl ∧ r.machine = none ∧
           (s.niAt n).strain.hold = false ∧ (s.niAt n).strain.stale = false ∧
           (s.strainer n b r.vn r.opcode r.agent r.priv r.line = .noMatch ∨ s.strainer n b r.vn r.opcode r.agent r.priv r.line = .pattern) ∧ resp = Resp.ERR_ACCESS ∨
         reqOpcode r.vn r.opcode = true ∧ s.admits n = true ∧ s.niFenced n = false ∧ s.agentFenced n r.agent = false ∧ r.machine = none ∧
           (niType n = .hsl ∨ (s.niAt n).strain.hold = false ∧ (s.niAt n).strain.stale = false ∧
             (s.strainer n b r.vn r.opcode r.agent r.priv r.line = .pass ∨ s.strainer n b r.vn r.opcode r.agent r.priv r.line = .byDefault)) ∧
           ¬(r.vn = Vn.REQ ∧ r.opcode = 8) ∧ s.decodeMap n b r.vn r.opcode r.line = .miss ∧ resp = Resp.ERR_UNSUPPORTED) →
       ∃ t c, exec (.niRequestPresent n r .clean) s = .next t ∧ (t.niAt n).comps = (s.niAt n).comps ++ [c] ∧ c.ident = r.ident ∧ c.resp = resp ∧ c.synth = true ∧
         (t.niAt n).wait = (s.niAt n).wait ∧ s.nisKeep t n ∧ s.only t [.ni, .regs])

/-- R149, R169, R170, R172, R174, R229, R279: the next waiting request that can proceed takes, for a non-posted packet, the first free tag open to its class and its buffers, and its packet
enters the queue of its flow or priority. An FNC that no earlier REQ precedes empties the fence mask and is sent once for each of its bits, or ends with OK where the mask is empty. -/
def Obligations.TagAllocation : Prop :=
  (∀ (s : State) (n : Fin 256) (i : Nat) (w : Waiting) (p : Piece) (rest : List Piece), s.runs (niIsland n) = true → s.nextWaiting n = some (i, w) → w.todo = p :: rest →
    ∃ t q, exec (.niTagAllocate n) s = .next t ∧ (t.niAt n).queueFor w.pri w.flow = (s.niAt n).queueFor w.pri w.flow ++ [q] ∧ q.dest = w.dest ∧
      q.p.h.src = BitVec.ofNat 8 n ∧ q.p.h.route = w.route ∧ q.p.h.mid = BitVec.ofNat 46 p.line ∧
      (t.niAt n).wait = (if rest = [] then (s.niAt n).wait.eraseIdx i else (s.niAt n).wait.set i { w with todo := rest }) ∧
      (t.niAt n).txFree = (s.niAt n).txFree - w.r.txLines p ∧
      (w.r.posted = true → (t.niAt n).tags = (s.niAt n).tags ∧ (t.niAt n).rxFree = (s.niAt n).rxFree) ∧
      (w.r.posted = false → ∃ g, s.freeTag n w.r.vn = some g ∧ ((t.niAt n).tag g).st = .opened ∧ ((t.niAt n).tag g).dest = w.dest ∧
        ((t.niAt n).tag g).req = some q.p ∧ (∀ k, k ≠ g → (t.niAt n).tag k = (s.niAt n).tag k) ∧ (t.niAt n).rxFree = (s.niAt n).rxFree - w.r.rxLines p) ∧
      s.nisKeep t n ∧ s.only t [.ni, .regs]) ∧
  (∀ (s : State) (n : Fin 256) (f : Held) (rest : List Held), (s.niAt n).fences = f :: rest → s.earlierReq n f.seq = false →
    ((s.niAt n).fenceMask = 0 → isPort n = false → ∃ t c, exec (.niFenceAdmit n .clean) s = .next t ∧ (t.niAt n).fences = rest ∧
      (t.niAt n).comps = (s.niAt n).comps ++ [c] ∧ c.ident = f.r.ident ∧ c.resp = Resp.OK ∧ s.nisKeep t n ∧ s.only t [.ni, .regs]) ∧
    ((s.niAt n).fenceMask ≠ 0 → (s.niAt n).comps = [] → (∀ h, h < 16 → (s.niAt n).fenceMask.getLsbD h = true → (s.routeTo n (s.bankOf n f.epoch).1 (sliceNi h)).isSome = true) →
      ∃ t l, exec (.niFenceAdmit n .clean) s = .next t ∧ (t.niAt n).fences = rest ∧ (t.niAt n).fenceMask = 0 ∧ (t.niAt n).wait = (s.niAt n).wait ++ l ∧
        l.map (·.dest) = (fenceDests (s.niAt n).fenceMask).map sliceNi ∧ (∀ v ∈ l, v.r = f.r ∧ v.epoch = f.epoch) ∧ s.nisKeep t n ∧ s.only t [.ni, .regs]))

/-- R91, R151, R172, R174, R279: the next answer of the attached unit is routed in the bank of its EPOCH and enters an injection queue; a demand takes a free tag and the receive lines of its answer, an MGT message the MGT queue, of
whose eight places it leaves two. With no answer waiting the next stamp goes to its sampling NI. -/
def Obligations.SendAnswer : Prop :=
  (∀ (s : State) (n : Fin 256) (a : Answer) (rest : List Answer), s.runs (niIsland n) = true → (s.niAt n).answers = a :: rest →
    (a.p.h.vn.toNat = Vn.MGT → (s.niAt n).mgt.length < 6 → ∃ t, exec (.niSendAnswer n .clean) s = .next t ∧ (t.niAt n).answers = rest ∧
      (t.niAt n).mgt = (s.niAt n).mgt ++ [⟨a.p, a.dest, s.niTime n, false, 0⟩] ∧ s.nisKeep t n ∧ s.only t [.ni]) ∧
    (∀ g, a.p.h.vn.toNat ≠ Vn.MGT → (s.routeTo n (s.bankOf n a.p.h.epoch.toNat).1 a.dest).isSome = true →
      (∀ pri flow, (s.niAt n).queueRoom pri flow = true) → (if niType n = .hsl then a.p.lines.length else 0) ≤ (s.niAt n).txFree →
      (a.p.h.vn.toNat = Vn.SNP → snpRx a.p ≤ (s.niAt n).rxFree) →
      (if a.p.h.vn.toNat = Vn.SNP then s.freeTag n Vn.SNP = some g else g = a.p.h.tag.toNat) →
      ∃ t q pri flow, exec (.niSendAnswer n .clean) s = .next t ∧ (t.niAt n).answers = rest ∧ (t.niAt n).queueFor pri flow = (s.niAt n).queueFor pri flow ++ [q] ∧
        q.dest = a.dest ∧ q.p.pl = a.p.pl ∧ q.p.body = a.p.body ∧ q.p.h.src = BitVec.ofNat 8 n ∧ q.p.h.tag = BitVec.ofNat 8 g ∧ q.p.h.colour = 3 ∧
        q.p.h.epoch = a.p.h.epoch ∧ (a.p.h.vn.toNat = Vn.SNP → ((t.niAt n).tag g).st = .opened ∧ ((t.niAt n).tag g).ident = a.ident ∧
          (t.niAt n).rxFree = (s.niAt n).rxFree - snpRx a.p) ∧
        s.nisKeep t n ∧ s.only t [.ni, .regs])) ∧
  (∀ (s : State) (n : Fin 256) (p : Pkt) (rest : List Pkt), s.runs (niIsland n) = true → (s.niAt n).answers = [] → (s.niAt n).leaf.stamps = p :: rest →
    p.h.vn.toNat = Vn.IOP → p.lines = [] → (s.routeTo n (s.bankOf n p.h.epoch.toNat).1 (bits (p.word 0) 48 8)).isSome = true →
    (∀ pri flow, (s.niAt n).queueRoom pri flow = true) → p.h.opcode.toNat = 4 →
    ∃ t q, exec (.niSendAnswer n .clean) s = .next t ∧ (t.niAt n).leaf.stamps = rest ∧ (t.niAt n).p0 = (s.niAt n).p0 ++ [q] ∧ q.dest = bits (p.word 0) 48 8 ∧
      q.p.pl = p.pl ∧ s.nisKeep t n ∧ s.only t [.ni, .regs])

/-- R127, R153, R154, R507, R555, R602: in a cycle the injection port drives one flit of the candidate of best rank that nothing stops: the next flit of a packet in progress, or the head
flit of a queue's first packet, an MGT head with the route of the active bank. It goes to the router port with a credit, or to the NI's own receive side. With no such candidate nothing is
driven. -/
def Obligations.Injection : Prop :=
  ∀ (s : State) (n : Fin 256), s.runs (niIsland n) = true → s.flipsAt (bufFlipKey n) = [] →
    let cs := (s.injCands n).filter (fun c => c.2 == .no)
    let best := bestCand (fun g => KMap.get (fun _ => 0) (s.niAt n).rr g) (cs.map (·.1))
    (cs = [] → ∃ t, exec (.injectionArbitration n .clean) s = .next t ∧ s.only t [.regs]) ∧
    (∀ c q e flow, best = some c → c.started = false → c.inp = q → (s.niAt n).queueHead q c.vn = some (e, flow) →
      ∃ t w, exec (.injectionArbitration n .clean) s = .next t ∧ (q ≠ 0 → w = e.p.h.route) ∧
        (∀ k v, q = 0 → s.routeTo n (s.niAt n).ep.bank e.dest = some (k, v) → w = v) ∧
        (let f : Flit := .head e.p.h.gt { e.p.h with route := w, epoch := if q = 0 then BitVec.ofNat 2 (s.niAt n).ep.epoch else e.p.h.epoch } e.p.pl
         if e.dest = n then t.wireAt (niKey n) = s.wireAt (niKey n) ++ [f] ∧ t.used = s.used
         else t.wireAt (injKey n) = s.wireAt (injKey n) ++ [f] ∧
           t.usedAt (injKey n) e.p.h.vn.toNat e.p.h.gt = s.usedAt (injKey n) e.p.h.vn.toNat e.p.h.gt + 1) ∧
        s.nisKeep t n ∧ s.only t [.ni, .regs, .port, .wire, .used]) ∧
    (∀ c f rest e q, best = some c → c.started = true → KMap.get (fun _ => noInj) (s.niAt n).inj c.vn = (f :: rest, e, q) →
      ∃ t, exec (.injectionArbitration n .clean) s = .next t ∧
        (if e.dest = n then t.wireAt (niKey n) = s.wireAt (niKey n) ++ [f] else t.wireAt (injKey n) = s.wireAt (injKey n) ++ [f]) ∧
        (f.isHead = false → f.vn = c.vn → KMap.get (fun _ => noInj) (t.niAt n).inj c.vn = if rest = [] then noInj else (rest, e, q)) ∧
        s.nisKeep t n ∧ s.only t [.ni, .regs, .port, .wire, .used])

/-- R153, R176, R178, R185, R186, R188: the front packet of the lane of a VN whose flit is the oldest, whole and well formed, with room for its data, leaves the wire with its credits owed. A REQ for a home slice that is not fenced is handed over in order,
with its time of arrival; a fenced request is answered with ERR_FENCED; a response that matches no tag is stray; one for a quarantined tag frees it and is late; a retry response puts the tag
in RETRY_WAIT with the backoff; the answer to a demand is accepted and frees its tag. -/
def Obligations.PacketReceive : Prop :=
  ∀ (s : State) (n : Fin 256) (vn : Fin 8) (fs rest : List Flit) (p0 : Pkt),
    let p := p0.asPoisoned
    let g := p.h.tag.toNat
    let x := (s.niAt n).tag g
    s.runs (niIsland n) = true → s.flipsAt (niKey n) = [] → frontPkt vn (oldLane vn (s.wireAt (niKey n))) (s.wireAt (niKey n)) = some (fs, rest) →
    pktOf fs = some p0 → pktMalformed fs = false → s.rxRoom n p0 = true → p.reservedValue = false → p.h.vn.toNat = vn.val → knownOpcode vn p.h.opcode.toNat = true → isPort n = false ∨ (s.niAt n).comps = [] →
    (niType n = .hsl → vn.val = Vn.REQ → s.niFenced n = false → ∃ t, exec (.niPacketReceive n vn [] .clean) s = .next t ∧ t.wireAt (niKey n) = rest ∧
      (t.niAt n).inbox = (s.niAt n).inbox ++ [(p, 0, s.niTime n)] ∧ s.nisKeep t n ∧ s.only t [.ni, .regs, .wire, .owed, .wakeQ]) ∧
    (vnAsks vn = true → s.niFenced n = true → ∃ t a, exec (.niPacketReceive n vn [] .clean) s = .next t ∧ t.wireAt (niKey n) = rest ∧
      (t.niAt n).answers = (s.niAt n).answers ++ [a] ∧ a.dest = p.h.src.toNat ∧ a.p.h.resp = Resp.ERR_FENCED ∧ a.p.h.tag = p.h.tag ∧
      s.nisKeep t n ∧ s.only t [.ni, .regs, .wire, .owed]) ∧
    (vnResponse vn = true → p.h.town = n.val →
      (x.req = none ∨ x.st = .free → ∃ t, exec (.niPacketReceive n vn [] .clean) s = .next t ∧ t.wireAt (niKey n) = rest ∧
        t.fld (Off.NI_ERR_STATUS n) Fld.NI_ERR_STATUS.RSP_STRAY = 1 ∧ (t.niAt n).tags = (s.niAt n).tags ∧ s.nisKeep t n ∧ s.only t [.ni, .regs, .wire, .owed]) ∧
      (∀ q, x.req = some q → expectsVn q.h vn = true → q.h.agent = p.h.agent →
        (x.st = .quarantine → isRetry p.h = false → ∃ t, exec (.niPacketReceive n vn [] .clean) s = .next t ∧ t.wireAt (niKey n) = rest ∧
          t.fld (Off.NI_ERR_STATUS n) Fld.NI_ERR_STATUS.RSP_LATE = 1 ∧ (t.niAt n).tag g = Tag.freed ∧ (∀ k, k ≠ g → (t.niAt n).tag k = (s.niAt n).tag k) ∧
          s.nisKeep t n ∧ s.only t [.ni, .regs, .wire, .owed]) ∧
        (x.st = .opened → isRetry p.h = true → q.h.vn.toNat = Vn.REQ → x.resends < s.fld (Off.NI_RETRY n) Fld.NI_RETRY.MAX →
          ∃ t, exec (.niPacketReceive n vn [] .clean) s = .next t ∧ t.wireAt (niKey n) = rest ∧ (t.niAt n).tag g =
            { x with st := .retryWait, retryAt := s.niTime n + s.fld (Off.NI_RETRY n) Fld.NI_RETRY.BACKOFF * 16 * 2 ^ x.resends } ∧
          (∀ k, k ≠ g → (t.niAt n).tag k = (s.niAt n).tag k) ∧ s.nisKeep t n ∧ s.only t [.ni, .regs, .wire, .owed]) ∧
        (x.st = .opened → isRetry p.h = false → q.h.vn.toNat = Vn.SNP → ∃ t, exec (.niPacketReceive n vn [] .clean) s = .next t ∧ t.wireAt (niKey n) = rest ∧
          (t.niAt n).tag g = Tag.freed ∧ (t.niAt n).inbox = (s.niAt n).inbox ++ [(p, x.ident, s.niTime n)] ∧ (t.niAt n).rxFree = (s.niAt n).rxFree + x.rx - p.lines.length ∧
          (∀ k, k ≠ g → (t.niAt n).tag k = (s.niAt n).tag k) ∧ s.nisKeep t n ∧ s.only t [.ni, .regs, .wire, .owed])))

/-- R177, R178, R179, R181: where no packet that would complete the tag has come, these hold. Once its limit has passed since the first send, the timeout of an OPEN or waiting tag fires: it is counted and the tag is quarantined; after the quarantine it is FREE.
A tag whose backoff has ended is resent with its tag and header over a fresh route, or is freed where there is none. Where a completing packet has come, or for a resend the timeout is due, the timer does nothing. -/
def Obligations.TagTimers : Prop :=
  ∀ (s : State) (n g : Fin 256), let x := (s.niAt n).tag g
    (∀ t0, isPort n = false → x.st = .opened ∨ x.st = .retryWait → x.sentAt = some t0 → s.timeRuns n = true → t0 + s.timeoutFt n x ≤ s.niTime n → s.answerDue n g false = false →
      ∃ t, exec (.initTimeout n g) s = .next t ∧ ((t.niAt n).tag g).st = .quarantine ∧
        ((t.niAt n).tag g).quarAt = s.niTime n + 2 ^ (s.fld (Off.NI_TIMEOUT n) Fld.NI_TIMEOUT.QUAR + 10) ∧
        t.fld (Off.NI_ERR_CNT n) Fld.NI_ERR_CNT.TIMEOUTS = satInc (2 ^ Fld.NI_ERR_CNT.TIMEOUTS.w - 1) (s.fld (Off.NI_ERR_CNT n) Fld.NI_ERR_CNT.TIMEOUTS) ∧
        t.fld (Off.NI_ERR_STATUS n) Fld.NI_ERR_STATUS.TIMEOUT = 1 ∧ (∀ k, k ≠ g.val → (t.niAt n).tag k = (s.niAt n).tag k) ∧ s.nisKeep t n ∧ s.only t [.ni, .regs]) ∧
    (x.st = .quarantine → x.quarAt ≤ s.niTime n → s.answerDue n g true = false → ∃ t, exec (.quarantineEnd n g) s = .next t ∧ (t.niAt n).tag g = Tag.freed ∧
      (∀ k, k ≠ g.val → (t.niAt n).tag k = (s.niAt n).tag k) ∧ s.nisKeep t n ∧ s.only t [.ni]) ∧
    (∀ p, x.st = .retryWait → x.retryAt ≤ s.niTime n → s.timeoutDue n x = false → s.answerDue n g false = false → x.req = some p →
      let bank := (s.bankOf n p.h.epoch.toNat).1
      let c := s.contract n bank x.dest p.h.vn.toNat 1
      (∀ k w, (if c.route0 = true then some (0, if x.dest = n.val then 0 else s.routeWord n bank x.dest 0) else s.routeTo n bank x.dest) = some (k, w) →
        (∀ pri flow, (s.niAt n).queueRoom pri flow = true) → ∃ t q pri, exec (.retryResend n g .clean) s = .next t ∧
          ((t.niAt n).tag g).st = .opened ∧ ((t.niAt n).tag g).resends = x.resends + 1 ∧
          (t.niAt n).queueFor pri c.flow = (s.niAt n).queueFor pri c.flow ++ [q] ∧ q.resend = true ∧ q.dest = x.dest ∧ q.p.h.route = w ∧ q.p.h.tag = p.h.tag ∧
          q.p.h.mid = p.h.mid ∧ q.p.pl = p.pl ∧ (∀ k, k ≠ g.val → (t.niAt n).tag k = (s.niAt n).tag k) ∧ s.nisKeep t n ∧ s.only t [.ni, .regs]) ∧
      (isPort n = false → c.route0 = false → s.routeTo n bank x.dest = none → ∃ t, exec (.retryResend n g .clean) s = .next t ∧ (t.niAt n).tag g = Tag.freed ∧
        t.fld (Off.NI_ERR_STATUS n) Fld.NI_ERR_STATUS.NO_ROUTE = 1 ∧ s.nisKeep t n ∧ s.only t [.ni, .regs])) ∧
    (s.answerDue n g false = true → exec (.initTimeout n g) s = .next s ∧ exec (.retryResend n g .clean) s = .next s) ∧
    (s.answerDue n g true = true → exec (.quarantineEnd n g) s = .next s) ∧
    (s.timeoutDue n x = true → exec (.retryResend n g .clean) s = .next s)

/-- R13, R163, R173, R188, R295, R299, R302, R598: the staged groups of an NI become active as they are committed, and a group that breaks its limits is refused with its error bit; the
software fence and the Pot's Lids take the value written; the high-water mark of the tags is cleared by a read. R67, R281, R283, R293: as local time reaches the start of
slots, the head packet of a flow that entered its queue before the start of one of the flow's slots becomes due, and no slot starts twice; a due P3 packet whose slot has ended is missed. At a
refill boundary, and not before it, the credit of every enabled shaper stays within its limits, that of the others is zero, and the busy time starts anew; while the time is held neither happens. -/
def Obligations.NiControls : Prop :=
  (∀ (s : State) (n : Fin 256),
     (∃ t, exec (.niLossCommit n) s = .next t ∧ t.rd (Off.NI_LOSS n) = s.pendOf (Off.NI_LOSS n) ∧ t.rd (Off.NI_PEA_DOWN n) = s.pendOf (Off.NI_PEA_DOWN n) ∧
       t.pendOf (Off.NI_LOSS n) = t.rd (Off.NI_LOSS n) ∧ (t.niAt n).noRoute = [] ∧ s.nisKeep t n ∧ s.only t [.regs, .pend, .ni]) ∧
     (let w := s.pendOf (Off.NI_TAG_CFG n)
      (bits w 0 8 + bits w 8 8 ≤ 224 → ∃ t, exec (.niTagCommit n) s = .next t ∧ t.rd (Off.NI_TAG_CFG n) = w ∧ s.regsKeep t [Off.NI_TAG_CFG n] ∧ s.only t [.regs, .pend]) ∧
      (224 < bits w 0 8 + bits w 8 8 → ∃ t, exec (.niTagCommit n) s = .next t ∧ t.fld (Off.NI_ERR_STATUS n) Fld.NI_ERR_STATUS.TAG_CFG = 1 ∧
        s.onlyRegs t [Off.NI_ERR_STATUS n])) ∧
     (∀ on, isPort n = false ∨ (s.niAt n).comps = [] ∧ (s.niAt n).strain.held = [] → (on = true ∨ (s.niAt n).fenceHw = false) → ∃ t, exec (.niFenceSwWrite n on) s = .next t ∧ t.niFenced n = on ∧
       (on = true → (t.niAt n).strain.held = []) ∧ (t.niAt n).tags = (s.niAt n).tags ∧ (t.niAt n).wait = (s.niAt n).wait ∧ s.only t [.regs, .ni]) ∧
     exec (.niTagStatusRead n) s = .next (s.modNi n (fun u => { u with highWater := 0 })) ∧
     (let cfgs := (List.range 4).map (fun p => s.pendOf (Off.NI_SHAPER_CFG n p))
      let q := s.pendOf (Off.NI_QOS_CTRL n)
      (shaperBad cfgs (bits q 12 4) = false → ∃ t, exec (.shaperCommit n) s = .next t ∧ (t.niAt n).shaperCommit = some (cfgs ++ [q]) ∧ s.nisKeep t n ∧ s.only t [.ni]) ∧
      (shaperBad cfgs (bits q 12 4) = true → ∃ t, exec (.shaperCommit n) s = .next t ∧ t.fld (Off.NI_QOS_CTRL n) Fld.NI_QOS_CTRL.SHAPER_CFG_ERR = 1 ∧
        (t.niAt n).shaperCommit = (s.niAt n).shaperCommit ∧ s.nisKeep t n ∧ s.only t [.regs, .ni])) ∧
     (niHasMeter n = true → ((∀ m, m < 16 → meterBad ((s.niAt n).meter m).pRate ((s.niAt n).meter m).pBurst = false) → ∃ t, exec (.meterCommit n) s = .next t ∧
         (∀ m, m < 16 → ((t.niAt n).meter m).rate = ((s.niAt n).meter m).pRate ∧ ((t.niAt n).meter m).burst = ((s.niAt n).meter m).pBurst ∧
           ((t.niAt n).meter m).green = ((s.niAt n).meter m).green) ∧ s.nisKeep t n ∧ s.only t [.regs, .pend, .ni]) ∧
       (∀ m, m < 16 → meterBad ((s.niAt n).meter m).pRate ((s.niAt n).meter m).pBurst = true → ∃ t, exec (.meterCommit n) s = .next t ∧
         t.fld (Off.NI_QOS_CTRL n) Fld.NI_QOS_CTRL.METER_CFG_ERR = 1 ∧ (t.niAt n).meters = (s.niAt n).meters ∧ s.nisKeep t n ∧ s.only t [.regs, .ni])) ∧
     (∀ mask : BitVec 4, s.inReset = true → exec (.lidPotCloseWrite mask) s = .next s) ∧
     (∀ mask : BitVec 4, s.inReset = false → ∃ t, exec (.lidPotCloseWrite mask) s = .next t ∧ t.fld Off.GL_LID_CTRL Fld.GL_LID_CTRL.POT_CLOSE = mask.toNat ∧ s.nisKeep t 248 ∧
       (s.fld Off.GL_LID_CTRL Fld.GL_LID_CTRL.POT_CLOSE = mask.toNat → s.onlyRegs t [Off.GL_LID_CTRL]) ∧ s.only t [.regs, .ni, .wakeQ])) ∧
  ((∀ (s : State) (n : Fin 256) (f : Nat) (h : QPkt), f < 32 → ((s.niAt n).flow f).head = some h →
     (s.isFlow n f = true → ((s.niAt n).flow f).due = false → ((s.niAt n).flow f).orphans = 0 → s.timeRuns n = true → s.inReset = false →
       let slot := ((s.niAt n).slotsReached (s.niTime n)).find? (fun j => isSlotOf (s.injEntry n f) j && decide (h.tin < 4 * j))
       ∃ t, exec (.gtSlotStart n) s = .next t ∧ (t.niAt n).slotAt = max (s.niAt n).slotAt (s.niTime n / 4 * 4) ∧ s.nisKeep t n ∧ s.only t [.ni] ∧
         (t.niAt n).flow f = match slot with
           | some j => { (s.niAt n).flow f with due := true, missed := false, slotEnd := 4 * j + 4 }
           | none => (s.niAt n).flow f) ∧
     (((s.niAt n).flow f).due = true → ((s.niAt n).flow f).missed = false → h.p.h.gt = true → ((s.niAt n).flow f).slotEnd ≤ s.niTime n →
       ∃ t, exec (.gtSlotEnd n) s = .next t ∧ (t.niAt n).flow f = { (s.niAt n).flow f with missed := true } ∧ s.nisKeep t n ∧ s.only t [.regs, .ni])) ∧
   (∀ (s : State) (n : Fin 256), s.timeRuns n = false ∨ s.inReset = true → exec (.gtSlotStart n) s = .next s ∧ exec (.shaperRefill n) s = .next s) ∧
   (∀ (s : State) (n : Fin 256), s.niTime n < s.refillNext n ((s.niAt n).refillAt + 1) → exec (.shaperRefill n) s = .next s) ∧
   (∀ (s : State) (n : Fin 256), (s.niAt n).shaperCommit = none → (s.niAt n).shaperDefaults = none → s.timeRuns n = true → s.inReset = false →
     s.refillNext n ((s.niAt n).refillAt + 1) ≤ s.niTime n → ∃ t, exec (.shaperRefill n) s = .next t ∧
     (let p := 2 ^ s.fld (Off.NI_QOS_CTRL n) Fld.NI_QOS_CTRL.REFILL_LOG2
      (t.niAt n).refillAt = s.niTime n / p * p) ∧
     (∀ p, p < 4 → ((t.niAt n).shaper p).busy = 0 ∧
       (bit (s.shaperCfg n p) 63 = false → ((t.niAt n).shaper p).c = 0) ∧
       (bit (s.shaperCfg n p) 63 = true → shaperLo (s.shaperCfg n p) ≤ shaperHi (s.shaperCfg n p) →
         shaperLo (s.shaperCfg n p) ≤ ((t.niAt n).shaper p).c ∧ ((t.niAt n).shaper p).c ≤ shaperHi (s.shaperCfg n p))) ∧
     (∀ f, (t.niAt n).flow f = (s.niAt n).flow f) ∧ (t.niAt n).p0 = (s.niAt n).p0 ∧ s.nisKeep t n ∧ s.only t [.ni]))

/-- R8, R9, R11, R12, R14, R441: a write of 4 or 8 bytes, on its own multiple, reaches the bits of its half or of the whole register: in a register without acting fields a plain or boot-only
bit takes the value written, a write-1-to-clear bit is cleared by a one, a write-1-to-set bit is set by one, a staged bit becomes pending, and every other bit is as before; after lock the
boot-only bits stay. A write that misses its multiple, or a unit that is not ON, has no effect. -/
def Obligations.RegisterWrites : Prop :=
  ∀ (s : State) (a : BitVec 24) (wide : Bool) (value : W64),
    let size := if wide then 8 else 4
    let o := 4 * a.toNat / 8 * 8
    let v := if 4 * a.toNat % 8 = 0 then value else value <<< 32
    (∀ r, 4 * a.toNat % size = 0 → s.regLive (4 * a.toNat) = true → rowAt o = some r → s.rowHidden r = false → (s.wholeWrite o v (reachOf (4 * a.toNat) size)).isNone = true →
      (fieldActs o).isEmpty = true →
      ∃ t, exec (.registerWrite a wide value) s = .next t ∧ (s.locked = false → s.regsKeep t [o] ∧ s.only t [.regs, .pend, .pot]) ∧
        ∀ i, i < 64 → (s.fixedBits o).getLsbD i = false →
          let has := fun c => (r.mask (· == c)).getLsbD i
          ((reachOf (4 * a.toNat) size).getLsbD i = true → s.locked = false →
            (has .rw = true ∨ has .bl = true → has .w1c = false → (t.rd o).getLsbD i = v.getLsbD i) ∧
            (has .w1c = true → has .rw = false → has .bl = false → has .w1s = false → (t.rd o).getLsbD i = ((s.rd o).getLsbD i && !v.getLsbD i)) ∧
            (has .w1s = true → has .rw = false → has .bl = false → has .w1c = false → (t.rd o).getLsbD i = ((s.rd o).getLsbD i || v.getLsbD i)) ∧
            (has .st = true → (t.pendOf o).getLsbD i = v.getLsbD i)) ∧
          ((reachOf (4 * a.toNat) size).getLsbD i = false ∨ (has .rw = false ∧ has .bl = false ∧ has .w1c = false ∧ has .w1s = false) → s.locked = false → (t.rd o).getLsbD i = (s.rd o).getLsbD i) ∧
          ((bootBits o r).getLsbD i = true → has .w1c = false → has .w1s = false → s.locked = true → (t.rd o).getLsbD i = (s.rd o).getLsbD i)) ∧
    (4 * a.toNat % size ≠ 0 ∨ s.regLive (4 * a.toNat) = false → exec (.registerWrite a wide value) s = .next s)

/-- R572, R599, R601: outside lock a write of GL_BLS_DATA records its value in the BL store for the register that GL_BLS_SEL names, or is refused with ERR. DBG_SEL starts a capture; it ends
with the register's value if the port allows it, else refused, and each is counted. -/
def Obligations.BlStoreAndDebugPort : Prop :=
  (∀ (s : State) (v : W64), s.inReset = false → s.locked = false →
    let o := s.fld Off.GL_BLS_SEL Fld.GL_BLS_SEL.OFFSET * 8
    let held := KMap.get (fun _ => none) s.pot.bls o
    ((rowAt o).isSome = true → (offDomain o).isSome = true → held.isSome = true ∨ s.pot.bls.length < 512 →
      ∃ t, exec (.glBlsDataWrite v) s = .next t ∧ KMap.get (fun _ => none) t.pot.bls o = some v ∧
        (∀ k, k ≠ o → KMap.get (fun _ => none) t.pot.bls k = KMap.get (fun _ => none) s.pot.bls k) ∧ s.only t [.pot]) ∧
    ((rowAt o).isNone = true ∨ (offDomain o).isNone = true ∨ held.isNone = true ∧ 512 ≤ s.pot.bls.length →
      ∃ t, exec (.glBlsDataWrite v) s = .next t ∧ t.fld Off.GL_BLS_SEL Fld.GL_BLS_SEL.ERR = 1 ∧ s.onlyRegs t [Off.GL_BLS_SEL])) ∧
  (∀ (s : State) (data : BitVec 32), s.debugLive = true →
    ∃ t, exec (.dbgSelWrite data) s = .next t ∧ t.dbg.sel = bits data 3 23 * 8 ∧ t.dbg.busy = true ∧ t.dbg.valid = false ∧ t.dbg.refused = false ∧ s.only t [.dbg]) ∧
  (∀ s : State, s.debugLive = true → s.dbg.busy = true →
    (debugAllows s.dbg.sel = true → ∃ t, exec .debugCaptureDone s = .next t ∧ t.dbg = { s.dbg with busy := false, valid := true, value := s.readReg s.dbg.sel } ∧
      t.fld Off.GL_DEBUG Fld.GL_DEBUG.PORT_READS = satInc (2 ^ Fld.GL_DEBUG.PORT_READS.w - 1) (s.fld Off.GL_DEBUG Fld.GL_DEBUG.PORT_READS) ∧
      s.regsKeep t [Off.GL_DEBUG] ∧ s.only t [.dbg, .regs]) ∧
    (debugAllows s.dbg.sel = false → ∃ t, exec .debugCaptureDone s = .next t ∧ t.dbg = { s.dbg with busy := false, refused := true } ∧
      t.fld Off.GL_DEBUG Fld.GL_DEBUG.PORT_REFUSED = satInc (2 ^ Fld.GL_DEBUG.PORT_REFUSED.w - 1) (s.fld Off.GL_DEBUG Fld.GL_DEBUG.PORT_REFUSED) ∧
      s.regsKeep t [Off.GL_DEBUG] ∧ s.only t [.dbg, .regs])) ∧
  (∀ (s : State) (data : BitVec 32), s.debugLive = false → exec (.dbgSelWrite data) s = .next s ∧ exec .debugCaptureDone s = .next s)

/-- R524, R526: a diagnostic read loads a table word, or the word last stored in a buffer line, with its check bits; what else a buffer line holds is a free value. A diagnostic write stores
the word with the check bits given or generated, and is refused with BUSY for a buffer line in use. A bad table word is restored from its source, or reported again. -/
def Obligations.DiagnosticAccess : Prop :=
  (∀ (s : State) (n : Fin 256) (sel : W64) (used : Bool),
    let buf := bits sel 60 2
    let ix := bits sel 13 13
    let gr := if 2 ≤ buf then 0 else bits sel 10 3
    let key := diagKey n buf ix gr
    (2 ≤ buf ∨ used = false ∧ s.diagStored n buf ix gr = true → ∃ t, exec (.niDiagGo n sel used) s = .next t ∧
      t.rd (Off.NI_DIAG_DATA n) = KMap.get (fun _ => 0) s.tab key ∧ s.onlyRegs t [Off.NI_DIAG_SEL n, Off.NI_DIAG_DATA n, Off.NI_DIAG_CHK n]) ∧
    (buf < 2 → used = true ∨ s.diagStored n buf ix gr = false → ∃ t, exec (.niDiagGo n sel used) s = .next t ∧
      t.rd (Off.NI_DIAG_DATA n) = Config.freeValue s.free ∧ t.free = s.free + 1 ∧ t.rd (Off.NI_DIAG_CHK n) = BitVec.ofNat 64 (Config.check13 (Config.freeValue s.free)).toNat ∧
      s.regsKeep t [Off.NI_DIAG_SEL n, Off.NI_DIAG_DATA n, Off.NI_DIAG_CHK n] ∧ s.only t [.regs, .free, .chk])) ∧
  (∀ (s : State) (n : Fin 256) (data : W64) (used : Bool),
    let sel := s.rd (Off.NI_DIAG_SEL n)
    let buf := bits sel 60 2
    let ix := bits sel 13 13
    let key := diagKey n buf ix (if 2 ≤ buf then 0 else bits sel 10 3)
    let lines := if buf = 0 then (s.niAt n).txFree else (s.niAt n).rxFree
    (bit sel 63 = false → ∃ t, exec (.niDiagDataWrite n data used) s = .next t ∧ t.rd (Off.NI_DIAG_DATA n) = data ∧ s.onlyRegs t [Off.NI_DIAG_DATA n]) ∧
    (bit sel 63 = true → 2 ≤ buf ∨ lines ≠ 0 ∧ (used = false ∨ 1024 ≤ lines) → ∃ t, exec (.niDiagDataWrite n data used) s = .next t ∧
      KMap.get (fun _ => 0) t.tab key = data ∧ (∀ k, k ≠ key → KMap.get (fun _ => 0) t.tab k = KMap.get (fun _ => 0) s.tab k) ∧
      t.fld (Off.NI_DIAG_SEL n) Fld.NI_DIAG_SEL.RAW = 0 ∧ s.regsKeep t [Off.NI_DIAG_SEL n, Off.NI_DIAG_DATA n] ∧ s.only t [.regs, .tab, .chk]) ∧
    (bit sel 63 = true → buf < 2 → lines = 0 ∨ used = true ∧ lines < 1024 → ∃ t, exec (.niDiagDataWrite n data used) s = .next t ∧
      t.fld (Off.NI_DIAG_SEL n) Fld.NI_DIAG_SEL.BUSY = 1 ∧ s.onlyRegs t [Off.NI_DIAG_SEL n, Off.NI_DIAG_DATA n])) ∧
  (∀ (s : State) (n : Fin 256) (bank : Fin 2) (sec : BitVec 4) (part : BitVec 3) (idx : BitVec 20),
    let k := tabKey n bank sec.toNat part.toNat idx.toNat
    s.domOn 64 = true → KMap.get (fun _ => false) s.tabBad k = true →
    (∃ t, exec (.tableRestore n bank sec part idx true) s = .next t ∧ KMap.get (fun _ => 0) t.tab k = KMap.get (fun _ => 0) s.pot.img k ∧
      KMap.get (fun _ => false) t.tabBad k = false ∧ (∀ k', k' ≠ k → KMap.get (fun _ => 0) t.tab k' = KMap.get (fun _ => 0) s.tab k') ∧
      (∀ k', k' ≠ k → KMap.get (fun _ => false) t.tabBad k' = KMap.get (fun _ => false) s.tabBad k') ∧ s.only t [.tab, .tabBad]) ∧
    exec (.tableRestore n bank sec part idx false) s = .next (s.reportUp 248 5 .TABLE_UE (sec.toNat * 2 ^ 8)))

/-- R206, R207, R210: a read of an idle line of memory. Where no agent holds it, the home opens a record that awaits MRD at the memory target. Where another agent owns it, the owner's port
gets SNPS for an RDS, SNPI for an RDO or UPG, SNPC for an RDC. An upgrade by the only sharer is granted M at once and awaits CACK. -/
def Obligations.HomeReads : Prop :=
  ∀ (s : State) (h : Fin 16) (op i : Nat) (p : Pkt) (target : Nat) (c : Instr),
    (op, c) ∈ [(1, .rds h), (2, .rdo h), (3, .upg h), (4, .rdc h)] → s.grantedReq h op = some (i, p) → s.homeIdle h p.h.line → s.homeMemory h p.h target →
    let n := sliceNi h
    let x := s.sliceAt h
    let set := setOf p.h.line
    let bank := (s.bankOf n p.h.epoch.toNat).1
    (x.hitWay p.h.line = none → op = 4 ∨ (x.freeWay set).isSome = true → 1 ≤ s.demandTags n →
      ∃ t r, exec c s = .next t ∧ (t.sliceAt h).busy p.h.line = some r ∧ r.kind = .req op ∧ r.way = (if op = 4 then none else x.freeWay set) ∧
        r.dems = [⟨x.nextDem, 4, target, 0, .read, false⟩] ∧ r.read = true ∧ t.demands n target 4 x.nextDem ∧
        (t.niAt n).inbox = (s.niAt n).inbox.eraseIdx i ∧ s.homeFrame t h) ∧
    (∀ k y, x.hitWay p.h.line = some k → (View.ofWord (x.slot set k).1).owner = some y → y ≠ p.h.agent.toNat → (View.ofWord (x.slot set k).1).ptrs = [] →
      (View.ofWord (x.slot set k).1).vec = none → 1 ≤ s.demandTags n →
      let port := s.agentPort h bank y
      let snp := if op = 1 then 1 else if op = 4 then 3 else 2
      ∃ t r, exec c s = .next t ∧ (t.sliceAt h).busy p.h.line = some r ∧ r.kind = .req op ∧ r.way = some k ∧
        r.dems = [⟨x.nextDem, snp, port, y, .owner, s.portFwd bank port⟩] ∧ t.demands n port snp x.nextDem ∧
        (t.niAt n).inbox = (s.niAt n).inbox.eraseIdx i ∧ s.homeFrame t h) ∧
    (∀ k, op = 3 → x.hitWay p.h.line = some k → View.ofWord (x.slot set k).1 = { View.u with st := 1, ptrs := [p.h.agent.toNat] } →
      ∃ t r, exec c s = .next t ∧ (t.sliceAt h).busy p.h.line = some r ∧ r.kind = .req 3 ∧ r.dems = [] ∧ r.closing = true ∧
        r.new.st = 3 ∧ r.new.owner = some p.h.agent.toNat ∧ r.new.ptrs = [] ∧ r.ackw = some (s.niTime n) ∧ t.answers n p.h.src.toNat Vn.RSP 1 Resp.OK ∧
        (t.niAt n).inbox = (s.niAt n).inbox.eraseIdx i ∧ s.homeFrame t h)

/-- R195, R206, R208, R219, R228, R230: WRI is let go on at once with WRGO and its record awaits the data, as that of a WBM from the owner does; a WBM or EVC of an agent that holds no copy
is completed without a record. A fence is answered once no earlier write of its source is open, and an HSNP that finds no copy gets an empty answer. -/
def Obligations.HomeWrites : Prop :=
  ∀ (s : State) (h : Fin 16) (op i : Nat) (p : Pkt), s.grantedReq h op = some (i, p) → s.homeIdle h p.h.line →
    let n := sliceNi h
    let x := s.sliceAt h
    let set := setOf p.h.line
    let bank := (s.bankOf n p.h.epoch.toNat).1
    (∀ target, s.homeMemory h p.h target →
      (op = 5 → p.word 1 ≠ 0 → x.hitWay p.h.line = none → ∃ t r, exec (.wri h) s = .next t ∧ (t.sliceAt h).busy p.h.line = some r ∧ r.kind = .req 5 ∧ r.wdat = true ∧
        r.mask = p.word 1 ∧ r.dems = [] ∧ t.answers n p.h.src.toNat Vn.RSP 2 Resp.OK ∧ (t.niAt n).inbox = (s.niAt n).inbox.eraseIdx i ∧ s.homeFrame t h) ∧
      (∀ k, op = 6 → x.hitWay p.h.line = some k → (View.ofWord (x.slot set k).1).owner = some p.h.agent.toNat → ∃ t r, exec (.wbm h) s = .next t ∧
        (t.sliceAt h).busy p.h.line = some r ∧ r.kind = .req 6 ∧ r.way = some k ∧ r.wdat = true ∧ r.new.owner = none ∧ t.answers n p.h.src.toNat Vn.RSP 2 Resp.OK ∧
        (t.niAt n).inbox = (s.niAt n).inbox.eraseIdx i ∧ s.homeFrame t h) ∧
      (op = 6 → x.hitWay p.h.line = none → ∃ t, exec (.wbm h) s = .next t ∧ (t.sliceAt h).recs.length = x.recs.length ∧ t.answers n p.h.src.toNat Vn.RSP 1 Resp.OK ∧
        (t.niAt n).inbox = (s.niAt n).inbox.eraseIdx i ∧ s.homeFrame t h) ∧
      (op = 7 → x.hitWay p.h.line = none → ∃ t, exec (.evc h) s = .next t ∧ (t.sliceAt h).recs.length = x.recs.length ∧ t.answers n p.h.src.toNat Vn.RSP 1 Resp.OK ∧
        (t.niAt n).inbox = (s.niAt n).inbox.eraseIdx i ∧ s.homeFrame t h)) ∧
    (op = 8 → s.accepts h bank p.h (s.proxyOf h bank p.h.line) = true → x.recs = [] → ∃ t, exec (.fnc h) s = .next t ∧ (t.sliceAt h).recs = [] ∧
      (t.sliceAt h).fncs = x.fncs ∧ t.answers n p.h.src.toNat Vn.RSP 6 Resp.OK ∧ (t.niAt n).inbox = (s.niAt n).inbox.eraseIdx i ∧ s.homeFrame t h) ∧
    (op = 9 → niType p.h.src.toNat = .cpa → (s.proxyOf h bank p.h.line).isSome = true → x.hitWay p.h.line = none → ∃ t, exec (.hsnp h) s = .next t ∧
      (t.sliceAt h).recs.length = x.recs.length ∧ t.answers n p.h.src.toNat Vn.RSP 4 Resp.OK ∧ (t.niAt n).inbox = (s.niAt n).inbox.eraseIdx i ∧ s.homeFrame t h)

/-- R201, R204, R210, R211, R217: the front answer of its VN, granted to RESPONSE, takes the demand it names from its transaction, which waits on for the others, and clean read data is kept;
write data ends the wait for it; CACK, or its timeout, ends a transaction that awaits nothing else, and the line takes its new state. A waiting request that may look up again, and finds its
line in no agent's hands, leaves its place and opens a transaction. -/
def Obligations.HomeResponses : Prop :=
  (∀ (s s1 : State) (h : Fin 16) (vn op id : Nat) (c : Instr) (p : Pkt) (r : Tx) (d : Dem),
    (vn, op, c) ∈ [(Vn.RSP, 4, .srsp h), (Vn.DAT, 3, .sdata h), (Vn.DAT, 4, .mdata h), (Vn.RSP, 7, .mcmp h), (Vn.DAT, 5, .pxdata h), (Vn.RSP, 8, .pxcmp h)] →
    s.runs (48 + h) = true → (s.sliceAt h).granted 1 = true → s.takeIn (sliceNi h) vn (fun q => q.h.opcode.toNat == op) = some (p, id, s1) →
    (s.sliceAt h).recs.find? (fun t => t.dems.any (fun e => e.id == id)) = some r → (∀ r' ∈ (s.sliceAt h).recs, r'.num = r.num → r' = r) →
    r.dems.find? (fun e => e.id == id) = some d → r.dems.filter (fun e => e.id != id) ≠ [] → (∀ r' ∈ (s.sliceAt h).recs, r'.staged = true) →
    ∃ t r', exec c s = .next t ∧ (t.sliceAt h).tx r.num = some r' ∧ r'.dems = r.dems.filter (fun e => e.id != id) ∧ r'.line = r.line ∧ r'.kind = r.kind ∧
      (d.role = .read → r.dirty = false → p.h.resp = Resp.OK → p.lines ≠ [] → r'.data = p.lines.head?) ∧
      (t.niAt (sliceNi h)).inbox = (s1.niAt (sliceNi h)).inbox ∧ s.homeFrame t h) ∧
  (∀ (s s1 : State) (h : Fin 16) (id : Nat) (p : Pkt) (r : Tx), s.runs (48 + h) = true → (s.sliceAt h).granted 1 = true →
    s.takeIn (sliceNi h) Vn.DAT (fun q => q.h.opcode.toNat == 2) = some (p, id, s1) →
    (s.sliceAt h).recs.find? (fun t => t.wdat && t.h.src.toNat == p.h.town && t.h.tag == p.h.tag) = some r → (∀ r' ∈ (s.sliceAt h).recs, r'.num = r.num → r' = r) →
    r.dems ≠ [] → (∀ r' ∈ (s.sliceAt h).recs, r'.staged = true) → ∃ t r', exec (.wdata h) s = .next t ∧ (t.sliceAt h).tx r.num = some r' ∧ r'.wdat = false ∧ r'.wdata = some (p.lines.headD ⟨true, allBytes, 0⟩) ∧
      r'.dems = r.dems ∧ (t.niAt (sliceNi h)).inbox = (s1.niAt (sliceNi h)).inbox ∧ s.homeFrame t h) ∧
  (∀ (s : State) (h : Fin 16) (r : Tx) (c : Instr),
    (c = .cack h ∧ s.runs (48 + h) = true ∧ (s.sliceAt h).granted 1 = true ∧ (∃ p id s1, s.takeIn (sliceNi h) Vn.RSP (fun q => q.h.opcode.toNat == 5) = some (p, id, s1) ∧
        (s.sliceAt h).recs.find? (fun t => t.ackw.isSome && t.h.src.toNat == p.h.town && t.h.tag == p.h.tag) = some r) ∨
      (∃ num : Fin 256, c = .cohAckTimeout h num ∧ num.val = r.num ∧ (s.sliceAt h).tx num = some r ∧ s.timeRuns (sliceNi h) = true ∧
        ∃ t0, r.ackw = some t0 ∧ t0 + 2 ^ (s.fld (Off.NI_TIMEOUT (sliceNi h)) Fld.NI_TIMEOUT.TO_COH + 10) ≤ s.niTime (sliceNi h))) →
    (∀ r' ∈ (s.sliceAt h).recs, r'.num = r.num → r' = r) → (∃ op, r.kind = .req op) → r.closing = true → r.dems = [] → r.wdat = false → r.wbs = [] →
    (∀ r' ∈ (s.sliceAt h).recs, r'.staged = true) → ∃ t, exec c s = .next t ∧ (t.sliceAt h).tx r.num = none ∧ (∀ w, r.way = some w → (s.sliceAt h).bcast r.set = false → (s.sliceAt h).spared r.set w = false →
        (t.sliceAt h).slot r.set w = (r.new.word, tagOf r.line % 2 ^ 32)) ∧ s.homeFrame t h) ∧
  (∀ (s : State) (h : Fin 16) (i at' : Nat) (w : Wait) (target : Nat), s.homeReady h w.p.h.line → (s.sliceAt h).granted 3 = true → s.waiterFirst h = true →
    s.waitFront h = some (i, at') → (s.sliceAt h).waits[i]? = some w → w.p.h.opcode.toNat ∈ [1, 2, 3] → (∀ v ∈ (s.sliceAt h).waits.take i, v.p.h.line ≠ w.p.h.line) →
    s.homeMemory h w.p.h target → (s.sliceAt h).hitWay w.p.h.line = none → ((s.sliceAt h).freeWay (setOf w.p.h.line)).isSome = true →
    ∃ t r, exec (.homeWaiterStart h) s = .next t ∧ (t.sliceAt h).busy w.p.h.line = some r ∧ r.kind = .req w.p.h.opcode.toNat ∧
      r.dems = [⟨(s.sliceAt h).nextDem, 4, target, 0, .read, false⟩] ∧ (t.sliceAt h).waits = (s.sliceAt h).waits.eraseIdx i ∧ s.homeFrame t h)

/-- R249, R250, R252, R253, R273, R275: the arbiter grants the requester it chooses, or the scrubber, and a preempting requester takes the pipeline between the beats of a BULK or MAINT
transfer; a committed quota group becomes active as the next window starts, with its counts at zero; the scrubber reads word after word and notes the time of a lap.
R260, R273, R274, R526: a word that it corrects is written back by a MAINT transfer, or read again where its set has been written since; a diagnostic access joins the MAINT work, and its
transfer reads or writes the stores, never a staging line in use, nor does it clear a bit of a set's BCAST, RETIRED or SPARED. -/
def Obligations.HomeArbiter : Prop :=
  ∀ (s : State) (h : Fin 16), let x := s.sliceAt h
    (s.runs (48 + h) = true → (x.cur = none ∨ ∃ c, x.cur = some c ∧ c.served = true) → (∀ r ∈ x.recs, r.staged = true ∧ r.unsent = []) →
      let d := (s.fld (Off.HS_ARB_STATUS h) Fld.HS_ARB_STATUS.DECISION + 1) % 8
      (∀ q, s.choose h (d == 0) = some q → ∃ t, exec (.homeArbiterDecision h [] ⟨false, none, 0⟩) s = .next t ∧ (t.sliceAt h).cur = some ⟨q, s.beats h q, false⟩ ∧
        t.fld (Off.HS_ARB_STATUS h) Fld.HS_ARB_STATUS.DECISION = d ∧ KMap.get (fun _ => 0) (t.sliceAt h).win q = KMap.get (fun _ => 0) x.win q + 1 ∧
        (t.sliceAt h).recs = x.recs ∧ s.only t [.regs, .slice]) ∧
      (s.choose h (d == 0) = none → ∃ t, exec (.homeArbiterDecision h [] ⟨false, none, 0⟩) s = .next t ∧
        (t.sliceAt h).cur = (if s.scrubWants h = true then some ⟨6, 1, false⟩ else none) ∧ (t.sliceAt h).win = x.win ∧ s.only t [.regs, .slice])) ∧
    (∀ (q : Fin 2) (c : Transfer), x.cur = some c → c.q = 4 ∨ c.q = 5 → 1 < c.beats → (if c.q = 4 then x.pre4 else x.pre5) < 3 →
      (s.fld (Off.HS_ARB_CFG h) Fld.HS_ARB_CFG.PREEMPT).testBit q = true → (s.reqAge h q).isSome = true → s.arbMasked h q = false →
      q = 0 ∨ (s.fld (Off.HS_ARB_CFG h) Fld.HS_ARB_CFG.PREEMPT).testBit 0 = false ∨ s.reqAge h 0 = none ∨ s.arbMasked h 0 = true →
      ∃ t, exec (.homePreempt h q) s = .next t ∧ (t.sliceAt h).cur = some ⟨q, s.beats h q, q == 0⟩ ∧
        t.fld (Off.HS_ARB_STATUS h) Fld.HS_ARB_STATUS.PREEMPTS = satInc (2 ^ Fld.HS_ARB_STATUS.PREEMPTS.w - 1) (s.fld (Off.HS_ARB_STATUS h) Fld.HS_ARB_STATUS.PREEMPTS) ∧
        (if c.q = 4 then (t.sliceAt h).pre4 = x.pre4 + 1 else (t.sliceAt h).pre5 = x.pre5 + 1) ∧ s.homeFrame t h) ∧
    (∃ t, exec (.quotaWindowStart h) s = .next t ∧ t.sliceAt h = { x with win := [], arb := none } ∧
      (∀ c q, x.arb = some (c, q) → t.rd (Off.HS_ARB_CFG h) = c ∧ t.rd (Off.HS_ARB_QUOTA h) = q) ∧ s.regsKeep t [Off.HS_ARB_CFG h, Off.HS_ARB_QUOTA h] ∧
      (x.arb = none → t.regs = s.regs) ∧ s.only t [.regs, .pend, .slice]) ∧
    (∃ t, exec (.hsArbCommit h) s = .next t ∧ t.sliceAt h = { x with arb := some (s.pendOf (Off.HS_ARB_CFG h), s.pendOf (Off.HS_ARB_QUOTA h)) } ∧ s.only t [.slice]) ∧
    (∀ k, x.reread = [] → x.scrub = some k → x.granted 6 = true → ∃ t, exec (.scrubRead h none) s = .next t ∧
      (t.sliceAt h).scrub = (if k + 1 < lapReads then some (k + 1) else none) ∧
      (lapReads ≤ k + 1 → k ≠ 0 → t.fld (Off.HS_SCRUB_STATUS h) Fld.HS_SCRUB_STATUS.LAP_FT = (s.niTime (sliceNi h) - x.lapFirst) % 2 ^ Fld.HS_SCRUB_STATUS.LAP_FT.w) ∧
      s.only t [.regs, .slice]) ∧
    (∀ k rest, x.reread = k :: rest → x.granted 6 = true → ∃ t, exec (.scrubRead h none) s = .next t ∧ (t.sliceAt h).reread = rest ∧ (t.sliceAt h).scrub = x.scrub ∧
      s.only t [.regs, .slice]) ∧
    (∀ k e, x.reread = [] → x.scrub = some k → x.granted 6 = true → e.ue = false → let w := scrubWord k e.way
      ∃ t a, exec (.scrubRead h (some e)) s = .next t ∧ (Maint.writeBack k w.1 w.2.1 w.2.2 (x.scrubSeen w.1 w.2.1), a) ∈ (t.sliceAt h).maint ∧ s.homeFrame t h) ∧
    (∀ k st ix wy seen rest, s.maintEnds h (.writeBack k st ix wy seen) rest → ∃ t, exec (.homeArbiterDecision h [] ⟨false, none, 0⟩) s = .next t ∧
      (t.sliceAt h).maint = rest ∧ (x.scrubSeen st ix = seen → KMap.get (fun _ => none) (t.sliceAt h).chk (chkKey st ix wy) = none ∧ (t.sliceAt h).reread = x.reread) ∧
      (x.scrubSeen st ix ≠ seen → (t.sliceAt h).chk = x.chk ∧ (t.sliceAt h).reread = x.reread ++ [k]) ∧ s.homeFrame t h) ∧
    (s.flag (Off.HS_CTRL h) Fld.HS_CTRL.SCRUB_EN = true → x.scrub = none →
      (∀ t0, x.lapStart = some t0 → t0 + s.fld (Off.HS_SCRUB_CFG h) Fld.HS_SCRUB_CFG.MIN_LAP * 2 ^ 20 ≤ s.niTime (sliceNi h)) →
      ∃ t, exec (.scrubLapStart h) s = .next t ∧ t.sliceAt h = { x with scrub := some 0, lapStart := some (s.niTime (sliceNi h)) } ∧ s.only t [.slice]) ∧
    (∀ sel : W64, let w := BitVec.ofNat 64 (bits sel 29 3 * 2 ^ 29 + bits sel 15 14 * 2 ^ 15 + bits sel 11 4 * 2 ^ 11)
      ∃ t, exec (.hsDiagGo h sel) s = .next t ∧ t.rd (Off.HS_DIAG_SEL h) = w ∧
        t.sliceAt h = { x with maint := x.maint ++ [(.diag false w 0 0, s.niTime (sliceNi h))] } ∧ s.regsKeep t [Off.HS_DIAG_SEL h] ∧ s.only t [.regs, .slice]) ∧
    (∀ data : W64,
      (s.flag (Off.HS_CTRL h) Fld.HS_CTRL.DIAG_EN = true → ∃ t, exec (.hsDiagDataWrite h data) s = .next t ∧ t.fld (Off.HS_DIAG_CHK h) Fld.HS_DIAG_CHK.RAW = 0 ∧
        t.sliceAt h = { x with maint := x.maint ++ [(.diag true (s.rd (Off.HS_DIAG_SEL h)) data (s.rd (Off.HS_DIAG_CHK h)), s.niTime (sliceNi h))] } ∧
        s.regsKeep t [Off.HS_DIAG_CHK h] ∧ s.only t [.regs, .slice]) ∧
      (s.flag (Off.HS_CTRL h) Fld.HS_CTRL.DIAG_EN = false → exec (.hsDiagDataWrite h data) s = .next s)) ∧
    (∀ write sel data chk rest, s.maintEnds h (.diag write sel data chk) rest →
      let st := bits sel 29 3
      let ix := bits sel 15 14
      let wy := bits sel 11 4
      ∃ t, exec (.homeArbiterDecision h [] ⟨false, none, 0⟩) s = .next t ∧ (t.sliceAt h).recs = x.recs ∧ s.homeFrame t h ∧
        (write = false → t.rd (Off.HS_DIAG_DATA h) = x.diagWord st ix wy) ∧
        (write = true → st = 7 → x.stgHeld (ix % 512) = true → t.fld (Off.HS_DIAG_CHK h) Fld.HS_DIAG_CHK.BUSY = 1 ∧ (t.sliceAt h).stg = x.stg) ∧
        (write = true → st ≠ 4 → ¬(st = 7 ∧ x.stgHeld (ix % 512) = true) → t.rd (Off.HS_DIAG_DATA h) = data ∧ (t.sliceAt h).diagWord st ix wy = data ∧
          KMap.get (fun _ => none) (t.sliceAt h).chk (chkKey st ix wy) = if bit chk 63 then some chk else none) ∧
        (write = true → st = 4 → ∀ i, i = 63 ∨ (16 ≤ i ∧ i < 48) → (x.status ix).getLsbD i = true → ((t.sliceAt h).status ix).getLsbD i = true))

/-- R222, R223, R328, R334, R344, R345, R353, R597: a request of the host, of a device or of the debug view at a port that is up is opened by its tag and admitted with the identity of the
port: a host's memory request with the opcode and word of its translation, a snoop of a PROXY line as HSNP, a transfer as NRD, NWR or PWR. A memory request without a translation is answered
at once with an error and XLATE_MISS. -/
def Obligations.HostRequests : Prop :=
  ∀ (s : State) (dest : Nat),
    (∀ (n : Fin 8) (k j : Nat) (tag : BitVec 16) (line : BitVec 46) (data : List Body) (mask : W64) (c : Instr),
      (c = .memrd n tag line .s .clean ∧ (k, j) = (0, 0) ∧ data = [] ∧ mask = 0 ∨ c = .memrd n tag line .a .clean ∧ (k, j) = (1, 0) ∧ data = [] ∧ mask = 0 ∨
        c = .memrd n tag line .i .clean ∧ (k, j) = (2, 0) ∧ data = [] ∧ mask = 0 ∨ c = .memrddata n tag line .clean ∧ (k, j) = (3, 0) ∧ data = [] ∧ mask = 0 ∨
        c = .meminv n tag line .a .clean ∧ (k, j) = (4, 1) ∧ data = [] ∧ mask = 0 ∨ c = .memclnevct n tag line .clean ∧ (k, j) = (5, 1) ∧ data = [] ∧ mask = 0 ∨
        (∃ po d, c = .memwr n tag line po d .clean ∧ (k, j) = (6, 2) ∧ data = [⟨po, allBytes, d⟩] ∧ mask = allBytes) ∨
        (∃ po d, c = .memwrptl n tag line mask po d .clean ∧ (k, j) = (7, 0) ∧ data = [⟨po, mask, d⟩])) → s.portLive n = true →
      (∀ op w, s.translate n (s.niAt n).ep.bank k j = some (op, w) → s.passesTo n (s.identify n { cohReq op w line.toNat data mask with ident := (s.portAt n).next }) dest →
        ∃ t, exec c s = .next t ∧ s.opensReq t n (.mem k) tag.toNat data (cohReq op w line.toNat data mask) dest ∧ s.only t [.ni, .regs, .port]) ∧
      (s.translate n (s.niAt n).ep.bank k j = none → ∃ t, exec c s = .next t ∧ s.portSays t n [if k ≤ 3 then .drs true false tag.toNat 0 else .ndr .cmp tag.toNat] ∧
        (t.portAt n).opens = (s.portAt n).opens ∧ (t.niAt n).wait = (s.niAt n).wait ∧ s.nisKeep t n ∧ s.only t [.ni, .regs, .port])) ∧
    (∀ (n : Fin 8) (op : Nat) (uqid : BitVec 12) (line : BitVec 46) (w0 w1 : W64) (c : Instr),
      (op, c) ∈ [(1, .snpdata n uqid line .clean), (2, .snpinv n uqid line .clean), (3, .snpcur n uqid line .clean)] → s.portLive n = true →
      let r : Req := { cohReq 9 0 line.toNat [] 0 with pl := lineOfWords [BitVec.ofNat 64 (op * 2 ^ 20 + s.xlateCaps n (s.niAt n).ep.bank * 2 ^ 16)] }
      s.mapWindow n (s.niAt n).ep.bank line.toNat = some (w0, w1) →
      (bits w0 60 4 = 2 → bits w1 40 8 = n.val → s.passesTo n (s.identify n { r with ident := (s.portAt n).next }) dest →
        ∃ t, exec c s = .next t ∧ s.opensReq t n (.snoop op) uqid.toNat [] r dest ∧ s.only t [.ni, .regs, .port]) ∧
      (¬(bits w0 60 4 = 2 ∧ bits w1 40 8 = n.val) → ∃ t, exec c s = .next t ∧ s.portSays t n [.d2hRsp .iHitI uqid.toNat] ∧ s.only t [.port])) ∧
    (∀ (n : Nat) (k : ExtKind) (tag : Nat) (r : Req) (c : Instr),
      ((∃ (m : Fin 8) (tg : BitVec 10) (line : BitVec 46) (masks : List W64) (pasid : Option Bool), n = m.val ∧ c = .cxlIoMrd m tg line masks pasid .clean ∧ k = .ioRead ∧
          tag = tg.toNat ∧ r = ioReq Vn.ION 1 line.toNat (masks.map (fun m => ⟨false, m, 0⟩)) (s.ioPriv n pasid)) ∨
        (∃ (m : Fin 8) (tg : BitVec 10) (a : BitVec 24) (wide : Bool) (pasid : Option Bool), n = m.val ∧ c = .debugMeshRead m tg a wide pasid .clean ∧ k = .ioRead ∧ tag = tg.toNat ∧
          r = ioReq Vn.ION 1 ((Config.cfgBase.toNat * 2 ^ 26 + 4 * a.toNat) / 64)
            [⟨false, bytesAt (Config.cfgBase.toNat * 2 ^ 26 + 4 * a.toNat) (if wide then 8 else 4), 0⟩] (s.ioPriv n pasid)) ∨
        (∃ (m : Fin 8) (relaxed : Bool) (line : BitVec 46) (data : List Body) (pasid : Option Bool), n = m.val ∧ c = .cxlIoMwr m relaxed line data pasid .clean ∧ k = .ioWrite ∧ tag = 0 ∧
          r = (if relaxed = true ∨ s.flag (Off.NI_PORT_CFG n) Fld.NI_PORT_CFG.IO_ORDER = false then ioReq Vn.IOP 1 line.toNat data (s.ioPriv n pasid)
            else ioReq Vn.ION 2 line.toNat data (s.ioPriv n pasid))) ∨
        (∃ (m : Fin 16) (tg : BitVec 10) (line : BitVec 46) (masks : List W64), n = m.val ∧ c = .deviceMrd m tg line masks .clean ∧ k = .ioRead ∧ tag = tg.toNat ∧
          r = ioReq Vn.ION 1 line.toNat (masks.map (fun m => ⟨false, m, 0⟩)) false) ∨
        (∃ (m : Fin 16) (line : BitVec 46) (data : List Body), n = m.val ∧ c = .deviceMwr m line data .clean ∧ k = .ioWrite ∧ tag = 0 ∧
          r = ioReq Vn.IOP 1 line.toNat data false)) →
      s.portLive n = true → s.passesTo n (s.identify n { r with ident := (s.portAt n).next }) dest →
      ∃ t, exec c s = .next t ∧ s.opensReq t n k tag [] r dest ∧ s.only t [.ni, .regs, .port])

/-- R214, R330, R335, R339, R342, R350, R361, R362: the front SNP demand of a port that is up is remembered and goes outside: at a CPA a snoop as BISnp and a proxy demand as its D2H request,
at an MPA a read as MemRd and a write as MemWr, at a CLA to the chiplet with the native snoop code. A snoop of a group or of a whole
port that names the agent of a CPA's host as its requester leaves that agent out (R198). While the port is down a demand is answered with ERR_FENCED. -/
def Obligations.DemandsOutward : Prop :=
  ∀ (s s1 : State) (n : Fin 256) (op i : Nat) (p : Pkt) (c : Instr), s.takeIn n Vn.SNP (fun q => q.h.opcode.toNat == op) = some (p, i, s1) →
    (op, c) ∈ [(1, .snps n), (2, .snpi n), (3, .snpc n), (4, .mrd n), (5, .mwr n), (6, .pxrd n), (7, .pxro n), (8, .pxrc n), (9, .pxev n), (10, .pxwb n), (11, .pxwc n)] →
    let id := demandId p.h
    let line := p.h.line
    ((s.portAt n).up = false → ∃ t, exec c s = .next t ∧ t.answers n p.h.src.toNat Vn.RSP 4 Resp.ERR_FENCED ∧ (t.niAt n).inbox = (s1.niAt n).inbox ∧ s.nisKeep t n ∧ s.only t [.ni]) ∧
    ((s.portAt n).up = true → niType n ≠ .cla → op ≤ 3 → 1 ≤ bits (p.word 0) 50 2 → p.h.agent.toNat = s.fld (Off.NI_PORT_CFG n) Fld.NI_PORT_CFG.AGENT →
      ∃ t, exec c s = .next t ∧ t.portAt n = s.portAt n ∧ t.answers n p.h.src.toNat Vn.RSP 4 Resp.OK ∧ (t.niAt n).inbox = (s1.niAt n).inbox ∧ s.nisKeep t n ∧ s.only t [.ni]) ∧
    ((s.portAt n).up = true → niType n ≠ .cla ∨ 6 ≤ op →
      4 ≤ op ∨ bits (p.word 0) 50 2 = 0 ∨ p.h.agent.toNat ≠ s.fld (Off.NI_PORT_CFG n) Fld.NI_PORT_CFG.AGENT → ∀ m,
      (op = 1 ∧ m = .biSnp .data id line ∨ op = 2 ∧ m = .biSnp .inv id line ∨ op = 3 ∧ m = .biSnp .cur id line ∨ op = 4 ∧ m = .memRd id line ∨
        (∃ b rest, op = 5 ∧ p.lines = b :: rest ∧ m = .memWr (!p.h.hdata) id line b) ∨ op = 6 ∧ m = .d2hReq .rdShared id line ∨
        op = 7 ∧ m = .d2hReq (if bit (p.word 0) 0 then .rdOwnNoData else .rdOwn) id line ∨ op = 8 ∧ m = .d2hReq .rdCurr id line ∨
        op = 9 ∧ m = .d2hReq .cleanEvictNoData id line ∨ op = 10 ∧ m = .d2hReq .dirtyEvict id line ∨ op = 11 ∧ m = .d2hReq .wrCur id line) →
      ∃ t, exec c s = .next t ∧ s.portSays t n [m] ∧ (t.portAt n).demands = (s.portAt n).demands ++ [⟨id, p, none, none, none, none, false, false, false⟩] ∧
        (t.niAt n).inbox = (s1.niAt n).inbox ∧ s.nisKeep t n ∧ s.only t [.ni, .port]) ∧
    ((s.portAt n).up = true → niType n = .cla → op ≤ 5 →
      ∃ t, exec c s = .next t ∧ (t.portAt n).demands = (s.portAt n).demands ++ [⟨p.h.src.toNat * 256 + p.h.tag.toNat, p, none, none, none, none, false, false, false⟩] ∧
        t.wireAt (claTxKey n) = s.wireAt (claTxKey n) ++ (if op ≤ 3 then { p with pl := setLineWord p.pl 0 (setBits (p.word 0) 0 8
          (bits (s.xlate n (s.bankOf n p.h.epoch.toNat).1 (snoopWord p.h (p.word 0))) 56 8)) } else p).flits ∧
        (t.niAt n).inbox = (s1.niAt n).inbox ∧ s.nisKeep t n ∧ s.only t [.ni, .port, .wire])

/-- R33, R215, R223, R339, R342, R345, R350, R355, R590: at a port that is up, and otherwise not at all, an answer from outside ends the demand that it names, and the NI gets its response: SRSP of a BIRsp, or SDATA with the line of a write-back that the port still holds, PXDATA or PXCMP of the host's data and GO,
MDATA or MCMP of a device, IOC of a completion; the answer to a poisoning write of the Pot goes to the Pot. Host data and GO wait for each other. An answer that names no demand is a protocol
error at a CPA and has no effect at an MPA. -/
def Obligations.AnswersInward : Prop :=
  (∀ (s : State) (n : Fin 8) (tag : BitVec 12) (st : BiState) (d : Demand), s.portLive n = true → (s.portAt n).demandBy tag.toNat 1 3 = some d →
    d.held = none → d.wbm = none → s.reportLawful n (s.bankOf n d.p.h.epoch.toNat).1 (snoopWord d.p.h (d.p.word 0)) st.val = true →
    ∃ t, exec (.birsp n tag st) s = .next t ∧ t.portAt n = (s.portAt n).dropDemand d ∧ s.nisKeep t n ∧ s.only t [.ni, .port] ∧
      ((s.portAt n).writeBack d = none → t.answers n d.p.h.src.toNat Vn.RSP 4 Resp.OK) ∧
      (∀ x, (s.portAt n).writeBack d = some x → t.answers n d.p.h.src.toNat Vn.DAT 3 (if x.data.any (·.poison) = true then Resp.ERR_POISON else Resp.OK))) ∧
  (∀ (s : State) (n : Fin 8) (id : BitVec 12) (d : Demand), s.portLive n = true → (s.portAt n).demandBy id.toNat 6 11 = some d →
    (∀ g : Fin 5, g.val < 4 → d.p.h.opcode.toNat = 9 → ∃ t, exec (.h2dGo n id (.go g)) s = .next t ∧ t.portAt n = (s.portAt n).dropDemand d ∧
      t.answers n d.p.h.src.toNat Vn.RSP 8 Resp.OK ∧ s.nisKeep t n ∧ s.only t [.ni, .port]) ∧
    (∃ t, exec (.h2dGo n id (.go 4)) s = .next t ∧ t.portAt n = (s.portAt n).dropDemand d ∧
      (if d.wantsData = true then t.answers n d.p.h.src.toNat Vn.DAT 5 Resp.ERR_ACCESS else t.answers n d.p.h.src.toNat Vn.RSP 8 Resp.ERR_ACCESS) ∧
      s.nisKeep t n ∧ s.only t [.ni, .port]) ∧
    (d.p.h.opcode.toNat = 10 ∨ d.p.h.opcode.toNat = 11 → ∃ t, exec (.h2dGo n id .goWritePull) s = .next t ∧
      s.portSays t n [.d2hData d.id d.p.h.poison d.p.pl] ∧ (t.portAt n).demands = ((s.portAt n).dropDemand d).demands ∧ t.answers n d.p.h.src.toNat Vn.RSP 8 Resp.OK ∧
      s.nisKeep t n ∧ s.only t [.ni, .port])) ∧
  (∀ (s : State) (n : Fin 8) (id : BitVec 12) (po : Bool) (data : Line) (d : Demand), s.portLive n = true → (s.portAt n).demandBy id.toNat 6 8 = some d →
    (d.wantsData = true → d.p.h.opcode.toNat = 8 ∨ d.go.isSome = true → ∃ t, exec (.h2dData n id po data) s = .next t ∧ t.portAt n = (s.portAt n).dropDemand d ∧
      t.answers n d.p.h.src.toNat Vn.DAT 5 (if po then Resp.ERR_POISON else Resp.OK) ∧ s.nisKeep t n ∧ s.only t [.ni, .port]) ∧
    (d.wantsData = true → d.p.h.opcode.toNat ≠ 8 → d.go = none → ∃ t, exec (.h2dData n id po data) s = .next t ∧
      t.portAt n = (s.portAt n).setDemand d { d with data := some ⟨po, allBytes, data⟩ } ∧ s.only t [.port]) ∧
    (d.wantsData = false → exec (.h2dData n id po data) s = .next (s.portProtocol n (id.toNat % 256) Vn.SNP))) ∧
  (∀ (s : State) (n : Fin 8) (id : BitVec 12) (kind : GoKind) (po : Bool) (data : Line), s.portLive n = true → (s.portAt n).demandBy id.toNat 6 11 = none →
    exec (.h2dGo n id kind) s = .next (s.portProtocol n (id.toNat % 256) Vn.SNP) ∧
    ((s.portAt n).demandBy id.toNat 6 8 = none → exec (.h2dData n id po data) s = .next (s.portProtocol n (id.toNat % 256) Vn.SNP)) ∧
    (∀ st, (s.portAt n).demandBy id.toNat 1 3 = none → exec (.birsp n id st) s = .next (s.portProtocol n (id.toNat % 256) Vn.SNP))) ∧
  (∀ (s : State) (n : Fin 8) (id : BitVec 12) (kind : GoKind) (po : Bool) (data : Line) (st : BiState), s.portLive n = false →
    exec (.h2dGo n id kind) s = .next s ∧ exec (.h2dData n id po data) s = .next s ∧ exec (.birsp n id st) s = .next s) ∧
  (∀ (s : State) (n : Fin 16) (id : BitVec 17) (st : IoStatus) (data : List Line) (d : Demand), s.portLive n = true → (s.portAt n).ioBy id.toNat = some d →
    ∃ t, exec (.cxlIoCpl n id st data) s = .next t ∧ t.portAt n = (s.portAt n).dropDemand d ∧ s.nisKeep t n ∧ s.only t [.ni, .port] ∧
      (d.p.h.opcode.toNat = 1 → st = .sc → t.answers n d.p.h.src.toNat Vn.IOC 2 Resp.OK) ∧ (st ≠ .sc → st ≠ .ep → t.answers n d.p.h.src.toNat Vn.IOC 1 (ioResp st))) ∧
  (∀ (s : State) (n : Fin 16) (tag : BitVec 12) (nxm po : Bool) (data : Line) (d : Demand), s.portLive n = true → (s.portAt n).demandBy tag.toNat 4 4 = some d →
    ∃ t, exec (.deviceMemdata n tag nxm po data) s = .next t ∧ t.portAt n = (s.portAt n).dropDemand d ∧
      t.answers n d.p.h.src.toNat Vn.DAT 4 (if nxm then Resp.ERR_DATA else if po then Resp.ERR_POISON else Resp.OK) ∧ s.nisKeep t n ∧ s.only t [.ni, .port]) ∧
  (∀ (s : State) (n : Fin 16) (tag : BitVec 16) (d : Demand), s.portLive n = true → (s.portAt n).demandBy tag.toNat 5 5 = some d →
    ∃ t, exec (.deviceCmp n tag) s = .next t ∧ t.portAt n = (s.portAt n).dropDemand d ∧
      (if d.p.h.src.toNat = 248 then t.answers n 248 Vn.MGT 6 Resp.OK else t.answers n d.p.h.src.toNat Vn.RSP 7 Resp.OK) ∧ s.nisKeep t n ∧ s.only t [.ni, .port]) ∧
  (∀ (s : State) (n src tag : Fin 256) (status : BitVec 4) (exfail : Bool) (data : List Body) (d : Demand), s.portLive n = true → (s.portAt n).ioBy (65536 + src.val * 256 + tag.val) = some d →
    ∃ t, exec (.portEngineStatus n src tag status exfail data) s = .next t ∧ t.portAt n = (s.portAt n).dropDemand d ∧ s.nisKeep t n ∧ s.only t [.ni, .port] ∧
      (d.p.h.opcode.toNat = 2 → t.answers n d.p.h.src.toNat Vn.IOC 1 status.toNat))

/-- R330, R341, R347, R349, R352, R353: at a port that is up BIConflict is acknowledged; what the block does not support is counted, and answered where it has an answer; a device's error
message is reported by its class; a fabric's reads and writes go to the controller, a read and write of the configuration window of one DWORD as a configuration request. The indication of a
port rises and falls with its reports. -/
def Obligations.PortTraffic : Prop :=
  (∀ (s : State) (n : Fin 8), s.portLive n = true →
    (∀ tag, ∃ t, exec (.biconflict n tag) s = .next t ∧ s.portSays t n [.ndr .biConflictAck tag.toNat] ∧ s.only t [.port]) ∧
    exec (.memspecrd n) s = .next (s.bump (Off.NI_PORT_CNT n) Fld.NI_PORT_CNT.UNSUPPORTED) ∧
    (∀ (c : Instr) (m : List PortMsg), ((∃ tag, c = .cxlIoUnsupported n tag false ∧ m = [.ioCpl tag.toNat .ur []]) ∨ (∃ tag, c = .cxlIoUnsupported n tag true ∧ m = []) ∨
        (∃ tag line mv e, mv ≠ .a ∧ c = .meminv n tag line mv e ∧ m = [.ndr .cmp tag.toNat])) →
      ∃ t, exec c s = .next t ∧ s.portSays t n m ∧ t.fld (Off.NI_PORT_ERR n) Fld.NI_PORT_ERR.UNSUPPORTED = 1 ∧
        t.fld (Off.NI_PORT_CNT n) Fld.NI_PORT_CNT.UNSUPPORTED = satInc (2 ^ Fld.NI_PORT_CNT.UNSUPPORTED.w - 1) (s.fld (Off.NI_PORT_CNT n) Fld.NI_PORT_CNT.UNSUPPORTED) ∧
        s.nisKeep t n ∧ s.only t [.ni, .regs, .port])) ∧
  (∀ (s : State) (n : Fin 16), s.portLive n = true →
    (∀ tag, ∃ t, exec (.deviceBisnp n tag) s = .next t ∧ s.portSays t n [.biRspI tag.toNat] ∧ t.fld (Off.NI_PORT_ERR n) Fld.NI_PORT_ERR.UNSUPPORTED = 1 ∧
      s.nisKeep t n ∧ s.only t [.ni, .regs, .port]) ∧
    (∀ sev : Fin 3, exec (.deviceErrMsg n sev) s = .next ((s.setFld (Off.NI_PORT_ERR n) Fld.NI_PORT_ERR.MEM_DEV_ERR 1).reportCls n 0 .MEM_DEV_ERR (1 + sev.val) (2 ^ 8)))) ∧
  (∀ (s s1 : State) (n : Fin 16) (p : Pkt) (i : Nat), (s.portAt n).up = true →
    (s.takeIn n Vn.IOP (fun _ => true) = some (p, i, s1) → ∃ t, exec (.cpaIoRequest n true) s = .next t ∧
      s.portSays t n ((writeRuns (enabledBytes p.h.line p.lines)).map (fun w => .ioMWr w.1 w.2.1 w.2.2)) ∧ (t.niAt n).inbox = (s1.niAt n).inbox ∧ s.nisKeep t n ∧ s.only t [.ni, .port]) ∧
    (s.takeIn n Vn.ION (fun q => !s.inEcam n q.h.line) = some (p, i, s1) →
      (p.h.opcode.toNat = 1 → ∃ t, exec (.cpaIoRequest n false) s = .next t ∧
        s.portSays t n [.ioMRd (ioId p.h) (p.h.line * 64 + (maskSpan p.masks).1 / 4 * 4) (((maskSpan p.masks).2 + 3) / 4 - (maskSpan p.masks).1 / 4)] ∧
        (t.portAt n).demands = (s.portAt n).demands ++ [⟨ioId p.h, p, none, none, none, none, false, false, false⟩] ∧ s.nisKeep t n ∧ s.only t [.ni, .port]) ∧
      (p.h.opcode.toNat = 2 → ∃ t, exec (.cpaIoRequest n false) s = .next t ∧ t.answers n p.h.src.toNat Vn.IOC 1 Resp.OK ∧
        s.portSays t n ((writeRuns (enabledBytes p.h.line p.lines)).map (fun w => .ioMWr w.1 w.2.1 w.2.2)) ∧ s.nisKeep t n ∧ s.only t [.ni, .port]) ∧
      (p.h.opcode.toNat = 3 ∨ p.h.opcode.toNat = 4 → ∃ t, exec (.cpaIoRequest n false) s = .next t ∧ t.answers n p.h.src.toNat Vn.IOC 1 Resp.ERR_UNSUPPORTED ∧
        t.portAt n = s.portAt n ∧ s.nisKeep t n ∧ s.only t [.ni])) ∧
    (s.takeIn n Vn.ION (fun q => s.inEcam n q.h.line) = some (p, i, s1) → p.h.opcode.toNat = 1 → (maskSpan p.masks).1 / 4 = ((maskSpan p.masks).2 - 1) / 4 →
      let a := p.h.line * 64 + (maskSpan p.masks).1
      ∃ t, exec (.mpaEcamAccess n) s = .next t ∧ s.portSays t n [.cfgRd0 (ioId p.h) (nbits a 15 5) (nbits a 12 3) (nbits a 2 10)] ∧
        (t.portAt n).demands = (s.portAt n).demands ++ [⟨ioId p.h, p, none, none, none, none, false, false, false⟩] ∧ s.nisKeep t n ∧ s.only t [.ni, .port])) ∧
  (∀ (s : State) (n : Fin 256), isPort n = true →
    ((s.portAt n).up = false → ∃ t, exec (.portIndicationRise n) s = .next t ∧ (t.portAt n).up = true ∧ (t.portAt n).opens = (s.portAt n).opens ∧
      (∀ m, m ≠ n.val → t.portAt m = s.portAt m) ∧ s.nisKeep t n ∧ s.only t [.ni, .regs, .port]) ∧
    ((s.portAt n).up = true → ∃ t, exec (.portIndicationFall n) s = .next t ∧ t.portAt n = { s.portAt n with up := false } ∧
      t.fld (Off.NI_PORT_ERR n) Fld.NI_PORT_ERR.DOWN = 1 ∧ (∀ m, m ≠ n.val → t.portAt m = s.portAt m) ∧ s.nisKeep t n ∧ s.only t [.ni, .regs, .port]))

/-- R118, R223, R329, R331, R332, R356, R358, R359, R360: the front packet of a chiplet, whole and well formed, leaves its wire with its credits owed. A request opens its link tag and is
admitted with the identity of the port, an NREQ of a caching agent with its translation; an SNP or MGT packet is a protocol error; a response to a demand goes to its TOWN with the demand's
EPOCH and its reserved bits zero. A port engine's request is admitted alike. A completion record open for its limit is closed with poisoned WDATA or with CACK. -/
def Obligations.ChipletTraffic : Prop :=
  (∀ (s : State) (n : Fin 256) (vn : Fin 8) (fs rest : List Flit) (p : Pkt), niType n = .cla → s.portLive n = true → frontPkt vn (oldLane vn (s.wireAt (claRxKey n))) (s.wireAt (claRxKey n)) = some (fs, rest) →
    pktOf fs = some p → pktMalformed fs = false → p.h.vn.toNat = vn.val →
    let r0 := chipReq p
    let r := s.identify n { r0 with ident := (s.portAt n).next }
    let opened := fun (t : State) (r : Req) (dest : Nat) => t.wireAt (claRxKey n) = rest ∧ s.waitsFor t n r dest ∧
      (t.portAt n).opens = (if r0.posted = true then (s.portAt n).opens else (s.portAt n).opens ++ [⟨(s.portAt n).next, .chiplet, p.h.tag.toNat, r0.line, r0.data, none⟩]) ∧
      s.nisKeep t n ∧ s.only t [.ni, .regs, .port, .wire, .owed]
    (∀ dest, vn.val = Vn.REQ ∨ vn.val = Vn.IOP ∨ vn.val = Vn.ION → r0.posted = true ∨ (∀ x ∈ (s.portAt n).opens, x.tag ≠ p.h.tag.toNat) → s.agentOk n r.agent = true →
      (chipOpcode r.vn r.opcode = true → ¬(r.vn = Vn.REQ ∧ s.agentCaching 0 (s.niAt n).ep.bank r.agent = true) → s.passesTo n r dest →
        ∃ t, exec (.claChipletPacket n vn .clean) s = .next t ∧ opened t r dest) ∧
      (∀ op w, vn.val = Vn.REQ → p.h.opcode.toNat = 0x3F → s.agentCaching 0 (s.niAt n).ep.bank r.agent = true →
        s.translate n (s.niAt n).ep.bank (bits (p.word 0) 0 4) (bits (p.word 0) 4 3) = some (op, w) →
        let r' := { r with opcode := op, pl := lineOfWords (if op = 5 then [w, p.word 1] else [w]) }
        s.passesTo n r' dest → ∃ t, exec (.nreq n .clean) s = .next t ∧ opened t r' dest)) ∧
    (vn.val = Vn.SNP ∨ vn.val = Vn.MGT → ∃ t, exec (.claChipletPacket n vn .clean) s = .next t ∧ t.wireAt (claRxKey n) = rest ∧
      t.fld (Off.NI_PORT_ERR n) Fld.NI_PORT_ERR.PROTOCOL = 1 ∧ t.portAt n = s.portAt n ∧ s.nisKeep t n ∧ s.only t [.ni, .regs, .wire, .owed]) ∧
    (∀ d, vnResponse vn = true → ¬(vn.val = Vn.DAT ∧ (p.h.opcode.toNat = 1 ∨ p.h.opcode.toNat = 2)) → ¬(vn.val = Vn.RSP ∧ p.h.opcode.toNat = 5) → (s.portAt n).answered p = some d →
      d.p.h.src.toNat ≠ 248 → ¬(d.p.h.vn.toNat = Vn.SNP ∧ d.p.h.opcode.toNat ≤ 3) →
      ∃ t, exec (.claChipletPacket n vn .clean) s = .next t ∧ t.wireAt (claRxKey n) = rest ∧ t.portAt n = (s.portAt n).dropDemand d ∧
        (t.niAt n).answers = (s.niAt n).answers ++ [⟨p.h.town, { p.scrubbed with h := { p.scrubbed.h with epoch := d.p.h.epoch } }, none, 0⟩] ∧
        s.nisKeep t n ∧ s.only t [.ni, .port, .wire, .owed])) ∧
  (∀ (s : State) (n : Fin 256) (r : Req) (dest : Nat), niType n = .pea → s.portLive n = true →
    let r1 := s.identify n { s.identify n r with ident := (s.portAt n).next, machine := none }
    engineAllows r = true → s.agentOk n r.agent = true → s.passesTo n r1 dest →
    ∃ t, exec (.portEngineRequest n r .clean) s = .next t ∧ s.waitsFor t n r1 dest ∧ (t.portAt n).next = (s.portAt n).next + 1 ∧ s.nisKeep t n ∧ s.only t [.ni, .regs, .port]) ∧
  (∀ (s : State) (n tag : Fin 256) (r : CompRec), niType n = .cla → (s.niAt n).compRec tag = some r → r.sent = false → s.timeRuns n = true →
    r.since + 2 ^ (s.fld (Off.NI_TIMEOUT n) Fld.NI_TIMEOUT.TO_COH + 10) ≤ s.niTime n →
    ∃ t a, exec (.completionRecordTimeout n tag) s = .next t ∧ (t.niAt n).compRec tag = some { r with sent := true } ∧ (t.niAt n).answers = (s.niAt n).answers ++ [a] ∧
      a.dest = r.dest ∧ a.p.h.vn.toNat = (if r.wdata then Vn.DAT else Vn.RSP) ∧ a.p.h.opcode.toNat = (if r.wdata then 2 else 5) ∧ a.p.h.tag.toNat = tag.val ∧
      t.fld (Off.NI_PORT_ERR n) Fld.NI_PORT_ERR.WB_TIMEOUT = 1 ∧ s.nisKeep t n ∧ s.only t [.ni, .regs])

/-- R369, R371, R372, R374, R375, R376, R377, R378, R382: a link end that may send, with no NAK to give, starts one flow unit: the replay it owes, else a NEW one with up to three flits that
wait, with its number, its ACK, and a record of its slots. An accepted NEW flow unit in order is delivered and acknowledged, an accepted REPLAY fills its missing slot, an INIT flow unit that
agrees counts toward the exchange, and a bad one is counted, is missing, and owes a NAK. -/
def Obligations.LinkFlow : Prop :=
  ∀ (s : State) (k : Fin 28) (e : Fin 2), let l := s.lkAt k e
    let now := s.refTime
    (∀ c, (c = .fluSend k e [] ∧ s.lkWork k e = true ∨ c = .fluIdleTimer k e ∧ l.lastSent + 128 ≤ now) → lkEnd k e = true → l.sends = true → l.st = .inService → l.recs.length < 1024 →
      l.nextNak = none → s.flipsAt (fluFlipKey k e) = [] →
      (∀ q more r, l.owed = q :: more → l.recs.find? (fun r => r.1 == q) = some r → ∃ t f, exec c s = .next t ∧ (t.lkAt k e).fdi = l.fdi ++ [(l.txNext, f)] ∧
        f.body = .replay (BitVec.ofNat 12 q) r.2 ∧ f.ack = BitVec.ofNat 12 l.rxAck ∧ (t.lkAt k e).owed = more ∧ (t.lkAt k e).recs = l.recs ++ [(l.txNext, [none, none, none])] ∧
        (t.lkAt k e).txNext = (l.txNext + 1) % 4096 ∧ (t.lkAt k e).lastSent = now ∧
        t.fld (Off.LK_ERR_CNT k e) Fld.LK_ERR_CNT.REPLAYS = satInc (2 ^ Fld.LK_ERR_CNT.REPLAYS.w - 1) (s.fld (Off.LK_ERR_CNT k e) Fld.LK_ERR_CNT.REPLAYS) ∧
        (∀ i, i ≠ 2 * k.val + e.val → KMap.get (fun _ => Lk.reset) t.lk i = KMap.get (fun _ => Lk.reset) s.lk i) ∧ s.only t [.lk, .owed, .regs]) ∧
      (l.owed = [] → lkSeam k = true → l.txDrop = [] → s.flipsAt (lkTx k e) = [] →
        let w := s.wireAt (lkTx k e)
        let slots := [w[0]?, w[1]?, w[2]?]
        ∃ t f, exec c s = .next t ∧ (t.lkAt k e).fdi = l.fdi ++ [(l.txNext, f)] ∧ f.body = .new slots ∧ f.ack = BitVec.ofNat 12 l.rxAck ∧
          (t.lkAt k e).recs = l.recs ++ [(l.txNext, slots)] ∧ (t.lkAt k e).txNext = (l.txNext + 1) % 4096 ∧ (t.lkAt k e).lastSent = now ∧ t.wireAt (lkTx k e) = w.drop 3 ∧
          (∀ i, i ≠ 2 * k.val + e.val → KMap.get (fun _ => Lk.reset) t.lk i = KMap.get (fun _ => Lk.reset) s.lk i) ∧ s.only t [.lk, .owed, .wire])) ∧
    (∀ f u s1, s.arriving k e f = some (u, s1) →
      (l.receives = true → l.protoError u = false → u.lreq.val = 0 →
        (∀ c, u.body = .new c → l.missing = [] → l.held = [] → l.rxNext < 4096 → (l.rxAck + 1) % 4096 = l.rxNext → s.linkHeld (lkRx k e) = false → ∃ t, exec (.fluNew k e f) s = .next t ∧
          t.wireAt (lkRx k e) = s.wireAt (lkRx k e) ++ slotFlits c ∧ (t.lkAt k e).rxAck = l.rxNext ∧ (t.lkAt k e).rxNext = (l.rxNext + 1) % 4096 ∧ (t.lkAt k e).missing = [] ∧
          (t.lkAt k e).lastAcc = now ∧ (t.lkAt k e).recs = l.recs.filter (fun x => seqFollows x.1 u.ack.toNat) ∧ (t.lkAt k e).credIn = u.credit ∧
          s.only t [.lk, .wire, .used, .regs, .ni]) ∧
        (∀ q c, u.body = .replay q c → ∃ t, exec (.fluReplay k e f) s = .next t ∧ (∀ m ∈ (t.lkAt k e).missing, m.seq ≠ q.toNat) ∧
          (t.lkAt k e).rxNext = (l.rxNext + 1) % 4096 ∧ (t.lkAt k e).lastAcc = now ∧ s.only t [.lk, .wire, .used, .regs, .ni])) ∧
      (∀ w, u.body = .init w → l.st = .init → l.resume = false →
        (w.version = 1 → w.depth = depthWord → w.endId.toNat ≠ s.lkId k e → w.resume = false → w.start = false → ∃ t, exec (.fluInit k e f) s = .next t ∧
          t.lkAt k e = { l with lastAcc := now, okInit := l.okInit + 1, rxCount := none, peerOk := w.rxok, peerId := w.endId.toNat, peerAck := w.rxAck.toNat, peerNext := w.nextSeq.toNat } ∧
          s.only t [.lk]) ∧
        (w.version ≠ 1 ∨ w.depth ≠ depthWord ∨ w.endId.toNat = s.lkId k e ∨ w.resume = true → ∃ t, exec (.fluInit k e f) s = .next t ∧
          t.fld (Off.LK_ERR_STATUS k e) Fld.LK_ERR_STATUS.INIT_ERR = 1 ∧ t.lkAt k e = { l with lastAcc := now } ∧ s.only t [.lk, .regs, .ni]))) ∧
    (∀ lost again, lkEnd k e = true → l.adapter = true → l.st = .inService →
      satInc (2 ^ Fld.LK_ERR_CNT.WINDOW_ERR.w - 1) (s.fld (Off.LK_ERR_CNT k e) Fld.LK_ERR_CNT.WINDOW_ERR) < s.lkTh k e Fld.LK_THRESH.CRC_WIN →
      l.consec + 1 < s.lkTh k e Fld.LK_THRESH.CONSEC → ∃ t, exec (.fluBad k e lost again) s = .next t ∧ (t.lkAt k e).missing = l.missing ++ [⟨l.rxNext, 0, now⟩] ∧
        (t.lkAt k e).naks = l.naks ++ [l.rxNext] ∧ (t.lkAt k e).rxNext = (l.rxNext + 1) % 4096 ∧ (t.lkAt k e).st = .inService ∧
        t.fld (Off.LK_ERR_CNT k e) Fld.LK_ERR_CNT.CRC_ERR = satInc (2 ^ Fld.LK_ERR_CNT.CRC_ERR.w - 1) (s.fld (Off.LK_ERR_CNT k e) Fld.LK_ERR_CNT.CRC_ERR) ∧
        t.fld (Off.LK_ERR_STATUS k e) Fld.LK_ERR_STATUS.CRC = 1 ∧ s.only t [.lk, .regs, .ni, .sc])

/-- R4, R366, R368, R374, R379, R382 to R384, R386 to R388: by the reference oscillator's time, a silent end in service, one whose records stand at their limit, and one told to retrain enter PRE, or LOST past the limit of the long
window; PRE ends in PAUSED with a request to the peer; a request without an answer retrains anyway. The adapter's Active starts INIT, of first bring-up or of a resume; its leaving starts a
retrain. A retrain that takes too long is LOST, a first INIT starts again. A missing slot's NAK is repeated, and windows of counts start anew. ENABLE lets an end train, unless
its link is held, and takes it to DOWN. -/
def Obligations.LinkStates : Prop :=
  ∀ (s : State) (k : Fin 28) (e : Fin 2), lkEnd k e = true → let l := s.lkAt k e
    let now := s.refTime
    let recent := s.fld (Off.LK_RETRAIN_CNT k e) Fld.LK_RETRAIN_CNT.RECENT
    (∀ c, l.st = .inService → (c = .linkSilenceTimeout k e ∧ l.lastAcc + 1024 ≤ now ∨ (∃ t0, c = .recordLimitTimeout k e ∧ l.limitSince = some t0 ∧ t0 + 2048 ≤ now) ∨ c = .lkRetrainWrite k e) →
      ∃ t, exec c s = .next t ∧
        (recent < s.lkTh k e Fld.LK_THRESH.LOST_RT → (t.lkAt k e).st = .pre ∧ (t.lkAt k e).since = now ∧ (t.lkAt k e).wantArg.isSome = true ∧ (t.lkAt k e).recs = l.recs ∧
          s.only t [.lk, .regs, .cd, .seamDown]) ∧
        (s.lkTh k e Fld.LK_THRESH.LOST_RT ≤ recent → (t.lkAt k e).st = .lost ∧ (t.lkAt k e).recs = [] ∧ t.fld (Off.LK_ERR_STATUS k e) Fld.LK_ERR_STATUS.LOST = 1)) ∧
    (l.st = .pre → s.urgent k e = 0 ∨ l.since + 512 ≤ now → l.accept = none → ∃ t, exec (.preEnd k e) s = .next t ∧ (t.lkAt k e).st = .paused ∧ (t.lkAt k e).lreq = 1 ∧
      (t.lkAt k e).larg = l.wantArg.getD 0 ∧ (t.lkAt k e).reqOpen = true ∧ (t.lkAt k e).reqSince = now ∧
      t.fld (Off.LK_RETRAIN_CNT k e) Fld.LK_RETRAIN_CNT.RETRAINS = satInc (2 ^ Fld.LK_RETRAIN_CNT.RETRAINS.w - 1) (s.fld (Off.LK_RETRAIN_CNT k e) Fld.LK_RETRAIN_CNT.RETRAINS) ∧
      t.fld (Off.LK_ERR_STATUS k e) Fld.LK_ERR_STATUS.RETRAIN = 1) ∧
    (l.st = .paused → l.reqOpen = true → l.reqSince + 4096 ≤ now → ∃ t, exec (.acceptTimeout k e) s = .next t ∧ (t.lkAt k e).req = 2 ∧ (t.lkAt k e).reqOpen = false ∧
      (t.lkAt k e).st = .paused ∧ s.only t [.lk]) ∧
    (∀ half : Bool, l.adapter = false →
      (l.st = .down → l.req = 1 → ∃ t, exec (.adapterActive k e half) s = .next t ∧ (t.lkAt k e).st = .init ∧ (t.lkAt k e).adapter = true ∧ (t.lkAt k e).resume = false ∧
        (t.lkAt k e).width = (if half then 2 else 1) ∧ (∀ v gt, v < 8 → t.usedAt (lkTx k e) v gt = 0 ∧ t.owedAt (lkRx k e) v gt = 0) ∧ s.only t [.lk, .regs, .cd, .seamDown, .used, .owed]) ∧
      (l.st = .paused → ∃ t, exec (.adapterActive k e half) s = .next t ∧ (t.lkAt k e).st = .init ∧ (t.lkAt k e).adapter = true ∧ (t.lkAt k e).resume = true ∧
        (t.lkAt k e).recs = l.recs ∧ (t.lkAt k e).req = 1 ∧ (t.lkAt k e).width = (if half then 2 else 1) ∧ s.only t [.lk, .regs, .cd, .seamDown])) ∧
    (l.adapter = true → l.st = .init ∨ l.st = .inService ∨ l.st = .pre → ∃ t, exec (.adapterLeaveActive k e) s = .next t ∧ (t.lkAt k e).st = .paused ∧ (t.lkAt k e).adapter = false ∧
      (t.lkAt k e).fdi = [] ∧ (t.lkAt k e).recs = l.recs ∧
      t.fld (Off.LK_RETRAIN_CNT k e) Fld.LK_RETRAIN_CNT.ADAPTER = satInc (2 ^ Fld.LK_RETRAIN_CNT.ADAPTER.w - 1) (s.fld (Off.LK_RETRAIN_CNT k e) Fld.LK_RETRAIN_CNT.ADAPTER)) ∧
    (l.since + 1000 * max 1 (s.lkTh k e Fld.LK_THRESH.RETRAIN_LIMIT) ≤ now →
      (l.st = .paused ∨ l.st = .init ∧ l.resume = true → ∃ t, exec (.retrainLimitExpiry k e) s = .next t ∧ (t.lkAt k e).st = .lost ∧ (t.lkAt k e).recs = [] ∧
        t.fld (Off.LK_ERR_STATUS k e) Fld.LK_ERR_STATUS.LOST = 1) ∧
      (l.st = .init → l.resume = false → ∃ t, exec (.retrainLimitExpiry k e) s = .next t ∧ (t.lkAt k e).st = .init ∧ (t.lkAt k e).since = now ∧ (t.lkAt k e).okInit = 0 ∧
        t.fld (Off.LK_ERR_STATUS k e) Fld.LK_ERR_STATUS.INIT_ERR = 1 ∧ s.only t [.lk, .regs, .ni])) ∧
    (∀ m, l.missing.find? (fun m => decide (m.at' + 4 * max 1 (s.lkTh k e Fld.LK_THRESH.NAK_REPEAT) ≤ now) && !l.naks.contains m.seq) = some m →
      ∃ t, exec (.nakRepeat k e) s = .next t ∧ t.lkAt k e = { l with naks := m.seq :: l.naks } ∧ s.only t [.lk]) ∧
    (s.lkTime k e / 2 ^ 20 ≠ l.window → ∃ t, exec (.linkWindowStart k e) s = .next t ∧ t.lkAt k e = { l with window := s.lkTime k e / 2 ^ 20, crcReported := false } ∧
      t.fld (Off.LK_ERR_CNT k e) Fld.LK_ERR_CNT.WINDOW_ERR = 0 ∧ (s.lkTime k e / 2 ^ 24 ≠ l.window / 16 → t.fld (Off.LK_RETRAIN_CNT k e) Fld.LK_RETRAIN_CNT.RECENT = 0) ∧
      s.regsKeep t [Off.LK_ERR_CNT k e, Off.LK_RETRAIN_CNT k e] ∧ s.only t [.lk, .regs]) ∧
    ((l.st = .down → l.wasLost = false → s.pins.ready = true → s.kt.bHeld = false → s.seamFenced = false → s.linkHeld (lkTx k e) = false → ∃ t, exec (.lkEnableWrite k e true) s = .next t ∧
        t.fld (Off.LK_CTRL k e) Fld.LK_CTRL.ENABLE = 1 ∧ t.lkAt k e = { l with req := 1 } ∧ s.only t [.lk, .regs]) ∧
      (∃ t, exec (.lkEnableWrite k e false) s = .next t ∧ t.fld (Off.LK_CTRL k e) Fld.LK_CTRL.ENABLE = 0 ∧ (t.lkAt k e).st = .down ∧ (t.lkAt k e).req = 0))

/-- R398, R399, R400, R401, R402, R404, R408, R442: the bridge takes the oldest request at NI 254 into the issue order: a PWR or NWR into a free buffer entry, an NWR answered at once, a read
or exclusive in its turn; a processor request or exclusive that is no single access is not served, and a gate's refusal answers an NWR with ERR_ACCESS. The entry at hand is driven on the
E5LB as a read under a free tag, a read that locks, the write that unlocks, or a write burst. -/
def Obligations.BridgeRequests : Prop :=
  (∀ (s s1 : State) (p : Pkt) (op : Nat) (c : Instr),
    (c = .sbWriteRequest ∧ s.sb.wbuf < 64 ∧ s.sbTake Hdr.sbWrite = some (p, s1) ∧ op = 2 ∨
      (op, c) ∈ [(1, .sbReadRequest), (3, .nrdx), (4, .nwrx)] ∧ s.sbTake (fun h => h.vn.toNat == Vn.ION && h.opcode.toNat == op) = some (p, s1)) →
    (p.singleAccess = true ∨ (p.h.origin = true ∧ op ≤ 2) → op ≠ 2 ∨ p.h.vn.toNat = Vn.IOP ∨ s.gatesPass p = true → ∃ t, exec c s = .next t ∧ t.sb = { s.sb with order := s.sb.order ++ [.req p] } ∧
      (t.niAt 254).inbox = (s1.niAt 254).inbox ∧ (op = 2 → p.h.vn.toNat = Vn.ION → t.answers 254 p.h.src.toNat Vn.IOC 1 Resp.OK) ∧ s.nisKeep t 254 ∧ s.only t [.ni, .sb]) ∧
    (p.singleAccess = false → p.h.origin = false ∨ 3 ≤ op → ∃ t, exec c s = .next t ∧ t.fld Off.SB_ERR_STATUS Fld.SB_ERR_STATUS.UNSERVED = 1 ∧ t.sb.order = s.sb.order ∧
      t.fld Off.SB_ERR_CNT Fld.SB_ERR_CNT.UNSERVED = satInc (2 ^ Fld.SB_ERR_CNT.UNSERVED.w - 1) (s.fld Off.SB_ERR_CNT Fld.SB_ERR_CNT.UNSERVED) ∧
      (p.h.vn.toNat = Vn.ION → t.answers 254 p.h.src.toNat Vn.IOC 1 Resp.ERR_UNSUPPORTED) ∧ s.only t [.ni, .sb, .regs, .wakeQ]) ∧
    (op = 2 → p.singleAccess = true ∨ p.h.origin = true → p.h.vn.toNat ≠ Vn.IOP → s.gatesPass p = false → ∃ t, exec c s = .next t ∧ t.sb = s.sb ∧
      t.fld Off.SB_ERR_STATUS Fld.SB_ERR_STATUS.GATE = 1 ∧ t.answers 254 p.h.src.toNat Vn.IOC 1 Resp.ERR_ACCESS ∧ s.only t [.ni, .regs, .wakeQ])) ∧
  (∀ (s : State) (p : Pkt) (i : Nat), s.strainerOff = false → s.domOn 68 = true → s.sb.nextIssue = some i → s.sb.order[i]? = some (.req p) → s.pins.ready = true ∨ p.h.src.toNat = 248 →
    (s.gatesPass p = false → ∃ t, exec .sbE5lbIssue s = .next t ∧ t.sb = { s.sb with order := s.sb.order.eraseIdx i } ∧ t.fld Off.SB_ERR_STATUS Fld.SB_ERR_STATUS.GATE = 1 ∧ s.only t [.ni, .regs, .sb, .wakeQ]) ∧
    (∀ g, s.gatesPass p = true → p.h.sbWrite = false → p.h.opcode.toNat = 1 → p.sbWords ≠ [] → s.sb.freeTag = some g →
      let m := E5Msg.read p.sbWordAddr (p.sbWords.map (sbStrobe p.sbMasks)) g false
      ∃ t, exec .sbE5lbIssue s = .next t ∧ t.sb = { s.sb with order := s.sb.order.eraseIdx i, bus := s.sb.bus ++ [m], open' := s.sb.open' ++ [⟨[p], p.sbFirst, m, some g, s.sbTime, s.refTime, 0, false⟩] } ∧
        s.only t [.sb]) ∧
    (∀ g, s.gatesPass p = true → p.h.sbWrite = false → p.h.opcode.toNat = 3 → s.sb.freeTag = some g → s.sb.lock = none →
      let m := E5Msg.read p.sbWordAddr (p.sbWords.map (sbStrobe p.sbMasks)) g true
      ∃ t, exec .sbE5lbIssue s = .next t ∧ t.sb = { s.sb with order := s.sb.order.eraseIdx i, bus := s.sb.bus ++ [m], open' := s.sb.open' ++ [⟨[p], p.sbFirst, m, some g, s.sbTime, s.refTime, 0, false⟩], lock := some ⟨p.h.agent.toNat, p.sbFirst, p.sbSize, s.refTime, false⟩ } ∧ s.only t [.sb]) ∧
    (∀ l, s.gatesPass p = true → p.h.sbWrite = false → p.h.opcode.toNat = 4 → s.sb.lock = some l → l.addr = p.sbFirst → l.size = p.sbSize →
      let m := E5Msg.write p.sbWordAddr p.sbBeats true
      ∃ t, exec .sbE5lbIssue s = .next t ∧ t.sb = { s.sb with order := s.sb.order.eraseIdx i, bus := s.sb.bus ++ [m], open' := s.sb.open' ++ [⟨[p], p.sbFirst, m, none, s.sbTime, s.refTime, 0, false⟩], lock := some { l with wru := true } } ∧ s.only t [.sb]) ∧
    (s.gatesPass p = true → p.h.sbWrite = true → p.h.origin = false → p.sbBeats ≠ [] → s.sb.lock = none →
      let m := E5Msg.write p.sbWordAddr p.sbBeats false
      ∃ t, exec .sbE5lbIssue s = .next t ∧ t.sb = { s.sb with order := s.sb.order.drop 1, bus := s.sb.bus ++ [m], open' := s.sb.open' ++ [⟨[p], p.sbFirst, m, none, s.sbTime, s.refTime, 0, false⟩] } ∧
        s.only t [.sb]))

/-- R399, R400, R404 to R407, R410, R411: an answer of the E5LB ends its transaction with its data, sends it again at RETRY, and fails it at ERR; the late answer of a timed-out read only
frees its tag. A transaction unanswered for its limit fails, and a lock without its write is broken after 2 µs of REF_CLK. A burst of another master in the aperture becomes a transfer of the bridge
or is told to retry, and the completion of its read is answered under the master's tag. -/
def Obligations.BridgeAnswers : Prop :=
  (∀ (s : State) (g : Fin 64) (data : List (BitVec 32)) (x : E5Tx) (p : Pkt), s.sb.open'.find? (fun x => x.tag == some g.val) = some x →
    (x.stuck = true → ∀ r, ∃ t, exec (.sbE5ReadResponse g r data) s = .next t ∧ t.sb = { s.sb with open' := s.sb.open'.erase x } ∧ s.only t [.sb]) ∧
    (x.stuck = false → x.pkts.head? = some p →
      (∃ t, exec (.sbE5ReadResponse g .ok data) s = .next t ∧ t.sb = { s.sb with open' := s.sb.open'.erase x } ∧ t.answers 254 p.h.src.toNat Vn.IOC 2 Resp.OK ∧ s.nisKeep t 254 ∧ s.only t [.ni, .sb]) ∧
      (x.retries + 1 < 16 → ∃ t, exec (.sbE5ReadResponse g .retry data) s = .next t ∧ t.sb = { s.sb with bus := s.sb.bus ++ [x.msg], open' := s.sb.open'.map (fun y => if y = x then { y with retries := y.retries + 1, since := s.sbTime, sent := s.refTime } else y) } ∧ s.only t [.sb]) ∧
      (p.h.sbWrite = false → p.h.opcode.toNat = 1 → ∃ t, exec (.sbE5ReadResponse g .err data) s = .next t ∧ t.sb.open' = s.sb.open'.erase x ∧ t.sb.lock = s.sb.lock ∧
        t.answers 254 p.h.src.toNat Vn.IOC 2 Resp.ERR_FAR ∧ t.fld Off.SB_ERR_STATUS Fld.SB_ERR_STATUS.FAR_READ = 1 ∧ s.only t [.ni, .sb, .regs, .wakeQ]))) ∧
  (∀ (s : State) (k : Nat) (x : E5Tx) (p : Pkt), (s.sb.open'.filter (fun x => x.tag.isNone))[k]? = some x → x.pkts.head? = some p →
    (p.h.sbWrite = true → (∃ t, exec (.sbE5WriteResponse k .ok) s = .next t ∧ t.sb = { s.sb with open' := s.sb.open'.erase x } ∧ s.only t [.sb]) ∧
      (∃ t, exec (.sbE5WriteResponse k .err) s = .next t ∧ t.sb = { s.sb with open' := s.sb.open'.erase x } ∧ t.fld Off.SB_ERR_STATUS Fld.SB_ERR_STATUS.FAR_WRITE = 1 ∧ s.only t [.ni, .sb, .regs, .wakeQ])) ∧
    (p.h.vn.toNat = Vn.ION → p.h.opcode.toNat = 4 → ∃ t, exec (.sbE5WriteResponse k .ok) s = .next t ∧ t.sb = { s.sb with open' := s.sb.open'.erase x, lock := none } ∧
      t.answers 254 p.h.src.toNat Vn.IOC 1 Resp.OK ∧ s.nisKeep t 254 ∧ s.only t [.ni, .sb])) ∧
  (∀ (s : State) (x : E5Tx) (p : Pkt), s.sb.open'.filter (fun x => !x.stuck && decide (x.sent + s.e5Limit ≤ s.refTime)) = [x] → x.pkts.head? = some p → p.h.sbWrite = true → x.tag = none →
    ∃ t, exec .e5TimeoutExpiry s = .next t ∧ t.sb = { s.sb with open' := s.sb.open'.erase x } ∧ t.fld Off.SB_ERR_STATUS Fld.SB_ERR_STATUS.TIMEOUT = 1 ∧
      t.fld Off.SB_ERR_STATUS Fld.SB_ERR_STATUS.FAR_WRITE = 1 ∧ s.only t [.ni, .sb, .regs, .wakeQ]) ∧
  (∀ (s : State) (l : SbLock), s.sb.lock = some l → l.wru = false → l.since + 2000 ≤ s.refTime → ∃ t, exec .sbLockTimeout s = .next t ∧
    t.sb = { s.sb with bus := s.sb.bus ++ [.unlock], lock := none } ∧ t.fld Off.SB_ERR_STATUS Fld.SB_ERR_STATUS.LOCK_BREAK = 1 ∧ s.only t [.ni, .sb, .regs, .wakeQ]) ∧
  (∀ (s : State) (addr : BitVec 32) (fab : Nat) (beats : List (BitVec 4 × BitVec 32)), s.inbAddr addr.toNat = some fab → s.pins.ready = true →
    (8 ≤ s.inbUsed → ∃ t, exec (.sbInboundWrite addr beats .clean) s = .next t ∧ t.sb = { s.sb with bus := s.sb.bus ++ [.inbWrite true] } ∧ s.only t [.sb]) ∧
    (∀ dest, s.inbUsed < 8 → beats.all (fun b => b.1 == 0) = false → let r := s.sbReq Vn.IOP 1 (fab / 64) 65536 (inbLines fab beats) 0
      s.passesTo 255 r dest → ∃ t, exec (.sbInboundWrite addr beats .clean) s = .next t ∧ t.sb = { s.sb with bus := s.sb.bus ++ [.inbWrite false] } ∧ s.waitsFor t 255 r dest ∧
        s.nisKeep t 255 ∧ s.only t [.ni, .regs, .sb]) ∧
    (∀ dest strobes (mtag : BitVec 16), strobes.all (· == 0) = false → let r := s.sbReq Vn.ION 1 (fab / 64) (131072 + mtag.toNat) (inbLines fab (strobes.map (fun b => (b, 0#32)))) 0
      s.passesTo 255 r dest → ∃ t, exec (.sbInboundRead addr strobes mtag .clean) s = .next t ∧ s.waitsFor t 255 r dest ∧ s.nisKeep t 255 ∧ s.only t [.ni, .regs])) ∧
  (∀ (s : State) (c : Completion), (s.niAt 255).comps.find? (fun c => decide (131072 ≤ c.ident)) = some c → ∃ t, exec .sbInboundCompletion s = .next t ∧
    (t.niAt 255).comps = (s.niAt 255).comps.erase c ∧ t.sb = { s.sb with bus := s.sb.bus ++ [.inbRead (c.ident - 131072) (c.resp == Resp.OK) (if c.resp = Resp.OK then c.lines else [])] } ∧
    s.nisKeep t 255 ∧ s.only t [.ni, .sb])

/-- R412 to R424: a change of an input line that its mode takes for an event sends the line's message, or is held with a wake request while domain 68 is below ON. The input and output groups
are committed or refused; a line or output that changes is switched, and its new function applies when the switch ends. A poll of the sensors starts with one read for each address, or is
skipped while the last one runs. An order of the Pot or the Saucer sets the outputs it names; pulses start at a tick and end after their width. -/
def Obligations.SideBand : Prop :=
  (∀ (s : State) (j : Fin 32) (level : Bool), s.sb.lines.getLsbD j = !level → s.inReset = false → s.sb.inSw.getLsbD j = false → s.pins.ready = true → s.sb.heldAt j = none →
    (∀ kind dest, sbEvent (s.inMode j) level = some kind → s.domOn 68 = true → s.sbPending j = false → bits (s.rd (Off.SB_IN_CFG j)) 28 2 = 1 →
      let r := s.sbReq Vn.IOP 2 (bits (s.rd (Off.SB_IN_ADDR j)) 2 50 * 4 / 64) (1000 + j) [] (lineOfWords [sbMsgWord kind level j 1 s.sbTime])
      s.passesTo 255 r dest → ∃ t, exec (.sbInputEvent j level) s = .next t ∧ t.sb.lines.getLsbD j = level ∧ s.waitsFor t 255 r dest ∧ s.nisKeep t 255 ∧ s.only t [.ni, .regs, .sb]) ∧
    (∀ kind, sbEvent (s.inMode j) level = some kind → s.domOn 68 = false → ∃ t, exec (.sbInputEvent j level) s = .next t ∧ t.sb.heldAt j = some ⟨1, kind, s.sbTime⟩ ∧ ((s.domAt 68).st ≠ .on → 68 ∈ t.wakeQ) ∧ (s.oscRuns 9 = false → 9 ∈ t.wakeQ) ∧
      t.sb.lines.getLsbD j = level ∧ s.only t [.ni, .sb, .wakeQ])) ∧
  (∀ (s : State), ((∀ j, j < 32 → bits (s.pendOf (Off.SB_IN_CFG j)) 24 3 < 6) → ∃ t, exec .sbInCommit s = .next t ∧
      ∀ j, j < 32 → t.rd (Off.SB_IN_CFG j) = s.pendOf (Off.SB_IN_CFG j) ∧ t.rd (Off.SB_IN_ADDR j) = s.pendOf (Off.SB_IN_ADDR j) ∧
        (s.pendOf (Off.SB_IN_CFG j) ≠ s.rd (Off.SB_IN_CFG j) → t.sb.inSw.getLsbD j = true)) ∧
    (∀ j, j < 32 → 6 ≤ bits (s.pendOf (Off.SB_IN_CFG j)) 24 3 → exec .sbInCommit s = .next s.sbCfg) ∧
    (s.telemBad = false → ∃ t, exec .sbTelemCommit s = .next t ∧ t.sb = { s.sb with telem := some (telemGroup.map (fun o => (o, s.pendOf o))) } ∧ s.only t [.sb]) ∧
    (s.telemBad = true → exec .sbTelemCommit s = .next s.sbCfg)) ∧
  (∀ (s : State) (j : Fin 32), s.sb.inSw.getLsbD j = true → s.pins.ready = false ∨ sbAsserted (s.inMode j) (s.sb.lines.getLsbD j) = false → ∃ t, exec (.sbInSwitchEnd j) s = .next t ∧
    t.sb = { s.sb with inSw := s.sb.inSw &&& ~~~(BitVec.ofNat 32 (2 ^ j.val)) } ∧ s.only t [.sb]) ∧
  (∀ (s : State) (b : Nat), s.domOn 68 = true → s.inReset = false → s.sbDue (2 ^ s.fld Off.SB_TELEM_CFG Fld.SB_TELEM_CFG.PERIOD_LOG2) s.sb.pollAt = some b →
    (s.sb.poll.isSome = true → ∃ t, exec .sbTelemPoll s = .next t ∧ t.sb.poll = s.sb.poll ∧ t.sb.telem = s.sb.telem ∧ t.sb.order = s.sb.order ∧ t.sb.pollAt = b ∧ t.fld Off.SB_ERR_STATUS Fld.SB_ERR_STATUS.TELEM_SKIP = 1 ∧
      t.fld Off.SB_TELEM_STATUS Fld.SB_TELEM_STATUS.SKIPPED = satInc (2 ^ Fld.SB_TELEM_STATUS.SKIPPED.w - 1) (s.fld Off.SB_TELEM_STATUS Fld.SB_TELEM_STATUS.SKIPPED) ∧ s.only t [.ni, .regs, .sb, .wakeQ]) ∧
    (let addrs := (s.sensors.map s.sensorAddr).eraseDups
     s.sb.poll = none → s.sb.telem = none → s.flag Off.SB_TELEM_CFG Fld.SB_TELEM_CFG.EN = true → s.pins.ready = true → addrs ≠ [] → ∃ t, exec .sbTelemPoll s = .next t ∧
       t.sb = { s.sb with order := s.sb.order ++ addrs.map .sensor, poll := some (addrs.map (fun a => ⟨a, 0, false, none⟩)), pollAt := b } ∧ s.only t [.sb])) ∧
  (∀ (s s1 : State) (p : Pkt) (i : Nat), s.takeIn 254 Vn.MGT (fun p => p.h.opcode.toNat == 5 && s.domOn 68) = some (p, i, s1) →
    (p.h.src.toNat = 248 ∨ p.h.src.toNat = 249 → ∃ t, exec .sbout s = .next t ∧ s.nisKeep t 254 ∧ s.only t [.ni, .sb] ∧ ∀ k, k < 16 →
      (bit (p.word 0) (48 + k) = false → t.sb.outAt k = s.sb.outAt k) ∧
      (bit (p.word 0) (48 + k) = true → bit (p.word 0) 31 = false → t.sb.outAt k = { s.sb.outAt k with held := bit (p.word 0) (32 + k) }) ∧
      (bit (p.word 0) (48 + k) = true → bit (p.word 0) 31 = true → bits (s.rd (Off.SB_OUT_CFG k)) 0 2 = 1 → (s.sb.outAt k).sw = false →
        t.sb.outAt k = { s.sb.outAt k with pulse := some (bit (p.word 0) (32 + k), s.refTime + 4 * max 1 (bits (p.word 0) 0 16)) })) ∧
    (p.h.src.toNat ≠ 248 → p.h.src.toNat ≠ 249 → ∃ t, exec .sbout s = .next t ∧ t.sb = s.sb ∧ t.fld Off.SB_ERR_STATUS Fld.SB_ERR_STATUS.OUT_SRC = 1 ∧ s.only t [.ni, .regs, .wakeQ])) ∧
  (∀ (s : State) (k : Fin 16), let x := s.sb.outAt k
    (∀ v t0, x.pulse = some (v, t0) → t0 ≤ s.refTime → s.domOn 68 = true → ∃ t, exec (.sbPulseEnd k) s = .next t ∧ t.sb.outAt k = { x with pulse := none } ∧
      (∀ j, j ≠ k.val → t.sb.outAt j = s.sb.outAt j) ∧ s.only t [.sb]) ∧
    (x.sw = true → ∃ t, exec (.sbOutSwitchEnd k) s = .next t ∧ t.sb.outAt k = { x with sw := false, tickAt := s.sbTime } ∧ (∀ j, j ≠ k.val → t.sb.outAt j = s.sb.outAt j) ∧ s.only t [.sb]) ∧
    (∀ b, bits (s.rd (Off.SB_OUT_CFG k)) 0 2 = 2 → x.sw = false → s.domOn 68 = true → s.inReset = false → s.sbDue (2 ^ bits (s.rd (Off.SB_OUT_CFG k)) 6 5) x.tickAt = some b → ∃ t, exec (.sbTick k) s = .next t ∧
      t.sb.outAt k = { x with pulse := some (true, s.refTime + 4 * max 1 (bits (s.rd (Off.SB_OUT_CFG k)) 16 16)), tickAt := b } ∧ (∀ j, j ≠ k.val → t.sb.outAt j = s.sb.outAt j) ∧ s.only t [.sb])) ∧
  (∀ s : State, (∀ k, k < 16 → bits (s.pendOf (Off.SB_OUT_CFG k)) 0 2 ≠ 3 ∧ (bits (s.pendOf (Off.SB_OUT_CFG k)) 0 2 = 2 →
      10 ≤ bits (s.pendOf (Off.SB_OUT_CFG k)) 6 5 ∧ bits (s.pendOf (Off.SB_OUT_CFG k)) 6 5 ≤ 30)) → ∃ t, exec .sbOutCommit s = .next t ∧ s.only t [.regs, .pend, .sb] ∧ ∀ k, k < 16 →
    t.rd (Off.SB_OUT_CFG k) = s.pendOf (Off.SB_OUT_CFG k) ∧ t.sb.outAt k = (if s.pendOf (Off.SB_OUT_CFG k) = s.rd (Off.SB_OUT_CFG k) then s.sb.outAt k
      else { s.sb.outAt k with pulse := none, sw := true }))

/-- R488, R490 to R492, R494 to R496, R499: a wake request, or a write of REST to a higher state, starts a raise; one that meets a lowering is held as PENDING_ON. A raise ends in ON or CG;
one from OFF is powered first and then awaits its reload. A write that R490 does not allow is refused, one that lowers starts a lowering, a new GT name gives REST CG. A raise that takes more
than four times its bound, or whose restore fails, fails the domain. -/
def Obligations.DomainRaises : Prop :=
  ∀ (s : State) (d : Fin 72), let x := s.domAt d
    (∀ rest, s.wakeQ = d.val :: rest → x.failed = false →
      (x.phase = .steady → x.st ≠ .on → ∃ t, exec .wakeRequest s = .next t ∧ t.wakeQ = rest ∧
        t.domAt d = { x with phase := .wake, target := .on, toCg := false, powered := false, pendOn := false, cause := 2, wasPend := false, since := s.refTime, stepAt := s.refTime } ∧
        (∀ d', d' ≠ d.val → t.domAt d' = s.domAt d') ∧ s.only t [.dom, .wakeQ]) ∧
      ((x.phase = .stop ∨ x.phase = .drain ∨ x.phase = .fence ∨ x.phase = .enter) → x.pendOn = false → ∃ t, exec .wakeRequest s = .next t ∧ t.wakeQ = rest ∧
        t.domAt d = { x with pendOn := true } ∧
        t.fld (Off.KT_DOM_CNT d) Fld.KT_DOM_CNT.PENDED = satInc (2 ^ Fld.KT_DOM_CNT.PENDED.w - 1) (s.fld (Off.KT_DOM_CNT d) Fld.KT_DOM_CNT.PENDED) ∧
        (∀ d', d' ≠ d.val → t.domAt d' = s.domAt d') ∧ s.regsKeep t [Off.KT_DOM_CNT d] ∧ s.only t [.regs, .dom, .wakeQ])) ∧
    (∀ ok, x.phase = .wake → x.st = .cg ∨ x.st = .ret ∧ ok = true ∧ (d.val < 48 → (s.islAt d).takeNext = false) → ∃ t, exec (.domainRaiseDone d ok) s = .next t ∧
      (t.domAt d).st = (if x.toCg = true then .cg else .on) ∧ (t.domAt d).phase = .steady ∧ (t.domAt d).failed = false ∧ (t.domAt d).tries = 0 ∧
      (∀ d', d' ≠ d.val → t.domAt d' = s.domAt d') ∧ t.pot.ledger = s.pot.ledger) ∧
    (x.phase = .wake → x.st = .off → (d.val < 48 → (s.islAt d).takeNext = false) → ∃ t, exec (.domainPowered d) s = .next t ∧
      t.domAt d = { x with phase := .reload, powered := true, stepAt := s.refTime } ∧ (∀ d', d' ≠ d.val → t.domAt d' = s.domAt d') ∧
      (48 ≤ d.val → d.val < 69 → s.only t [.dom]) ∧ s.only t [.regs, .rt, .ni, .port, .lk, .dom, .cd, .seamDown, .wire, .owed, .held, .wakeQ]) ∧
    (∀ c, (x.phase = .wake ∨ x.phase = .reload) ∧ x.stepAt + 4 * x.bound < s.refTime ∧ c = .domainStepTimeout d ∨ x.phase = .wake ∧ x.st = .ret ∧ c = .domainRaiseDone d false →
      (d.val ≠ 64 ∧ d.val ≠ 65 ∨ x.tries ≠ 0) → ∃ t, exec c s = .next t ∧ (t.domAt d).st = .off ∧ (t.domAt d).phase = .steady ∧ (t.domAt d).failed = true ∧ (t.domAt d).pendOn = false ∧
        (∀ d', d' ≠ d.val → t.domAt d' = s.domAt d') ∧
        (66 ≤ d.val → t.rd Off.KT_FAIL_INFO = BitVec.ofNat 64 (d * 2 ^ 56 + x.phase.code * 2 ^ 52 + s.time.now % 2 ^ 48) ∧ d.val ∉ t.wakeQ)) ∧
    (∀ r : Fin 4, let rest := s.fld (Off.KT_DOM d) Fld.KT_DOM.REST
      (rest < r.val → (s.lowestRest d).code < r.val → ∃ t, exec (.ktRestWrite d r) s = .next t ∧ t.fld (Off.KT_DOM d) Fld.KT_DOM.REFUSED = 1 ∧
        t.fld (Off.KT_DOM d) Fld.KT_DOM.REST = rest ∧ s.nisKeep t 251 ∧ s.only t [.regs, .ni, .wakeQ]) ∧
      (r.val ≤ rest ∨ r.val ≤ (s.lowestRest d).code → x.failed = false → x.phase = .steady → ∃ t, exec (.ktRestWrite d r) s = .next t ∧
        t.fld (Off.KT_DOM d) Fld.KT_DOM.REST = r.val ∧ (∀ d', d' ≠ d.val → t.domAt d' = s.domAt d') ∧ s.regsKeep t [Off.KT_DOM d] ∧ s.only t [.regs, .dom] ∧
        (r.val < x.st.code → t.domAt d = { x with phase := .wake, target := .on, toCg := false, powered := false, pendOn := false, cause := 1, wasPend := false, since := s.refTime, stepAt := s.refTime }) ∧
        (x.st.code < r.val → t.domAt d = { x with phase := .stop, target := DomSt.ofCode r, cause := 1, wasPend := false, since := s.refTime, stepAt := s.refTime }) ∧
        (r.val = x.st.code → t.domAt d = x))) ∧
    (∀ (k : Fin 2) (mask : W64), let o := if k.val = 0 then Off.KT_GT_MASK_0 else Off.KT_GT_MASK_1
      let m := if k.val = 0 then mask else mask &&& 0xFF#64
      ∃ t, exec (.ktGtMaskWrite k mask) s = .next t ∧ t.rd o = m ∧ s.nisKeep t 251 ∧ s.only t [.regs, .ni, .dom, .wakeQ] ∧
        (∀ b, d.val = 64 * k.val + b → b < 64 →
          (m.getLsbD b = true → (s.rd o).getLsbD b = false → 2 ≤ (s.restOf d).code → t.fld (Off.KT_DOM d) Fld.KT_DOM.REST = 1 ∧
            (x.failed = false → x.phase = .steady → x.st = .ret → (t.domAt d).phase = .wake ∧ (t.domAt d).toCg = true) ∧
            (x.failed = false → x.phase = .steady → x.st = .off → (t.domAt d).phase = .wake ∧ (t.domAt d).toCg = false)) ∧
          (m.getLsbD b = false ∨ (s.rd o).getLsbD b = true ∨ (s.restOf d).code < 2 → t.rd (Off.KT_DOM d) = s.rd (Off.KT_DOM d) ∧ t.domAt d = x)))

/-- R488, R489, R493, R496, R501: a domain that has been idle for its interval starts a lowering to its resting state, and the outputs that face it are asked to close their fences; a
commanded lowering first waits until the domain is idle. With every fence closed the domain enters its target, and reaches it; a held PENDING_ON then raises it. A side channel message that
fails its check is sent again, eight in a row lose the channel. -/
def Obligations.DomainLowerings : Prop :=
  ∀ (s : State) (d : Fin 72), let x := s.domAt d
    let others := fun t : State => ∀ d', d' ≠ d.val → t.domAt d' = s.domAt d'
    let faces := if d.val < 48 then (facing d).map (fun e => e.1 * 8 + e.2) else []
    (let rest := s.restOf d
      let dst := if s.needCg d = true ∧ rest ≠ .on then .cg else rest
      let l := s.fld (Off.KT_DOM d) Fld.KT_DOM.IDLE_LOG2
      x.st = .on → x.phase = .steady → x.busy = false → s.domIdle d = true → dst ≠ .on → s.potHeldOn d = false → 4 ≤ l → l ≤ 24 → KMap.get (fun _ => 0) s.kt.idleSince d.val + 2 ^ l ≤ s.aonTime →
      (dst = .off → s.mayOff d = true) → ∃ t, exec (.idleIntervalEnd d) s = .next t ∧
        t.domAt d = { x with target := dst, phase := .fence, closes := faces, cause := 0, wasPend := false, since := s.refTime, stepAt := s.refTime } ∧ others t ∧ s.only t [.rt, .dom]) ∧
    (∃ t, exec (.domainBusyChange d) s = .next t ∧ t.domAt d = { x with busy := !s.domIdle d } ∧ others t ∧ s.only t [.dom, .kt] ∧
      (s.domIdle d = true → x.busy = true → KMap.get (fun _ => 0) t.kt.idleSince d.val = s.aonTime) ∧ (s.domIdle d = false → s.only t [.dom])) ∧
    (x.phase = .stop ∨ x.phase = .drain → s.domIdle d = true → s.potHeldOn d = false → (x.target = .off → s.mayOff d = true) → ∃ t, exec (.lowerDrainDone d) s = .next t ∧
      t.domAt d = { x with phase := .fence, closes := faces, stepAt := s.refTime } ∧ (∀ e ∈ facing d, d.val < 48 → portFlag (t.rtAt e.1).closing e.2 = true) ∧ others t ∧
      s.only t [.rt, .dom]) ∧
    (x.phase = .stop → s.domIdle d = false → (x.target = .off → d.val < 48 → ∀ n ∈ islandNis d, (s.niAt n).leaf.recs = []) → ∃ t, exec (.lowerDrainDone d) s = .next t ∧
      t.domAt d = { x with phase := .drain } ∧ others t ∧ s.only t [.dom]) ∧
    (∀ n ∈ islandNis d, x.phase = .stop ∨ x.phase = .drain → x.target = .off → d.val < 48 → (s.niAt n).leaf.recs ≠ [] → ∃ t, exec (.lowerDrainDone d) s = .next t ∧
      t.domAt d = { x with phase := .drain } ∧ others t ∧ s.only t [.regs, .tabBad, .ni, .dom, .wakeQ]) ∧
    (x.phase = .fence → x.closes = [] → s.potHeldOn d = false → (x.target ≠ .ret ∨ 64 ≤ d.val ∨ x.imaged = true) → (x.imaged = true → s.domIdle d = true) → ∃ t, exec (.domainFencesClosed d) s = .next t ∧
      t.domAt d = { x with phase := .enter, stepAt := s.refTime } ∧ others t ∧ s.only t [.dom]) ∧
    (x.phase = .enter →
      (x.pendOn = true → ∃ t, exec (.domainLowerDone d) s = .next t ∧ (t.domAt d).st = x.target ∧ (t.domAt d).phase = .wake ∧ (t.domAt d).target = .on ∧ (t.domAt d).pendOn = false ∧
        (t.domAt d).wasPend = true ∧ others t) ∧
      (x.pendOn = false → x.target.code ≤ (s.restOf d).code → s.needCg d = false → ∃ t, exec (.domainLowerDone d) s = .next t ∧
        t.domAt d = { x with st := x.target, phase := .steady, busy := false } ∧ others t ∧
        (66 ≤ d.val → t.fld (Off.KT_DOM_CNT d) Fld.KT_DOM_CNT.LOWERINGS = satInc (2 ^ Fld.KT_DOM_CNT.LOWERINGS.w - 1) (s.fld (Off.KT_DOM_CNT d) Fld.KT_DOM_CNT.LOWERINGS)) ∧
        (x.target = .cg → 66 ≤ d.val → s.only t [.regs, .dom, .cd]))) ∧
    (s.kt.sideUp = true →
      (∃ t, exec (.sideChannelMessage true) s = .next t ∧ t = { s with kt := { s.kt with sideRun := 0 } }) ∧
      (∃ t, exec (.sideChannelMessage false) s = .next t ∧ t.kt = { s.kt with sideRun := s.kt.sideRun + 1, sideUp := decide (s.kt.sideRun + 1 < 8) } ∧
        t.fld Off.KT_SIDE Fld.KT_SIDE.RESENDS = satInc (2 ^ Fld.KT_SIDE.RESENDS.w - 1) (s.fld Off.KT_SIDE Fld.KT_SIDE.RESENDS) ∧ s.only t [.regs, .ni, .kt, .wakeQ] ∧
        (s.kt.sideRun + 1 < 8 → s.only t [.regs, .kt] ∧ s.regsKeep t [Off.KT_SIDE])))

/-- R431, R434, R435, R437, R441: a commit takes the pending table and checks it; a table that is not well-formed ends it with nothing changed, another raises every domain in RET. HOLD then
stops the participating NIs, the others are stale; PUSH writes their shadows, makes the table active and raises GEN; RELEASE lets them go on, and the last one ends the window. NIs that are
late after 20 µs are stale, and are reloaded. LOCK ends STARTUP and RECOVERY; once it is set neither MODE nor COMMIT can be written. -/
def Obligations.StrainerCommit : Prop :=
  ∀ (s : State), let x := s.st
    let result := fun t : State => t.fld Off.ST_STATUS Fld.ST_STATUS.RESULT
    (s.locked = true → ∃ t, exec .stCommit s = .next t ∧ t.st = x ∧ s.nisKeep t 252 ∧ s.regsKeep t [Off.NI_FAULT_CNT 252] ∧ s.only t [.regs, .ni, .wakeQ]) ∧
    (s.locked = false → x.phase = .idle → s.epochBusy = false → ∃ t, exec .stCommit s = .next t ∧ t.fld Off.ST_CTRL Fld.ST_CTRL.COMMIT = 1 ∧
      t.st = { x with phase := .check, table := s.pendingTable, result := 0 } ∧ s.regsKeep t [Off.ST_CTRL] ∧ s.only t [.regs, .st]) ∧
    (x.phase = .check →
      (∀ r a b, checkTable x.table = some (r, a, b) → ∃ t, exec .stCheckEnd s = .next t ∧ result t = r ∧ t.rd Off.ST_COMMIT_INFO = BitVec.ofNat 64 (b * 2 ^ 32 + a) ∧
        t.fld Off.ST_CTRL Fld.ST_CTRL.COMMIT = 0 ∧ t.st.phase = .idle ∧ t.kt = { s.kt with winHold := false } ∧ s.nisKeep t 252 ∧
        s.regsKeep t [Off.ST_COMMIT_INFO, Off.ST_STATUS, Off.ST_CTRL, Off.NI_FAULT_CNT 252] ∧ s.only t [.regs, .ni, .kt, .st, .wakeQ]) ∧
      (checkTable x.table = none → ∃ t, exec .stCheckEnd s = .next t ∧ t.st = { x with phase := .raise } ∧ t.kt = { s.kt with winHold := true } ∧
        (∀ d : Fin 72, let y := s.domAt d
          (y.st = .ret → y.failed = false → y.phase = .steady → (t.domAt d).phase = .wake ∧ (t.domAt d).toCg = true ∧ (t.domAt d).target = .cg) ∧
          (y.st ≠ .ret ∨ y.failed = true ∨ y.phase ≠ .steady → t.domAt d = y)) ∧ s.only t [.dom, .kt, .st])) ∧
    (x.phase = .raise → (∀ d : Fin 72, ¬((s.domAt d).st = .ret ∧ (s.domAt d).phase = .wake)) → (∀ n : Fin 256, (s.niAt n).strain.reloading = false) →
      (∀ e ∈ x.gates, e.1 ≠ Off.ST_STATUS) → ∃ t, exec .stRaiseEnd s = .next t ∧
        t.st = { x with phase := .hold, start := s.refTime, parts := (List.range 256).filter s.participates, crcBad := [], gates := [] } ∧
        t.fld Off.ST_STATUS Fld.ST_STATUS.DISABLED = 1 ∧ (∀ n : Fin 256, (t.niAt n).strain = { (s.niAt n).strain with stale := (s.niAt n).strain.stale || !s.participates n }) ∧
        (x.gates = [] → s.only t [.regs, .ni, .st]) ∧ s.only t [.regs, .ni, .st, .pot]) ∧
    (∀ n : Fin 256, x.phase = .hold → n.val ∈ x.parts → ∃ t, exec (.stHold n) s = .next t ∧
      t.niAt n = { s.niAt n with strain := { (s.niAt n).strain with hold := true, acked := true } } ∧ s.nisKeep t n ∧ s.only t [.ni]) ∧
    (x.phase = .hold → (∀ n ∈ x.parts, (s.niAt n).strain.acked = true) → ∃ t, exec .stHoldDone s = .next t ∧ t = { s with st := { x with phase := .push } }) ∧
    (x.phase = .push → (∀ e ∈ x.table, tableOffset e.1 = true ∧ e.1 % 8 = 0) → (x.table.map (·.1)).Nodup → (∀ n ∈ x.parts, n < 256 ∧ (s.niAt n).ep.bank < 2) →
      ∃ t, exec (.stPushEnd [] false) s = .next t ∧ t.st = { x with phase := .release, crcBad := [] } ∧ t.stGen = (s.stGen + 1) % 2 ^ 32 ∧ (∀ e ∈ x.table, t.rd e.1 = e.2) ∧
        (∀ n ∈ x.parts, ∀ e ∈ x.table, 0x210000 ≤ e.1 → t.tabW n (s.niAt n).ep.bank Sec.SHADOW 0 ((e.1 - 0x210000) / 8) = e.2 ∧
          (s.rd (Off.NI_BANK_ID n (1 - (s.niAt n).ep.bank)) ≠ 0 → t.tabW n (1 - (s.niAt n).ep.bank) Sec.SHADOW 0 ((e.1 - 0x210000) / 8) = e.2)) ∧
        s.only t [.regs, .pend, .tab, .tabBad, .st, .chk]) ∧
    (∀ n : Fin 256, x.phase = .release → n.val ∈ x.parts → n.val ∉ x.crcBad → (s.niAt n).strain.held = [] → (s.niAt n).comps = [] → ∃ t, exec (.stRelease n) s = .next t ∧
      (t.niAt n).strain = { (s.niAt n).strain with hold := false, acked := false, gen := s.stGen } ∧
      (x.parts.filter (· != n.val) ≠ [] → t.st = { x with parts := x.parts.filter (· != n.val) } ∧ s.nisKeep t n ∧ s.only t [.ni, .st]) ∧
      (x.parts.filter (· != n.val) = [] → t.st.phase = .idle ∧ result t = 1 ∧ t.fld Off.ST_STATUS Fld.ST_STATUS.DISABLED = 0 ∧ t.fld Off.ST_CTRL Fld.ST_CTRL.COMMIT = 0 ∧
        t.fld Off.ST_WINDOW Fld.ST_WINDOW.LAST_NS = min (2 ^ 32 - 1) (s.refTime - x.start) ∧ t.kt = { s.kt with winHold := false } ∧ s.only t [.regs, .ni, .kt, .st, .wakeQ])) ∧
    (x.start + 20000 ≤ s.refTime → ∀ late : Nat → Bool, (x.phase = .hold ∧ late = (fun n => !(s.niAt n).strain.acked) ∨ x.phase = .release ∧ late = x.crcBad.contains) →
      (∃ n ∈ x.parts, late n = true) → ∃ t, exec .stWindowLimit s = .next t ∧ (∀ m, m ∈ t.st.parts ↔ m ∈ x.parts ∧ late m = false) ∧
        (∀ m ∈ x.parts, late m = true → (t.niAt m).strain.stale = true ∧ (t.niAt m).strain.hold = false) ∧
        (x.phase = .release → t.st.parts = [] → result t = 1 ∧ t.st.phase = .idle) ∧ s.only t [.regs, .ni, .kt, .st, .wakeQ]) ∧
    (∀ n : Fin 256, s.staleAt n = true → s.participates n = true → (s.niAt n).strain.reloading = false → x.phase = .idle → KMap.get (fun _ => 0) x.retryAt n.val ≤ s.refTime →
      s.domOn 66 = true → ∃ t, exec (.stStaleRetry n) s = .next t ∧ t.niAt n = { s.niAt n with strain := { (s.niAt n).strain with reloading := true } } ∧ s.nisKeep t n ∧
        s.only t [.ni]) ∧
    (∀ n : Fin 256, (s.niAt n).strain.reloading = true →
      ((s.niAt n).strain.held = [] → (s.niAt n).comps = [] → ∃ t, exec (.stShadowReloadDone n true) s = .next t ∧
        (t.niAt n).strain = { (s.niAt n).strain with stale := false, reloading := false, gen := s.stGen } ∧ t.staleAt n = false ∧ s.nisKeep t n ∧
        s.only t [.regs, .tab, .tabBad, .ni, .st, .chk]) ∧
      (let c := KMap.get (fun _ => 0) x.retries n.val + 1
        ∃ t, exec (.stShadowReloadDone n false) s = .next t ∧ (t.niAt n).strain = { (s.niAt n).strain with reloading := false } ∧
          KMap.get (fun _ => 0) t.st.retries n.val = c ∧ KMap.get (fun _ => 0) t.st.retryAt n.val = s.refTime + 20000 ∧ (c ≠ 8 → s.only t [.ni, .st]) ∧
          s.only t [.regs, .ni, .st, .wakeQ])) ∧
    (let m := s.fld Off.ST_CTRL Fld.ST_CTRL.MODE;
      (∃ t, exec .stLockWrite s = .next t ∧ t.locked = true ∧ t.fld Off.ST_CTRL Fld.ST_CTRL.MODE = (if m = 1 ∨ m = 3 then 0 else m) ∧
        t.fld Off.ST_CTRL Fld.ST_CTRL.COMMIT = s.fld Off.ST_CTRL Fld.ST_CTRL.COMMIT ∧ t.st = { x with wasLocked := true } ∧ s.regsKeep t [Off.ST_CTRL] ∧ s.only t [.regs, .st]) ∧
      (∀ v : Fin 4,
        (s.locked = false → v.val < 2 ∨ v.val = 2 ∧ s.pins.testMode = true → ∃ t, exec (.stModeWrite v) s = .next t ∧ t.fld Off.ST_CTRL Fld.ST_CTRL.MODE = v.val ∧
          t.locked = false ∧ t.fld Off.ST_CTRL Fld.ST_CTRL.COMMIT = s.fld Off.ST_CTRL Fld.ST_CTRL.COMMIT ∧ s.onlyRegs t [Off.ST_CTRL]) ∧
        (s.locked = false → v.val = 3 ∨ v.val = 2 ∧ s.pins.testMode = false → exec (.stModeWrite v) s = .next s) ∧
        (s.locked = true → v.val = m → exec (.stModeWrite v) s = .next s) ∧
        (s.locked = true → v.val ≠ m → ∃ t, exec (.stModeWrite v) s = .next t ∧ t.fld Off.ST_CTRL Fld.ST_CTRL.MODE = m ∧ s.nisKeep t 252 ∧
          s.regsKeep t [Off.NI_FAULT_CNT 252] ∧ s.only t [.regs, .ni, .wakeQ])))

/-- R314, R317 to R321, R324: a unit writes the words of a table-load message into its bank, and records the image at a seal whose word count agrees. An armed NI switches at its local time
T: the other bank becomes active and the old one drains; an NI that still uses the boot routes enters epoch 0. An NI refuses to arm with NOT_LOADED, BUSY or TOO_LATE, disarms at CANCEL,
reports when it is locally drained, and ends its drain at DONE. -/
def Obligations.EpochsAtNis : Prop :=
  ∀ (s : State) (n : Fin 256), let e := (s.niAt n).ep
    (∀ p i s1, s.takeIn n Vn.MGT (fun p => p.h.opcode.toNat == 6 && p.mop == 1) = some (p, i, s1) → let c := p.word 0
      let bank := bits c 51 1
      ∃ t, exec (.tableLoad n) s = .next t ∧ (t.niAt n).ep.loading = some bank ∧
        (t.niAt n).ep.loadCount = (if e.loading = some bank then e.loadCount else 0) + bits c 48 3 ∧
        (∀ k, k < bits c 48 3 → let w := loadPlace n (bits c 52 4) (bits c 0 32 + k)
          t.tabW n bank w.1 (bits c 45 3) w.2 = p.word (1 + k) ∧ KMap.get (fun _ => false) t.tabBad (tabKey n bank w.1 (bits c 45 3) w.2) = false) ∧
        (e.loading ≠ some bank → t.rd (Off.NI_BANK_ID n bank) = 0) ∧ s.regsKeep t [Off.NI_BANK_ID n bank] ∧ s.nisKeep t n ∧ s.only t [.regs, .tab, .tabBad, .ni]) ∧
    (∀ p i s1, s.takeIn n Vn.MGT (fun p => p.h.opcode.toNat == 6 && p.mop == 2) = some (p, i, s1) → let bank := bits (p.word 0) 51 1
      let count := if e.loading = some bank then e.loadCount else 0
      ∃ t, exec (.bankSeal n) s = .next t ∧ (t.niAt n).ep = { e with loading := none, loadCount := 0 } ∧
        t.rd (Off.NI_BANK_ID n bank) = (if (p.word 2).toNat = count then p.word 1 else 0) ∧ s.nisKeep t n ∧
        t.pot = { s.pot with load := s.pot.load.map (fun l => if l.bank = bank then (if (p.word 2).toNat = count then { l with good := l.good ++ [n.val] } else { l with bad := l.bad ++ [n.val] }) else l) } ∧
        s.only t [.regs, .ni, .pot]) ∧
    (∀ p i s1, s.takeIn n Vn.MGT (fun p => p.h.opcode.toNat == 3 && bits (p.word 1) 62 2 == 0) = some (p, i, s1) → let new := bits (p.word 1) 0 2
      let T := (p.word 0).toNat
      let bank := if e.boot = true then 0 else 1 - e.bank
      let finds := fun (t : State) (kind reason : Nat) => t.tells n 248 4 [BitVec.ofNat 64 (kind * 2 ^ 61 + new * 2 ^ 59 + reason * 2 ^ 56 + n.val * 2 ^ 48)] ∧ s.nisKeep t n
      (e.boot = true ∨ e.draining = false ∨ e.epoch ≠ new) →
        (s.rd (Off.NI_BANK_ID n bank) = p.word 2 → p.word 2 ≠ 0 → e.armed = false → s.niTime n + 1024 < T → ∃ t, exec (.epochArm n) s = .next t ∧
          (t.niAt n).ep = { e with armed := true, armEpoch := new, armT := T } ∧ t.rd (Off.NI_EPOCH_TIME n) = p.word 0 ∧ finds t 1 0 ∧ s.regsKeep t [Off.NI_EPOCH_TIME n] ∧
          s.only t [.regs, .ni]) ∧
        (∀ reason, s.rd (Off.NI_BANK_ID n bank) ≠ p.word 2 ∧ reason = 1 ∨ s.rd (Off.NI_BANK_ID n bank) = p.word 2 ∧ p.word 2 ≠ 0 ∧ (e.armed = true ∧ reason = 3 ∨
            e.armed = false ∧ T ≤ s.niTime n + 1024 ∧ reason = 2) → ∃ t, exec (.epochArm n) s = .next t ∧ (t.niAt n).ep = e ∧ finds t 2 reason ∧ s.only t [.ni])) ∧
    (∀ p i s1, s.takeIn n Vn.MGT (fun p => p.h.opcode.toNat == 3 && bit (p.word 1) 63) = some (p, i, s1) → let new := bits (p.word 1) 0 2
      (e.armed = true → e.armEpoch = new → s.niTime n < e.armT → ∃ t, exec (.epochCancel n) s = .next t ∧ (t.niAt n).ep = { e with armed := false } ∧ s.nisKeep t n ∧ s.only t [.ni]) ∧
      (e.armed = false → e.boot = false → e.epoch = new → ∃ t, exec (.epochCancel n) s = .next t ∧ (t.niAt n).ep = e ∧
        t.tells n 248 4 [BitVec.ofNat 64 (4 * 2 ^ 61 + new * 2 ^ 59 + n.val * 2 ^ 48)] ∧ s.nisKeep t n ∧ s.only t [.regs, .ni])) ∧
    (e.armed = true → e.armT ≤ s.niTime n → ∃ t, exec (.epochSwitch n) s = .next t ∧
      (e.boot = true → (t.niAt n).ep = { e with boot := false, armed := false, bank := 0, epoch := 0 }) ∧
      (e.boot = false → (t.niAt n).ep = { e with bank := 1 - e.bank, epoch := e.armEpoch, oldEpoch := e.epoch, draining := true, armed := false, reported := false, sent := 0, recv := 0, holds := s.changedRoutes n e.bank (1 - e.bank), sentOld := e.sent % 2 ^ 16, recvOld := e.recv % 2 ^ 16 } ∧
        (∀ w, n.val = 248 → s.pot.sw = some w → t.bankSt (w.number % 2) = 2 ∧ t.bankSt (1 - w.number % 2) = 3 ∧ t.fld Off.GL_EPOCH Fld.GL_EPOCH.STATE = 5 ∧
          t.pot.sw = some { w with draining := true, changed := s.time.now })) ∧ ((n.val = 248 → s.rejoinSwitch = false) → s.nisKeep t n) ∧ s.only t [.regs, .pend, .isl, .rt, .ni, .kt, .cd, .pot]) ∧
    (e.draining = true → (e.reported = false ∧ s.locallyDrained n = true ∨ e.reported = true ∧ (s.drainRecv n ≠ e.lastRecv ∨ s.drainUnkn n ≠ e.lastUnkn) ∧ e.repAt + 1024 ≤ s.niTime n) →
      ∃ t, exec (.niLocalDrained n) s = .next t ∧
        t.tells n 248 4 [BitVec.ofNat 64 (3 * 2 ^ 61 + e.oldEpoch * 2 ^ 59 + n.val * 2 ^ 48 + e.sentOld % 2 ^ 16 * 2 ^ 32 + s.drainRecv n * 2 ^ 16 + s.drainUnkn n)] ∧
        (t.niAt n).ep = { e with reported := true, lastRecv := s.drainRecv n, lastUnkn := s.drainUnkn n, repAt := s.niTime n } ∧ s.nisKeep t n ∧ s.only t [.ni]) ∧
    (∀ p i s1, s.takeIn n Vn.MGT (fun p => p.h.opcode.toNat == 3 && !bit (p.word 1) 63 && bit (p.word 1) 62) = some (p, i, s1) → e.draining = true → e.epoch = bits (p.word 1) 0 2 →
      ∃ t, exec (.epochDoneMessage n) s = .next t ∧ (t.niAt n).ep = { e with draining := false, holds := [], reported := false } ∧ t.rd (Off.NI_BANK_ID n (1 - e.bank)) = 0 ∧
        s.regsKeep t [Off.NI_BANK_ID n (1 - e.bank)] ∧ s.nisKeep t n ∧ s.only t [.regs, .isl, .ni])

/-- R307, R312 to R319, R322, R323: LOAD_BLEND starts a load into the bank that is neither ACTIVE nor DRAINING, a signature that fails ends it with DENIED, and it ends with OK once every NI
has sealed. COMMIT_EPOCH is answered by the first condition of R316 that holds, else arming messages leave; all armed, it ends with OK, and at the deadline the switch is cancelled otherwise.
The last drain report that completes the drain, or its timer, brings DONE; a slow drain is reported once. -/
def Obligations.EpochsAtPot : Prop :=
  ∀ (s : State), let now := s.time.now
    let act := s.epochNum % 2
    let state := fun t : State => t.fld Off.GL_EPOCH Fld.GL_EPOCH.STATE
    let done := fun (t : State) (w : Switch) => t.pot.sw = none ∧ t.epochNum = w.number % 2 ^ 32 ∧ t.bankSt (1 - w.number % 2) = 0 ∧ t.rd (Off.GL_BANK_ID (1 - w.number % 2)) = 0 ∧ state t = 0 ∧
      t.kt.loadHold = false ∧ (∀ n ∈ w.parts, t.tells 248 n 3 [BitVec.ofNat 64 w.T, BitVec.ofNat 64 (2 ^ 62 + w.number % 4), 0]) ∧ s.only t [.regs, .ni, .dom, .kt, .cd, .pot, .wakeQ]
    (∀ (c : Fin 24) x, s.runs1 c 0x11 x → let T := (x.word 1).toNat
      let blend := fun b => KMap.get (fun _ => Blend.empty) s.pot.blends b
      let busy := s.pot.sw.isSome || s.bankSt 0 == 3 || s.bankSt 1 == 3
      let bad := s.floorBroken act || s.gatesDiffer && T % 1024 != 0 || decide (T < now + 65536 ∨ now + 2 ^ 32 < T)
      (∀ code, (if busy = true then code = 8 else if s.bankSt (1 - act) ≠ 1 then code = 2 else if (blend (1 - act)).follows ≠ (blend act).id then code = 3 else bad = true ∧ code = 2) →
        ∃ t, exec (.commitEpoch c) s = .next t ∧ t.ended c code [] ∧ t.pot.sw = s.pot.sw ∧ s.only t [.pot]) ∧
      (busy = false → s.bankSt (1 - act) = 1 → (blend (1 - act)).follows = (blend act).id → bad = false → ∃ t, exec (.commitEpoch c) s = .next t ∧
        t.pot.cmd c = some { x with started := true } ∧ state t = 3 ∧ t.rd Off.GL_EPOCH_T = BitVec.ofNat 64 T ∧
        (∃ w, t.pot.sw = some w ∧ w.src = some c.val ∧ w.T = T ∧ w.number = s.epochNum + 1 ∧ w.id = (blend (1 - act)).id ∧ w.parts = s.switchParts ∧ w.armed = false ∧ w.draining = false) ∧
        (∀ n ∈ s.switchParts, t.tells 248 n 3 [BitVec.ofNat 64 T, BitVec.ofNat 64 ((s.epochNum + 1) % 4), (blend (1 - act)).id]) ∧ s.nisKeep t 248 ∧
        s.regsKeep t [Off.GL_EPOCH, Off.GL_EPOCH_T] ∧ s.only t [.regs, .ni, .pot])) ∧
    (∀ w, s.pot.sw = some w →
      (w.armed = false → w.split = false → w.draining = false → w.T ≤ now + 32768 → ∃ t, exec .epochArmDeadline s = .next t ∧ t.pot.sw = none ∧ t.pot.oldSw = some w ∧ state t = 2 ∧
        (∀ n ∈ w.parts, t.tells 248 n 3 [BitVec.ofNat 64 w.T, BitVec.ofNat 64 (2 ^ 63 + w.number % 4), 0]) ∧
        (∀ c y, w.src = some c → s.pot.cmd c = some y → y.res = none → t.ended c (if ∃ n ∈ w.parts, KMap.get (fun _ => 0) w.ans n = 2 then 2 else 4) []) ∧ s.nisKeep t 248 ∧
        s.only t [.regs, .ni, .cd, .pot, .wakeQ]) ∧
      (∀ p i s1, s.takeIn 248 Vn.MGT (fun p => p.h.opcode.toNat == 4 && s.domOn 64) = some (p, i, s1) → let r := p.word 0
        let n := bits r 48 8
        n ∈ w.parts →
        (bits r 61 3 = 1 → bits r 59 2 = w.number % 4 → let w' := { w with ans := KMap.set (fun _ => 0) w.ans n 1 }
          let all := w.armed = false ∧ ∀ m ∈ w.parts, KMap.get (fun _ => 0) w'.ans m = 1
          ∃ t, exec .edrain s = .next t ∧ (¬all → t.pot.sw = some w' ∧ s.only t [.ni, .pot]) ∧
            (all → t.pot.sw = some { w' with armed := true } ∧ state t = 4 ∧
              (∀ c y, w.src = some c → s.pot.cmd c = some y → y.res = none → t.ended c 0 [BitVec.ofNat 64 w.number, BitVec.ofNat 64 w.T]) ∧ s.only t [.regs, .ni, .cd, .pot])) ∧
        (bits r 61 3 = 2 → bits r 59 2 = w.number % 4 → ∃ t, exec .edrain s = .next t ∧
          t.pot.sw = some { w with ans := KMap.set (fun _ => 0) w.ans n (1 + bits r 56 3) } ∧ s.only t [.ni, .pot]) ∧
        (bits r 61 3 = 3 → bits r 59 2 = (w.number + 3) % 4 → let rep : DrainRep := ⟨bits r 32 16, bits r 16 16, bits r 0 16⟩
          let w' := { w with reps := KMap.set (fun _ => none) w.reps n (some rep), changed := if w.rep n = some rep then w.changed else now }
          ∃ t, exec .edrain s = .next t ∧
            t.rd Off.GL_EPOCH_DRAIN = BitVec.ofNat 64 (w'.missing.headD 0 * 2 ^ 56 + w'.missing.length * 2 ^ 39 + w'.balance * 2 ^ 16 + w'.unknown) ∧
            (w.draining = false ∨ w'.drained now = false → t.pot.sw = some w' ∧ s.regsKeep t [Off.GL_EPOCH_DRAIN] ∧ s.only t [.regs, .ni, .pot]) ∧
            (w.draining = true → w'.drained now = true → done t w))) ∧
      (w.draining = true → w.drained now = true → ∃ t, exec .drainQuietTimer s = .next t ∧ done t w) ∧
      (w.draining = true → w.slow = false → w.T + 2 ^ 24 ≤ now → ∃ t, exec .epochDrainSlow s = .next t ∧ t.pot.sw = some { w with slow := true } ∧
        t.fld Off.GL_EPOCH Fld.GL_EPOCH.DRAIN_SLOW = 1 ∧ s.nisKeep t 248 ∧ s.regsKeep t [Off.GL_EPOCH, Off.NI_FAULT_CNT 248] ∧ s.only t [.regs, .ni, .pot, .wakeQ])) ∧
    (∀ (c : Fin 24) x ws gaps gates, s.runs1 c 0x10 x → x.addr 1 % 64 = 0 → s.pot.sw = none → s.bankSt 0 ≠ 3 → s.bankSt 1 ≠ 3 →
      (∀ l, s.pot.load = some l → ∃ t, exec (.loadBlend c (.header ws gaps gates)) s = .next t ∧ t.ended c 1 [] ∧ t.pot.load = some l ∧ s.only t [.pot]) ∧
      (s.pot.load = none → imageOk false ws (bits (x.word 2) 0 32) gaps gates = false → ∃ t, exec (.loadBlend c (.header ws gaps gates)) s = .next t ∧ t.ended c 2 [] ∧ s.only t [.pot]) ∧
      (s.pot.load = none → imageOk false ws (bits (x.word 2) 0 32) gaps gates = true → ∃ t, exec (.loadBlend c (.header ws gaps gates)) s = .next t ∧ t.pot.cmd c = some { x with started := true } ∧
        t.bankSt s.freeBank = 0 ∧ t.rd (Off.GL_BANK_ID s.freeBank) = 0 ∧ state t = 1 ∧ t.kt.loadHold = true ∧
        (∃ l, t.pot.load = some l ∧ l.src = c.val ∧ l.bank = s.freeBank ∧ l.blend.id = ws.getD 2 0 ∧ l.sect = 0 ∧ l.pos = 0 ∧ l.verdict = none ∧ l.sealed = [] ∧ l.good = [] ∧ ∀ n ∈ l.parts, (t.niAt n).ep.loading = none ∧ (t.niAt n).ep.loadCount = 0) ∧
        s.only t [.regs, .ni, .dom, .kt, .pot, .wakeQ])) ∧
    (∀ (c : Fin 24) x l, s.pot.cmd c = some x → x.op = 0x10 → x.res = none → x.started = true → s.domOn 64 = true → s.pot.load = some l → l.src = c.val →
      (l.sect = 9 → l.verdict = none → l.bank < 2 → ∃ t, exec (.loadBlend c (.verdict false)) s = .next t ∧ t.ended c 3 [] ∧ t.pot.load = none ∧ t.bankSt l.bank = 0 ∧ t.kt.loadHold = false ∧
        s.only t [.regs, .kt, .pot]) ∧
      (∀ n : Fin 256, l.verdict = some true → n.val ∈ l.parts → n.val ∉ l.sealed → ∃ t, exec (.loadBlend c (.bankSeal n)) s = .next t ∧
        t.pot.load = some { l with sealed := l.sealed ++ [n.val] } ∧
        t.tells 248 n 6 [loadControl 2 0 l.bank 0 0 0, l.blend.id, BitVec.ofNat 64 (KMap.get (fun _ => 0) l.sent n.val)] ∧ s.nisKeep t 248 ∧ s.only t [.ni, .pot]) ∧
      (l.verdict = some true → l.bank < 2 → (∀ n ∈ l.parts, s.writable n = true ∨ s.rejoins n = true → n ∈ l.good) →
        ∃ t, exec (.loadBlend c .finish) s = .next t ∧ t.ended c 0 [l.blend.id, BitVec.ofNat 64 l.bank] ∧ t.pot.load = none ∧ t.bankSt l.bank = 1 ∧
          t.rd (Off.GL_BANK_ID l.bank) = l.blend.id ∧ state t = 2 ∧ KMap.get (fun _ => Blend.empty) t.pot.blends l.bank = l.blend ∧ s.only t [.regs, .ni, .dom, .cd, .pot, .wakeQ]))

/-- R449 to R453, R455, R456, R459, R460, R463: an access to a mailbox's command words is served, a ring of its doorbell awaits the Pot, or is lost while a command runs. The Pot accepts a
rung doorbell: it copies the words, and a class that the mailbox may not issue, or an opcode that is not listed, ends at once. A command that has ended, or whose bound has passed, writes its
results and its status. -/
def Obligations.Mailboxes : Prop :=
  ∀ (s : State),
    (∀ posted p s1, s.takeAperture posted (fun p => !p.rings) = some (p, s1) → let op := p.h.opcode.toNat
      ∃ t, exec (.mailboxCmdWrite posted) s = .next t ∧ s.nisKeep t 248 ∧ s.only t [.regs, .ni] ∧
        (∀ a k, p.regAccess = some (a, k) → p.mailbox.2 < 0x40 → posted = true ∨ op ≠ 1 ∧ op ≠ 3 ∧ op ≠ 4 → let o := Off.PT_MB_CMD p.mailbox.1 (p.mailbox.2 / 8)
          t.rd o = mergeHalf (s.rd o) a k (p.regData a) ∧ s.regsKeep t [o] ∧ (posted = false → t.answers 248 p.h.src.toNat Vn.IOC 1 Resp.OK)) ∧
        (posted = false → p.regAccess.isSome = true → op = 1 → t.answers 248 p.h.src.toNat Vn.IOC 2 Resp.OK ∧ s.only t [.ni]) ∧
        (p.regAccess = none → s.only t [.ni])) ∧
    (∀ posted p s1, s.takeAperture posted (fun p => p.rings) = some (p, s1) → let m := p.mailbox.1
      ∃ t, exec (.doorbellWrite posted) s = .next t ∧ t.fld (Off.PT_MB_DOORBELL m) Fld.PT_MB_DOORBELL.RUNG = 1 ∧
        (posted = false → t.answers 248 p.h.src.toNat Vn.IOC 1 Resp.OK) ∧ s.nisKeep t 248 ∧
        (s.fld (Off.PT_MB_STATUS m) Fld.PT_MB_STATUS.STATE = 1 → t.fld (Off.PT_MB_STATUS m) Fld.PT_MB_STATUS.DB_LOST = 1 ∧
          s.regsKeep t [Off.PT_MB_DOORBELL m, Off.PT_MB_STATUS m, Off.NI_FAULT_CNT 248] ∧ s.only t [.regs, .ni, .wakeQ]) ∧
        (s.fld (Off.PT_MB_STATUS m) Fld.PT_MB_STATUS.STATE ≠ 1 → m ∈ t.pot.rung ∧ (s.domOn 64 = false → 64 ∈ t.wakeQ) ∧ (s.domOn 64 = true → t.wakeQ = s.wakeQ) ∧
          s.regsKeep t [Off.PT_MB_DOORBELL m] ∧ s.only t [.regs, .ni, .pot, .wakeQ])) ∧
    (∀ m : Fin 8, let o := Off.PT_MB_STATUS m
      let ws := (List.range 8).map (fun k => s.rd (Off.PT_MB_CMD m k))
      let op := bits (s.rd (Off.PT_MB_CMD m 0)) 48 16
      m.val ∈ s.pot.rung → s.fld o Fld.PT_MB_STATUS.STATE ≠ 1 → s.accepting = true → s.pot.cmd m = none → ∃ t, exec (.mailboxAccept m) s = .next t ∧
        t.fld o Fld.PT_MB_STATUS.STATE = 1 ∧ t.fld o Fld.PT_MB_STATUS.OPCODE = op ∧ t.fld (Off.PT_MB_DOORBELL m) Fld.PT_MB_DOORBELL.RUNG = 0 ∧ m.val ∉ t.pot.rung ∧
        (∃ x, t.pot.cmd m = some x ∧ x.words = ws ∧
          (∀ cls, cmdClass op = some cls → mayIssue m cls = true → x.started = false ∧ x.res = none) ∧
          (∀ cls, cmdClass op = some cls → mayIssue m cls = false → x.res = some (3, [])) ∧ (cmdClass op = none → x.res = some (2, []))) ∧
        s.nisKeep t 248 ∧ s.only t [.regs, .ni, .cd, .pot, .wakeQ]) ∧
    (∀ (c : Fin 24) x, s.pot.cmd c = some x → s.domOn 64 = true →
      let finished := fun (t : State) (code : Nat) (rsp : List W64) =>
        (c.val < 8 → t.pot.cmd c = none ∧
          (bit (x.word 0) 47 = false ∨ bit (s.rd (Off.PT_MB_IRQ_ADDR c)) 63 = false →
            t.fld (Off.PT_MB_STATUS c) Fld.PT_MB_STATUS.STATE = 2 ∧ t.fld (Off.PT_MB_STATUS c) Fld.PT_MB_STATUS.CODE = code % 256 ∧
            t.fld (Off.PT_MB_STATUS c) Fld.PT_MB_STATUS.NRSP = min 7 rsp.length ∧ (∀ k, k < 7 → t.rd (Off.PT_MB_RSP c k) = rsp.getD k 0) ∧
            t.rd (Off.PT_MB_RSP c 7) = BitVec.ofNat 64 s.time.now ∧ s.only t [.regs, .ni, .kt, .cd, .pot])) ∧
        (8 ≤ c.val → (s.pot.ring (c.val - 8)).fetched = [] →
          (∀ y ∈ s.pot.cmds, ¬(y.op = 0x52 ∧ y.started = true ∧ y.res = none ∧ bits (y.word 1) 0 4 = c.val - 8)) → t.pot.cmd c = none ∧
            (t.pot.ring (c.val - 8)).completed = (s.pot.ring (c.val - 8)).completed + 1)
      (∀ code rsp, x.res = some (code, rsp) → ∃ t, exec (.commandEnd c) s = .next t ∧ finished t code rsp ∧ s.only t [.regs, .tabBad, .ni, .cd, .pot, .wakeQ]) ∧
      (∀ s1 code rsp, x.res = none → s.waitEnd x = some (s1, code, rsp) → ∃ t, exec (.commandEnd c) s = .next t ∧ finished t code rsp ∧
        s.only t [.regs, .tabBad, .ni, .cd, .pot, .wakeQ]) ∧
      (x.res = none → s.waitEnd x = none → canTimeout x.op = true → s.deadline x ≤ s.refTime → (∀ l, s.pot.load = some l → l.src ≠ c.val) → ∃ t, exec (.commandTimeout c) s = .next t ∧
        finished t 4 (s.timeoutRsp x) ∧ s.only t [.regs, .tabBad, .ni, .cd, .pot, .wakeQ]) ∧
      (∀ l, x.op = 0x10 → x.res = none → s.waitEnd x = none → s.deadline x ≤ s.refTime → s.pot.load = some l → l.src = c.val → l.bank < 2 → ∃ t, exec (.commandTimeout c) s = .next t ∧
        finished t 4 [] ∧ t.pot.load = none ∧ t.kt.loadHold = false ∧ (c.val < 8 → bit (x.word 0) 47 = false → t.bankSt l.bank = 0)))

/-- R454, R471 to R483: RING_SETUP sets a ring's areas and phases and leaves it disabled, its mailbox form sets or clears a mailbox's interrupt, RING_ENABLE starts a ring at its head,
RING_DISABLE drops the entries that are fetched, and CANCEL marks entries; each ends with the code of the first check that fails. The Pot reads the next entry of an enabled ring; an entry of
the present phase is taken, another is read again later. An error response stops the ring; the FNC's completion lets its interrupt go; a status line is written where completions have come.
The order of the checks is the model's (log entry 34). -/
def Obligations.Rings : Prop :=
  (∀ (s : State) (c : Fin 24) (x : PotCmd), s.runs1 c 0x50 x → bit (x.word 1) 8 = false → let r := bits (x.word 1) 0 4
    (∀ code, (if s.ringArgsOk x = false then code = 2 else if s.ringSt r = 1 then code = 1 else s.mayRing c r = false ∧ code = 3) →
      ∃ t, exec (.ringSetup c) s = .next t ∧ t.ended c code [] ∧ s.only t [.pot]) ∧
    (s.ringArgsOk x = true → s.ringSt r ≠ 1 → s.mayRing c r = true → ∃ t, exec (.ringSetup c) s = .next t ∧ t.ended c 0 [] ∧
      t.rd (Off.PT_RING_SQ r) = BitVec.ofNat 64 (x.addr 2) ∧ t.rd (Off.PT_RING_CQ r) = BitVec.ofNat 64 (x.addr 3) ∧ t.rd (Off.PT_RING_SL r) = BitVec.ofNat 64 (x.addr 4) ∧
      t.fld (Off.PT_RING_CFG r) Fld.PT_RING_CFG.LOG2 = bits (x.word 1) 4 4 ∧ t.fld (Off.PT_RING_CFG r) Fld.PT_RING_CFG.OWNER = s.issuer c % 8 ∧ t.ringSt r = 0 ∧ t.ringHead r = 0 ∧
      t.ringPhase r = true ∧ t.rd (Off.PT_RING_CNT r) = 0 ∧
      t.pot.ring r = { PotRing.reset with setUp := true, reading := (s.pot.ring r).reading, staleRead := (s.pot.ring r).reading } ∧
      (∀ r', r' ≠ r → t.pot.ring r' = s.pot.ring r') ∧ s.only t [.regs, .pot])) ∧
  (∀ (s : State) (c : Fin 24) (x : PotCmd), s.runs1 c 0x50 x → bit (x.word 1) 8 = true → let m := s.issuer c
    (x.addr 6 % 4 ≠ 0 → ∃ t, exec (.ringSetupMailboxForm c) s = .next t ∧ t.ended c 2 [] ∧ s.only t [.pot]) ∧
    (x.addr 6 % 4 = 0 → ∃ t, exec (.ringSetupMailboxForm c) s = .next t ∧ t.ended c 0 [] ∧
      t.rd (Off.PT_MB_IRQ_ADDR m) = (if bit (x.word 5) 0 = true then BitVec.ofNat 64 (2 ^ 63 + x.addr 6) else 0) ∧
      t.rd (Off.PT_MB_IRQ_DATA m) = (if bit (x.word 5) 0 = true then BitVec.ofNat 64 (bits (x.word 7) 0 32) else 0) ∧
      s.regsKeep t [Off.PT_MB_IRQ_ADDR m, Off.PT_MB_IRQ_DATA m] ∧ s.only t [.regs, .pot])) ∧
  (∀ (s : State) (c : Fin 24) (x : PotCmd), s.runs1 c 0x51 x → let r := bits (x.word 1) 0 4
    let y := s.pot.ring r
    (∀ code, (if s.mayRing c r = false then code = 3 else if y.setUp = false ∨ s.ringSt r = 3 then code = 2 else s.ringSt r = 1 ∧ code = 0) →
      ∃ t, exec (.ringEnable c) s = .next t ∧ t.ended c code [] ∧ s.only t [.pot]) ∧
    (s.mayRing c r = true → y.setUp = true → s.ringSt r ≠ 1 → s.ringSt r ≠ 3 → ∃ t, exec (.ringEnable c) s = .next t ∧ t.ended c 0 [] ∧ t.ringSt r = 1 ∧
      (t.pot.ring r).next = s.ringHead r ∧ (t.pot.ring r).nextPhase = s.ringPhase r ∧ (t.pot.ring r).pollAt = 0 ∧
      (t.pot.ring r).line = some (s.ringHead r, s.ringPhase r, 1, y.writes + 1, y.completed, y.cancelled) ∧ s.only t [.regs, .tabBad, .ni, .pot, .wakeQ])) ∧
  (∀ (s : State) (c : Fin 24) (x : PotCmd), s.runs1 c 0x52 x → let r := bits (x.word 1) 0 4
    let y := s.pot.ring r
    (∀ code, (if s.mayRing c r = false then code = 3 else s.ringSt r ≠ 1 ∧ code = 0) → ∃ t, exec (.ringDisable c) s = .next t ∧ t.ended c code [] ∧ s.only t [.pot]) ∧
    (s.mayRing c r = true → s.ringSt r = 1 → ∃ t, exec (.ringDisable c) s = .next t ∧ t.ringSt r = 2 ∧ (t.pot.ring r).fetched = [] ∧ (t.pot.ring r).next = s.ringHead r ∧
      (s.pot.cmd (8 + r) = none → t.ended c 0 [] ∧ (t.pot.ring r).line = some (s.ringHead r, s.ringPhase r, 2, y.writes + 1, y.completed, y.cancelled)) ∧
      ((s.pot.cmd (8 + r)).isSome = true → t.pot.cmd c = some { x with started := true } ∧ s.regsKeep t [Off.PT_RING_STATE r] ∧ s.only t [.regs, .pot]) ∧
      s.only t [.regs, .tabBad, .ni, .pot, .wakeQ])) ∧
  (∀ (s : State) (c : Fin 24) (x : PotCmd), s.runs1 c 0x53 x → let r := bits (x.word 1) 0 4
    let y := s.pot.ring r
    let first := bits (x.word 1) 16 12
    let count := bits (x.word 1) 32 13
    let wrong := y.setUp = false ∨ count = 0 ∨ s.ringSize r < count ∨ s.ringSize r ≤ first
    (∀ code, (if s.mayRing c r = false then code = 3 else wrong ∧ code = 2) → ∃ t, exec (.cancel c) s = .next t ∧ t.ended c code [] ∧ s.only t [.pot]) ∧
    (s.mayRing c r = true → ¬wrong → ∃ t, exec (.cancel c) s = .next t ∧
      (∀ i, i ∈ (t.pot.ring r).marks ↔ i ∈ y.marks ∨ ∃ k, k < count ∧ (first + k) % s.ringSize r = i) ∧
      t.ended c 0 [BitVec.ofNat 64 count, BitVec.ofNat 64 (((List.range count).filter (fun k => decide ((first + k) % s.ringSize r < s.ringHead r))).length)] ∧
      (∀ r', r' ≠ r → t.pot.ring r' = s.pot.ring r') ∧ s.only t [.pot])) ∧
  (∀ (s : State) (r : Fin 16), let y := s.pot.ring r
    s.ringSt r = 1 → s.accepting = true → y.reading = false → y.fetched.length < 4 → y.pollAt ≤ s.refTime →
      let q := potReq Vn.REQ 4 ((s.fld (Off.PT_RING_SQ r) Fld.PT_RING_SQ.ADDR + 64 * y.next) / 64) (PotId.fetch r) true [] 0
      ∃ t, exec (.ringPoll r) s = .next t ∧ t.pot.ring r = { y with reading := true } ∧ (∀ dest, s.passesTo 248 q dest → s.waitsFor t 248 q dest) ∧
        s.only t [.regs, .tabBad, .ni, .pot, .wakeQ]) ∧
  (∀ (s s1 : State) (r : Fin 16) (e : Completion), s.takeComp 248 (PotId.fetch r) = some (e, s1) → e.resp = Resp.OK ∨ e.resp = Resp.ERR_POISON → let y := s.pot.ring r
    let ws := (List.range 8).map (fun k => lineWord ((e.lines.head?.map Body.data).getD 0) k)
    (s.ringSt r ≠ 1 ∨ y.staleRead = true → ∃ t, exec (.ringEntryFetched r) s = .next t ∧ t.pot.ring r = { y with reading := false, staleRead := false } ∧ s.nisKeep t 248 ∧
      s.only t [.ni, .pot]) ∧
    (s.ringSt r = 1 → y.staleRead = false → e.resp = Resp.OK → bit (ws.getD 0 0) 0 ≠ y.nextPhase → ∃ t, exec (.ringEntryFetched r) s = .next t ∧
      t.pot.ring r = { y with reading := false, pollAt := s.refTime + s.fld (Off.PT_RING_CFG r) Fld.PT_RING_CFG.POLL_NS } ∧ s.nisKeep t 248 ∧ s.only t [.ni, .pot]) ∧
    (s.ringSt r = 1 → y.staleRead = false → e.resp = Resp.OK → bit (ws.getD 0 0) 0 = y.nextPhase → s.accepting = true → s.pot.cmd (8 + r.val) = none → y.fetched = [] → y.marks = [] →
      ∃ t, exec (.ringEntryFetched r) s = .next t ∧ (∃ x, t.pot.cmd (8 + r.val) = some x ∧ x.words = ws ∧ x.idx = y.next) ∧ (t.pot.ring r).fetched = [] ∧
        (t.pot.ring r).reading = false ∧ (t.pot.ring r).next = (if y.next + 1 = s.ringSize r then 0 else y.next + 1) ∧
        (y.next + 1 < s.ringSize r → y.next + 1 < 4096 → t.ringHead r = y.next + 1) ∧ s.only t [.regs, .ni, .cd, .pot, .wakeQ])) ∧
  (∀ (s s1 : State) (r : Fin 16) (k : Fin 4) (e : Completion), s.takeComp 248 (ringIdent k r) = some (e, s1) → let y := s.pot.ring r
    (k.val = 3 → let a := s.fld (Off.PT_RING_IRQ_HI r) Fld.PT_RING_IRQ_HI.ADDR_HI * 2 ^ 32 + s.fld (Off.PT_RING_IRQ r) Fld.PT_RING_IRQ.ADDR_LO
      ∃ t, exec (.ringAccessResponse r k) s = .next t ∧
        t.pot.ring r = { y with irqFnc := false, gapUntil := s.refTime + s.fld (Off.PT_RING_CFG r) Fld.PT_RING_CFG.IRQ_GAP_US * 1000 } ∧
        (∀ dest, let q := potReq Vn.IOP 1 (a / 64) (PotId.ringIrq r) true [writeBody a 4 (BitVec.ofNat 64 (s.fld (Off.PT_RING_IRQ r) Fld.PT_RING_IRQ.DATA))] 0
          s1.passesTo 248 q dest → s1.waitsFor t 248 q dest) ∧ s.only t [.regs, .tabBad, .ni, .pot, .wakeQ]) ∧
    (k.val = 1 ∨ k.val = 2 → e.resp = Resp.OK → ∃ t, exec (.ringAccessResponse r k) s = .next t ∧ t = s1) ∧
    (k.val ≠ 3 → e.resp ≠ Resp.OK → ¬(k.val = 0 ∧ e.resp = Resp.ERR_POISON) → s.ringSt r ≠ 3 → ∃ t, exec (.ringAccessResponse r k) s = .next t ∧ t.ringSt r = 3 ∧
      (t.pot.ring r).fetched = [] ∧ (t.pot.ring r).next = s.ringHead r ∧ (t.pot.ring r).line = some (s.ringHead r, s.ringPhase r, 3, y.writes + 1, y.completed, y.cancelled) ∧
      s.only t [.regs, .tabBad, .ni, .pot, .wakeQ])) ∧
  (∀ (s : State) (r : Fin 16), let y := s.pot.ring r
    s.domOn 64 = true → y.irqDue = true → y.irqFnc = false → y.gapUntil ≤ s.refTime →
      ∃ t, exec (.ringIrqGapEnd r) s = .next t ∧ t.pot.ring r = { y with irqDue := false, irqFnc := true } ∧
        s.only t [.regs, .tabBad, .ni, .pot, .wakeQ]) ∧
  (∀ (s : State) (r : Fin 16), let y := s.pot.ring r
    s.ringSt r = 1 → y.dirty = true → y.dirtyAt / 2 ^ 20 < s.time.now / 2 ^ 20 → s.domOn 64 = true →
      ∃ t, exec (.ringStatusLineWrite r) s = .next t ∧
        t.pot.ring r = { y with writes := y.writes + 1, dirty := false, line := some (s.ringHead r, s.ringPhase r, 1, y.writes + 1, y.completed, y.cancelled) } ∧
        s.only t [.regs, .tabBad, .ni, .pot, .wakeQ])

/-- R453, R464 to R467, R470: QUERY returns what it names. READ_REG and WRITE_REG send the Pot's access once the target's domain is up, which they wake, and WRITE_REG reads the register
back. A command over an NI range writes the NIs that can be written at once, records the values of the others, counts the first, and ends with FENCED where FENCE_HW stops one; it changes
only the fields it names. -/
def Obligations.PotSettings : Prop :=
  ∀ (s : State) (c : Fin 24) x, let w := x.word 1
    let range := niRange w
    let count := BitVec.ofNat 64 (range.filter s.writable).length
    let code := if range.any (fun n => (s.niAt n).fenceHw) = true then 6 else 0
    let refused := fun (cmd : Instr) (code : Nat) => ∃ t, exec cmd s = .next t ∧ t.ended c code [] ∧ s.only t [.pot]
    let noted := fun (t : State) (o : Nat) (v : W64) => KMap.get (fun _ => none) t.pot.fwRec o = some v
    let due := fun (t : State) (o : Nat) (v : W64) => KMap.get (fun _ => none) t.pot.due o = some v ∧ t.rd o = s.rd o
    (s.runs1 c 0x01 x → (∀ l, s.queryRsp (bits w 0 4) (bits w 8 4) = some l → ∃ t, exec (.query c) s = .next t ∧ t.ended c 0 l ∧ s.only t [.pot]) ∧
      (s.queryRsp (bits w 0 4) (bits w 8 4) = none → refused (.query c) 2)) ∧
    (∀ cmd op q, let o := bits w 0 26
      let size := if bit w 32 = true then 8 else 4
      let a := s.cfgAddr o
      (op = 2 ∧ cmd = .readReg c ∧ q = potReq Vn.ION 1 (a / 64) (PotId.cmd c) false [⟨false, bytesAt a size, 0⟩] 0 ∨
        op = 3 ∧ cmd = .writeReg c ∧ q = potReq Vn.ION 2 (a / 64) (PotId.cmd c) false [writeBody a size (x.word 2)] 0) →
      s.runs1 c op x → x.data = [] →
        (o % size ≠ 0 → refused cmd 2) ∧ (o % size = 0 → s.behindFence o = true → refused cmd 6) ∧
        (∀ d, o % size = 0 → s.behindFence o = false → offDomain o = some d → (s.domAt d).st = .ret ∨ (s.domAt d).st = .off → ∃ t, exec cmd s = .next t ∧
          t.pot.cmd c = some { x with started := true, data := [0] } ∧ t.wakeQ = s.wakeQ ++ [d] ∧ s.only t [.pot, .wakeQ]) ∧
        (o % size = 0 → s.behindFence o = false → (∀ d, offDomain o = some d → (s.domAt d).st = .on ∨ (s.domAt d).st = .cg) → ∃ t, exec cmd s = .next t ∧
          t.pot.cmd c = some { x with started := true, data := [4 - op] } ∧ (∀ dest, s.passesTo 248 q dest → s.waitsFor t 248 q dest) ∧
          s.only t [.regs, .tabBad, .ni, .pot, .wakeQ])) ∧
    (∀ e s1, s.pot.cmd c = some x → x.op = 3 → x.res = none → x.started = true → x.data = [1] → s.domOn 64 = true → s.takeComp 248 (PotId.cmd c) = some (e, s1) → e.resp = Resp.OK →
      ∃ t, exec (.writeReg c) s = .next t ∧ t.pot.cmd c = some { x with data := [2] } ∧ s.only t [.regs, .tabBad, .ni, .pot, .wakeQ]) ∧
    (s.runs1 c 0x20 x → let p := bits w 16 2
      let bad := rangeBad w || shaperBad [x.word 2] (if bit w 24 = true then 6 else bits w 20 4)
      let ctl := fun n => if bit w 24 = true then s.recorded (Off.NI_QOS_CTRL n) else setBits (s.recorded (Off.NI_QOS_CTRL n)) 12 4 (bits w 20 4)
      (bad = true → refused (.setShaper c) 2) ∧ (bad = false → s.qosBusy (bits w 0 8) = true → refused (.setShaper c) 8) ∧
      (bad = false → s.qosBusy (bits w 0 8) = false → ∃ t, exec (.setShaper c) s = .next t ∧
        t.ended c code [count, BitVec.ofNat 64 (s.refillNext (bits w 0 8) (s.niTime (bits w 0 8) + 1))] ∧ s.only t [.regs, .pend, .ni, .pot] ∧
        ∀ n ∈ range, noted t (Off.NI_SHAPER_CFG n p) (x.word 2) ∧ (s.writable n = false → due t (Off.NI_SHAPER_CFG n p) (x.word 2) ∧ t.niAt n = s.niAt n) ∧
          (s.writable n = true → t.pendOf (Off.NI_SHAPER_CFG n p) = x.word 2 ∧
            (let cfgs := (List.range 4).map (fun q => if q = p then x.word 2 else s.pendOf (Off.NI_SHAPER_CFG n q))
             shaperBad cfgs (bits (ctl n) 12 4) = false → t.niAt n = { s.niAt n with shaperCommit := some (cfgs ++ [ctl n]) })))) ∧
    (s.runs1 c 0x21 x → let m := bits w 16 4
      let k := bits w 21 3
      let bad := rangeBad w || !range.all niHasMeter || meterBad (x.word 2) (x.word 3)
      (bad = true → refused (.setMeter c) 2) ∧ (bad = false → s.qosBusy (bits w 0 8) = true → refused (.setMeter c) 8) ∧
      (bad = false → s.qosBusy (bits w 0 8) = false → ∃ t, exec (.setMeter c) s = .next t ∧ t.ended c code [count] ∧ s.only t [.regs, .pend, .ni, .pot] ∧
        ∀ n ∈ range, noted t (meterKey n m 0) (x.word 2) ∧ noted t (meterKey n m 1) (x.word 3) ∧ (s.writable n = false → t.niAt n = s.niAt n) ∧
          (s.writable n = true → (∀ j, j < 16 → j ≠ m → meterBad ((s.niAt n).meter j).pRate ((s.niAt n).meter j).pBurst = false) →
            (t.niAt n).meter m = ({ (s.niAt n).meter m with pRate := x.word 2, pBurst := x.word 3 } : Meter).commit ∧
            (bit w 20 = true → t.rd (Off.NI_METER_MATCH n k) = x.word 4)))) ∧
    (s.runs1 c 0x22 x → let cfg := fun n => setBits (setBits (s.recorded (Off.NI_LEAF_CFG n)) 63 1 (bits w 21 1)) 32 5 (bits w 16 5)
      let dest := BitVec.ofNat 64 (bits (x.word 2) 6 46 * 64)
      (rangeBad w = true ∨ bits w 16 5 = 31 → refused (.leafCfg c) 2) ∧
      (rangeBad w = false → bits w 16 5 ≠ 31 → ∃ t, exec (.leafCfg c) s = .next t ∧ t.ended c code [count] ∧ s.only t [.regs, .pend, .pot] ∧
        (∀ n ∈ range, noted t (Off.NI_LEAF_CFG n) (cfg n) ∧ noted t (Off.NI_LEAF_DEST n) dest ∧
          (s.writable n = true → t.rd (Off.NI_LEAF_CFG n) = cfg n ∧ t.rd (Off.NI_LEAF_DEST n) = dest) ∧
          (s.writable n = false → due t (Off.NI_LEAF_CFG n) (cfg n) ∧ due t (Off.NI_LEAF_DEST n) dest)) ∧
        (∀ o, (∀ n ∈ range, o ≠ Off.NI_LEAF_CFG n ∧ o ≠ Off.NI_LEAF_DEST n) → t.rd o = s.rd o))) ∧
    (s.runs1 c 0x23 x → let u := bits w 0 2
      let i := bits w 8 8
      let k := bits w 16 2
      let pg := unitPage u i
      let bad := u = 3 ∨ u = 0 ∧ 191 < i ∨ u = 2 ∧ 15 < i ∨ bits (x.word 2) 38 2 = 3
      let d := s.domAt (if u = 2 then 48 + i else niIsland (unitNi u i))
      let fenced := (s.niAt (unitNi u i)).fenceHw
      let now := (d.st == .on || d.st == .cg) && !fenced
      (bad → refused (.pmFilter c) 2) ∧
      (¬bad → ∃ t, exec (.pmFilter c) s = .next t ∧ t.ended c (if fenced = true then 6 else 0) [BitVec.ofNat 64 (b2n now)] ∧ s.only t [.regs, .pend, .pot] ∧
        s.regsKeep t [pg.fmatch k, pg.fbase k, pg.flimit k] ∧
        (now = true → t.rd (pg.fbase k) = BitVec.ofNat 64 (bits (x.word 3) 6 46 * 64) ∧ t.rd (pg.flimit k) = BitVec.ofNat 64 (bits (x.word 4) 6 46 * 64) ∧
          bits (t.rd (pg.fmatch k)) 37 1 = bits w 18 1 ∧ bits (t.rd (pg.fmatch k)) 52 12 = bits (x.word 2) 52 12) ∧
        (now = false → due t (pg.fbase k) (BitVec.ofNat 64 (bits (x.word 3) 6 46 * 64))))) ∧
    ((∀ n ∈ range, (s.niAt n).strain.held = [] ∧ (s.niAt n).comps = []) →
      (s.runs1 c 0x41 x → let e := BitVec.ofNat 64 (2 ^ 63 + bits (x.word 2) 0 24)
        (rangeBad w = true → refused (.fenceAgent c) 2) ∧
        (rangeBad w = false → bit w 16 = true → ∃ t, exec (.fenceAgent c) s = .next t ∧ t.ended c code [count] ∧ s.only t [.regs, .ni, .pot] ∧
          ∀ n ∈ range, (s.writable n = true → t.fld (Off.NI_CTRL n) Fld.NI_CTRL.FENCE_SW = 1) ∧ (s.writable n = false → t.rd (Off.NI_CTRL n) = s.rd (Off.NI_CTRL n))) ∧
        (rangeBad w = false → bit w 16 = false → (∃ n ∈ range, s.freeFence n = none) → refused (.fenceAgent c) 1) ∧
        (rangeBad w = false → bit w 16 = false → (∀ n ∈ range, s.freeFence n ≠ none) → ∃ t, exec (.fenceAgent c) s = .next t ∧ t.ended c code [count] ∧ s.only t [.regs, .ni, .pot] ∧
          ∀ n ∈ range, ∀ k, s.freeFence n = some k → noted t (Off.NI_AFENCE n k) e ∧ (s.writable n = true → t.rd (Off.NI_AFENCE n k) = e) ∧
            (s.writable n = false → due t (Off.NI_AFENCE n k) e))) ∧
      (s.runs1 c 0x42 x → let pat := bits (x.word 2) 0 24
        (rangeBad w = true → refused (.unfence c) 2) ∧
        (rangeBad w = false → bit w 16 = true → ∃ t, exec (.unfence c) s = .next t ∧ t.ended c code [count, 0] ∧ s.only t [.regs, .ni, .pot] ∧
          ∀ n ∈ range, s.writable n = true → t.fld (Off.NI_CTRL n) Fld.NI_CTRL.FENCE_SW = 0) ∧
        (rangeBad w = false → bit w 16 = false → ∃ t, exec (.unfence c) s = .next t ∧
          t.ended c code [count, BitVec.ofNat 64 (range.foldl (fun a n => a + (s.fencesOf n pat).length) 0)] ∧ s.only t [.regs, .pot] ∧
          ∀ n ∈ range, s.writable n = true → ∀ k, k < 4 → t.rd (Off.NI_AFENCE n k) = (if k ∈ s.fencesOf n pat then 0 else s.rd (Off.NI_AFENCE n k)))))

/-- R465, R468 to R470, R514, R536, R537, R558: SNAPSHOT sends SNAP to every unit that counts. DOMAIN_POWER writes REST and waits, QUIESCE closes Lids and QUIESCE_OPEN opens them,
LINK_RETRAIN retrains a link end. FAULT_ACK closes an open entry of the Saucer. CADDY_FREEZE and CADDY_THAW stop and resume recording, CADDY_READ returns a record, or copies records out. -/
def Obligations.PotOrders : Prop :=
  ∀ (s : State) (c : Fin 24) x, let w := x.word 1
    let now := s.time.now
    let newest := BitVec.ofNat 64 s.cd.newest
    let waiting := fun (t : State) => t.pot.cmd c = some { x with started := true }
    let refused := fun (cmd : Instr) (code : Nat) => ∃ t, exec cmd s = .next t ∧ t.ended c code [] ∧ s.only t [.pot]
    (s.runs1 c 0x24 x → let T := (x.word 1).toNat
      let bad := s.time.running = false ∨ T < now + 2000 ∨ now + 2 ^ 32 < T
      (bad → refused (.snapshot c) 2) ∧ (∀ u, ¬bad → s.pot.snapT = some u → now < u → refused (.snapshot c) 1) ∧
      (¬bad → (∀ u, s.pot.snapT = some u → u ≤ now) → ∃ t, exec (.snapshot c) s = .next t ∧ waiting t ∧ t.pot.snapT = some T ∧ t.pot.snapNum = (s.pot.snapNum + 1) % 2 ^ 32 ∧
        (∀ n ∈ s.snapNis, t.tells 248 n 2 [BitVec.ofNat 64 T, BitVec.ofNat 64 ((s.pot.snapNum + 1) % 2 ^ 32)]) ∧ s.nisKeep t 248 ∧ s.only t [.ni, .pot])) ∧
    (s.runs1 c 0x30 x → let d := bits w 0 7
      let st := bits w 8 2
      (72 ≤ d → refused (.domainPower c) 2) ∧ (∀ code, d < 72 → s.powerRefused d st = some code → refused (.domainPower c) code) ∧
      (d < 72 → s.powerRefused d st = none → st ≤ (s.restOf d).code ∨ st ≤ (s.lowestRest d).code → (s.domAt d).failed = false → (s.domAt d).phase = .steady →
        ∃ t, exec (.domainPower c) s = .next t ∧ t.fld (Off.KT_DOM d) Fld.KT_DOM.REST = st ∧
          t.pot.cmd c = some { x with started := true, data := [b2n (s.domAt d).pendOn * b2n (decide ((s.domAt d).st.code ≤ st))] } ∧
          ((s.domAt d).st.code < st → (t.domAt d).phase = .stop ∧ (t.domAt d).target = DomSt.ofCode st ∧ (t.domAt d).cause = 1) ∧
          (st < (s.domAt d).st.code → (t.domAt d).phase = .wake ∧ (t.domAt d).target = .on ∧ (t.domAt d).cause = 1) ∧ (st = (s.domAt d).st.code → t.domAt d = s.domAt d) ∧
          (∀ d', d' ≠ d → t.domAt d' = s.domAt d') ∧ s.regsKeep t [Off.KT_DOM d] ∧ s.only t [.regs, .dom, .pot])) ∧
    (s.runs1 c 0x31 x → let lids := fun t : State => t.fld Off.GL_LID_CTRL Fld.GL_LID_CTRL.POT_CLOSE
      let saucer := s.fld Off.GL_LID_CTRL Fld.GL_LID_CTRL.SAUCER
      (bit w 4 = false → bits w 32 16 = 0 → refused (.quiesce c) 2) ∧
      (bit w 4 = false → bits w 32 16 ≠ 0 → ∃ t, exec (.quiesce c) s = .next t ∧ waiting t ∧ lids t = lids s ||| bits w 0 4 ∧ s.nisKeep t 248 ∧
        s.regsKeep t [Off.GL_LID_CTRL, Off.NI_FAULT_CNT 248] ∧ s.only t [.regs, .ni, .pot, .wakeQ]) ∧
      (bit w 4 = true → ∃ t, exec (.quiesceOpen c) s = .next t ∧ lids t = lids s &&& (15 - bits w 0 4) ∧ s.nisKeep t 248 ∧ s.regsKeep t [Off.GL_LID_CTRL, Off.NI_FAULT_CNT 248] ∧
        (if saucer &&& bits w 0 4 = 0 then t.ended c 0 [] else t.ended c 3 [BitVec.ofNat 64 saucer]) ∧ s.only t [.regs, .ni, .pot, .wakeQ])) ∧
    (s.runs1 c 0x32 x → let k := bits w 0 5
      let e := bits w 8 1
      let l := s.lkAt k e
      let bad := 27 < k ∨ e = 1 ∧ 12 ≤ k
      (bad → refused (.linkRetrainCommand c) 2) ∧ (¬bad → l.st = .down ∨ l.st = .lost → refused (.linkRetrainCommand c) 3) ∧
      (¬bad → l.st ≠ .down → l.st ≠ .lost → lkSeam k = true → s.kt.dieBFenced = true → refused (.linkRetrainCommand c) 6) ∧
      (¬bad → (lkSeam k = false ∨ s.kt.dieBFenced = false) → lkEnd k e = true →
        (l.st = .pre ∨ l.st = .paused → ∃ t, exec (.linkRetrainCommand c) s = .next t ∧ waiting t ∧ t.fld (Off.LK_CTRL k e) Fld.LK_CTRL.RETRAIN = 1 ∧
          t.fld (Off.LK_CTRL k e) Fld.LK_CTRL.WIDTH_REQ = bits w 9 2 ∧ (t.lkAt k e).st = l.st ∧ s.regsKeep t [Off.LK_CTRL k e] ∧ s.only t [.regs, .lk, .pot]) ∧
        (l.st = .inService → s.fld (Off.LK_RETRAIN_CNT k e) Fld.LK_RETRAIN_CNT.RECENT < s.lkTh k e Fld.LK_THRESH.LOST_RT → ∃ t, exec (.linkRetrainCommand c) s = .next t ∧ waiting t ∧
          (t.lkAt k e).st = .pre ∧ (t.lkAt k e).wantArg.isSome = true ∧ t.fld (Off.LK_CTRL k e) Fld.LK_CTRL.WIDTH_REQ = bits w 9 2 ∧ s.only t [.regs, .lk, .cd, .pot, .seamDown]))) ∧
    (s.runs1 c 0x40 x →
      (s.sc.opens.find? (fun o => o.cls == bits w 0 3 && o.seq == bits w 16 32) = none → refused (.faultAck c) 2) ∧
      (∀ o, s.sc.opens.find? (fun o => o.cls == bits w 0 3 && o.seq == bits w 16 32) = some o → let l := s.sc.opens.filter (fun y => y.place != o.place)
        ∃ t, exec (.faultAck c) s = .next t ∧ t.sc.opens = l ∧ t.ended c 0 [BitVec.ofNat 64 (l.filter (fun y => y.cls == o.cls)).length] ∧ (o.cls ≠ 3 → s.only t [.sc, .pot]) ∧
          s.regsKeep t [Off.GL_LID_CTRL] ∧ s.only t [.regs, .sc, .pot])) ∧
    (s.runs1 c 0x43 x →
      (bit w 0 = false →
        (s.cd.frozen = true → ∃ t, exec (.caddyFreeze c) s = .next t ∧ t.ended c 0 [BitVec.ofNat 64 s.cd.held, s.rd Off.CD_FREEZE_TIME] ∧ s.only t [.pot]) ∧
        (s.cd.frozen = false → s.cd.freezing = false → (s.cd.port 4).buf.length < 4 → ∃ t, exec (.caddyFreeze c) s = .next t ∧ waiting t ∧ t.cd.freezing = true ∧ t.cd.byC4 = false ∧
          t.cd.frozen = false ∧ s.only t [.regs, .cd, .pot])) ∧
      (bit w 0 = true → (s.pins.fatal = true ∨ s.cd.byC4 = true → refused (.caddyThaw c) 3) ∧
        (s.pins.fatal = false → s.cd.byC4 = false → ∃ t, exec (.caddyThaw c) s = .next t ∧ t.ended c 0 [BitVec.ofNat 64 s.cd.held, s.rd Off.CD_FREEZE_TIME] ∧
          (s.cd.frozen = true → t.cd.frozen = false ∧ t.cd.freezing = false) ∧ (s.cd.frozen = false → t.cd = s.cd) ∧ s.only t [.regs, .cd, .pot]))) ∧
    (let first := bits w 0 13
     let count := bits w 16 14
     let dest := x.addr 2
     let lines := (count + 1) / 2
     (s.runs1 c 0x44 x →
      (count = 0 → ∃ t, exec (.caddyRead c []) s = .next t ∧ t.ended c 0 [s.cd.word first 0, s.cd.word first 1, s.cd.word first 2, s.cd.word first 3, newest] ∧ s.only t [.pot]) ∧
      (0 < count → 8192 < count ∨ dest % 64 ≠ 0 ∨ s.hostLines dest lines = false → refused (.caddyRead c []) 2) ∧
      (0 < count → count ≤ 8192 → dest % 64 = 0 → s.hostLines dest lines = true → ∃ t, exec (.caddyRead c []) s = .next t ∧
        t.pot.cmd c = some { x with started := true, data := [lines] } ∧ s.only t [.regs, .tabBad, .ni, .pot, .wakeQ] ∧
        (∀ d, count = 1 → let q := potReq Vn.REQ 5 (dest / 64) (PotId.copy c) true [⟨false, allBytes, lineOfWords ((List.range 4).map (s.cd.word first) ++ [0, 0, 0, 0])⟩] (lineOfWords [0, allBytes])
          s.passesTo 248 q d → s.waitsFor t 248 q d))) ∧
     (s.pot.cmd c = some x → x.op = 0x44 → x.res = none → x.started = true → s.domOn 64 = true →
      let l := (s.niAt 248).comps.filter (fun e => e.ident == PotId.copy c)
      x.data.headD 0 ≤ l.length → ∃ t, exec (.caddyRead c []) s = .next t ∧ t.ended c (if l.all (fun e => e.resp == Resp.OK) = true then 0 else 4) [0, 0, 0, 0, newest] ∧
        s.nisKeep t 248 ∧ s.only t [.ni, .pot]))

/-- R266 to R270, R311: a repair report is recorded, or counted as volatile where the ledger takes none, or waits; a flagged slice is read again once nothing waits. LEDGER_COMPACT erases the
other copy and then writes the live records. A WAIT step of a PLATFORM procedure ends after its time; a record is complete with its second half, and a write that fails twice makes the ledger
full. -/
def Obligations.RepairLedger : Prop :=
  ∀ (s : State), let l := s.pot.ledger
    let status := fun (t : State) (f : Fld) => t.fld Off.GL_LEDGER_STATUS f
    let goes := fun (st : W64 × W64) => bits st.1 60 4 = 3 ∨ (bits st.1 60 4 = 1 ∨ bits st.1 60 4 = 2) ∧ (s.e5lbAddr (bits st.1 0 32)).isSome = true
    (∀ r, (s.domOn 64 = false → 64 ∉ s.wakeQ → ∃ t, exec (.ledgerRepairReport r) s = .next t ∧ t = { s with wakeQ := s.wakeQ ++ [64] })) ∧
    (∀ r : Repair, s.domOn 64 = true → (s.sliceAt r.slice).told.find? (fun e => e.1 == r.word) = none → exec (.ledgerRepairReport (some r)) s = .next s) ∧
    (∀ (r : Repair) e, s.domOn 64 = true → (s.sliceAt r.slice).told.find? (fun e => e.1 == r.word) = some e →
      let heard := fun t : State => t.sliceAt r.slice = { s.sliceAt r.slice with told := (s.sliceAt r.slice).told.erase e } ∧ ∀ h, h ≠ r.slice.val → t.sliceAt h = s.sliceAt h
      (s.ledgerClosed = true → ∃ t, exec (.ledgerRepairReport (some r)) s = .next t ∧ t.pot.ledger = { l with vol := l.vol ++ [r.word] } ∧ heard t ∧
        t.fld (Off.HS_WEAR r.slice) Fld.HS_WEAR.VOLATILE = satInc (2 ^ Fld.HS_WEAR.VOLATILE.w - 1) (s.fld (Off.HS_WEAR r.slice) Fld.HS_WEAR.VOLATILE) ∧
        s.regsKeep t [Off.HS_WEAR r.slice] ∧ s.only t [.regs, .slice, .pot]) ∧
      (s.ledgerClosed = false → l.proc.isSome = true →
        (l.wait.length < 64 → ∃ t, exec (.ledgerRepairReport (some r)) s = .next t ∧ t.pot.ledger = { l with wait := l.wait ++ [e] } ∧ heard t ∧ s.only t [.slice, .pot]) ∧
        (64 ≤ l.wait.length → ∃ t, exec (.ledgerRepairReport (some r)) s = .next t ∧ t.pot.ledger.wait = l.wait ∧ r.slice.val ∈ t.pot.ledger.rescan ∧ heard t ∧ s.only t [.slice, .pot])) ∧
      (∀ st rest, s.ledgerClosed = false → l.proc = none → l.phase = .idle → l.wait = [] → status s Fld.GL_LEDGER_STATUS.COUNT < 4096 →
        s.platformSteps.filter (fun st => bits st.1 56 4 == 1) = st :: rest → goes st → ∃ t, exec (.ledgerRepairReport (some r)) s = .next t ∧ t.pot.ledger.phase = .single ∧
          t.pot.ledger.cur = s.ledgerRec e ∧ t.pot.ledger.slot = status s Fld.GL_LEDGER_STATUS.COUNT ∧ t.pot.ledger.half = 0 ∧ t.pot.ledger.seq = l.seq + 1 ∧ t.pot.ledger.wait = [] ∧
          t.pot.ledger.proc.isSome = true ∧ heard t ∧ s.only t [.regs, .tabBad, .ni, .slice, .pot, .wakeQ])) ∧
    (∀ h rest, l.rescan = h :: rest → l.phase = .idle → l.wait = [] → l.proc = none → s.domOn 64 = true →
      (s.domOn (48 + h) = true → s.missingRepairs h = [] → ∃ t, exec .ledgerRescan s = .next t ∧ t.pot.ledger = { l with rescan := rest } ∧ t.rd (Off.HS_DIAG_SEL h) = rescanLast ∧
        s.regsKeep t [Off.HS_DIAG_SEL h, Off.HS_DIAG_DATA h, Off.HS_DIAG_CHK h] ∧ s.only t [.regs, .pot]) ∧
      (s.domOn (48 + h) = false → 48 + h ∉ s.wakeQ → ∃ t, exec .ledgerRescan s = .next t ∧ t = { s with wakeQ := s.wakeQ ++ [48 + h] })) ∧
    (∀ (c : Fin 24) x, s.runs1 c 0x45 x → let on := s.flag Off.GL_LEDGER_CFG Fld.GL_LEDGER_CFG.ENABLE
      let refused := fun (code : Nat) => ∃ t, exec (.ledgerCompact c) s = .next t ∧ t.ended c code [] ∧ s.only t [.pot]
      (on = false → refused 3) ∧ (on = true → status s Fld.GL_LEDGER_STATUS.COMPACTING ≠ 0 → refused 1) ∧
      (∀ st rest, on = true → status s Fld.GL_LEDGER_STATUS.COMPACTING = 0 → l.phase = .idle → l.proc = none → s.platformSteps.filter (fun st => bits st.1 56 4 == 0) = st :: rest → goes st →
        ∃ t, exec (.ledgerCompact c) s = .next t ∧ t.pot.cmd c = some { x with started := true } ∧ t.pot.ledger.phase = .erase ∧ t.pot.ledger.todo = liveRecords l.recs ∧
          t.pot.ledger.kept = [] ∧ t.pot.ledger.proc.isSome = true ∧ (bits st.1 60 4 = 3 → status t Fld.GL_LEDGER_STATUS.COMPACTING = 1 ∧ s.only t [.regs, .pot]) ∧
          s.only t [.regs, .tabBad, .ni, .pot, .wakeQ])) ∧
    (∀ p st rest, l.proc = some p → p.pend = 3 → p.steps = st :: rest → p.since + p.value st * 1000 ≤ s.refTime → s.domOn 64 = true →
      (∀ st2 more, rest = st2 :: more → bits st2.1 60 4 = 3 → ∃ t, exec .platformWaitEnd s = .next t ∧
        t.pot.ledger = { l with proc := some { p with steps := rest, pend := 3, since := s.refTime } } ∧ s.only t [.pot]) ∧
      (rest = [] → l.phase = .single → l.half ≠ 0 → l.slot + 1 < 4096 → l.wait = [] → ∃ t, exec .platformWaitEnd s = .next t ∧
        t.pot.ledger = { l with recs := l.recs ++ [l.cur], phase := .idle, proc := none } ∧ status t Fld.GL_LEDGER_STATUS.COUNT = l.slot + 1 ∧
        s.regsKeep t [Off.GL_LEDGER_STATUS] ∧ s.only t [.regs, .pot])) ∧
    (∀ p st rest, l.proc = some p → p.pend = 2 → p.steps = st :: rest → p.since + bits st.1 48 8 * 100000 ≤ s.refTime → s.domOn 64 = true →
      l.phase = .single → l.again = true → l.wait = [] → ∃ t, exec .platformPollLimit s = .next t ∧ status t Fld.GL_LEDGER_STATUS.FULL = 1 ∧ t.pot.ledger.phase = .idle ∧
        t.pot.ledger.vol = l.vol ++ [l.cur.1] ∧ t.pot.ledger.proc = none ∧ t.pot.ledger.recs = l.recs ∧ s.nisKeep t 248 ∧ s.only t [.regs, .ni, .pot, .wakeQ])

/-- R431, R441, R443, R444, R484, R500, R523, R525: the Pot core restarts at its boot ROM, where LOCK is clear and MODE is RECOVERY, and its firmware starts with LOCK set and MODE back at
SERVICE; with no good copy it halts. REPROTECT waits for the other commands, restarts the core, checks the table it names and commits it. An uncorrectable SRAM word ends every command with
TIMEOUT. -/
def Obligations.PotRestarts : Prop :=
  ∀ (s : State), let mode := s.fld Off.ST_CTRL Fld.ST_CTRL.MODE
    let stage := fun t : State => t.fld Off.PT_POT_STATUS Fld.PT_POT_STATUS.STAGE
    let serves := fun t : State => t.locked = true ∧ t.fld Off.ST_CTRL Fld.ST_CTRL.MODE = (if mode = 1 ∨ mode = 3 then 0 else mode) ∧ stage t = 1 ∧ t.pot.waitAll = none ∧ t.pot.restart = none
    (s.domOn 64 = true → s.pins.ready = true →
      (s.pot.restart = some none →
        (∀ found, found ≠ .bad → ∃ t, exec (.potCoreRestart found) s = .next t ∧ t.locked = true ∧ t.fld Off.ST_CTRL Fld.ST_CTRL.MODE = (if mode = 2 then 2 else 0) ∧ stage t = 1 ∧
          t.pot.waitAll = none ∧ t.pot.restart = none ∧ (found = .copyB → t.fld Off.GL_BOOT Fld.GL_BOOT.FW_COPY = 1) ∧ (found = .copyA → t.fld Off.GL_BOOT Fld.GL_BOOT.FW_COPY = 0) ∧
          s.only t [.regs, .st, .cd, .tr, .pot]) ∧
        (∃ t, exec (.potCoreRestart .bad) s = .next t ∧ t.locked = false ∧ t.fld Off.ST_CTRL Fld.ST_CTRL.MODE = (if mode = 2 then 2 else 3) ∧ stage t = 3 ∧ t.pot.restart = none ∧
          s.only t [.regs, .tr, .pot])) ∧
      (∀ x w, s.pot.restart = none → s.pot.waitAll = some w → s.pot.cmds = [x] → ∃ t, exec (.potCoreRestart .sram) s = .next t ∧ t.locked = false ∧
        t.fld Off.ST_CTRL Fld.ST_CTRL.MODE = (if mode = 2 then 2 else 3) ∧ stage t = 2 ∧ t.pot.restart = some (some (bits (x.word 1) 0 52)) ∧ t.pot.cmds = [x] ∧
        s.regsKeep t [Off.ST_CTRL, Off.PT_POT_STATUS] ∧ s.only t [.regs, .tr, .pot])) ∧
    (∀ (c : Fin 24) t0 x, s.runs1 c 0x60 x → let refused := fun (code : Nat) => ∃ t, exec (.reprotect c t0) s = .next t ∧ t.ended c code [] ∧ s.only t [.pot]
      let epoch := s.pot.sw.isSome || s.bankSt 0 == 3 || s.bankSt 1 == 3
      let other := s.pot.load.isSome || s.pot.waitAll.isSome
      (x.addr 1 % 64 ≠ 0 → refused 2) ∧ (x.addr 1 % 64 = 0 → epoch = true → refused 8) ∧ (x.addr 1 % 64 = 0 → epoch = false → other = true → refused 1) ∧
      (x.addr 1 % 64 = 0 → epoch = false → other = false → ∃ t, exec (.reprotect c t0) s = .next t ∧ t.pot.cmd c = some { x with started := true } ∧ t.pot.waitAll = some s.refTime ∧
        s.only t [.pot])) ∧
    (∀ (c : Fin 24) t0 x a, s.pot.cmd c = some x → x.op = 0x60 → x.res = none → x.started = true → s.domOn 64 = true → s.pot.restart = some (some a) →
      (x.data = [] → protHeaderOk t0.words = false ∨ t0.sig = false → ∃ t, exec (.reprotect c t0) s = .next t ∧
        t.ended c (if protHeaderOk t0.words = true then 3 else 2) [] ∧ serves t ∧ t.st.gates = [] ∧ s.only t [.regs, .ni, .st, .cd, .pot, .wakeQ]) ∧
      (x.data = [] → protHeaderOk t0.words = true → t0.sig = true → s.st.phase = .idle → s.epochBusy = false → ∃ t, exec (.reprotect c t0) s = .next t ∧
        t.pot.cmd c = some { x with data := [1] } ∧ t.st.phase = .check ∧ t.st.gates = protGates t0.words ∧ t.fld Off.ST_CTRL Fld.ST_CTRL.COMMIT = 1 ∧
        t.pendOf Off.ST_TABLE_ID = t0.words.getD 2 0 ∧ s.regsKeep t [Off.ST_CTRL] ∧ s.only t [.regs, .pend, .st, .pot]) ∧
      (x.data ≠ [] → s.st.phase = .idle → ∃ t, exec (.reprotect c t0) s = .next t ∧ serves t ∧
        (if s.st.result = 1 then t.ended c 0 [s.rd Off.ST_TABLE_ID, BitVec.ofNat 64 s.stGen] else t.ended c (if s.st.result = 2 then 7 else 2) []) ∧ s.only t [.regs, .ni, .st, .cd, .pot, .wakeQ])) ∧
    (∀ w x, s.pot.waitAll = some w → s.pot.restart = none → s.pot.cmds.find? (fun x => x.op == 0x60 && x.started && x.res.isNone) = some x → s.pot.cmd x.src = some x → s.domOn 64 = true →
      1 < s.pot.cmds.length → w + 100000000 ≤ s.refTime → ∃ t, exec .reprotectWaitLimit s = .next t ∧ t.ended x.src 1 [] ∧ t.pot.waitAll = none) ∧
    (∀ word, s.domOn 64 = true →
      (∃ t, exec (.potSramCe word) s = .next t ∧ t.fld Off.GL_POT_ECC Fld.GL_POT_ECC.CE = satInc (2 ^ Fld.GL_POT_ECC.CE.w - 1) (s.fld Off.GL_POT_ECC Fld.GL_POT_ECC.CE) ∧
        t.fld Off.GL_POT_ECC Fld.GL_POT_ECC.LAST_WORD = word.toNat ∧ s.onlyRegs t [Off.GL_POT_ECC]) ∧
      (∀ rings, stage s ≠ 3 → (∀ l, s.pot.load = some l → l.bank < 2) → ∃ t, exec (.potSramUe word rings) s = .next t ∧ t.locked = false ∧ stage t = 0 ∧ t.pot.restart = some none ∧ t.pot.waitAll = none ∧ t.pot.load.isSome = false ∧
        t.pot.cmds = s.pot.cmds.map (fun x => { x with started := true, res := some (4, []) }) ∧ t.fld Off.GL_POT_ECC Fld.GL_POT_ECC.LAST_WORD = word.toNat ∧
        (∀ r ∈ rings, (s.pot.ring r).line = none → t.ringSt r = 0) ∧
        (∀ r ∈ rings, ∀ h p st w k j, (s.pot.ring r).line = some (h, p, st, w, k, j) → t.ringSt r = st % 8 ∧ t.ringHead r = h % 4096 ∧ (t.pot.ring r).next = h ∧
          (t.pot.ring r).completed = k) ∧ s.nisKeep t 248 ∧ s.only t [.regs, .ni, .kt, .st, .tr, .pot, .wakeQ]))

/-- R497, R499, R581, R582, R588, R589, R591: the join of die B goes on step by step, as a first join after start-up or as a rejoin; each step that fails ends it with its REASON. GO starts
it again where STATE allows. A domain that its reload has put in place is reported ON, and one whose reload fails is failed. -/
def Obligations.DieBJoin : Prop :=
  ∀ (s : State), let p := s.pot
    let failed := fun (t : State) (st reason : Nat) => t.joinState = st ∧ t.fld Off.GL_JOIN Fld.GL_JOIN.REASON = reason ∧ t.pot.joinStep = 0
    (s.pins.ready = true → s.domOn 64 = true →
      (∀ ok, p.joinStep = 0 → s.joinState = 0 → ∃ t, exec (.dieBJoin ok) s = .next t ∧ t.joinState = 1 ∧
        t.pot = { p with joinStep := 2, joinAt := s.refTime, rejoin := false, joinSince := s.refTime } ∧ s.regsKeep t [Off.GL_JOIN] ∧ s.only t [.regs, .pot]) ∧
      (∀ ok, p.joinStep = 1 → (∀ j : Fin 8, s.domIdle (56 + j) = true) → ∃ t, exec (.dieBJoin ok) s = .next t ∧ t.pot.joinStep = 2 ∧
        (∀ n : Fin 256, niOnB n = true → (t.niAt n).fenceHw = true) ∧ (∀ d : Fin 72, 24 ≤ d.val ∧ d.val < 48 ∨ 56 ≤ d.val ∧ d.val < 64 ∨ d.val = 70 → t.domAt d = Domain.reset) ∧
        (∀ h : Fin 16, 8 ≤ h.val → (t.sliceAt h).ent = (s.sliceAt h).ent ∧ (t.sliceAt h).taint = (s.sliceAt h).taint ∧ (t.sliceAt h).recs = [])) ∧
      (∀ ok, p.joinStep = 1 → (∃ j : Fin 8, s.domIdle (56 + j) = false) → p.joinAt + 1000000 ≤ s.refTime → ∃ t, exec (.dieBJoin ok) s = .next t ∧ failed t 6 5 ∧
        s.only t [.regs, .cd, .pot]) ∧
      (∀ ok, p.joinStep = 2 → ∃ t, exec (.dieBJoin ok) s = .next t ∧ t.pot = { p with joinStep := 3, joinAt := s.refTime } ∧
        (∀ (k : Fin 12) (e : Fin 2), t.fld (Off.LK_CTRL k e) Fld.LK_CTRL.ENABLE = 1) ∧ s.only t [.regs, .lk, .pot]) ∧
      (∀ ok, p.joinStep = 3 → (∀ k : Fin 12, s.seamFull k = true ∨ p.joinAt + 1000 * max 1 (s.fld (Off.LK_THRESH k 0) Fld.LK_THRESH.RETRAIN_LIMIT) ≤ s.refTime) →
        let up := (List.range 12).filter s.seamFull
        (up.length < 11 → ∃ t, exec (.dieBJoin ok) s = .next t ∧ failed t 6 1 ∧ s.only t [.regs, .cd, .pot]) ∧
        (11 ≤ up.length → ∃ t, exec (.dieBJoin ok) s = .next t ∧ t.pot.joinStep = 4 ∧
          (∀ k : Fin 12, bit (t.rd Off.GL_JOIN) (44 + k.val) = s.seamFull k) ∧
          (s.writable 248 = true → (∀ k : Fin 12, bit (t.rd (Off.NI_LOSS 248)) (48 + k.val) = !s.seamFull k) ∧ ∀ i : Fin 48, bit (t.rd (Off.NI_LOSS 248)) i.val = false) ∧
          (s.writable 248 = false → t.rd (Off.NI_LOSS 248) = s.rd (Off.NI_LOSS 248) ∧ t.routesGiven 248 (Off.NI_LOSS 248) = t.lostSeam) ∧ s.regsKeep t [Off.GL_JOIN, Off.NI_LOSS 248] ∧ s.nisKeep t 248 ∧ s.only t [.regs, .pend, .ni, .pot])) ∧
      (p.joinStep = 4 → (∃ t, exec (.dieBJoin false) s = .next t ∧ failed t 6 2 ∧ s.only t [.regs, .cd, .pot]) ∧
        (∃ t, exec (.dieBJoin true) s = .next t ∧ t.pot.joinStep = 5 ∧ t.pot.joinAt = s.refTime)) ∧
      (∀ ok, p.joinStep = 5 → p.rejoin = false → ∃ t, exec (.dieBJoin ok) s = .next t ∧ t.joinState = 2 ∧ t.kt = { s.kt with bHeld := false } ∧ t.pot.joinStep = 0 ∧
        (∀ n : Fin 256, if s.writable n = true then t.rd (Off.NI_LOSS n) = s.lostSeam ∧ t.pendOf (Off.NI_LOSS n) = s.lostSeam
          else t.rd (Off.NI_LOSS n) = s.rd (Off.NI_LOSS n) ∧ t.routesGiven n (Off.NI_LOSS n) = s.lostSeam) ∧
        t.fld Off.GL_LID_CTRL Fld.GL_LID_CTRL.POT_CLOSE = s.fld Off.GL_LID_CTRL Fld.GL_LID_CTRL.POT_CLOSE % 4 ∧ s.only t [.regs, .pend, .ni, .lk, .kt, .pot, .wakeQ]) ∧
      (∀ ok, p.joinStep = 5 → p.rejoin = true → ∃ t, exec (.dieBJoin ok) s = .next t ∧
        (∀ e ∈ p.poison, t.tells 248 e.2 6 [BitVec.ofNat 64 (0x14 * 2 ^ 56), BitVec.ofNat 64 e.1]) ∧ t.pot = { p with poisoning := p.poison.map (·.1), joinStep := 6, joinAt := s.refTime } ∧
        s.nisKeep t 248 ∧ s.only t [.ni, .pot]) ∧
      (∀ ok, p.joinStep = 6 → p.poisoning = [] → ∃ t, exec (.dieBJoin ok) s = .next t ∧ t.pot.joinStep = 7 ∧ (∀ h : Fin 16, 8 ≤ h.val → h.val ∈ t.pot.sweeps ∧
        t.tells 248 (sliceNi h) 6 [BitVec.ofNat 64 (0x11 * 2 ^ 56), 0xFF00]) ∧ s.nisKeep t 248 ∧ s.only t [.ni, .pot]) ∧
      (∀ ok, p.joinStep = 7 → p.sweeps = [] → ∃ t, exec (.dieBJoin ok) s = .next t ∧ t.joinState = 5 ∧ t.pot = { p with joinStep := 0 } ∧ s.regsKeep t [Off.GL_JOIN] ∧ s.only t [.regs, .pot])) ∧
    ((s.joinState ≠ 3 ∧ s.joinState ≠ 6 → exec .joinGoWrite s = .next s) ∧
      (s.pins.ready = true → s.domOn 64 = true → s.joinState = 3 ∨ s.joinState = 6 → p.joinStep = 0 →
        (s.kt.bHeld = true → ∃ t, exec .joinGoWrite s = .next t ∧ t.joinState = 1 ∧ t.fld Off.GL_JOIN Fld.GL_JOIN.REASON = 0 ∧
          t.pot = { p with joinSince := s.refTime, rejoin := false, joinStep := 2, joinAt := s.refTime } ∧ s.regsKeep t [Off.GL_JOIN] ∧ s.only t [.regs, .pot]) ∧
        (s.kt.bHeld = false → let busy := s.pot.sw.isSome || s.bankSt 0 == 3 || s.bankSt 1 == 3 || s.pot.load.isSome || s.st.phase != .idle
          let ovf := s.flag Off.GL_JOIN Fld.GL_JOIN.POISON_OVF
          let sweeping := p.sweeps.any (· < 8)
          (∀ reason, ovf = true ∧ reason = 3 ∨ ovf = false ∧ busy = true ∧ reason = 4 ∨ ovf = false ∧ busy = false ∧ sweeping = true ∧ reason = 6 → ∃ t, exec .joinGoWrite s = .next t ∧
            failed t 6 reason ∧ s.only t [.regs, .cd, .pot]) ∧
          (ovf = false → busy = false → sweeping = false → ∃ t, exec .joinGoWrite s = .next t ∧ t.joinState = 4 ∧ t.fld Off.GL_JOIN Fld.GL_JOIN.REASON = 0 ∧
            t.pot = { p with joinSince := s.refTime, rejoin := true, joinStep := 1, joinAt := s.refTime } ∧ s.only t [.regs, .cd, .pot])))) ∧
    (∀ d : Fin 72, let x := s.domAt d
      x.phase = .reload →
        (d.val ≠ 64 ∧ d.val ≠ 65 ∨ x.tries ≠ 0 → ∃ t, exec (.domainReloadDone d false) s = .next t ∧ (t.domAt d).st = .off ∧ (t.domAt d).failed = true ∧ (t.domAt d).phase = .steady ∧
          ∀ d', d' ≠ d.val → t.domAt d' = s.domAt d') ∧
        (d.val = 64 ∨ s.domOn 64 = true → 48 ≤ d.val ∨ s.domOn 66 = true ∧ s.reloadHeld = false → ∃ t, exec (.domainReloadDone d true) s = .next t ∧
          (t.domAt d).st = (if x.toCg = true then .cg else .on) ∧ (t.domAt d).phase = .steady ∧ (t.domAt d).failed = false ∧ ∀ d', d' ≠ d.val → t.domAt d' = s.domAt d'))

/-- R213, R583 to R590: where no seam link has had both halves in service for 1 µs, a partition is declared: die B is fenced, the losses are committed and the die-A slices sweep. A slice
that has swept every set answers SWEEP_DONE; a set in broadcast mode is tainted. A poisoning that cannot reach its memory is kept on the Pot's list, and its line is poisoned at the rejoin.
-/
def Obligations.Partition : Prop :=
  ∀ (s : State),
    (∀ u, s.seamDown = some u → s.inReset = false → u + 1000 ≤ s.refTime →
      (s.joinState = 2 → ∃ t, exec .seamLossDeclare s = .next t ∧ t.joinState = 3 ∧ t.rd Off.GL_PARTITION = BitVec.ofNat 64 s.time.now ∧ t.kt.dieBFenced = true ∧
        (∀ n : Fin 256, niOnB n = true → (t.niAt n).fenceHw = true) ∧ (∀ n : Fin 256, niOnB n = false → if s.writable n = true then t.rd (Off.NI_LOSS n) = s.rd (Off.NI_LOSS n) ||| bootLoss ∧ t.pendOf (Off.NI_LOSS n) = t.rd (Off.NI_LOSS n)
          else t.rd (Off.NI_LOSS n) = s.rd (Off.NI_LOSS n) ∧ t.routesGiven n (Off.NI_LOSS n) = s.routesGiven n (Off.NI_LOSS n) ||| bootLoss) ∧
        (∀ h : Fin 8, h.val ∈ t.pot.sweeps ∧ t.tells 248 (sliceNi h) 6 [BitVec.ofNat 64 (0x10 * 2 ^ 56), 0xFF00]) ∧
        s.only t [.regs, .pend, .rt, .ni, .port, .lk, .kt, .st, .cd, .pot, .seamDown, .wire, .owed, .used, .wakeQ]) ∧
      (s.joinState = 1 → 4 ≤ s.pot.joinStep → ∃ t, exec .seamLossDeclare s = .next t ∧ t.joinState = 6 ∧ t.fld Off.GL_JOIN Fld.GL_JOIN.REASON = 1 ∧ t.pot.joinStep = 0 ∧
        s.only t [.regs, .cd, .pot]) ∧
      (s.joinState = 5 ∨ s.joinState = 4 ∧ 4 ≤ s.pot.joinStep → ∃ t, exec .seamLossDeclare s = .next t ∧ t.joinState = 3 ∧ t.fld Off.GL_JOIN Fld.GL_JOIN.REASON = 7 ∧
        t.kt.dieBFenced = true ∧ t.pot.joinStep = 0 ∧ ∀ n : Fin 256, niOnB n = true → (t.niAt n).fenceHw = true)) ∧
    (∀ (h : Fin 16) cmd rejoin mop, (cmd = .partSweep h ∧ rejoin = false ∧ mop = 0x10 ∨ cmd = .rejoinSweep h ∧ rejoin = true ∧ mop = 0x11) →
      let x := s.sliceAt h
      let told := s.takeIn (sliceNi h) Vn.MGT (fun p => p.h.opcode.toNat == 6 && p.mop == mop)
      (s.domOn (48 + h) = false → 48 + h.val ∉ s.wakeQ → exec cmd s = .next { s with wakeQ := s.wakeQ ++ [48 + h.val] }) ∧
      (∀ w, s.domOn (48 + h) = true → told = none → x.sweep = some w → w.rejoin = rejoin → x.recs = [] →
        let ended := fun (t : State) (tainted : Nat) => (t.sliceAt h).sweep = none ∧ s.nisKeep t (sliceNi h) ∧ (∀ h' : Fin 16, h' ≠ h → t.sliceAt h' = s.sliceAt h') ∧
          t.tells (sliceNi h) 248 6 [BitVec.ofNat 64 (0x12 * 2 ^ 56),
            BitVec.ofNat 64 (min 65535 tainted * 2 ^ 32 + min 65535 w.poisoned * 2 ^ 16 + min 65535 w.freed)] ∧ s.only t [.ni, .slice]
        (w.pos = 16384 → ∃ t, exec cmd s = .next t ∧ ended t w.tainted ∧ (t.sliceAt h).taint = x.taint) ∧
        (w.pos = 16383 → x.bcast 16383 = true → ∃ t, exec cmd s = .next t ∧
          (rejoin = true → ended t w.tainted ∧ (t.sliceAt h).taint = x.taint) ∧
          (rejoin = false → KMap.get (fun _ => false) (t.sliceAt h).taint 16383 = true ∧ (t.sliceAt h).ent = x.ent ∧
            ended t (if KMap.get (fun _ => false) x.taint 16383 = true then w.tainted else w.tainted + 1))) ∧
        (w.pos = 16383 → x.bcast 16383 = false → (∀ k, k < 16 → entryUsed (x.slot 16383 k).1 = false) → ∃ t, exec cmd s = .next t ∧ ended t w.tainted ∧ (t.sliceAt h).ent = x.ent))) ∧
    (s.domOn 64 = true → let msg := fun (mop : Nat) => s.takeIn 248 Vn.MGT (fun p => p.h.opcode.toNat == 6 && p.mop == mop)
      (∀ p i s1, msg 0x12 = some (p, i, s1) → ∃ t, exec .sweepDone s = .next t ∧ t.pot = { s.pot with sweeps := s.pot.sweeps.filter (· != p.h.src.toNat - 232) } ∧ s.nisKeep t 248 ∧
        s.only t [.regs, .ni, .cd, .pot]) ∧
      (∀ p i s1, msg 0x13 = some (p, i, s1) → let line := bits (p.word 1) 0 46
        let listed := s.pot.poison.any (fun e => e.1 == line)
        (listed = false → s.pot.poison.length < 8192 → ∃ t, exec .deferPoison s = .next t ∧ t.pot = { s.pot with poison := s.pot.poison ++ [(line, bits (p.word 2) 0 8)] } ∧
          t.fld Off.GL_JOIN Fld.GL_JOIN.POISON_LIST = s.pot.poison.length + 1 ∧ t.joinState = s.joinState ∧ s.regsKeep t [Off.GL_JOIN] ∧ s.only t [.regs, .ni, .pot]) ∧
        (listed = false → 8192 ≤ s.pot.poison.length → ∃ t, exec .deferPoison s = .next t ∧ t.fld Off.GL_JOIN Fld.GL_JOIN.POISON_OVF = 1 ∧ t.joinState = s.joinState ∧
          s.regsKeep t [Off.GL_JOIN] ∧ s.only t [.regs, .ni]) ∧
        (listed = true → ∃ t, exec .deferPoison s = .next t ∧ s.nisKeep t 248 ∧ s.only t [.ni])) ∧
      (∀ p i s1, msg 0x15 = some (p, i, s1) → let line := bits (p.word 1) 0 46
        ∃ t, exec .poisonDone s = .next t ∧ t.pot = { s.pot with
            poisoning := s.pot.poisoning.filter (· != line)
            poison := if bits (p.word 2) 0 4 = Resp.OK then s.pot.poison.filter (fun e => e.1 != line) else s.pot.poison } ∧
          s.nisKeep t 248 ∧ s.regsKeep t [Off.GL_JOIN] ∧ s.only t [.regs, .ni, .pot])) ∧
    (∀ (n : Fin 256) p i s1, niType n = .mpa ∨ niType n = .cla → s.takeIn n Vn.MGT (fun p => p.h.opcode.toNat == 6 && p.mop == 0x14) = some (p, i, s1) → let line := bits (p.word 1) 0 46
      ((s.portAt n).up = false → ∃ t, exec (.poisonLine n) s = .next t ∧ s.nisKeep t n ∧ s.only t [.ni] ∧
        t.tells n 248 6 [BitVec.ofNat 64 (0x15 * 2 ^ 56), BitVec.ofNat 64 line, BitVec.ofNat 64 Resp.ERR_FENCED]) ∧
      ((s.portAt n).up = true → niType n = .mpa → ∃ t tag b, exec (.poisonLine n) s = .next t ∧ s.portSays t n [.memWr false tag line b] ∧ b.poison = true ∧ b.be = allBytes ∧
        s.nisKeep t n ∧ s.only t [.free, .ni, .port]) ∧
      ((s.portAt n).up = true → niType n = .cla → ∃ t, ∃ q : Pkt, exec (.poisonLine n) s = .next t ∧ t.wireAt (claTxKey n) = s.wireAt (claTxKey n) ++ q.flits ∧ q.h.vn.toNat = Vn.SNP ∧
        q.h.opcode.toNat = 5 ∧ q.h.line = line ∧ (∀ b ∈ q.lines, b.poison = true) ∧ s.nisKeep t n ∧ s.only t [.free, .ni, .port, .wire]))

/-- R530, R531, R535, R536: a port with a record gets the next slot, reserved; its commit puts the record in the slot, and a port that folded reports the loss once its buffer is empty. A
reservation of 1 µs is aborted and counted. While frozen, or on the way to it, records are dropped and counted; the C4 record commits after every other reservation and completes the freeze,
and so does a commanded FREEZE record. -/
def Obligations.CaddyRecords : Prop :=
  ∀ (s : State) (p : Fin 7), let x := s.cd.port p
    let others := fun (t : State) (k : Nat) => (∀ j, j ≠ k → t.cd.slot j = s.cd.slot j) ∧ ∀ q, q ≠ p.val → t.cd.port q = s.cd.port q
    let lossOf := fun (l : CdRec) => bits l.w1 60 4 = Cd.LOSS ∧ bits l.w1 45 1 = 1 ∧ bits l.w1 42 3 = p.val ∧ bits l.w3 48 16 = min 65535 x.folded
    let stored := fun (t : State) (k : Nat) (r : CdRec) => t.cd.slot k = ⟨.committed, r⟩ ∧ others t k ∧ t.cd.wptr = s.cd.wptr ∧
      t.cd.newest = if (s.cd.newest = 0x1FFF ∧ s.cd.held = 0) ∨ (k + 8192 - s.cd.newest) % 8192 ≤ 4096 then k else s.cd.newest
    (x.resv.isSome = true ∨ x.buf = [] → exec (.caddyReserve p) s = .next s) ∧
    (x.resv = none → x.buf ≠ [] → s.cd.frozen = false → (s.cd.freezing = true → p.val = if s.cd.byC4 then 1 else 4) → ∃ t, exec (.caddyReserve p) s = .next t ∧
      t.cd.slot s.cd.wptr = ⟨.reserved, ⟨0, 0, 0, 0⟩⟩ ∧ t.cd.port p = { x with resv := some (s.cd.wptr, s.refTime) } ∧ others t s.cd.wptr ∧ t.cd.wptr = (s.cd.wptr + 1) % 8192 ∧ t.cd.newest = s.cd.newest ∧
      s.only t [.cd]) ∧
    (x.resv = none → x.buf ≠ [] → s.cd.frozen = true ∨ (s.cd.freezing = true ∧ p.val ≠ if s.cd.byC4 then 1 else 4) → ∃ t, exec (.caddyReserve p) s = .next t ∧
      t.cd.port p = { x with buf := [] } ∧ t.cd.slots = s.cd.slots ∧ t.cd.wptr = s.cd.wptr ∧
      t.fld Off.CD_LOSS Fld.CD_LOSS.FROZEN_DROPS = satAdd (2 ^ Fld.CD_LOSS.FROZEN_DROPS.w - 1) (s.fld Off.CD_LOSS Fld.CD_LOSS.FROZEN_DROPS) x.buf.length ∧
      s.regsKeep t [Off.CD_LOSS] ∧ s.only t [.regs, .cd]) ∧
    (x.resv = none ∨ x.buf = [] → exec (.caddyRecordCommit p) s = .next s) ∧
    (∀ k w r rest, x.resv = some (k, w) → x.buf = r :: rest →
      (s.cd.freezing = false → rest ≠ [] ∨ x.folded = 0 → ∃ t, exec (.caddyRecordCommit p) s = .next t ∧ stored t k r ∧ t.cd.port p = { x with buf := rest, resv := none } ∧ s.only t [.cd]) ∧
      (s.cd.freezing = false → rest = [] → 0 < x.folded → ∃ t l, exec (.caddyRecordCommit p) s = .next t ∧ stored t k r ∧ t.cd.port p = ⟨[l], 0, none⟩ ∧
        lossOf l ∧ s.only t [.cd]) ∧
      (s.cd.freezing = true → s.cd.byC4 = true → p.val = 1 → (∃ q, q ≠ 1 ∧ (s.cd.port q).resv.isSome = true) → exec (.caddyRecordCommit p) s = .next s) ∧
      (s.cd.freezing = true → (s.cd.byC4 = true → p.val = 1 ∧ ∀ e ∈ s.cd.ports, e.1 ≠ 1 → e.2.resv = none) → (s.cd.byC4 = false → p.val = 4 ∧ rest = []) →
        ∃ t, exec (.caddyRecordCommit p) s = .next t ∧ stored t k r ∧ t.cd.frozen = true ∧ t.cd.freezing = false ∧ t.cd.byC4 = s.cd.byC4 ∧
          t.rd Off.CD_FREEZE_TIME = BitVec.ofNat 64 s.aonTime ∧ s.regsKeep t [Off.CD_FREEZE_TIME] ∧ s.only t [.regs, .cd, .tr]) ∧
      (w + 1000 ≤ s.refTime → ∃ t, exec (.caddyReserveTimeout p) s = .next t ∧ t.cd.slot k = ⟨.aborted, ⟨0, 0, 0, 0⟩⟩ ∧ others t k ∧
        (s.cd.freezing = true ∨ rest ≠ [] ∨ x.folded = 0 → t.cd.port p = { x with buf := rest, resv := none }) ∧
        (s.cd.freezing = false → rest = [] → 0 < x.folded → ∃ l, t.cd.port p = ⟨[l], 0, none⟩ ∧ lossOf l) ∧
        t.fld Off.CD_LOSS Fld.CD_LOSS.ABORTED = satInc (2 ^ Fld.CD_LOSS.ABORTED.w - 1) (s.fld Off.CD_LOSS Fld.CD_LOSS.ABORTED) ∧ s.regsKeep t [Off.CD_LOSS] ∧ s.only t [.regs, .cd]) ∧
      (s.refTime < w + 1000 → exec (.caddyReserveTimeout p) s = .next s))

/-- R543, R544: a taken branch or trap is an entry of the trace, after a resync entry where the trace resumes; wait for interrupt and EN at 0 write a stop entry, EN at 1 a resync entry.
R538, R539, R541, R542: a stamp without an open record is counted; another completes its record, or waits in it. A record that is complete, or has waited 2^TO_LOG2 ft, closes: its LEAF_ID
rests for 2^16 ft and the record goes to the line of NI_LEAF_DEST. NI_LEAF_CFG and NI_LEAF_DEST become active together. -/
def Obligations.TraceAndLeaf : Prop :=
  (∀ (s : State), let at' := fun (t : State) (k : Nat) => KMap.get (fun _ => (0 : W64)) t.tr.buf k
     let entry := fun (t : State) (ty why : Nat) => bits (at' t s.tr.next) 62 2 = ty ∧ bits (at' t s.tr.next) 58 4 = why ∧ bits (at' t s.tr.next) 0 58 = s.aonTime % 2 ^ 58
     let one := fun t : State => t.tr.next = (s.tr.next + 1) % 512 ∧ ∀ k, k ≠ s.tr.next → at' t k = at' s k
     let en := fun t : State => t.fld Off.PT_TRACE_CTRL Fld.PT_TRACE_CTRL.EN
     let stays := s.fld Off.PT_TRACE_CTRL Fld.PT_TRACE_CTRL.FOLLOW = 1 ∧ s.cd.frozen = true
     (∀ (trap : Bool) (src dst : BitVec 21) (cycles : Nat), let is := fun e : W64 => bits e 62 2 = b2n trap ∧ bits e 42 20 = bits src 1 20 ∧ bits e 22 20 = bits dst 1 20 ∧ bits e 0 22 = min (2 ^ 22 - 1) cycles
       (s.traceOn = false ∨ s.domOn 64 = false → exec (.potBranch trap src dst cycles) s = .next s) ∧
       (s.traceOn = true → s.domOn 64 = true → s.tr.resync = none → s.tr.stopped = false → ∃ t, exec (.potBranch trap src dst cycles) s = .next t ∧ is (at' t s.tr.next) ∧ one t ∧
         t.tr.stopped = false ∧ s.only t [.tr]) ∧
       (∀ why, s.traceOn = true → s.domOn 64 = true → why < 16 → s.tr.resync = some why ∨ (s.tr.resync = none ∧ s.tr.stopped = true ∧ why = 1) →
         ∃ t, exec (.potBranch trap src dst cycles) s = .next t ∧ entry t 2 why ∧ is (at' t ((s.tr.next + 1) % 512)) ∧ t.tr.next = (s.tr.next + 2) % 512 ∧ t.tr.stopped = false ∧ t.tr.resync = none ∧
           (∀ k, k ≠ s.tr.next → k ≠ (s.tr.next + 1) % 512 → at' t k = at' s k) ∧ s.only t [.tr])) ∧
     (s.traceOn = false ∨ s.domOn 64 = false ∨ s.tr.stopped = true → exec .potWaitForInterrupt s = .next s) ∧
     (s.traceOn = true → s.domOn 64 = true → s.tr.stopped = false → ∃ t, exec .potWaitForInterrupt s = .next t ∧ entry t 3 0 ∧ one t ∧ t.tr.stopped = true ∧ s.only t [.tr]) ∧
     (en s = 0 → ¬stays → ∃ t, exec (.traceEnWrite true) s = .next t ∧ en t = 1 ∧ entry t 2 0 ∧ one t ∧ t.tr.stopped = false ∧ t.tr.resync = none ∧
       s.regsKeep t [Off.PT_TRACE_CTRL] ∧ s.only t [.regs, .tr]) ∧
     (en s = 0 → stays → ∃ t, exec (.traceEnWrite true) s = .next t ∧ en t = 1 ∧ t.tr = { s.tr with resync := some 0 } ∧ s.regsKeep t [Off.PT_TRACE_CTRL] ∧ s.only t [.regs, .tr]) ∧
     (en s = 1 → s.tr.stopped = false → ∃ t, exec (.traceEnWrite false) s = .next t ∧ en t = 0 ∧ entry t 3 3 ∧ one t ∧ t.tr.stopped = true ∧ s.regsKeep t [Off.PT_TRACE_CTRL] ∧ s.only t [.regs, .tr]) ∧
     (∀ on, on = true ∧ en s = 1 ∨ on = false ∧ (en s = 0 ∨ s.tr.stopped = true) → ∃ t, exec (.traceEnWrite on) s = .next t ∧ en t = b2n on ∧ s.onlyRegs t [Off.PT_TRACE_CTRL])) ∧
  (∀ (s : State) (n : Fin 256), let u := s.niAt n
     let cnt := fun (t : State) (f : Fld) => t.fld (Off.NI_LEAF_CNT n) f
     let closes := fun (t : State) (k : Nat) (r : LeafRec) (inc : Bool) => let q := s.leafReq n k r inc
       (t.niAt n).leaf.recAt k = none ∧ KMap.get (fun _ => 0) (t.niAt n).leaf.quar k = s.niTime n + 2 ^ 16 + 1 ∧
       (∀ j, j ≠ k → (t.niAt n).leaf.recAt j = u.leaf.recAt j ∧ KMap.get (fun _ => 0) (t.niAt n).leaf.quar j = KMap.get (fun _ => 0) u.leaf.quar j) ∧
       q.vn = Vn.IOP ∧ q.opcode = 4 ∧ q.agent = 0xFFF ∧ q.priv = true ∧ q.origin = true ∧ q.line = s.fld (Off.NI_LEAF_DEST n) Fld.NI_LEAF_DEST.LINE ∧ lineWord q.pl 1 = BitVec.ofNat 64 r.admitted ∧
       (∀ dest, s.passesTo n q dest → s.waitsFor t n q dest) ∧ s.nisKeep t n ∧ s.only t [.regs, .tabBad, .ni, .wakeQ]
     (u.leaf.arrived = [] → exec (.leafStamp n) s = .next s) ∧
     (∀ p rest, u.leaf.arrived = p :: rest → let k := bits (p.word 0) 56 6
       let delivery := bits (p.word 0) 62 2 = 2
       (u.leaf.recAt k = none → ∃ t, exec (.leafStamp n) s = .next t ∧ t.niAt n = { u with leaf := { u.leaf with arrived := rest } } ∧ s.nisKeep t n ∧
         cnt t Fld.NI_LEAF_CNT.STAMP_DROPS = satInc (2 ^ Fld.NI_LEAF_CNT.STAMP_DROPS.w - 1) (cnt s Fld.NI_LEAF_CNT.STAMP_DROPS) ∧ s.regsKeep t [Off.NI_LEAF_CNT n] ∧ s.only t [.regs, .ni]) ∧
       (∀ r, u.leaf.recAt k = some r →
         (delivery → r.arrived < r.expect → ∃ t, exec (.leafStamp n) s = .next t ∧ (t.niAt n).leaf.recAt k = some { r with deliver := some (p.word 1).toNat } ∧
           (t.niAt n).leaf.arrived = rest ∧ s.nisKeep t n ∧ s.only t [.ni]) ∧
         (¬delivery → r.deliver = none ∨ r.arrived + 1 < r.expect → ∃ t, exec (.leafStamp n) s = .next t ∧
           (t.niAt n).leaf.recAt k = some { r with arrived := r.arrived + 1, stamps := if r.arrived < 29 then r.stamps ++ [p.word 1] else r.stamps } ∧
           (t.niAt n).leaf.arrived = rest ∧ s.nisKeep t n ∧ s.only t [.ni]) ∧
         (delivery → r.expect ≤ r.arrived → ∃ t, exec (.leafStamp n) s = .next t ∧ closes t k { r with deliver := some (p.word 1).toNat } false) ∧
         (¬delivery → r.deliver.isSome = true → r.expect ≤ r.arrived + 1 → ∃ t, exec (.leafStamp n) s = .next t ∧
           closes t k { r with arrived := r.arrived + 1, stamps := if r.arrived < 29 then r.stamps ++ [p.word 1] else r.stamps } false))) ∧
     (∀ (k : Fin 64) r, u.leaf.recAt k = some r → let due := r.admitted + 2 ^ leafTo (s.rd (Off.NI_LEAF_CFG n)) ≤ s.niTime n
       (¬(s.timeRuns n = true ∧ due) → exec (.leafRecordTimeout n k) s = .next s) ∧
       (s.timeRuns n = true → due → ∃ t, exec (.leafRecordTimeout n k) s = .next t ∧ closes t k r true ∧
         cnt t Fld.NI_LEAF_CNT.INCOMPLETE = satInc (2 ^ Fld.NI_LEAF_CNT.INCOMPLETE.w - 1) (cnt s Fld.NI_LEAF_CNT.INCOMPLETE))) ∧
     (∀ k : Fin 64, let q := KMap.get (fun _ => 0) u.leaf.quar k
       (q ≠ 0 → q ≤ s.niTime n + 1 → ∃ t, exec (.leafIdRelease n k) s = .next t ∧ t.niAt n = { u with leaf := (t.niAt n).leaf } ∧ KMap.get (fun _ => 0) (t.niAt n).leaf.quar k = 0 ∧
         (t.niAt n).leaf.recs = u.leaf.recs ∧ s.nisKeep t n ∧ s.only t [.ni]) ∧
       (q = 0 ∨ s.niTime n + 1 < q → exec (.leafIdRelease n k) s = .next s)) ∧
     (∃ t, exec (.leafCommit n) s = .next t ∧ (∀ o, o ∈ [Off.NI_LEAF_CFG n, Off.NI_LEAF_DEST n] → t.rd o = s.pendOf o ∧ t.pendOf o = s.pendOf o ∧ KMap.get (fun _ => none) t.pend o = none) ∧
       s.regsKeep t [Off.NI_LEAF_CFG n, Off.NI_LEAF_DEST n] ∧ s.only t [.regs, .pend]))

/-- R558, R559, R564, R565: a SNAP message gives T and the number to the units of its tile, which copy at once with LATE where T is past; NI 251 gives them to the Kettle and NI 253 starts a
store bank. At local time T a unit copies its counts into its shadow bank and pushes the page to the collector. -/
def Obligations.SnapshotUnits : Prop :=
  ∀ (s : State),
    let page := fun (t : State) (u : PmUnit) (num T late : Nat) => let h := t.rd u.hdr
      (∀ k, k < u.count → t.rd (u.shadow + 8 * k) = s.rd (u.base + 8 * k)) ∧ bits h 32 32 = num ∧ bits h 30 2 = 1 ∧ bits h 29 1 = late ∧ bits h 27 2 = (s.effConf u.island).code ∧
      t.rd (u.hdr + 8) = BitVec.ofNat 64 T ∧ t.rd (u.hdr + 16) = BitVec.ofNat 64 (s.localFt u.island)
    (∀ (n : Fin 256) p i s1, s.takeIn n Vn.MGT (fun p => p.h.opcode.toNat == 2) = some (p, i, s1) → let num := bits (p.word 1) 0 32
      let T := (p.word 0).toNat
      ∃ t, exec (.snap n) s = .next t ∧ (∀ m : Nat, (t.niAt m).inbox = (s1.niAt m).inbox) ∧
        (∀ u : PmUnit, u = .router (niTile n) ∨ (∃ m ∈ tileNis (niTile n), u = .ni m) ∨ (niType n = .hsl ∧ ((s.domAt (48 + (n.val - 232))).st = .on ∨ (s.domAt (48 + (n.val - 232))).st = .cg) ∧ u = .slice (n.val - 232)) →
          (s.localFt u.island ≤ T → t.unitSnap u = some (num, T)) ∧ (T < s.localFt u.island → t.unitSnap u = none ∧ page t u num T 1)) ∧
        (n.val = 251 → t.kt = { s.kt with snap := some (num, T) } ∧ t.pm = s.pm) ∧
        (n.val = 253 → t.kt = s.kt ∧ t.pm.fill = some (num, T) ∧ t.pm.shown = s.pm.shown ∧ (∀ b, s.pm.shown = some b → t.pm.filling = 1 - b) ∧
          (s.pm.latchedFor ≠ num → t.pm.settled = [] ∧ ∀ k, k < 464 → t.pm.page t.pm.filling k = none) ∧
          (s.pm.latchedFor = num → ∀ k, k < 464 → let st := KMap.get (fun _ => 0) s.pm.latched (pageUnit k).domain
            if st ≤ 1 then k ∉ t.pm.settled ∧ t.pm.page t.pm.filling k = none
            else k ∈ t.pm.settled ∧ ∃ q, t.pm.page t.pm.filling k = some q ∧ bits q.hdr 32 32 = num ∧ q.t = BitVec.ofNat 64 T ∧
              (∀ r, st = 2 → s.pm.image k = some r → bits q.hdr 30 2 = 2 ∧ q.cnts = r.cnts) ∧
              (st ≠ 2 ∨ s.pm.image k = none → bits q.hdr 30 2 = 3 ∧ q.cnts = List.replicate (pageUnit k).count 0)) ∧
          (∀ b k, b ≠ t.pm.filling → k < 464 → t.pm.page b k = s.pm.page b k) ∧ t.pm.images = s.pm.images) ∧
        (n.val ≠ 251 → n.val ≠ 253 → t.kt = s.kt ∧ t.pm = s.pm) ∧ s.only t [.regs, .rt, .ni, .slice, .kt, .pm, .wakeQ]) ∧
    (∀ n : Fin 256, s.takeIn n Vn.MGT (fun p => p.h.opcode.toNat == 2) = none → exec (.snap n) s = .next s) ∧
    (∀ c : CopyUnit, let u := c.unit
      let st := (s.domAt u.domain).st
      (∀ num T, s.unitSnap u = some (num, T) → num < 2 ^ 32 → st = .on ∨ st = .cg → T ≤ s.localFt u.island → (s.islAt u.island).held = false → ∃ t, exec (.snapshotCopy c) s = .next t ∧
        t.unitSnap u = none ∧ page t u num T 0 ∧ (∀ o, (∀ k, k < u.count → o ≠ u.shadow + 8 * k) → o ≠ u.hdr → o ≠ u.hdr + 8 → o ≠ u.hdr + 16 → t.rd o = s.rd o) ∧
        (∃ l, (t.niAt u.owner).answers = (s.niAt u.owner).answers ++ l ∧ (l.flatMap (fun a => a.p.lines)).map (·.data) = (s.pageOf u num T 1 false).lines ∧
          ∀ a ∈ l, a.dest = 253 ∧ a.p.h.vn.toNat = Vn.IOP ∧ a.p.h.opcode.toNat = 1 ∧ a.p.h.agent.toNat = 0xFFF ∧ a.p.h.priv = true ∧ a.p.h.origin = true) ∧
        (st = .cg → u.domain ∈ t.wakeQ) ∧ (s.domOn (niIsland u.owner) = false → niIsland u.owner ∈ t.wakeQ) ∧
        (∀ d, d ∈ t.wakeQ → d ∈ s.wakeQ ∨ (st = .cg ∧ d = u.domain) ∨ (s.domOn (niIsland u.owner) = false ∧ d = niIsland u.owner)) ∧ s.nisKeep t u.owner ∧ s.only t [.regs, .rt, .ni, .slice, .wakeQ]) ∧
      (s.unitSnap u = none ∨ (∀ num T, s.unitSnap u = some (num, T) → s.localFt u.island < T) → exec (.snapshotCopy c) s = .next s))

/-- R561, R563, R565 to R567: the Kettle latches every domain's state at keeper time T, which settles the pages of domains below CG from their images or as INVALID. A push fills its page or
its image, or is discarded and counted; pages unsettled 65,536 ft after T become INVALID, and a complete bank is shown. Reads of the aperture are answered from it, where PM_USER lets them.
-/
def Obligations.CounterCollector : Prop :=
  ∀ (s : State), let c := s.pm
    let filled := fun (t : State) (i : Nat) => t.pm.page s.pm.filling i
    let zeros := fun (i : Nat) => List.replicate (pageUnit i).count (0 : W64)
    let invalid := fun (t : State) (i num T : Nat) => i ∈ t.pm.settled ∧ ∃ q, filled t i = some q ∧ bits q.hdr 32 32 = num % 2 ^ 32 ∧ bits q.hdr 30 2 = 3 ∧ q.t = BitVec.ofNat 64 T ∧ q.cnts = zeros i
    let into := fun (t : State) (i : Nat) => KMap.get (fun _ => 0) t.pm.into i
    (∀ num T, s.kt.snap = some (num, T) →
      (s.time.now < T ∨ c.latchedFor = num → exec .kettleSnapshotLatch s = .next s) ∧
      (T ≤ s.time.now → c.latchedFor ≠ num → ∃ t, exec .kettleSnapshotLatch s = .next t ∧ t.pm.latchedFor = num ∧ s.only t [.pm] ∧ t.pm.images = c.images ∧
        (∀ d : Fin 72, let x := s.domAt d
          let gone := x.failed = true ∨ (s.kt.dieBFenced = true ∧ domainOnB d = true)
          KMap.get (fun _ => 0) t.pm.latched d = if gone then 3 else if x.phase = .enter then x.target.code else x.st.code) ∧
        (c.fill ≠ some (num, T) → t.pm.banks = c.banks ∧ t.pm.settled = c.settled) ∧
        (c.fill = some (num, T) → ∀ i, i < 464 → let st := KMap.get (fun _ => 0) t.pm.latched (pageUnit i).domain
          (i ∈ c.settled ∨ st ≤ 1 → filled t i = filled s i ∧ (i ∈ t.pm.settled ↔ i ∈ c.settled)) ∧
          (∀ q, i ∉ c.settled → st = 2 → c.image i = some q → i ∈ t.pm.settled ∧ ∃ q', filled t i = some q' ∧ q'.cnts = q.cnts ∧ q'.t = BitVec.ofNat 64 T ∧ q'.at' = q.at' ∧
            bits q'.hdr 30 2 = 2 ∧ bits q'.hdr 32 32 = num % 2 ^ 32) ∧
          (i ∉ c.settled → 3 ≤ st ∨ (st = 2 ∧ c.image i = none) → invalid t i num T)))) ∧
    (s.kt.snap = none → exec .kettleSnapshotLatch s = .next s) ∧
    (∀ p i s1, s.takeIn 253 Vn.IOP (fun _ => s.domOn 67) = some (p, i, s1) →
      (p.isPush = false → exec .counterPush s = .next s1) ∧
      (∀ b g o, p.isPush = true → p.lines = [b] → pageAt (p.h.line * 64 % 0x80000) = some (g, o) → (pageUnit g).owner = p.h.src.toNat → let last := (pageUnit g).count / 8
        let here := bits (lineWord b.data 0) 30 2 = 2
        let mine := c.fill.map (·.1) = some (bits (lineWord b.data 0) 32 32) ∧ g ∉ c.settled
        let head : PmPage := ⟨lineWord b.data 0, lineWord b.data 1, lineWord b.data 2, zeros g⟩
        let puts := fun (q q' : PmPage) (k : Nat) => q'.hdr = q.hdr ∧ q'.t = q.t ∧ q'.at' = q.at' ∧ (∀ j, j < 8 → q'.cnts.getD (8 * (k - 1) + j) 0 = lineWord b.data j) ∧
          ∀ j, j < 8 * (k - 1) ∨ 8 * k ≤ j → q'.cnts.getD j 0 = q.cnts.getD j 0
        let k := o / 64
        let run := fun (r : State → Prop) => ∃ t, exec .counterPush s = .next t ∧ (t.niAt 253).inbox = (s1.niAt 253).inbox ∧ s.only t [.regs, .ni, .pm] ∧ r t
        (k = 0 → here → run (fun t => t.pm.image g = some head ∧ into t g = 2 ∧ t.pm.banks = c.banks ∧ t.pm.settled = c.settled)) ∧
        (k = 0 → ¬here → mine → run (fun t => filled t g = some head ∧ into t g = 1 ∧ t.pm.images = c.images ∧ t.pm.settled = c.settled)) ∧
        (k = 0 → ¬here → ¬mine → run (fun t => into t g = 0 ∧ t.pm.banks = c.banks ∧ t.pm.images = c.images ∧ t.pm.settled = c.settled ∧
          t.fld Off.PM_COL_ERR Fld.PM_COL_ERR.DISCARDED = satInc (2 ^ Fld.PM_COL_ERR.DISCARDED.w - 1) (s.fld Off.PM_COL_ERR Fld.PM_COL_ERR.DISCARDED) ∧ s.regsKeep t [Off.PM_COL_ERR])) ∧
        (∀ q, 0 < k → k ≤ last → into s g = 2 → c.image g = some q → q.cnts.length = (pageUnit g).count → run (fun t => t.pm.banks = c.banks ∧ t.pm.settled = c.settled ∧
          ∃ q', t.pm.image g = some q' ∧ puts q q' k)) ∧
        (∀ q, 0 < k → k ≤ last → into s g = 1 → filled s g = some q → q.cnts.length = (pageUnit g).count → run (fun t => t.pm.images = c.images ∧
          (if k = last then g ∈ t.pm.settled else t.pm.settled = c.settled) ∧ ∃ q', filled t g = some q' ∧ puts q q' k)) ∧
        (0 < k → k ≤ last → into s g = 0 → run (fun t => t.pm.banks = c.banks ∧ t.pm.images = c.images ∧ t.pm.settled = c.settled ∧ s.regsKeep t [])))) ∧
    (∀ num T, c.fill = some (num, T) → let open' := (List.range 464).filter (fun i => !c.settled.contains i)
      (s.time.now < T + 65536 → exec .pageSettleTimeout s = .next s) ∧
      (T + 65536 ≤ s.time.now → ∃ t, exec .pageSettleTimeout s = .next t ∧ (∀ i, i < 464 → (i ∈ c.settled → filled t i = filled s i) ∧ (i ∉ c.settled → invalid t i num T)) ∧
        t.fld Off.PM_COL_ERR Fld.PM_COL_ERR.TIMED_OUT = satAdd (2 ^ Fld.PM_COL_ERR.TIMED_OUT.w - 1) (s.fld Off.PM_COL_ERR Fld.PM_COL_ERR.TIMED_OUT) open'.length ∧
        s.regsKeep t [Off.PM_COL_ERR] ∧ s.only t [.regs, .pm]) ∧
      (c.settled.length = 464 → s.domOn 67 = true → ∃ t, exec .collectorBankSwitch s = .next t ∧
        t.pm = { c with shown := some c.filling, shownT := T, shownNum := num, fill := none, complete := true } ∧
        t.kt = (if s.kt.snap.map (·.1) = some num then { s.kt with snap := none } else s.kt) ∧ s.only t [.kt, .pm]) ∧
      (c.settled.length ≠ 464 → exec .collectorBankSwitch s = .next s)) ∧
    (∀ p i s1, s.takeIn 253 Vn.ION (fun _ => s.domOn 67) = some (p, i, s1) →
      let sends := fun (r : State → Prop) => ∃ t, exec .counterApertureRead s = .next t ∧ (t.niAt 253).inbox = (s1.niAt 253).inbox ∧ r t ∧ s.nisKeep t 253 ∧ s.only t [.regs, .ni]
      let user := ∀ g ∈ p.touched, bit (s.rd (Off.PM_USER (g / 64))) (g % 64) = true
      (p.h.opcode.toNat ≠ 1 → sends (fun t => t.answers 253 p.h.src.toNat Vn.IOC 1 Resp.ERR_UNSUPPORTED)) ∧
      (p.h.opcode.toNat = 1 → p.h.priv = false → ¬user → sends (fun t => t.answers 253 p.h.src.toNat Vn.IOC 1 Resp.ERR_ACCESS ∧
        t.fld Off.PM_COL_ERR Fld.PM_COL_ERR.DENIED = satInc (2 ^ Fld.PM_COL_ERR.DENIED.w - 1) (s.fld Off.PM_COL_ERR Fld.PM_COL_ERR.DENIED))) ∧
      (p.h.opcode.toNat = 1 → p.h.priv = true ∨ user → sends (fun t => t.answers 253 p.h.src.toNat Vn.IOC 2 Resp.OK ∧
        ∃ a ∈ (t.niAt 253).answers, a.p.lines.map (·.data) = (p.regLines (fun o => s.apertureWord (o % 0x80000))).map (·.data) ∧ a.p.h.tag = p.h.tag ∧ s.regsKeep t []))) ∧
    (∀ b i q j, c.shown = some b → c.page b i = some q → i < 192 → j < 64 → s.apertureWord (0x400 * i + 0x40 + 8 * j) = q.cnts.getD j 0 ∧ s.apertureWord (0x400 * i) = q.hdr) ∧
    (∀ (u : CopyUnit) (m : BitVec 4), let g := u.unit.cntPage
      let group := fun k => [g.fmatch k, g.fbase k, g.flimit k]
      ∃ t, exec (.pmFltCommit u m) s = .next t ∧ (∀ k, k < 4 → m.getLsbD k = true → ∀ o ∈ group k, t.rd o = s.pendOf o ∧ KMap.get (fun _ => none) t.pend o = none) ∧
        (∀ o, (∀ k, k < 4 → m.getLsbD k = true → o ∉ group k) → t.rd o = s.rd o ∧ t.pendOf o = s.pendOf o) ∧ s.only t [.regs, .pend]) ∧
    (∀ (o : BitVec 23) debug, let a := 8 * o.toNat
      let held := fun (t : State) (dbg : Bool) (k : Nat) => KMap.get (fun _ => 0) (if dbg then t.dbgLatch else t.latch) k
      ∃ t, exec (.counterLatchRead o debug) s = .next t ∧ (∀ dbg k, held t dbg k = if hasLatch a = true ∧ dbg = debug ∧ k = a then s.readReg a else held s dbg k) ∧ s.only t [.latch, .dbgLatch])

/-- R504, R508, R510 to R519: a fault that reaches the Saucer is queued, folded into the counts of its SRC, displaces another or is merged; C4 takes effect at once. The queue's head is
recorded: the next SEQ, the class by R513 and R515, SC_LAST, an open entry, the Lid of its band at C3, and a record in the Caddy. What was folded follows as FAULT_LOSS once the queue is
empty. -/
def Obligations.SaucerFaults : Prop :=
  ∀ (s : State), let c := s.sc
    let sat := fun (t : State) (o : Nat) (f : Fld) => t.fld o f = satInc (2 ^ f.w - 1) (s.fld o f)
    let folds := fun (t : State) (src cls : Nat) => let l := c.lostOf src
      t.sc.lostOf src = (if cls = 2 then { l with c2 := l.c2 + 1 } else if cls = 1 then { l with c1 := l.c1 + 1 } else { l with c0 := l.c0 + 1 }) ∧ (∀ x, x ≠ src → t.sc.lostOf x = c.lostOf x) ∧
        sat t Off.SC_LOSS (if cls = 2 then Fld.SC_LOSS.C2 else if cls = 1 then Fld.SC_LOSS.C1 else Fld.SC_LOSS.C0)
    let fatal := fun (t : State) => t.pins = { s.pins with fatal := true } ∧ t.fld Off.GL_LID_CTRL Fld.GL_LID_CTRL.SAUCER = 15 ∧ t.fld Off.SC_STATUS Fld.SC_STATUS.C4 = 1 ∧
      (s.cd.frozen = false → t.cd.freezing = true ∧ t.cd.byC4 = true)
    let opened := fun (t : State) (cls src kind seq : Nat) (esc : Bool) =>
      (∀ p, c.placeFor cls esc = some p → cls ≠ 0 → ¬(cls = 1 ∧ s.fld Off.SC_CTRL Fld.SC_CTRL.C1_AUTO = 1) → t.sc.openAt p = some ⟨p, cls, src, kind, seq⟩ ∧ ∀ p', p' ≠ p → t.sc.openAt p' = c.openAt p') ∧
      (c.placeFor cls esc = none → cls ≠ 0 → t.sc.opens = c.opens ∧ sat t Off.SC_STATUS Fld.SC_STATUS.OPEN_FULL) ∧
      (cls = 0 ∨ (cls = 1 ∧ s.fld Off.SC_CTRL Fld.SC_CTRL.C1_AUTO = 1) → t.sc.opens = c.opens)
    (s.domOn 65 = false ∨ s.takeIn 249 Vn.MGT (fun p => p.h.opcode.toNat == 1) = none → exec .faultArrive s = .next s) ∧
    (∀ p i s1, s.domOn 65 = true → s.takeIn 249 Vn.MGT (fun p => p.h.opcode.toNat == 1) = some (p, i, s1) → let w := p.word 0
      let cls := bits w 41 3
      let src := bits w 56 8
      let q := c.queue
      let lows := (List.range q.length).filter (fun k => (q.map (fun e => bits e.w 41 3)).getD k 3 ≤ 2)
      let listed := kindListed (bits w 44 8) = true ∧ cls ≤ 4
      let news := listed ∧ bits w 44 8 ∈ pathKinds.map FaultKind.code
      let run := fun (r : State → Prop) => ∃ t, exec .faultArrive s = .next t ∧ (t.niAt 249).inbox = (s1.niAt 249).inbox ∧ (¬news → s.nisKeep t 249) ∧ r t
      let kept := fun (t : State) (os : List Nat) (ps : List Part) => ¬news → s.regsKeep t os ∧ s.only t ps
      let joins := fun (x : List ScMsg) (m : ScMsg) => x ++ [m]
      let m : ScMsg := ⟨w, p.h.word1, bits (p.word 1) 0 8, s.niTime 249, false⟩
      (kindListed (bits w 44 8) = true → cls ≤ 2 → q.length < 120 → run (fun t => t.sc = { c with queue := joins q m } ∧ kept t [] [.ni, .sc])) ∧
      (kindListed (bits w 44 8) = true → cls ≤ 2 → 120 ≤ q.length → run (fun t => t.sc.queue = q ∧ folds t src cls ∧ kept t [Off.SC_LOSS] [.regs, .ni, .sc])) ∧
      (kindListed (bits w 44 8) = true → cls = 3 → q.length < 128 → run (fun t => t.sc = { c with queue := joins q m } ∧ kept t [] [.ni, .sc])) ∧
      (∀ k e, kindListed (bits w 44 8) = true → cls = 3 → 128 ≤ q.length → lows.getLast? = some k → q[k]? = some e → run (fun t => t.sc.queue = joins (q.eraseIdx k) m ∧
        (bits e.w 44 8 ≠ FaultKind.FAULT_LOSS.code → folds t (bits e.w 56 8) (bits e.w 41 3)) ∧
        (bits e.w 44 8 = FaultKind.FAULT_LOSS.code → let l := c.lostOf (bits e.w 56 8)
          t.sc.lostOf (bits e.w 56 8) = ⟨l.c2 + bits e.w 26 13, l.c1 + bits e.w 13 13, l.c0 + bits e.w 0 13⟩) ∧ kept t [Off.SC_LOSS] [.regs, .ni, .sc])) ∧
      (∀ k e, kindListed (bits w 44 8) = true → cls = 3 → 128 ≤ q.length → lows = [] → q.findIdx? (fun e => bits e.w 44 20 == bits w 44 20) = some k → q[k]? = some e →
        run (fun t => t.sc = { c with queue := q.set k { e with rep := e.rep + 1 } } ∧ sat t Off.SC_LOSS Fld.SC_LOSS.MERGED ∧ kept t [Off.SC_LOSS] [.regs, .ni, .sc])) ∧
      (kindListed (bits w 44 8) = true → cls = 3 → 128 ≤ q.length → lows = [] → (∀ e ∈ q, bits e.w 44 20 ≠ bits w 44 20) → s.fld Off.SC_CTRL Fld.SC_CTRL.HRING_EN = 0 →
        run (fun t => fatal t ∧ t.sc.queue = q ∧ t.sc.seq = seqNext (seqNext c.seq) ∧ bits (t.rd (Off.SC_LAST 4)) 44 8 = FaultKind.SC_FLOOD.code ∧ (¬news → s.only t [.pins, .regs, .ni, .cd, .sc]))) ∧
      (kindListed (bits w 44 8) = true → cls = 4 → s.fld Off.SC_CTRL Fld.SC_CTRL.HRING_EN = 0 →
        run (fun t => fatal t ∧ t.sc.queue = q ∧ t.sc.seq = seqNext c.seq ∧ t.rd (Off.SC_LAST 4) = w ∧ opened t 4 src (bits w 44 8) c.seq false ∧
          (s.cd.frozen = false → (s.cd.port 1).buf = [] → bits w 44 8 ≠ FaultKind.FAULT_LOSS.code → ∃ r, (t.cd.port 1).buf = [r] ∧ bits r.w1 60 4 = Cd.FAULT ∧ r.w2 = w) ∧
          kept t [Off.GL_LID_CTRL, Off.SC_STATUS, Off.SC_LAST 4, Off.CD_LOSS] [.pins, .regs, .ni, .cd, .sc])) ∧
      (kindListed (bits w 44 8) = false ∨ 4 < cls → q.length < 120 → run (fun t => s.only t [.ni, .sc] ∧ ∃ v : ScMsg, t.sc = { c with queue := joins q v } ∧
        bits v.w 44 8 = FaultKind.MSG_RESERVED.code ∧ bits v.w 56 8 = p.h.src.toNat ∧ bits v.w 0 39 = bits w 25 39)) ∧
      (listed → run (fun t => ∀ n : Fin 256, let d := bits w 8 31
        let lk := bits w 0 8
        let loss := fun x : State => x.routesGiven n (Off.NI_LOSS n)
        let down := fun x : State => x.routesGiven n (Off.NI_PEA_DOWN n)
        let one := fun k : Nat => BitVec.ofNat 64 (2 ^ k)
        let is := fun k : FaultKind => bits w 44 8 = k.code
        (is .KT_DOMAIN_FAIL → d < 48 → loss t = loss s ||| one d) ∧ (is .KT_DOMAIN_FAIL → d = 69 ∨ d = 70 → loss t = loss s ||| seamLoss) ∧
        (is .LINK_RETRAIN ∨ is .LINK_LOST → lk < 12 → loss t = loss s ||| one (48 + lk)) ∧
        (is .LINK_RESUMED ∨ is .LINK_WIDTH → lk < 12 → loss t = if s.seamFull lk = true then loss s &&& ~~~(one (48 + lk)) else loss s ||| one (48 + lk)) ∧
        (168 ≤ src → src < 232 → (is .PORT_DOWN → down t = down s ||| one (src - 168)) ∧ (is .PORT_UP → down t = down s &&& ~~~(one (src - 168))))))) ∧
    (s.domOn 65 = false ∨ c.queue = [] → exec .saucerProcessEntry s = .next s) ∧
    (∀ m rest cls, c.queue = m :: rest → s.domOn 65 = true → s.fld Off.SC_CTRL Fld.SC_CTRL.HRING_EN = 0 → let orig := bits m.w 41 3
      let src := bits m.w 56 8
      let again := 1 ≤ orig ∧ orig ≤ 3 ∧ ∃ o ∈ c.opens, o.cls = orig ∧ o.src = src
      let full := (orig = 2 ∨ orig = 3) ∧ ∀ p, p < 256 → (c.openAt p).isSome = true
      let w := setBits m.w 41 3 cls
      (again ∨ full → cls = orig + 1) → (¬(again ∨ full) → cls = orig) → cls ≤ 4 → ∃ t, exec .saucerProcessEntry s = .next t ∧ t.sc.seq = seqNext c.seq ∧ t.rd (Off.SC_LAST cls) = w ∧
        (∃ esc, (esc = true ↔ again ∨ full) ∧ opened t cls src (bits m.w 44 8) c.seq esc) ∧ (rest ≠ [] → t.sc.queue = rest ∧ t.sc.lost = c.lost) ∧
        (rest = [] → t.sc.lost = [] ∧ t.sc.queue.length = c.lost.length ∧ ∀ v ∈ t.sc.queue, bits v.w 44 8 = FaultKind.FAULT_LOSS.code ∧ bits v.w 41 3 = 1 ∧ bits v.w 52 4 = 15 ∧ v.own = true) ∧
        (cls = 4 → fatal t) ∧ (cls ≠ 4 → t.pins = s.pins ∧ t.cd.freezing = s.cd.freezing ∧ t.cd.frozen = s.cd.frozen) ∧
        (cls = 3 → s.fld Off.SC_CTRL Fld.SC_CTRL.C3_LID = 1 → (t.fld Off.GL_LID_CTRL Fld.GL_LID_CTRL.SAUCER).testBit (niBand src) = true) ∧
        (cls ≠ 4 → s.cd.frozen = false → s.cd.freezing = false → bits m.w 44 8 ≠ FaultKind.FAULT_LOSS.code → c.seq < 2 ^ 32 → ∃ r, t.cd.slot s.cd.wptr = ⟨.committed, r⟩ ∧ t.cd.wptr = (s.cd.wptr + 1) % 8192 ∧
          bits r.w1 60 4 = Cd.FAULT ∧ r.w2 = w ∧ bits r.w3 32 32 = c.seq ∧ bits r.w3 29 3 = orig ∧ (bits r.w3 28 1 = 1 ↔ cls ≠ orig) ∧ bits r.w3 20 8 = min 255 m.rep) ∧
        (cls ≠ 4 → s.cd.frozen = true ∨ s.cd.freezing = true → t.cd = s.cd ∧ sat t Off.CD_LOSS Fld.CD_LOSS.FROZEN_DROPS) ∧
        s.regsKeep t [Off.GL_LID_CTRL, Off.SC_STATUS, Off.SC_LAST cls, Off.CD_LOSS] ∧ s.nisKeep t 249 ∧ s.only t [.pins, .regs, .ni, .cd, .sc])

/-- R516, R520, R521, R527: the host fault ring stops at an error response, its interrupt follows an FNC and the next one 1,024 ft later, and HRING_EN at 1 restarts it; C3_LID at 0 releases
the Lids held for C3. An armed injection takes effect at its point, while TEST_MODE is 1: a fault word enters the Saucer's queue, or the next flit, buffer line or flow unit is marked. -/
def Obligations.SaucerRing : Prop :=
  ∀ (s : State), let c := s.sc
    let ctrl := fun (t : State) (f : Fld) => t.fld Off.SC_CTRL f
    let lids := fun t : State => t.fld Off.GL_LID_CTRL Fld.GL_LID_CTRL.SAUCER
    let req := fun (vn op line ident : Nat) (data : List Body) => ({ vn := vn, opcode := op, agent := ctrl s Fld.SC_CTRL.AGENT, priv := true, origin := true, line := line, data := data, pl := 0, machine := none, ident := ident } : Req)
    let spent := fun (t : State) (j : ScInj) => t.sc.inj = if j.left ≤ 1 then none else some { j with left := j.left - 1 }
    let done := fun (t : State) (j : ScInj) (n : Nat) => KMap.get (fun _ => 0) t.sc.injDone j.target = if n = 0 then KMap.get (fun _ => 0) c.injDone j.target else (KMap.get (fun _ => 0) c.injDone j.target + 1) % 2 ^ 16
    let kept := fun (t : State) => t.sc.queue = c.queue ∧ t.sc.opens = c.opens ∧ s.only t [.sc]
    let marked := fun (t : State) (key lane two : Nat) => (∃ k, t.flipsAt key = s.flipsAt key ++ [(k, lane, two)]) ∧ ∀ x, x ≠ key → t.flipsAt x = s.flipsAt x
    (∀ x s1, s.domOn 65 = true → s.takeComp 249 ScId.fnc = some (x, s1) → ∃ t, exec (.scHringResponse true) s = .next t ∧ t.sc = { c with irqFnc := false, irqAt := s.niTime 249 + 1024 } ∧
      (let a := s.fld Off.SC_IRQ_ADDR Fld.SC_IRQ_ADDR.ADDR * 4
       let q := req Vn.IOP 1 (a / 64) ScId.irq [writeBody a 4 (s.rd Off.SC_IRQ_DATA)]
       ∀ dest, s1.passesTo 249 q dest → s1.waitsFor t 249 q dest) ∧ s.nisKeep t 249 ∧ s.only t [.regs, .tabBad, .ni, .sc, .wakeQ]) ∧
    (∀ x s1, s.domOn 65 = true → s.takeComp 249 ScId.write = some (x, s1) → ∃ t, exec (.scHringResponse false) s = .next t ∧ (t.niAt 249).comps = (s1.niAt 249).comps ∧
      (x.resp = Resp.OK ∨ c.stopped = true → t = s1) ∧ (x.resp ≠ Resp.OK → c.stopped = false → t.sc = { c with stopped := true }) ∧ s.nisKeep t 249 ∧ s.only t [.regs, .ni, .sc, .wakeQ]) ∧
    (s.domOn 65 = true → c.irqDue = true → c.irqFnc = false → c.irqAt ≤ s.niTime 249 → ∃ t, exec .scIrqIntervalEnd s = .next t ∧ t.sc = { c with irqDue := false, irqFnc := true } ∧
      (let q := req Vn.REQ 8 0 ScId.fnc []
       let b := (s.niAt 249).ep.bank
       (s.admits 249 = false → (t.niAt 249).wakeHeld = (s.niAt 249).wakeHeld ++ [q]) ∧
       (s.admits 249 = true → s.niFenced 249 = false → s.agentFenced 249 q.agent = false → (s.niAt 249).strain.hold = false → (s.niAt 249).strain.stale = false →
         (s.strainer 249 b q.vn q.opcode q.agent q.priv q.line = .pass ∨ s.strainer 249 b q.vn q.opcode q.agent q.priv q.line = .byDefault) →
         ∃ f, (t.niAt 249).fences = (s.niAt 249).fences ++ [f] ∧ f.r = q)) ∧ s.nisKeep t 249 ∧ s.only t [.regs, .tabBad, .ni, .sc, .wakeQ]) ∧
    (∀ on, ∃ t, exec (.scHringEnableWrite on) s = .next t ∧ ctrl t Fld.SC_CTRL.HRING_EN = b2n on ∧
      t.sc = (if on = true ∧ ctrl s Fld.SC_CTRL.HRING_EN = 0 then { c with head := 0, phase := true, stopped := false } else c) ∧ s.regsKeep t [Off.SC_CTRL] ∧ s.only t [.regs, .sc]) ∧
    (∀ on, ∃ t, exec (.scC3LidWrite on) s = .next t ∧ ctrl t Fld.SC_CTRL.C3_LID = b2n on ∧ lids t = (if on = false ∧ s.pins.fatal = false then 0 else lids s) ∧
      s.regsKeep t [Off.SC_CTRL, Off.GL_LID_CTRL] ∧ s.only t [.regs]) ∧
    (∀ j, s.pins.testMode = true → s.domOn 65 = true → c.inj = some j → j.point = 0 → kindListed (bits (s.rd Off.SC_INJ_FAULT) 44 8) = true → bits (s.rd Off.SC_INJ_FAULT) 41 3 ≤ 2 →
      ∃ t, exec .injectFault s = .next t ∧ spent t j ∧ t.sc.opens = c.opens ∧ t.sc.injDone = c.injDone ∧
        (c.queue.length < 120 → ∃ m : ScMsg, t.sc.queue = c.queue ++ [m] ∧ m.w = setBits (s.rd Off.SC_INJ_FAULT) 39 1 1 ∧ m.rep = 0 ∧ s.only t [.sc]) ∧
        (120 ≤ c.queue.length → t.sc.queue = c.queue ∧ s.regsKeep t [Off.SC_LOSS] ∧ s.only t [.regs, .sc])) ∧
    (∀ j, s.pins.testMode = true → s.domOn 65 = true → c.inj = some j → j.point = 1 ∨ j.point = 2 → j.port = 7 ∨ portEdge (niTile j.target) j.port = false →
      ∃ t, exec .injectLane s = .next t ∧ spent t j ∧ done t j 1 ∧ marked t (if j.port = 7 then injKey j.target else outKey (niTile j.target) j.port) j.lane j.point ∧ kept t) ∧
    (∀ j, s.pins.testMode = true → s.domOn 65 = true → c.inj = some j → j.point = 3 ∨ j.point = 4 →
      ∃ t, exec .injectBuf s = .next t ∧ spent t j ∧ done t j 1 ∧ marked t (bufFlipKey j.target) 0 (j.point - 2) ∧ kept t) ∧
    (∀ j, s.pins.testMode = true → s.domOn 65 = true → c.inj = some j → j.point = 5 → lkEnd j.target j.half = true →
      ∃ t, exec .injectFluCrc s = .next t ∧ spent t j ∧ done t j 0 ∧ marked t (fluFlipKey j.target j.half) 0 1 ∧ kept t) ∧
    ((∀ fnc, s.domOn 65 = false ∨ s.takeComp 249 (if fnc = true then ScId.fnc else ScId.write) = none → exec (.scHringResponse fnc) s = .next s) ∧
      (s.domOn 65 = false ∨ c.irqDue = false ∨ c.irqFnc = true ∨ s.niTime 249 < c.irqAt → exec .scIrqIntervalEnd s = .next s) ∧
      (s.pins.testMode = false ∨ s.domOn 65 = false ∨ c.inj = none → ∀ i ∈ [Instr.injectFault, .injectLane, .injectBuf, .injectFluCrc], exec i s = .next s) ∧
      (∀ j, c.inj = some j → j.point = 1 ∨ j.point = 2 → j.port ≠ 7 → portEdge (niTile j.target) j.port = true → exec .injectLane s = .next s) ∧
      (∀ j, c.inj = some j → j.point = 5 → lkEnd j.target j.half = false → exec .injectFluCrc s = .next s))
end

