-- ==== Sys2Proof/Laws/Bits.lean ====
section
/-! SUPPORT. The laws of bit fields of a register: a field after it is written, another field after it, and single bits. -/
namespace Sys2Proof

theorem bits_lt {n : Nat} (x : BitVec n) (lo w : Nat) : bits x lo w < 2 ^ w := Nat.mod_lt _ (Nat.two_pow_pos w)

theorem bits_testBit {n : Nat} (x : BitVec n) (lo w k : Nat) : (bits x lo w).testBit k = (decide (k < w) && x.getLsbD (lo + k)) := by
  unfold bits
  rw [Nat.testBit_mod_two_pow, Nat.testBit_div_two_pow, BitVec.testBit_toNat, Nat.add_comm]

theorem setBits_getLsbD (x : W64) (lo w v k : Nat) (h : lo + w ≤ 64) :
    (setBits x lo w v).getLsbD k = if lo ≤ k ∧ k < lo + w then v.testBit (k - lo) else x.getLsbD k := by
  unfold setBits
  have hm : ∀ j, ((2 ^ w - 1) * 2 ^ lo).testBit j = (decide (lo ≤ j) && decide (j - lo < w)) := by
    intro j
    rw [Nat.testBit_mul_two_pow]
    rw [Nat.testBit_two_pow_sub_one]
  have hv : ∀ j, (v % 2 ^ w * 2 ^ lo).testBit j = (decide (lo ≤ j) && (decide (j - lo < w) && v.testBit (j - lo))) := by
    intro j
    rw [Nat.testBit_mul_two_pow, Nat.testBit_mod_two_pow]
  simp only [BitVec.getLsbD_or, BitVec.getLsbD_and, BitVec.getLsbD_not, BitVec.getLsbD_ofNat, hm, hv]
  by_cases hk : k < 64
  · by_cases h1 : lo ≤ k
    · by_cases h2 : k < lo + w
      · have : k - lo < w := by omega
        simp [hk, h1, h2, this]
      · have : ¬ k - lo < w := by omega
        simp [hk, h1, h2, this]
    · simp [hk, h1]
  · have hx : x.getLsbD k = false := BitVec.getLsbD_of_ge x k (by omega)
    have : ¬ (lo ≤ k ∧ k < lo + w) := by omega
    simp [hk, hx, this]

/-- A field after it is written holds the value's low bits. -/
theorem bits_setBits_same (x : W64) (lo w v : Nat) (h : lo + w ≤ 64) : bits (setBits x lo w v) lo w = v % 2 ^ w := by
  apply Nat.eq_of_testBit_eq
  intro k
  rw [bits_testBit, setBits_getLsbD x lo w v _ h, Nat.testBit_mod_two_pow]
  by_cases hk : k < w
  · have h1 : lo ≤ lo + k ∧ lo + k < lo + w := by omega
    have h2 : lo + k - lo = k := by omega
    rw [if_pos h1, h2]
  · simp [hk]

/-- A field that does not overlap the one written keeps its value. -/
theorem bits_setBits_other (x : W64) (lo w v lo' w' : Nat) (h : lo + w ≤ 64) (hd : lo' + w' ≤ lo ∨ lo + w ≤ lo') :
    bits (setBits x lo w v) lo' w' = bits x lo' w' := by
  apply Nat.eq_of_testBit_eq
  intro k
  rw [bits_testBit, bits_testBit, setBits_getLsbD x lo w v _ h]
  by_cases hk : k < w'
  · have h1 : ¬ (lo ≤ lo' + k ∧ lo' + k < lo + w) := by omega
    rw [if_neg h1]
  · simp [hk]

theorem bit_setBits_other (x : W64) (lo w v k : Nat) (h : lo + w ≤ 64) (hd : k < lo ∨ lo + w ≤ k) : bit (setBits x lo w v) k = bit x k := by
  unfold bit
  rw [setBits_getLsbD x lo w v k h, if_neg (by omega)]

end Sys2Proof
end

