-- ==== Sys2Proof/Laws/Rest.lean ====
section
/-! SUPPORT. Frames by component: what `State.rest` leaves, its laws for updates, choices and folds. -/
namespace Sys2Proof.Machine

theorem Part.sub_trans {a b c : List Part} (h1 : Part.sub a b = true) (h2 : Part.sub b c = true) : Part.sub a c = true := by
  simp only [Part.sub, List.all_eq_true, List.contains_iff_mem] at *
  exact fun p hp => h2 p (h1 p hp)

/-- Blanking fewer components first changes nothing. -/
theorem State.rest_rest (s : State) (ps qs : List Part) (h : Part.sub ps qs = true) : (s.rest ps).rest qs = s.rest qs := by
  have hm : ∀ p, ps.contains p = true → qs.contains p = true := by
    simpa [Part.sub] using h
  have hf : ∀ {α : Type} (p : Part) (x y : α), (if qs.contains p then x else if ps.contains p then x else y) = if qs.contains p then x else y := by
    intro α p x y
    split
    · rfl
    · split
      · rename_i h1 h2; exact absurd (hm _ h2) h1
      · rfl
  simp only [State.rest, hf]

/-- What differs in the components of a list only differs in those of a longer list only. -/
theorem Part.lift {s t : State} {ps qs : List Part} (h : Part.sub ps qs = true) (e : t.rest ps = s.rest ps) : t.rest qs = s.rest qs := by
  rw [← State.rest_rest t ps qs h, e, State.rest_rest s ps qs h]

theorem State.rest_ite {c : Prop} [Decidable c] (a b : State) (ps : List Part) :
    (if c then a else b).rest ps = if c then a.rest ps else b.rest ps := by split <;> rfl

theorem next_rest {o : Outcome} {s s1 : State} {ps : List Part} (h : ∃ s', o = .next s' ∧ s'.rest ps = s1.rest ps) (e : s1.rest ps = s.rest ps) :
    ∃ s', o = .next s' ∧ s'.rest ps = s.rest ps := by
  obtain ⟨s', a, b⟩ := h
  exact ⟨s', a, b.trans e⟩

theorem foldl_rest {α : Type} {ps : List Part} (f : State → α → State) (l : List α) (s : State) (hf : ∀ s a, (f s a).rest ps = s.rest ps) :
    (l.foldl f s).rest ps = s.rest ps := by
  induction l generalizing s with
  | nil => rfl
  | cons a l ih => rw [List.foldl_cons, ih, hf]

theorem foldl_rest_mem {α : Type} {ps : List Part} (f : State → α → State) (l : List α) (s : State)
    (hf : ∀ a, a ∈ l → ∀ s, (f s a).rest ps = s.rest ps) : (l.foldl f s).rest ps = s.rest ps := by
  induction l generalizing s with
  | nil => rfl
  | cons a l ih => rw [List.foldl_cons, ih _ (fun b hb => hf b (List.mem_cons_of_mem _ hb)), hf a List.mem_cons_self]

theorem foldl_rest_fst {α β : Type} {ps : List Part} (f : State × β → α → State × β) (l : List α) (a : State × β)
    (hf : ∀ a x, (f a x).1.rest ps = a.1.rest ps) : (l.foldl f a).1.rest ps = a.1.rest ps := by
  induction l generalizing a with
  | nil => rfl
  | cons x l ih => rw [List.foldl_cons, ih, hf]

theorem State.rest_pending (s : State) (x : List Instr) {ps : List Part} (h : Part.sub [.pending] ps = true) :
    ({ s with pending := x } : State).rest ps = s.rest ps := Part.lift h rfl
theorem State.rest_free (s : State) (x : Nat) {ps : List Part} (h : Part.sub [.free] ps = true) :
    ({ s with free := x } : State).rest ps = s.rest ps := Part.lift h rfl
theorem State.rest_pins (s : State) (x : Pins) {ps : List Part} (h : Part.sub [.pins] ps = true) :
    ({ s with pins := x } : State).rest ps = s.rest ps := Part.lift h rfl
theorem State.rest_wrapA (s : State) (x : Wrapper) {ps : List Part} (h : Part.sub [.wrapA] ps = true) :
    ({ s with wrapA := x } : State).rest ps = s.rest ps := Part.lift h rfl
theorem State.rest_wrapB (s : State) (x : Wrapper) {ps : List Part} (h : Part.sub [.wrapB] ps = true) :
    ({ s with wrapB := x } : State).rest ps = s.rest ps := Part.lift h rfl
theorem State.rest_uptime (s : State) (x : Nat) {ps : List Part} (h : Part.sub [.uptime] ps = true) :
    ({ s with uptime := x } : State).rest ps = s.rest ps := Part.lift h rfl
theorem State.rest_regs (s : State) (x : KMap W64) {ps : List Part} (h : Part.sub [.regs] ps = true) :
    ({ s with regs := x } : State).rest ps = s.rest ps := Part.lift h rfl
theorem State.rest_pend (s : State) (x : KMap (Option W64)) {ps : List Part} (h : Part.sub [.pend] ps = true) :
    ({ s with pend := x } : State).rest ps = s.rest ps := Part.lift h rfl
theorem State.rest_tab (s : State) (x : KMap W64) {ps : List Part} (h : Part.sub [.tab] ps = true) :
    ({ s with tab := x } : State).rest ps = s.rest ps := Part.lift h rfl
theorem State.rest_tabBad (s : State) (x : KMap Bool) {ps : List Part} (h : Part.sub [.tabBad] ps = true) :
    ({ s with tabBad := x } : State).rest ps = s.rest ps := Part.lift h rfl
theorem State.rest_time (s : State) (x : Keeper) {ps : List Part} (h : Part.sub [.time] ps = true) :
    ({ s with time := x } : State).rest ps = s.rest ps := Part.lift h rfl
theorem State.rest_isl (s : State) (x : KMap Island) {ps : List Part} (h : Part.sub [.isl] ps = true) :
    ({ s with isl := x } : State).rest ps = s.rest ps := Part.lift h rfl
theorem State.rest_ev (s : State) (x : KMap EvXing) {ps : List Part} (h : Part.sub [.ev] ps = true) :
    ({ s with ev := x } : State).rest ps = s.rest ps := Part.lift h rfl
theorem State.rest_rt (s : State) (x : KMap Router) {ps : List Part} (h : Part.sub [.rt] ps = true) :
    ({ s with rt := x } : State).rest ps = s.rest ps := Part.lift h rfl
theorem State.rest_ni (s : State) (x : KMap Ni) {ps : List Part} (h : Part.sub [.ni] ps = true) :
    ({ s with ni := x } : State).rest ps = s.rest ps := Part.lift h rfl
theorem State.rest_port (s : State) (x : KMap Port) {ps : List Part} (h : Part.sub [.port] ps = true) :
    ({ s with port := x } : State).rest ps = s.rest ps := Part.lift h rfl
theorem State.rest_slice (s : State) (x : KMap Slice) {ps : List Part} (h : Part.sub [.slice] ps = true) :
    ({ s with slice := x } : State).rest ps = s.rest ps := Part.lift h rfl
theorem State.rest_lk (s : State) (x : KMap Lk) {ps : List Part} (h : Part.sub [.lk] ps = true) :
    ({ s with lk := x } : State).rest ps = s.rest ps := Part.lift h rfl
theorem State.rest_dom (s : State) (x : KMap Domain) {ps : List Part} (h : Part.sub [.dom] ps = true) :
    ({ s with dom := x } : State).rest ps = s.rest ps := Part.lift h rfl
theorem State.rest_sb (s : State) (x : Bridge) {ps : List Part} (h : Part.sub [.sb] ps = true) :
    ({ s with sb := x } : State).rest ps = s.rest ps := Part.lift h rfl
theorem State.rest_kt (s : State) (x : Kettle) {ps : List Part} (h : Part.sub [.kt] ps = true) :
    ({ s with kt := x } : State).rest ps = s.rest ps := Part.lift h rfl
theorem State.rest_st (s : State) (x : Strainer) {ps : List Part} (h : Part.sub [.st] ps = true) :
    ({ s with st := x } : State).rest ps = s.rest ps := Part.lift h rfl
theorem State.rest_cd (s : State) (x : Caddy) {ps : List Part} (h : Part.sub [.cd] ps = true) :
    ({ s with cd := x } : State).rest ps = s.rest ps := Part.lift h rfl
theorem State.rest_tr (s : State) (x : Trace) {ps : List Part} (h : Part.sub [.tr] ps = true) :
    ({ s with tr := x } : State).rest ps = s.rest ps := Part.lift h rfl
theorem State.rest_sc (s : State) (x : Saucer) {ps : List Part} (h : Part.sub [.sc] ps = true) :
    ({ s with sc := x } : State).rest ps = s.rest ps := Part.lift h rfl
theorem State.rest_pot (s : State) (x : Pot) {ps : List Part} (h : Part.sub [.pot] ps = true) :
    ({ s with pot := x } : State).rest ps = s.rest ps := Part.lift h rfl
theorem State.rest_pm (s : State) (x : Collector) {ps : List Part} (h : Part.sub [.pm] ps = true) :
    ({ s with pm := x } : State).rest ps = s.rest ps := Part.lift h rfl
theorem State.rest_dbg (s : State) (x : Debug) {ps : List Part} (h : Part.sub [.dbg] ps = true) :
    ({ s with dbg := x } : State).rest ps = s.rest ps := Part.lift h rfl
theorem State.rest_latch (s : State) (x : KMap W64) {ps : List Part} (h : Part.sub [.latch] ps = true) :
    ({ s with latch := x } : State).rest ps = s.rest ps := Part.lift h rfl
theorem State.rest_dbgLatch (s : State) (x : KMap W64) {ps : List Part} (h : Part.sub [.dbgLatch] ps = true) :
    ({ s with dbgLatch := x } : State).rest ps = s.rest ps := Part.lift h rfl
theorem State.rest_chk (s : State) (x : KMap W64) {ps : List Part} (h : Part.sub [.chk] ps = true) :
    ({ s with chk := x } : State).rest ps = s.rest ps := Part.lift h rfl
theorem State.rest_seamDown (s : State) (x : Option Nat) {ps : List Part} (h : Part.sub [.seamDown] ps = true) :
    ({ s with seamDown := x } : State).rest ps = s.rest ps := Part.lift h rfl
theorem State.rest_wire (s : State) (x : KMap (List Flit)) {ps : List Part} (h : Part.sub [.wire] ps = true) :
    ({ s with wire := x } : State).rest ps = s.rest ps := Part.lift h rfl
theorem State.rest_cwire (s : State) (x : KMap (List (BitVec 24))) {ps : List Part} (h : Part.sub [.cwire] ps = true) :
    ({ s with cwire := x } : State).rest ps = s.rest ps := Part.lift h rfl
theorem State.rest_owed (s : State) (x : KMap Nat) {ps : List Part} (h : Part.sub [.owed] ps = true) :
    ({ s with owed := x } : State).rest ps = s.rest ps := Part.lift h rfl
theorem State.rest_used (s : State) (x : KMap Nat) {ps : List Part} (h : Part.sub [.used] ps = true) :
    ({ s with used := x } : State).rest ps = s.rest ps := Part.lift h rfl
theorem State.rest_allHeld (s : State) (x : Bool) {ps : List Part} (h : Part.sub [.allHeld] ps = true) :
    ({ s with allHeld := x } : State).rest ps = s.rest ps := Part.lift h rfl
theorem State.rest_held (s : State) (x : KMap Bool) {ps : List Part} (h : Part.sub [.held] ps = true) :
    ({ s with held := x } : State).rest ps = s.rest ps := Part.lift h rfl
theorem State.rest_nbrBase (s : State) (x : Nbr) {ps : List Part} (h : Part.sub [.nbrBase] ps = true) :
    ({ s with nbrBase := x } : State).rest ps = s.rest ps := Part.lift h rfl
theorem State.rest_wakeQ (s : State) (x : List Nat) {ps : List Part} (h : Part.sub [.wakeQ] ps = true) :
    ({ s with wakeQ := x } : State).rest ps = s.rest ps := Part.lift h rfl
theorem State.rest_tab_chk (s : State) (x0 : KMap W64) (x1 : KMap W64) {ps : List Part} (h : Part.sub [.tab, .chk] ps = true) :
    ({ s with tab := x0, chk := x1 } : State).rest ps = s.rest ps := Part.lift h rfl
theorem State.rest_tab_tabBad (s : State) (x0 : KMap W64) (x1 : KMap Bool) {ps : List Part} (h : Part.sub [.tab, .tabBad] ps = true) :
    ({ s with tab := x0, tabBad := x1 } : State).rest ps = s.rest ps := Part.lift h rfl
theorem State.rest_tab_tabBad_chk (s : State) (x0 : KMap W64) (x1 : KMap Bool) (x2 : KMap W64) {ps : List Part} (h : Part.sub [.tab, .tabBad, .chk] ps = true) :
    ({ s with tab := x0, tabBad := x1, chk := x2 } : State).rest ps = s.rest ps := Part.lift h rfl
theorem State.rest_tab_tabBad_ev (s : State) (x0 : KMap W64) (x1 : KMap Bool) (x2 : KMap EvXing) {ps : List Part} (h : Part.sub [.tab, .tabBad, .ev] ps = true) :
    ({ s with tab := x0, tabBad := x1, ev := x2 } : State).rest ps = s.rest ps := Part.lift h rfl
theorem State.rest_regs_pend (s : State) (x0 : KMap W64) (x1 : KMap (Option W64)) {ps : List Part} (h : Part.sub [.regs, .pend] ps = true) :
    ({ s with regs := x0, pend := x1 } : State).rest ps = s.rest ps := Part.lift h rfl
theorem State.rest_regs_pend_latch_chk (s : State) (x0 : KMap W64) (x1 : KMap (Option W64)) (x2 : KMap W64) (x3 : KMap W64) {ps : List Part} (h : Part.sub [.regs, .pend, .latch, .chk] ps = true) :
    ({ s with regs := x0, pend := x1, latch := x2, chk := x3 } : State).rest ps = s.rest ps := Part.lift h rfl

/-- A component that a frame does not name is as before. -/
theorem State.only_pending {s t : State} {ps : List Part} (h : s.only t ps) (hp : ps.contains Part.pending = false) : t.pending = s.pending := by
  have := congrArg State.pending h
  simpa only [State.rest, hp, Bool.false_eq_true, if_false] using this
theorem State.only_free {s t : State} {ps : List Part} (h : s.only t ps) (hp : ps.contains Part.free = false) : t.free = s.free := by
  have := congrArg State.free h
  simpa only [State.rest, hp, Bool.false_eq_true, if_false] using this
theorem State.only_pins {s t : State} {ps : List Part} (h : s.only t ps) (hp : ps.contains Part.pins = false) : t.pins = s.pins := by
  have := congrArg State.pins h
  simpa only [State.rest, hp, Bool.false_eq_true, if_false] using this
theorem State.only_wrapA {s t : State} {ps : List Part} (h : s.only t ps) (hp : ps.contains Part.wrapA = false) : t.wrapA = s.wrapA := by
  have := congrArg State.wrapA h
  simpa only [State.rest, hp, Bool.false_eq_true, if_false] using this
theorem State.only_wrapB {s t : State} {ps : List Part} (h : s.only t ps) (hp : ps.contains Part.wrapB = false) : t.wrapB = s.wrapB := by
  have := congrArg State.wrapB h
  simpa only [State.rest, hp, Bool.false_eq_true, if_false] using this
theorem State.only_uptime {s t : State} {ps : List Part} (h : s.only t ps) (hp : ps.contains Part.uptime = false) : t.uptime = s.uptime := by
  have := congrArg State.uptime h
  simpa only [State.rest, hp, Bool.false_eq_true, if_false] using this
theorem State.only_regs {s t : State} {ps : List Part} (h : s.only t ps) (hp : ps.contains Part.regs = false) : t.regs = s.regs := by
  have := congrArg State.regs h
  simpa only [State.rest, hp, Bool.false_eq_true, if_false] using this
theorem State.only_pend {s t : State} {ps : List Part} (h : s.only t ps) (hp : ps.contains Part.pend = false) : t.pend = s.pend := by
  have := congrArg State.pend h
  simpa only [State.rest, hp, Bool.false_eq_true, if_false] using this
theorem State.only_tab {s t : State} {ps : List Part} (h : s.only t ps) (hp : ps.contains Part.tab = false) : t.tab = s.tab := by
  have := congrArg State.tab h
  simpa only [State.rest, hp, Bool.false_eq_true, if_false] using this
theorem State.only_tabBad {s t : State} {ps : List Part} (h : s.only t ps) (hp : ps.contains Part.tabBad = false) : t.tabBad = s.tabBad := by
  have := congrArg State.tabBad h
  simpa only [State.rest, hp, Bool.false_eq_true, if_false] using this
theorem State.only_time {s t : State} {ps : List Part} (h : s.only t ps) (hp : ps.contains Part.time = false) : t.time = s.time := by
  have := congrArg State.time h
  simpa only [State.rest, hp, Bool.false_eq_true, if_false] using this
theorem State.only_isl {s t : State} {ps : List Part} (h : s.only t ps) (hp : ps.contains Part.isl = false) : t.isl = s.isl := by
  have := congrArg State.isl h
  simpa only [State.rest, hp, Bool.false_eq_true, if_false] using this
theorem State.only_ev {s t : State} {ps : List Part} (h : s.only t ps) (hp : ps.contains Part.ev = false) : t.ev = s.ev := by
  have := congrArg State.ev h
  simpa only [State.rest, hp, Bool.false_eq_true, if_false] using this
theorem State.only_rt {s t : State} {ps : List Part} (h : s.only t ps) (hp : ps.contains Part.rt = false) : t.rt = s.rt := by
  have := congrArg State.rt h
  simpa only [State.rest, hp, Bool.false_eq_true, if_false] using this
theorem State.only_ni {s t : State} {ps : List Part} (h : s.only t ps) (hp : ps.contains Part.ni = false) : t.ni = s.ni := by
  have := congrArg State.ni h
  simpa only [State.rest, hp, Bool.false_eq_true, if_false] using this
theorem State.only_port {s t : State} {ps : List Part} (h : s.only t ps) (hp : ps.contains Part.port = false) : t.port = s.port := by
  have := congrArg State.port h
  simpa only [State.rest, hp, Bool.false_eq_true, if_false] using this
theorem State.only_slice {s t : State} {ps : List Part} (h : s.only t ps) (hp : ps.contains Part.slice = false) : t.slice = s.slice := by
  have := congrArg State.slice h
  simpa only [State.rest, hp, Bool.false_eq_true, if_false] using this
theorem State.only_lk {s t : State} {ps : List Part} (h : s.only t ps) (hp : ps.contains Part.lk = false) : t.lk = s.lk := by
  have := congrArg State.lk h
  simpa only [State.rest, hp, Bool.false_eq_true, if_false] using this
theorem State.only_dom {s t : State} {ps : List Part} (h : s.only t ps) (hp : ps.contains Part.dom = false) : t.dom = s.dom := by
  have := congrArg State.dom h
  simpa only [State.rest, hp, Bool.false_eq_true, if_false] using this
theorem State.only_sb {s t : State} {ps : List Part} (h : s.only t ps) (hp : ps.contains Part.sb = false) : t.sb = s.sb := by
  have := congrArg State.sb h
  simpa only [State.rest, hp, Bool.false_eq_true, if_false] using this
theorem State.only_kt {s t : State} {ps : List Part} (h : s.only t ps) (hp : ps.contains Part.kt = false) : t.kt = s.kt := by
  have := congrArg State.kt h
  simpa only [State.rest, hp, Bool.false_eq_true, if_false] using this
theorem State.only_st {s t : State} {ps : List Part} (h : s.only t ps) (hp : ps.contains Part.st = false) : t.st = s.st := by
  have := congrArg State.st h
  simpa only [State.rest, hp, Bool.false_eq_true, if_false] using this
theorem State.only_cd {s t : State} {ps : List Part} (h : s.only t ps) (hp : ps.contains Part.cd = false) : t.cd = s.cd := by
  have := congrArg State.cd h
  simpa only [State.rest, hp, Bool.false_eq_true, if_false] using this
theorem State.only_tr {s t : State} {ps : List Part} (h : s.only t ps) (hp : ps.contains Part.tr = false) : t.tr = s.tr := by
  have := congrArg State.tr h
  simpa only [State.rest, hp, Bool.false_eq_true, if_false] using this
theorem State.only_sc {s t : State} {ps : List Part} (h : s.only t ps) (hp : ps.contains Part.sc = false) : t.sc = s.sc := by
  have := congrArg State.sc h
  simpa only [State.rest, hp, Bool.false_eq_true, if_false] using this
theorem State.only_pot {s t : State} {ps : List Part} (h : s.only t ps) (hp : ps.contains Part.pot = false) : t.pot = s.pot := by
  have := congrArg State.pot h
  simpa only [State.rest, hp, Bool.false_eq_true, if_false] using this
theorem State.only_pm {s t : State} {ps : List Part} (h : s.only t ps) (hp : ps.contains Part.pm = false) : t.pm = s.pm := by
  have := congrArg State.pm h
  simpa only [State.rest, hp, Bool.false_eq_true, if_false] using this
theorem State.only_dbg {s t : State} {ps : List Part} (h : s.only t ps) (hp : ps.contains Part.dbg = false) : t.dbg = s.dbg := by
  have := congrArg State.dbg h
  simpa only [State.rest, hp, Bool.false_eq_true, if_false] using this
theorem State.only_latch {s t : State} {ps : List Part} (h : s.only t ps) (hp : ps.contains Part.latch = false) : t.latch = s.latch := by
  have := congrArg State.latch h
  simpa only [State.rest, hp, Bool.false_eq_true, if_false] using this
theorem State.only_dbgLatch {s t : State} {ps : List Part} (h : s.only t ps) (hp : ps.contains Part.dbgLatch = false) : t.dbgLatch = s.dbgLatch := by
  have := congrArg State.dbgLatch h
  simpa only [State.rest, hp, Bool.false_eq_true, if_false] using this
theorem State.only_chk {s t : State} {ps : List Part} (h : s.only t ps) (hp : ps.contains Part.chk = false) : t.chk = s.chk := by
  have := congrArg State.chk h
  simpa only [State.rest, hp, Bool.false_eq_true, if_false] using this
theorem State.only_seamDown {s t : State} {ps : List Part} (h : s.only t ps) (hp : ps.contains Part.seamDown = false) : t.seamDown = s.seamDown := by
  have := congrArg State.seamDown h
  simpa only [State.rest, hp, Bool.false_eq_true, if_false] using this
theorem State.only_wire {s t : State} {ps : List Part} (h : s.only t ps) (hp : ps.contains Part.wire = false) : t.wire = s.wire := by
  have := congrArg State.wire h
  simpa only [State.rest, hp, Bool.false_eq_true, if_false] using this
theorem State.only_cwire {s t : State} {ps : List Part} (h : s.only t ps) (hp : ps.contains Part.cwire = false) : t.cwire = s.cwire := by
  have := congrArg State.cwire h
  simpa only [State.rest, hp, Bool.false_eq_true, if_false] using this
theorem State.only_owed {s t : State} {ps : List Part} (h : s.only t ps) (hp : ps.contains Part.owed = false) : t.owed = s.owed := by
  have := congrArg State.owed h
  simpa only [State.rest, hp, Bool.false_eq_true, if_false] using this
theorem State.only_used {s t : State} {ps : List Part} (h : s.only t ps) (hp : ps.contains Part.used = false) : t.used = s.used := by
  have := congrArg State.used h
  simpa only [State.rest, hp, Bool.false_eq_true, if_false] using this
theorem State.only_allHeld {s t : State} {ps : List Part} (h : s.only t ps) (hp : ps.contains Part.allHeld = false) : t.allHeld = s.allHeld := by
  have := congrArg State.allHeld h
  simpa only [State.rest, hp, Bool.false_eq_true, if_false] using this
theorem State.only_held {s t : State} {ps : List Part} (h : s.only t ps) (hp : ps.contains Part.held = false) : t.held = s.held := by
  have := congrArg State.held h
  simpa only [State.rest, hp, Bool.false_eq_true, if_false] using this
theorem State.only_nbrBase {s t : State} {ps : List Part} (h : s.only t ps) (hp : ps.contains Part.nbrBase = false) : t.nbrBase = s.nbrBase := by
  have := congrArg State.nbrBase h
  simpa only [State.rest, hp, Bool.false_eq_true, if_false] using this
theorem State.only_wakeQ {s t : State} {ps : List Part} (h : s.only t ps) (hp : ps.contains Part.wakeQ = false) : t.wakeQ = s.wakeQ := by
  have := congrArg State.wakeQ h
  simpa only [State.rest, hp, Bool.false_eq_true, if_false] using this

end Sys2Proof.Machine
end

