-- ==== Sys2Proof/Laws/FrameNet.lean ====
section
/-! SUPPORT. Which components of the state each operation and each command may change: routers, injected errors, lookups and network interfaces.
A lemma named after a function says that nothing else differs; of a command it says also that the command answers a next state. -/
namespace Sys2Proof.Machine

theorem State.fresh_eq (s : State) {r0 : W64} {r1 : State} {ps : List Part} (hr : State.fresh s = (r0, r1)) (hps : Part.sub [.free] ps = true) : r1.rest ps = s.rest ps := Part.lift hps (by
  unfold State.fresh at hr
  (repeat' split at hr) <;> (try cases hr) <;> first | rfl | contradiction | simp (disch := decide) only [State.rest_ite, ite_self, foldl_rest, State.rest_free])

theorem State.fresh_rest (s : State) {ps : List Part} (hps : Part.sub [.free] ps = true) : (State.fresh s).2.rest ps = s.rest ps := Part.lift hps rfl

theorem State.wr_rest (s : State) (o : Nat) (v : W64) {ps : List Part} (hps : Part.sub [.regs] ps = true) : (State.wr s o v).rest ps = s.rest ps := Part.lift hps rfl

theorem State.setFld_rest (s : State) (o : Nat) (f : Fld) (v : Nat) {ps : List Part} (hps : Part.sub [.regs] ps = true) : (State.setFld s o f v).rest ps = s.rest ps := Part.lift hps rfl

theorem State.bump_rest (s : State) (o : Nat) (f : Fld) {ps : List Part} (hps : Part.sub [.regs] ps = true) : (State.bump s o f).rest ps = s.rest ps := Part.lift hps rfl

theorem State.bumpBy_rest (s : State) (o : Nat) (f : Fld) (k : Nat) {ps : List Part} (hps : Part.sub [.regs] ps = true) : (State.bumpBy s o f k).rest ps = s.rest ps := Part.lift hps rfl

theorem State.bumpMod_rest (s : State) (o : Nat) (f : Fld) {ps : List Part} (hps : Part.sub [.regs] ps = true) : (State.bumpMod s o f).rest ps = s.rest ps := Part.lift hps rfl

theorem State.setPend_rest (s : State) (o : Nat) (v : W64) {ps : List Part} (hps : Part.sub [.pend] ps = true) : (State.setPend s o v).rest ps = s.rest ps := Part.lift hps rfl

theorem State.commitReg_rest (s : State) (o : Nat) {ps : List Part} (hps : Part.sub [.regs, .pend] ps = true) : (State.commitReg s o).rest ps = s.rest ps := Part.lift hps rfl

theorem State.commitRegs_rest (s : State) (os : List Nat) {ps : List Part} (hps : Part.sub [.regs, .pend] ps = true) : (State.commitRegs s os).rest ps = s.rest ps := Part.lift hps (by
  simp (disch := first | decide | (intros; simp (disch := decide) only [State.rest_ite, ite_self, foldl_rest, State.rest_regs_pend, State.rest_regs, State.rest_pend, State.commitReg_rest]; done) | fail) only [State.commitRegs, foldl_rest, State.commitReg_rest])

theorem State.dropPend_rest (s : State) (o : Nat) {ps : List Part} (hps : Part.sub [.pend] ps = true) : (State.dropPend s o).rest ps = s.rest ps := Part.lift hps rfl

theorem State.setIsl_rest (s : State) (i : Nat) (v : Island) {ps : List Part} (hps : Part.sub [.isl] ps = true) : (State.setIsl s i v).rest ps = s.rest ps := Part.lift hps rfl

theorem State.modIsl_rest (s : State) (i : Nat) (f : Island → Island) {ps : List Part} (hps : Part.sub [.isl] ps = true) : (State.modIsl s i f).rest ps = s.rest ps := Part.lift hps rfl

theorem State.setRt_rest (s : State) (t : Nat) (v : Router) {ps : List Part} (hps : Part.sub [.rt] ps = true) : (State.setRt s t v).rest ps = s.rest ps := Part.lift hps rfl

theorem State.modRt_rest (s : State) (t : Nat) (f : Router → Router) {ps : List Part} (hps : Part.sub [.rt] ps = true) : (State.modRt s t f).rest ps = s.rest ps := Part.lift hps rfl

theorem State.setNi_rest (s : State) (n : Nat) (v : Ni) {ps : List Part} (hps : Part.sub [.ni] ps = true) : (State.setNi s n v).rest ps = s.rest ps := Part.lift hps rfl

theorem State.modNi_rest (s : State) (n : Nat) (f : Ni → Ni) {ps : List Part} (hps : Part.sub [.ni] ps = true) : (State.modNi s n f).rest ps = s.rest ps := Part.lift hps rfl

theorem State.setDom_rest (s : State) (d : Nat) (v : Domain) {ps : List Part} (hps : Part.sub [.dom] ps = true) : (State.setDom s d v).rest ps = s.rest ps := Part.lift hps rfl

theorem State.modDom_rest (s : State) (d : Nat) (f : Domain → Domain) {ps : List Part} (hps : Part.sub [.dom] ps = true) : (State.modDom s d f).rest ps = s.rest ps := Part.lift hps rfl

theorem State.askWake_rest (s : State) (d : Nat) {ps : List Part} (hps : Part.sub [.wakeQ] ps = true) : (State.askWake s d).rest ps = s.rest ps := Part.lift hps rfl

theorem State.wakeDomain_rest (s : State) (d : Nat) {ps : List Part} (hps : Part.sub [.wakeQ] ps = true) : (State.wakeDomain s d).rest ps = s.rest ps := Part.lift hps (by
  unfold State.wakeDomain
  (repeat' split) <;> first | rfl | simp (disch := decide) only [State.rest_ite, ite_self, State.askWake_rest])

theorem State.setTab_rest (s : State) (n bank sec part idx : Nat) (w : W64) {ps : List Part} (hps : Part.sub [.tab] ps = true) : (State.setTab s n bank sec part idx w).rest ps = s.rest ps := Part.lift hps rfl

theorem State.countBy_rest (s : State) (pg : CntPage) (k : Nat) (f : Bool) (a : Option Hdr) (amt : Nat) {ps : List Part} (hps : Part.sub [.regs] ps = true) : (State.countBy s pg k f a amt).rest ps = s.rest ps := Part.lift hps (by simp (disch := decide) only [State.countBy, State.rest_ite, ite_self, State.wr_rest])

theorem State.evRt_rest (s : State) (t k : Nat) (f : Bool) (a : Option Hdr) {ps : List Part} (hps : Part.sub [.regs] ps = true) : (State.evRt s t k f a).rest ps = s.rest ps := Part.lift hps (by simp (disch := decide) only [State.evRt, State.rest_ite, ite_self, State.countBy_rest])

theorem State.evRtBy_rest (s : State) (t k amt : Nat) {ps : List Part} (hps : Part.sub [.regs] ps = true) : (State.evRtBy s t k amt).rest ps = s.rest ps := Part.lift hps (by simp (disch := decide) only [State.evRtBy, State.rest_ite, ite_self, State.countBy_rest])

theorem State.evNi_rest (s : State) (n k : Nat) (f : Bool) (a : Option Hdr) {ps : List Part} (hps : Part.sub [.regs] ps = true) : (State.evNi s n k f a).rest ps = s.rest ps := Part.lift hps (by simp (disch := decide) only [State.evNi, State.rest_ite, ite_self, State.countBy_rest])

theorem State.evHs_rest (s : State) (h k : Nat) (f : Bool) (a : Option Hdr) {ps : List Part} (hps : Part.sub [.regs] ps = true) : (State.evHs s h k f a).rest ps = s.rest ps := Part.lift hps (by simp (disch := decide) only [State.evHs, State.rest_ite, ite_self, State.countBy_rest])

theorem State.evHsBy_rest (s : State) (h k amt : Nat) {ps : List Part} (hps : Part.sub [.regs] ps = true) : (State.evHsBy s h k amt).rest ps = s.rest ps := Part.lift hps (by simp (disch := decide) only [State.evHsBy, State.rest_ite, ite_self, State.countBy_rest])

theorem State.setWire_rest (s : State) (k : Nat) (l : List Flit) {ps : List Part} (hps : Part.sub [.wire] ps = true) : (State.setWire s k l).rest ps = s.rest ps := Part.lift hps rfl

theorem State.sendFlit_rest (s : State) (k : Nat) (f : Flit) {ps : List Part} (hps : Part.sub [.wire] ps = true) : (State.sendFlit s k f).rest ps = s.rest ps := Part.lift hps rfl

theorem State.setUsed_rest (s : State) (k vn : Nat) (gt : Bool) (c : Nat) {ps : List Part} (hps : Part.sub [.used] ps = true) : (State.setUsed s k vn gt c).rest ps = s.rest ps := Part.lift hps rfl

theorem State.useCredit_rest (s : State) (k vn : Nat) (gt : Bool) {ps : List Part} (hps : Part.sub [.used] ps = true) : (State.useCredit s k vn gt).rest ps = s.rest ps := Part.lift hps rfl

theorem State.setOwed_rest (s : State) (k vn : Nat) (gt : Bool) (c : Nat) {ps : List Part} (hps : Part.sub [.owed] ps = true) : (State.setOwed s k vn gt c).rest ps = s.rest ps := Part.lift hps rfl

theorem State.oweCredit_rest (s : State) (k vn : Nat) (gt : Bool) {ps : List Part} (hps : Part.sub [.owed] ps = true) : (State.oweCredit s k vn gt).rest ps = s.rest ps := Part.lift hps rfl

theorem State.queueFault_rest (s : State) (n : Nat) (f : FaultMsg) {ps : List Part} (hps : Part.sub [.regs, .ni] ps = true) : (State.queueFault s n f).rest ps = s.rest ps := Part.lift hps (by
  simp only [State.queueFault]
  (repeat' split) <;> first | rfl | simp (disch := first | decide | (intros; simp (disch := decide) only [State.rest_ite, ite_self, foldl_rest, State.rest_regs, State.rest_ni, State.modNi_rest, State.bump_rest]; done) | fail) only [State.rest_ite, ite_self, foldl_rest, State.rest_regs, State.rest_ni, State.modNi_rest, State.bump_rest])

theorem State.report_rest (s : State) (n sub : Nat) (k : FaultKind) (detail : Nat) {ps : List Part} (hps : Part.sub [.regs, .ni] ps = true) : (State.report s n sub k detail).rest ps = s.rest ps := Part.lift hps (by simp (disch := decide) only [State.report, State.queueFault_rest])

theorem State.reportAt_rest (s : State) (n sub : Nat) (k : FaultKind) (detail agent line : Nat) {ps : List Part} (hps : Part.sub [.regs, .ni] ps = true) : (State.reportAt s n sub k detail agent line).rest ps = s.rest ps := Part.lift hps (by simp (disch := decide) only [State.reportAt, State.queueFault_rest])

theorem State.reportCls_rest (s : State) (n sub : Nat) (k : FaultKind) (cls detail : Nat) {ps : List Part} (hps : Part.sub [.regs, .ni] ps = true) : (State.reportCls s n sub k cls detail).rest ps = s.rest ps := Part.lift hps (by simp (disch := decide) only [State.reportCls, State.queueFault_rest])

theorem State.wakeNi_rest (s : State) (n : Nat) {ps : List Part} (hps : Part.sub [.wakeQ] ps = true) : (State.wakeNi s n).rest ps = s.rest ps := Part.lift hps (by simp (disch := decide) only [State.wakeNi, State.rest_ite, ite_self, State.askWake_rest])

theorem State.reportUp_rest (s : State) (n sub : Nat) (k : FaultKind) (detail : Nat) {ps : List Part} (hps : Part.sub [.regs, .ni, .wakeQ] ps = true) : (State.reportUp s n sub k detail).rest ps = s.rest ps := Part.lift hps (by simp (disch := decide) only [State.reportUp, State.report_rest, State.wakeNi_rest])

theorem State.reportTime_rest (s : State) (k : FaultKind) (drift : Int) {ps : List Part} (hps : Part.sub [.regs, .ni, .wakeQ] ps = true) : (State.reportTime s k drift).rest ps = s.rest ps := Part.lift hps (by simp (disch := decide) only [State.reportTime, State.report_rest, State.reportUp_rest])

theorem State.reportIsl_rest (s : State) (i : Nat) (k : FaultKind) (e : Int) {ps : List Part} (hps : Part.sub [.regs, .ni] ps = true) : (State.reportIsl s i k e).rest ps = s.rest ps := Part.lift hps (by simp (disch := decide) only [State.reportIsl, State.report_rest])

theorem State.occurs_rest (s : State) (n key c : Nat) {ps : List Part} (hps : Part.sub [.ni] ps = true) : (State.occurs s n key c).rest ps = s.rest ps := Part.lift hps rfl

theorem State.reportOcc_rest (s : State) (n sub key : Nat) (k : FaultKind) (cls width rest : Nat) {ps : List Part} (hps : Part.sub [.regs, .ni] ps = true) : (State.reportOcc s n sub key k cls width rest).rest ps = s.rest ps := Part.lift hps (by simp (disch := decide) only [State.reportOcc, State.modNi_rest, State.reportCls_rest])

theorem State.reportRt_rest (s : State) (t p : Nat) (k : FaultKind) (lane : Nat) {ps : List Part} (hps : Part.sub [.regs, .ni] ps = true) : (State.reportRt s t p k lane).rest ps = s.rest ps := Part.lift hps (by simp (disch := decide) only [State.reportRt, State.reportOcc_rest])

theorem State.occursRt_rest (s : State) (t p : Nat) (k : FaultKind) (c : Nat) {ps : List Part} (hps : Part.sub [.ni] ps = true) : (State.occursRt s t p k c).rest ps = s.rest ps := Part.lift hps rfl

theorem State.reportNi_rest (s : State) (n : Nat) (k : FaultKind) (what vn : Nat) {ps : List Part} (hps : Part.sub [.regs, .ni] ps = true) : (State.reportNi s n k what vn).rest ps = s.rest ps := Part.lift hps (by simp (disch := decide) only [State.reportNi, State.report_rest, State.reportOcc_rest])

theorem State.occursNi_rest (s : State) (n : Nat) (k : FaultKind) (what vn c : Nat) {ps : List Part} (hps : Part.sub [.ni] ps = true) : (State.occursNi s n k what vn c).rest ps = s.rest ps := Part.lift hps rfl

theorem State.reportReserved_rest (s : State) (n sub : Nat) (h : Hdr) {ps : List Part} (hps : Part.sub [.regs, .ni] ps = true) : (State.reportReserved s n sub h).rest ps = s.rest ps := Part.lift hps (by simp (disch := decide) only [State.reportReserved, State.report_rest])

theorem State.setFlips_rest (s : State) (key : Nat) (l : List (Nat × Nat × Nat)) {ps : List Part} (hps : Part.sub [.sc] ps = true) : (State.setFlips s key l).rest ps = s.rest ps := Part.lift hps rfl

theorem State.addFlip_rest (s : State) (key ahead lane two : Nat) {ps : List Part} (hps : Part.sub [.sc] ps = true) : (State.addFlip s key ahead lane two).rest ps = s.rest ps := Part.lift hps rfl

theorem State.takeFlips_rest (s : State) (key : Nat) (gone : List Nat) {ps : List Part} (hps : Part.sub [.sc] ps = true) : (State.takeFlips s key gone).2.rest ps = s.rest ps := Part.lift hps (by
  simp only [State.takeFlips]
  (repeat' split) <;> first | rfl | simp (disch := first | decide | (intros; simp (disch := decide) only [State.rest_ite, ite_self, foldl_rest, State.rest_sc, State.setFlips_rest]; done) | fail) only [State.rest_ite, ite_self, foldl_rest, State.rest_sc, State.setFlips_rest])

theorem State.markInj_rest (s0 : State) (n : Nat) (s : State) {ps : List Part} (hps : Part.sub [.ni] ps = true) : (State.markInj s0 n s).rest ps = s.rest ps := Part.lift hps rfl

theorem State.withFlip_rest (s : State) (key n : Nat) (errs : LaneErrs) (f : LaneErrs → State → State) {ps : List Part} (hps : Part.sub [.ni, .sc] ps = true) (hf : ∀ e s, (f e s).rest ps = s.rest ps) : (State.withFlip s key n errs f).rest ps = s.rest ps := by
  have e := State.takeFlips_rest s key [0] (ps := ps) (Part.sub_trans (by decide) hps)
  simp only [State.withFlip]
  split
  · rw [hf, e]
  · rw [State.markInj_rest _ _ _ (Part.sub_trans (by decide) hps), hf, e]

theorem State.wakeAt_rest (s : State) (t p : Nat) {ps : List Part} (hps : Part.sub [.regs, .rt, .wakeQ] ps = true) : (State.wakeAt s t p).rest ps = s.rest ps := Part.lift hps (by simp (disch := decide) only [State.wakeAt, State.rest_ite, ite_self, State.bump_rest, State.askWake_rest, State.modRt_rest])

theorem State.laneCe_rest (s : State) (t p : Nat) (e : LaneErrs) {ps : List Part} (hps : Part.sub [.regs, .rt, .ni] ps = true) : (State.laneCe s t p e).rest ps = s.rest ps := Part.lift hps (by simp (disch := decide) only [State.laneCe, State.rest_ite, ite_self, State.bumpBy_rest, State.setFld_rest, State.evRtBy_rest, State.modRt_rest, State.occursRt_rest, State.reportRt_rest])

theorem State.laneUe_rest (s : State) (t p : Nat) (e : LaneErrs) {ps : List Part} (hps : Part.sub [.regs, .ni] ps = true) : (State.laneUe s t p e).rest ps = s.rest ps := Part.lift hps (by
  unfold State.laneUe
  (repeat' split) <;> first | rfl | simp (disch := decide) only [State.rest_ite, ite_self, State.bumpBy_rest, State.setFld_rest, State.evRtBy_rest, State.reportRt_rest])

theorem State.framing_rest (s : State) (t p : Nat) {ps : List Part} (hps : Part.sub [.regs, .ni] ps = true) : (State.framing s t p).rest ps = s.rest ps := Part.lift hps (by simp (disch := decide) only [State.framing, State.bump_rest, State.setFld_rest, State.reportRt_rest])

theorem State.discarded_rest (s : State) (t : Nat) (h : Hdr) (word0Bad : Bool) {ps : List Part} (hps : Part.sub [.regs, .ni] ps = true) : (State.discarded s t h word0Bad).rest ps = s.rest ps := Part.lift hps (by simp (disch := decide) only [State.discarded, State.rest_ite, ite_self, State.bumpMod_rest, State.modNi_rest, State.evRt_rest])

theorem State.oweCells_rest (s : State) (t p vn : Nat) (gt : Bool) (cs : List Cell) {ps : List Part} (hps : Part.sub [.owed] ps = true) : (State.oweCells s t p vn gt cs).rest ps = s.rest ps := Part.lift hps (by
  simp (disch := first | decide | (intros; simp (disch := decide) only [State.rest_ite, ite_self, foldl_rest, State.rest_owed, State.oweCredit_rest]; done) | fail) only [State.oweCells, foldl_rest, State.rest_ite, ite_self, State.oweCredit_rest])

theorem State.dropFront_rest (s : State) (t p vn : Nat) (gt : Bool) {ps : List Part} (hps : Part.sub [.rt, .owed] ps = true) : (State.dropFront s t p vn gt).rest ps = s.rest ps := Part.lift hps (by simp (disch := decide) only [State.dropFront, State.rest_ite, ite_self, State.oweCells_rest, State.modRt_rest])

theorem State.fenceDiscard_rest (s : State) (t out : Nat) (h : Hdr) {ps : List Part} (hps : Part.sub [.regs, .rt, .ni] ps = true) : (State.fenceDiscard s t out h).rest ps = s.rest ps := Part.lift hps (by simp (disch := decide) only [State.fenceDiscard, State.rest_ite, ite_self, State.discarded_rest, State.bump_rest, State.setFld_rest, State.occursRt_rest, State.modRt_rest, State.reportRt_rest])

theorem State.frameHead_rest (s : State) (t p vn : Nat) (gt : Bool) {ps : List Part} (hps : Part.sub [.regs, .rt, .ni, .owed] ps = true) : (State.frameHead s t p vn gt).rest ps = s.rest ps := Part.lift hps (by
  simp only [State.frameHead]
  (repeat' split) <;> first | rfl | simp (disch := first | decide | (intros; simp (disch := decide) only [State.rest_ite, ite_self, foldl_rest, State.rest_regs, State.rest_rt, State.rest_ni, State.rest_owed, State.discarded_rest, State.framing_rest, State.oweCells_rest, State.modRt_rest]; done) | fail) only [State.discarded_rest, State.framing_rest, State.oweCells_rest, State.modRt_rest, State.rest_ite, ite_self])

theorem State.dropHead_rest (s : State) (t p vn : Nat) (gt : Bool) (h : Hdr) (word0Bad : Bool) {ps : List Part} (hps : Part.sub [.regs, .rt, .ni, .owed] ps = true) : (State.dropHead s t p vn gt h word0Bad).rest ps = s.rest ps := Part.lift hps (by simp (disch := decide) only [State.dropHead, State.discarded_rest, State.oweCredit_rest, State.modRt_rest])

theorem State.enterHead_rest (s : State) (t p : Nat) (h : Hdr) (pl : Line) {ps : List Part} (hps : Part.sub [.regs, .rt, .ni, .owed, .wakeQ] ps = true) : (State.enterHead s t p h pl).rest ps = s.rest ps := Part.lift hps (by simp (disch := decide) only [State.enterHead, State.rest_ite, ite_self, State.dropHead_rest, State.bump_rest, State.setFld_rest, State.reportRt_rest, State.modRt_rest, State.oweCredit_rest, State.fenceDiscard_rest, State.wakeAt_rest])

theorem State.headArrive_rest (s : State) (t p : Nat) (g : Bool) (h : Hdr) (pl : Line) (errs : LaneErrs) {ps : List Part} (hps : Part.sub [.regs, .rt, .ni, .owed, .wakeQ] ps = true) : (State.headArrive s t p g h pl errs).rest ps = s.rest ps := Part.lift hps (by
  unfold State.headArrive
  (repeat' split) <;> first | rfl | simp (disch := decide) only [State.rest_ite, ite_self, State.evRt_rest, State.laneCe_rest, State.frameHead_rest, State.modRt_rest, State.enterHead_rest, State.laneUe_rest, State.dropHead_rest])

theorem execRouterHeadArrive_rest (t : Fin 192) (p : Fin 6) (errs : LaneErrs) (s : State) {ps : List Part} (hps : Part.sub [.regs, .rt, .ni, .sc, .wire, .owed, .wakeQ] ps = true) : ∃ s', execRouterHeadArrive t p errs s = .next s' ∧ s'.rest ps = s.rest ps := by
  simp only [execRouterHeadArrive]
  (repeat' split) <;> exact ⟨_, rfl, Part.lift hps (by simp (disch := first | decide | (intros; simp (disch := decide) only [State.rest_ite, ite_self, foldl_rest, State.rest_regs, State.rest_rt, State.rest_ni, State.rest_sc, State.rest_wire, State.rest_owed, State.rest_wakeQ, State.setWire_rest, State.withFlip_rest, State.headArrive_rest]; done) | fail) only [State.setWire_rest, State.withFlip_rest, State.rest_ite, ite_self, State.headArrive_rest])⟩

theorem State.bodyArrive_rest (s : State) (t p : Nat) (f : Flit) (errs : LaneErrs) {ps : List Part} (hps : Part.sub [.regs, .rt, .ni, .owed] ps = true) : (State.bodyArrive s t p f errs).rest ps = s.rest ps := Part.lift hps (by
  simp only [State.bodyArrive]
  (repeat' split) <;> first | rfl | simp (disch := first | decide | (intros; simp (disch := decide) only [State.rest_ite, ite_self, foldl_rest, State.rest_regs, State.rest_rt, State.rest_ni, State.rest_owed, State.evRt_rest, State.laneCe_rest, State.laneUe_rest, State.oweCredit_rest, State.framing_rest, State.modRt_rest]; done) | fail) only [State.rest_ite, ite_self, State.evRt_rest, State.laneCe_rest, State.laneUe_rest, State.oweCredit_rest, State.framing_rest, State.modRt_rest])

theorem execRouterBodyArrive_rest (t : Fin 192) (p : Fin 6) (errs : LaneErrs) (s : State) {ps : List Part} (hps : Part.sub [.regs, .rt, .ni, .sc, .wire, .owed] ps = true) : ∃ s', execRouterBodyArrive t p errs s = .next s' ∧ s'.rest ps = s.rest ps := by
  simp only [execRouterBodyArrive]
  (repeat' split) <;> exact ⟨_, rfl, Part.lift hps (by simp (disch := first | decide | (intros; simp (disch := decide) only [State.rest_ite, ite_self, foldl_rest, State.rest_regs, State.rest_rt, State.rest_ni, State.rest_sc, State.rest_wire, State.rest_owed, State.setWire_rest, State.withFlip_rest, State.bodyArrive_rest]; done) | fail) only [State.setWire_rest, State.withFlip_rest, State.rest_ite, ite_self, State.bodyArrive_rest])⟩

theorem State.pushStamp_rest (s : State) (n form : Nat) (h : Hdr) (w3 : Nat) {ps : List Part} (hps : Part.sub [.regs, .ni] ps = true) : (State.pushStamp s n form h w3).rest ps = s.rest ps := Part.lift hps (by simp (disch := decide) only [State.pushStamp, State.rest_ite, ite_self, State.modNi_rest, State.bump_rest])

theorem State.routerStamp_rest (s : State) (t inp out : Nat) (h : Hdr) (c : Cell) {ps : List Part} (hps : Part.sub [.regs, .ni] ps = true) : (State.routerStamp s t inp out h c).rest ps = s.rest ps := Part.lift hps (by simp (disch := decide) only [State.routerStamp, State.rest_ite, ite_self, State.pushStamp_rest])

theorem State.countSent_rest (s : State) (t p vn pri : Nat) (head : Bool) (h : Hdr) (wasted : Bool) {ps : List Part} (hps : Part.sub [.regs] ps = true) : (State.countSent s t p vn pri head h wasted).rest ps = s.rest ps := Part.lift hps (by simp (disch := decide) only [State.countSent, State.rest_ite, ite_self, State.evRt_rest])

theorem State.grantOut_rest (s : State) (t p : Nat) (c : Cand) {ps : List Part} (hps : Part.sub [.regs, .rt, .ni, .wire, .owed, .used] ps = true) : (State.grantOut s t p c).rest ps = s.rest ps := Part.lift hps (by
  simp only [State.grantOut]
  (repeat' split) <;> first | rfl | simp (disch := first | decide | (intros; simp (disch := decide) only [State.rest_ite, ite_self, foldl_rest, State.rest_regs, State.rest_rt, State.rest_ni, State.rest_wire, State.rest_owed, State.rest_used, State.routerStamp_rest, State.oweCells_rest, State.useCredit_rest, State.countSent_rest, State.sendFlit_rest, State.modRt_rest]; done) | fail) only [State.routerStamp_rest, State.oweCells_rest, State.useCredit_rest, State.countSent_rest, State.sendFlit_rest, State.modRt_rest, State.rest_ite, ite_self])

theorem State.synthOut_eq (s : State) (t p : Nat) {r0 : State} {ps : List Part} (hr : State.synthOut s t p = some r0) (hps : Part.sub [.regs, .rt, .wire, .used] ps = true) : r0.rest ps = s.rest ps := Part.lift hps (by
  simp only [State.synthOut] at hr
  (repeat' split at hr) <;> (try cases hr) <;> first | (with_reducible rfl) | contradiction | (simp (disch := first | decide | (intros; (try dsimp only); (repeat' split) <;> first | (with_reducible rfl) | (simp (disch := decide) only [State.rest_ite, ite_self, foldl_rest, State.rest_regs, State.rest_rt, State.rest_wire, State.rest_used, State.useCredit_rest, State.countSent_rest, State.sendFlit_rest, State.modRt_rest]; done) | fail) | fail) only [State.useCredit_rest, State.countSent_rest, State.sendFlit_rest, State.modRt_rest, State.rest_ite, ite_self]; done) | rfl)

theorem State.dropUnreach_rest (s : State) (t p : Nat) {ps : List Part} (hps : Part.sub [.regs, .rt, .ni, .owed] ps = true) : (State.dropUnreach s t p).rest ps = s.rest ps := Part.lift hps (by
  simp (disch := first | decide | (intros; (try dsimp only); (repeat' split) <;> first | (with_reducible rfl) | (simp (disch := decide) only [State.rest_ite, ite_self, foldl_rest, State.rest_regs, State.rest_rt, State.rest_ni, State.rest_owed, State.fenceDiscard_rest, State.dropFront_rest]; done) | fail) | fail) only [State.dropUnreach, foldl_rest, State.rest_ite, ite_self, State.dropFront_rest, State.fenceDiscard_rest])

theorem execOutputArbitration_rest (t : Fin 192) (p : Fin 6) (s : State) {ps : List Part} (hps : Part.sub [.regs, .rt, .ni, .wire, .owed, .used, .wakeQ] ps = true) : ∃ s', execOutputArbitration t p s = .next s' ∧ s'.rest ps = s.rest ps := by
  simp only [execOutputArbitration]
  split
  · exact ⟨_, rfl, rfl⟩
  split
  · split
    · have e := State.synthOut_eq _ _ _ (by assumption) (ps := ps) (Part.sub_trans (by decide) hps)
      exact ⟨_, rfl, by rw [e, State.dropUnreach_rest _ _ _ (Part.sub_trans (by decide) hps)]⟩
    · exact ⟨_, rfl, by rw [State.evRt_rest _ _ _ _ _ (Part.sub_trans (by decide) hps), State.dropUnreach_rest _ _ _ (Part.sub_trans (by decide) hps)]⟩
  · split
    all_goals try rename_i hx
    all_goals try (split at hx <;> first | contradiction | skip)
    all_goals try have e := State.synthOut_eq _ _ _ hx (ps := ps) (Part.sub_trans (by decide) hps)
    all_goals refine ⟨_, rfl, ?_⟩
    all_goals simp (disch := (exact Part.sub_trans (by decide) hps)) only [State.rest_ite, ite_self, State.grantOut_rest, State.evRt_rest, State.wakeAt_rest, *]

theorem execCreditWordSend_rest (k : LinkPort) (s : State) {ps : List Part} (hps : Part.sub [.cwire, .owed] ps = true) : ∃ s', execCreditWordSend k s = .next s' ∧ s'.rest ps = s.rest ps := by
  simp only [execCreditWordSend]
  (repeat' split) <;> exact ⟨_, rfl, Part.lift hps (by simp (disch := first | decide | (intros; simp (disch := decide) only [State.rest_ite, ite_self, foldl_rest, State.rest_cwire, State.rest_owed, State.setOwed_rest]; done) | fail) only [foldl_rest, State.rest_cwire, State.rest_ite, ite_self, State.rest_owed, State.setOwed_rest])⟩

theorem State.creditOverflow_rest (s : State) (k : LinkPort) (vn : Nat) {ps : List Part} (hps : Part.sub [.regs, .ni] ps = true) : (State.creditOverflow s k vn).rest ps = s.rest ps := Part.lift hps (by
  unfold State.creditOverflow
  (repeat' split) <;> first | rfl | simp (disch := decide) only [State.reportNi_rest, State.setFld_rest, State.reportRt_rest])

theorem State.returnCredit_rest (s : State) (k : LinkPort) (vn : Nat) (gt : Bool) (c : Nat) {ps : List Part} (hps : Part.sub [.regs, .ni, .used] ps = true) : (State.returnCredit s k vn gt c).rest ps = s.rest ps := Part.lift hps (by simp (disch := decide) only [State.returnCredit, State.rest_ite, ite_self, State.setUsed_rest, State.creditOverflow_rest])

theorem execCreditWordReceive_rest (k : LinkPort) (s : State) {ps : List Part} (hps : Part.sub [.regs, .ni, .cwire, .used] ps = true) : ∃ s', execCreditWordReceive k s = .next s' ∧ s'.rest ps = s.rest ps := by
  unfold execCreditWordReceive
  (repeat' split) <;> exact ⟨_, rfl, Part.lift hps (by simp (disch := first | decide | (intros; simp (disch := decide) only [State.rest_ite, ite_self, foldl_rest, State.rest_regs, State.rest_ni, State.rest_cwire, State.rest_used, State.returnCredit_rest]; done) | fail) only [foldl_rest, State.rest_cwire, State.rest_ite, ite_self, State.rest_regs, State.rest_ni, State.rest_used, State.returnCredit_rest])⟩

theorem State.goUnreach_rest (s : State) (t p : Nat) (runs : Bool) {ps : List Part} (hps : Part.sub [.regs, .rt, .ni, .owed] ps = true) : (State.goUnreach s t p runs).rest ps = s.rest ps := Part.lift hps (by
  simp (disch := first | decide | (intros; (try dsimp only); (repeat' split) <;> first | (with_reducible rfl) | (simp (disch := decide) only [State.rest_ite, ite_self, foldl_rest, State.rest_regs, State.rest_rt, State.rest_ni, State.rest_owed, State.oweCells_rest, State.fenceDiscard_rest, State.dropUnreach_rest, State.modRt_rest]; done) | fail) | fail) only [State.goUnreach, foldl_rest, State.dropUnreach_rest, State.modRt_rest, State.rest_ite, ite_self, State.oweCells_rest, State.fenceDiscard_rest])

theorem State.noteFence_rest (s : State) (t p : Nat) {ps : List Part} (hps : Part.sub [.rt] ps = true) : (State.noteFence s t p).rest ps = s.rest ps := Part.lift hps (by simp (disch := decide) only [State.noteFence, State.rest_ite, ite_self, State.modRt_rest])

theorem State.dropSynth_rest (s : State) (t p : Nat) {ps : List Part} (hps : Part.sub [.rt] ps = true) : (State.dropSynth s t p).rest ps = s.rest ps := Part.lift hps (by
  simp only [State.dropSynth]
  (repeat' split) <;> first | (with_reducible rfl) | (simp (disch := first | decide | (intros; (try dsimp only); (repeat' split) <;> first | (with_reducible rfl) | (simp (disch := decide) only [State.rest_ite, ite_self, foldl_rest, State.rest_rt, State.modRt_rest]; done) | fail) | fail) only [State.rest_ite, ite_self, foldl_rest, State.modRt_rest]; done) | rfl)

theorem State.stampFence_rest (s : State) (t p : Nat) {ps : List Part} (hps : Part.sub [.rt] ps = true) : (State.stampFence s t p).rest ps = s.rest ps := Part.lift hps rfl

theorem State.giveNbr_rest (s : State) (t p : Nat) (st : Nbr) {ps : List Part} (hps : Part.sub [.regs, .rt, .ni, .owed, .wakeQ] ps = true) : (State.giveNbr s t p st).rest ps = s.rest ps := Part.lift hps (by
  simp only [State.giveNbr]
  (repeat' split) <;> first | (with_reducible rfl) | (simp (disch := first | decide | (intros; (try dsimp only); (repeat' split) <;> first | (with_reducible rfl) | (simp (disch := decide) only [State.rest_ite, ite_self, foldl_rest, State.rest_regs, State.rest_rt, State.rest_ni, State.rest_owed, State.rest_wakeQ, State.goUnreach_rest, State.wakeAt_rest, State.stampFence_rest, State.modRt_rest, State.noteFence_rest, State.dropSynth_rest]; done) | fail) | fail) only [State.goUnreach_rest, State.wakeAt_rest, State.stampFence_rest, State.modRt_rest, State.rest_ite, ite_self, State.noteFence_rest, State.dropSynth_rest]; done) | rfl)

theorem State.acceptNbr_rest (s : State) (t p : Nat) {ps : List Part} (hps : Part.sub [.regs, .rt, .ni, .owed, .wakeQ] ps = true) : (State.acceptNbr s t p).rest ps = s.rest ps := Part.lift hps (by
  unfold State.acceptNbr
  (repeat' split) <;> first | rfl | simp (disch := decide) only [State.modRt_rest, State.giveNbr_rest])

theorem State.sendNbr_rest (s : State) (t p : Nat) (st : Nbr) {ps : List Part} (hps : Part.sub [.regs, .rt, .ni, .owed, .wakeQ] ps = true) : (State.sendNbr s t p st).rest ps = s.rest ps := Part.lift hps (by simp (disch := decide) only [State.sendNbr, State.rest_ite, ite_self, State.acceptNbr_rest, State.modRt_rest])

theorem execNeighbourStateChange_rest (t : Fin 192) (p : Fin 6) (seen : Nbr × Nbr) (s : State) {ps : List Part} (hps : Part.sub [.regs, .rt, .ni, .owed, .wakeQ] ps = true) : ∃ s', execNeighbourStateChange t p seen s = .next s' ∧ s'.rest ps = s.rest ps := by
  unfold execNeighbourStateChange
  (repeat' split) <;> exact ⟨_, rfl, Part.lift hps (by first | rfl | simp (disch := decide) only [State.rest_ite, ite_self, State.acceptNbr_rest])⟩

theorem execFenceClosedReport_rest (t : Fin 192) (p : Fin 6) (s : State) {ps : List Part} (hps : Part.sub [.rt, .dom] ps = true) : ∃ s', execFenceClosedReport t p s = .next s' ∧ s'.rest ps = s.rest ps := by
  simp only [execFenceClosedReport]
  (repeat' split) <;> exact ⟨_, rfl, Part.lift hps (by simp (disch := first | decide | (intros; simp (disch := decide) only [State.rest_ite, ite_self, foldl_rest, State.rest_rt, State.rest_dom, State.modDom_rest, State.modRt_rest]; done) | fail) only [State.modDom_rest, State.modRt_rest, State.rest_ite, ite_self])⟩

theorem execRtForceUnreachWrite_rest (t : Fin 192) (mask : BitVec 6) (s : State) {ps : List Part} (hps : Part.sub [.regs, .rt, .ni, .owed] ps = true) : ∃ s', execRtForceUnreachWrite t mask s = .next s' ∧ s'.rest ps = s.rest ps := by
  unfold execRtForceUnreachWrite
  (repeat' split) <;> exact ⟨_, rfl, Part.lift hps (by simp (disch := first | decide | (intros; simp (disch := decide) only [State.rest_ite, ite_self, foldl_rest, State.rest_regs, State.rest_rt, State.rest_ni, State.rest_owed, State.goUnreach_rest, State.setFld_rest]; done) | fail) only [foldl_rest, State.setFld_rest, State.rest_ite, ite_self, State.goUnreach_rest])⟩

theorem execGateWindowOpen_rest (t : Fin 192) (p : Fin 6) (s : State) {ps : List Part} (hps : Part.sub [.regs, .rt, .ni] ps = true) : ∃ s', execGateWindowOpen t p s = .next s' ∧ s'.rest ps = s.rest ps := by
  simp only [execGateWindowOpen]
  (repeat' split) <;> exact ⟨_, rfl, Part.lift hps (by simp (disch := first | decide | (intros; simp (disch := decide) only [State.rest_ite, ite_self, foldl_rest, State.rest_regs, State.rest_rt, State.rest_ni, State.modRt_rest, State.bump_rest, State.setFld_rest, State.occursRt_rest, State.reportRt_rest]; done) | fail) only [State.rest_ite, ite_self, State.modRt_rest, State.bump_rest, State.setFld_rest, State.occursRt_rest, State.reportRt_rest])⟩

theorem execGateUnionEnd_rest (t : Fin 192) (s : State) {ps : List Part} (hps : Part.sub [.rt] ps = true) : ∃ s', execGateUnionEnd t s = .next s' ∧ s'.rest ps = s.rest ps := by
  unfold execGateUnionEnd
  (repeat' split) <;> exact ⟨_, rfl, Part.lift hps (by first | rfl | simp (disch := decide) only [State.rest_ite, ite_self, foldl_rest, State.rest_rt, State.modRt_rest])⟩

theorem State.copyHist_rest (s : State) (data : Nat → Nat) (info : Nat) (h : Hist) {ps : List Part} (hps : Part.sub [.regs] ps = true) : (State.copyHist s data info h).rest ps = s.rest ps := Part.lift hps (by
  simp (disch := first | decide | (intros; simp (disch := decide) only [State.rest_ite, ite_self, foldl_rest, State.rest_regs, State.wr_rest]; done) | fail) only [State.copyHist, foldl_rest, State.wr_rest])

theorem State.selectRt_rest (s : State) (t q : Nat) {ps : List Part} (hps : Part.sub [.regs] ps = true) : (State.selectRt s t q).rest ps = s.rest ps := Part.lift hps (by simp (disch := decide) only [State.selectRt, State.copyHist_rest, State.setFld_rest])

theorem execRtHistSelect_rest (t : Fin 192) (q : BitVec 6) (s : State) {ps : List Part} (hps : Part.sub [.regs] ps = true) : ∃ s', execRtHistSelect t q s = .next s' ∧ s'.rest ps = s.rest ps := by
  unfold execRtHistSelect
  (repeat' split) <;> exact ⟨_, rfl, Part.lift hps (by simp (disch := first | decide | (intros; simp (disch := decide) only [State.rest_ite, ite_self, foldl_rest, State.rest_regs, State.selectRt_rest]; done) | fail) only [State.selectRt_rest])⟩

theorem execRtHistClear_rest (t : Fin 192) (q : BitVec 6) (s : State) {ps : List Part} (hps : Part.sub [.regs, .rt] ps = true) : ∃ s', execRtHistClear t q s = .next s' ∧ s'.rest ps = s.rest ps := by
  unfold execRtHistClear
  (repeat' split) <;> exact ⟨_, rfl, Part.lift hps (by simp (disch := first | decide | (intros; simp (disch := decide) only [State.rest_ite, ite_self, foldl_rest, State.rest_regs, State.rest_rt, State.selectRt_rest, State.modRt_rest]; done) | fail) only [State.selectRt_rest, State.modRt_rest])⟩

theorem execRtHistClearAll_rest (t : Fin 192) (s : State) {ps : List Part} (hps : Part.sub [.regs, .rt] ps = true) : ∃ s', execRtHistClearAll t s = .next s' ∧ s'.rest ps = s.rest ps := by
  unfold execRtHistClearAll
  (repeat' split) <;> exact ⟨_, rfl, Part.lift hps (by simp (disch := first | decide | (intros; simp (disch := decide) only [State.rest_ite, ite_self, foldl_rest, State.rest_regs, State.rest_rt, State.selectRt_rest, State.modRt_rest]; done) | fail) only [State.selectRt_rest, State.modRt_rest])⟩

theorem State.selectNi_rest (s : State) (n q : Nat) {ps : List Part} (hps : Part.sub [.regs] ps = true) : (State.selectNi s n q).rest ps = s.rest ps := Part.lift hps (by simp (disch := decide) only [State.selectNi, State.setFld_rest, State.copyHist_rest, State.rest_ite, ite_self])

theorem execNiHistSelect_rest (n : Fin 256) (q : BitVec 4) (s : State) {ps : List Part} (hps : Part.sub [.regs] ps = true) : ∃ s', execNiHistSelect n q s = .next s' ∧ s'.rest ps = s.rest ps := by
  unfold execNiHistSelect
  (repeat' split) <;> exact ⟨_, rfl, Part.lift hps (by simp (disch := first | decide | (intros; simp (disch := decide) only [State.rest_ite, ite_self, foldl_rest, State.rest_regs, State.selectNi_rest]; done) | fail) only [State.selectNi_rest])⟩

theorem execNiHistClear_rest (n : Fin 256) (q : BitVec 4) (s : State) {ps : List Part} (hps : Part.sub [.regs, .ni] ps = true) : ∃ s', execNiHistClear n q s = .next s' ∧ s'.rest ps = s.rest ps := by
  unfold execNiHistClear
  (repeat' split) <;> exact ⟨_, rfl, Part.lift hps (by simp (disch := first | decide | (intros; simp (disch := decide) only [State.rest_ite, ite_self, foldl_rest, State.rest_regs, State.rest_ni, State.modNi_rest, State.selectNi_rest]; done) | fail) only [State.modNi_rest, State.selectNi_rest])⟩

theorem execNiHistClearAll_rest (n : Fin 256) (s : State) {ps : List Part} (hps : Part.sub [.regs, .ni] ps = true) : ∃ s', execNiHistClearAll n s = .next s' ∧ s'.rest ps = s.rest ps := by
  unfold execNiHistClearAll
  (repeat' split) <;> exact ⟨_, rfl, Part.lift hps (by simp (disch := first | decide | (intros; simp (disch := decide) only [State.rest_ite, ite_self, foldl_rest, State.rest_regs, State.rest_ni, State.modNi_rest, State.selectNi_rest]; done) | fail) only [State.modNi_rest, State.selectNi_rest])⟩

theorem execQueueSample_rest (u : SampleUnit) (s : State) {ps : List Part} (hps : Part.sub [.rt, .ni] ps = true) : ∃ s', execQueueSample u s = .next s' ∧ s'.rest ps = s.rest ps := by
  unfold execQueueSample
  (repeat' split) <;> exact ⟨_, rfl, Part.lift hps (by first | rfl | simp (disch := decide) only [State.rest_ite, ite_self, foldl_rest, State.rest_rt, State.rest_ni, State.modNi_rest, State.modRt_rest])⟩

theorem State.tableErr_rest (s : State) (n bank : Nat) (e : ReadErr) {ps : List Part} (hps : Part.sub [.regs, .tabBad, .ni] ps = true) : (State.tableErr s n bank e).rest ps = s.rest ps := Part.lift hps (by
  unfold State.tableErr
  (repeat' split) <;> first | rfl | simp (disch := decide) only [State.rest_ite, ite_self, State.rest_tabBad, State.reportNi_rest, State.modNi_rest, State.occursNi_rest])

theorem State.staleCheck_rest (s : State) (n epoch : Nat) {ps : List Part} (hps : Part.sub [.regs, .ni] ps = true) : (State.staleCheck s n epoch).rest ps = s.rest ps := Part.lift hps (by simp (disch := decide) only [State.staleCheck, State.rest_ite, ite_self, State.reportNi_rest, State.modNi_rest, State.occursNi_rest])

theorem State.noRoute_rest (s : State) (n dest vn : Nat) {ps : List Part} (hps : Part.sub [.regs, .ni] ps = true) : (State.noRoute s n dest vn).rest ps = s.rest ps := Part.lift hps (by simp (disch := decide) only [State.noRoute, State.rest_ite, ite_self, State.reportNi_rest, State.modNi_rest, State.bump_rest, State.setFld_rest, State.occursNi_rest])

theorem State.present_rest (s : State) (n : Nat) (c : Completion) (h : Option Hdr) {ps : List Part} (hps : Part.sub [.regs, .ni] ps = true) : (State.present s n c h).rest ps = s.rest ps := Part.lift hps (by simp (disch := decide) only [State.present, State.evNi_rest, State.modNi_rest])

theorem State.localDone_rest (s : State) (n : Nat) (r : Req) (epoch resp : Nat) {ps : List Part} (hps : Part.sub [.regs, .ni] ps = true) : (State.localDone s n r epoch resp).rest ps = s.rest ps := Part.lift hps (by simp (disch := decide) only [State.localDone, State.present_rest, State.evNi_rest])

theorem State.discardReq_rest (s : State) (n : Nat) (r : Req) {ps : List Part} (hps : Part.sub [.regs, .ni] ps = true) : (State.discardReq s n r).rest ps = s.rest ps := Part.lift hps (by simp (disch := decide) only [State.discardReq, State.rest_ite, ite_self, State.bump_rest, State.report_rest, State.setFld_rest, State.reportAt_rest])

theorem State.failReq_rest (s : State) (n : Nat) (r : Req) (epoch resp : Nat) {ps : List Part} (hps : Part.sub [.regs, .ni] ps = true) : (State.failReq s n r epoch resp).rest ps = s.rest ps := Part.lift hps (by simp (disch := decide) only [State.failReq, State.rest_ite, ite_self, State.localDone_rest, State.discardReq_rest])

theorem State.failFence_rest (s : State) (n : Nat) (r : Req) {ps : List Part} (hps : Part.sub [.regs, .ni] ps = true) : (State.failFence s n r).rest ps = s.rest ps := Part.lift hps (by simp (disch := decide) only [State.failFence, State.rest_ite, ite_self, State.localDone_rest, State.bump_rest, State.discardReq_rest])

theorem State.touchShapersAt_rest (s : State) (n now : Nat) {ps : List Part} (hps : Part.sub [.ni] ps = true) : (State.touchShapersAt s n now).rest ps = s.rest ps := Part.lift hps (by simp (disch := decide) only [State.touchShapersAt, foldl_rest, State.modNi_rest])

theorem State.touchShapers_rest (s : State) (n : Nat) {ps : List Part} (hps : Part.sub [.ni] ps = true) : (State.touchShapers s n).rest ps = s.rest ps := Part.lift hps rfl

theorem State.shaperSent_rest (s : State) (n p : Nat) {ps : List Part} (hps : Part.sub [.ni] ps = true) : (State.shaperSent s n p).rest ps = s.rest ps := Part.lift hps (by simp (disch := decide) only [State.shaperSent, State.rest_ite, ite_self, State.modNi_rest])

theorem State.enqueue_rest (s : State) (n : Nat) (pri : Nat) (flow : Option Nat) (q : QPkt) {ps : List Part} (hps : Part.sub [.ni] ps = true) : (State.enqueue s n pri flow q).rest ps = s.rest ps := Part.lift hps rfl

theorem State.queueMgt_rest (s : State) (n dest : Nat) (p : Pkt) {ps : List Part} (hps : Part.sub [.ni] ps = true) : (State.queueMgt s n dest p).rest ps = s.rest ps := Part.lift hps rfl

theorem State.leafSample_rest (s : State) (n dest : Nat) (h : Hdr) {ps : List Part} (hps : Part.sub [.regs, .ni] ps = true) : (State.leafSample s n dest h).1.rest ps = s.rest ps := Part.lift hps (by
  simp only [State.leafSample]
  split
  · with_reducible rfl
  split
  · split
    · simp (disch := decide) only [State.rest_ite, ite_self, State.evNi_rest, State.reportNi_rest, State.occursNi_rest, State.modNi_rest, State.bump_rest]
    · split <;> simp (disch := decide) only [State.rest_ite, ite_self, State.evNi_rest, State.reportNi_rest, State.occursNi_rest, State.modNi_rest, State.bump_rest]
  · simp (disch := decide) only [State.rest_ite, ite_self, State.evNi_rest, State.reportNi_rest, State.occursNi_rest, State.modNi_rest, State.bump_rest])

theorem State.leafSample_eq (s : State) (n dest : Nat) (h : Hdr) {r0 : State} {r1 : Hdr} {ps : List Part} (hr : State.leafSample s n dest h = (r0, r1)) (hps : Part.sub [.regs, .ni] ps = true) : r0.rest ps = s.rest ps := by
  have e := State.leafSample_rest s n dest h hps
  rw [hr] at e
  exact e

theorem State.takeTag_rest (s : State) (n t : Nat) (x : Tag) {ps : List Part} (hps : Part.sub [.ni] ps = true) : (State.takeTag s n t x).rest ps = s.rest ps := Part.lift hps rfl

theorem State.dropTag_rest (s : State) (n t : Nat) {ps : List Part} (hps : Part.sub [.ni] ps = true) : (State.dropTag s n t).rest ps = s.rest ps := Part.lift hps rfl

theorem State.pieceDone_rest (s : State) (n x place resp msg : Nat) (lines : List Body) (dest tag rx : Nat) (synth : Bool) {ps : List Part} (hps : Part.sub [.regs, .ni] ps = true) : (State.pieceDone s n x place resp msg lines dest tag rx synth).rest ps = s.rest ps := Part.lift hps (by
  unfold State.pieceDone
  (repeat' split) <;> first | rfl | simp (disch := decide) only [State.rest_ite, ite_self, State.present_rest, State.modNi_rest])

theorem State.synthDone_rest (s : State) (n t : Nat) (x : Tag) (resp : Nat) {ps : List Part} (hps : Part.sub [.regs, .ni] ps = true) : (State.synthDone s n t x resp).rest ps = s.rest ps := Part.lift hps (by
  unfold State.synthDone
  (repeat' split) <;> first | rfl | simp (disch := decide) only [State.pieceDone_rest, State.rest_ite, ite_self, State.modNi_rest])

theorem State.oversize_rest (s : State) (n vn : Nat) (tooLong : Option Nat) {ps : List Part} (hps : Part.sub [.regs, .ni] ps = true) : (State.oversize s n vn tooLong).rest ps = s.rest ps := Part.lift hps (by
  unfold State.oversize
  (repeat' split) <;> first | rfl | simp (disch := decide) only [State.rest_ite, ite_self, State.reportNi_rest, State.modNi_rest, State.bump_rest, State.occursNi_rest])

theorem State.meterStep_eq (s : State) (n : Nat) (r : Req) (pri : Nat) (gt : Bool) {r0 : State} {r1 : Nat} {r2 : Nat} {r3 : Bool} {ps : List Part} (hr : State.meterStep s n r pri gt = (r0, r1, r2, r3)) (hps : Part.sub [.regs, .ni] ps = true) : r0.rest ps = s.rest ps := Part.lift hps (by
  simp only [State.meterStep] at hr
  (repeat' split at hr) <;> (try cases hr) <;> first | (with_reducible rfl) | contradiction | (simp (disch := first | decide | (intros; (try dsimp only); (repeat' split) <;> first | (with_reducible rfl) | (simp (disch := decide) only [State.rest_ite, ite_self, foldl_rest, State.rest_regs, State.rest_ni, State.evNi_rest, State.reportNi_rest, State.modNi_rest, State.occursNi_rest]; done) | fail) | fail) only [State.evNi_rest, State.reportNi_rest, State.modNi_rest, State.rest_ite, ite_self, State.occursNi_rest]; done) | rfl)

theorem State.meterStep_rest (s : State) (n : Nat) (r : Req) (pri : Nat) (gt : Bool) {ps : List Part} (hps : Part.sub [.regs, .ni] ps = true) : (State.meterStep s n r pri gt).1.rest ps = s.rest ps := Part.lift hps (by
  simp only [State.meterStep]
  (repeat' split) <;> first | rfl | simp (disch := first | decide | (intros; simp (disch := decide) only [State.rest_ite, ite_self, foldl_rest, State.rest_regs, State.rest_ni, State.evNi_rest, State.reportNi_rest, State.modNi_rest, State.occursNi_rest]; done) | fail) only [State.evNi_rest, State.reportNi_rest, State.modNi_rest, State.rest_ite, ite_self, State.occursNi_rest])

theorem State.toStep6_rest (s : State) (n : Nat) (r : Req) (seq epoch colour pri : Nat) (flow : Option Nat) (rt : Routed) {ps : List Part} (hps : Part.sub [.ni] ps = true) : (State.toStep6 s n r seq epoch colour pri flow rt).rest ps = s.rest ps := Part.lift hps rfl

theorem State.step45_rest (s : State) (n : Nat) (r : Req) (seq epoch dest : Nat) {ps : List Part} (hps : Part.sub [.regs, .ni] ps = true) : (State.step45 s n r seq epoch dest).rest ps = s.rest ps := Part.lift hps (by
  simp only [State.step45]
  (repeat' split) <;> first | rfl | simp (disch := first | decide | (intros; simp (disch := decide) only [State.rest_ite, ite_self, foldl_rest, State.rest_regs, State.rest_ni, State.toStep6_rest, State.noRoute_rest, State.evNi_rest, State.oversize_rest, State.bump_rest, State.failReq_rest, State.meterStep_rest, State.localDone_rest]; done) | fail) only [State.toStep6_rest, State.noRoute_rest, State.evNi_rest, State.oversize_rest, State.bump_rest, State.failReq_rest, State.meterStep_rest, State.rest_ite, ite_self, State.localDone_rest])

theorem State.failDecode_rest (s : State) (n : Nat) (r : Req) (epoch : Nat) (dgt : Bool) (resp : Nat) {ps : List Part} (hps : Part.sub [.regs, .ni] ps = true) : (State.failDecode s n r epoch dgt resp).rest ps = s.rest ps := Part.lift hps (by simp (disch := decide) only [State.failDecode, State.setFld_rest, State.reportNi_rest, State.failReq_rest, State.rest_ite, ite_self])

theorem State.step3_rest (s : State) (n : Nat) (r : Req) (seq epoch : Nat) {ps : List Part} (hps : Part.sub [.regs, .ni] ps = true) : (State.step3 s n r seq epoch).rest ps = s.rest ps := Part.lift hps (by
  simp only [State.step3]
  (repeat' split) <;> first | rfl | simp (disch := first | decide | (intros; simp (disch := decide) only [State.rest_ite, ite_self, foldl_rest, State.rest_regs, State.rest_ni, State.staleCheck_rest, State.step45_rest, State.failDecode_rest, State.noRoute_rest, State.modNi_rest, State.bump_rest, State.failReq_rest]; done) | fail) only [State.staleCheck_rest, State.step45_rest, State.failDecode_rest, State.noRoute_rest, State.modNi_rest, State.bump_rest, State.failReq_rest, State.rest_ite, ite_self])

theorem State.strainerFail_rest (s : State) (n : Nat) (r : Req) (epoch : Nat) (reason : Nat) {ps : List Part} (hps : Part.sub [.regs, .ni] ps = true) : (State.strainerFail s n r epoch reason).rest ps = s.rest ps := Part.lift hps (by simp (disch := decide) only [State.strainerFail, State.rest_ite, ite_self, State.wr_rest, State.evNi_rest, State.reportAt_rest, State.modNi_rest, State.bump_rest, State.failReq_rest])

theorem State.step2check_rest (s : State) (n : Nat) (r : Req) (seq epoch : Nat) {ps : List Part} (hps : Part.sub [.regs, .ni] ps = true) : (State.step2check s n r seq epoch).rest ps = s.rest ps := Part.lift hps (by
  unfold State.step2check
  (repeat' split) <;> first | rfl | simp (disch := decide) only [State.strainerFail_rest, State.step3_rest, State.bump_rest, State.rest_ite, ite_self])

theorem State.markStale_rest (s : State) (n : Nat) {ps : List Part} (hps : Part.sub [.regs, .ni] ps = true) : (State.markStale s n).rest ps = s.rest ps := Part.lift hps rfl

theorem State.shadowUe_rest (s : State) (n : Nat) {ps : List Part} (hps : Part.sub [.regs, .ni] ps = true) : (State.shadowUe s n).rest ps = s.rest ps := Part.lift hps (by simp (disch := decide) only [State.shadowUe, State.reportNi_rest, State.bump_rest, State.markStale_rest])

theorem State.step2_rest (s : State) (n : Nat) (r : Req) (seq : Nat) (e : ReadErr) {ps : List Part} (hps : Part.sub [.regs, .ni] ps = true) : (State.step2 s n r seq e).rest ps = s.rest ps := Part.lift hps (by simp (disch := decide) only [State.step2, State.rest_ite, ite_self, State.step2check_rest, State.modNi_rest, State.shadowUe_rest, State.bump_rest])

theorem State.takeReq_rest (s : State) (n : Nat) (r : Req) (e : ReadErr) {ps : List Part} (hps : Part.sub [.regs, .tabBad, .ni] ps = true) : (State.takeReq s n r e).rest ps = s.rest ps := Part.lift hps (by simp (disch := decide) only [State.takeReq, State.rest_ite, ite_self, State.failFence_rest, State.step2_rest, State.tableErr_rest, State.modNi_rest])

theorem State.presentReq_rest (s : State) (n : Nat) (r : Req) (e : ReadErr) {ps : List Part} (hps : Part.sub [.regs, .tabBad, .ni, .wakeQ] ps = true) : (State.presentReq s n r e).rest ps = s.rest ps := Part.lift hps (by simp (disch := decide) only [State.presentReq, State.rest_ite, ite_self, State.askWake_rest, State.takeReq_rest, State.modNi_rest])

theorem State.admitHeld_rest (s : State) (n : Nat) {ps : List Part} (hps : Part.sub [.regs, .tabBad, .ni] ps = true) : (State.admitHeld s n).rest ps = s.rest ps := Part.lift hps (by
  simp (disch := first | decide | (intros; simp (disch := decide) only [State.rest_ite, ite_self, foldl_rest, State.rest_regs, State.rest_tabBad, State.rest_ni, State.takeReq_rest, State.modNi_rest]; done) | fail) only [State.admitHeld, foldl_rest, State.modNi_rest, State.takeReq_rest])

theorem State.checkHeld_rest (s : State) (n : Nat) {ps : List Part} (hps : Part.sub [.regs, .ni] ps = true) : (State.checkHeld s n).rest ps = s.rest ps := Part.lift hps (by
  simp (disch := first | decide | (intros; simp (disch := decide) only [State.rest_ite, ite_self, foldl_rest, State.rest_regs, State.rest_ni, State.modNi_rest, State.step2check_rest]; done) | fail) only [State.checkHeld, State.rest_ite, ite_self, foldl_rest, State.modNi_rest, State.step2check_rest])

theorem State.refenceHeld_rest (s : State) (n : Nat) {ps : List Part} (hps : Part.sub [.regs, .ni] ps = true) : (State.refenceHeld s n).rest ps = s.rest ps := Part.lift hps (by
  simp (disch := first | decide | (intros; simp (disch := decide) only [State.rest_ite, ite_self, foldl_rest, State.rest_regs, State.rest_ni, State.failFence_rest, State.modNi_rest]; done) | fail) only [State.refenceHeld, foldl_rest, State.modNi_rest, State.failFence_rest])

theorem State.setLeafRec_rest (s : State) (n k : Nat) (r : Option LeafRec) {ps : List Part} (hps : Part.sub [.ni] ps = true) : (State.setLeafRec s n k r).rest ps = s.rest ps := Part.lift hps rfl

theorem State.closeLeaf_rest (s : State) (n k : Nat) (r : LeafRec) (incomplete : Bool) {ps : List Part} (hps : Part.sub [.regs, .tabBad, .ni, .wakeQ] ps = true) : (State.closeLeaf s n k r incomplete).rest ps = s.rest ps := Part.lift hps (by simp (disch := decide) only [State.closeLeaf, State.modNi_rest, State.setLeafRec_rest, State.presentReq_rest, State.rest_ite, ite_self, State.takeReq_rest])

theorem State.cutLeaf_rest (s : State) (n k : Nat) (r : LeafRec) {ps : List Part} (hps : Part.sub [.regs, .tabBad, .ni, .wakeQ] ps = true) : (State.cutLeaf s n k r).rest ps = s.rest ps := Part.lift hps (by simp (disch := decide) only [State.cutLeaf, State.bump_rest, State.closeLeaf_rest])

end Sys2Proof.Machine
end

