-- ==== Sys2Proof/Laws/FrameHome.lean ====
section
/-! SUPPORT. Which components of the state each operation and each command may change: ports, home slices and snapshots.
A lemma named after a function says that nothing else differs; of a command it says also that the command answers a next state. -/
namespace Sys2Proof.Machine

theorem State.handOver_rest (s : State) (n dest : Nat) (p : Pkt) (pri : Option Nat) (ident : Nat) {ps : List Part} (hps : Part.sub [.ni] ps = true) : (State.handOver s n dest p pri ident).rest ps = s.rest ps := Part.lift hps rfl

theorem State.answer_rest (s : State) (n : Nat) (q : Hdr) (vn op resp msg : Nat) (lines : List Body) {ps : List Part} (hps : Part.sub [.ni] ps = true) : (State.answer s n q vn op resp msg lines).rest ps = s.rest ps := Part.lift hps rfl

theorem State.answerErr_rest (s : State) (n : Nat) (q : Hdr) (resp : Nat) {ps : List Part} (hps : Part.sub [.ni] ps = true) : (State.answerErr s n q resp).rest ps = s.rest ps := Part.lift hps (by simp (disch := decide) only [State.answerErr, State.rest_ite, ite_self, State.answer_rest])

theorem State.takeIn_eq (s : State) (n vn : Nat) (ok : Pkt → Bool) {r0 : Pkt} {r1 : Nat} {r2 : State} {ps : List Part} (hr : State.takeIn s n vn ok = some (r0, r1, r2)) (hps : Part.sub [.ni] ps = true) : r2.rest ps = s.rest ps := Part.lift hps (by
  simp only [State.takeIn] at hr
  (repeat' split at hr) <;> (try cases hr) <;> first | (with_reducible rfl) | contradiction | (simp (disch := first | decide | (intros; (try dsimp only); (repeat' split) <;> first | (with_reducible rfl) | (simp (disch := decide) only [State.rest_ite, ite_self, foldl_rest, State.rest_ni, State.modNi_rest]; done) | fail) | fail) only [State.modNi_rest, State.rest_ite, ite_self]; done) | rfl)

theorem State.setPort_rest (s : State) (n : Nat) (x : Port) {ps : List Part} (hps : Part.sub [.port] ps = true) : (State.setPort s n x).rest ps = s.rest ps := Part.lift hps rfl

theorem State.modPort_rest (s : State) (n : Nat) (f : Port → Port) {ps : List Part} (hps : Part.sub [.port] ps = true) : (State.modPort s n f).rest ps = s.rest ps := Part.lift hps rfl

theorem State.portOut_rest (s : State) (n : Nat) (m : PortMsg) {ps : List Part} (hps : Part.sub [.port] ps = true) : (State.portOut s n m).rest ps = s.rest ps := Part.lift hps (by simp (disch := decide) only [State.portOut, State.rest_ite, ite_self, State.modPort_rest])

theorem State.portUnsup_rest (s : State) (n vn : Nat) {ps : List Part} (hps : Part.sub [.regs, .ni, .port] ps = true) : (State.portUnsup s n vn).rest ps = s.rest ps := Part.lift hps (by simp (disch := decide) only [State.portUnsup, State.rest_ite, ite_self, State.bump_rest, State.setFld_rest, State.modPort_rest, State.reportNi_rest, State.occursNi_rest])

theorem State.portProtocol_rest (s : State) (n tag vn : Nat) {ps : List Part} (hps : Part.sub [.regs, .ni] ps = true) : (State.portProtocol s n tag vn).rest ps = s.rest ps := Part.lift hps (by simp (disch := decide) only [State.portProtocol, State.setFld_rest, State.reportNi_rest])

theorem State.portPwErr_rest (s : State) (n vn : Nat) {ps : List Part} (hps : Part.sub [.regs, .ni] ps = true) : (State.portPwErr s n vn).rest ps = s.rest ps := Part.lift hps (by simp (disch := decide) only [State.portPwErr, State.setFld_rest, State.reportNi_rest, State.bump_rest])

theorem State.portCohProtocol_rest (s : State) (n tag : Nat) {ps : List Part} (hps : Part.sub [.regs, .ni] ps = true) : (State.portCohProtocol s n tag).rest ps = s.rest ps := Part.lift hps (by simp (disch := decide) only [State.portCohProtocol, State.reportNi_rest])

theorem State.agentRefused_rest (s : State) (n : Nat) (r : Req) {ps : List Part} (hps : Part.sub [.regs, .ni] ps = true) : (State.agentRefused s n r).rest ps = s.rest ps := Part.lift hps (by simp (disch := decide) only [State.agentRefused, State.rest_ite, ite_self, State.reportNi_rest, State.modNi_rest, State.failReq_rest, State.setFld_rest, State.occursNi_rest])

theorem State.presentExt_rest (s : State) (n : Nat) (r : Req) (e : ReadErr) {ps : List Part} (hps : Part.sub [.regs, .tabBad, .ni, .wakeQ] ps = true) : (State.presentExt s n r e).rest ps = s.rest ps := Part.lift hps (by simp (disch := decide) only [State.presentExt, State.rest_ite, ite_self, State.agentRefused_rest, State.presentReq_rest])

theorem State.openExt_rest (s : State) (n : Nat) (k : ExtKind) (tag : Nat) (data : List Body) (r : Req) (e : ReadErr) {ps : List Part} (hps : Part.sub [.regs, .tabBad, .ni, .port, .wakeQ] ps = true) : (State.openExt s n k tag data r e).rest ps = s.rest ps := Part.lift hps (by simp (disch := decide) only [State.openExt, State.presentExt_rest, State.modPort_rest, State.rest_ite, ite_self])

theorem State.releaseHeld_rest (s : State) (n i : Nat) {ps : List Part} (hps : Part.sub [.ni, .port] ps = true) : (State.releaseHeld s n i).rest ps = s.rest ps := Part.lift hps (by
  simp (disch := first | decide | (intros; (try dsimp only); (repeat' split) <;> first | (with_reducible rfl) | (simp (disch := decide) only [State.rest_ite, ite_self, foldl_rest, State.rest_ni, State.rest_port, State.handOver_rest, State.modPort_rest]; done) | fail) | fail) only [State.releaseHeld, foldl_rest, State.modPort_rest, State.handOver_rest])

theorem State.sendOwn_rest (s : State) (n : Nat) (c : Completion) (wdata : Bool) (lines : List Body) {ps : List Part} (hps : Part.sub [.ni] ps = true) : (State.sendOwn s n c wdata lines).rest ps = s.rest ps := Part.lift hps rfl

theorem State.answerRead_rest (s : State) (n : Nat) (x : ExtReq) (c : Completion) (upg : Bool) {ps : List Part} (hps : Part.sub [.regs, .ni, .port] ps = true) : (State.answerRead s n x c upg).rest ps = s.rest ps := Part.lift hps (by
  simp only [State.answerRead]
  (repeat' split) <;> first | rfl | simp (disch := first | decide | (intros; simp (disch := decide) only [State.rest_ite, ite_self, foldl_rest, State.rest_regs, State.rest_ni, State.rest_port, State.portOut_rest, State.sendOwn_rest, State.portPwErr_rest]; done) | fail) only [State.portOut_rest, State.sendOwn_rest, State.portPwErr_rest, State.rest_ite, ite_self])

theorem State.sendWdata_rest (s : State) (n : Nat) (x : ExtReq) (c : Completion) {ps : List Part} (hps : Part.sub [.ni, .port] ps = true) : (State.sendWdata s n x c).rest ps = s.rest ps := Part.lift hps rfl

theorem State.staleWri_rest (s : State) (n : Nat) (x : ExtReq) (c : Completion) (e : ReadErr) {ps : List Part} (hps : Part.sub [.regs, .tabBad, .ni, .port, .wakeQ] ps = true) : (State.staleWri s n x c e).rest ps = s.rest ps := Part.lift hps (by simp (disch := decide) only [State.staleWri, State.releaseHeld_rest, State.bump_rest, State.presentReq_rest])

theorem State.answerSnoop_rest (s : State) (n : Nat) (x : ExtReq) (op : Nat) (c : Completion) {ps : List Part} (hps : Part.sub [.regs, .ni, .port] ps = true) : (State.answerSnoop s n x op c).rest ps = s.rest ps := Part.lift hps (by simp (disch := decide) only [State.answerSnoop, State.rest_ite, ite_self, State.portOut_rest, State.portProtocol_rest])

theorem State.serveExt_rest (s : State) (n : Nat) (x : ExtReq) (c : Completion) (e : ReadErr) {ps : List Part} (hps : Part.sub [.regs, .tabBad, .ni, .port, .wakeQ] ps = true) : (State.serveExt s n x c e).rest ps = s.rest ps := Part.lift hps (by
  simp only [State.serveExt]
  (repeat' split) <;> first | (with_reducible rfl) | (simp (disch := first | decide | (intros; (try dsimp only); (repeat' split) <;> first | (with_reducible rfl) | (simp (disch := decide) only [State.rest_ite, ite_self, foldl_rest, State.rest_regs, State.rest_tabBad, State.rest_ni, State.rest_port, State.rest_wakeQ, State.modPort_rest, State.answerRead_rest, State.portOut_rest, State.portPwErr_rest, State.releaseHeld_rest, State.staleWri_rest, State.sendWdata_rest, State.answerSnoop_rest]; done) | fail) | fail) only [State.rest_ite, ite_self, State.modPort_rest, State.answerRead_rest, State.portOut_rest, State.portPwErr_rest, State.releaseHeld_rest, State.staleWri_rest, State.sendWdata_rest, State.answerSnoop_rest]; done) | rfl)

theorem State.toChiplet_rest (s : State) (n : Nat) (p : Pkt) {ps : List Part} (hps : Part.sub [.wire] ps = true) : (State.toChiplet s n p).rest ps = s.rest ps := Part.lift hps (by simp (disch := decide) only [State.toChiplet, State.rest_ite, ite_self, State.setWire_rest])

theorem State.claDeliver_rest (s : State) (n i : Nat) (p : Pkt) {ps : List Part} (hps : Part.sub [.wire] ps = true) : (State.claDeliver s n i p).rest ps = s.rest ps := Part.lift hps (by simp (disch := decide) only [State.claDeliver, State.toChiplet_rest, State.rest_ite, ite_self])

theorem State.serveChiplet_rest (s : State) (n : Nat) (c : Completion) {ps : List Part} (hps : Part.sub [.port, .wire] ps = true) : (State.serveChiplet s n c).rest ps = s.rest ps := Part.lift hps (by simp (disch := decide) only [State.serveChiplet, State.rest_ite, ite_self, State.claDeliver_rest, State.modPort_rest])

theorem State.serveComp_rest (s : State) (n : Nat) (c : Completion) (e : ReadErr) {ps : List Part} (hps : Part.sub [.regs, .tabBad, .ni, .port, .wire, .wakeQ] ps = true) : (State.serveComp s n c e).rest ps = s.rest ps := Part.lift hps (by
  simp only [State.serveComp]
  (repeat' split) <;> first | (with_reducible rfl) | (simp (disch := first | decide | (intros; (try dsimp only); (repeat' split) <;> first | (with_reducible rfl) | (simp (disch := decide) only [State.rest_ite, ite_self, foldl_rest, State.rest_regs, State.rest_tabBad, State.rest_ni, State.rest_port, State.rest_wire, State.rest_wakeQ, State.serveChiplet_rest, State.serveExt_rest]; done) | fail) | fail) only [State.serveChiplet_rest, State.serveExt_rest]; done) | rfl)

theorem State.serveComps_rest (s : State) (n : Nat) (e : ReadErr) {ps : List Part} (hps : Part.sub [.regs, .tabBad, .ni, .port, .wire, .wakeQ] ps = true) : (State.serveComps s n e).rest ps = s.rest ps := Part.lift hps (by
  simp (disch := first | decide | (intros; simp (disch := decide) only [State.rest_ite, ite_self, foldl_rest, State.rest_regs, State.rest_tabBad, State.rest_ni, State.rest_port, State.rest_wire, State.rest_wakeQ, State.serveComp_rest, State.modNi_rest]; done) | fail) only [State.serveComps, State.rest_ite, ite_self, foldl_rest, State.modNi_rest, State.serveComp_rest])

theorem State.recordClosed_rest (s : State) (n tag : Nat) {ps : List Part} (hps : Part.sub [.ni, .port] ps = true) : (State.recordClosed s n tag).rest ps = s.rest ps := Part.lift hps (by
  unfold State.recordClosed
  (repeat' split) <;> first | rfl | simp (disch := decide) only [State.portOut_rest, State.releaseHeld_rest, State.modPort_rest])

theorem State.setSlice_rest (s : State) (h : Nat) (x : Slice) {ps : List Part} (hps : Part.sub [.slice] ps = true) : (State.setSlice s h x).rest ps = s.rest ps := Part.lift hps rfl

theorem State.modSlice_rest (s : State) (h : Nat) (f : Slice → Slice) {ps : List Part} (hps : Part.sub [.slice] ps = true) : (State.modSlice s h f).rest ps = s.rest ps := Part.lift hps rfl

theorem State.reportHs_rest (s : State) (h : Nat) (k : FaultKind) (set way spare store : Nat) {ps : List Part} (hps : Part.sub [.regs, .ni] ps = true) : (State.reportHs s h k set way spare store).rest ps = s.rest ps := Part.lift hps (by simp (disch := decide) only [State.reportHs, State.report_rest])

theorem State.cohProtocol_rest (s : State) (h src agent line : Nat) {ps : List Part} (hps : Part.sub [.regs, .ni] ps = true) : (State.cohProtocol s h src agent line).rest ps = s.rest ps := Part.lift hps (by simp (disch := decide) only [State.cohProtocol, State.reportAt_rest])

theorem State.cohPoison_rest (s : State) (h agent line : Nat) {ps : List Part} (hps : Part.sub [.regs, .ni] ps = true) : (State.cohPoison s h agent line).rest ps = s.rest ps := Part.lift hps (by simp (disch := decide) only [State.cohPoison, State.evHs_rest, State.reportAt_rest])

theorem State.modTx_rest (s : State) (h num : Nat) (f : Tx → Tx) {ps : List Part} (hps : Part.sub [.slice] ps = true) : (State.modTx s h num f).rest ps = s.rest ps := Part.lift hps rfl

theorem State.countDemand_rest (s : State) (h : Nat) (p : Pkt) (dest : Nat) {ps : List Part} (hps : Part.sub [.regs] ps = true) : (State.countDemand s h p dest).rest ps = s.rest ps := Part.lift hps (by
  simp only [State.countDemand]
  (repeat' split) <;> first | rfl | simp (disch := first | decide | (intros; simp (disch := decide) only [State.rest_ite, ite_self, foldl_rest, State.rest_regs, State.evHs_rest]; done) | fail) only [State.evHs_rest, State.rest_ite, ite_self])

theorem State.sendDems_rest (s : State) (h : Nat) (l : List (Nat × Pkt × Nat)) {ps : List Part} (hps : Part.sub [.regs, .ni] ps = true) : (State.sendDems s h l).rest ps = s.rest ps := Part.lift hps (by
  simp (disch := first | decide | (intros; simp (disch := decide) only [State.rest_ite, ite_self, foldl_rest, State.rest_regs, State.rest_ni, State.countDemand_rest, State.handOver_rest]; done) | fail) only [State.sendDems, foldl_rest, State.countDemand_rest, State.handOver_rest])

theorem State.complete_rest (s : State) (h : Nat) (q : Hdr) (vn op resp msg : Nat) (lines : List Body) {ps : List Part} (hps : Part.sub [.regs, .ni] ps = true) : (State.complete s h q vn op resp msg lines).rest ps = s.rest ps := Part.lift hps (by simp (disch := decide) only [State.complete, State.rest_ite, ite_self, State.answer_rest, State.evHs_rest])

theorem State.cmpErr_rest (s : State) (h : Nat) (q : Hdr) (resp : Nat) {ps : List Part} (hps : Part.sub [.regs, .ni] ps = true) : (State.cmpErr s h q resp).rest ps = s.rest ps := Part.lift hps (by simp (disch := decide) only [State.cmpErr, State.complete_rest])

theorem State.retry_rest (s : State) (h : Nat) (q : Hdr) {ps : List Part} (hps : Part.sub [.regs, .ni] ps = true) : (State.retry s h q).rest ps = s.rest ps := Part.lift hps (by simp (disch := decide) only [State.retry, State.complete_rest])

theorem State.reserve_rest (s : State) (h num : Nat) {ps : List Part} (hps : Part.sub [.regs, .ni, .slice] ps = true) : (State.reserve s h num).rest ps = s.rest ps := Part.lift hps (by
  unfold State.reserve
  (repeat' split) <;> first | rfl | simp (disch := decide) only [State.rest_ite, ite_self, State.modTx_rest, State.complete_rest])

theorem State.flushTx_rest (s : State) (h num : Nat) (force : Bool) {ps : List Part} (hps : Part.sub [.regs, .ni, .slice] ps = true) : (State.flushTx s h num force).rest ps = s.rest ps := Part.lift hps (by
  unfold State.flushTx
  (repeat' split) <;> first | rfl | simp (disch := decide) only [State.modTx_rest, State.sendDems_rest, State.rest_ite, ite_self])

theorem State.ask_rest (s : State) (h num : Nat) (l : List Ask) {ps : List Part} (hps : Part.sub [.regs, .ni, .slice] ps = true) : (State.ask s h num l).rest ps = s.rest ps := Part.lift hps (by
  simp (disch := first | decide | (intros; simp (disch := decide) only [State.rest_ite, ite_self, foldl_rest, State.rest_regs, State.rest_ni, State.rest_slice, State.setSlice_rest, State.flushTx_rest, State.modTx_rest]; done) | fail) only [State.ask, foldl_rest, State.flushTx_rest, State.rest_ite, ite_self, State.modTx_rest, State.setSlice_rest])

theorem State.updateWear_rest (s : State) (h : Nat) {ps : List Part} (hps : Part.sub [.regs] ps = true) : (State.updateWear s h).rest ps = s.rest ps := Part.lift hps (by simp (disch := decide) only [State.updateWear, State.setFld_rest])

theorem State.repaired_rest (s : State) (h kind set way spare : Nat) {ps : List Part} (hps : Part.sub [.slice] ps = true) : (State.repaired s h kind set way spare).rest ps = s.rest ps := Part.lift hps rfl

theorem State.enterBcast_rest (s : State) (h set : Nat) {ps : List Part} (hps : Part.sub [.regs, .ni, .slice] ps = true) : (State.enterBcast s h set).rest ps = s.rest ps := Part.lift hps (by simp (disch := decide) only [State.enterBcast, State.rest_ite, ite_self, State.modSlice_rest, State.reportHs_rest, State.updateWear_rest, State.setFld_rest, State.evHs_rest, State.repaired_rest])

theorem State.checkBcast_rest (s : State) (h set : Nat) {ps : List Part} (hps : Part.sub [.regs, .ni, .slice] ps = true) : (State.checkBcast s h set).rest ps = s.rest ps := Part.lift hps (by simp (disch := decide) only [State.checkBcast, State.rest_ite, ite_self, State.enterBcast_rest, State.updateWear_rest])

theorem State.retireWay_rest (s : State) (h set way : Nat) {ps : List Part} (hps : Part.sub [.regs, .ni, .slice] ps = true) : (State.retireWay s h set way).rest ps = s.rest ps := Part.lift hps (by simp (disch := decide) only [State.retireWay, State.reportHs_rest, State.setSlice_rest, State.setFld_rest, State.checkBcast_rest, State.evHs_rest, State.repaired_rest])

theorem State.finishTx_rest (s : State) (h : Nat) (t : Tx) {ps : List Part} (hps : Part.sub [.regs, .ni, .slice] ps = true) : (State.finishTx s h t).rest ps = s.rest ps := Part.lift hps (by
  unfold State.finishTx
  (repeat' split) <;> first | rfl | simp (disch := decide) only [State.modSlice_rest, State.setSlice_rest, State.retireWay_rest, State.evHs_rest, State.rest_ite, ite_self])

theorem State.passFences_rest (s : State) (h num : Nat) {ps : List Part} (hps : Part.sub [.regs, .ni, .slice] ps = true) : (State.passFences s h num).rest ps = s.rest ps := Part.lift hps (by
  simp (disch := first | decide | (intros; simp (disch := decide) only [State.rest_ite, ite_self, foldl_rest, State.rest_regs, State.rest_ni, State.rest_slice, State.modSlice_rest, State.complete_rest]; done) | fail) only [State.passFences, foldl_rest, State.modSlice_rest, State.complete_rest])

theorem State.addSharer_eq (s : State) (h : Nat) (v : View) (a : Nat) (evicted : Bool) {r0 : State} {r1 : View} {ps : List Part} (hr : State.addSharer s h v a evicted = (r0, r1)) (hps : Part.sub [.regs, .slice] ps = true) : r0.rest ps = s.rest ps := Part.lift hps (by
  have hr2 := congrArg (fun x => x.1) hr
  simp only at hr2
  rw [← hr2]
  simp only [State.addSharer]
  (repeat' split) <;> first | (with_reducible rfl) | (simp (disch := first | decide | (intros; (try dsimp only); (repeat' split) <;> first | (with_reducible rfl) | (simp (disch := decide) only [State.rest_ite, ite_self, foldl_rest, State.rest_regs, State.rest_slice, State.evHs_rest, State.modSlice_rest]; done) | fail) | fail) only [State.evHs_rest, State.modSlice_rest, State.rest_ite, ite_self, foldl_rest]; done) | rfl)

theorem State.addSharer_rest (s : State) (h : Nat) (v : View) (a : Nat) (evicted : Bool) {ps : List Part} (hps : Part.sub [.regs, .slice] ps = true) : (State.addSharer s h v a evicted).1.rest ps = s.rest ps := Part.lift hps (by
  unfold State.addSharer
  (repeat' split) <;> first | rfl | simp (disch := decide) only [State.evHs_rest, State.modSlice_rest, State.rest_ite, ite_self, foldl_rest])

theorem State.grantView_eq (s : State) (h : Nat) (t : Tx) {r0 : State} {r1 : View} {r2 : Nat} {ps : List Part} (hr : State.grantView s h t = (r0, r1, r2)) (hps : Part.sub [.regs, .slice] ps = true) : r0.rest ps = s.rest ps := Part.lift hps (by
  simp only [State.grantView] at hr
  (repeat' split at hr) <;> (try cases hr) <;> repeat' (first | (with_reducible rfl) | assumption | (simp (disch := first | decide | (intros; (try dsimp only); (repeat' split) <;> first | (with_reducible rfl) | (simp (disch := decide) only [State.rest_ite, ite_self, foldl_rest, State.rest_regs, State.rest_slice, State.addSharer_rest]; done) | fail) | fail) only [State.addSharer_rest, State.rest_ite, ite_self]; done) | (show Part.sub _ _ = true; first | decide | exact Part.sub_trans (by decide) hps) | (refine (foldl_rest _ _ _ ?_).trans ?_) | (intro _ _; refine Part.lift hps ?_; try dsimp only) | (intro _ _; try dsimp only) | (intro _; try dsimp only) | split | (have e := State.addSharer_eq _ _ _ _ _ (by assumption) (ps := [.regs, .slice]) (by decide); rw [e]) | (simp (disch := first | decide | (intros; (try dsimp only); (repeat' split) <;> first | (with_reducible rfl) | (simp (disch := decide) only [State.rest_ite, ite_self, foldl_rest, State.rest_regs, State.rest_slice, State.addSharer_rest]; done) | fail) | fail) only [State.rest_ite, ite_self, foldl_rest, State.rest_regs, State.rest_slice, State.addSharer_rest]) | (dsimp only) | rfl))

theorem State.grantView_rest (s : State) (h : Nat) (t : Tx) {ps : List Part} (hps : Part.sub [.regs, .slice] ps = true) : (State.grantView s h t).1.rest ps = s.rest ps := Part.lift hps (by
  simp only [State.grantView]
  (repeat' split) <;> first | rfl | simp (disch := first | decide | (intros; simp (disch := decide) only [State.rest_ite, ite_self, foldl_rest, State.rest_regs, State.rest_slice, State.addSharer_rest]; done) | fail) only [State.addSharer_rest, State.rest_ite, ite_self])

theorem State.sendCompletion_rest (s : State) (h : Nat) (t : Tx) (grant : Nat) (writes : Bool) {ps : List Part} (hps : Part.sub [.regs, .ni] ps = true) : (State.sendCompletion s h t grant writes).rest ps = s.rest ps := Part.lift hps (by
  unfold State.sendCompletion
  (repeat' split) <;> first | rfl | simp (disch := decide) only [State.cmpErr_rest, State.complete_rest, State.rest_ite, ite_self, State.answer_rest])

theorem State.freshLine_eq (s : State) {r0 : Line} {r1 : State} {ps : List Part} (hr : State.freshLine s = (r0, r1)) (hps : Part.sub [.free] ps = true) : r1.rest ps = s.rest ps := Part.lift hps (by
  unfold State.freshLine at hr
  (repeat' split at hr) <;> (try cases hr) <;> first | rfl | contradiction | simp (disch := decide) only [State.rest_ite, ite_self, foldl_rest, State.rest_free])

theorem State.freshLine_rest (s : State) {ps : List Part} (hps : Part.sub [.free] ps = true) : (State.freshLine s).2.rest ps = s.rest ps := Part.lift hps rfl

theorem State.openData_eq (s : State) (t : Tx) {r0 : State} {r1 : Tx} {ps : List Part} (hr : State.openData s t = (r0, r1)) (hps : Part.sub [.free] ps = true) : r0.rest ps = s.rest ps := Part.lift hps (by
  simp only [State.openData] at hr
  (repeat' split at hr) <;> (try cases hr) <;> repeat' (first | (with_reducible rfl) | assumption | (simp (disch := first | decide | (intros; (try dsimp only); (repeat' split) <;> first | (with_reducible rfl) | (simp (disch := decide) only [State.rest_ite, ite_self, foldl_rest, State.rest_free, State.freshLine_rest]; done) | fail) | fail) only [State.freshLine_rest, State.rest_ite, ite_self]; done) | (show Part.sub _ _ = true; first | decide | exact Part.sub_trans (by decide) hps) | (refine (foldl_rest _ _ _ ?_).trans ?_) | (intro _ _; refine Part.lift hps ?_; try dsimp only) | (intro _ _; try dsimp only) | (intro _; try dsimp only) | split | (have e := State.freshLine_eq _ (by assumption) (ps := [.free]) (by decide); rw [e]) | (simp (disch := first | decide | (intros; (try dsimp only); (repeat' split) <;> first | (with_reducible rfl) | (simp (disch := decide) only [State.rest_ite, ite_self, foldl_rest, State.rest_free, State.freshLine_rest]; done) | fail) | fail) only [State.rest_ite, ite_self, foldl_rest, State.rest_free, State.freshLine_rest]) | (dsimp only) | rfl))

theorem State.openData_rest (s : State) (t : Tx) {ps : List Part} (hps : Part.sub [.free] ps = true) : (State.openData s t).1.rest ps = s.rest ps := Part.lift hps (by
  simp only [State.openData]
  (repeat' split) <;> first | rfl | simp (disch := first | decide | (intros; simp (disch := decide) only [State.rest_ite, ite_self, foldl_rest, State.rest_free, State.freshLine_rest]; done) | fail) only [State.rest_ite, ite_self, foldl_rest, State.rest_free, State.freshLine_rest])

theorem State.closeTx_rest (s0 : State) (h : Nat) (t0 : Tx) {ps : List Part} (hps : Part.sub [.free, .regs, .ni, .slice] ps = true) : (State.closeTx s0 h t0).rest ps = s0.rest ps := Part.lift hps (by
  simp only [State.closeTx]
  (repeat' split) <;> first | rfl | simp (disch := first | decide | (intros; simp (disch := decide) only [State.rest_ite, ite_self, foldl_rest, State.rest_free, State.rest_regs, State.rest_ni, State.rest_slice, State.grantView_rest, State.modTx_rest, State.openData_rest, State.passFences_rest, State.sendCompletion_rest, State.ask_rest, State.cohPoison_rest]; done) | fail) only [State.grantView_rest, State.modTx_rest, State.openData_rest, State.passFences_rest, State.sendCompletion_rest, State.ask_rest, State.rest_ite, ite_self, State.cohPoison_rest])

theorem State.progress_rest (s : State) (h num : Nat) {ps : List Part} (hps : Part.sub [.free, .regs, .ni, .slice] ps = true) : (State.progress s h num).rest ps = s.rest ps := Part.lift hps (by
  simp only [State.progress]
  (repeat' split) <;> first | rfl | simp (disch := first | decide | (intros; simp (disch := decide) only [State.rest_ite, ite_self, foldl_rest, State.rest_free, State.rest_regs, State.rest_ni, State.rest_slice, State.modTx_rest, State.closeTx_rest, State.ask_rest, State.evHs_rest, State.finishTx_rest]; done) | fail) only [State.modTx_rest, State.closeTx_rest, State.ask_rest, State.evHs_rest, State.finishTx_rest, State.rest_ite, ite_self])

theorem State.flushAll_rest (s : State) (h : Nat) {ps : List Part} (hps : Part.sub [.free, .regs, .ni, .slice] ps = true) : (State.flushAll s h).rest ps = s.rest ps := Part.lift hps (by
  simp (disch := first | decide | (intros; simp (disch := decide) only [State.rest_ite, ite_self, foldl_rest, State.rest_regs, State.rest_ni, State.rest_slice, State.flushTx_rest, State.rest_free, State.reserve_rest, State.progress_rest]; done) | fail) only [State.flushAll, foldl_rest, State.rest_ite, ite_self, State.flushTx_rest, State.reserve_rest, State.progress_rest])

theorem State.begin_rest (s : State) (h : Nat) (t : Tx) (l : List Ask) {ps : List Part} (hps : Part.sub [.free, .regs, .ni, .slice] ps = true) : (State.begin s h t l).rest ps = s.rest ps := Part.lift hps (by simp (disch := decide) only [State.begin, State.modSlice_rest, State.ask_rest, State.progress_rest, State.reserve_rest])

theorem State.recallWay_rest (s : State) (h : Nat) (k : TxKind) (set way epoch : Nat) {ps : List Part} (hps : Part.sub [.free, .regs, .ni, .slice] ps = true) : (State.recallWay s h k set way epoch).rest ps = s.rest ps := Part.lift hps (by simp (disch := decide) only [State.recallWay, State.evHs_rest, State.begin_rest])

theorem State.maint_rest (s : State) (h : Nat) (m : Maint) {ps : List Part} (hps : Part.sub [.slice] ps = true) : (State.maint s h m).rest ps = s.rest ps := Part.lift hps rfl

theorem State.killSpare_rest (s : State) (h k : Nat) {ps : List Part} (hps : Part.sub [.regs, .slice] ps = true) : (State.killSpare s h k).rest ps = s.rest ps := Part.lift hps (by simp (disch := decide) only [State.killSpare, State.setSlice_rest, State.repaired_rest, State.updateWear_rest])

theorem State.spareWay_rest (s : State) (h set way : Nat) {ps : List Part} (hps : Part.sub [.free, .regs, .ni, .slice] ps = true) : (State.spareWay s h set way).rest ps = s.rest ps := Part.lift hps (by
  simp only [State.spareWay]
  (repeat' split) <;> first | rfl | simp (disch := first | decide | (intros; simp (disch := decide) only [State.rest_ite, ite_self, foldl_rest, State.rest_free, State.rest_regs, State.rest_ni, State.rest_slice, State.killSpare_rest, State.modSlice_rest, State.setFld_rest, State.evHs_rest, State.reportHs_rest, State.repaired_rest, State.updateWear_rest, State.retireWay_rest, State.recallWay_rest, State.maint_rest]; done) | fail) only [State.rest_ite, ite_self, State.killSpare_rest, State.modSlice_rest, State.setFld_rest, State.evHs_rest, State.reportHs_rest, State.repaired_rest, State.updateWear_rest, State.retireWay_rest, State.recallWay_rest, State.maint_rest])

theorem State.recoverLine_rest (s : State) (h set way : Nat) {ps : List Part} (hps : Part.sub [.free, .regs, .ni, .slice] ps = true) : (State.recoverLine s h set way).rest ps = s.rest ps := Part.lift hps (by simp (disch := decide) only [State.recoverLine, State.begin_rest, State.rest_ite, ite_self])

theorem State.diagAccess_rest (s : State) (h : Nat) (write : Bool) (sel data chk : W64) {ps : List Part} (hps : Part.sub [.regs, .ni, .slice] ps = true) : (State.diagAccess s h write sel data chk).rest ps = s.rest ps := Part.lift hps (by simp (disch := decide) only [State.diagAccess, State.rest_ite, ite_self, State.wr_rest, State.setFld_rest, State.setSlice_rest, State.checkBcast_rest, State.updateWear_rest])

theorem State.doMaint_rest (s : State) (h : Nat) (m : Maint) {ps : List Part} (hps : Part.sub [.free, .regs, .ni, .slice] ps = true) : (State.doMaint s h m).rest ps = s.rest ps := Part.lift hps (by
  unfold State.doMaint
  (repeat' split) <;> first | rfl | simp (disch := decide) only [State.rest_ite, ite_self, State.recoverLine_rest, State.setSlice_rest, State.spareWay_rest, State.diagAccess_rest])

theorem State.dirErrCount_rest (s : State) (h : Nat) (e : DirErr) {ps : List Part} (hps : Part.sub [.regs] ps = true) : (State.dirErrCount s h e).rest ps = s.rest ps := Part.lift hps (by simp (disch := decide) only [State.dirErrCount, State.rest_ite, ite_self, State.bump_rest, State.setFld_rest, State.evHs_rest])

theorem State.reportDirCe_rest (s : State) (h : Nat) (e : DirErr) {ps : List Part} (hps : Part.sub [.regs, .ni, .slice] ps = true) : (State.reportDirCe s h e).rest ps = s.rest ps := Part.lift hps (by simp (disch := decide) only [State.reportDirCe, State.rest_ite, ite_self, State.modSlice_rest, State.reportHs_rest])

theorem State.tagLost_rest (s : State) (h set way spare store : Nat) {ps : List Part} (hps : Part.sub [.regs, .ni] ps = true) : (State.tagLost s h set way spare store).rest ps = s.rest ps := Part.lift hps (by simp (disch := decide) only [State.tagLost, State.setFld_rest, State.reportHs_rest])

theorem State.watchCe_rest (s : State) (h key sub : Nat) (worn : State → State) {ps : List Part} (hps : Part.sub [.slice] ps = true) (hw : ∀ s, (worn s).rest ps = s.rest ps) : (State.watchCe s h key sub worn).rest ps = s.rest ps := by
  simp only [State.watchCe]
  split
  · rw [hw, State.modSlice_rest _ _ _ hps]
  · rw [State.modSlice_rest _ _ _ hps]

theorem State.entryUe_rest (s : State) (h set way : Nat) {ps : List Part} (hps : Part.sub [.regs, .ni, .slice] ps = true) : (State.entryUe s h set way).rest ps = s.rest ps := Part.lift hps (by simp (disch := decide) only [State.entryUe, State.rest_ite, ite_self, State.reportHs_rest, State.maint_rest])

theorem State.tagUe_rest (s : State) (h : Nat) (e : DirErr) {ps : List Part} (hps : Part.sub [.regs, .ni, .slice] ps = true) : (State.tagUe s h e).rest ps = s.rest ps := Part.lift hps (by
  simp (disch := first | decide | (intros; simp (disch := decide) only [State.rest_ite, ite_self, foldl_rest, State.rest_regs, State.rest_ni, State.rest_slice, State.modSlice_rest, State.reportDirCe_rest, State.maint_rest]; done) | fail) only [State.tagUe, State.rest_ite, ite_self, foldl_rest, State.modSlice_rest, State.reportDirCe_rest, State.maint_rest])

theorem State.wayErr_rest (s : State) (h : Nat) (e : DirErr) {ps : List Part} (hps : Part.sub [.regs, .ni, .slice] ps = true) : (State.wayErr s h e).rest ps = s.rest ps := Part.lift hps (by
  have hw : ∀ s : State, (s.maint h (.spare e.index.val e.way.val)).rest [.regs, .ni, .slice] = s.rest [.regs, .ni, .slice] :=
    fun s => State.maint_rest _ _ _ (by decide)
  simp (disch := first | decide | assumption) only [State.wayErr, State.rest_ite, ite_self, State.entryUe_rest, State.tagLost_rest, State.tagUe_rest, State.maint_rest, State.reportDirCe_rest, State.watchCe_rest, hw])

theorem State.spareErr_rest (s : State) (h : Nat) (e : DirErr) {ps : List Part} (hps : Part.sub [.regs, .ni, .slice] ps = true) : (State.spareErr s h e).rest ps = s.rest ps := Part.lift hps (by
  simp only [State.spareErr]
  split
  · simp (disch := decide) only [State.rest_ite, ite_self, State.maint_rest, State.killSpare_rest, State.tagLost_rest, State.reportDirCe_rest, State.reportHs_rest]
  · rw [State.watchCe_rest _ _ _ _ _ (by decide) (fun s => by simp (disch := decide) only [State.rest_ite, ite_self, State.maint_rest, State.killSpare_rest]), State.reportDirCe_rest _ _ _ (by decide)])

theorem State.statusUe_rest (s : State) (h set : Nat) {ps : List Part} (hps : Part.sub [.regs, .ni, .slice] ps = true) : (State.statusUe s h set).rest ps = s.rest ps := Part.lift hps (by simp (disch := decide) only [State.statusUe, State.rest_ite, ite_self, foldl_rest, State.setSlice_rest, State.reportHs_rest, State.updateWear_rest, State.enterBcast_rest])

theorem State.dirErr_rest (s : State) (h : Nat) (e : DirErr) {ps : List Part} (hps : Part.sub [.regs, .ni, .slice] ps = true) : (State.dirErr s h e).rest ps = s.rest ps := Part.lift hps (by simp (disch := decide) only [State.dirErr, State.rest_ite, ite_self, State.modSlice_rest, State.wayErr_rest, State.enterBcast_rest, State.reportDirCe_rest, State.spareErr_rest, State.reportHs_rest, State.dirErrCount_rest, State.statusUe_rest])

theorem State.copiesDiffer_rest (s : State) (h set : Nat) {ps : List Part} (hps : Part.sub [.regs, .ni, .slice] ps = true) : (State.copiesDiffer s h set).rest ps = s.rest ps := Part.lift hps (by
  simp (disch := first | decide | (intros; simp (disch := decide) only [State.rest_ite, ite_self, foldl_rest, State.rest_regs, State.rest_ni, State.rest_slice, State.dirErr_rest]; done) | fail) only [State.copiesDiffer, foldl_rest, State.dirErr_rest])

theorem State.leaveWait_rest (s : State) (h : Nat) (w : Option Nat) {ps : List Part} (hps : Part.sub [.slice] ps = true) : (State.leaveWait s h w).rest ps = s.rest ps := Part.lift hps (by
  unfold State.leaveWait
  (repeat' split) <;> first | rfl | simp (disch := decide) only [State.rest_ite, ite_self, foldl_rest, State.rest_slice, State.modSlice_rest])

theorem State.answered_rest (s : State) (h line : Nat) (w : Option Nat) {ps : List Part} (hps : Part.sub [.slice] ps = true) : (State.answered s h line w).rest ps = s.rest ps := Part.lift hps (by simp (disch := decide) only [State.answered, State.rest_ite, ite_self, State.modSlice_rest, State.leaveWait_rest])

theorem State.waitOrRetry_rest (s : State) (h : Nat) (p : Pkt) (w : Option Nat) (full : Bool) {ps : List Part} (hps : Part.sub [.regs, .ni, .slice] ps = true) : (State.waitOrRetry s h p w full).rest ps = s.rest ps := Part.lift hps (by
  unfold State.waitOrRetry
  (repeat' split) <;> first | rfl | simp (disch := decide) only [State.modSlice_rest, State.retry_rest, State.evHs_rest, State.rest_ite, ite_self])

theorem State.refuse_rest (s : State) (h : Nat) (p : Pkt) (w : Option Nat) {ps : List Part} (hps : Part.sub [.regs, .ni, .slice] ps = true) : (State.refuse s h p w).rest ps = s.rest ps := Part.lift hps (by simp (disch := decide) only [State.refuse, State.cohProtocol_rest, State.answered_rest, State.cmpErr_rest])

theorem State.serveBusy_rest (s : State) (h : Nat) (p : Pkt) (t : Tx) (w : Option Nat) {ps : List Part} (hps : Part.sub [.regs, .ni, .slice] ps = true) : (State.serveBusy s h p t w).rest ps = s.rest ps := Part.lift hps (by simp (disch := decide) only [State.serveBusy, State.rest_ite, ite_self, State.modTx_rest, State.answer_rest, State.leaveWait_rest, State.waitOrRetry_rest, State.complete_rest, State.evHs_rest])

theorem State.serveFence_rest (s : State) (h : Nat) (q : Hdr) {ps : List Part} (hps : Part.sub [.regs, .ni, .slice] ps = true) : (State.serveFence s h q).rest ps = s.rest ps := Part.lift hps (by simp (disch := decide) only [State.serveFence, State.rest_ite, ite_self, State.modSlice_rest, State.complete_rest])

theorem State.openReq_rest (s : State) (h bank : Nat) (p : Pkt) (proxy : Option Nat) (way : Option Nat) (v0 : View) (w : Option Nat) {ps : List Part} (hps : Part.sub [.free, .regs, .ni, .slice] ps = true) : (State.openReq s h bank p proxy way v0 w).rest ps = s.rest ps := Part.lift hps (by simp (disch := decide) only [State.openReq, State.rest_ite, ite_self, State.cohProtocol_rest, State.begin_rest, State.leaveWait_rest, State.complete_rest, State.cohPoison_rest])

theorem State.serveIdle_rest (s : State) (h bank : Nat) (p : Pkt) (proxy : Option Nat) (w : Option Nat) {ps : List Part} (hps : Part.sub [.free, .regs, .ni, .slice] ps = true) : (State.serveIdle s h bank p proxy w).rest ps = s.rest ps := by
  unfold State.serveIdle
  extract_lets q x op set a cmp s0 way v s1 s2 held s3 v' s4
  have hc : ∀ s b, (cmp s b).rest ps = s.rest ps := fun s b => State.complete_rest _ _ _ _ _ _ _ _ (Part.sub_trans (by decide) hps)
  split
  · have h1 : s0.rest ps = s.rest ps := State.evHs_rest _ _ _ _ _ (Part.sub_trans (by decide) hps)
    (repeat' split) <;> simp (disch := (exact Part.sub_trans (by decide) hps)) only [State.answered_rest, State.waitOrRetry_rest, State.openReq_rest, hc, h1]
  · have h1 : s1.rest ps = s.rest ps := State.evHs_rest _ _ _ _ _ (Part.sub_trans (by decide) hps)
    have h2 : s2.rest ps = s.rest ps := by
      simp only [s2, State.rest_ite]
      simp (disch := (exact Part.sub_trans (by decide) hps)) only [State.evHs_rest, h1, ite_self]
    have h3 : s3.rest ps = s.rest ps := by
      simp (disch := (exact Part.sub_trans (by decide) hps)) only [s3, State.evHs_rest, hc, h2]
    have h4 : s4.rest ps = s.rest ps := by
      simp (disch := (exact Part.sub_trans (by decide) hps)) only [s4, State.evHs_rest, h2]
    clear_value s4 s3 s2 held v way cmp
    (repeat' split) <;>
      simp (disch := (exact Part.sub_trans (by decide) hps)) only [State.answered_rest, State.evHs_rest, State.waitOrRetry_rest, State.openReq_rest,
        State.answer_rest, State.begin_rest, State.leaveWait_rest, State.modSlice_rest, State.recallWay_rest, State.rest_ite, ite_self, hc, h2, h3, h4]

theorem State.readSet_rest (s : State) (h line : Nat) {ps : List Part} (hps : Part.sub [.regs, .ni, .slice] ps = true) : (State.readSet s h line).rest ps = s.rest ps := Part.lift hps (by
  simp only [State.readSet]
  (repeat' split) <;> first | rfl | simp (disch := first | decide | (intros; simp (disch := decide) only [State.rest_ite, ite_self, foldl_rest, State.rest_regs, State.rest_ni, State.rest_slice, State.copiesDiffer_rest, State.modSlice_rest]; done) | fail) only [State.rest_ite, ite_self, State.copiesDiffer_rest, State.modSlice_rest])

theorem State.lookup_rest (s0 : State) (h : Nat) (p : Pkt) (w : Option Nat) {ps : List Part} (hps : Part.sub [.free, .regs, .ni, .slice] ps = true) : (State.lookup s0 h p w).rest ps = s0.rest ps := Part.lift hps (by
  simp only [State.lookup]
  (repeat' split) <;> first | rfl | simp (disch := first | decide | (intros; simp (disch := decide) only [State.rest_ite, ite_self, foldl_rest, State.rest_free, State.rest_regs, State.rest_ni, State.rest_slice, State.cmpErr_rest, State.reportAt_rest, State.answered_rest, State.serveIdle_rest, State.serveBusy_rest, State.staleCheck_rest, State.leaveWait_rest, State.waitOrRetry_rest, State.refuse_rest, State.setFld_rest, State.evHs_rest, State.serveFence_rest, State.readSet_rest]; done) | fail) only [State.cmpErr_rest, State.reportAt_rest, State.answered_rest, State.serveIdle_rest, State.serveBusy_rest, State.staleCheck_rest, State.leaveWait_rest, State.waitOrRetry_rest, State.refuse_rest, State.setFld_rest, State.evHs_rest, State.serveFence_rest, State.rest_ite, ite_self, State.readSet_rest])

theorem State.served_rest (s : State) (h : Nat) {ps : List Part} (hps : Part.sub [.slice] ps = true) : (State.served s h).rest ps = s.rest ps := Part.lift hps rfl

theorem State.request_rest (s : State) (h op : Nat) {ps : List Part} (hps : Part.sub [.free, .regs, .ni, .slice] ps = true) : (State.request s h op).rest ps = s.rest ps := Part.lift hps (by
  unfold State.request
  (repeat' split) <;> first | rfl | simp (disch := decide) only [State.lookup_rest, State.flushAll_rest, State.modNi_rest, State.served_rest, State.evHs_rest])

theorem execRds_rest (h : Fin 16) (s : State) {ps : List Part} (hps : Part.sub [.free, .regs, .ni, .slice] ps = true) : ∃ s', execRds h s = .next s' ∧ s'.rest ps = s.rest ps := by
  unfold execRds
  (repeat' split) <;> exact ⟨_, rfl, Part.lift hps (by first | rfl | simp (disch := decide) only [State.request_rest])⟩

theorem execRdo_rest (h : Fin 16) (s : State) {ps : List Part} (hps : Part.sub [.free, .regs, .ni, .slice] ps = true) : ∃ s', execRdo h s = .next s' ∧ s'.rest ps = s.rest ps := by
  unfold execRdo
  (repeat' split) <;> exact ⟨_, rfl, Part.lift hps (by first | rfl | simp (disch := decide) only [State.request_rest])⟩

theorem execUpg_rest (h : Fin 16) (s : State) {ps : List Part} (hps : Part.sub [.free, .regs, .ni, .slice] ps = true) : ∃ s', execUpg h s = .next s' ∧ s'.rest ps = s.rest ps := by
  unfold execUpg
  (repeat' split) <;> exact ⟨_, rfl, Part.lift hps (by first | rfl | simp (disch := decide) only [State.request_rest])⟩

theorem execRdc_rest (h : Fin 16) (s : State) {ps : List Part} (hps : Part.sub [.free, .regs, .ni, .slice] ps = true) : ∃ s', execRdc h s = .next s' ∧ s'.rest ps = s.rest ps := by
  unfold execRdc
  (repeat' split) <;> exact ⟨_, rfl, Part.lift hps (by first | rfl | simp (disch := decide) only [State.request_rest])⟩

theorem execWri_rest (h : Fin 16) (s : State) {ps : List Part} (hps : Part.sub [.free, .regs, .ni, .slice] ps = true) : ∃ s', execWri h s = .next s' ∧ s'.rest ps = s.rest ps := by
  unfold execWri
  (repeat' split) <;> exact ⟨_, rfl, Part.lift hps (by first | rfl | simp (disch := decide) only [State.request_rest])⟩

theorem execWbm_rest (h : Fin 16) (s : State) {ps : List Part} (hps : Part.sub [.free, .regs, .ni, .slice] ps = true) : ∃ s', execWbm h s = .next s' ∧ s'.rest ps = s.rest ps := by
  unfold execWbm
  (repeat' split) <;> exact ⟨_, rfl, Part.lift hps (by first | rfl | simp (disch := decide) only [State.request_rest])⟩

theorem execEvc_rest (h : Fin 16) (s : State) {ps : List Part} (hps : Part.sub [.free, .regs, .ni, .slice] ps = true) : ∃ s', execEvc h s = .next s' ∧ s'.rest ps = s.rest ps := by
  unfold execEvc
  (repeat' split) <;> exact ⟨_, rfl, Part.lift hps (by first | rfl | simp (disch := decide) only [State.request_rest])⟩

theorem execFnc_rest (h : Fin 16) (s : State) {ps : List Part} (hps : Part.sub [.free, .regs, .ni, .slice] ps = true) : ∃ s', execFnc h s = .next s' ∧ s'.rest ps = s.rest ps := by
  unfold execFnc
  (repeat' split) <;> exact ⟨_, rfl, Part.lift hps (by first | rfl | simp (disch := decide) only [State.request_rest])⟩

theorem execHsnp_rest (h : Fin 16) (s : State) {ps : List Part} (hps : Part.sub [.free, .regs, .ni, .slice] ps = true) : ∃ s', execHsnp h s = .next s' ∧ s'.rest ps = s.rest ps := by
  unfold execHsnp
  (repeat' split) <;> exact ⟨_, rfl, Part.lift hps (by first | rfl | simp (disch := decide) only [State.request_rest])⟩

theorem execHomeWaiterStart_rest (h : Fin 16) (s : State) {ps : List Part} (hps : Part.sub [.free, .regs, .ni, .slice] ps = true) : ∃ s', execHomeWaiterStart h s = .next s' ∧ s'.rest ps = s.rest ps := by
  simp only [execHomeWaiterStart]
  (repeat' split) <;> exact ⟨_, rfl, Part.lift hps (by simp (disch := first | decide | (intros; simp (disch := decide) only [State.rest_ite, ite_self, foldl_rest, State.rest_free, State.rest_regs, State.rest_ni, State.rest_slice, State.served_rest, State.lookup_rest, State.flushAll_rest]; done) | fail) only [State.served_rest, State.lookup_rest, State.flushAll_rest, State.rest_ite, ite_self])⟩

theorem State.demDone_rest (s : State) (h num : Nat) (d : Dem) (q : Hdr) {ps : List Part} (hps : Part.sub [.regs, .slice] ps = true) : (State.demDone s h num d q).rest ps = s.rest ps := Part.lift hps (by simp (disch := decide) only [State.demDone, State.modTx_rest, State.evHs_rest])

theorem State.poisonLine_rest (s : State) (h : Nat) (t : Tx) (proto : Bool) (src : Nat) {ps : List Part} (hps : Part.sub [.regs, .ni, .slice] ps = true) : (State.poisonLine s h t proto src).rest ps = s.rest ps := Part.lift hps (by simp (disch := decide) only [State.poisonLine, State.rest_ite, ite_self, State.cohProtocol_rest, State.modTx_rest, State.cohPoison_rest])

theorem State.doubtLine_rest (s : State) (h : Nat) (t : Tx) (proto : Bool) (src : Nat) {ps : List Part} (hps : Part.sub [.regs, .ni, .slice] ps = true) : (State.doubtLine s h t proto src).rest ps = s.rest ps := Part.lift hps (by simp (disch := decide) only [State.doubtLine, State.rest_ite, ite_self, State.modTx_rest, State.poisonLine_rest])

theorem State.settleDoubt_rest (s : State) (h num : Nat) {ps : List Part} (hps : Part.sub [.regs, .ni, .slice] ps = true) : (State.settleDoubt s h num).rest ps = s.rest ps := Part.lift hps (by
  unfold State.settleDoubt
  (repeat' split) <;> first | rfl | simp (disch := decide) only [State.rest_ite, ite_self, State.modTx_rest, State.poisonLine_rest])

theorem State.ownerAnswer_rest (s : State) (h : Nat) (t : Tx) (d : Dem) (failed hit : Bool) (rstate src : Nat) {ps : List Part} (hps : Part.sub [.regs, .ni, .slice] ps = true) : (State.ownerAnswer s h t d failed hit rstate src).rest ps = s.rest ps := Part.lift hps (by simp (disch := decide) only [State.ownerAnswer, State.rest_ite, ite_self, State.modTx_rest, State.poisonLine_rest, State.doubtLine_rest])

theorem State.dropSharer_rest (s : State) (h : Nat) (t : Tx) (d : Dem) (failed : Bool) {ps : List Part} (hps : Part.sub [.slice] ps = true) : (State.dropSharer s h t d failed).rest ps = s.rest ps := Part.lift hps (by
  unfold State.dropSharer
  (repeat' split) <;> first | rfl | simp (disch := decide) only [State.rest_ite, ite_self, foldl_rest, State.rest_slice, State.modSlice_rest, State.modTx_rest])

theorem State.snoopAnswer_rest (s : State) (h : Nat) (t : Tx) (d : Dem) (p : Pkt) {ps : List Part} (hps : Part.sub [.regs, .ni, .slice] ps = true) : (State.snoopAnswer s h t d p).rest ps = s.rest ps := Part.lift hps (by
  simp only [State.snoopAnswer]
  (repeat' split) <;> first | rfl | simp (disch := first | decide | (intros; simp (disch := decide) only [State.rest_ite, ite_self, foldl_rest, State.rest_regs, State.rest_ni, State.rest_slice, State.dropSharer_rest, State.modTx_rest, State.poisonLine_rest, State.ownerAnswer_rest, State.settleDoubt_rest]; done) | fail) only [State.dropSharer_rest, State.modTx_rest, State.poisonLine_rest, State.ownerAnswer_rest, State.rest_ite, ite_self, State.settleDoubt_rest])

theorem State.readAnswer_rest (s : State) (h : Nat) (t : Tx) (p : Pkt) {ps : List Part} (hps : Part.sub [.slice] ps = true) : (State.readAnswer s h t p).rest ps = s.rest ps := Part.lift hps rfl

theorem State.deferPoison_rest (s : State) (h : Nat) (t : Tx) (target : Nat) {ps : List Part} (hps : Part.sub [.ni, .slice] ps = true) : (State.deferPoison s h t target).rest ps = s.rest ps := Part.lift hps rfl

theorem State.writeAnswer_rest (s : State) (h : Nat) (t : Tx) (d : Dem) (q : Hdr) {ps : List Part} (hps : Part.sub [.ni, .slice] ps = true) : (State.writeAnswer s h t d q).rest ps = s.rest ps := Part.lift hps (by simp (disch := decide) only [State.writeAnswer, State.rest_ite, ite_self, State.deferPoison_rest, State.modTx_rest])

theorem State.demAnswer_rest (s : State) (h : Nat) (p : Pkt) (id : Nat) {ps : List Part} (hps : Part.sub [.free, .regs, .ni, .slice] ps = true) : (State.demAnswer s h p id).rest ps = s.rest ps := Part.lift hps (by
  unfold State.demAnswer
  (repeat' split) <;> first | rfl | simp (disch := decide) only [State.demDone_rest, State.snoopAnswer_rest, State.readAnswer_rest, State.writeAnswer_rest, State.progress_rest])

theorem State.response_rest (s : State) (h vn op cnt : Nat) (act : State → Pkt → Nat → State) {ps : List Part} (hps : Part.sub [.free, .regs, .ni, .slice] ps = true) (hf : ∀ s p k, (act s p k).rest ps = s.rest ps) : (State.response s h vn op cnt act).rest ps = s.rest ps := by
  simp only [State.response]
  repeat' split
  · rfl
  · have e := State.takeIn_eq _ _ _ _ (by assumption) (ps := ps) (Part.sub_trans (by decide) hps)
    rw [State.flushAll_rest _ _ (Part.sub_trans (by decide) hps), hf, State.evHs_rest _ _ _ _ _ (Part.sub_trans (by decide) hps),
      State.served_rest _ _ (Part.sub_trans (by decide) hps), e]
  · rfl

theorem execSrsp_rest (h : Fin 16) (s : State) {ps : List Part} (hps : Part.sub [.free, .regs, .ni, .slice] ps = true) : ∃ s', execSrsp h s = .next s' ∧ s'.rest ps = s.rest ps := by
  unfold execSrsp
  (repeat' split) <;> exact ⟨_, rfl, Part.lift hps (by simp (disch := first | decide | (intros; simp (disch := decide) only [State.rest_ite, ite_self, foldl_rest, State.rest_free, State.rest_regs, State.rest_ni, State.rest_slice, State.demAnswer_rest, State.response_rest]; done) | fail) only [State.response_rest, State.demAnswer_rest])⟩

theorem execSdata_rest (h : Fin 16) (s : State) {ps : List Part} (hps : Part.sub [.free, .regs, .ni, .slice] ps = true) : ∃ s', execSdata h s = .next s' ∧ s'.rest ps = s.rest ps := by
  unfold execSdata
  (repeat' split) <;> exact ⟨_, rfl, Part.lift hps (by simp (disch := first | decide | (intros; simp (disch := decide) only [State.rest_ite, ite_self, foldl_rest, State.rest_free, State.rest_regs, State.rest_ni, State.rest_slice, State.demAnswer_rest, State.response_rest]; done) | fail) only [State.response_rest, State.demAnswer_rest])⟩

theorem execMdata_rest (h : Fin 16) (s : State) {ps : List Part} (hps : Part.sub [.free, .regs, .ni, .slice] ps = true) : ∃ s', execMdata h s = .next s' ∧ s'.rest ps = s.rest ps := by
  unfold execMdata
  (repeat' split) <;> exact ⟨_, rfl, Part.lift hps (by simp (disch := first | decide | (intros; simp (disch := decide) only [State.rest_ite, ite_self, foldl_rest, State.rest_free, State.rest_regs, State.rest_ni, State.rest_slice, State.demAnswer_rest, State.response_rest]; done) | fail) only [State.response_rest, State.demAnswer_rest])⟩

theorem execMcmp_rest (h : Fin 16) (s : State) {ps : List Part} (hps : Part.sub [.free, .regs, .ni, .slice] ps = true) : ∃ s', execMcmp h s = .next s' ∧ s'.rest ps = s.rest ps := by
  unfold execMcmp
  (repeat' split) <;> exact ⟨_, rfl, Part.lift hps (by simp (disch := first | decide | (intros; simp (disch := decide) only [State.rest_ite, ite_self, foldl_rest, State.rest_free, State.rest_regs, State.rest_ni, State.rest_slice, State.demAnswer_rest, State.response_rest]; done) | fail) only [State.response_rest, State.demAnswer_rest])⟩

theorem execPxdata_rest (h : Fin 16) (s : State) {ps : List Part} (hps : Part.sub [.free, .regs, .ni, .slice] ps = true) : ∃ s', execPxdata h s = .next s' ∧ s'.rest ps = s.rest ps := by
  unfold execPxdata
  (repeat' split) <;> exact ⟨_, rfl, Part.lift hps (by simp (disch := first | decide | (intros; simp (disch := decide) only [State.rest_ite, ite_self, foldl_rest, State.rest_free, State.rest_regs, State.rest_ni, State.rest_slice, State.demAnswer_rest, State.response_rest]; done) | fail) only [State.response_rest, State.demAnswer_rest])⟩

theorem execPxcmp_rest (h : Fin 16) (s : State) {ps : List Part} (hps : Part.sub [.free, .regs, .ni, .slice] ps = true) : ∃ s', execPxcmp h s = .next s' ∧ s'.rest ps = s.rest ps := by
  unfold execPxcmp
  (repeat' split) <;> exact ⟨_, rfl, Part.lift hps (by simp (disch := first | decide | (intros; simp (disch := decide) only [State.rest_ite, ite_self, foldl_rest, State.rest_free, State.rest_regs, State.rest_ni, State.rest_slice, State.demAnswer_rest, State.response_rest]; done) | fail) only [State.response_rest, State.demAnswer_rest])⟩

theorem State.unmatched_rest (s : State) (h : Nat) (q : Hdr) {ps : List Part} (hps : Part.sub [.regs, .ni] ps = true) : (State.unmatched s h q).rest ps = s.rest ps := Part.lift hps (by simp (disch := decide) only [State.unmatched, State.cohProtocol_rest])

theorem execWdata_rest (h : Fin 16) (s : State) {ps : List Part} (hps : Part.sub [.free, .regs, .ni, .slice] ps = true) : ∃ s', execWdata h s = .next s' ∧ s'.rest ps = s.rest ps := by
  simp only [execWdata]
  (repeat' split) <;> first | (refine ⟨_, rfl, Part.lift hps ?_⟩; first | (with_reducible rfl) | (simp (disch := first | decide | (intros; (try dsimp only); (repeat' split) <;> first | (with_reducible rfl) | (simp (disch := decide) only [State.rest_ite, ite_self, foldl_rest, State.rest_free, State.rest_regs, State.rest_ni, State.rest_slice, State.response_rest, State.unmatched_rest, State.modTx_rest, State.progress_rest, State.passFences_rest]; done) | fail) | fail) only [State.response_rest, State.rest_ite, ite_self, State.modTx_rest, State.progress_rest, State.unmatched_rest, State.passFences_rest]; done) | rfl)

theorem execCack_rest (h : Fin 16) (s : State) {ps : List Part} (hps : Part.sub [.free, .regs, .ni, .slice] ps = true) : ∃ s', execCack h s = .next s' ∧ s'.rest ps = s.rest ps := by
  simp only [execCack]
  (repeat' split) <;> first | (refine ⟨_, rfl, Part.lift hps ?_⟩; first | (with_reducible rfl) | (simp (disch := first | decide | (intros; (try dsimp only); (repeat' split) <;> first | (with_reducible rfl) | (simp (disch := decide) only [State.rest_ite, ite_self, foldl_rest, State.rest_free, State.rest_regs, State.rest_ni, State.rest_slice, State.modTx_rest, State.progress_rest, State.response_rest, State.unmatched_rest]; done) | fail) | fail) only [State.response_rest, State.modTx_rest, State.progress_rest, State.unmatched_rest]; done) | rfl)

theorem execCohAckTimeout_rest (h : Fin 16) (num : Fin 256) (s : State) {ps : List Part} (hps : Part.sub [.free, .regs, .ni, .slice] ps = true) : ∃ s', execCohAckTimeout h num s = .next s' ∧ s'.rest ps = s.rest ps := by
  simp only [execCohAckTimeout]
  (repeat' split) <;> exact ⟨_, rfl, Part.lift hps (by simp (disch := first | decide | (intros; simp (disch := decide) only [State.rest_ite, ite_self, foldl_rest, State.rest_free, State.rest_regs, State.rest_ni, State.rest_slice, State.modTx_rest, State.reportAt_rest, State.progress_rest, State.flushAll_rest, State.evHs_rest]; done) | fail) only [State.modTx_rest, State.reportAt_rest, State.progress_rest, State.flushAll_rest, State.evHs_rest, State.rest_ite, ite_self])⟩

theorem State.stgLost_rest (s : State) (h num : Nat) {ps : List Part} (hps : Part.sub [.regs, .ni, .slice] ps = true) : (State.stgLost s h num).rest ps = s.rest ps := Part.lift hps (by
  unfold State.stgLost
  (repeat' split) <;> first | rfl | simp (disch := decide) only [State.rest_ite, ite_self, State.modSlice_rest, State.modTx_rest, State.cohPoison_rest])

theorem State.stgErr_rest (s : State) (h : Nat) (e : StgErr) {ps : List Part} (hps : Part.sub [.regs, .ni, .slice] ps = true) : (State.stgErr s h e).rest ps = s.rest ps := Part.lift hps (by
  unfold State.stgErr
  (repeat' split) <;> first | rfl | simp (disch := decide) only [State.rest_ite, ite_self, State.reportHs_rest, State.setFld_rest, State.evHs_rest, State.modSlice_rest, State.bump_rest, State.stgLost_rest])

theorem State.endTransfer_rest (s : State) (h : Nat) {ps : List Part} (hps : Part.sub [.free, .regs, .ni, .slice] ps = true) : (State.endTransfer s h).rest ps = s.rest ps := Part.lift hps (by
  simp only [State.endTransfer]
  (repeat' split) <;> first | rfl | simp (disch := first | decide | (intros; simp (disch := decide) only [State.rest_ite, ite_self, foldl_rest, State.rest_free, State.rest_regs, State.rest_ni, State.rest_slice, State.doMaint_rest, State.setSlice_rest, State.sendDems_rest, State.evHs_rest, State.served_rest, State.maint_rest]; done) | fail) only [State.doMaint_rest, State.setSlice_rest, State.sendDems_rest, State.evHs_rest, State.rest_ite, ite_self, State.served_rest, State.maint_rest])

theorem State.grant_rest (s : State) (h q : Nat) {ps : List Part} (hps : Part.sub [.regs, .ni, .slice] ps = true) : (State.grant s h q).rest ps = s.rest ps := Part.lift hps (by
  simp only [State.grant]
  (repeat' split) <;> first | rfl | simp (disch := first | decide | (intros; simp (disch := decide) only [State.rest_ite, ite_self, foldl_rest, State.rest_regs, State.rest_ni, State.rest_slice, State.modSlice_rest, State.flushTx_rest, State.evHsBy_rest, State.evHs_rest]; done) | fail) only [State.modSlice_rest, State.flushTx_rest, State.evHsBy_rest, State.evHs_rest, State.rest_ite, ite_self])

theorem execHomeArbiterDecision_rest (h : Fin 16) (errs : List DirErr) (stg : StgErr) (s : State) {ps : List Part} (hps : Part.sub [.free, .regs, .ni, .slice] ps = true) : ∃ s', execHomeArbiterDecision h errs stg s = .next s' ∧ s'.rest ps = s.rest ps := by
  simp only [execHomeArbiterDecision]
  (repeat' split) <;> exact ⟨_, rfl, Part.lift hps (by simp (disch := first | decide | (intros; simp (disch := decide) only [State.rest_ite, ite_self, foldl_rest, State.rest_free, State.rest_regs, State.rest_ni, State.rest_slice, State.flushAll_rest, State.endTransfer_rest, State.setFld_rest, State.evHs_rest, State.modSlice_rest, State.dirErr_rest, State.bump_rest, State.stgErr_rest, State.grant_rest, State.served_rest]; done) | fail) only [foldl_rest, State.flushAll_rest, State.endTransfer_rest, State.setFld_rest, State.evHs_rest, State.modSlice_rest, State.bump_rest, State.stgErr_rest, State.grant_rest, State.rest_ite, ite_self, State.served_rest, State.dirErr_rest])⟩

theorem execHomePreempt_rest (h : Fin 16) (q : Fin 2) (s : State) {ps : List Part} (hps : Part.sub [.regs, .ni, .slice] ps = true) : ∃ s', execHomePreempt h q s = .next s' ∧ s'.rest ps = s.rest ps := by
  simp only [execHomePreempt]
  (repeat' split) <;> exact ⟨_, rfl, Part.lift hps (by simp (disch := first | decide | (intros; simp (disch := decide) only [State.rest_ite, ite_self, foldl_rest, State.rest_regs, State.rest_ni, State.rest_slice, State.modSlice_rest, State.bump_rest, State.grant_rest, State.evHs_rest]; done) | fail) only [State.modSlice_rest, State.bump_rest, State.grant_rest, State.evHs_rest, State.rest_ite, ite_self])⟩

theorem execQuotaWindowStart_rest (h : Fin 16) (s : State) {ps : List Part} (hps : Part.sub [.regs, .pend, .slice] ps = true) : ∃ s', execQuotaWindowStart h s = .next s' ∧ s'.rest ps = s.rest ps := by
  unfold execQuotaWindowStart
  (repeat' split) <;> exact ⟨_, rfl, Part.lift hps (by first | rfl | simp (disch := decide) only [State.rest_ite, ite_self, State.modSlice_rest, State.dropPend_rest, State.wr_rest])⟩

theorem execHsArbCommit_rest (h : Fin 16) (s : State) {ps : List Part} (hps : Part.sub [.slice] ps = true) : ∃ s', execHsArbCommit h s = .next s' ∧ s'.rest ps = s.rest ps := by
  unfold execHsArbCommit
  exact ⟨_, rfl, Part.lift hps rfl⟩

theorem State.scrubFound_rest (s : State) (h k : Nat) (e : DirErr) {ps : List Part} (hps : Part.sub [.regs, .ni, .slice] ps = true) : (State.scrubFound s h k e).rest ps = s.rest ps := Part.lift hps (by simp (disch := decide) only [State.scrubFound, State.rest_ite, ite_self, State.dirErr_rest, State.maint_rest, State.evHs_rest])

theorem execScrubRead_rest (h : Fin 16) (err : Option DirErr) (s : State) {ps : List Part} (hps : Part.sub [.regs, .ni, .slice] ps = true) : ∃ s', execScrubRead h err s = .next s' ∧ s'.rest ps = s.rest ps := by
  simp only [execScrubRead]
  (repeat' split) <;> exact ⟨_, rfl, Part.lift hps (by simp (disch := first | decide | (intros; simp (disch := decide) only [State.rest_ite, ite_self, foldl_rest, State.rest_regs, State.rest_ni, State.rest_slice, State.modSlice_rest, State.dirErr_rest, State.served_rest, State.setFld_rest, State.evHs_rest, State.scrubFound_rest]; done) | fail) only [State.modSlice_rest, State.dirErr_rest, State.served_rest, State.setFld_rest, State.evHs_rest, State.rest_ite, ite_self, State.scrubFound_rest])⟩

theorem execScrubLapStart_rest (h : Fin 16) (s : State) {ps : List Part} (hps : Part.sub [.slice] ps = true) : ∃ s', execScrubLapStart h s = .next s' ∧ s'.rest ps = s.rest ps := by
  simp only [execScrubLapStart]
  (repeat' split) <;> exact ⟨_, rfl, Part.lift hps (by simp (disch := first | decide | (intros; simp (disch := decide) only [State.rest_ite, ite_self, foldl_rest, State.rest_slice, State.modSlice_rest]; done) | fail) only [State.modSlice_rest, State.rest_ite, ite_self])⟩

theorem State.askDiag_rest (s : State) (h : Nat) (write : Bool) (sel data chk : W64) {ps : List Part} (hps : Part.sub [.slice] ps = true) : (State.askDiag s h write sel data chk).rest ps = s.rest ps := Part.lift hps rfl

theorem execHsDiagGo_rest (h : Fin 16) (sel : W64) (s : State) {ps : List Part} (hps : Part.sub [.regs, .slice] ps = true) : ∃ s', execHsDiagGo h sel s = .next s' ∧ s'.rest ps = s.rest ps := by
  unfold execHsDiagGo
  (repeat' split) <;> exact ⟨_, rfl, Part.lift hps (by simp (disch := first | decide | (intros; simp (disch := decide) only [State.rest_ite, ite_self, foldl_rest, State.rest_regs, State.setFld_rest, State.wr_rest, State.rest_slice, State.askDiag_rest]; done) | fail) only [State.setFld_rest, State.wr_rest, State.askDiag_rest])⟩

theorem execHsDiagDataWrite_rest (h : Fin 16) (data : W64) (s : State) {ps : List Part} (hps : Part.sub [.regs, .slice] ps = true) : ∃ s', execHsDiagDataWrite h data s = .next s' ∧ s'.rest ps = s.rest ps := by
  simp only [execHsDiagDataWrite]
  (repeat' split) <;> exact ⟨_, rfl, Part.lift hps (by simp (disch := first | decide | (intros; simp (disch := decide) only [State.rest_ite, ite_self, foldl_rest, State.rest_regs, State.rest_ni, State.rest_slice, State.setSlice_rest, State.updateWear_rest, State.setFld_rest, State.checkBcast_rest, State.wr_rest, State.askDiag_rest]; done) | fail) only [State.setSlice_rest, State.updateWear_rest, State.setFld_rest, State.checkBcast_rest, State.wr_rest, State.rest_ite, ite_self, State.askDiag_rest])⟩

theorem State.putPage_rest (s : State) (u : PmUnit) (p : PmPage) {ps : List Part} (hps : Part.sub [.regs] ps = true) : (State.putPage s u p).rest ps = s.rest ps := Part.lift hps (by
  simp (disch := first | decide | (intros; simp (disch := decide) only [State.rest_ite, ite_self, foldl_rest, State.rest_regs, State.wr_rest]; done) | fail) only [State.putPage, foldl_rest, State.wr_rest])

theorem State.pushPage_rest (s : State) (u : PmUnit) (p : PmPage) {ps : List Part} (hps : Part.sub [.ni] ps = true) : (State.pushPage s u p).rest ps = s.rest ps := Part.lift hps (by
  simp (disch := first | decide | (intros; simp (disch := decide) only [State.rest_ite, ite_self, foldl_rest, State.rest_ni, State.handOver_rest]; done) | fail) only [State.pushPage, foldl_rest, State.handOver_rest])

theorem State.setSnap_rest (s : State) (u : PmUnit) (v : Option (Nat × Nat)) {ps : List Part} (hps : Part.sub [.rt, .ni, .slice] ps = true) : (State.setSnap s u v).rest ps = s.rest ps := Part.lift hps (by
  unfold State.setSnap
  (repeat' split) <;> first | rfl | simp (disch := decide) only [State.rest_ite, ite_self, foldl_rest, State.rest_rt, State.rest_ni, State.rest_slice, State.modNi_rest, State.modRt_rest])

theorem State.copyUnit_rest (s : State) (u : PmUnit) (num T : Nat) (late : Bool) {ps : List Part} (hps : Part.sub [.regs, .rt, .ni, .slice, .wakeQ] ps = true) : (State.copyUnit s u num T late).rest ps = s.rest ps := Part.lift hps (by simp (disch := decide) only [State.copyUnit, State.pushPage_rest, State.putPage_rest, State.setSnap_rest, State.wakeNi_rest])

theorem State.takeImages_rest (s : State) (d : Nat) {ps : List Part} (hps : Part.sub [.ni, .dom, .wakeQ] ps = true) : (State.takeImages s d).rest ps = s.rest ps := Part.lift hps (by
  simp (disch := first | decide | (intros; simp (disch := decide) only [State.rest_ite, ite_self, foldl_rest, State.rest_ni, State.pushPage_rest, State.rest_dom, State.rest_wakeQ, State.wakeNi_rest, State.modDom_rest]; done) | fail) only [State.takeImages, foldl_rest, State.pushPage_rest, State.wakeNi_rest, State.modDom_rest])

theorem State.snapRaise_rest (s : State) (d : Nat) (was : DomSt) {ps : List Part} (hps : Part.sub [.regs, .rt, .ni, .slice] ps = true) : (State.snapRaise s d was).rest ps = s.rest ps := Part.lift hps (by
  unfold State.snapRaise
  (repeat' split) <;> first | rfl | simp (disch := first | decide | (intros; simp (disch := decide) only [State.rest_ite, ite_self, foldl_rest, State.rest_regs, State.rest_rt, State.rest_ni, State.rest_slice, State.putPage_rest, State.setSnap_rest]; done) | fail) only [foldl_rest, State.rest_ite, ite_self, State.setSnap_rest, State.putPage_rest])

theorem State.keepDemand_rest (s : State) (n id : Nat) (p : Pkt) {ps : List Part} (hps : Part.sub [.port] ps = true) : (State.keepDemand s n id p).rest ps = s.rest ps := Part.lift hps rfl

theorem State.withDemand_rest (s : State) (n op : Nat) (k : State → Pkt → State) {ps : List Part} (hps : Part.sub [.ni] ps = true) (hf : ∀ s p, (k s p).rest ps = s.rest ps) : ∃ s', State.withDemand s n op k = .next s' ∧ s'.rest ps = s.rest ps := by
  simp only [State.withDemand]
  repeat' split
  · exact ⟨_, rfl, rfl⟩
  · have e := State.takeIn_eq _ _ _ _ (by assumption) (ps := ps) (Part.sub_trans (by decide) hps)
    exact ⟨_, rfl, by rw [hf, e]⟩
  · have e := State.takeIn_eq _ _ _ _ (by assumption) (ps := ps) (Part.sub_trans (by decide) hps)
    exact ⟨_, rfl, by rw [State.answerErr_rest _ _ _ _ (Part.sub_trans (by decide) hps), e]⟩

theorem State.demandToChiplet_rest (s : State) (n : Nat) (p : Pkt) (snoop : Bool) {ps : List Part} (hps : Part.sub [.port, .wire] ps = true) : (State.demandToChiplet s n p snoop).rest ps = s.rest ps := Part.lift hps (by simp (disch := decide) only [State.demandToChiplet, State.toChiplet_rest, State.keepDemand_rest, State.rest_ite, ite_self])

theorem State.snoopPort_rest (s : State) (n op : Nat) {ps : List Part} (hps : Part.sub [.ni, .port, .wire] ps = true) : ∃ s', State.snoopPort s n op = .next s' ∧ s'.rest ps = s.rest ps := by
  simp only [State.snoopPort]
  repeat' (first | (with_reducible rfl) | assumption | (refine ⟨_, rfl, Part.lift hps ?_⟩) | (simp (disch := first | decide | (intros; (try dsimp only); (repeat' split) <;> first | (with_reducible rfl) | (simp (disch := decide) only [State.rest_ite, ite_self, foldl_rest, State.rest_ni, State.rest_port, State.rest_wire, State.portOut_rest, State.withDemand_rest, State.demandToChiplet_rest, State.keepDemand_rest, State.answer_rest]; done) | fail) | fail) only [State.rest_ite, ite_self, State.portOut_rest, State.demandToChiplet_rest, State.keepDemand_rest, State.withDemand_rest, State.answer_rest]; done) | (apply State.withDemand_rest) | (refine next_rest (by apply State.withDemand_rest; exact Part.sub_trans (by decide) hps) (Part.lift hps ?_)) | (show Part.sub _ _ = true; first | decide | exact Part.sub_trans (by decide) hps) | (refine (foldl_rest _ _ _ ?_).trans ?_) | (intro _ _; refine Part.lift hps ?_; try dsimp only) | (intro _ _; try dsimp only) | (intro _; try dsimp only) | split | (simp (disch := first | decide | (intros; (try dsimp only); (repeat' split) <;> first | (with_reducible rfl) | (simp (disch := decide) only [State.rest_ite, ite_self, foldl_rest, State.rest_ni, State.rest_port, State.rest_wire, State.portOut_rest, State.withDemand_rest, State.demandToChiplet_rest, State.keepDemand_rest, State.answer_rest]; done) | fail) | fail) only [State.rest_ite, ite_self, foldl_rest, State.rest_ni, State.rest_port, State.rest_wire, State.portOut_rest, State.withDemand_rest, State.demandToChiplet_rest, State.keepDemand_rest, State.answer_rest]) | (dsimp only) | rfl)

theorem execSnps_rest (n : Fin 256) (s : State) {ps : List Part} (hps : Part.sub [.ni, .port, .wire] ps = true) : ∃ s', execSnps n s = .next s' ∧ s'.rest ps = s.rest ps := by
  simp only [execSnps]
  (repeat' split) <;> first | (refine ⟨_, rfl, Part.lift hps ?_⟩; first | (with_reducible rfl) | (simp (disch := first | decide | (intros; (try dsimp only); (repeat' split) <;> first | (with_reducible rfl) | (simp (disch := decide) only [State.rest_ite, ite_self, foldl_rest, State.rest_ni, State.rest_port, State.rest_wire, State.snoopPort_rest]; done) | fail) | fail) only [State.rest_ite, ite_self, foldl_rest, State.rest_ni, State.rest_port, State.rest_wire, State.snoopPort_rest]; done) | rfl) | (refine next_rest (by apply State.snoopPort_rest; exact Part.sub_trans (by decide) hps) (Part.lift hps ?_); first | rfl | simp (disch := first | decide | (intros; (try dsimp only); (repeat' split) <;> first | (with_reducible rfl) | (simp (disch := decide) only [State.rest_ite, ite_self, foldl_rest, State.rest_ni, State.rest_port, State.rest_wire, State.snoopPort_rest]; done) | fail) | fail) only [State.rest_ite, ite_self, foldl_rest, State.rest_ni, State.rest_port, State.rest_wire, State.snoopPort_rest])

theorem execSnpi_rest (n : Fin 256) (s : State) {ps : List Part} (hps : Part.sub [.ni, .port, .wire] ps = true) : ∃ s', execSnpi n s = .next s' ∧ s'.rest ps = s.rest ps := by
  simp only [execSnpi]
  (repeat' split) <;> first | (refine ⟨_, rfl, Part.lift hps ?_⟩; first | (with_reducible rfl) | (simp (disch := first | decide | (intros; (try dsimp only); (repeat' split) <;> first | (with_reducible rfl) | (simp (disch := decide) only [State.rest_ite, ite_self, foldl_rest, State.rest_ni, State.rest_port, State.rest_wire, State.snoopPort_rest]; done) | fail) | fail) only [State.rest_ite, ite_self, foldl_rest, State.rest_ni, State.rest_port, State.rest_wire, State.snoopPort_rest]; done) | rfl) | (refine next_rest (by apply State.snoopPort_rest; exact Part.sub_trans (by decide) hps) (Part.lift hps ?_); first | rfl | simp (disch := first | decide | (intros; (try dsimp only); (repeat' split) <;> first | (with_reducible rfl) | (simp (disch := decide) only [State.rest_ite, ite_self, foldl_rest, State.rest_ni, State.rest_port, State.rest_wire, State.snoopPort_rest]; done) | fail) | fail) only [State.rest_ite, ite_self, foldl_rest, State.rest_ni, State.rest_port, State.rest_wire, State.snoopPort_rest])

theorem execSnpc_rest (n : Fin 256) (s : State) {ps : List Part} (hps : Part.sub [.ni, .port, .wire] ps = true) : ∃ s', execSnpc n s = .next s' ∧ s'.rest ps = s.rest ps := by
  simp only [execSnpc]
  (repeat' split) <;> first | (refine ⟨_, rfl, Part.lift hps ?_⟩; first | (with_reducible rfl) | (simp (disch := first | decide | (intros; (try dsimp only); (repeat' split) <;> first | (with_reducible rfl) | (simp (disch := decide) only [State.rest_ite, ite_self, foldl_rest, State.rest_ni, State.rest_port, State.rest_wire, State.snoopPort_rest]; done) | fail) | fail) only [State.rest_ite, ite_self, foldl_rest, State.rest_ni, State.rest_port, State.rest_wire, State.snoopPort_rest]; done) | rfl) | (refine next_rest (by apply State.snoopPort_rest; exact Part.sub_trans (by decide) hps) (Part.lift hps ?_); first | rfl | simp (disch := first | decide | (intros; (try dsimp only); (repeat' split) <;> first | (with_reducible rfl) | (simp (disch := decide) only [State.rest_ite, ite_self, foldl_rest, State.rest_ni, State.rest_port, State.rest_wire, State.snoopPort_rest]; done) | fail) | fail) only [State.rest_ite, ite_self, foldl_rest, State.rest_ni, State.rest_port, State.rest_wire, State.snoopPort_rest])

theorem execMrd_rest (n : Fin 256) (s : State) {ps : List Part} (hps : Part.sub [.ni, .port, .wire] ps = true) : ∃ s', execMrd n s = .next s' ∧ s'.rest ps = s.rest ps := by
  simp only [execMrd]
  repeat' (first | (with_reducible rfl) | assumption | (refine ⟨_, rfl, Part.lift hps ?_⟩) | (simp (disch := first | decide | (intros; (try dsimp only); (repeat' split) <;> first | (with_reducible rfl) | (simp (disch := decide) only [State.rest_ite, ite_self, foldl_rest, State.rest_ni, State.rest_port, State.rest_wire, State.withDemand_rest, State.demandToChiplet_rest, State.portOut_rest, State.keepDemand_rest]; done) | fail) | fail) only [State.rest_ite, ite_self, State.demandToChiplet_rest, State.portOut_rest, State.keepDemand_rest, State.withDemand_rest]; done) | (apply State.withDemand_rest) | (refine next_rest (by apply State.withDemand_rest; exact Part.sub_trans (by decide) hps) (Part.lift hps ?_)) | (show Part.sub _ _ = true; first | decide | exact Part.sub_trans (by decide) hps) | (refine (foldl_rest _ _ _ ?_).trans ?_) | (intro _ _; refine Part.lift hps ?_; try dsimp only) | (intro _ _; try dsimp only) | (intro _; try dsimp only) | split | (simp (disch := first | decide | (intros; (try dsimp only); (repeat' split) <;> first | (with_reducible rfl) | (simp (disch := decide) only [State.rest_ite, ite_self, foldl_rest, State.rest_ni, State.rest_port, State.rest_wire, State.withDemand_rest, State.demandToChiplet_rest, State.portOut_rest, State.keepDemand_rest]; done) | fail) | fail) only [State.rest_ite, ite_self, foldl_rest, State.rest_ni, State.rest_port, State.rest_wire, State.withDemand_rest, State.demandToChiplet_rest, State.portOut_rest, State.keepDemand_rest]) | (dsimp only) | rfl)

theorem execMwr_rest (n : Fin 256) (s : State) {ps : List Part} (hps : Part.sub [.ni, .port, .wire] ps = true) : ∃ s', execMwr n s = .next s' ∧ s'.rest ps = s.rest ps := by
  simp only [execMwr]
  repeat' (first | (with_reducible rfl) | assumption | (refine ⟨_, rfl, Part.lift hps ?_⟩) | (simp (disch := first | decide | (intros; (try dsimp only); (repeat' split) <;> first | (with_reducible rfl) | (simp (disch := decide) only [State.rest_ite, ite_self, foldl_rest, State.rest_ni, State.rest_port, State.rest_wire, State.answerErr_rest, State.portOut_rest, State.withDemand_rest, State.demandToChiplet_rest, State.keepDemand_rest]; done) | fail) | fail) only [State.rest_ite, State.answerErr_rest, State.portOut_rest, State.demandToChiplet_rest, State.keepDemand_rest, ite_self, State.withDemand_rest]; done) | (apply State.withDemand_rest) | (refine next_rest (by apply State.withDemand_rest; exact Part.sub_trans (by decide) hps) (Part.lift hps ?_)) | (show Part.sub _ _ = true; first | decide | exact Part.sub_trans (by decide) hps) | (refine (foldl_rest _ _ _ ?_).trans ?_) | (intro _ _; refine Part.lift hps ?_; try dsimp only) | (intro _ _; try dsimp only) | (intro _; try dsimp only) | split | (simp (disch := first | decide | (intros; (try dsimp only); (repeat' split) <;> first | (with_reducible rfl) | (simp (disch := decide) only [State.rest_ite, ite_self, foldl_rest, State.rest_ni, State.rest_port, State.rest_wire, State.answerErr_rest, State.portOut_rest, State.withDemand_rest, State.demandToChiplet_rest, State.keepDemand_rest]; done) | fail) | fail) only [State.rest_ite, ite_self, foldl_rest, State.rest_ni, State.rest_port, State.rest_wire, State.answerErr_rest, State.portOut_rest, State.withDemand_rest, State.demandToChiplet_rest, State.keepDemand_rest]) | (dsimp only) | rfl)

theorem State.proxyOut_rest (s : State) (n op : Nat) (d : Pkt → D2hOp) {ps : List Part} (hps : Part.sub [.ni, .port] ps = true) : ∃ s', State.proxyOut s n op d = .next s' ∧ s'.rest ps = s.rest ps := by
  simp only [State.proxyOut]
  repeat' (first | (with_reducible rfl) | assumption | (refine ⟨_, rfl, Part.lift hps ?_⟩) | (simp (disch := first | decide | (intros; (try dsimp only); (repeat' split) <;> first | (with_reducible rfl) | (simp (disch := decide) only [State.rest_ite, ite_self, foldl_rest, State.rest_ni, State.rest_port, State.withDemand_rest, State.portOut_rest, State.keepDemand_rest]; done) | fail) | fail) only [State.portOut_rest, State.keepDemand_rest, State.withDemand_rest]; done) | (apply State.withDemand_rest) | (refine next_rest (by apply State.withDemand_rest; exact Part.sub_trans (by decide) hps) (Part.lift hps ?_)) | (show Part.sub _ _ = true; first | decide | exact Part.sub_trans (by decide) hps) | (refine (foldl_rest _ _ _ ?_).trans ?_) | (intro _ _; refine Part.lift hps ?_; try dsimp only) | (intro _ _; try dsimp only) | (intro _; try dsimp only) | split | (simp (disch := first | decide | (intros; (try dsimp only); (repeat' split) <;> first | (with_reducible rfl) | (simp (disch := decide) only [State.rest_ite, ite_self, foldl_rest, State.rest_ni, State.rest_port, State.withDemand_rest, State.portOut_rest, State.keepDemand_rest]; done) | fail) | fail) only [State.rest_ite, ite_self, foldl_rest, State.rest_ni, State.rest_port, State.withDemand_rest, State.portOut_rest, State.keepDemand_rest]) | (dsimp only) | rfl)

theorem execPxrd_rest (n : Fin 256) (s : State) {ps : List Part} (hps : Part.sub [.ni, .port] ps = true) : ∃ s', execPxrd n s = .next s' ∧ s'.rest ps = s.rest ps := by
  simp only [execPxrd]
  (repeat' split) <;> first | (refine ⟨_, rfl, Part.lift hps ?_⟩; first | (with_reducible rfl) | (simp (disch := first | decide | (intros; (try dsimp only); (repeat' split) <;> first | (with_reducible rfl) | (simp (disch := decide) only [State.rest_ite, ite_self, foldl_rest, State.rest_ni, State.rest_port, State.proxyOut_rest]; done) | fail) | fail) only [State.rest_ite, ite_self, foldl_rest, State.rest_ni, State.rest_port, State.proxyOut_rest]; done) | rfl) | (refine next_rest (by apply State.proxyOut_rest; exact Part.sub_trans (by decide) hps) (Part.lift hps ?_); first | rfl | simp (disch := first | decide | (intros; (try dsimp only); (repeat' split) <;> first | (with_reducible rfl) | (simp (disch := decide) only [State.rest_ite, ite_self, foldl_rest, State.rest_ni, State.rest_port, State.proxyOut_rest]; done) | fail) | fail) only [State.rest_ite, ite_self, foldl_rest, State.rest_ni, State.rest_port, State.proxyOut_rest])

theorem execPxro_rest (n : Fin 256) (s : State) {ps : List Part} (hps : Part.sub [.ni, .port] ps = true) : ∃ s', execPxro n s = .next s' ∧ s'.rest ps = s.rest ps := by
  simp only [execPxro]
  (repeat' split) <;> first | (refine ⟨_, rfl, Part.lift hps ?_⟩; first | (with_reducible rfl) | (simp (disch := first | decide | (intros; (try dsimp only); (repeat' split) <;> first | (with_reducible rfl) | (simp (disch := decide) only [State.rest_ite, ite_self, foldl_rest, State.rest_ni, State.rest_port, State.proxyOut_rest]; done) | fail) | fail) only [State.rest_ite, ite_self, foldl_rest, State.rest_ni, State.rest_port, State.proxyOut_rest]; done) | rfl) | (refine next_rest (by apply State.proxyOut_rest; exact Part.sub_trans (by decide) hps) (Part.lift hps ?_); first | rfl | simp (disch := first | decide | (intros; (try dsimp only); (repeat' split) <;> first | (with_reducible rfl) | (simp (disch := decide) only [State.rest_ite, ite_self, foldl_rest, State.rest_ni, State.rest_port, State.proxyOut_rest]; done) | fail) | fail) only [State.rest_ite, ite_self, foldl_rest, State.rest_ni, State.rest_port, State.proxyOut_rest])

theorem execPxrc_rest (n : Fin 256) (s : State) {ps : List Part} (hps : Part.sub [.ni, .port] ps = true) : ∃ s', execPxrc n s = .next s' ∧ s'.rest ps = s.rest ps := by
  simp only [execPxrc]
  (repeat' split) <;> first | (refine ⟨_, rfl, Part.lift hps ?_⟩; first | (with_reducible rfl) | (simp (disch := first | decide | (intros; (try dsimp only); (repeat' split) <;> first | (with_reducible rfl) | (simp (disch := decide) only [State.rest_ite, ite_self, foldl_rest, State.rest_ni, State.rest_port, State.proxyOut_rest]; done) | fail) | fail) only [State.rest_ite, ite_self, foldl_rest, State.rest_ni, State.rest_port, State.proxyOut_rest]; done) | rfl) | (refine next_rest (by apply State.proxyOut_rest; exact Part.sub_trans (by decide) hps) (Part.lift hps ?_); first | rfl | simp (disch := first | decide | (intros; (try dsimp only); (repeat' split) <;> first | (with_reducible rfl) | (simp (disch := decide) only [State.rest_ite, ite_self, foldl_rest, State.rest_ni, State.rest_port, State.proxyOut_rest]; done) | fail) | fail) only [State.rest_ite, ite_self, foldl_rest, State.rest_ni, State.rest_port, State.proxyOut_rest])

theorem execPxev_rest (n : Fin 256) (s : State) {ps : List Part} (hps : Part.sub [.ni, .port] ps = true) : ∃ s', execPxev n s = .next s' ∧ s'.rest ps = s.rest ps := by
  simp only [execPxev]
  (repeat' split) <;> first | (refine ⟨_, rfl, Part.lift hps ?_⟩; first | (with_reducible rfl) | (simp (disch := first | decide | (intros; (try dsimp only); (repeat' split) <;> first | (with_reducible rfl) | (simp (disch := decide) only [State.rest_ite, ite_self, foldl_rest, State.rest_ni, State.rest_port, State.proxyOut_rest]; done) | fail) | fail) only [State.rest_ite, ite_self, foldl_rest, State.rest_ni, State.rest_port, State.proxyOut_rest]; done) | rfl) | (refine next_rest (by apply State.proxyOut_rest; exact Part.sub_trans (by decide) hps) (Part.lift hps ?_); first | rfl | simp (disch := first | decide | (intros; (try dsimp only); (repeat' split) <;> first | (with_reducible rfl) | (simp (disch := decide) only [State.rest_ite, ite_self, foldl_rest, State.rest_ni, State.rest_port, State.proxyOut_rest]; done) | fail) | fail) only [State.rest_ite, ite_self, foldl_rest, State.rest_ni, State.rest_port, State.proxyOut_rest])

theorem execPxwb_rest (n : Fin 256) (s : State) {ps : List Part} (hps : Part.sub [.ni, .port] ps = true) : ∃ s', execPxwb n s = .next s' ∧ s'.rest ps = s.rest ps := by
  simp only [execPxwb]
  (repeat' split) <;> first | (refine ⟨_, rfl, Part.lift hps ?_⟩; first | (with_reducible rfl) | (simp (disch := first | decide | (intros; (try dsimp only); (repeat' split) <;> first | (with_reducible rfl) | (simp (disch := decide) only [State.rest_ite, ite_self, foldl_rest, State.rest_ni, State.rest_port, State.proxyOut_rest]; done) | fail) | fail) only [State.rest_ite, ite_self, foldl_rest, State.rest_ni, State.rest_port, State.proxyOut_rest]; done) | rfl) | (refine next_rest (by apply State.proxyOut_rest; exact Part.sub_trans (by decide) hps) (Part.lift hps ?_); first | rfl | simp (disch := first | decide | (intros; (try dsimp only); (repeat' split) <;> first | (with_reducible rfl) | (simp (disch := decide) only [State.rest_ite, ite_self, foldl_rest, State.rest_ni, State.rest_port, State.proxyOut_rest]; done) | fail) | fail) only [State.rest_ite, ite_self, foldl_rest, State.rest_ni, State.rest_port, State.proxyOut_rest])

theorem execPxwc_rest (n : Fin 256) (s : State) {ps : List Part} (hps : Part.sub [.ni, .port] ps = true) : ∃ s', execPxwc n s = .next s' ∧ s'.rest ps = s.rest ps := by
  simp only [execPxwc]
  (repeat' split) <;> first | (refine ⟨_, rfl, Part.lift hps ?_⟩; first | (with_reducible rfl) | (simp (disch := first | decide | (intros; (try dsimp only); (repeat' split) <;> first | (with_reducible rfl) | (simp (disch := decide) only [State.rest_ite, ite_self, foldl_rest, State.rest_ni, State.rest_port, State.proxyOut_rest]; done) | fail) | fail) only [State.rest_ite, ite_self, foldl_rest, State.rest_ni, State.rest_port, State.proxyOut_rest]; done) | rfl) | (refine next_rest (by apply State.proxyOut_rest; exact Part.sub_trans (by decide) hps) (Part.lift hps ?_); first | rfl | simp (disch := first | decide | (intros; (try dsimp only); (repeat' split) <;> first | (with_reducible rfl) | (simp (disch := decide) only [State.rest_ite, ite_self, foldl_rest, State.rest_ni, State.rest_port, State.proxyOut_rest]; done) | fail) | fail) only [State.rest_ite, ite_self, foldl_rest, State.rest_ni, State.rest_port, State.proxyOut_rest])

theorem State.hostMem_rest (s : State) (n k j tag line : Nat) (data : List Body) (mask : W64) (e : ReadErr) {ps : List Part} (hps : Part.sub [.regs, .tabBad, .ni, .port, .wire, .wakeQ] ps = true) : ∃ s', State.hostMem s n k j tag line data mask e = .next s' ∧ s'.rest ps = s.rest ps := by
  simp only [State.hostMem]
  (repeat' split) <;> exact ⟨_, rfl, Part.lift hps (by simp (disch := first | decide | (intros; simp (disch := decide) only [State.rest_ite, ite_self, foldl_rest, State.rest_regs, State.rest_tabBad, State.rest_ni, State.rest_port, State.rest_wire, State.rest_wakeQ, State.reportNi_rest, State.portOut_rest, State.portPwErr_rest, State.openExt_rest, State.serveComps_rest]; done) | fail) only [State.rest_ite, ite_self, State.reportNi_rest, State.portOut_rest, State.portPwErr_rest, State.openExt_rest, State.serveComps_rest])⟩

theorem execMemrd_rest (n : Fin 8) (tag : BitVec 16) (line : BitVec 46) (mv : MemMeta) (err : ReadErr) (s : State) {ps : List Part} (hps : Part.sub [.regs, .tabBad, .ni, .port, .wire, .wakeQ] ps = true) : ∃ s', execMemrd n tag line mv err s = .next s' ∧ s'.rest ps = s.rest ps := State.hostMem_rest _ _ _ _ _ _ _ _ _ hps

theorem execMemrddata_rest (n : Fin 8) (tag : BitVec 16) (line : BitVec 46) (err : ReadErr) (s : State) {ps : List Part} (hps : Part.sub [.regs, .tabBad, .ni, .port, .wire, .wakeQ] ps = true) : ∃ s', execMemrddata n tag line err s = .next s' ∧ s'.rest ps = s.rest ps := State.hostMem_rest _ _ _ _ _ _ _ _ _ hps

theorem execMeminv_rest (n : Fin 8) (tag : BitVec 16) (line : BitVec 46) (mv : MemMeta) (err : ReadErr) (s : State) {ps : List Part} (hps : Part.sub [.regs, .tabBad, .ni, .port, .wire, .wakeQ] ps = true) : ∃ s', execMeminv n tag line mv err s = .next s' ∧ s'.rest ps = s.rest ps := by
  simp only [execMeminv]
  split
  · exact State.hostMem_rest _ _ _ _ _ _ _ _ _ hps
  · split <;> exact ⟨_, rfl, Part.lift hps (by first | (with_reducible rfl) | simp (disch := decide) only [State.portUnsup_rest, State.portOut_rest])⟩

theorem execMemclnevct_rest (n : Fin 8) (tag : BitVec 16) (line : BitVec 46) (err : ReadErr) (s : State) {ps : List Part} (hps : Part.sub [.regs, .tabBad, .ni, .port, .wire, .wakeQ] ps = true) : ∃ s', execMemclnevct n tag line err s = .next s' ∧ s'.rest ps = s.rest ps := State.hostMem_rest _ _ _ _ _ _ _ _ _ hps

theorem execMemwr_rest (n : Fin 8) (tag : BitVec 16) (line : BitVec 46) (poison : Bool) (data : Line) (err : ReadErr) (s : State) {ps : List Part} (hps : Part.sub [.regs, .tabBad, .ni, .port, .wire, .wakeQ] ps = true) : ∃ s', execMemwr n tag line poison data err s = .next s' ∧ s'.rest ps = s.rest ps := by
  simp only [execMemwr]
  split
  · exact ⟨_, rfl, rfl⟩
  · exact next_rest (State.hostMem_rest _ _ _ _ _ _ _ _ _ hps) (State.modPort_rest _ _ _ (Part.sub_trans (by decide) hps))

theorem execMemwrptl_rest (n : Fin 8) (tag : BitVec 16) (line : BitVec 46) (be : W64) (poison : Bool) (data : Line) (err : ReadErr) (s : State) {ps : List Part} (hps : Part.sub [.regs, .tabBad, .ni, .port, .wire, .wakeQ] ps = true) : ∃ s', execMemwrptl n tag line be poison data err s = .next s' ∧ s'.rest ps = s.rest ps := State.hostMem_rest _ _ _ _ _ _ _ _ _ hps

theorem execBiconflict_rest (n : Fin 8) (tag : BitVec 16) (s : State) {ps : List Part} (hps : Part.sub [.port] ps = true) : ∃ s', execBiconflict n tag s = .next s' ∧ s'.rest ps = s.rest ps := by
  unfold execBiconflict
  (repeat' split) <;> exact ⟨_, rfl, Part.lift hps (by first | rfl | simp (disch := decide) only [State.portOut_rest, State.rest_ite, ite_self])⟩

theorem execMemspecrd_rest (n : Fin 8) (s : State) {ps : List Part} (hps : Part.sub [.regs] ps = true) : ∃ s', execMemspecrd n s = .next s' ∧ s'.rest ps = s.rest ps := by
  unfold execMemspecrd
  (repeat' split) <;> exact ⟨_, rfl, Part.lift hps (by first | rfl | simp (disch := decide) only [State.rest_ite, ite_self, foldl_rest, State.rest_regs, State.bump_rest])⟩

theorem execBirsp_rest (n : Fin 8) (bitag : BitVec 12) (st : BiState) (s : State) {ps : List Part} (hps : Part.sub [.regs, .ni, .port] ps = true) : ∃ s', execBirsp n bitag st s = .next s' ∧ s'.rest ps = s.rest ps := by
  simp only [execBirsp]
  (repeat' split) <;> exact ⟨_, rfl, Part.lift hps (by simp (disch := first | decide | (intros; simp (disch := decide) only [State.rest_ite, ite_self, foldl_rest, State.rest_regs, State.rest_ni, State.rest_port, State.handOver_rest, State.portCohProtocol_rest, State.portProtocol_rest, State.modPort_rest]; done) | fail) only [State.handOver_rest, State.portCohProtocol_rest, State.portProtocol_rest, State.modPort_rest, State.rest_ite, ite_self])⟩

theorem State.proxyDone_rest (s : State) (n : Nat) (d : Demand) (data : Option Body) (resp grant : Nat) {ps : List Part} (hps : Part.sub [.ni, .port] ps = true) : (State.proxyDone s n d data resp grant).rest ps = s.rest ps := Part.lift hps (by
  unfold State.proxyDone
  (repeat' split) <;> first | rfl | simp (disch := decide) only [State.rest_ite, ite_self, foldl_rest, State.rest_ni, State.rest_port, State.answer_rest, State.modPort_rest])

theorem State.proxyRefused_rest (s : State) (n : Nat) (d : Demand) {ps : List Part} (hps : Part.sub [.ni, .port] ps = true) : (State.proxyRefused s n d).rest ps = s.rest ps := Part.lift hps (by simp (disch := decide) only [State.proxyRefused, State.rest_ite, ite_self, State.modPort_rest, State.answer_rest])

theorem State.proxyTry_rest (s : State) (n : Nat) (d d' : Demand) {ps : List Part} (hps : Part.sub [.ni, .port] ps = true) : (State.proxyTry s n d d').rest ps = s.rest ps := Part.lift hps (by
  unfold State.proxyTry
  (repeat' split) <;> first | rfl | simp (disch := decide) only [State.rest_ite, ite_self, foldl_rest, State.rest_ni, State.rest_port, State.modPort_rest, State.proxyDone_rest])

theorem State.proxyData_rest (s : State) (n : Nat) (d : Demand) {ps : List Part} (hps : Part.sub [.port] ps = true) : (State.proxyData s n d).rest ps = s.rest ps := Part.lift hps (by simp (disch := decide) only [State.proxyData, State.portOut_rest])

theorem execH2dGo_rest (n : Fin 8) (cqid : BitVec 12) (kind : GoKind) (s : State) {ps : List Part} (hps : Part.sub [.regs, .ni, .port] ps = true) : ∃ s', execH2dGo n cqid kind s = .next s' ∧ s'.rest ps = s.rest ps := by
  simp only [execH2dGo]
  (repeat' split) <;> exact ⟨_, rfl, Part.lift hps (by simp (disch := first | decide | (intros; simp (disch := decide) only [State.rest_ite, ite_self, foldl_rest, State.rest_regs, State.rest_ni, State.rest_port, State.proxyTry_rest, State.portProtocol_rest, State.modPort_rest, State.proxyData_rest, State.proxyDone_rest, State.proxyRefused_rest]; done) | fail) only [State.proxyTry_rest, State.portProtocol_rest, State.modPort_rest, State.proxyData_rest, State.proxyDone_rest, State.rest_ite, ite_self, State.proxyRefused_rest])⟩

theorem execH2dData_rest (n : Fin 8) (cqid : BitVec 12) (poison : Bool) (data : Line) (s : State) {ps : List Part} (hps : Part.sub [.regs, .ni, .port] ps = true) : ∃ s', execH2dData n cqid poison data s = .next s' ∧ s'.rest ps = s.rest ps := by
  unfold execH2dData
  (repeat' split) <;> exact ⟨_, rfl, Part.lift hps (by first | rfl | simp (disch := decide) only [State.portProtocol_rest, State.proxyTry_rest, State.rest_ite, ite_self, State.proxyDone_rest])⟩

theorem State.hostSnoop_rest (s : State) (n op uqid line : Nat) (e : ReadErr) {ps : List Part} (hps : Part.sub [.regs, .tabBad, .ni, .port, .wire, .wakeQ] ps = true) : ∃ s', State.hostSnoop s n op uqid line e = .next s' ∧ s'.rest ps = s.rest ps := by
  simp only [State.hostSnoop]
  (repeat' split) <;> exact ⟨_, rfl, Part.lift hps (by simp (disch := first | decide | (intros; simp (disch := decide) only [State.rest_ite, ite_self, foldl_rest, State.rest_regs, State.rest_tabBad, State.rest_ni, State.rest_port, State.rest_wire, State.rest_wakeQ, State.openExt_rest, State.portOut_rest, State.serveComps_rest]; done) | fail) only [State.openExt_rest, State.portOut_rest, State.serveComps_rest, State.rest_ite, ite_self])⟩

theorem execSnpdata_rest (n : Fin 8) (uqid : BitVec 12) (line : BitVec 46) (err : ReadErr) (s : State) {ps : List Part} (hps : Part.sub [.regs, .tabBad, .ni, .port, .wire, .wakeQ] ps = true) : ∃ s', execSnpdata n uqid line err s = .next s' ∧ s'.rest ps = s.rest ps := by
  simp only [execSnpdata]
  (repeat' split) <;> first | (refine ⟨_, rfl, Part.lift hps ?_⟩; first | (with_reducible rfl) | (simp (disch := first | decide | (intros; (try dsimp only); (repeat' split) <;> first | (with_reducible rfl) | (simp (disch := decide) only [State.rest_ite, ite_self, foldl_rest, State.rest_regs, State.rest_tabBad, State.rest_ni, State.rest_port, State.rest_wire, State.rest_wakeQ, State.hostSnoop_rest]; done) | fail) | fail) only [State.rest_ite, ite_self, foldl_rest, State.rest_regs, State.rest_tabBad, State.rest_ni, State.rest_port, State.rest_wire, State.rest_wakeQ, State.hostSnoop_rest]; done) | rfl) | (refine next_rest (by apply State.hostSnoop_rest; exact Part.sub_trans (by decide) hps) (Part.lift hps ?_); first | rfl | simp (disch := first | decide | (intros; (try dsimp only); (repeat' split) <;> first | (with_reducible rfl) | (simp (disch := decide) only [State.rest_ite, ite_self, foldl_rest, State.rest_regs, State.rest_tabBad, State.rest_ni, State.rest_port, State.rest_wire, State.rest_wakeQ, State.hostSnoop_rest]; done) | fail) | fail) only [State.rest_ite, ite_self, foldl_rest, State.rest_regs, State.rest_tabBad, State.rest_ni, State.rest_port, State.rest_wire, State.rest_wakeQ, State.hostSnoop_rest])

theorem execSnpinv_rest (n : Fin 8) (uqid : BitVec 12) (line : BitVec 46) (err : ReadErr) (s : State) {ps : List Part} (hps : Part.sub [.regs, .tabBad, .ni, .port, .wire, .wakeQ] ps = true) : ∃ s', execSnpinv n uqid line err s = .next s' ∧ s'.rest ps = s.rest ps := by
  simp only [execSnpinv]
  (repeat' split) <;> first | (refine ⟨_, rfl, Part.lift hps ?_⟩; first | (with_reducible rfl) | (simp (disch := first | decide | (intros; (try dsimp only); (repeat' split) <;> first | (with_reducible rfl) | (simp (disch := decide) only [State.rest_ite, ite_self, foldl_rest, State.rest_regs, State.rest_tabBad, State.rest_ni, State.rest_port, State.rest_wire, State.rest_wakeQ, State.hostSnoop_rest]; done) | fail) | fail) only [State.rest_ite, ite_self, foldl_rest, State.rest_regs, State.rest_tabBad, State.rest_ni, State.rest_port, State.rest_wire, State.rest_wakeQ, State.hostSnoop_rest]; done) | rfl) | (refine next_rest (by apply State.hostSnoop_rest; exact Part.sub_trans (by decide) hps) (Part.lift hps ?_); first | rfl | simp (disch := first | decide | (intros; (try dsimp only); (repeat' split) <;> first | (with_reducible rfl) | (simp (disch := decide) only [State.rest_ite, ite_self, foldl_rest, State.rest_regs, State.rest_tabBad, State.rest_ni, State.rest_port, State.rest_wire, State.rest_wakeQ, State.hostSnoop_rest]; done) | fail) | fail) only [State.rest_ite, ite_self, foldl_rest, State.rest_regs, State.rest_tabBad, State.rest_ni, State.rest_port, State.rest_wire, State.rest_wakeQ, State.hostSnoop_rest])

theorem execSnpcur_rest (n : Fin 8) (uqid : BitVec 12) (line : BitVec 46) (err : ReadErr) (s : State) {ps : List Part} (hps : Part.sub [.regs, .tabBad, .ni, .port, .wire, .wakeQ] ps = true) : ∃ s', execSnpcur n uqid line err s = .next s' ∧ s'.rest ps = s.rest ps := by
  simp only [execSnpcur]
  (repeat' split) <;> first | (refine ⟨_, rfl, Part.lift hps ?_⟩; first | (with_reducible rfl) | (simp (disch := first | decide | (intros; (try dsimp only); (repeat' split) <;> first | (with_reducible rfl) | (simp (disch := decide) only [State.rest_ite, ite_self, foldl_rest, State.rest_regs, State.rest_tabBad, State.rest_ni, State.rest_port, State.rest_wire, State.rest_wakeQ, State.hostSnoop_rest]; done) | fail) | fail) only [State.rest_ite, ite_self, foldl_rest, State.rest_regs, State.rest_tabBad, State.rest_ni, State.rest_port, State.rest_wire, State.rest_wakeQ, State.hostSnoop_rest]; done) | rfl) | (refine next_rest (by apply State.hostSnoop_rest; exact Part.sub_trans (by decide) hps) (Part.lift hps ?_); first | rfl | simp (disch := first | decide | (intros; (try dsimp only); (repeat' split) <;> first | (with_reducible rfl) | (simp (disch := decide) only [State.rest_ite, ite_self, foldl_rest, State.rest_regs, State.rest_tabBad, State.rest_ni, State.rest_port, State.rest_wire, State.rest_wakeQ, State.hostSnoop_rest]; done) | fail) | fail) only [State.rest_ite, ite_self, foldl_rest, State.rest_regs, State.rest_tabBad, State.rest_ni, State.rest_port, State.rest_wire, State.rest_wakeQ, State.hostSnoop_rest])

theorem execCxlIoMrd_rest (n : Fin 8) (tag : BitVec 10) (line : BitVec 46) (masks : List W64) (pasid : Option Bool) (err : ReadErr) (s : State) {ps : List Part} (hps : Part.sub [.regs, .tabBad, .ni, .port, .wire, .wakeQ] ps = true) : ∃ s', execCxlIoMrd n tag line masks pasid err s = .next s' ∧ s'.rest ps = s.rest ps := by
  unfold execCxlIoMrd
  (repeat' split) <;> exact ⟨_, rfl, Part.lift hps (by first | rfl | simp (disch := decide) only [State.openExt_rest, State.serveComps_rest, State.rest_ite, ite_self])⟩

theorem execCxlIoMwr_rest (n : Fin 8) (relaxed : Bool) (line : BitVec 46) (data : List Body) (pasid : Option Bool) (err : ReadErr) (s : State) {ps : List Part} (hps : Part.sub [.regs, .tabBad, .ni, .port, .wire, .wakeQ] ps = true) : ∃ s', execCxlIoMwr n relaxed line data pasid err s = .next s' ∧ s'.rest ps = s.rest ps := by
  unfold execCxlIoMwr
  (repeat' split) <;> exact ⟨_, rfl, Part.lift hps (by first | rfl | simp (disch := decide) only [State.openExt_rest, State.serveComps_rest, State.rest_ite, ite_self])⟩

theorem execCxlIoCpl_rest (n : Fin 16) (id : BitVec 17) (st : IoStatus) (data : List Line) (s : State) {ps : List Part} (hps : Part.sub [.ni, .port] ps = true) : ∃ s', execCxlIoCpl n id st data s = .next s' ∧ s'.rest ps = s.rest ps := by
  simp only [execCxlIoCpl]
  (repeat' split) <;> exact ⟨_, rfl, Part.lift hps (by simp (disch := first | decide | (intros; simp (disch := decide) only [State.rest_ite, ite_self, foldl_rest, State.rest_ni, State.rest_port, State.answerErr_rest, State.answer_rest, State.modPort_rest]; done) | fail) only [State.answerErr_rest, State.answer_rest, State.modPort_rest, State.rest_ite, ite_self])⟩

theorem execCxlIoUnsupported_rest (n : Fin 8) (tag : BitVec 10) (message : Bool) (s : State) {ps : List Part} (hps : Part.sub [.regs, .ni, .port] ps = true) : ∃ s', execCxlIoUnsupported n tag message s = .next s' ∧ s'.rest ps = s.rest ps := by
  unfold execCxlIoUnsupported
  (repeat' split) <;> exact ⟨_, rfl, Part.lift hps (by first | rfl | simp (disch := decide) only [State.portOut_rest, State.portUnsup_rest, State.rest_ite, ite_self])⟩

theorem execCpaIoRequest_rest (n : Fin 16) (posted : Bool) (s : State) {ps : List Part} (hps : Part.sub [.regs, .ni, .port] ps = true) : ∃ s', execCpaIoRequest n posted s = .next s' ∧ s'.rest ps = s.rest ps := by
  simp only [execCpaIoRequest]
  repeat' split
  all_goals try have e := State.takeIn_eq _ _ _ _ (by assumption) (ps := ps) (Part.sub_trans (by decide) hps)
  all_goals refine ⟨_, rfl, ?_⟩
  all_goals first
    | rfl
    | (simp (disch := (exact Part.sub_trans (by decide) hps)) only [State.bump_rest, State.answerErr_rest, State.answer_rest, State.keepDemand_rest, State.portOut_rest, *]; done)
    | (rw [foldl_rest _ _ _ (fun s a => State.portOut_rest _ _ _ (Part.sub_trans (by decide) hps))]; assumption)
    | (rw [State.answer_rest _ _ _ _ _ _ _ _ (Part.sub_trans (by decide) hps), foldl_rest _ _ _ (fun s a => State.portOut_rest _ _ _ (Part.sub_trans (by decide) hps))]; assumption)

theorem execMpaEcamAccess_rest (n : Fin 16) (s : State) {ps : List Part} (hps : Part.sub [.ni, .port] ps = true) : ∃ s', execMpaEcamAccess n s = .next s' ∧ s'.rest ps = s.rest ps := by
  simp only [execMpaEcamAccess]
  repeat' split
  all_goals try have e := State.takeIn_eq _ _ _ _ (by assumption) (ps := ps) (Part.sub_trans (by decide) hps)
  all_goals refine ⟨_, rfl, ?_⟩
  all_goals first
    | rfl
    | (simp (disch := (exact Part.sub_trans (by decide) hps)) only [State.answerErr_rest, State.keepDemand_rest, State.portOut_rest, *]; done)

theorem execDeviceMemdata_rest (n : Fin 16) (tag : BitVec 12) (nxm poison : Bool) (data : Line) (s : State) {ps : List Part} (hps : Part.sub [.ni, .port] ps = true) : ∃ s', execDeviceMemdata n tag nxm poison data s = .next s' ∧ s'.rest ps = s.rest ps := by
  unfold execDeviceMemdata
  (repeat' split) <;> exact ⟨_, rfl, Part.lift hps (by first | rfl | simp (disch := decide) only [State.rest_ite, ite_self, foldl_rest, State.rest_ni, State.rest_port, State.answer_rest, State.modPort_rest])⟩

theorem State.poisonDone_rest (s : State) (n line resp : Nat) {ps : List Part} (hps : Part.sub [.ni] ps = true) : (State.poisonDone s n line resp).rest ps = s.rest ps := Part.lift hps rfl

theorem execDeviceCmp_rest (n : Fin 16) (tag : BitVec 16) (s : State) {ps : List Part} (hps : Part.sub [.ni, .port] ps = true) : ∃ s', execDeviceCmp n tag s = .next s' ∧ s'.rest ps = s.rest ps := by
  unfold execDeviceCmp
  (repeat' split) <;> exact ⟨_, rfl, Part.lift hps (by first | rfl | simp (disch := decide) only [State.rest_ite, ite_self, foldl_rest, State.rest_ni, State.rest_port, State.poisonDone_rest, State.answer_rest, State.modPort_rest])⟩

theorem execDeviceMwr_rest (n : Fin 16) (line : BitVec 46) (data : List Body) (err : ReadErr) (s : State) {ps : List Part} (hps : Part.sub [.regs, .tabBad, .ni, .port, .wire, .wakeQ] ps = true) : ∃ s', execDeviceMwr n line data err s = .next s' ∧ s'.rest ps = s.rest ps := by
  unfold execDeviceMwr
  (repeat' split) <;> exact ⟨_, rfl, Part.lift hps (by first | rfl | simp (disch := decide) only [State.openExt_rest, State.serveComps_rest, State.rest_ite, ite_self])⟩

theorem execDeviceMrd_rest (n : Fin 16) (tag : BitVec 10) (line : BitVec 46) (masks : List W64) (err : ReadErr) (s : State) {ps : List Part} (hps : Part.sub [.regs, .tabBad, .ni, .port, .wire, .wakeQ] ps = true) : ∃ s', execDeviceMrd n tag line masks err s = .next s' ∧ s'.rest ps = s.rest ps := by
  unfold execDeviceMrd
  (repeat' split) <;> exact ⟨_, rfl, Part.lift hps (by first | rfl | simp (disch := decide) only [State.openExt_rest, State.serveComps_rest, State.rest_ite, ite_self])⟩

theorem execDeviceErrMsg_rest (n : Fin 16) (severity : Fin 3) (s : State) {ps : List Part} (hps : Part.sub [.regs, .ni] ps = true) : ∃ s', execDeviceErrMsg n severity s = .next s' ∧ s'.rest ps = s.rest ps := by
  unfold execDeviceErrMsg
  (repeat' split) <;> exact ⟨_, rfl, Part.lift hps (by first | rfl | simp (disch := decide) only [State.reportCls_rest, State.setFld_rest, State.rest_ite, ite_self])⟩

theorem execDeviceBisnp_rest (n : Fin 16) (bitag : BitVec 12) (s : State) {ps : List Part} (hps : Part.sub [.regs, .ni, .port] ps = true) : ∃ s', execDeviceBisnp n bitag s = .next s' ∧ s'.rest ps = s.rest ps := by
  unfold execDeviceBisnp
  (repeat' split) <;> exact ⟨_, rfl, Part.lift hps (by first | rfl | simp (disch := decide) only [State.portOut_rest, State.portUnsup_rest, State.rest_ite, ite_self])⟩

theorem State.programHdm_rest (s : State) (n : Nat) {ps : List Part} (hps : Part.sub [.port] ps = true) : (State.programHdm s n).rest ps = s.rest ps := Part.lift hps (by simp (disch := decide) only [State.programHdm, State.rest_ite, ite_self, State.portOut_rest])

theorem State.portIndication_rest (s : State) (n : Nat) (up : Bool) {ps : List Part} (hps : Part.sub [.regs, .ni, .port] ps = true) : (State.portIndication s n up).rest ps = s.rest ps := Part.lift hps (by simp (disch := decide) only [State.portIndication, State.rest_ite, ite_self, State.programHdm_rest, State.setFld_rest, State.modPort_rest, State.reportNi_rest])

theorem execPortIndicationRise_rest (n : Fin 256) (s : State) {ps : List Part} (hps : Part.sub [.regs, .ni, .port] ps = true) : ∃ s', execPortIndicationRise n s = .next s' ∧ s'.rest ps = s.rest ps := by
  unfold execPortIndicationRise
  (repeat' split) <;> exact ⟨_, rfl, Part.lift hps (by first | rfl | simp (disch := decide) only [State.portIndication_rest, State.rest_ite, ite_self])⟩

theorem execPortIndicationFall_rest (n : Fin 256) (s : State) {ps : List Part} (hps : Part.sub [.regs, .ni, .port] ps = true) : ∃ s', execPortIndicationFall n s = .next s' ∧ s'.rest ps = s.rest ps := by
  unfold execPortIndicationFall
  (repeat' split) <;> exact ⟨_, rfl, Part.lift hps (by first | rfl | simp (disch := decide) only [State.portIndication_rest, State.rest_ite, ite_self])⟩

theorem State.sendRecord_rest (s : State) (n tag : Nat) (r : CompRec) (lines : List Body) {ps : List Part} (hps : Part.sub [.ni] ps = true) : (State.sendRecord s n tag r lines).rest ps = s.rest ps := Part.lift hps rfl

theorem execCompletionRecordTimeout_rest (n : Fin 256) (tag : Fin 256) (s : State) {ps : List Part} (hps : Part.sub [.regs, .ni] ps = true) : ∃ s', execCompletionRecordTimeout n tag s = .next s' ∧ s'.rest ps = s.rest ps := by
  unfold execCompletionRecordTimeout
  (repeat' split) <;> exact ⟨_, rfl, Part.lift hps (by first | with_reducible rfl | simp (disch := decide) only [State.sendRecord_rest, State.reportNi_rest, State.setFld_rest, State.rest_ite, ite_self])⟩

theorem State.fromChiplet_rest (s : State) (n vn : Nat) {ps : List Part} (hps : Part.sub [.regs, .ni, .wire, .owed] ps = true) :
    (State.fromChiplet s n vn).2.rest ps = s.rest ps ∧ ∀ p s1, (State.fromChiplet s n vn).1 = some (p, s1) → s1.rest ps = s.rest ps := by
  have key : ∀ (fs rest : List Flit), (fs.foldl (fun s f => s.oweCredit (claRxKey n) vn f.gt) (s.setWire (claRxKey n) rest)).rest ps = s.rest ps := by
    intro fs rest
    rw [foldl_rest _ _ _ (fun s f => State.oweCredit_rest s _ _ _ (Part.sub_trans (by decide) hps)), State.setWire_rest _ _ _ (Part.sub_trans (by decide) hps)]
  simp only [State.fromChiplet]
  (repeat' split) <;> refine ⟨?_, ?_⟩ <;> first
    | rfl
    | (rw [State.reportNi_rest _ _ _ _ _ (Part.sub_trans (by decide) hps)]; exact key _ _)
    | (intro p s1 h; cases h; exact key _ _)
    | (intro p s1 h; cases h)

theorem State.fromChiplet_eq (s : State) (n vn : Nat) {r : Option (Pkt × State)} {s' : State} {ps : List Part} (hr : State.fromChiplet s n vn = (r, s'))
    (hps : Part.sub [.regs, .ni, .wire, .owed] ps = true) : s'.rest ps = s.rest ps := by
  have e := (State.fromChiplet_rest s n vn hps).1
  rwa [hr] at e

theorem State.fromChiplet_some (s : State) (n vn : Nat) {p : Pkt} {s1 s' : State} {ps : List Part} (hr : State.fromChiplet s n vn = (some (p, s1), s'))
    (hps : Part.sub [.regs, .ni, .wire, .owed] ps = true) : s1.rest ps = s.rest ps := by
  have e := (State.fromChiplet_rest s n vn hps).2 p s1
  rw [hr] at e
  exact e rfl

theorem State.xlateMiss_rest (s : State) (n : Nat) (r : Req) {ps : List Part} (hps : Part.sub [.regs, .ni] ps = true) : (State.xlateMiss s n r).rest ps = s.rest ps := Part.lift hps (by simp (disch := decide) only [State.xlateMiss, State.localDone_rest, State.reportNi_rest])

theorem State.chipOpen_rest (s : State) (n : Nat) (p : Pkt) (k : State → Req → State) {ps : List Part} (hps : Part.sub [.regs, .ni, .port] ps = true) (hf : ∀ s r, (k s r).rest ps = s.rest ps) : (State.chipOpen s n p k).rest ps = s.rest ps := by
  simp only [State.chipOpen]
  split
  · exact State.portProtocol_rest _ _ _ _ (Part.sub_trans (by decide) hps)
  · rw [hf, State.modPort_rest _ _ _ (Part.sub_trans (by decide) hps)]

theorem State.chipRequest_rest (s : State) (n : Nat) (p : Pkt) (e : ReadErr) {ps : List Part} (hps : Part.sub [.regs, .tabBad, .ni, .port, .wakeQ] ps = true) : (State.chipRequest s n p e).rest ps = s.rest ps := Part.lift hps (by
  simp (disch := first | decide | (intros; simp (disch := decide) only [State.rest_ite, ite_self, foldl_rest, State.rest_regs, State.rest_tabBad, State.rest_ni, State.rest_port, State.rest_wakeQ, State.chipOpen_rest, State.localDone_rest, State.presentReq_rest, State.agentRefused_rest, State.reportReserved_rest, State.xlateMiss_rest]; done) | fail) only [State.chipRequest, State.chipOpen_rest, State.rest_ite, ite_self, State.agentRefused_rest, State.reportReserved_rest, State.localDone_rest, State.xlateMiss_rest, State.presentReq_rest])

theorem State.chipSnoopRsp_eq (s : State) (n : Nat) (d : Demand) (p : Pkt) {r0 : State} {r1 : Pkt} {ps : List Part} (hr : State.chipSnoopRsp s n d p = (r0, r1)) (hps : Part.sub [.regs, .ni] ps = true) : r0.rest ps = s.rest ps := Part.lift hps (by
  unfold State.chipSnoopRsp at hr
  (repeat' split at hr) <;> (try cases hr) <;> first | rfl | contradiction | simp (disch := decide) only [State.rest_ite, ite_self, State.portCohProtocol_rest])

theorem State.chipSnoopRsp_rest (s : State) (n : Nat) (d : Demand) (p : Pkt) {ps : List Part} (hps : Part.sub [.regs, .ni] ps = true) : (State.chipSnoopRsp s n d p).1.rest ps = s.rest ps := Part.lift hps (by simp (disch := decide) only [State.chipSnoopRsp, State.rest_ite, ite_self, State.portCohProtocol_rest])

theorem State.chipResponse_rest (s : State) (n : Nat) (p : Pkt) {ps : List Part} (hps : Part.sub [.regs, .ni, .port] ps = true) : (State.chipResponse s n p).rest ps = s.rest ps := Part.lift hps (by
  simp only [State.chipResponse]
  (repeat' split) <;> first | with_reducible rfl | simp (disch := first | decide | (intros; simp (disch := decide) only [State.rest_ite, ite_self, foldl_rest, State.rest_regs, State.rest_ni, State.rest_port, State.chipSnoopRsp_rest, State.handOver_rest, State.sendRecord_rest, State.portProtocol_rest, State.poisonDone_rest, State.modPort_rest]; done) | fail) only [State.chipSnoopRsp_rest, State.handOver_rest, State.portProtocol_rest, State.modPort_rest, State.rest_ite, ite_self, State.sendRecord_rest, State.poisonDone_rest])

theorem execClaChipletPacket_rest (n : Fin 256) (vn : Fin 8) (err : ReadErr) (s : State) {ps : List Part} (hps : Part.sub [.regs, .tabBad, .ni, .port, .wire, .owed, .wakeQ] ps = true) : ∃ s', execClaChipletPacket n vn err s = .next s' ∧ s'.rest ps = s.rest ps := by
  simp only [execClaChipletPacket]
  repeat' split
  all_goals try have e := State.fromChiplet_eq _ _ _ (by assumption) (ps := ps) (Part.sub_trans (by decide) hps)
  all_goals try have e' := State.fromChiplet_some _ _ _ (by assumption) (ps := ps) (Part.sub_trans (by decide) hps)
  all_goals refine ⟨_, rfl, ?_⟩
  all_goals first
    | rfl
    | assumption
    | (simp (disch := (exact Part.sub_trans (by decide) hps)) only [State.portProtocol_rest, State.bump_rest, State.serveComps_rest, State.chipResponse_rest, State.chipRequest_rest, *]; done)

theorem execNreq_rest (n : Fin 256) (err : ReadErr) (s : State) {ps : List Part} (hps : Part.sub [.regs, .tabBad, .ni, .port, .wire, .owed, .wakeQ] ps = true) : ∃ s', execNreq n err s = .next s' ∧ s'.rest ps = s.rest ps := by
  simp only [execNreq]
  repeat' split
  all_goals try have e := State.fromChiplet_eq _ _ _ (by assumption) (ps := ps) (Part.sub_trans (by decide) hps)
  all_goals try have e' := State.fromChiplet_some _ _ _ (by assumption) (ps := ps) (Part.sub_trans (by decide) hps)
  all_goals refine ⟨_, rfl, ?_⟩
  all_goals first
    | rfl
    | assumption
    | (rw [State.serveComps_rest _ _ _ (Part.sub_trans (by decide) hps), State.chipOpen_rest _ _ _ _ (Part.sub_trans (by decide) hps) ?_]
       · assumption
       · intro s r
         (repeat' split) <;> simp (disch := (exact Part.sub_trans (by decide) hps)) only [State.agentRefused_rest, State.xlateMiss_rest, State.presentReq_rest])

theorem execPortEngineStatus_rest (n : Fin 256) (src tag : Fin 256) (status : BitVec 4) (exfail : Bool) (data : List Body) (s : State) {ps : List Part} (hps : Part.sub [.ni, .port] ps = true) : ∃ s', execPortEngineStatus n src tag status exfail data s = .next s' ∧ s'.rest ps = s.rest ps := by
  simp only [execPortEngineStatus]
  (repeat' split) <;> exact ⟨_, rfl, Part.lift hps (by simp (disch := first | decide | (intros; simp (disch := decide) only [State.rest_ite, ite_self, foldl_rest, State.rest_ni, State.rest_port, State.answerErr_rest, State.answer_rest, State.modPort_rest]; done) | fail) only [State.answerErr_rest, State.answer_rest, State.modPort_rest, State.rest_ite, ite_self])⟩

theorem execPortEngineRequest_rest (n : Fin 256) (r : Req) (err : ReadErr) (s : State) {ps : List Part} (hps : Part.sub [.regs, .tabBad, .ni, .port, .wire, .wakeQ] ps = true) : ∃ s', execPortEngineRequest n r err s = .next s' ∧ s'.rest ps = s.rest ps := by
  simp only [execPortEngineRequest]
  (repeat' split) <;> exact ⟨_, rfl, Part.lift hps (by simp (disch := first | decide | (intros; simp (disch := decide) only [State.rest_ite, ite_self, foldl_rest, State.rest_regs, State.rest_tabBad, State.rest_ni, State.rest_port, State.rest_wire, State.rest_wakeQ, State.presentExt_rest, State.portUnsup_rest, State.failReq_rest, State.serveComps_rest, State.modPort_rest]; done) | fail) only [State.presentExt_rest, State.portUnsup_rest, State.failReq_rest, State.serveComps_rest, State.modPort_rest, State.rest_ite, ite_self])⟩

end Sys2Proof.Machine
end

