-- ==== Sys2Proof/Laws/FrameLinks.lean ====
section
/-! SUPPORT. Which components of the state each operation and each command may change: the Caddy, the links and the Service Bridge.
A lemma named after a function says that nothing else differs; of a command it says also that the command answers a next state. -/
namespace Sys2Proof.Machine

theorem State.modCd_rest (s : State) (f : Caddy → Caddy) {ps : List Part} (hps : Part.sub [.cd] ps = true) : (State.modCd s f).rest ps = s.rest ps := Part.lift hps rfl

theorem State.cdPut_rest (s : State) (p : Nat) (r : CdRec) {ps : List Part} (hps : Part.sub [.regs, .cd] ps = true) : (State.cdPut s p r).rest ps = s.rest ps := Part.lift hps (by simp (disch := decide) only [State.cdPut, State.rest_ite, ite_self, State.modCd_rest, State.bump_rest])

theorem State.cdWrite_rest (s : State) (p kind w1 : Nat) (w2 w3 : W64) {ps : List Part} (hps : Part.sub [.regs, .cd] ps = true) : (State.cdWrite s p kind w1 w2 w3).rest ps = s.rest ps := Part.lift hps (by simp (disch := decide) only [State.cdWrite, State.cdPut_rest])

theorem State.cdGrant_rest (s : State) (p : Nat) {ps : List Part} (hps : Part.sub [.cd] ps = true) : (State.cdGrant s p).rest ps = s.rest ps := Part.lift hps rfl

theorem State.cdStore_rest (s : State) (k : Nat) (r : CdRec) {ps : List Part} (hps : Part.sub [.cd] ps = true) : (State.cdStore s k r).rest ps = s.rest ps := Part.lift hps rfl

theorem State.cdLoss_rest (s : State) (p : Nat) {ps : List Part} (hps : Part.sub [.cd] ps = true) : (State.cdLoss s p).rest ps = s.rest ps := Part.lift hps (by simp (disch := decide) only [State.cdLoss, State.rest_ite, ite_self, State.modCd_rest])

theorem State.traceFreeze_rest (s : State) {ps : List Part} (hps : Part.sub [.tr] ps = true) : (State.traceFreeze s).rest ps = s.rest ps := Part.lift hps (by simp (disch := decide) only [State.traceFreeze, State.rest_ite, ite_self, State.rest_tr])

theorem State.cdFreeze_rest (s : State) (c4 : Bool) {ps : List Part} (hps : Part.sub [.regs, .cd, .tr] ps = true) : (State.cdFreeze s c4).rest ps = s.rest ps := Part.lift hps (by simp (disch := decide) only [State.cdFreeze, State.traceFreeze_rest, State.modCd_rest, State.wr_rest])

theorem execCaddyReserve_rest (p : Fin 7) (s : State) {ps : List Part} (hps : Part.sub [.regs, .cd] ps = true) : ∃ s', execCaddyReserve p s = .next s' ∧ s'.rest ps = s.rest ps := by
  simp only [execCaddyReserve]
  (repeat' split) <;> exact ⟨_, rfl, Part.lift hps (by simp (disch := first | decide | (intros; simp (disch := decide) only [State.rest_ite, ite_self, foldl_rest, State.rest_regs, State.rest_cd, State.modCd_rest, State.bumpBy_rest, State.cdGrant_rest]; done) | fail) only [State.modCd_rest, State.bumpBy_rest, State.cdGrant_rest, State.rest_ite, ite_self])⟩

theorem execCaddyRecordCommit_rest (p : Fin 7) (s : State) {ps : List Part} (hps : Part.sub [.regs, .cd, .tr] ps = true) : ∃ s', execCaddyRecordCommit p s = .next s' ∧ s'.rest ps = s.rest ps := by
  simp only [execCaddyRecordCommit]
  (repeat' split) <;> exact ⟨_, rfl, Part.lift hps (by simp (disch := first | decide | (intros; simp (disch := decide) only [State.rest_ite, ite_self, foldl_rest, State.rest_regs, State.rest_cd, State.rest_tr, State.modCd_rest, State.cdFreeze_rest, State.cdLoss_rest, State.cdStore_rest]; done) | fail) only [State.modCd_rest, State.cdFreeze_rest, State.cdLoss_rest, State.cdStore_rest, State.rest_ite, ite_self])⟩

theorem execCaddyReserveTimeout_rest (p : Fin 7) (s : State) {ps : List Part} (hps : Part.sub [.regs, .cd] ps = true) : ∃ s', execCaddyReserveTimeout p s = .next s' ∧ s'.rest ps = s.rest ps := by
  simp only [execCaddyReserveTimeout]
  (repeat' split) <;> exact ⟨_, rfl, Part.lift hps (by simp (disch := first | decide | (intros; simp (disch := decide) only [State.rest_ite, ite_self, foldl_rest, State.rest_regs, State.rest_cd, State.modCd_rest, State.bump_rest, State.cdLoss_rest]; done) | fail) only [State.modCd_rest, State.bump_rest, State.rest_ite, ite_self, State.cdLoss_rest])⟩

theorem State.cdReset_rest (s : State) {ps : List Part} (hps : Part.sub [.regs, .cd] ps = true) : (State.cdReset s).rest ps = s.rest ps := Part.lift hps rfl

theorem State.traceWrite_rest (s : State) (w : Nat) {ps : List Part} (hps : Part.sub [.tr] ps = true) : (State.traceWrite s w).rest ps = s.rest ps := Part.lift hps rfl

theorem State.traceStop_rest (s : State) (reason : Nat) {ps : List Part} (hps : Part.sub [.tr] ps = true) : (State.traceStop s reason).rest ps = s.rest ps := Part.lift hps (by simp (disch := decide) only [State.traceStop, State.rest_tr, State.traceWrite_rest])

theorem State.traceResync_rest (s : State) (reason : Nat) {ps : List Part} (hps : Part.sub [.tr] ps = true) : (State.traceResync s reason).rest ps = s.rest ps := Part.lift hps (by simp (disch := decide) only [State.traceResync, State.rest_tr, State.traceWrite_rest])

theorem execPotBranch_rest (trap : Bool) (src dst : BitVec 21) (cycles : Nat) (s : State) {ps : List Part} (hps : Part.sub [.tr] ps = true) : ∃ s', execPotBranch trap src dst cycles s = .next s' ∧ s'.rest ps = s.rest ps := by
  unfold execPotBranch
  (repeat' split) <;> exact ⟨_, rfl, Part.lift hps (by simp (disch := first | decide | (intros; simp (disch := decide) only [State.rest_ite, ite_self, foldl_rest, State.rest_tr, State.traceWrite_rest, State.traceResync_rest]; done) | fail) only [State.traceWrite_rest, State.traceResync_rest, State.rest_ite, ite_self])⟩

theorem execPotWaitForInterrupt_rest (s : State) {ps : List Part} (hps : Part.sub [.tr] ps = true) : ∃ s', execPotWaitForInterrupt s = .next s' ∧ s'.rest ps = s.rest ps := by
  unfold execPotWaitForInterrupt
  (repeat' split) <;> exact ⟨_, rfl, Part.lift hps (by first | rfl | simp (disch := decide) only [State.rest_ite, ite_self, foldl_rest, State.rest_tr, State.traceStop_rest])⟩

theorem execTraceEnWrite_rest (on : Bool) (s : State) {ps : List Part} (hps : Part.sub [.regs, .tr] ps = true) : ∃ s', execTraceEnWrite on s = .next s' ∧ s'.rest ps = s.rest ps := by
  simp only [execTraceEnWrite]
  (repeat' split) <;> exact ⟨_, rfl, Part.lift hps (by simp (disch := first | decide | (intros; simp (disch := decide) only [State.rest_ite, ite_self, foldl_rest, State.rest_regs, State.rest_tr, State.traceStop_rest, State.traceResync_rest, State.setFld_rest]; done) | fail) only [State.rest_tr, State.traceStop_rest, State.traceResync_rest, State.setFld_rest, State.rest_ite, ite_self])⟩

theorem State.setLk_rest (s : State) (k e : Nat) (x : Lk) {ps : List Part} (hps : Part.sub [.lk] ps = true) : (State.setLk s k e x).rest ps = s.rest ps := Part.lift hps rfl

theorem State.seamWatch_rest (s : State) {ps : List Part} (hps : Part.sub [.seamDown] ps = true) : (State.seamWatch s).rest ps = s.rest ps := Part.lift hps (by simp (disch := decide) only [State.seamWatch, State.rest_ite, ite_self, State.rest_seamDown])

theorem State.modLk_rest (s : State) (k e : Nat) (f : Lk → Lk) {ps : List Part} (hps : Part.sub [.regs, .lk, .cd, .seamDown] ps = true) : (State.modLk s k e f).rest ps = s.rest ps := Part.lift hps (by simp (disch := decide) only [State.modLk, State.rest_ite, ite_self, State.seamWatch_rest, State.setLk_rest, State.cdPut_rest])

theorem State.reportLk_rest (s : State) (k e : Nat) (f : FaultKind) {ps : List Part} (hps : Part.sub [.regs, .ni] ps = true) : (State.reportLk s k e f).rest ps = s.rest ps := Part.lift hps (by simp (disch := decide) only [State.reportLk, State.reportCls_rest, State.rest_ite, ite_self, State.reportOcc_rest])

theorem State.lkFault_rest (s : State) (k e : Nat) (f : FaultKind) (b : Fld) {ps : List Part} (hps : Part.sub [.regs, .ni] ps = true) : (State.lkFault s k e f b).rest ps = s.rest ps := Part.lift hps (by simp (disch := decide) only [State.lkFault, State.setFld_rest, State.reportLk_rest])

theorem State.lkTell_rest (s : State) (k e : Nat) (st : Nbr) (up : Bool) {ps : List Part} (hps : Part.sub [.regs, .rt, .ni, .port, .owed, .wakeQ] ps = true) : (State.lkTell s k e st up).rest ps = s.rest ps := Part.lift hps (by simp (disch := decide) only [State.lkTell, State.rest_ite, ite_self, State.portIndication_rest, State.giveNbr_rest])

theorem State.creditCounts_eq (s : State) (k e : Nat) {r0 : State} {r1 : BitVec 32} {ps : List Part} (hr : State.creditCounts s k e = (r0, r1)) (hps : Part.sub [.owed] ps = true) : r0.rest ps = s.rest ps := Part.lift hps (by
  simp only [State.creditCounts] at hr
  (repeat' split at hr) <;> (try cases hr) <;> first | (with_reducible rfl) | contradiction | (simp (disch := first | decide | (intros; (try dsimp only); (repeat' split) <;> first | (with_reducible rfl) | (simp (disch := decide) only [State.rest_ite, ite_self, foldl_rest, State.rest_owed, State.setOwed_rest]; done) | fail) | fail) only [State.setOwed_rest, foldl_rest]; done) | rfl)

theorem State.creditCounts_rest (s : State) (k e : Nat) {ps : List Part} (hps : Part.sub [.owed] ps = true) : (State.creditCounts s k e).1.rest ps = s.rest ps := by
  simp only [State.creditCounts]
  refine foldl_rest_fst _ _ _ ?_
  intro a x
  dsimp only
  rw [State.setOwed_rest _ _ _ _ _ (Part.sub_trans (by decide) hps), State.setOwed_rest _ _ _ _ _ (Part.sub_trans (by decide) hps)]

theorem State.lkReturn_rest (s : State) (k e vn : Nat) (gt : Bool) (c : Nat) {ps : List Part} (hps : Part.sub [.regs, .ni, .used] ps = true) : (State.lkReturn s k e vn gt c).rest ps = s.rest ps := Part.lift hps (by simp (disch := decide) only [State.lkReturn, State.rest_ite, ite_self, State.setFld_rest, State.reportRt_rest, State.setUsed_rest, State.reportNi_rest])

theorem State.takeCredits_rest (s : State) (k e : Nat) (w : BitVec 32) {ps : List Part} (hps : Part.sub [.regs, .ni, .lk, .cd, .seamDown, .used] ps = true) : (State.takeCredits s k e w).rest ps = s.rest ps := Part.lift hps (by
  simp (disch := first | decide | (intros; simp (disch := decide) only [State.rest_ite, ite_self, foldl_rest, State.rest_regs, State.rest_ni, State.rest_lk, State.rest_cd, State.rest_seamDown, State.rest_used, State.lkReturn_rest, State.modLk_rest]; done) | fail) only [State.takeCredits, foldl_rest, State.modLk_rest, State.lkReturn_rest])

theorem State.lkDeliver_rest (s : State) (k e : Nat) (f : Flit) {ps : List Part} (hps : Part.sub [.regs, .lk, .cd, .seamDown, .wire] ps = true) : (State.lkDeliver s k e f).rest ps = s.rest ps := Part.lift hps (by simp (disch := decide) only [State.lkDeliver, State.sendFlit_rest, State.modLk_rest, State.rest_ite, ite_self])

theorem State.drainRelief_rest (s : State) (gone : List Nat) {ps : List Part} (hps : Part.sub [.pot] ps = true) : (State.drainRelief s gone).rest ps = s.rest ps := Part.lift hps (by
  unfold State.drainRelief
  (repeat' split) <;> first | rfl | simp (disch := decide) only [State.rest_ite, ite_self, foldl_rest, State.rest_pot])

theorem State.lkLost_rest (s : State) (k e : Nat) {ps : List Part} (hps : Part.sub [.regs, .rt, .ni, .port, .lk, .cd, .pot, .seamDown, .wire, .owed, .used, .wakeQ] ps = true) : (State.lkLost s k e).rest ps = s.rest ps := Part.lift hps (by
  simp only [State.lkLost]
  repeat' (first | (with_reducible rfl) | assumption | (simp (disch := first | decide | (intros; (try dsimp only); (repeat' split) <;> first | (with_reducible rfl) | (simp (disch := decide) only [State.rest_ite, ite_self, foldl_rest, State.rest_regs, State.rest_rt, State.rest_ni, State.rest_port, State.rest_lk, State.rest_cd, State.rest_pot, State.rest_seamDown, State.rest_wire, State.rest_owed, State.rest_used, State.rest_wakeQ, State.drainRelief_rest, State.setWire_rest, State.bumpBy_rest, State.lkFault_rest, State.lkTell_rest, State.sendFlit_rest, State.lkReturn_rest, State.setFld_rest, State.modLk_rest]; done) | fail) | fail) only [State.rest_ite, ite_self, foldl_rest, State.drainRelief_rest, State.setWire_rest, State.bumpBy_rest, State.lkFault_rest, State.lkTell_rest, State.setFld_rest, State.modLk_rest, State.sendFlit_rest, State.lkReturn_rest]; done) | (show Part.sub _ _ = true; first | decide | exact Part.sub_trans (by decide) hps) | (refine (foldl_rest _ _ _ ?_).trans ?_) | (intro _ _; refine Part.lift hps ?_; try dsimp only) | (intro _ _; try dsimp only) | (intro _; try dsimp only) | split | (simp (disch := first | decide | (intros; (try dsimp only); (repeat' split) <;> first | (with_reducible rfl) | (simp (disch := decide) only [State.rest_ite, ite_self, foldl_rest, State.rest_regs, State.rest_rt, State.rest_ni, State.rest_port, State.rest_lk, State.rest_cd, State.rest_pot, State.rest_seamDown, State.rest_wire, State.rest_owed, State.rest_used, State.rest_wakeQ, State.drainRelief_rest, State.setWire_rest, State.bumpBy_rest, State.lkFault_rest, State.lkTell_rest, State.sendFlit_rest, State.lkReturn_rest, State.setFld_rest, State.modLk_rest]; done) | fail) | fail) only [foldl_rest, State.drainRelief_rest, State.setWire_rest, State.lkFault_rest, State.lkTell_rest, State.setFld_rest, State.rest_ite, ite_self, State.modLk_rest, State.bumpBy_rest, State.sendFlit_rest, State.lkReturn_rest]) | (dsimp only) | rfl))

theorem State.retrainDue_rest (s : State) (k e larg : Nat) {ps : List Part} (hps : Part.sub [.regs, .rt, .ni, .port, .lk, .cd, .pot, .seamDown, .wire, .owed, .used, .wakeQ] ps = true) : (State.retrainDue s k e larg).rest ps = s.rest ps := Part.lift hps (by simp (disch := decide) only [State.retrainDue, State.rest_ite, ite_self, State.lkLost_rest, State.modLk_rest])

theorem State.enterPaused_rest (s : State) (k e : Nat) {ps : List Part} (hps : Part.sub [.regs, .rt, .ni, .port, .lk, .cd, .seamDown, .owed, .wakeQ] ps = true) : (State.enterPaused s k e).rest ps = s.rest ps := Part.lift hps (by simp (disch := decide) only [State.enterPaused, State.lkFault_rest, State.lkTell_rest, State.bump_rest, State.modLk_rest])

theorem State.requestRetrain_rest (s : State) (k e : Nat) {ps : List Part} (hps : Part.sub [.regs, .lk, .cd, .seamDown] ps = true) : (State.requestRetrain s k e).rest ps = s.rest ps := Part.lift hps (by simp (disch := decide) only [State.requestRetrain, State.modLk_rest])

theorem State.peerRequest_rest (s : State) (k e larg : Nat) {ps : List Part} (hps : Part.sub [.regs, .lk, .cd, .seamDown] ps = true) : (State.peerRequest s k e larg).rest ps = s.rest ps := Part.lift hps (by
  simp only [State.peerRequest]
  (repeat' split) <;> first | rfl | simp (disch := first | decide | (intros; simp (disch := decide) only [State.rest_ite, ite_self, foldl_rest, State.rest_regs, State.rest_lk, State.rest_cd, State.rest_seamDown, State.requestRetrain_rest, State.bump_rest, State.modLk_rest]; done) | fail) only [State.requestRetrain_rest, State.bump_rest, State.modLk_rest, State.rest_ite, ite_self])

theorem State.pickFlits_rest (s : State) (k e : Nat) {ps : List Part} (hps : Part.sub [.regs, .lk, .cd, .seamDown, .wire, .used] ps = true) : (State.pickFlits s k e).1.rest ps = s.rest ps := by
  simp only [State.pickFlits]
  rw [State.setWire_rest _ _ _ (Part.sub_trans (by decide) hps)]
  refine foldl_rest_fst _ _ _ ?_
  intro a x
  split
  · dsimp only
    split
    · rfl
    · rw [State.modLk_rest _ _ _ _ (Part.sub_trans (by decide) hps), State.useCredit_rest _ _ _ _ (Part.sub_trans (by decide) hps)]
  · rfl

theorem State.pickFlits_eq (s : State) (k e : Nat) {r0 : State} {r1 : List Flit} {ps : List Part} (hr : State.pickFlits s k e = (r0, r1))
    (hps : Part.sub [.regs, .lk, .cd, .seamDown, .wire, .used] ps = true) : r0.rest ps = s.rest ps :=
  (congrArg (fun r => r.1.rest ps) hr).symm.trans (State.pickFlits_rest s k e hps)

theorem State.meshMarks_eq (s : State) (k e n : Nat) (errs : List LaneErrs) {r0 : State} {r1 : List LaneErrs} {r2 : Bool} {ps : List Part} (hr : State.meshMarks s k e n errs = (r0, r1, r2)) (hps : Part.sub [.sc] ps = true) : r0.rest ps = s.rest ps := Part.lift hps (by
  simp only [State.meshMarks] at hr
  (repeat' split at hr) <;> (try cases hr) <;> first | (with_reducible rfl) | contradiction | (simp (disch := first | decide | (intros; (try dsimp only); (repeat' split) <;> first | (with_reducible rfl) | (simp (disch := decide) only [State.rest_ite, ite_self, foldl_rest, State.rest_sc, State.takeFlips_rest]; done) | fail) | fail) only [State.takeFlips_rest]; done) | rfl)

theorem State.meshMarks_rest (s : State) (k e n : Nat) (errs : List LaneErrs) {ps : List Part} (hps : Part.sub [.sc] ps = true) : (State.meshMarks s k e n errs).1.rest ps = s.rest ps := Part.lift hps (by simp (disch := decide) only [State.meshMarks, State.takeFlips_rest])

theorem State.meshCheck_eq (s : State) (k e : Nat) (f : Flit) (x : LaneErrs) {r0 : State} {r1 : Option Flit} {ps : List Part} (hr : State.meshCheck s k e f x = (r0, r1)) (hps : Part.sub [.regs, .ni, .lk, .cd, .seamDown, .used] ps = true) : r0.rest ps = s.rest ps := Part.lift hps (by
  simp only [State.meshCheck] at hr
  (repeat' split at hr) <;> (try cases hr) <;> first | (with_reducible rfl) | contradiction | (simp (disch := first | decide | (intros; (try dsimp only); (repeat' split) <;> first | (with_reducible rfl) | (simp (disch := decide) only [State.rest_ite, ite_self, foldl_rest, State.rest_regs, State.rest_ni, State.rest_lk, State.rest_cd, State.rest_seamDown, State.rest_used, State.modLk_rest, State.reportCls_rest, State.lkReturn_rest]; done) | fail) | fail) only [State.modLk_rest, State.reportCls_rest, State.lkReturn_rest, State.rest_ite, ite_self]; done) | rfl)

theorem State.meshCheck_rest (s : State) (k e : Nat) (f : Flit) (x : LaneErrs) {ps : List Part} (hps : Part.sub [.regs, .ni, .lk, .cd, .seamDown, .used] ps = true) : (State.meshCheck s k e f x).1.rest ps = s.rest ps := Part.lift hps (by
  simp only [State.meshCheck]
  (repeat' split) <;> first | rfl | simp (disch := first | decide | (intros; simp (disch := decide) only [State.rest_ite, ite_self, foldl_rest, State.rest_regs, State.rest_ni, State.rest_lk, State.rest_cd, State.rest_seamDown, State.rest_used, State.modLk_rest, State.reportCls_rest, State.lkReturn_rest]; done) | fail) only [State.modLk_rest, State.reportCls_rest, State.lkReturn_rest, State.rest_ite, ite_self])

theorem State.nakSent_rest (s : State) (k e : Nat) (q : Option Nat) {ps : List Part} (hps : Part.sub [.regs, .rt, .ni, .port, .lk, .cd, .pot, .seamDown, .wire, .owed, .used, .wakeQ] ps = true) : (State.nakSent s k e q).rest ps = s.rest ps := Part.lift hps (by
  unfold State.nakSent
  (repeat' split) <;> first | rfl | simp (disch := decide) only [State.rest_ite, ite_self, State.retrainDue_rest, State.bump_rest, State.modLk_rest])

theorem State.putFlu_rest (s : State) (k e : Nat) (b : FluBody) (record : Option (List (Option Flit))) {ps : List Part} (hps : Part.sub [.regs, .rt, .ni, .port, .lk, .cd, .sc, .pot, .seamDown, .wire, .owed, .used, .wakeQ] ps = true) : (State.putFlu s k e b record).rest ps = s.rest ps := Part.lift hps (by
  simp only [State.putFlu]
  (repeat' split) <;> first | rfl | simp (disch := first | decide | (intros; simp (disch := decide) only [State.rest_ite, ite_self, foldl_rest, State.rest_regs, State.rest_rt, State.rest_ni, State.rest_port, State.rest_lk, State.rest_cd, State.rest_sc, State.rest_pot, State.rest_seamDown, State.rest_wire, State.rest_owed, State.rest_used, State.rest_wakeQ, State.creditCounts_rest, State.modLk_rest, State.nakSent_rest, State.takeFlips_rest]; done) | fail) only [State.creditCounts_rest, State.modLk_rest, State.nakSent_rest, State.takeFlips_rest, State.rest_ite, ite_self])

theorem State.resumeService_rest (s : State) (k e : Nat) {ps : List Part} (hps : Part.sub [.regs, .rt, .ni, .port, .lk, .cd, .seamDown, .owed, .wakeQ] ps = true) : (State.resumeService s k e).rest ps = s.rest ps := Part.lift hps (by simp (disch := decide) only [State.resumeService, State.rest_ite, ite_self, State.lkFault_rest, State.lkTell_rest, State.reportLk_rest, State.setFld_rest, State.modLk_rest])

theorem State.sendFlu_rest (s : State) (k e : Nat) (errs : List LaneErrs) {ps : List Part} (hps : Part.sub [.regs, .rt, .ni, .port, .lk, .cd, .sc, .pot, .seamDown, .wire, .owed, .used, .wakeQ] ps = true) : (State.sendFlu s k e errs).rest ps = s.rest ps := by
  unfold State.sendFlu
  extract_lets l s0 s1
  split
  · have h0 : s0.rest ps = s.rest ps := by
      simp only [s0]
      split
      · exact State.modLk_rest _ _ _ _ (Part.sub_trans (by decide) hps)
      · rfl
    have h1 : s1.rest ps = s.rest ps := by simp (disch := (exact Part.sub_trans (by decide) hps)) only [s1, State.putFlu_rest, h0, State.rest_ite, ite_self, foldl_rest, State.modLk_rest, State.resumeService_rest, State.bump_rest, State.pickFlits_rest, State.meshMarks_rest, State.meshCheck_rest, State.markInj_rest]
    clear_value s1
    split
    · exact h1
    · simp (disch := (exact Part.sub_trans (by decide) hps)) only [State.resumeService_rest, State.rest_ite, ite_self, foldl_rest, State.modLk_rest, State.putFlu_rest, State.bump_rest, State.pickFlits_rest, State.meshMarks_rest, State.meshCheck_rest, State.markInj_rest]
      exact (State.modLk_rest s1 k e _ (Part.sub_trans (by decide) hps)).trans h1
    · simp (disch := (exact Part.sub_trans (by decide) hps)) only [State.modLk_rest, h1, State.rest_ite, ite_self, foldl_rest, State.putFlu_rest, State.resumeService_rest, State.bump_rest, State.pickFlits_rest, State.meshMarks_rest, State.meshCheck_rest, State.markInj_rest]
  split
  · rfl
  split
  · split <;> simp (disch := (exact Part.sub_trans (by decide) hps)) only [State.modLk_rest, State.putFlu_rest, State.bump_rest, State.rest_ite, ite_self, foldl_rest, State.resumeService_rest, State.pickFlits_rest, State.meshMarks_rest, State.meshCheck_rest, State.markInj_rest]
  · split
    rename_i s1 fs hp
    have h1 : s1.rest ps = s.rest ps := by
      split at hp
      · exact State.pickFlits_eq _ _ _ hp (Part.sub_trans (by decide) hps)
      · cases hp; rfl
    split
    rename_i s2 errs2 hit hm
    have h2 : s2.rest ps = s.rest ps := (State.meshMarks_eq _ _ _ _ _ hm (Part.sub_trans (by decide) hps)).trans h1
    split
    rename_i s3 out hq
    have h3 : s3.rest ps = s.rest ps := by
      have e := foldl_rest_fst (ps := ps) (fun (a : State × List Flit) (x : Flit × Nat) =>
        ((a.1.meshCheck k e x.1 (errs2.getD x.2 LaneErrs.clean)).1, a.2 ++ (a.1.meshCheck k e x.1 (errs2.getD x.2 LaneErrs.clean)).2.toList))
        (fs.zip (List.range 3)) (s2, []) (fun a x => State.meshCheck_rest _ _ _ _ _ (Part.sub_trans (by decide) hps))
      exact (congrArg (fun r : State × List Flit => r.1.rest ps) hq).symm.trans (e.trans h2)
    extract_lets s4 slots
    have h4 : s4.rest ps = s.rest ps := by simp only [s4]; split <;> simp (disch := (exact Part.sub_trans (by decide) hps)) only [State.markInj_rest, h3, State.rest_ite, ite_self, foldl_rest, State.modLk_rest, State.putFlu_rest, State.resumeService_rest, State.bump_rest, State.pickFlits_rest, State.meshMarks_rest, State.meshCheck_rest]
    rw [State.putFlu_rest _ _ _ _ _ (Part.sub_trans (by decide) hps), h4]

theorem execFluSend_rest (k : Fin 28) (e : Fin 2) (errs : List LaneErrs) (s : State) {ps : List Part} (hps : Part.sub [.regs, .rt, .ni, .port, .lk, .cd, .sc, .pot, .seamDown, .wire, .owed, .used, .wakeQ] ps = true) : ∃ s', execFluSend k e errs s = .next s' ∧ s'.rest ps = s.rest ps := by
  unfold execFluSend
  (repeat' split) <;> exact ⟨_, rfl, Part.lift hps (by first | rfl | simp (disch := decide) only [State.sendFlu_rest, State.rest_ite, ite_self])⟩

theorem execFluIdleTimer_rest (k : Fin 28) (e : Fin 2) (s : State) {ps : List Part} (hps : Part.sub [.regs, .rt, .ni, .port, .lk, .cd, .sc, .pot, .seamDown, .wire, .owed, .used, .wakeQ] ps = true) : ∃ s', execFluIdleTimer k e s = .next s' ∧ s'.rest ps = s.rest ps := by
  unfold execFluIdleTimer
  (repeat' split) <;> exact ⟨_, rfl, Part.lift hps (by first | rfl | simp (disch := decide) only [State.sendFlu_rest, State.rest_ite, ite_self])⟩

theorem State.arriving_eq (s : State) (k e : Nat) (f : Option Flu) {r0 : Flu} {r1 : State} {ps : List Part} (hr : State.arriving s k e f = some (r0, r1)) (hps : Part.sub [.regs, .lk, .cd, .seamDown] ps = true) : r1.rest ps = s.rest ps := by
  simp only [State.arriving] at hr
  repeat' split at hr
  all_goals first
    | (cases hr; done)
    | (cases hr; exact State.modLk_rest _ _ _ _ (Part.sub_trans (by decide) hps))
    | (cases f with
       | none => cases hr
       | some u => cases hr; rfl)

theorem State.takeAck_rest (s : State) (k e ack : Nat) {ps : List Part} (hps : Part.sub [.regs, .lk, .cd, .seamDown] ps = true) : (State.takeAck s k e ack).rest ps = s.rest ps := Part.lift hps (by simp (disch := decide) only [State.takeAck, State.modLk_rest, State.rest_ite, ite_self])

theorem State.takeControl_rest (s : State) (k e : Nat) (f : Flu) {ps : List Part} (hps : Part.sub [.regs, .ni, .lk, .cd, .seamDown, .used] ps = true) : (State.takeControl s k e f).rest ps = s.rest ps := Part.lift hps (by
  cases h : f.nak <;> simp (disch := decide) only [State.takeControl, h, State.rest_ite, ite_self, State.requestRetrain_rest, State.takeCredits_rest, State.peerRequest_rest, State.takeAck_rest, State.modLk_rest])

theorem State.lkDrain_rest (s : State) (k e fuel : Nat) {ps : List Part} (hps : Part.sub [.regs, .lk, .cd, .seamDown, .wire] ps = true) :
    (State.lkDrain s k e fuel).rest ps = s.rest ps := by
  induction fuel generalizing s with
  | zero => rfl
  | succ fuel ih =>
    simp only [State.lkDrain]
    split
    · rfl
    · rw [ih, foldl_rest _ _ _ (fun s f => State.lkDeliver_rest s k e f (Part.sub_trans (by decide) hps)), State.modLk_rest _ _ _ _ (Part.sub_trans (by decide) hps)]

theorem State.fill_rest (s : State) (k e seq : Nat) (c : List (Option Flit)) {ps : List Part} (hps : Part.sub [.regs, .lk, .cd, .seamDown, .wire] ps = true) : (State.fill s k e seq c).rest ps = s.rest ps := Part.lift hps (by simp (disch := decide) only [State.fill, State.lkDrain_rest, State.modLk_rest])

theorem State.markMissing_rest (s : State) (k e seq : Nat) (nak : Bool) {ps : List Part} (hps : Part.sub [.regs, .lk, .cd, .seamDown] ps = true) : (State.markMissing s k e seq nak).rest ps = s.rest ps := Part.lift hps (by simp (disch := decide) only [State.markMissing, State.modLk_rest, State.rest_ite, ite_self])

theorem State.lkProtocol_rest (s : State) (k e : Nat) {ps : List Part} (hps : Part.sub [.regs, .rt, .ni, .port, .lk, .cd, .pot, .seamDown, .wire, .owed, .used, .wakeQ] ps = true) : (State.lkProtocol s k e).rest ps = s.rest ps := Part.lift hps (by simp (disch := decide) only [State.lkProtocol, State.lkFault_rest, State.retrainDue_rest])

theorem State.countRx_rest (s : State) (k e : Nat) {ps : List Part} (hps : Part.sub [.regs, .lk, .cd, .seamDown] ps = true) : (State.countRx s k e).rest ps = s.rest ps := Part.lift hps (by simp (disch := decide) only [State.countRx, State.modLk_rest])

theorem State.acceptFlu_rest (s : State) (k e : Nat) (f : Flu) {ps : List Part} (hps : Part.sub [.regs, .rt, .ni, .port, .lk, .cd, .pot, .seamDown, .wire, .owed, .used, .wakeQ] ps = true) : (State.acceptFlu s k e f).rest ps = s.rest ps := Part.lift hps (by
  unfold State.acceptFlu
  (repeat' split) <;> first | rfl | simp (disch := decide) only [State.rest_ite, ite_self, State.takeControl_rest, State.countRx_rest, State.fill_rest, State.markMissing_rest, State.lkProtocol_rest, State.modLk_rest])

theorem execFluNew_rest (k : Fin 28) (e : Fin 2) (f : Option Flu) (s : State) {ps : List Part} (hps : Part.sub [.regs, .rt, .ni, .port, .lk, .cd, .pot, .seamDown, .wire, .owed, .used, .wakeQ] ps = true) : ∃ s', execFluNew k e f s = .next s' ∧ s'.rest ps = s.rest ps := by
  simp only [execFluNew]
  repeat' split
  all_goals try have e_arriving := State.arriving_eq _ _ _ _ (by assumption) (ps := ps) (Part.sub_trans (by decide) hps)
  all_goals refine ⟨_, rfl, ?_⟩
  all_goals first
    | rfl
    | assumption
    | (simp (disch := first | exact Part.sub_trans (by decide) hps | (intros; (try dsimp only); (repeat' split) <;> first | (with_reducible rfl) | (simp (disch := exact Part.sub_trans (by decide) hps) only [State.rest_ite, ite_self, foldl_rest, State.rest_regs, State.rest_rt, State.rest_ni, State.rest_port, State.rest_lk, State.rest_cd, State.rest_pot, State.rest_seamDown, State.rest_wire, State.rest_owed, State.rest_used, State.rest_wakeQ, State.arriving_rest, State.acceptFlu_rest]; done) | fail) | fail) only [State.rest_ite, ite_self, State.acceptFlu_rest, *]; done)

theorem execFluReplay_rest (k : Fin 28) (e : Fin 2) (f : Option Flu) (s : State) {ps : List Part} (hps : Part.sub [.regs, .rt, .ni, .port, .lk, .cd, .pot, .seamDown, .wire, .owed, .used, .wakeQ] ps = true) : ∃ s', execFluReplay k e f s = .next s' ∧ s'.rest ps = s.rest ps := by
  simp only [execFluReplay]
  repeat' split
  all_goals try have e_arriving := State.arriving_eq _ _ _ _ (by assumption) (ps := ps) (Part.sub_trans (by decide) hps)
  all_goals refine ⟨_, rfl, ?_⟩
  all_goals first
    | rfl
    | assumption
    | (simp (disch := first | exact Part.sub_trans (by decide) hps | (intros; (try dsimp only); (repeat' split) <;> first | (with_reducible rfl) | (simp (disch := exact Part.sub_trans (by decide) hps) only [State.rest_ite, ite_self, foldl_rest, State.rest_regs, State.rest_rt, State.rest_ni, State.rest_port, State.rest_lk, State.rest_cd, State.rest_pot, State.rest_seamDown, State.rest_wire, State.rest_owed, State.rest_used, State.rest_wakeQ, State.arriving_rest, State.acceptFlu_rest]; done) | fail) | fail) only [State.rest_ite, ite_self, State.acceptFlu_rest, *]; done)

theorem State.countDown_rest (s : State) (k e c : Nat) {ps : List Part} (hps : Part.sub [.regs, .rt, .ni, .port, .lk, .cd, .seamDown, .owed, .wakeQ] ps = true) : (State.countDown s k e c).rest ps = s.rest ps := Part.lift hps (by simp (disch := decide) only [State.countDown, State.rest_ite, ite_self, State.resumeService_rest, State.modLk_rest])

theorem State.takeInit_rest (s : State) (k e : Nat) (f : Flu) (w : InitWord) {ps : List Part} (hps : Part.sub [.regs, .rt, .ni, .port, .lk, .cd, .pot, .seamDown, .wire, .owed, .used, .wakeQ] ps = true) : (State.takeInit s k e f w).rest ps = s.rest ps := Part.lift hps (by simp (disch := decide) only [State.takeInit, State.rest_ite, ite_self, State.takeCredits_rest, State.countDown_rest, State.lkFault_rest, State.lkLost_rest, State.modLk_rest])

theorem execFluInit_rest (k : Fin 28) (e : Fin 2) (f : Option Flu) (s : State) {ps : List Part} (hps : Part.sub [.regs, .rt, .ni, .port, .lk, .cd, .pot, .seamDown, .wire, .owed, .used, .wakeQ] ps = true) : ∃ s', execFluInit k e f s = .next s' ∧ s'.rest ps = s.rest ps := by
  simp only [execFluInit]
  repeat' split
  all_goals try have e_arriving := State.arriving_eq _ _ _ _ (by assumption) (ps := ps) (Part.sub_trans (by decide) hps)
  all_goals refine ⟨_, rfl, ?_⟩
  all_goals first
    | with_reducible rfl
    | assumption
    | (simp (disch := first | exact Part.sub_trans (by decide) hps | (intros; (try dsimp only); (repeat' split) <;> first | (with_reducible rfl) | (simp (disch := exact Part.sub_trans (by decide) hps) only [State.rest_ite, ite_self, foldl_rest, State.rest_regs, State.rest_rt, State.rest_ni, State.rest_port, State.rest_lk, State.rest_cd, State.rest_pot, State.rest_seamDown, State.rest_wire, State.rest_owed, State.rest_used, State.rest_wakeQ, State.arriving_rest, State.takeInit_rest, State.modLk_rest, State.lkProtocol_rest]; done) | fail) | fail) only [State.rest_ite, ite_self, State.takeInit_rest, State.modLk_rest, State.lkProtocol_rest, *]; done)

theorem State.badFlu_rest (s : State) (k e : Nat) {ps : List Part} (hps : Part.sub [.regs, .rt, .ni, .port, .lk, .cd, .pot, .seamDown, .wire, .owed, .used, .wakeQ] ps = true) : (State.badFlu s k e).rest ps = s.rest ps := Part.lift hps (by simp (disch := decide) only [State.badFlu, State.rest_ite, ite_self, State.retrainDue_rest, State.bump_rest, State.reportLk_rest, State.setFld_rest, State.modLk_rest, State.occurs_rest])

theorem execFluBad_rest (k : Fin 28) (e : Fin 2) (lost : Nat) (again : Bool) (s : State) {ps : List Part} (hps : Part.sub [.regs, .rt, .ni, .port, .lk, .cd, .pot, .seamDown, .wire, .owed, .used, .wakeQ] ps = true) : ∃ s', execFluBad k e lost again s = .next s' ∧ s'.rest ps = s.rest ps := by
  simp only [execFluBad]
  (repeat' split) <;> exact ⟨_, rfl, Part.lift hps (by simp (disch := first | decide | (intros; simp (disch := decide) only [State.rest_ite, ite_self, foldl_rest, State.rest_regs, State.rest_rt, State.rest_ni, State.rest_port, State.rest_lk, State.rest_cd, State.rest_pot, State.rest_seamDown, State.rest_wire, State.rest_owed, State.rest_used, State.rest_wakeQ, State.badFlu_rest, State.modLk_rest, State.countRx_rest, State.markInj_rest, State.countDown_rest, State.bump_rest, State.markMissing_rest]; done) | fail) only [State.badFlu_rest, State.modLk_rest, State.countRx_rest, State.markInj_rest, State.countDown_rest, State.bump_rest, State.markMissing_rest, State.rest_ite, ite_self])⟩

theorem execNakRepeat_rest (k : Fin 28) (e : Fin 2) (s : State) {ps : List Part} (hps : Part.sub [.regs, .lk, .cd, .seamDown] ps = true) : ∃ s', execNakRepeat k e s = .next s' ∧ s'.rest ps = s.rest ps := by
  simp only [execNakRepeat]
  (repeat' split) <;> exact ⟨_, rfl, Part.lift hps (by simp (disch := first | decide | (intros; simp (disch := decide) only [State.rest_ite, ite_self, foldl_rest, State.rest_regs, State.rest_lk, State.rest_cd, State.rest_seamDown, State.modLk_rest]; done) | fail) only [State.modLk_rest])⟩

theorem execLinkWindowStart_rest (k : Fin 28) (e : Fin 2) (s : State) {ps : List Part} (hps : Part.sub [.regs, .lk, .cd, .seamDown] ps = true) : ∃ s', execLinkWindowStart k e s = .next s' ∧ s'.rest ps = s.rest ps := by
  simp only [execLinkWindowStart]
  (repeat' split) <;> exact ⟨_, rfl, Part.lift hps (by simp (disch := first | decide | (intros; simp (disch := decide) only [State.rest_ite, ite_self, foldl_rest, State.rest_regs, State.rest_lk, State.rest_cd, State.rest_seamDown, State.setFld_rest, State.modLk_rest]; done) | fail) only [State.setFld_rest, State.modLk_rest, State.rest_ite, ite_self])⟩

theorem execLinkSilenceTimeout_rest (k : Fin 28) (e : Fin 2) (s : State) {ps : List Part} (hps : Part.sub [.regs, .rt, .ni, .port, .lk, .cd, .pot, .seamDown, .wire, .owed, .used, .wakeQ] ps = true) : ∃ s', execLinkSilenceTimeout k e s = .next s' ∧ s'.rest ps = s.rest ps := by
  simp only [execLinkSilenceTimeout]
  (repeat' split) <;> exact ⟨_, rfl, Part.lift hps (by simp (disch := first | decide | (intros; simp (disch := decide) only [State.rest_ite, ite_self, foldl_rest, State.rest_regs, State.rest_rt, State.rest_ni, State.rest_port, State.rest_lk, State.rest_cd, State.rest_pot, State.rest_seamDown, State.rest_wire, State.rest_owed, State.rest_used, State.rest_wakeQ, State.retrainDue_rest]; done) | fail) only [State.retrainDue_rest, State.rest_ite, ite_self])⟩

theorem execRecordLimitTimeout_rest (k : Fin 28) (e : Fin 2) (s : State) {ps : List Part} (hps : Part.sub [.regs, .rt, .ni, .port, .lk, .cd, .pot, .seamDown, .wire, .owed, .used, .wakeQ] ps = true) : ∃ s', execRecordLimitTimeout k e s = .next s' ∧ s'.rest ps = s.rest ps := by
  unfold execRecordLimitTimeout
  (repeat' split) <;> exact ⟨_, rfl, Part.lift hps (by first | rfl | simp (disch := decide) only [State.retrainDue_rest, State.rest_ite, ite_self])⟩

theorem execPreEnd_rest (k : Fin 28) (e : Fin 2) (s : State) {ps : List Part} (hps : Part.sub [.regs, .rt, .ni, .port, .lk, .cd, .seamDown, .owed, .wakeQ] ps = true) : ∃ s', execPreEnd k e s = .next s' ∧ s'.rest ps = s.rest ps := by
  simp only [execPreEnd]
  (repeat' split) <;> exact ⟨_, rfl, Part.lift hps (by simp (disch := first | decide | (intros; simp (disch := decide) only [State.rest_ite, ite_self, foldl_rest, State.rest_regs, State.rest_rt, State.rest_ni, State.rest_port, State.rest_lk, State.rest_cd, State.rest_seamDown, State.rest_owed, State.rest_wakeQ, State.lkFault_rest, State.enterPaused_rest, State.bump_rest, State.setFld_rest, State.modLk_rest]; done) | fail) only [State.lkFault_rest, State.enterPaused_rest, State.bump_rest, State.setFld_rest, State.modLk_rest, State.rest_ite, ite_self])⟩

theorem execAcceptTimeout_rest (k : Fin 28) (e : Fin 2) (s : State) {ps : List Part} (hps : Part.sub [.regs, .lk, .cd, .seamDown] ps = true) : ∃ s', execAcceptTimeout k e s = .next s' ∧ s'.rest ps = s.rest ps := by
  simp only [execAcceptTimeout]
  (repeat' split) <;> exact ⟨_, rfl, Part.lift hps (by simp (disch := first | decide | (intros; simp (disch := decide) only [State.rest_ite, ite_self, foldl_rest, State.rest_regs, State.rest_lk, State.rest_cd, State.rest_seamDown, State.requestRetrain_rest]; done) | fail) only [State.requestRetrain_rest, State.rest_ite, ite_self])⟩

theorem State.linkAnew_rest (s : State) (k e : Nat) {ps : List Part} (hps : Part.sub [.owed, .used] ps = true) : (State.linkAnew s k e).rest ps = s.rest ps := Part.lift hps (by
  simp (disch := first | decide | (intros; simp (disch := decide) only [State.rest_ite, ite_self, foldl_rest, State.rest_owed, State.rest_used, State.setUsed_rest, State.setOwed_rest]; done) | fail) only [State.linkAnew, foldl_rest, State.setUsed_rest, State.setOwed_rest])

theorem execAdapterActive_rest (k : Fin 28) (e : Fin 2) (half : Bool) (s : State) {ps : List Part} (hps : Part.sub [.regs, .lk, .cd, .seamDown, .owed, .used] ps = true) : ∃ s', execAdapterActive k e half s = .next s' ∧ s'.rest ps = s.rest ps := by
  simp only [execAdapterActive]
  (repeat' split) <;> exact ⟨_, rfl, Part.lift hps (by simp (disch := first | decide | (intros; simp (disch := decide) only [State.rest_ite, ite_self, foldl_rest, State.rest_regs, State.rest_lk, State.rest_cd, State.rest_seamDown, State.rest_owed, State.rest_used, State.linkAnew_rest, State.bump_rest, State.modLk_rest]; done) | fail) only [State.linkAnew_rest, State.bump_rest, State.modLk_rest, State.rest_ite, ite_self])⟩

theorem execAdapterLeaveActive_rest (k : Fin 28) (e : Fin 2) (s : State) {ps : List Part} (hps : Part.sub [.regs, .rt, .ni, .port, .lk, .cd, .seamDown, .owed, .wakeQ] ps = true) : ∃ s', execAdapterLeaveActive k e s = .next s' ∧ s'.rest ps = s.rest ps := by
  simp only [execAdapterLeaveActive]
  (repeat' split) <;> exact ⟨_, rfl, Part.lift hps (by simp (disch := first | decide | (intros; simp (disch := decide) only [State.rest_ite, ite_self, foldl_rest, State.rest_regs, State.rest_rt, State.rest_ni, State.rest_port, State.rest_lk, State.rest_cd, State.rest_seamDown, State.rest_owed, State.rest_wakeQ, State.enterPaused_rest, State.bump_rest, State.modLk_rest]; done) | fail) only [State.enterPaused_rest, State.bump_rest, State.modLk_rest, State.rest_ite, ite_self])⟩

theorem execRetrainLimitExpiry_rest (k : Fin 28) (e : Fin 2) (s : State) {ps : List Part} (hps : Part.sub [.regs, .rt, .ni, .port, .lk, .cd, .pot, .seamDown, .wire, .owed, .used, .wakeQ] ps = true) : ∃ s', execRetrainLimitExpiry k e s = .next s' ∧ s'.rest ps = s.rest ps := by
  simp only [execRetrainLimitExpiry]
  (repeat' split) <;> exact ⟨_, rfl, Part.lift hps (by simp (disch := first | decide | (intros; simp (disch := decide) only [State.rest_ite, ite_self, foldl_rest, State.rest_regs, State.rest_rt, State.rest_ni, State.rest_port, State.rest_lk, State.rest_cd, State.rest_pot, State.rest_seamDown, State.rest_wire, State.rest_owed, State.rest_used, State.rest_wakeQ, State.lkFault_rest, State.lkLost_rest, State.modLk_rest]; done) | fail) only [State.lkFault_rest, State.lkLost_rest, State.modLk_rest, State.rest_ite, ite_self])⟩

theorem State.lkAsk_rest (s : State) (k e : Nat) {ps : List Part} (hps : Part.sub [.regs, .lk, .cd, .seamDown] ps = true) : (State.lkAsk s k e).rest ps = s.rest ps := Part.lift hps (by simp (disch := decide) only [State.lkAsk, State.rest_ite, ite_self, State.modLk_rest])

theorem State.resetLink_rest (s : State) (k : Nat) {ps : List Part} (hps : Part.sub [.regs, .rt, .ni, .port, .lk, .owed, .wakeQ] ps = true) : (State.resetLink s k).rest ps = s.rest ps := Part.lift hps (by
  simp (disch := first | decide | (intros; simp (disch := decide) only [State.rest_ite, ite_self, foldl_rest, State.rest_regs, State.rest_rt, State.rest_ni, State.rest_port, State.rest_lk, State.rest_owed, State.rest_wakeQ, State.lkTell_rest, State.setLk_rest]; done) | fail) only [State.resetLink, foldl_rest, State.rest_ite, ite_self, State.setLk_rest, State.lkTell_rest])

theorem execLkEnableWrite_rest (k : Fin 28) (e : Fin 2) (on : Bool) (s : State) {ps : List Part} (hps : Part.sub [.regs, .rt, .ni, .port, .lk, .cd, .pot, .seamDown, .wire, .owed, .used, .wakeQ] ps = true) : ∃ s', execLkEnableWrite k e on s = .next s' ∧ s'.rest ps = s.rest ps := by
  unfold execLkEnableWrite
  (repeat' split) <;> exact ⟨_, rfl, Part.lift hps (by first | rfl | simp (disch := decide) only [State.rest_ite, ite_self, State.lkLost_rest, State.setFld_rest, State.lkAsk_rest, State.modLk_rest])⟩

theorem State.lkRetrain_rest (s : State) (k e : Nat) {ps : List Part} (hps : Part.sub [.regs, .rt, .ni, .port, .lk, .cd, .pot, .seamDown, .wire, .owed, .used, .wakeQ] ps = true) : (State.lkRetrain s k e).rest ps = s.rest ps := Part.lift hps (by
  simp only [State.lkRetrain]
  (repeat' split) <;> first | rfl | simp (disch := first | decide | (intros; simp (disch := decide) only [State.rest_ite, ite_self, foldl_rest, State.rest_regs, State.rest_rt, State.rest_ni, State.rest_port, State.rest_lk, State.rest_cd, State.rest_pot, State.rest_seamDown, State.rest_wire, State.rest_owed, State.rest_used, State.rest_wakeQ, State.retrainDue_rest, State.setFld_rest, State.modLk_rest]; done) | fail) only [State.retrainDue_rest, State.setFld_rest, State.modLk_rest, State.rest_ite, ite_self])

theorem execLkRetrainWrite_rest (k : Fin 28) (e : Fin 2) (s : State) {ps : List Part} (hps : Part.sub [.regs, .rt, .ni, .port, .lk, .cd, .pot, .seamDown, .wire, .owed, .used, .wakeQ] ps = true) : ∃ s', execLkRetrainWrite k e s = .next s' ∧ s'.rest ps = s.rest ps := by
  unfold execLkRetrainWrite
  (repeat' split) <;> exact ⟨_, rfl, Part.lift hps (by first | rfl | simp (disch := decide) only [State.lkRetrain_rest])⟩

theorem State.modSb_rest (s : State) (f : Bridge → Bridge) {ps : List Part} (hps : Part.sub [.sb] ps = true) : (State.modSb s f).rest ps = s.rest ps := Part.lift hps rfl

theorem State.sbReport_rest (s : State) (k : FaultKind) (at' low : Nat) {ps : List Part} (hps : Part.sub [.regs, .ni, .wakeQ] ps = true) : (State.sbReport s k at' low).rest ps = s.rest ps := Part.lift hps (by simp (disch := decide) only [State.sbReport, State.report_rest, State.reportUp_rest])

theorem State.sbUnserved_rest (s : State) (h : Hdr) (addr : Nat) {ps : List Part} (hps : Part.sub [.regs, .ni, .sb, .wakeQ] ps = true) : (State.sbUnserved s h addr).rest ps = s.rest ps := Part.lift hps (by simp (disch := decide) only [State.sbUnserved, State.rest_ite, ite_self, State.answerErr_rest, State.modSb_rest, State.bump_rest, State.setFld_rest, State.sbReport_rest])

theorem State.sbInLost_rest (s : State) (j : Nat) {ps : List Part} (hps : Part.sub [.regs, .ni, .sb, .wakeQ] ps = true) : (State.sbInLost s j).rest ps = s.rest ps := Part.lift hps (by simp (disch := decide) only [State.sbInLost, State.rest_ite, ite_self, State.modSb_rest, State.bump_rest, State.setFld_rest, State.sbReport_rest])

theorem State.sbCfg_rest (s : State) {ps : List Part} (hps : Part.sub [.regs, .ni, .wakeQ] ps = true) : (State.sbCfg s).rest ps = s.rest ps := Part.lift hps (by simp (disch := decide) only [State.sbCfg, State.setFld_rest, State.sbReport_rest])

theorem State.sbFarInfo_rest (s : State) (addr kind src : Nat) {ps : List Part} (hps : Part.sub [.regs] ps = true) : (State.sbFarInfo s addr kind src).rest ps = s.rest ps := Part.lift hps (by simp (disch := decide) only [State.sbFarInfo, State.bump_rest, State.wr_rest])

theorem State.gateDeny_rest (s : State) (p : Pkt) (answered : Bool) {ps : List Part} (hps : Part.sub [.regs, .ni, .wakeQ] ps = true) : (State.gateDeny s p answered).rest ps = s.rest ps := Part.lift hps (by simp (disch := decide) only [State.gateDeny, State.rest_ite, ite_self, State.answerErr_rest, State.bump_rest, State.setFld_rest, State.sbReport_rest])

theorem State.sbTake_eq (s : State) (ok : Hdr → Bool) {r0 : Pkt} {r1 : State} {ps : List Part} (hr : State.sbTake s ok = some (r0, r1)) (hps : Part.sub [.ni] ps = true) : r1.rest ps = s.rest ps := Part.lift hps (by
  simp only [State.sbTake] at hr
  (repeat' split at hr) <;> (try cases hr) <;> first | (with_reducible rfl) | contradiction | (simp (disch := first | decide | (intros; (try dsimp only); (repeat' split) <;> first | (with_reducible rfl) | (simp (disch := decide) only [State.rest_ite, ite_self, foldl_rest, State.rest_ni, State.modNi_rest]; done) | fail) | fail) only [State.modNi_rest, State.rest_ite, ite_self]; done) | rfl)

theorem State.sbOrder_rest (s : State) (p : Pkt) {ps : List Part} (hps : Part.sub [.sb] ps = true) : (State.sbOrder s p).rest ps = s.rest ps := Part.lift hps rfl

theorem execSbWriteRequest_rest (s : State) {ps : List Part} (hps : Part.sub [.regs, .ni, .sb, .wakeQ] ps = true) : ∃ s', execSbWriteRequest s = .next s' ∧ s'.rest ps = s.rest ps := by
  simp only [execSbWriteRequest]
  repeat' split
  all_goals try have e_sbTake := State.sbTake_eq _ _ (by assumption) (ps := ps) (Part.sub_trans (by decide) hps)
  all_goals refine ⟨_, rfl, ?_⟩
  all_goals first
    | rfl
    | assumption
    | (simp (disch := first | exact Part.sub_trans (by decide) hps | (intros; (try dsimp only); (repeat' split) <;> first | (with_reducible rfl) | (simp (disch := exact Part.sub_trans (by decide) hps) only [State.rest_ite, ite_self, foldl_rest, State.rest_regs, State.rest_ni, State.rest_sb, State.rest_wakeQ, State.sbTake_rest, State.sbUnserved_rest, State.sbOrder_rest, State.gateDeny_rest, State.answer_rest]; done) | fail) | fail) only [State.rest_ite, ite_self, State.sbUnserved_rest, State.sbOrder_rest, State.gateDeny_rest, State.answer_rest, *]; done)

theorem execSbReadRequest_rest (s : State) {ps : List Part} (hps : Part.sub [.regs, .ni, .sb, .wakeQ] ps = true) : ∃ s', execSbReadRequest s = .next s' ∧ s'.rest ps = s.rest ps := by
  simp only [execSbReadRequest]
  repeat' split
  all_goals try have e_sbTake := State.sbTake_eq _ _ (by assumption) (ps := ps) (Part.sub_trans (by decide) hps)
  all_goals refine ⟨_, rfl, ?_⟩
  all_goals first
    | rfl
    | assumption
    | (simp (disch := first | exact Part.sub_trans (by decide) hps | (intros; (try dsimp only); (repeat' split) <;> first | (with_reducible rfl) | (simp (disch := exact Part.sub_trans (by decide) hps) only [State.rest_ite, ite_self, foldl_rest, State.rest_regs, State.rest_ni, State.rest_sb, State.rest_wakeQ, State.sbTake_rest, State.sbUnserved_rest, State.sbOrder_rest]; done) | fail) | fail) only [State.rest_ite, ite_self, State.sbUnserved_rest, State.sbOrder_rest, *]; done)

theorem State.sbExclusive_rest (s : State) (op : Nat) {ps : List Part} (hps : Part.sub [.regs, .ni, .sb, .wakeQ] ps = true) : ∃ s', State.sbExclusive s op = .next s' ∧ s'.rest ps = s.rest ps := by
  simp only [State.sbExclusive]
  repeat' split
  all_goals try have e_sbTake := State.sbTake_eq _ _ (by assumption) (ps := ps) (Part.sub_trans (by decide) hps)
  all_goals refine ⟨_, rfl, ?_⟩
  all_goals first
    | rfl
    | assumption
    | (simp (disch := first | exact Part.sub_trans (by decide) hps | (intros; (try dsimp only); (repeat' split) <;> first | (with_reducible rfl) | (simp (disch := exact Part.sub_trans (by decide) hps) only [State.rest_ite, ite_self, foldl_rest, State.rest_regs, State.rest_ni, State.rest_sb, State.rest_wakeQ, State.sbTake_rest, State.sbUnserved_rest, State.sbOrder_rest]; done) | fail) | fail) only [State.rest_ite, ite_self, State.sbUnserved_rest, State.sbOrder_rest, *]; done)

theorem execNrdx_rest (s : State) {ps : List Part} (hps : Part.sub [.regs, .ni, .sb, .wakeQ] ps = true) : ∃ s', execNrdx s = .next s' ∧ s'.rest ps = s.rest ps := by
  simp only [execNrdx]
  (repeat' split) <;> first | (refine ⟨_, rfl, Part.lift hps ?_⟩; first | (with_reducible rfl) | (simp (disch := first | decide | (intros; (try dsimp only); (repeat' split) <;> first | (with_reducible rfl) | (simp (disch := decide) only [State.rest_ite, ite_self, foldl_rest, State.rest_regs, State.rest_ni, State.rest_sb, State.sbExclusive_rest, State.rest_wakeQ]; done) | fail) | fail) only [State.rest_ite, ite_self, foldl_rest, State.rest_regs, State.rest_ni, State.rest_sb, State.sbExclusive_rest, State.rest_wakeQ]; done) | rfl) | (refine next_rest (by apply State.sbExclusive_rest; exact Part.sub_trans (by decide) hps) (Part.lift hps ?_); first | rfl | simp (disch := first | decide | (intros; (try dsimp only); (repeat' split) <;> first | (with_reducible rfl) | (simp (disch := decide) only [State.rest_ite, ite_self, foldl_rest, State.rest_regs, State.rest_ni, State.rest_sb, State.sbExclusive_rest, State.rest_wakeQ]; done) | fail) | fail) only [State.rest_ite, ite_self, foldl_rest, State.rest_regs, State.rest_ni, State.rest_sb, State.sbExclusive_rest, State.rest_wakeQ])

theorem execNwrx_rest (s : State) {ps : List Part} (hps : Part.sub [.regs, .ni, .sb, .wakeQ] ps = true) : ∃ s', execNwrx s = .next s' ∧ s'.rest ps = s.rest ps := by
  simp only [execNwrx]
  (repeat' split) <;> first | (refine ⟨_, rfl, Part.lift hps ?_⟩; first | (with_reducible rfl) | (simp (disch := first | decide | (intros; (try dsimp only); (repeat' split) <;> first | (with_reducible rfl) | (simp (disch := decide) only [State.rest_ite, ite_self, foldl_rest, State.rest_regs, State.rest_ni, State.rest_sb, State.sbExclusive_rest, State.rest_wakeQ]; done) | fail) | fail) only [State.rest_ite, ite_self, foldl_rest, State.rest_regs, State.rest_ni, State.rest_sb, State.sbExclusive_rest, State.rest_wakeQ]; done) | rfl) | (refine next_rest (by apply State.sbExclusive_rest; exact Part.sub_trans (by decide) hps) (Part.lift hps ?_); first | rfl | simp (disch := first | decide | (intros; (try dsimp only); (repeat' split) <;> first | (with_reducible rfl) | (simp (disch := decide) only [State.rest_ite, ite_self, foldl_rest, State.rest_regs, State.rest_ni, State.rest_sb, State.sbExclusive_rest, State.rest_wakeQ]; done) | fail) | fail) only [State.rest_ite, ite_self, foldl_rest, State.rest_regs, State.rest_ni, State.rest_sb, State.sbExclusive_rest, State.rest_wakeQ])

theorem State.sbDrive_rest (s : State) (m : E5Msg) {ps : List Part} (hps : Part.sub [.sb] ps = true) : (State.sbDrive s m).rest ps = s.rest ps := Part.lift hps rfl

theorem State.sbIssue_rest (s : State) (pkts : List Pkt) (addr : Nat) (m : E5Msg) (tag : Option Nat) {ps : List Part} (hps : Part.sub [.sb] ps = true) : (State.sbIssue s pkts addr m tag).rest ps = s.rest ps := Part.lift hps rfl

theorem State.sbDrop_rest (s : State) (i : Nat) {ps : List Part} (hps : Part.sub [.sb] ps = true) : (State.sbDrop s i).rest ps = s.rest ps := Part.lift hps rfl

theorem State.issueWrite_rest (s : State) (p : Pkt) {ps : List Part} (hps : Part.sub [.sb] ps = true) : (State.issueWrite s p).rest ps = s.rest ps := Part.lift hps (by simp (disch := decide) only [State.issueWrite, State.rest_ite, ite_self, State.modSb_rest, State.sbIssue_rest, State.sbDrop_rest])

theorem State.exFail_rest (s : State) (p : Pkt) {ps : List Part} (hps : Part.sub [.ni] ps = true) : (State.exFail s p).rest ps = s.rest ps := Part.lift hps rfl

theorem State.issueNrdx_rest (s : State) (i : Nat) (p : Pkt) {ps : List Part} (hps : Part.sub [.sb] ps = true) : (State.issueNrdx s i p).rest ps = s.rest ps := Part.lift hps (by
  simp only [State.issueNrdx]
  (repeat' split) <;> first | (with_reducible rfl) | (simp (disch := first | decide | (intros; (try dsimp only); (repeat' split) <;> first | (with_reducible rfl) | (simp (disch := decide) only [State.rest_ite, ite_self, foldl_rest, State.rest_sb, State.modSb_rest, State.sbIssue_rest, State.sbDrop_rest, State.sbDrive_rest]; done) | fail) | fail) only [State.modSb_rest, State.sbIssue_rest, State.sbDrop_rest, State.sbDrive_rest, State.rest_ite, ite_self]; done) | rfl)

theorem State.issueNwrx_rest (s : State) (i : Nat) (p : Pkt) {ps : List Part} (hps : Part.sub [.ni, .sb] ps = true) : (State.issueNwrx s i p).rest ps = s.rest ps := Part.lift hps (by
  simp only [State.issueNwrx]
  (repeat' split) <;> first | (with_reducible rfl) | (simp (disch := first | decide | (intros; (try dsimp only); (repeat' split) <;> first | (with_reducible rfl) | (simp (disch := decide) only [State.rest_ite, ite_self, foldl_rest, State.rest_ni, State.rest_sb, State.modSb_rest, State.sbIssue_rest, State.exFail_rest, State.sbDrop_rest, State.sbDrive_rest]; done) | fail) | fail) only [State.modSb_rest, State.sbIssue_rest, State.exFail_rest, State.sbDrop_rest, State.sbDrive_rest, State.rest_ite, ite_self]; done) | rfl)

theorem execSbE5lbIssue_rest (s : State) {ps : List Part} (hps : Part.sub [.regs, .ni, .sb, .wakeQ] ps = true) : ∃ s', execSbE5lbIssue s = .next s' ∧ s'.rest ps = s.rest ps := by
  unfold execSbE5lbIssue
  (repeat' split) <;> refine ⟨_, rfl, Part.lift hps ?_⟩ <;> (repeat' split) <;> first | rfl | simp (disch := first | decide | (intros; simp (disch := decide) only [State.rest_ite, ite_self, foldl_rest, State.rest_regs, State.rest_ni, State.rest_sb, State.sbIssue_rest, State.answer_rest, State.gateDeny_rest, State.issueWrite_rest, State.issueNrdx_rest, State.issueNwrx_rest, State.sbDrop_rest, State.rest_wakeQ]; done) | fail) only [State.gateDeny_rest, State.issueWrite_rest, State.issueNrdx_rest, State.issueNwrx_rest, State.sbDrop_rest, State.rest_ite, ite_self, State.sbIssue_rest, State.answer_rest]

theorem State.telemSend_rest (s : State) (l : List (List W64)) {ps : List Part} (hps : Part.sub [.regs, .tabBad, .ni, .wakeQ] ps = true) :
    (State.telemSend s l).rest ps = s.rest ps := by
  induction l generalizing s with
  | nil => rfl
  | cons ws l ih =>
    rw [State.telemSend, ih, State.bump_rest _ _ _ (Part.sub_trans (by decide) hps), State.presentReq_rest _ _ _ _ (Part.sub_trans (by decide) hps)]

theorem State.pollEnd_rest (s : State) {ps : List Part} (hps : Part.sub [.regs, .tabBad, .ni, .sb, .wakeQ] ps = true) : (State.pollEnd s).rest ps = s.rest ps := Part.lift hps (by
  unfold State.pollEnd
  (repeat' split) <;> first | rfl | simp (disch := decide) only [State.modSb_rest, State.bump_rest, State.telemSend_rest, State.rest_ite, ite_self])

theorem State.sensorDone_rest (s : State) (x : E5Tx) (d : Option (BitVec 32)) {ps : List Part} (hps : Part.sub [.regs, .tabBad, .ni, .sb, .wakeQ] ps = true) : (State.sensorDone s x d).rest ps = s.rest ps := Part.lift hps (by simp (disch := decide) only [State.sensorDone, State.rest_ite, ite_self, State.modSb_rest, State.bump_rest, State.pollEnd_rest])

theorem State.sbClose_rest (s : State) (x : E5Tx) {ps : List Part} (hps : Part.sub [.sb] ps = true) : (State.sbClose s x).rest ps = s.rest ps := Part.lift hps rfl

theorem State.sbFail_rest (s : State) (x : E5Tx) (kind : Nat) {ps : List Part} (hps : Part.sub [.regs, .tabBad, .ni, .sb, .wakeQ] ps = true) : (State.sbFail s x kind).rest ps = s.rest ps := Part.lift hps (by
  simp only [State.sbFail]
  (repeat' split) <;> first | (with_reducible rfl) | (simp (disch := first | decide | (intros; (try dsimp only); (repeat' split) <;> first | (with_reducible rfl) | (simp (disch := decide) only [State.rest_ite, ite_self, foldl_rest, State.rest_regs, State.rest_tabBad, State.rest_ni, State.rest_sb, State.rest_wakeQ, State.modSb_rest, State.sensorDone_rest, State.answer_rest, State.sbFarInfo_rest, State.setFld_rest, State.sbReport_rest]; done) | fail) | fail) only [State.modSb_rest, State.sensorDone_rest, State.answer_rest, State.sbFarInfo_rest, State.setFld_rest, State.sbReport_rest, State.rest_ite, ite_self]; done) | rfl)

theorem State.sbRetry_rest (s : State) (x : E5Tx) {ps : List Part} (hps : Part.sub [.regs, .tabBad, .ni, .sb, .wakeQ] ps = true) : (State.sbRetry s x).rest ps = s.rest ps := Part.lift hps (by
  unfold State.sbRetry
  (repeat' split) <;> first | rfl | simp (disch := first | decide | (intros; simp (disch := decide) only [State.rest_ite, ite_self, foldl_rest, State.rest_regs, State.rest_tabBad, State.rest_ni, State.rest_sb, State.rest_wakeQ, State.sbFail_rest, State.modSb_rest, State.sbClose_rest, State.sbDrive_rest]; done) | fail) only [State.sbFail_rest, State.sbClose_rest, State.rest_ite, ite_self, State.sbDrive_rest, State.modSb_rest])

theorem execSbE5ReadResponse_rest (tag : Fin 64) (resp : E5Resp) (data : List (BitVec 32)) (s : State) {ps : List Part} (hps : Part.sub [.regs, .tabBad, .ni, .sb, .wakeQ] ps = true) : ∃ s', execSbE5ReadResponse tag resp data s = .next s' ∧ s'.rest ps = s.rest ps := by
  unfold execSbE5ReadResponse
  (repeat' split) <;> refine ⟨_, rfl, Part.lift hps ?_⟩ <;> (repeat' split) <;> first | rfl | simp (disch := first | decide | (intros; simp (disch := decide) only [State.rest_ite, ite_self, foldl_rest, State.rest_regs, State.rest_tabBad, State.rest_ni, State.rest_sb, State.rest_wakeQ, State.sbFail_rest, State.sensorDone_rest, State.sbClose_rest, State.answer_rest, State.sbRetry_rest, State.retry_rest]; done) | fail) only [State.sbFail_rest, State.sensorDone_rest, State.sbClose_rest, State.sbRetry_rest, State.rest_ite, ite_self, State.retry_rest, State.answer_rest]

theorem execSbE5WriteResponse_rest (k : Nat) (resp : E5Resp) (s : State) {ps : List Part} (hps : Part.sub [.regs, .tabBad, .ni, .sb, .wakeQ] ps = true) : ∃ s', execSbE5WriteResponse k resp s = .next s' ∧ s'.rest ps = s.rest ps := by
  unfold execSbE5WriteResponse
  (repeat' split) <;> refine ⟨_, rfl, Part.lift hps ?_⟩ <;> (repeat' split) <;> first | rfl | simp (disch := first | decide | (intros; simp (disch := decide) only [State.rest_ite, ite_self, foldl_rest, State.rest_regs, State.rest_tabBad, State.rest_ni, State.rest_sb, State.rest_wakeQ, State.sbFail_rest, State.modSb_rest, State.sbClose_rest, State.answer_rest, State.sbRetry_rest, State.retry_rest]; done) | fail) only [State.sbFail_rest, State.sbClose_rest, State.sbRetry_rest, State.rest_ite, ite_self, State.retry_rest, State.modSb_rest, State.answer_rest]

theorem execE5TimeoutExpiry_rest (s : State) {ps : List Part} (hps : Part.sub [.regs, .tabBad, .ni, .sb, .wakeQ] ps = true) : ∃ s', execE5TimeoutExpiry s = .next s' ∧ s'.rest ps = s.rest ps := by
  simp only [execE5TimeoutExpiry]
  (repeat' split) <;> first | (refine ⟨_, rfl, Part.lift hps ?_⟩; (repeat' split) <;> first | (with_reducible rfl) | (simp (disch := first | decide | (intros; (try dsimp only); (repeat' split) <;> first | (with_reducible rfl) | (simp (disch := decide) only [State.rest_ite, ite_self, foldl_rest, State.rest_regs, State.rest_tabBad, State.rest_ni, State.rest_sb, State.rest_wakeQ, State.sbFail_rest, State.modSb_rest, State.sbClose_rest]; done) | fail) | fail) only [foldl_rest, State.rest_ite, ite_self, State.sbClose_rest, State.sbFail_rest, State.modSb_rest]; done) | rfl)

theorem execSbLockTimeout_rest (s : State) {ps : List Part} (hps : Part.sub [.regs, .ni, .sb, .wakeQ] ps = true) : ∃ s', execSbLockTimeout s = .next s' ∧ s'.rest ps = s.rest ps := by
  unfold execSbLockTimeout
  (repeat' split) <;> exact ⟨_, rfl, Part.lift hps (by first | rfl | simp (disch := decide) only [State.modSb_rest, State.setFld_rest, State.sbReport_rest, State.sbDrive_rest, State.rest_ite, ite_self])⟩

theorem execSbInboundWrite_rest (addr : BitVec 32) (beats : List (BitVec 4 × BitVec 32)) (err : ReadErr) (s : State) {ps : List Part} (hps : Part.sub [.regs, .tabBad, .ni, .sb, .wakeQ] ps = true) : ∃ s', execSbInboundWrite addr beats err s = .next s' ∧ s'.rest ps = s.rest ps := by
  unfold execSbInboundWrite
  (repeat' split) <;> exact ⟨_, rfl, Part.lift hps (by first | rfl | simp (disch := decide) only [State.presentReq_rest, State.sbDrive_rest, State.rest_ite, ite_self])⟩

theorem execSbInboundRead_rest (addr : BitVec 32) (strobes : List (BitVec 4)) (mtag : BitVec 16) (err : ReadErr) (s : State) {ps : List Part} (hps : Part.sub [.regs, .tabBad, .ni, .wakeQ] ps = true) : ∃ s', execSbInboundRead addr strobes mtag err s = .next s' ∧ s'.rest ps = s.rest ps := by
  unfold execSbInboundRead
  (repeat' split) <;> exact ⟨_, rfl, Part.lift hps (by first | rfl | simp (disch := decide) only [State.presentReq_rest, State.rest_ite, ite_self])⟩

theorem execSbInboundCompletion_rest (s : State) {ps : List Part} (hps : Part.sub [.ni, .sb] ps = true) : ∃ s', execSbInboundCompletion s = .next s' ∧ s'.rest ps = s.rest ps := by
  unfold execSbInboundCompletion
  (repeat' split) <;> exact ⟨_, rfl, Part.lift hps (by first | rfl | simp (disch := decide) only [State.rest_ite, ite_self, foldl_rest, State.rest_ni, State.rest_sb, State.modNi_rest, State.sbDrive_rest])⟩

theorem State.sbRewrite_rest (s : State) (f : Req → Req) {ps : List Part} (hps : Part.sub [.ni] ps = true) : (State.sbRewrite s f).rest ps = s.rest ps := Part.lift hps rfl

theorem State.sbProduce_rest (s : State) (j kind edges time : Nat) {ps : List Part} (hps : Part.sub [.regs, .tabBad, .ni, .wakeQ] ps = true) : (State.sbProduce s j kind edges time).rest ps = s.rest ps := Part.lift hps (by simp (disch := decide) only [State.sbProduce, State.rest_ite, ite_self, State.reportCls_rest, State.presentReq_rest, State.wakeNi_rest])

theorem State.sbEmit_rest (s : State) (j kind : Nat) {ps : List Part} (hps : Part.sub [.regs, .tabBad, .ni, .sb, .wakeQ] ps = true) : (State.sbEmit s j kind).rest ps = s.rest ps := Part.lift hps (by
  simp only [State.sbEmit]
  (repeat' split) <;> first | rfl | simp (disch := first | decide | (intros; simp (disch := decide) only [State.rest_ite, ite_self, foldl_rest, State.rest_regs, State.rest_tabBad, State.rest_ni, State.rest_sb, State.rest_wakeQ, State.sbInLost_rest, State.sbRewrite_rest, State.modSb_rest, State.sbProduce_rest, State.wakeDomain_rest]; done) | fail) only [State.sbInLost_rest, State.sbRewrite_rest, State.modSb_rest, State.sbProduce_rest, State.rest_ite, ite_self, State.wakeDomain_rest])

theorem State.sbWoken_rest (s : State) {ps : List Part} (hps : Part.sub [.regs, .tabBad, .ni, .sb, .wakeQ] ps = true) : (State.sbWoken s).rest ps = s.rest ps := Part.lift hps (by
  simp (disch := first | decide | (intros; (try dsimp only); (repeat' split) <;> first | (with_reducible rfl) | (simp (disch := decide) only [State.rest_ite, ite_self, foldl_rest, State.rest_regs, State.rest_tabBad, State.rest_ni, State.rest_sb, State.rest_wakeQ, State.modSb_rest, State.sbProduce_rest]; done) | fail) | fail) only [State.sbWoken, foldl_rest, State.modSb_rest, State.sbProduce_rest])

theorem execSbInputEvent_rest (j : Fin 32) (level : Bool) (s : State) {ps : List Part} (hps : Part.sub [.regs, .tabBad, .ni, .sb, .wakeQ] ps = true) : ∃ s', execSbInputEvent j level s = .next s' ∧ s'.rest ps = s.rest ps := by
  simp only [execSbInputEvent]
  (repeat' split) <;> exact ⟨_, rfl, Part.lift hps (by simp (disch := first | decide | (intros; simp (disch := decide) only [State.rest_ite, ite_self, foldl_rest, State.rest_regs, State.rest_tabBad, State.rest_ni, State.rest_sb, State.rest_wakeQ, State.modSb_rest, State.sbInLost_rest, State.sbEmit_rest, State.sbRewrite_rest]; done) | fail) only [State.modSb_rest, State.sbInLost_rest, State.sbEmit_rest, State.sbRewrite_rest, State.rest_ite, ite_self])⟩

theorem State.sbAwake_rest (s : State) {ps : List Part} (hps : Part.sub [.sb] ps = true) : (State.sbAwake s).rest ps = s.rest ps := Part.lift hps rfl

theorem State.sbReady_rest (s : State) {ps : List Part} (hps : Part.sub [.regs, .tabBad, .ni, .sb, .wakeQ] ps = true) : (State.sbReady s).rest ps = s.rest ps := Part.lift hps (by
  simp (disch := first | decide | (intros; simp (disch := decide) only [State.rest_ite, ite_self, foldl_rest, State.rest_regs, State.rest_tabBad, State.rest_ni, State.rest_sb, State.rest_wakeQ, State.sbEmit_rest, State.sbAwake_rest]; done) | fail) only [State.sbReady, foldl_rest, State.rest_ite, ite_self, State.sbEmit_rest, State.sbAwake_rest])

theorem execSbInCommit_rest (s : State) {ps : List Part} (hps : Part.sub [.regs, .pend, .tabBad, .ni, .sb, .wakeQ] ps = true) : ∃ s', execSbInCommit s = .next s' ∧ s'.rest ps = s.rest ps := by
  simp only [execSbInCommit]
  (repeat' split) <;> first | (refine ⟨_, rfl, Part.lift hps ?_⟩; first | (with_reducible rfl) | (simp (disch := first | decide | (intros; (try dsimp only); (repeat' split) <;> first | (with_reducible rfl) | (simp (disch := decide) only [State.rest_ite, ite_self, foldl_rest, State.rest_regs_pend, State.rest_regs, State.rest_pend, State.rest_tabBad, State.rest_ni, State.rest_sb, State.rest_wakeQ, State.commitRegs_rest, State.modSb_rest, State.sbCfg_rest, State.sbEmit_rest, State.sbProduce_rest]; done) | fail) | fail) only [foldl_rest, State.commitRegs_rest, State.sbCfg_rest, State.rest_ite, ite_self, State.sbEmit_rest, State.modSb_rest, State.sbProduce_rest]; done) | rfl)

theorem execSbInSwitchEnd_rest (j : Fin 32) (s : State) {ps : List Part} (hps : Part.sub [.regs, .tabBad, .ni, .sb, .wakeQ] ps = true) : ∃ s', execSbInSwitchEnd j s = .next s' ∧ s'.rest ps = s.rest ps := by
  unfold execSbInSwitchEnd
  (repeat' split) <;> exact ⟨_, rfl, Part.lift hps (by first | rfl | simp (disch := decide) only [State.rest_ite, ite_self, State.modSb_rest, State.sbEmit_rest])⟩

theorem execSbTelemCommit_rest (s : State) {ps : List Part} (hps : Part.sub [.regs, .ni, .sb, .wakeQ] ps = true) : ∃ s', execSbTelemCommit s = .next s' ∧ s'.rest ps = s.rest ps := by
  unfold execSbTelemCommit
  (repeat' split) <;> exact ⟨_, rfl, Part.lift hps (by first | rfl | simp (disch := decide) only [State.sbCfg_rest, State.rest_ite, ite_self, State.modSb_rest])⟩

theorem State.telemActive_rest (s : State) {ps : List Part} (hps : Part.sub [.regs, .pend, .sb] ps = true) : (State.telemActive s).rest ps = s.rest ps := Part.lift hps (by
  unfold State.telemActive
  (repeat' split) <;> first | rfl | simp (disch := first | decide | (intros; simp (disch := decide) only [State.rest_ite, ite_self, foldl_rest, State.rest_regs_pend, State.rest_regs, State.rest_pend, State.rest_sb, State.modSb_rest, State.dropPend_rest, State.wr_rest]; done) | fail) only [foldl_rest, State.modSb_rest, State.rest_ite, ite_self, State.wr_rest, State.dropPend_rest])

theorem State.sbPoll_rest (s : State) {ps : List Part} (hps : Part.sub [.regs, .pend, .tabBad, .ni, .sb, .wakeQ] ps = true) : (State.sbPoll s).rest ps = s.rest ps := Part.lift hps (by simp (disch := decide) only [State.sbPoll, State.rest_ite, ite_self, State.bump_rest, State.setFld_rest, State.modSb_rest, State.sbReport_rest, State.telemActive_rest, State.pollEnd_rest])

theorem execSbTelemPoll_rest (s : State) {ps : List Part} (hps : Part.sub [.regs, .pend, .tabBad, .ni, .sb, .wakeQ] ps = true) : ∃ s', execSbTelemPoll s = .next s' ∧ s'.rest ps = s.rest ps := by
  simp only [execSbTelemPoll]
  (repeat' split) <;> exact ⟨_, rfl, Part.lift hps (by simp (disch := first | decide | (intros; simp (disch := decide) only [State.rest_ite, ite_self, foldl_rest, State.rest_regs_pend, State.rest_regs, State.rest_pend, State.rest_tabBad, State.rest_ni, State.rest_sb, State.rest_wakeQ, State.modSb_rest, State.telemActive_rest, State.bump_rest, State.setFld_rest, State.sbReport_rest, State.pollEnd_rest, State.sbPoll_rest]; done) | fail) only [State.modSb_rest, State.telemActive_rest, State.bump_rest, State.setFld_rest, State.sbReport_rest, State.pollEnd_rest, State.rest_ite, ite_self, State.sbPoll_rest])⟩

theorem State.setOut_rest (s : State) (k : Nat) (x : SbOut) {ps : List Part} (hps : Part.sub [.sb] ps = true) : (State.setOut s k x).rest ps = s.rest ps := Part.lift hps rfl

theorem execSbout_rest (s : State) {ps : List Part} (hps : Part.sub [.regs, .ni, .sb, .wakeQ] ps = true) : ∃ s', execSbout s = .next s' ∧ s'.rest ps = s.rest ps := by
  simp only [execSbout]
  split
  · exact ⟨_, rfl, rfl⟩
  · have e := State.takeIn_eq _ _ _ _ (by assumption) (ps := ps) (Part.sub_trans (by decide) hps)
    split
    · exact ⟨_, rfl, by rw [State.sbReport_rest _ _ _ _ (Part.sub_trans (by decide) hps), State.setFld_rest _ _ _ _ (Part.sub_trans (by decide) hps), e]⟩
    · refine ⟨_, rfl, (foldl_rest _ _ _ (fun s k => ?_)).trans e⟩
      (repeat' split) <;> first | rfl | exact State.setOut_rest _ _ _ (Part.sub_trans (by decide) hps)

theorem execSbPulseEnd_rest (k : Fin 16) (s : State) {ps : List Part} (hps : Part.sub [.sb] ps = true) : ∃ s', execSbPulseEnd k s = .next s' ∧ s'.rest ps = s.rest ps := by
  simp only [execSbPulseEnd]
  (repeat' split) <;> exact ⟨_, rfl, Part.lift hps (by simp (disch := first | decide | (intros; simp (disch := decide) only [State.rest_ite, ite_self, foldl_rest, State.rest_sb, State.setOut_rest]; done) | fail) only [State.setOut_rest, State.rest_ite, ite_self])⟩

theorem execSbOutCommit_rest (s : State) {ps : List Part} (hps : Part.sub [.regs, .pend, .ni, .sb, .wakeQ] ps = true) : ∃ s', execSbOutCommit s = .next s' ∧ s'.rest ps = s.rest ps := by
  simp only [execSbOutCommit]
  (repeat' split) <;> exact ⟨_, rfl, Part.lift hps (by simp (disch := first | decide | (intros; simp (disch := decide) only [State.rest_ite, ite_self, foldl_rest, State.rest_regs_pend, State.rest_regs, State.rest_pend, State.rest_ni, State.rest_sb, State.commitRegs_rest, State.sbCfg_rest, State.setOut_rest, State.rest_wakeQ]; done) | fail) only [foldl_rest, State.commitRegs_rest, State.sbCfg_rest, State.rest_ite, ite_self, State.setOut_rest])⟩

theorem execSbOutSwitchEnd_rest (k : Fin 16) (s : State) {ps : List Part} (hps : Part.sub [.sb] ps = true) : ∃ s', execSbOutSwitchEnd k s = .next s' ∧ s'.rest ps = s.rest ps := by
  unfold execSbOutSwitchEnd
  (repeat' split) <;> exact ⟨_, rfl, Part.lift hps (by first | rfl | simp (disch := decide) only [State.rest_ite, ite_self, State.setOut_rest])⟩

theorem execSbTick_rest (k : Fin 16) (s : State) {ps : List Part} (hps : Part.sub [.sb] ps = true) : ∃ s', execSbTick k s = .next s' ∧ s'.rest ps = s.rest ps := by
  simp only [execSbTick]
  (repeat' split) <;> exact ⟨_, rfl, Part.lift hps (by simp (disch := first | decide | (intros; simp (disch := decide) only [State.rest_ite, ite_self, foldl_rest, State.rest_sb, State.setOut_rest]; done) | fail) only [State.setOut_rest, State.rest_ite, ite_self])⟩

end Sys2Proof.Machine
end

