-- ==== Sys2Proof/Laws/FramePot.lean ====
section
/-! SUPPORT. Which components of the state each operation and each command may change: the Kettle, the Strainer, sending, epochs and the Pot.
A lemma named after a function says that nothing else differs; of a command it says also that the command answers a next state. -/
namespace Sys2Proof.Machine

theorem State.modKt_rest (s : State) (f : Kettle → Kettle) {ps : List Part} (hps : Part.sub [.kt] ps = true) : (State.modKt s f).rest ps = s.rest ps := Part.lift hps rfl

theorem State.tellFacing_rest (s : State) (d : Nat) (st : Nbr) {ps : List Part} (hps : Part.sub [.regs, .rt, .ni, .owed, .wakeQ] ps = true) : (State.tellFacing s d st).rest ps = s.rest ps := Part.lift hps (by
  simp (disch := first | decide | (intros; simp (disch := decide) only [State.rest_ite, ite_self, foldl_rest, State.rest_regs, State.rest_rt, State.rest_ni, State.rest_owed, State.rest_wakeQ, State.giveNbr_rest, State.sendNbr_rest]; done) | fail) only [State.tellFacing, State.rest_ite, ite_self, foldl_rest, State.sendNbr_rest])

theorem State.dropEvents_rest (s : State) (own : Nat → Bool) {ps : List Part} (hps : Part.sub [.ev] ps = true) : (State.dropEvents s own).rest ps = s.rest ps := Part.lift hps rfl

theorem State.clearLink_rest (s : State) (k : Nat) {ps : List Part} (hps : Part.sub [.sc, .wire, .cwire, .owed, .used] ps = true) : (State.clearLink s k).rest ps = s.rest ps := Part.lift hps (by
  simp (disch := first | decide | (intros; simp (disch := decide) only [State.rest_ite, ite_self, foldl_rest, State.rest_sc, State.rest_wire, State.rest_cwire, State.rest_owed, State.rest_used, State.setWire_rest, State.setOwed_rest, State.setFlips_rest, State.setUsed_rest]; done) | fail) only [State.clearLink, foldl_rest, State.rest_cwire, State.setWire_rest, State.setFlips_rest, State.rest_ite, ite_self, State.rest_sc, State.rest_wire, State.rest_owed, State.rest_used, State.setUsed_rest, State.setOwed_rest])

theorem State.setHeld_rest (s : State) (a b : Nat) (v : Bool) {ps : List Part} (hps : Part.sub [.held] ps = true) : (State.setHeld s a b v).rest ps = s.rest ps := Part.lift hps rfl

theorem State.holdPairs_rest (s : State) (i : Nat) {ps : List Part} (hps : Part.sub [.sc, .wire, .cwire, .owed, .used, .held] ps = true) : (State.holdPairs s i).rest ps = s.rest ps := Part.lift hps (by
  simp (disch := first | decide | (intros; simp (disch := decide) only [State.rest_ite, ite_self, foldl_rest, State.rest_sc, State.rest_wire, State.rest_cwire, State.rest_owed, State.rest_used, State.rest_held, State.clearLink_rest, State.setHeld_rest]; done) | fail) only [State.holdPairs, foldl_rest, State.rest_ite, ite_self, State.clearLink_rest, State.setHeld_rest])

theorem State.releasePairs_rest (s : State) (i : Nat) {ps : List Part} (hps : Part.sub [.regs, .lk, .cd, .seamDown, .wire, .held] ps = true) : (State.releasePairs s i).rest ps = s.rest ps := Part.lift hps (by
  simp (disch := first | decide | (intros; simp (disch := decide) only [State.rest_ite, ite_self, foldl_rest, State.rest_held, State.rest_regs, State.rest_lk, State.rest_cd, State.rest_seamDown, State.rest_wire, State.setHeld_rest, State.lkAsk_rest, State.lkDrain_rest]; done) | fail) only [State.releasePairs, foldl_rest, State.rest_ite, ite_self, State.setHeld_rest, State.lkAsk_rest, State.lkDrain_rest])

theorem State.clearEnd_rest (s : State) (k e : Nat) {ps : List Part} (hps : Part.sub [.sc, .wire, .cwire, .owed, .used] ps = true) : (State.clearEnd s k e).rest ps = s.rest ps := Part.lift hps (by simp (disch := decide) only [State.clearEnd, State.clearLink_rest])

theorem State.loseUnits_rest (s : State) (d : Nat) {ps : List Part} (hps : Part.sub [.regs, .pend, .tab, .tabBad, .isl, .ev, .rt, .ni, .port, .slice, .lk, .sb, .st, .tr, .sc, .pot, .pm, .latch, .dbgLatch, .chk, .wire, .cwire, .owed, .used] ps = true) : (State.loseUnits s d).rest ps = s.rest ps := Part.lift hps (by
  unfold State.loseUnits
  extract_lets own s1 nis ours s2 src s3 s4
  have h1 : s1.rest [.regs, .pend, .tab, .tabBad, .isl, .ev, .rt, .ni, .port, .slice, .lk, .sb, .st, .tr, .sc, .pot, .pm, .latch, .dbgLatch, .chk, .wire, .cwire, .owed, .used] = s.rest [.regs, .pend, .tab, .tabBad, .isl, .ev, .rt, .ni, .port, .slice, .lk, .sb, .st, .tr, .sc, .pot, .pm, .latch, .dbgLatch, .chk, .wire, .cwire, .owed, .used] := rfl
  have h2 : s2.rest [.regs, .pend, .tab, .tabBad, .isl, .ev, .rt, .ni, .port, .slice, .lk, .sb, .st, .tr, .sc, .pot, .pm, .latch, .dbgLatch, .chk, .wire, .cwire, .owed, .used] = s.rest [.regs, .pend, .tab, .tabBad, .isl, .ev, .rt, .ni, .port, .slice, .lk, .sb, .st, .tr, .sc, .pot, .pm, .latch, .dbgLatch, .chk, .wire, .cwire, .owed, .used] := by
    refine (foldl_rest _ _ _ (fun s t => ?_)).trans h1
    rw [foldl_rest _ _ _ (fun s p => State.clearLink_rest _ _ (by decide)), State.setRt_rest _ _ _ (by decide)]
  have h3 : s3.rest [.regs, .pend, .tab, .tabBad, .isl, .ev, .rt, .ni, .port, .slice, .lk, .sb, .st, .tr, .sc, .pot, .pm, .latch, .dbgLatch, .chk, .wire, .cwire, .owed, .used] = s.rest [.regs, .pend, .tab, .tabBad, .isl, .ev, .rt, .ni, .port, .slice, .lk, .sb, .st, .tr, .sc, .pot, .pm, .latch, .dbgLatch, .chk, .wire, .cwire, .owed, .used] := by
    refine (foldl_rest _ _ _ (fun s n => ?_)).trans h2
    rw [State.clearLink_rest _ _ (by decide), State.modPort_rest _ _ _ (by decide), State.setNi_rest _ _ _ (by decide)]
  have h4 : s4.rest [.regs, .pend, .tab, .tabBad, .isl, .ev, .rt, .ni, .port, .slice, .lk, .sb, .st, .tr, .sc, .pot, .pm, .latch, .dbgLatch, .chk, .wire, .cwire, .owed, .used] = s.rest [.regs, .pend, .tab, .tabBad, .isl, .ev, .rt, .ni, .port, .slice, .lk, .sb, .st, .tr, .sc, .pot, .pm, .latch, .dbgLatch, .chk, .wire, .cwire, .owed, .used] :=
    (foldl_rest _ _ _ (fun s e => State.clearLink_rest _ _ (by decide))).trans h3
  clear_value s1 s2 s3 s4
  split
  · rw [State.modIsl_rest _ _ _ (by decide), State.dropEvents_rest _ _ (by decide)]
    exact h4
  split
  · rw [State.dropEvents_rest _ _ (by decide), State.setSlice_rest _ _ _ (by decide), h1]
  split
  · exact h1
  split
  · exact h1
  split
  · exact h1
  split
  · exact h1
  split
  · exact h1
  · rw [State.dropEvents_rest _ _ (by decide),
      foldl_rest _ _ _ (fun s e => by rw [State.clearEnd_rest _ _ _ (by decide), State.setLk_rest _ _ _ _ (by decide)]), h1])

theorem State.reportKt_rest (s : State) (d : Nat) (k : FaultKind) {ps : List Part} (hps : Part.sub [.regs, .ni, .wakeQ] ps = true) : (State.reportKt s d k).rest ps = s.rest ps := Part.lift hps (by simp (disch := decide) only [State.reportKt, State.report_rest, State.rest_ite, ite_self, State.reportUp_rest])

theorem State.recPower_rest (s : State) (d : Nat) (dst : DomSt) (failed : Bool) {ps : List Part} (hps : Part.sub [.regs, .cd] ps = true) : (State.recPower s d dst failed).rest ps = s.rest ps := Part.lift hps (by simp (disch := decide) only [State.recPower, State.rest_ite, ite_self, State.cdWrite_rest])

theorem State.startRaise_rest (s : State) (d : Nat) (cg : Bool) (cause : Nat) (pended : Bool) {ps : List Part} (hps : Part.sub [.dom] ps = true) : (State.startRaise s d cg cause pended).rest ps = s.rest ps := Part.lift hps rfl

theorem State.wantOn_rest (s : State) (d cause : Nat) {ps : List Part} (hps : Part.sub [.regs, .dom] ps = true) : (State.wantOn s d cause).rest ps = s.rest ps := Part.lift hps (by
  simp only [State.wantOn]
  (repeat' split) <;> first | rfl | simp (disch := first | decide | (intros; simp (disch := decide) only [State.rest_ite, ite_self, foldl_rest, State.rest_regs, State.rest_dom, State.bump_rest, State.startRaise_rest, State.modDom_rest]; done) | fail) only [State.rest_ite, ite_self, foldl_rest, State.rest_regs, State.rest_dom, State.bump_rest, State.startRaise_rest, State.modDom_rest])

theorem State.wantCg_rest (s : State) (d : Nat) (off : Bool) {ps : List Part} (hps : Part.sub [.dom] ps = true) : (State.wantCg s d off).rest ps = s.rest ps := Part.lift hps (by simp (disch := decide) only [State.wantCg, State.rest_ite, ite_self, State.startRaise_rest])

theorem State.raiseRets_rest (s : State) {ps : List Part} (hps : Part.sub [.dom] ps = true) : (State.raiseRets s).rest ps = s.rest ps := Part.lift hps (by
  simp (disch := first | decide | (intros; simp (disch := decide) only [State.rest_ite, ite_self, foldl_rest, State.rest_dom, State.wantCg_rest]; done) | fail) only [State.raiseRets, foldl_rest, State.wantCg_rest])

theorem State.askFences_rest (s : State) (d : Nat) {ps : List Part} (hps : Part.sub [.rt, .dom] ps = true) : (State.askFences s d).rest ps = s.rest ps := Part.lift hps (by
  simp (disch := first | decide | (intros; simp (disch := decide) only [State.rest_ite, ite_self, foldl_rest, State.rest_rt, State.rest_dom, State.modDom_rest, State.modRt_rest, State.noteFence_rest]; done) | fail) only [State.askFences, foldl_rest, State.modDom_rest, State.rest_ite, ite_self, State.noteFence_rest, State.modRt_rest])

theorem State.startLower_rest (s : State) (d : Nat) (dst : DomSt) (commanded : Bool) {ps : List Part} (hps : Part.sub [.rt, .dom] ps = true) : (State.startLower s d dst commanded).rest ps = s.rest ps := Part.lift hps (by simp (disch := decide) only [State.startLower, State.rest_ite, ite_self, State.askFences_rest, State.modDom_rest])

theorem State.fatalEffects_rest (s : State) {ps : List Part} (hps : Part.sub [.pins, .regs, .cd] ps = true) : (State.fatalEffects s).rest ps = s.rest ps := Part.lift hps (by simp (disch := decide) only [State.fatalEffects, State.rest_ite, ite_self, State.rest_pins, State.modCd_rest, State.setFld_rest])

theorem State.saucerFail_rest (s : State) {ps : List Part} (hps : Part.sub [.port, .cd] ps = true) : (State.saucerFail s).rest ps = s.rest ps := Part.lift hps (by simp (disch := decide) only [State.saucerFail, State.rest_ite, ite_self, State.modCd_rest, State.setPort_rest])

theorem State.domFail_rest (s : State) (d : Nat) {ps : List Part} (hps : Part.sub [.pins, .regs, .pend, .tab, .tabBad, .isl, .ev, .rt, .ni, .port, .slice, .lk, .dom, .sb, .st, .cd, .tr, .sc, .pot, .pm, .latch, .dbgLatch, .chk, .seamDown, .wire, .cwire, .owed, .used, .held, .wakeQ] ps = true) : (State.domFail s d).rest ps = s.rest ps := Part.lift hps (by simp (disch := decide) only [State.domFail, State.rest_ite, ite_self, State.rest_wakeQ, State.tellFacing_rest, State.saucerFail_rest, State.reportKt_rest, State.modDom_rest, State.wr_rest, State.drainRelief_rest, State.startRaise_rest, State.holdPairs_rest, State.fatalEffects_rest, State.recPower_rest, State.loseUnits_rest, State.seamWatch_rest])

theorem State.applyReg_rest (s : State) (k : Nat) (v : W64) {ps : List Part} (hps : Part.sub [.regs, .pend, .ni] ps = true) : (State.applyReg s k v).rest ps = s.rest ps := Part.lift hps (by simp (disch := decide) only [State.applyReg, State.rest_ite, ite_self, State.dropPend_rest, State.wr_rest, State.modNi_rest])

theorem State.applyDue_rest (s : State) (own : Nat → Bool) {ps : List Part} (hps : Part.sub [.regs, .pend, .ni, .pot] ps = true) : (State.applyDue s own).rest ps = s.rest ps := Part.lift hps (by
  simp (disch := first | decide | (intros; (try dsimp only); (repeat' split) <;> first | (with_reducible rfl) | (simp (disch := decide) only [State.rest_ite, ite_self, foldl_rest, State.rest_regs_pend, State.rest_regs, State.rest_pend, State.rest_ni, State.rest_pot, State.applyReg_rest]; done) | fail) | fail) only [State.applyDue, foldl_rest, State.rest_pot, State.rest_ite, ite_self, State.rest_regs, State.rest_pend, State.rest_ni, State.applyReg_rest])

theorem State.nowOn_rest (s : State) (d : Nat) {ps : List Part} (hps : Part.sub [.regs, .tabBad, .ni, .port, .sb, .kt, .tr, .wire, .wakeQ] ps = true) : (State.nowOn s d).rest ps = s.rest ps := Part.lift hps (by
  simp (disch := first | decide | (intros; simp (disch := decide) only [State.rest_ite, ite_self, foldl_rest, State.rest_regs, State.rest_tabBad, State.rest_ni, State.rest_port, State.rest_sb, State.rest_kt, State.rest_tr, State.rest_wire, State.rest_wakeQ, State.modKt_rest, State.sbWoken_rest, State.admitHeld_rest, State.serveComps_rest]; done) | fail) only [State.nowOn, State.rest_ite, ite_self, foldl_rest, State.rest_tr, State.modKt_rest, State.sbWoken_rest, State.rest_regs, State.rest_tabBad, State.rest_ni, State.rest_port, State.rest_sb, State.rest_kt, State.rest_wire, State.rest_wakeQ, State.admitHeld_rest, State.serveComps_rest])

theorem State.raised_rest (s : State) (d : Nat) {ps : List Part} (hps : Part.sub [.regs, .pend, .tabBad, .rt, .ni, .port, .slice, .lk, .dom, .sb, .kt, .cd, .tr, .pot, .seamDown, .wire, .owed, .held, .wakeQ] ps = true) : (State.raised s d).rest ps = s.rest ps := Part.lift hps (by
  simp only [State.raised]
  simp (disch := decide) only [State.rest_ite, ite_self, State.snapRaise_rest, State.applyDue_rest, State.recPower_rest, State.seamWatch_rest, State.modDom_rest, State.releasePairs_rest, State.bump_rest, State.setFld_rest, State.modSb_rest, State.sbAwake_rest, State.tellFacing_rest, State.nowOn_rest])

theorem execWakeRequest_rest (s : State) {ps : List Part} (hps : Part.sub [.regs, .dom, .wakeQ] ps = true) : ∃ s', execWakeRequest s = .next s' ∧ s'.rest ps = s.rest ps := by
  unfold execWakeRequest
  (repeat' split) <;> exact ⟨_, rfl, Part.lift hps (by first | rfl | simp (disch := decide) only [State.rest_wakeQ, State.wantOn_rest])⟩

theorem execDomainRaiseDone_rest (d : Fin 72) (ok : Bool) (s : State) {ps : List Part} (hps : Part.sub [.pins, .regs, .pend, .tab, .tabBad, .isl, .ev, .rt, .ni, .port, .slice, .lk, .dom, .sb, .kt, .st, .cd, .tr, .sc, .pot, .pm, .latch, .dbgLatch, .chk, .seamDown, .wire, .cwire, .owed, .used, .held, .wakeQ] ps = true) : ∃ s', execDomainRaiseDone d ok s = .next s' ∧ s'.rest ps = s.rest ps := by
  simp only [execDomainRaiseDone]
  (repeat' split) <;> exact ⟨_, rfl, Part.lift hps (by simp (disch := first | decide | (intros; simp (disch := decide) only [State.rest_ite, ite_self, foldl_rest, State.rest_tab_chk, State.rest_tab_tabBad, State.rest_tab_tabBad_chk, State.rest_tab_tabBad_ev, State.rest_regs_pend, State.rest_regs_pend_latch_chk, State.rest_pins, State.rest_regs, State.rest_pend, State.rest_tab, State.rest_tabBad, State.rest_isl, State.rest_ev, State.rest_rt, State.rest_ni, State.rest_port, State.rest_slice, State.rest_lk, State.rest_dom, State.rest_sb, State.rest_kt, State.rest_st, State.rest_cd, State.rest_tr, State.rest_sc, State.rest_pot, State.rest_pm, State.rest_latch, State.rest_chk, State.rest_wire, State.rest_cwire, State.rest_owed, State.rest_used, State.rest_held, State.rest_wakeQ, State.raised_rest, State.domFail_rest, State.rest_dbgLatch, State.rest_seamDown]; done) | fail) only [State.raised_rest, State.domFail_rest, State.rest_ite, ite_self])⟩

theorem execDomainPowered_rest (d : Fin 72) (s : State) {ps : List Part} (hps : Part.sub [.regs, .rt, .ni, .lk, .dom, .cd, .seamDown, .wire, .owed, .held, .wakeQ] ps = true) : ∃ s', execDomainPowered d s = .next s' ∧ s'.rest ps = s.rest ps := by
  simp only [execDomainPowered]
  repeat' (first | (with_reducible rfl) | assumption | (refine ⟨_, rfl, Part.lift hps ?_⟩) | (simp (disch := first | decide | (intros; (try dsimp only); (repeat' split) <;> first | (with_reducible rfl) | (simp (disch := decide) only [State.rest_ite, ite_self, foldl_rest, State.rest_regs, State.rest_rt, State.rest_ni, State.rest_dom, State.rest_owed, State.rest_held, State.rest_wakeQ, State.giveNbr_rest, State.releasePairs_rest, State.modDom_rest, State.rest_lk, State.rest_cd, State.rest_seamDown, State.rest_wire, State.sendNbr_rest]; done) | fail) | fail) only [foldl_rest, State.releasePairs_rest, State.modDom_rest, State.rest_ite, ite_self, State.giveNbr_rest, State.sendNbr_rest]; done) | (show Part.sub _ _ = true; first | decide | exact Part.sub_trans (by decide) hps) | (refine (foldl_rest _ _ _ ?_).trans ?_) | (intro _ _; refine Part.lift hps ?_; try dsimp only) | (intro _ _; try dsimp only) | (intro _; try dsimp only) | split | (simp (disch := first | decide | (intros; (try dsimp only); (repeat' split) <;> first | (with_reducible rfl) | (simp (disch := decide) only [State.rest_ite, ite_self, foldl_rest, State.rest_regs, State.rest_rt, State.rest_ni, State.rest_dom, State.rest_owed, State.rest_held, State.rest_wakeQ, State.giveNbr_rest, State.releasePairs_rest, State.modDom_rest, State.rest_lk, State.rest_cd, State.rest_seamDown, State.rest_wire, State.sendNbr_rest]; done) | fail) | fail) only [State.rest_ite, ite_self, foldl_rest, State.rest_regs, State.rest_rt, State.rest_ni, State.rest_dom, State.rest_owed, State.rest_held, State.rest_wakeQ, State.giveNbr_rest, State.releasePairs_rest, State.modDom_rest, State.rest_lk, State.rest_cd, State.rest_seamDown, State.rest_wire, State.sendNbr_rest]) | (dsimp only) | rfl)

theorem execIdleIntervalEnd_rest (d : Fin 72) (s : State) {ps : List Part} (hps : Part.sub [.rt, .dom] ps = true) : ∃ s', execIdleIntervalEnd d s = .next s' ∧ s'.rest ps = s.rest ps := by
  simp only [execIdleIntervalEnd]
  (repeat' split) <;> exact ⟨_, rfl, Part.lift hps (by simp (disch := first | decide | (intros; simp (disch := decide) only [State.rest_ite, ite_self, foldl_rest, State.rest_rt, State.rest_dom, State.startLower_rest]; done) | fail) only [State.startLower_rest, State.rest_ite, ite_self])⟩

theorem execDomainBusyChange_rest (d : Fin 72) (s : State) {ps : List Part} (hps : Part.sub [.dom, .kt] ps = true) : ∃ s', execDomainBusyChange d s = .next s' ∧ s'.rest ps = s.rest ps := by
  simp only [execDomainBusyChange]
  (repeat' split) <;> exact ⟨_, rfl, Part.lift hps (by simp (disch := first | decide | (intros; simp (disch := decide) only [State.rest_ite, ite_self, foldl_rest, State.rest_dom, State.rest_kt, State.modKt_rest, State.modDom_rest]; done) | fail) only [State.modKt_rest, State.modDom_rest, State.rest_ite, ite_self])⟩

theorem State.writeRest_rest (s : State) (d : Nat) (r : DomSt) {ps : List Part} (hps : Part.sub [.regs, .rt, .ni, .dom, .wakeQ] ps = true) : (State.writeRest s d r).rest ps = s.rest ps := Part.lift hps (by
  simp only [State.writeRest]
  (repeat' split) <;> first | rfl | simp (disch := first | decide | (intros; simp (disch := decide) only [State.rest_ite, ite_self, foldl_rest, State.rest_regs, State.rest_rt, State.rest_ni, State.rest_dom, State.reportKt_rest, State.startRaise_rest, State.setFld_rest, State.wantOn_rest, State.startLower_rest, State.rest_wakeQ]; done) | fail) only [State.reportKt_rest, State.setFld_rest, State.wantOn_rest, State.rest_ite, ite_self, State.startRaise_rest, State.startLower_rest])

theorem execKtRestWrite_rest (d : Fin 72) (rest : Fin 4) (s : State) {ps : List Part} (hps : Part.sub [.regs, .rt, .ni, .dom, .wakeQ] ps = true) : ∃ s', execKtRestWrite d rest s = .next s' ∧ s'.rest ps = s.rest ps := by
  unfold execKtRestWrite
  (repeat' split) <;> exact ⟨_, rfl, Part.lift hps (by first | rfl | simp (disch := decide) only [State.writeRest_rest])⟩

theorem State.writeGtMask_rest (s : State) (k : Nat) (mask : W64) {ps : List Part} (hps : Part.sub [.regs, .ni, .dom, .wakeQ] ps = true) : (State.writeGtMask s k mask).rest ps = s.rest ps := Part.lift hps (by
  simp (disch := first | decide | (intros; simp (disch := decide) only [State.rest_ite, ite_self, foldl_rest, State.rest_regs, State.rest_ni, State.rest_dom, State.wantCg_rest, State.reportKt_rest, State.setFld_rest, State.wr_rest, State.rest_wakeQ]; done) | fail) only [State.writeGtMask, foldl_rest, State.wr_rest, State.rest_ite, ite_self, State.setFld_rest, State.wantCg_rest, State.reportKt_rest])

theorem execKtGtMaskWrite_rest (k : Fin 2) (mask : W64) (s : State) {ps : List Part} (hps : Part.sub [.regs, .ni, .dom, .wakeQ] ps = true) : ∃ s', execKtGtMaskWrite k mask s = .next s' ∧ s'.rest ps = s.rest ps := by
  unfold execKtGtMaskWrite
  (repeat' split) <;> exact ⟨_, rfl, Part.lift hps (by first | rfl | simp (disch := decide) only [State.writeGtMask_rest])⟩

theorem State.cutLeaves_rest (s : State) (i : Nat) {ps : List Part} (hps : Part.sub [.regs, .tabBad, .ni, .wakeQ] ps = true) : (State.cutLeaves s i).rest ps = s.rest ps := by
  unfold State.cutLeaves
  refine foldl_rest _ _ _ (fun s n => foldl_rest _ _ _ (fun s e => ?_))
  split <;> first | rfl | exact State.cutLeaf_rest _ _ _ _ hps

theorem execLowerDrainDone_rest (d : Fin 72) (s : State) {ps : List Part} (hps : Part.sub [.regs, .tabBad, .rt, .ni, .dom, .wakeQ] ps = true) : ∃ s', execLowerDrainDone d s = .next s' ∧ s'.rest ps = s.rest ps := by
  simp only [execLowerDrainDone]
  (repeat' split) <;> exact ⟨_, rfl, Part.lift hps (by simp (disch := first | decide | (intros; simp (disch := decide) only [State.rest_ite, ite_self, foldl_rest, State.rest_rt, State.rest_dom, State.askFences_rest, State.modDom_rest, State.rest_regs, State.rest_tabBad, State.rest_ni, State.rest_wakeQ, State.cutLeaves_rest]; done) | fail) only [State.askFences_rest, State.modDom_rest, State.rest_ite, ite_self, State.cutLeaves_rest])⟩

theorem execDomainFencesClosed_rest (d : Fin 72) (s : State) {ps : List Part} (hps : Part.sub [.ni, .dom, .wakeQ] ps = true) : ∃ s', execDomainFencesClosed d s = .next s' ∧ s'.rest ps = s.rest ps := by
  simp only [execDomainFencesClosed]
  (repeat' split) <;> exact ⟨_, rfl, Part.lift hps (by simp (disch := first | decide | (intros; simp (disch := decide) only [State.rest_ite, ite_self, foldl_rest, State.rest_ni, State.rest_dom, State.modDom_rest, State.takeImages_rest, State.rest_wakeQ]; done) | fail) only [State.modDom_rest, State.takeImages_rest, State.rest_ite, ite_self])⟩

theorem execDomainLowerDone_rest (d : Fin 72) (s : State) {ps : List Part} (hps : Part.sub [.regs, .pend, .tab, .tabBad, .isl, .ev, .rt, .ni, .port, .slice, .lk, .dom, .sb, .st, .cd, .tr, .sc, .pot, .pm, .latch, .dbgLatch, .chk, .wire, .cwire, .owed, .used, .held, .wakeQ] ps = true) : ∃ s', execDomainLowerDone d s = .next s' ∧ s'.rest ps = s.rest ps := by
  simp only [execDomainLowerDone]
  (repeat' split) <;> exact ⟨_, rfl, Part.lift hps (by simp (disch := first | decide | (intros; simp (disch := decide) only [State.rest_ite, ite_self, foldl_rest, State.rest_regs, State.rest_pend, State.rest_tab, State.rest_tabBad, State.rest_isl, State.rest_ev, State.rest_rt, State.rest_ni, State.rest_port, State.rest_slice, State.rest_lk, State.rest_dom, State.rest_sb, State.rest_st, State.rest_cd, State.rest_tr, State.rest_sc, State.rest_pot, State.rest_pm, State.rest_latch, State.rest_dbgLatch, State.rest_chk, State.rest_wire, State.rest_cwire, State.rest_owed, State.rest_used, State.rest_held, State.rest_wakeQ, State.recPower_rest, State.bump_rest, State.traceStop_rest, State.modDom_rest, State.loseUnits_rest, State.holdPairs_rest, State.modIsl_rest, State.tellFacing_rest, State.startRaise_rest, State.wantCg_rest]; done) | fail) only [State.rest_ite, ite_self, State.recPower_rest, State.bump_rest, State.traceStop_rest, State.modDom_rest, State.loseUnits_rest, State.holdPairs_rest, State.modIsl_rest, State.tellFacing_rest, State.startRaise_rest, State.wantCg_rest])⟩

theorem execDomainStepTimeout_rest (d : Fin 72) (s : State) {ps : List Part} (hps : Part.sub [.pins, .regs, .pend, .tab, .tabBad, .isl, .ev, .rt, .ni, .port, .slice, .lk, .dom, .sb, .st, .cd, .tr, .sc, .pot, .pm, .latch, .dbgLatch, .chk, .seamDown, .wire, .cwire, .owed, .used, .held, .wakeQ] ps = true) : ∃ s', execDomainStepTimeout d s = .next s' ∧ s'.rest ps = s.rest ps := by
  simp only [execDomainStepTimeout]
  (repeat' split) <;> exact ⟨_, rfl, Part.lift hps (by simp (disch := first | decide | (intros; simp (disch := decide) only [State.rest_ite, ite_self, foldl_rest, State.rest_tab_chk, State.rest_tab_tabBad, State.rest_tab_tabBad_chk, State.rest_tab_tabBad_ev, State.rest_regs_pend, State.rest_regs_pend_latch_chk, State.rest_pins, State.rest_regs, State.rest_pend, State.rest_tab, State.rest_tabBad, State.rest_isl, State.rest_ev, State.rest_rt, State.rest_ni, State.rest_port, State.rest_slice, State.rest_lk, State.rest_dom, State.rest_sb, State.rest_st, State.rest_cd, State.rest_tr, State.rest_sc, State.rest_pot, State.rest_pm, State.rest_latch, State.rest_chk, State.rest_wire, State.rest_cwire, State.rest_owed, State.rest_used, State.rest_held, State.rest_wakeQ, State.domFail_rest, State.rest_dbgLatch, State.rest_seamDown]; done) | fail) only [State.domFail_rest, State.rest_ite, ite_self])⟩

theorem execSideChannelMessage_rest (ok : Bool) (s : State) {ps : List Part} (hps : Part.sub [.regs, .ni, .kt, .wakeQ] ps = true) : ∃ s', execSideChannelMessage ok s = .next s' ∧ s'.rest ps = s.rest ps := by
  simp only [execSideChannelMessage]
  (repeat' split) <;> exact ⟨_, rfl, Part.lift hps (by simp (disch := first | decide | (intros; simp (disch := decide) only [State.rest_ite, ite_self, foldl_rest, State.rest_regs, State.rest_ni, State.rest_kt, State.bump_rest, State.modKt_rest, State.report_rest, State.setFld_rest, State.rest_wakeQ, State.reportUp_rest]; done) | fail) only [State.bump_rest, State.modKt_rest, State.report_rest, State.setFld_rest, State.rest_ite, ite_self, State.reportUp_rest])⟩

theorem State.modSt_rest (s : State) (f : Strainer → Strainer) {ps : List Part} (hps : Part.sub [.st] ps = true) : (State.modSt s f).rest ps = s.rest ps := Part.lift hps rfl

theorem State.putShadow_rest (s : State) (n bank : Nat) (l : List (Nat × W64)) {ps : List Part} (hps : Part.sub [.tab, .tabBad, .chk] ps = true) : (State.putShadow s n bank l).rest ps = s.rest ps := Part.lift hps (by
  simp (disch := first | decide | (intros; simp (disch := decide) only [State.rest_ite, ite_self, foldl_rest, State.rest_tab_chk, State.rest_tab_tabBad, State.rest_tab_tabBad_chk, State.rest_tab, State.rest_tabBad, State.rest_chk, State.setTab_rest]; done) | fail) only [State.putShadow, foldl_rest, State.rest_tab_tabBad_chk, State.rest_ite, ite_self, State.rest_tab, State.rest_tabBad, State.rest_chk, State.setTab_rest])

theorem State.pushShadow_rest (s : State) (n : Nat) (l : List (Nat × W64)) {ps : List Part} (hps : Part.sub [.tab, .tabBad, .chk] ps = true) : (State.pushShadow s n l).rest ps = s.rest ps := Part.lift hps (by simp (disch := decide) only [State.pushShadow, State.rest_ite, ite_self, State.putShadow_rest])

theorem State.reportSt_rest (s : State) (k : FaultKind) (what : Nat) {ps : List Part} (hps : Part.sub [.regs, .ni, .wakeQ] ps = true) : (State.reportSt s k what).rest ps = s.rest ps := Part.lift hps (by simp (disch := decide) only [State.reportSt, State.report_rest, State.reportUp_rest])

theorem State.lockedWrite_rest (s : State) (o : Nat) {ps : List Part} (hps : Part.sub [.regs, .ni, .wakeQ] ps = true) : (State.lockedWrite s o).rest ps = s.rest ps := Part.lift hps (by simp (disch := decide) only [State.lockedWrite, State.reportSt_rest])

theorem State.endCommit_rest (s : State) (result : Nat) {ps : List Part} (hps : Part.sub [.regs, .kt, .st] ps = true) : (State.endCommit s result).rest ps = s.rest ps := Part.lift hps (by simp (disch := decide) only [State.endCommit, State.modSt_rest, State.modKt_rest, State.setFld_rest])

theorem State.endWindow_rest (s : State) {ps : List Part} (hps : Part.sub [.regs, .ni, .kt, .st, .wakeQ] ps = true) : (State.endWindow s).rest ps = s.rest ps := Part.lift hps (by simp (disch := decide) only [State.endWindow, State.rest_ite, ite_self, State.reportSt_rest, State.setFld_rest, State.endCommit_rest])

theorem State.startCommit_rest (s : State) {ps : List Part} (hps : Part.sub [.regs, .st] ps = true) : (State.startCommit s).rest ps = s.rest ps := Part.lift hps (by simp (disch := decide) only [State.startCommit, State.rest_ite, ite_self, State.modSt_rest, State.setFld_rest])

theorem execStCommit_rest (s : State) {ps : List Part} (hps : Part.sub [.regs, .ni, .st, .wakeQ] ps = true) : ∃ s', execStCommit s = .next s' ∧ s'.rest ps = s.rest ps := by
  unfold execStCommit
  (repeat' split) <;> exact ⟨_, rfl, Part.lift hps (by first | rfl | simp (disch := decide) only [State.startCommit_rest, State.lockedWrite_rest, State.rest_ite, ite_self])⟩

theorem execStCheckEnd_rest (s : State) {ps : List Part} (hps : Part.sub [.regs, .ni, .dom, .kt, .st, .wakeQ] ps = true) : ∃ s', execStCheckEnd s = .next s' ∧ s'.rest ps = s.rest ps := by
  unfold execStCheckEnd
  (repeat' split) <;> exact ⟨_, rfl, Part.lift hps (by simp (disch := first | decide | (intros; simp (disch := decide) only [State.rest_ite, ite_self, foldl_rest, State.rest_regs, State.rest_ni, State.rest_dom, State.rest_kt, State.rest_st, State.modSt_rest, State.modKt_rest, State.endCommit_rest, State.reportSt_rest, State.raiseRets_rest, State.wr_rest, State.rest_wakeQ]; done) | fail) only [State.modSt_rest, State.modKt_rest, State.endCommit_rest, State.reportSt_rest, State.raiseRets_rest, State.wr_rest, State.rest_ite, ite_self])⟩

theorem State.writeGates_rest (s : State) {ps : List Part} (hps : Part.sub [.regs, .st, .pot] ps = true) : (State.writeGates s).rest ps = s.rest ps := Part.lift hps (by
  simp (disch := first | decide | (intros; simp (disch := decide) only [State.rest_ite, ite_self, foldl_rest, State.rest_regs, State.rest_st, State.rest_pot, State.modSt_rest, State.wr_rest]; done) | fail) only [State.writeGates, foldl_rest, State.modSt_rest, State.rest_pot, State.wr_rest])

theorem execStRaiseEnd_rest (s : State) {ps : List Part} (hps : Part.sub [.regs, .ni, .st, .pot] ps = true) : ∃ s', execStRaiseEnd s = .next s' ∧ s'.rest ps = s.rest ps := by
  unfold execStRaiseEnd
  (repeat' split) <;> exact ⟨_, rfl, Part.lift hps (by simp (disch := first | decide | (intros; simp (disch := decide) only [State.rest_ite, ite_self, foldl_rest, State.rest_regs, State.rest_ni, State.rest_st, State.rest_pot, State.modSt_rest, State.markStale_rest, State.writeGates_rest, State.setFld_rest]; done) | fail) only [foldl_rest, State.modSt_rest, State.writeGates_rest, State.setFld_rest, State.rest_ite, ite_self, State.markStale_rest])⟩

theorem execStHold_rest (n : Fin 256) (s : State) {ps : List Part} (hps : Part.sub [.ni] ps = true) : ∃ s', execStHold n s = .next s' ∧ s'.rest ps = s.rest ps := by
  unfold execStHold
  (repeat' split) <;> exact ⟨_, rfl, Part.lift hps (by first | rfl | simp (disch := decide) only [State.rest_ite, ite_self, foldl_rest, State.rest_ni, State.modNi_rest])⟩

theorem execStHoldDone_rest (s : State) {ps : List Part} (hps : Part.sub [.st] ps = true) : ∃ s', execStHoldDone s = .next s' ∧ s'.rest ps = s.rest ps := by
  unfold execStHoldDone
  (repeat' split) <;> exact ⟨_, rfl, Part.lift hps (by first | rfl | simp (disch := decide) only [State.rest_ite, ite_self, foldl_rest, State.rest_st, State.modSt_rest])⟩

theorem execStPushEnd_rest (bad : List (Fin 256)) (ue : Bool) (s : State) {ps : List Part} (hps : Part.sub [.regs, .pend, .tab, .tabBad, .ni, .st, .chk, .wakeQ] ps = true) : ∃ s', execStPushEnd bad ue s = .next s' ∧ s'.rest ps = s.rest ps := by
  unfold execStPushEnd
  (repeat' split) <;> exact ⟨_, rfl, Part.lift hps (by simp (disch := first | decide | (intros; simp (disch := decide) only [State.rest_ite, ite_self, foldl_rest, State.rest_tab_chk, State.rest_tab_tabBad, State.rest_tab_tabBad_chk, State.rest_regs_pend, State.rest_regs, State.rest_pend, State.rest_tab, State.rest_tabBad, State.rest_ni, State.rest_st, State.rest_chk, State.modSt_rest, State.pushShadow_rest, State.reportSt_rest, State.dropPend_rest, State.setFld_rest, State.wr_rest, State.rest_wakeQ]; done) | fail) only [foldl_rest, State.modSt_rest, State.reportSt_rest, State.setFld_rest, State.rest_ite, ite_self, State.pushShadow_rest, State.wr_rest, State.dropPend_rest])⟩

theorem execStRelease_rest (n : Fin 256) (s : State) {ps : List Part} (hps : Part.sub [.regs, .tabBad, .ni, .port, .kt, .st, .wire, .wakeQ] ps = true) : ∃ s', execStRelease n s = .next s' ∧ s'.rest ps = s.rest ps := by
  unfold execStRelease
  (repeat' split) <;> exact ⟨_, rfl, Part.lift hps (by first | rfl | simp (disch := decide) only [State.modSt_rest, State.endWindow_rest, State.modNi_rest, State.checkHeld_rest, State.serveComps_rest, State.rest_ite, ite_self])⟩

theorem State.leaveParts_rest (s : State) (l : List Nat) {ps : List Part} (hps : Part.sub [.regs, .ni, .st] ps = true) : (State.leaveParts s l).rest ps = s.rest ps := Part.lift hps (by
  simp (disch := first | decide | (intros; simp (disch := decide) only [State.rest_ite, ite_self, foldl_rest, State.rest_regs, State.rest_ni, State.rest_st, State.modSt_rest, State.markStale_rest, State.modNi_rest]; done) | fail) only [State.leaveParts, foldl_rest, State.modNi_rest, State.markStale_rest, State.modSt_rest])

theorem execStWindowLimit_rest (s : State) {ps : List Part} (hps : Part.sub [.regs, .ni, .kt, .st, .wakeQ] ps = true) : ∃ s', execStWindowLimit s = .next s' ∧ s'.rest ps = s.rest ps := by
  simp only [execStWindowLimit]
  (repeat' split) <;> exact ⟨_, rfl, Part.lift hps (by simp (disch := first | decide | (intros; simp (disch := decide) only [State.rest_ite, ite_self, foldl_rest, State.rest_regs, State.rest_ni, State.rest_kt, State.rest_st, State.reportSt_rest, State.leaveParts_rest, State.endWindow_rest, State.rest_wakeQ]; done) | fail) only [State.reportSt_rest, State.leaveParts_rest, State.endWindow_rest, State.rest_ite, ite_self])⟩

theorem execStStaleRetry_rest (n : Fin 256) (s : State) {ps : List Part} (hps : Part.sub [.ni, .wakeQ] ps = true) : ∃ s', execStStaleRetry n s = .next s' ∧ s'.rest ps = s.rest ps := by
  unfold execStStaleRetry
  (repeat' split) <;> exact ⟨_, rfl, Part.lift hps (by first | rfl | simp (disch := decide) only [State.rest_ite, ite_self, foldl_rest, State.rest_ni, State.rest_wakeQ, State.askWake_rest, State.modNi_rest])⟩

theorem State.reloadShadow_rest (s : State) (n : Nat) {ps : List Part} (hps : Part.sub [.regs, .tab, .tabBad, .ni, .port, .st, .chk, .wire, .wakeQ] ps = true) : (State.reloadShadow s n).rest ps = s.rest ps := Part.lift hps (by simp (disch := decide) only [State.reloadShadow, State.modSt_rest, State.pushShadow_rest, State.wr_rest, State.modNi_rest, State.checkHeld_rest, State.serveComps_rest])

theorem execStShadowReloadDone_rest (n : Fin 256) (ok : Bool) (s : State) {ps : List Part} (hps : Part.sub [.regs, .tab, .tabBad, .ni, .port, .st, .chk, .wire, .wakeQ] ps = true) : ∃ s', execStShadowReloadDone n ok s = .next s' ∧ s'.rest ps = s.rest ps := by
  unfold execStShadowReloadDone
  (repeat' split) <;> exact ⟨_, rfl, Part.lift hps (by first | rfl | simp (disch := decide) only [State.rest_ite, ite_self, State.modSt_rest, State.reloadShadow_rest, State.modNi_rest, State.reportSt_rest])⟩

theorem State.setLock_rest (s : State) {ps : List Part} (hps : Part.sub [.regs, .st] ps = true) : (State.setLock s).rest ps = s.rest ps := Part.lift hps (by simp (disch := decide) only [State.setLock, State.rest_ite, ite_self, State.modSt_rest, State.setFld_rest])

theorem execStLockWrite_rest (s : State) {ps : List Part} (hps : Part.sub [.regs, .st] ps = true) : ∃ s', execStLockWrite s = .next s' ∧ s'.rest ps = s.rest ps := by
  unfold execStLockWrite
  (repeat' split) <;> exact ⟨_, rfl, Part.lift hps (by first | rfl | simp (disch := decide) only [State.setLock_rest])⟩

theorem State.writeMode_rest (s : State) (m : Nat) {ps : List Part} (hps : Part.sub [.regs, .ni, .wakeQ] ps = true) : (State.writeMode s m).rest ps = s.rest ps := Part.lift hps (by simp (disch := decide) only [State.writeMode, State.rest_ite, ite_self, State.lockedWrite_rest, State.setFld_rest])

theorem execStModeWrite_rest (mode : Fin 4) (s : State) {ps : List Part} (hps : Part.sub [.regs, .ni, .wakeQ] ps = true) : ∃ s', execStModeWrite mode s = .next s' ∧ s'.rest ps = s.rest ps := by
  unfold execStModeWrite
  (repeat' split) <;> exact ⟨_, rfl, Part.lift hps (by first | rfl | simp (disch := decide) only [State.writeMode_rest])⟩

theorem State.modPot_rest (s : State) (f : Pot → Pot) {ps : List Part} (hps : Part.sub [.pot] ps = true) : (State.modPot s f).rest ps = s.rest ps := Part.lift hps rfl

theorem State.potSend_rest (s : State) (r : Req) {ps : List Part} (hps : Part.sub [.regs, .tabBad, .ni, .wakeQ] ps = true) : (State.potSend s r).rest ps = s.rest ps := Part.lift hps (by simp (disch := decide) only [State.potSend, State.presentReq_rest])

theorem State.potIrq_rest (s : State) (addr data ident : Nat) {ps : List Part} (hps : Part.sub [.regs, .tabBad, .ni, .wakeQ] ps = true) : (State.potIrq s addr data ident).rest ps = s.rest ps := Part.lift hps (by simp (disch := decide) only [State.potIrq, State.potSend_rest])

theorem State.potLine_rest (s : State) (addr ident : Nat) (ws : List W64) {ps : List Part} (hps : Part.sub [.regs, .tabBad, .ni, .wakeQ] ps = true) : (State.potLine s addr ident ws).rest ps = s.rest ps := Part.lift hps (by simp (disch := decide) only [State.potLine, State.potSend_rest])

theorem State.unitMgt_rest (s : State) (n dest opcode : Nat) (ws : List W64) {ps : List Part} (hps : Part.sub [.ni] ps = true) : (State.unitMgt s n dest opcode ws).rest ps = s.rest ps := Part.lift hps rfl

theorem State.takeComp_eq (s : State) (n ident : Nat) {r0 : Completion} {r1 : State} {ps : List Part} (hr : State.takeComp s n ident = some (r0, r1)) (hps : Part.sub [.ni] ps = true) : r1.rest ps = s.rest ps := Part.lift hps (by
  unfold State.takeComp at hr
  (repeat' split at hr) <;> (try cases hr) <;> first | rfl | contradiction | simp (disch := decide) only [State.rest_ite, ite_self, foldl_rest, State.rest_ni, State.modNi_rest])

theorem State.reportPot_rest (s : State) (k : FaultKind) (what low : Nat) {ps : List Part} (hps : Part.sub [.regs, .ni, .wakeQ] ps = true) : (State.reportPot s k what low).rest ps = s.rest ps := Part.lift hps (by simp (disch := decide) only [State.reportPot, State.report_rest, State.reportUp_rest])

theorem State.recEpoch_rest (s : State) (step number : Nat) (id : W64) (T : Nat) {ps : List Part} (hps : Part.sub [.regs, .cd] ps = true) : (State.recEpoch s step number id T).rest ps = s.rest ps := Part.lift hps (by simp (disch := decide) only [State.recEpoch, State.cdWrite_rest])

theorem State.modCmd_rest (s : State) (c : Nat) (f : PotCmd → PotCmd) {ps : List Part} (hps : Part.sub [.pot] ps = true) : (State.modCmd s c f).rest ps = s.rest ps := Part.lift hps rfl

theorem State.potDone_rest (s : State) (c code : Nat) (rsp : List W64) {ps : List Part} (hps : Part.sub [.pot] ps = true) : (State.potDone s c code rsp).rest ps = s.rest ps := Part.lift hps rfl

theorem State.runCmd_rest (s : State) (c op : Nat) (k : PotCmd → State) {ps : List Part} (hps : Part.sub [] ps = true) (hf : ∀ x, (k x).rest ps = s.rest ps) : (State.runCmd s c op k).rest ps = s.rest ps := by
  simp only [State.runCmd]
  (repeat' split) <;> first | rfl | exact hf _

theorem State.startCmd_rest (s : State) (c : Nat) {ps : List Part} (hps : Part.sub [.pot] ps = true) : (State.startCmd s c).rest ps = s.rest ps := Part.lift hps rfl

theorem State.fwNote_rest (s : State) (l : List (Nat × W64)) {ps : List Part} (hps : Part.sub [.pot] ps = true) : (State.fwNote s l).rest ps = s.rest ps := Part.lift hps rfl

theorem State.fwDue_rest (s : State) (l : List (Nat × W64)) {ps : List Part} (hps : Part.sub [.pot] ps = true) : (State.fwDue s l).rest ps = s.rest ps := Part.lift hps rfl

theorem State.overRange_rest (s : State) (c : Nat) (l : List Nat) (note : Nat → List (Nat × W64)) (f : State → Nat → State) (rsp1 : List W64) {ps : List Part} (hps : Part.sub [.pot] ps = true) (hf : ∀ s n, (f s n).rest ps = s.rest ps) : (State.overRange s c l note f rsp1).rest ps = s.rest ps := by
  simp only [State.overRange]
  rw [State.potDone_rest _ _ _ _ (Part.sub_trans (by decide) hps), foldl_rest _ _ _ hf, foldl_rest]
  intro s n
  split
  · exact State.fwNote_rest _ _ (Part.sub_trans (by decide) hps)
  · rw [State.fwDue_rest _ _ (Part.sub_trans (by decide) hps), State.fwNote_rest _ _ (Part.sub_trans (by decide) hps)]

theorem State.sendPiece_rest (s : State) (n : Nat) (w : Waiting) (p : Piece) {ps : List Part} (hps : Part.sub [.regs, .ni] ps = true) : (State.sendPiece s n w p).rest ps = s.rest ps := Part.lift hps (by
  simp only [State.sendPiece]
  (repeat' split) <;> first | rfl | simp (disch := first | decide | (intros; simp (disch := decide) only [State.rest_ite, ite_self, foldl_rest, State.rest_regs, State.rest_ni, State.leafSample_rest, State.evNi_rest, State.enqueue_rest, State.modNi_rest, State.takeTag_rest]; done) | fail) only [State.leafSample_rest, State.evNi_rest, State.enqueue_rest, State.modNi_rest, State.takeTag_rest, State.rest_ite, ite_self])

theorem execNiTagAllocate_rest (n : Fin 256) (s : State) {ps : List Part} (hps : Part.sub [.regs, .ni] ps = true) : ∃ s', execNiTagAllocate n s = .next s' ∧ s'.rest ps = s.rest ps := by
  unfold execNiTagAllocate
  (repeat' split) <;> exact ⟨_, rfl, Part.lift hps (by first | rfl | simp (disch := decide) only [State.evNi_rest, State.sendPiece_rest, State.modNi_rest, State.rest_ite, ite_self])⟩

theorem State.fenceTo_rest (s : State) (n : Nat) (f : Held) (x pri colour h : Nat) {ps : List Part} (hps : Part.sub [.regs, .ni] ps = true) : (State.fenceTo s n f x pri colour h).rest ps = s.rest ps := Part.lift hps (by
  simp only [State.fenceTo]
  (repeat' split) <;> first | rfl | simp (disch := first | decide | (intros; simp (disch := decide) only [State.rest_ite, ite_self, foldl_rest, State.rest_regs, State.rest_ni, State.pieceDone_rest, State.noRoute_rest, State.evNi_rest, State.modNi_rest, State.bump_rest]; done) | fail) only [State.pieceDone_rest, State.noRoute_rest, State.evNi_rest, State.modNi_rest, State.bump_rest, State.rest_ite, ite_self])

theorem execNiFenceAdmit_rest (n : Fin 256) (err : ReadErr) (s : State) {ps : List Part} (hps : Part.sub [.regs, .tabBad, .ni, .port, .wire, .wakeQ] ps = true) : ∃ s', execNiFenceAdmit n err s = .next s' ∧ s'.rest ps = s.rest ps := by
  simp only [execNiFenceAdmit]
  (repeat' split) <;> exact ⟨_, rfl, Part.lift hps (by simp (disch := first | decide | (intros; simp (disch := decide) only [State.rest_ite, ite_self, foldl_rest, State.rest_regs, State.rest_tabBad, State.rest_ni, State.rest_port, State.rest_wire, State.rest_wakeQ, State.tableErr_rest, State.fenceTo_rest, State.meterStep_rest, State.modNi_rest, State.localDone_rest, State.serveComps_rest]; done) | fail) only [foldl_rest, State.tableErr_rest, State.meterStep_rest, State.modNi_rest, State.localDone_rest, State.serveComps_rest, State.rest_ite, ite_self, State.fenceTo_rest])⟩

theorem State.answerNoRoute_rest (s : State) (n : Nat) (a : Answer) {ps : List Part} (hps : Part.sub [.regs, .ni] ps = true) : (State.answerNoRoute s n a).rest ps = s.rest ps := Part.lift hps (by simp (disch := decide) only [State.answerNoRoute, State.rest_ite, ite_self, State.noRoute_rest, State.synthDone_rest, State.modNi_rest])

theorem State.sendAnswer_rest (s : State) (n : Nat) (a : Answer) (err : ReadErr) (drop : State → State) {ps : List Part} (hps : Part.sub [.regs, .tabBad, .ni] ps = true) (hf : ∀ s, (drop s).rest ps = s.rest ps) : (State.sendAnswer s n a err drop).rest ps = s.rest ps := by
  simp only [State.sendAnswer]
  repeat' split
  all_goals try have e := State.leafSample_eq _ _ _ _ (by assumption) (ps := ps) (Part.sub_trans (by decide) hps)
  all_goals first | rfl | simp (disch := (exact Part.sub_trans (by decide) hps)) only [State.answerNoRoute_rest, State.staleCheck_rest, State.tableErr_rest, State.enqueue_rest, State.modNi_rest, State.takeTag_rest, State.leafSample_rest, State.evNi_rest, State.bump_rest, *, State.rest_ite, ite_self]

theorem execNiSendAnswer_rest (n : Fin 256) (err : ReadErr) (s : State) {ps : List Part} (hps : Part.sub [.regs, .tabBad, .ni] ps = true) : ∃ s', execNiSendAnswer n err s = .next s' ∧ s'.rest ps = s.rest ps := by
  simp only [execNiSendAnswer]
  (repeat' split) <;> exact ⟨_, rfl, Part.lift hps (by simp (disch := first | decide | (intros; simp (disch := decide) only [State.rest_ite, ite_self, foldl_rest, State.rest_regs, State.rest_tabBad, State.rest_ni, State.queueMgt_rest, State.modNi_rest, State.sendAnswer_rest]; done) | fail) only [State.queueMgt_rest, State.modNi_rest, State.sendAnswer_rest, State.rest_ite, ite_self])⟩

theorem State.afterMgt_rest (s : State) (n : Nat) {ps : List Part} (hps : Part.sub [.regs, .ni] ps = true) : (State.afterMgt s n).rest ps = s.rest ps := Part.lift hps (by
  simp only [State.afterMgt]
  (repeat' split) <;> first | rfl | simp (disch := first | decide | (intros; simp (disch := decide) only [State.rest_ite, ite_self, foldl_rest, State.rest_regs, State.rest_ni, State.report_rest, State.setFld_rest, State.modNi_rest]; done) | fail) only [State.report_rest, State.setFld_rest, State.rest_ite, ite_self, State.modNi_rest])

theorem State.txCheck_rest (s : State) (n : Nat) (f : Flit) (e : BufErr) {ps : List Part} (hps : Part.sub [.regs, .ni] ps = true) : (State.txCheck s n f e).1.rest ps = s.rest ps := by
  unfold State.txCheck
  extract_lets mark s0 ep s1 s2
  have hm : ∀ s, (mark s).rest ps = s.rest ps := fun s => by
    simp (disch := (exact Part.sub_trans (by decide) hps)) only [mark, State.setFld_rest]
  have h1 : s1.rest ps = s.rest ps := by
    simp (disch := (exact Part.sub_trans (by decide) hps)) only [s1, s0, State.rest_ite, ite_self, State.setFld_rest, State.reportNi_rest, State.occursNi_rest, State.modNi_rest, State.bump_rest, State.bumpBy_rest, hm]
  have h2 : s2.rest ps = s.rest ps := by
    refine (foldl_rest _ _ _ (fun s _ => ?_)).trans h1
    simp (disch := (exact Part.sub_trans (by decide) hps)) only [State.setFld_rest, State.reportNi_rest, State.bump_rest, hm]
  clear_value s2 s1 mark
  split
  · rfl
  split
  · exact h1
  · split <;> exact h2

theorem State.txCheck_eq (s : State) (n : Nat) (f : Flit) (e : BufErr) {r0 : State} {r1 : Flit} {ps : List Part} (hr : State.txCheck s n f e = (r0, r1)) (hps : Part.sub [.regs, .ni] ps = true) : r0.rest ps = s.rest ps := by
  have e := State.txCheck_rest s n f e hps
  rw [hr] at e
  exact e

theorem State.headInjected_rest (s : State) (n q : Nat) (flow : Option Nat) (e : QPkt) {ps : List Part} (hps : Part.sub [.regs, .ni, .port] ps = true) : (State.headInjected s n q flow e).rest ps = s.rest ps := Part.lift hps (by
  simp only [State.headInjected]
  repeat' (first | (with_reducible rfl) | assumption | (simp (disch := first | decide | (intros; (try dsimp only); (repeat' split) <;> first | (with_reducible rfl) | (simp (disch := decide) only [State.rest_ite, ite_self, foldl_rest, State.rest_regs, State.rest_ni, State.rest_port, State.recordClosed_rest, State.evNi_rest, State.modNi_rest, State.bump_rest]; done) | fail) | fail) only [State.rest_ite, ite_self, State.recordClosed_rest, State.evNi_rest, State.modNi_rest, State.bump_rest]; done) | (show Part.sub _ _ = true; first | decide | exact Part.sub_trans (by decide) hps) | (refine (foldl_rest _ _ _ ?_).trans ?_) | (intro _ _; refine Part.lift hps ?_; try dsimp only) | (intro _ _; try dsimp only) | (intro _; try dsimp only) | split | (simp (disch := first | decide | (intros; (try dsimp only); (repeat' split) <;> first | (with_reducible rfl) | (simp (disch := decide) only [State.rest_ite, ite_self, foldl_rest, State.rest_regs, State.rest_ni, State.rest_port, State.recordClosed_rest, State.evNi_rest, State.modNi_rest, State.bump_rest]; done) | fail) | fail) only [State.rest_ite, ite_self, foldl_rest, State.rest_regs, State.rest_ni, State.rest_port, State.recordClosed_rest, State.evNi_rest, State.modNi_rest, State.bump_rest]) | (dsimp only) | rfl))

theorem State.driveFlit_rest (s : State) (n dest : Nat) (f : Flit) {ps : List Part} (hps : Part.sub [.wire, .used] ps = true) : (State.driveFlit s n dest f).rest ps = s.rest ps := Part.lift hps (by simp (disch := decide) only [State.driveFlit, State.rest_ite, ite_self, State.sendFlit_rest, State.useCredit_rest])

theorem State.injectFlit_rest (s : State) (n q : Nat) (flow : Option Nat) (e : QPkt) (f : Flit) (rest : List Flit) (err : BufErr) {ps : List Part} (hps : Part.sub [.regs, .ni, .port, .sc, .wire, .used] ps = true) : (State.injectFlit s n q flow e f rest err).rest ps = s.rest ps := Part.lift hps (by
  simp only [State.injectFlit]
  repeat' (first | (with_reducible rfl) | assumption | (simp (disch := first | decide | (intros; (try dsimp only); (repeat' split) <;> first | (with_reducible rfl) | (simp (disch := decide) only [State.rest_ite, ite_self, foldl_rest, State.rest_regs, State.rest_ni, State.rest_port, State.rest_sc, State.rest_wire, State.rest_used, State.shaperSent_rest, State.evNi_rest, State.markInj_rest, State.modNi_rest, State.touchShapers_rest, State.headInjected_rest, State.txCheck_rest, State.driveFlit_rest, State.takeFlips_rest]; done) | fail) | fail) only [State.rest_ite, ite_self, State.shaperSent_rest, State.evNi_rest, State.markInj_rest, State.modNi_rest, State.touchShapers_rest, State.headInjected_rest, State.txCheck_rest, State.driveFlit_rest, State.takeFlips_rest]; done) | (show Part.sub _ _ = true; first | decide | exact Part.sub_trans (by decide) hps) | (refine (foldl_rest _ _ _ ?_).trans ?_) | (intro _ _; refine Part.lift hps ?_; try dsimp only) | (intro _ _; try dsimp only) | (intro _; try dsimp only) | split | (have e := State.txCheck_eq _ _ _ _ (by assumption) (ps := [.regs, .ni, .port, .sc, .wire, .used]) (by decide); rw [e]) | (simp (disch := first | decide | (intros; (try dsimp only); (repeat' split) <;> first | (with_reducible rfl) | (simp (disch := decide) only [State.rest_ite, ite_self, foldl_rest, State.rest_regs, State.rest_ni, State.rest_port, State.rest_sc, State.rest_wire, State.rest_used, State.shaperSent_rest, State.evNi_rest, State.markInj_rest, State.modNi_rest, State.touchShapers_rest, State.headInjected_rest, State.txCheck_rest, State.driveFlit_rest, State.takeFlips_rest]; done) | fail) | fail) only [State.rest_ite, ite_self, foldl_rest, State.rest_regs, State.rest_ni, State.rest_port, State.rest_sc, State.rest_wire, State.rest_used, State.shaperSent_rest, State.evNi_rest, State.markInj_rest, State.modNi_rest, State.touchShapers_rest, State.headInjected_rest, State.txCheck_rest, State.driveFlit_rest, State.takeFlips_rest]) | (dsimp only) | rfl))

theorem State.missSlots_rest (s : State) (n : Nat) (fs : Option Nat) {ps : List Part} (hps : Part.sub [.regs, .ni] ps = true) : (State.missSlots s n fs).rest ps = s.rest ps := Part.lift hps (by
  simp only [State.missSlots]
  (repeat' split) <;> first | (with_reducible rfl) | (simp (disch := first | decide | (intros; (try dsimp only); (repeat' split) <;> first | (with_reducible rfl) | (simp (disch := decide) only [State.rest_ite, ite_self, foldl_rest, State.rest_regs, State.rest_ni, State.modNi_rest, State.bump_rest, State.evNi_rest, State.occursNi_rest, State.reportNi_rest]; done) | fail) | fail) only [State.rest_ite, ite_self, foldl_rest, State.modNi_rest, State.bump_rest, State.evNi_rest, State.occursNi_rest, State.reportNi_rest]; done) | rfl)

theorem State.stopCounts_rest (s : State) (n : Nat) (cs : List (Cand × Stop)) {ps : List Part} (hps : Part.sub [.regs] ps = true) : (State.stopCounts s n cs).rest ps = s.rest ps := Part.lift hps (by
  simp (disch := first | decide | (intros; simp (disch := decide) only [State.rest_ite, ite_self, foldl_rest, State.rest_regs, State.evNi_rest]; done) | fail) only [State.stopCounts, State.rest_ite, ite_self, foldl_rest, State.evNi_rest])

theorem execInjectionArbitration_rest (n : Fin 256) (err : BufErr) (s : State) {ps : List Part} (hps : Part.sub [.regs, .ni, .port, .sc, .wire, .used] ps = true) : ∃ s', execInjectionArbitration n err s = .next s' ∧ s'.rest ps = s.rest ps := by
  simp only [execInjectionArbitration]
  (repeat' split) <;> exact ⟨_, rfl, Part.lift hps (by simp (disch := first | decide | (intros; simp (disch := decide) only [State.rest_ite, ite_self, foldl_rest, State.rest_regs, State.rest_ni, State.rest_port, State.rest_sc, State.rest_wire, State.rest_used, State.afterMgt_rest, State.injectFlit_rest, State.stopCounts_rest, State.evNi_rest, State.modNi_rest, State.touchShapers_rest, State.missSlots_rest]; done) | fail) only [State.afterMgt_rest, State.injectFlit_rest, State.stopCounts_rest, State.evNi_rest, State.modNi_rest, State.touchShapers_rest, State.rest_ite, ite_self, State.missSlots_rest])⟩

theorem State.fireTimeout_rest (s : State) (n t : Nat) {ps : List Part} (hps : Part.sub [.regs, .ni] ps = true) : (State.fireTimeout s n t).rest ps = s.rest ps := Part.lift hps (by simp (disch := decide) only [State.fireTimeout, State.synthDone_rest, State.setFld_rest, State.evNi_rest, State.reportNi_rest, State.modNi_rest, State.bump_rest])

theorem execInitTimeout_rest (n : Fin 256) (tag : Fin 256) (s : State) {ps : List Part} (hps : Part.sub [.regs, .tabBad, .ni, .port, .wire, .wakeQ] ps = true) : ∃ s', execInitTimeout n tag s = .next s' ∧ s'.rest ps = s.rest ps := by
  simp only [execInitTimeout]
  (repeat' split) <;> exact ⟨_, rfl, Part.lift hps (by simp (disch := first | decide | (intros; simp (disch := decide) only [State.rest_ite, ite_self, foldl_rest, State.rest_regs, State.rest_tabBad, State.rest_ni, State.rest_port, State.rest_wire, State.rest_wakeQ, State.serveComps_rest, State.fireTimeout_rest]; done) | fail) only [State.serveComps_rest, State.fireTimeout_rest, State.rest_ite, ite_self])⟩

theorem execRetryResend_rest (n : Fin 256) (tag : Fin 256) (err : ReadErr) (s : State) {ps : List Part} (hps : Part.sub [.regs, .tabBad, .ni, .port, .wire, .wakeQ] ps = true) : ∃ s', execRetryResend n tag err s = .next s' ∧ s'.rest ps = s.rest ps := by
  simp only [execRetryResend]
  (repeat' split) <;> exact ⟨_, rfl, Part.lift hps (by simp (disch := first | decide | (intros; simp (disch := decide) only [State.rest_ite, ite_self, foldl_rest, State.rest_regs, State.rest_tabBad, State.rest_ni, State.rest_port, State.rest_wire, State.rest_wakeQ, State.synthDone_rest, State.tableErr_rest, State.dropTag_rest, State.meterStep_rest, State.noRoute_rest, State.evNi_rest, State.enqueue_rest, State.modNi_rest, State.bump_rest, State.serveComps_rest]; done) | fail) only [State.synthDone_rest, State.tableErr_rest, State.dropTag_rest, State.meterStep_rest, State.noRoute_rest, State.evNi_rest, State.enqueue_rest, State.modNi_rest, State.bump_rest, State.serveComps_rest, State.rest_ite, ite_self])⟩

theorem execQuarantineEnd_rest (n : Fin 256) (tag : Fin 256) (s : State) {ps : List Part} (hps : Part.sub [.ni] ps = true) : ∃ s', execQuarantineEnd n tag s = .next s' ∧ s'.rest ps = s.rest ps := by
  simp only [execQuarantineEnd]
  (repeat' split) <;> exact ⟨_, rfl, Part.lift hps (by simp (disch := first | decide | (intros; simp (disch := decide) only [State.rest_ite, ite_self, foldl_rest, State.rest_ni, State.dropTag_rest]; done) | fail) only [State.dropTag_rest, State.rest_ite, ite_self])⟩

theorem State.demoteFlows_rest (s : State) (n : Nat) (report : Bool) {ps : List Part} (hps : Part.sub [.regs, .ni] ps = true) : (State.demoteFlows s n report).rest ps = s.rest ps := Part.lift hps (by
  simp (disch := first | decide | (intros; simp (disch := decide) only [State.rest_ite, ite_self, foldl_rest, State.rest_regs, State.rest_ni, State.modNi_rest, State.reportNi_rest]; done) | fail) only [State.demoteFlows, State.rest_ite, ite_self, foldl_rest, State.modNi_rest, State.reportNi_rest])

theorem State.commitRoutes_rest (s : State) (n : Nat) {ps : List Part} (hps : Part.sub [.regs, .pend, .ni] ps = true) : (State.commitRoutes s n).rest ps = s.rest ps := Part.lift hps (by simp (disch := decide) only [State.commitRoutes, State.commitRegs_rest, State.modNi_rest, State.demoteFlows_rest])

theorem execNiLossCommit_rest (n : Fin 256) (s : State) {ps : List Part} (hps : Part.sub [.regs, .pend, .ni] ps = true) : ∃ s', execNiLossCommit n s = .next s' ∧ s'.rest ps = s.rest ps := by
  unfold execNiLossCommit
  (repeat' split) <;> exact ⟨_, rfl, Part.lift hps (by first | rfl | simp (disch := decide) only [State.commitRegs_rest, State.modNi_rest, State.demoteFlows_rest, State.commitRoutes_rest])⟩

theorem execNiTagCommit_rest (n : Fin 256) (s : State) {ps : List Part} (hps : Part.sub [.regs, .pend] ps = true) : ∃ s', execNiTagCommit n s = .next s' ∧ s'.rest ps = s.rest ps := by
  simp only [execNiTagCommit]
  (repeat' split) <;> exact ⟨_, rfl, Part.lift hps (by simp (disch := first | decide | (intros; simp (disch := decide) only [State.rest_ite, ite_self, foldl_rest, State.rest_regs_pend, State.rest_regs, State.rest_pend, State.setFld_rest, State.commitReg_rest]; done) | fail) only [State.setFld_rest, State.commitReg_rest, State.rest_ite, ite_self])⟩

theorem execNiFenceSwWrite_rest (n : Fin 256) (on : Bool) (s : State) {ps : List Part} (hps : Part.sub [.regs, .tabBad, .ni, .port, .wire, .wakeQ] ps = true) : ∃ s', execNiFenceSwWrite n on s = .next s' ∧ s'.rest ps = s.rest ps := by
  unfold execNiFenceSwWrite
  (repeat' split) <;> exact ⟨_, rfl, Part.lift hps (by first | rfl | simp (disch := decide) only [State.setFld_rest, State.serveComps_rest, State.refenceHeld_rest])⟩

theorem execNiTagStatusRead_rest (n : Fin 256) (s : State) {ps : List Part} (hps : Part.sub [.ni] ps = true) : ∃ s', execNiTagStatusRead n s = .next s' ∧ s'.rest ps = s.rest ps := by
  unfold execNiTagStatusRead
  exact ⟨_, rfl, Part.lift hps rfl⟩

theorem execGtSlotStart_rest (n : Fin 256) (s : State) {ps : List Part} (hps : Part.sub [.ni] ps = true) : ∃ s', execGtSlotStart n s = .next s' ∧ s'.rest ps = s.rest ps := by
  simp only [execGtSlotStart]
  (repeat' split) <;> first | (refine ⟨_, rfl, Part.lift hps ?_⟩; first | (with_reducible rfl) | (simp (disch := first | decide | (intros; (try dsimp only); (repeat' split) <;> first | (with_reducible rfl) | (simp (disch := decide) only [State.rest_ite, ite_self, foldl_rest, State.rest_ni, State.modNi_rest, State.touchShapers_rest]; done) | fail) | fail) only [foldl_rest, State.touchShapers_rest, State.rest_ite, ite_self, State.modNi_rest]; done) | rfl)

theorem execGtSlotEnd_rest (n : Fin 256) (s : State) {ps : List Part} (hps : Part.sub [.regs, .ni] ps = true) : ∃ s', execGtSlotEnd n s = .next s' ∧ s'.rest ps = s.rest ps := by
  simp only [execGtSlotEnd]
  (repeat' split) <;> first | (refine ⟨_, rfl, Part.lift hps ?_⟩; first | (with_reducible rfl) | (simp (disch := first | decide | (intros; (try dsimp only); (repeat' split) <;> first | (with_reducible rfl) | (simp (disch := decide) only [State.rest_ite, ite_self, foldl_rest, State.rest_regs, State.rest_ni, State.evNi_rest, State.reportNi_rest, State.modNi_rest, State.bump_rest, State.missSlots_rest]; done) | fail) | fail) only [foldl_rest, State.missSlots_rest]; done) | rfl)

theorem State.shaperGroup_rest (s : State) (n : Nat) (ws : List W64) {ps : List Part} (hps : Part.sub [.regs, .pend] ps = true) : (State.shaperGroup s n ws).rest ps = s.rest ps := Part.lift hps (by
  simp (disch := first | decide | (intros; simp (disch := decide) only [State.rest_ite, ite_self, foldl_rest, State.rest_regs, State.rest_pend, State.wr_rest, State.dropPend_rest, State.setFld_rest]; done) | fail) only [State.shaperGroup, State.rest_ite, ite_self, foldl_rest, State.wr_rest, State.dropPend_rest, State.setFld_rest])

theorem State.shaperRefused_rest (s : State) (n : Nat) {ps : List Part} (hps : Part.sub [.regs, .ni] ps = true) : (State.shaperRefused s n).rest ps = s.rest ps := Part.lift hps (by simp (disch := decide) only [State.shaperRefused, State.setFld_rest, State.reportNi_rest])

theorem State.shaperActive_rest (s : State) (n : Nat) {ps : List Part} (hps : Part.sub [.regs, .pend, .ni] ps = true) : (State.shaperActive s n).rest ps = s.rest ps := Part.lift hps (by
  unfold State.shaperActive
  (repeat' split) <;> first | rfl | simp (disch := first | decide | (intros; simp (disch := decide) only [State.rest_ite, ite_self, foldl_rest, State.rest_regs_pend, State.rest_regs, State.rest_pend, State.rest_ni, State.modNi_rest, State.dropPend_rest, State.setFld_rest, State.wr_rest, State.shaperRefused_rest, State.shaperGroup_rest]; done) | fail) only [State.rest_ite, ite_self, foldl_rest, State.modNi_rest, State.dropPend_rest, State.setFld_rest, State.shaperRefused_rest, State.shaperGroup_rest])

theorem State.refill_rest (s : State) (n b : Nat) {ps : List Part} (hps : Part.sub [.regs, .pend, .ni] ps = true) : (State.refill s n b).rest ps = s.rest ps := Part.lift hps (by simp (disch := decide) only [State.refill, State.rest_ite, ite_self, foldl_rest, State.touchShapersAt_rest, State.modNi_rest, State.shaperActive_rest])

theorem execShaperRefill_rest (n : Fin 256) (s : State) {ps : List Part} (hps : Part.sub [.regs, .pend, .ni] ps = true) : ∃ s', execShaperRefill n s = .next s' ∧ s'.rest ps = s.rest ps := by
  simp only [execShaperRefill]
  (repeat' split) <;> exact ⟨_, rfl, Part.lift hps (by simp (disch := first | decide | (intros; simp (disch := decide) only [State.rest_ite, ite_self, foldl_rest, State.rest_regs, State.rest_pend, State.rest_ni, State.refill_rest]; done) | fail) only [State.rest_ite, ite_self, State.refill_rest])⟩

theorem State.commitShapers_rest (s : State) (n : Nat) {ps : List Part} (hps : Part.sub [.regs, .ni] ps = true) : (State.commitShapers s n).rest ps = s.rest ps := Part.lift hps (by simp (disch := decide) only [State.commitShapers, State.rest_ite, ite_self, State.reportNi_rest, State.modNi_rest, State.setFld_rest, State.shaperRefused_rest])

theorem execShaperCommit_rest (n : Fin 256) (s : State) {ps : List Part} (hps : Part.sub [.regs, .ni] ps = true) : ∃ s', execShaperCommit n s = .next s' ∧ s'.rest ps = s.rest ps := by
  unfold execShaperCommit
  (repeat' split) <;> exact ⟨_, rfl, Part.lift hps (by first | rfl | simp (disch := decide) only [State.commitShapers_rest])⟩

theorem State.meterRefused_rest (s : State) (n : Nat) {ps : List Part} (hps : Part.sub [.regs, .ni] ps = true) : (State.meterRefused s n).rest ps = s.rest ps := Part.lift hps (by simp (disch := decide) only [State.meterRefused, State.setFld_rest, State.reportNi_rest])

theorem State.commitMeters_rest (s : State) (n : Nat) {ps : List Part} (hps : Part.sub [.regs, .pend, .ni] ps = true) : (State.commitMeters s n).rest ps = s.rest ps := Part.lift hps (by simp (disch := decide) only [State.commitMeters, State.rest_ite, ite_self, State.commitRegs_rest, State.setFld_rest, State.reportNi_rest, State.modNi_rest, foldl_rest, State.meterRefused_rest])

theorem execMeterCommit_rest (n : Fin 256) (s : State) {ps : List Part} (hps : Part.sub [.regs, .pend, .ni] ps = true) : ∃ s', execMeterCommit n s = .next s' ∧ s'.rest ps = s.rest ps := by
  unfold execMeterCommit
  (repeat' split) <;> exact ⟨_, rfl, Part.lift hps (by first | rfl | simp (disch := decide) only [State.commitMeters_rest, State.rest_ite, ite_self])⟩

theorem State.setPotClose_rest (s : State) (mask : Nat) {ps : List Part} (hps : Part.sub [.regs, .ni, .wakeQ] ps = true) : (State.setPotClose s mask).rest ps = s.rest ps := Part.lift hps (by simp (disch := decide) only [State.setPotClose, State.rest_ite, ite_self, State.report_rest, State.setFld_rest, State.reportUp_rest])

theorem execLidPotCloseWrite_rest (mask : BitVec 4) (s : State) {ps : List Part} (hps : Part.sub [.regs, .ni, .wakeQ] ps = true) : ∃ s', execLidPotCloseWrite mask s = .next s' ∧ s'.rest ps = s.rest ps := by
  unfold execLidPotCloseWrite
  (repeat' split) <;> exact ⟨_, rfl, Part.lift hps (by first | rfl | simp (disch := decide) only [State.setPotClose_rest, State.rest_ite, ite_self])⟩

theorem State.loadWord_rest (s : State) (n bank sec part idx : Nat) (w : W64) {ps : List Part} (hps : Part.sub [.tab, .tabBad] ps = true) : (State.loadWord s n bank sec part idx w).rest ps = s.rest ps := Part.lift hps rfl

theorem execTableLoad_rest (n : Fin 256) (s : State) {ps : List Part} (hps : Part.sub [.regs, .tab, .tabBad, .ni] ps = true) : ∃ s', execTableLoad n s = .next s' ∧ s'.rest ps = s.rest ps := by
  simp only [execTableLoad]
  repeat' (first | (with_reducible rfl) | assumption | (refine ⟨_, rfl, Part.lift hps ?_⟩) | (simp (disch := first | decide | (intros; (try dsimp only); (repeat' split) <;> first | (with_reducible rfl) | (simp (disch := decide) only [State.rest_ite, ite_self, foldl_rest, State.rest_tab_tabBad, State.rest_regs, State.rest_tab, State.rest_tabBad, State.rest_ni, State.wr_rest, State.loadWord_rest, State.modNi_rest, State.takeIn_rest]; done) | fail) | fail) only [State.rest_ite, ite_self, foldl_rest, State.wr_rest, State.loadWord_rest, State.modNi_rest, State.takeIn_rest]; done) | (show Part.sub _ _ = true; first | decide | exact Part.sub_trans (by decide) hps) | (refine (foldl_rest _ _ _ ?_).trans ?_) | (intro _ _; refine Part.lift hps ?_; try dsimp only) | (intro _ _; try dsimp only) | (intro _; try dsimp only) | split | (have e := State.takeIn_eq _ _ _ _ (by assumption) (ps := [.regs, .tab, .tabBad, .ni]) (by decide); rw [e]) | (simp (disch := first | decide | (intros; (try dsimp only); (repeat' split) <;> first | (with_reducible rfl) | (simp (disch := decide) only [State.rest_ite, ite_self, foldl_rest, State.rest_tab_tabBad, State.rest_regs, State.rest_tab, State.rest_tabBad, State.rest_ni, State.wr_rest, State.loadWord_rest, State.modNi_rest, State.takeIn_rest]; done) | fail) | fail) only [State.rest_ite, ite_self, foldl_rest, State.rest_tab_tabBad, State.rest_regs, State.rest_tab, State.rest_tabBad, State.rest_ni, State.wr_rest, State.loadWord_rest, State.modNi_rest, State.takeIn_rest]) | (dsimp only) | rfl)

theorem execBankSeal_rest (n : Fin 256) (s : State) {ps : List Part} (hps : Part.sub [.regs, .ni, .pot] ps = true) : ∃ s', execBankSeal n s = .next s' ∧ s'.rest ps = s.rest ps := by
  simp only [execBankSeal]
  repeat' split
  all_goals try have e_takeIn := State.takeIn_eq _ _ _ _ (by assumption) (ps := ps) (Part.sub_trans (by decide) hps)
  all_goals refine ⟨_, rfl, ?_⟩
  all_goals first
    | with_reducible rfl
    | assumption
    | (simp (disch := first | exact Part.sub_trans (by decide) hps | (intros; (try dsimp only); (repeat' split) <;> first | (with_reducible rfl) | (simp (disch := exact Part.sub_trans (by decide) hps) only [State.rest_ite, ite_self, foldl_rest, State.rest_regs, State.rest_ni, State.rest_pot, State.takeIn_rest, State.modNi_rest, State.modPot_rest, State.wr_rest, State.reportNi_rest]; done) | fail) | fail) only [State.rest_ite, ite_self, State.modNi_rest, State.modPot_rest, State.wr_rest, State.reportNi_rest, *]; done)

theorem State.qosDefaults_rest (s : State) (n bank : Nat) {ps : List Part} (hps : Part.sub [.regs, .pend, .ni] ps = true) : (State.qosDefaults s n bank).rest ps = s.rest ps := Part.lift hps (by
  simp (disch := first | decide | (intros; simp (disch := decide) only [State.rest_ite, ite_self, foldl_rest, State.rest_regs_pend, State.rest_regs, State.rest_pend, State.rest_ni, State.modNi_rest, State.dropPend_rest, State.wr_rest, State.meterRefused_rest]; done) | fail) only [State.qosDefaults, State.rest_ite, ite_self, foldl_rest, State.modNi_rest, State.wr_rest, State.meterRefused_rest, State.dropPend_rest])

theorem State.freqPlan_rest (s : State) (n bank : Nat) (now : Bool) {ps : List Part} (hps : Part.sub [.isl] ps = true) : (State.freqPlan s n bank now).rest ps = s.rest ps := Part.lift hps (by simp (disch := decide) only [State.freqPlan, State.rest_ite, ite_self, State.modIsl_rest])

theorem State.orphanFlows_rest (s : State) (n old new : Nat) {ps : List Part} (hps : Part.sub [.ni] ps = true) : (State.orphanFlows s n old new).rest ps = s.rest ps := Part.lift hps rfl

theorem State.switchNi_rest (s : State) (n : Nat) {ps : List Part} (hps : Part.sub [.regs, .pend, .isl, .rt, .ni] ps = true) : (State.switchNi s n).rest ps = s.rest ps := Part.lift hps (by simp (disch := decide) only [State.switchNi, State.rest_ite, ite_self, State.orphanFlows_rest, State.modNi_rest, State.modRt_rest, State.wr_rest, State.qosDefaults_rest, State.freqPlan_rest, State.demoteFlows_rest])

theorem State.setRoutes_rest (s : State) (n : Nat) (loss down : W64) {ps : List Part} (hps : Part.sub [.regs, .pend, .ni, .pot] ps = true) : (State.setRoutes s n loss down).rest ps = s.rest ps := Part.lift hps (by simp (disch := decide) only [State.setRoutes, State.fwNote_rest, State.setPend_rest, State.commitRoutes_rest])

theorem State.commitLoss_rest (s : State) (l : List Nat) (loss down : W64 → W64) {ps : List Part} (hps : Part.sub [.regs, .pend, .ni, .pot] ps = true) : (State.commitLoss s l loss down).rest ps = s.rest ps := Part.lift hps (by
  simp (disch := first | decide | (intros; simp (disch := decide) only [State.rest_ite, ite_self, foldl_rest, State.rest_regs, State.rest_pend, State.rest_ni, State.rest_pot, State.setRoutes_rest, State.fwNote_rest, State.fwDue_rest]; done) | fail) only [State.commitLoss, State.rest_ite, ite_self, foldl_rest, State.setRoutes_rest, State.fwNote_rest, State.fwDue_rest])

theorem State.activateBoot_rest (s : State) (n : Nat) (loss : Option W64) {ps : List Part} (hps : Part.sub [.regs, .pend, .isl, .ni, .pot] ps = true) : (State.activateBoot s n loss).rest ps = s.rest ps := Part.lift hps (by
  unfold State.activateBoot
  (repeat' split) <;> first | rfl | simp (disch := decide) only [State.modNi_rest, State.setRoutes_rest, State.qosDefaults_rest, State.freqPlan_rest, State.demoteFlows_rest])

theorem State.noteApertures_rest (s : State) {ps : List Part} (hps : Part.sub [.regs, .pot] ps = true) : (State.noteApertures s).rest ps = s.rest ps := Part.lift hps (by simp (disch := decide) only [State.noteApertures, State.rest_ite, ite_self, State.fwDue_rest, State.fwNote_rest, State.wr_rest])

theorem execEpochArm_rest (n : Fin 256) (s : State) {ps : List Part} (hps : Part.sub [.regs, .ni] ps = true) : ∃ s', execEpochArm n s = .next s' ∧ s'.rest ps = s.rest ps := by
  simp only [execEpochArm]
  repeat' split
  all_goals try have e_takeIn := State.takeIn_eq _ _ _ _ (by assumption) (ps := ps) (Part.sub_trans (by decide) hps)
  all_goals refine ⟨_, rfl, ?_⟩
  all_goals first
    | rfl
    | assumption
    | (simp (disch := first | exact Part.sub_trans (by decide) hps | (intros; (try dsimp only); (repeat' split) <;> first | (with_reducible rfl) | (simp (disch := exact Part.sub_trans (by decide) hps) only [State.rest_ite, ite_self, foldl_rest, State.rest_regs, State.rest_ni, State.takeIn_rest, State.unitMgt_rest, State.wr_rest, State.modNi_rest]; done) | fail) | fail) only [State.rest_ite, ite_self, State.unitMgt_rest, State.wr_rest, State.modNi_rest, *]; done)

theorem execEpochCancel_rest (n : Fin 256) (s : State) {ps : List Part} (hps : Part.sub [.regs, .ni] ps = true) : ∃ s', execEpochCancel n s = .next s' ∧ s'.rest ps = s.rest ps := by
  simp only [execEpochCancel]
  repeat' split
  all_goals try have e_takeIn := State.takeIn_eq _ _ _ _ (by assumption) (ps := ps) (Part.sub_trans (by decide) hps)
  all_goals refine ⟨_, rfl, ?_⟩
  all_goals first
    | rfl
    | assumption
    | (simp (disch := first | exact Part.sub_trans (by decide) hps | (intros; (try dsimp only); (repeat' split) <;> first | (with_reducible rfl) | (simp (disch := exact Part.sub_trans (by decide) hps) only [State.rest_ite, ite_self, foldl_rest, State.rest_regs, State.rest_ni, State.takeIn_rest, State.modNi_rest, State.unitMgt_rest, State.reportNi_rest]; done) | fail) | fail) only [State.rest_ite, ite_self, State.modNi_rest, State.unitMgt_rest, State.reportNi_rest, *]; done)

theorem execEpochDoneMessage_rest (n : Fin 256) (s : State) {ps : List Part} (hps : Part.sub [.regs, .isl, .ni] ps = true) : ∃ s', execEpochDoneMessage n s = .next s' ∧ s'.rest ps = s.rest ps := by
  simp only [execEpochDoneMessage]
  split
  · exact ⟨_, rfl, rfl⟩
  · have e := State.takeIn_eq _ _ _ _ (by assumption) (ps := ps) (Part.sub_trans (by decide) hps)
    split
    · refine ⟨_, rfl, ?_⟩
      simp (disch := (exact Part.sub_trans (by decide) hps)) only [State.rest_ite, ite_self, State.modIsl_rest, State.wr_rest, State.modNi_rest, e]
    · exact ⟨_, rfl, e⟩

theorem execNiLocalDrained_rest (n : Fin 256) (s : State) {ps : List Part} (hps : Part.sub [.ni] ps = true) : ∃ s', execNiLocalDrained n s = .next s' ∧ s'.rest ps = s.rest ps := by
  simp only [execNiLocalDrained]
  (repeat' split) <;> exact ⟨_, rfl, Part.lift hps (by simp (disch := first | decide | (intros; simp (disch := decide) only [State.rest_ite, ite_self, foldl_rest, State.rest_ni, State.unitMgt_rest, State.modNi_rest]; done) | fail) only [State.unitMgt_rest, State.modNi_rest, State.rest_ite, ite_self])⟩

theorem State.setBankSt_rest (s : State) (b v : Nat) {ps : List Part} (hps : Part.sub [.regs] ps = true) : (State.setBankSt s b v).rest ps = s.rest ps := Part.lift hps rfl

theorem State.setEpochSt_rest (s : State) (v : Nat) {ps : List Part} (hps : Part.sub [.regs] ps = true) : (State.setEpochSt s v).rest ps = s.rest ps := Part.lift hps rfl

theorem State.rejoinAt_rest (s : State) (n : Nat) {ps : List Part} (hps : Part.sub [.regs, .pend, .ni, .kt, .pot] ps = true) : (State.rejoinAt s n).rest ps = s.rest ps := Part.lift hps (by
  simp (disch := first | decide | (intros; simp (disch := decide) only [State.rest_ite, ite_self, foldl_rest, State.rest_pend, State.rest_ni, State.rest_kt, State.setPend_rest, State.modNi_rest, State.rest_regs, State.rest_pot, State.commitLoss_rest]; done) | fail) only [State.rejoinAt, State.rest_ite, ite_self, foldl_rest, State.rest_kt, State.modNi_rest, State.rest_regs, State.rest_pend, State.rest_ni, State.rest_pot, State.commitLoss_rest])

theorem State.rejoinDone_rest (s : State) (number T : Nat) {ps : List Part} (hps : Part.sub [.regs, .ni, .cd, .wakeQ] ps = true) : (State.rejoinDone s number T).rest ps = s.rest ps := Part.lift hps (by simp (disch := decide) only [State.rejoinDone, State.rest_ite, ite_self, State.setFld_rest, State.cdWrite_rest, State.reportPot_rest])

theorem State.sendEpoch_rest (s : State) (n T flags : Nat) (id : W64) {ps : List Part} (hps : Part.sub [.ni] ps = true) : (State.sendEpoch s n T flags id).rest ps = s.rest ps := Part.lift hps rfl

theorem State.modSw_rest (s : State) (f : Switch → Switch) {ps : List Part} (hps : Part.sub [.pot] ps = true) : (State.modSw s f).rest ps = s.rest ps := Part.lift hps rfl

theorem State.drainStatus_rest (s : State) (w : Switch) {ps : List Part} (hps : Part.sub [.regs] ps = true) : (State.drainStatus s w).rest ps = s.rest ps := Part.lift hps (by simp (disch := decide) only [State.drainStatus, State.wr_rest])

theorem State.writeNames_rest (s : State) {ps : List Part} (hps : Part.sub [.regs, .ni, .dom, .wakeQ] ps = true) : (State.writeNames s).rest ps = s.rest ps := Part.lift hps (by simp (disch := decide) only [State.writeNames, State.writeGtMask_rest, State.rest_ite, ite_self, foldl_rest])

theorem State.epochDone_rest (s : State) (w : Switch) {ps : List Part} (hps : Part.sub [.regs, .ni, .dom, .kt, .cd, .pot, .wakeQ] ps = true) : (State.epochDone s w).rest ps = s.rest ps := Part.lift hps (by
  simp (disch := first | decide | (intros; simp (disch := decide) only [State.rest_ite, ite_self, foldl_rest, State.rest_regs, State.rest_ni, State.rest_dom, State.rest_kt, State.rest_cd, State.rest_pot, State.setEpochSt_rest, State.writeNames_rest, State.modKt_rest, State.modPot_rest, State.sendEpoch_rest, State.setBankSt_rest, State.recEpoch_rest, State.rejoinDone_rest, State.setFld_rest, State.reportPot_rest, State.wr_rest, State.rest_wakeQ]; done) | fail) only [State.epochDone, foldl_rest, State.setEpochSt_rest, State.writeNames_rest, State.modKt_rest, State.modPot_rest, State.setBankSt_rest, State.recEpoch_rest, State.rejoinDone_rest, State.setFld_rest, State.reportPot_rest, State.wr_rest, State.sendEpoch_rest])

theorem State.tryDone_rest (s : State) {ps : List Part} (hps : Part.sub [.regs, .ni, .dom, .kt, .cd, .pot, .wakeQ] ps = true) : (State.tryDone s).rest ps = s.rest ps := Part.lift hps (by
  unfold State.tryDone
  (repeat' split) <;> first | rfl | simp (disch := decide) only [State.epochDone_rest, State.rest_ite, ite_self])

theorem execEpochSwitch_rest (n : Fin 256) (s : State) {ps : List Part} (hps : Part.sub [.regs, .pend, .isl, .rt, .ni, .kt, .cd, .pot] ps = true) : ∃ s', execEpochSwitch n s = .next s' ∧ s'.rest ps = s.rest ps := by
  simp only [execEpochSwitch]
  (repeat' split) <;> exact ⟨_, rfl, Part.lift hps (by simp (disch := first | decide | (intros; simp (disch := decide) only [State.rest_ite, ite_self, foldl_rest, State.rest_regs_pend, State.rest_regs, State.rest_pend, State.rest_isl, State.rest_rt, State.rest_ni, State.rest_kt, State.rest_cd, State.rest_pot, State.setEpochSt_rest, State.switchNi_rest, State.activateBoot_rest, State.noteApertures_rest, State.rejoinAt_rest, State.setBankSt_rest, State.recEpoch_rest, State.setFld_rest, State.modSw_rest]; done) | fail) only [State.setEpochSt_rest, State.switchNi_rest, State.activateBoot_rest, State.noteApertures_rest, State.rejoinAt_rest, State.setBankSt_rest, State.recEpoch_rest, State.setFld_rest, State.modSw_rest, State.rest_ite, ite_self])⟩

theorem execCommitEpoch_rest (c : Fin 24) (s : State) {ps : List Part} (hps : Part.sub [.regs, .ni, .pot] ps = true) : ∃ s', execCommitEpoch c s = .next s' ∧ s'.rest ps = s.rest ps := by
  simp only [execCommitEpoch]
  repeat' (first | (with_reducible rfl) | assumption | (refine ⟨_, rfl, Part.lift hps ?_⟩) | (simp (disch := first | decide | (intros; (try dsimp only); (repeat' split) <;> first | (with_reducible rfl) | (simp (disch := decide) only [State.rest_ite, ite_self, foldl_rest, State.rest_regs, State.rest_ni, State.rest_pot, State.potDone_rest, State.wr_rest, State.startCmd_rest, State.setEpochSt_rest, State.modPot_rest, State.sendEpoch_rest, State.runCmd_rest]; done) | fail) | fail) only [State.rest_ite, ite_self, foldl_rest, State.potDone_rest, State.wr_rest, State.startCmd_rest, State.setEpochSt_rest, State.modPot_rest, State.runCmd_rest, State.sendEpoch_rest]; done) | (apply State.runCmd_rest) | (show Part.sub _ _ = true; first | decide | exact Part.sub_trans (by decide) hps) | (refine (foldl_rest _ _ _ ?_).trans ?_) | (intro _ _; refine Part.lift hps ?_; try dsimp only) | (intro _ _; try dsimp only) | (intro _; try dsimp only) | split | (simp (disch := first | decide | (intros; (try dsimp only); (repeat' split) <;> first | (with_reducible rfl) | (simp (disch := decide) only [State.rest_ite, ite_self, foldl_rest, State.rest_regs, State.rest_ni, State.rest_pot, State.potDone_rest, State.wr_rest, State.startCmd_rest, State.setEpochSt_rest, State.modPot_rest, State.sendEpoch_rest, State.runCmd_rest]; done) | fail) | fail) only [State.rest_ite, ite_self, foldl_rest, State.rest_regs, State.rest_ni, State.rest_pot, State.potDone_rest, State.wr_rest, State.startCmd_rest, State.setEpochSt_rest, State.modPot_rest, State.sendEpoch_rest, State.runCmd_rest]) | (dsimp only) | rfl)

theorem State.allArmed_rest (s : State) {ps : List Part} (hps : Part.sub [.regs, .cd, .pot] ps = true) : (State.allArmed s).rest ps = s.rest ps := Part.lift hps (by
  unfold State.allArmed
  (repeat' split) <;> first | rfl | simp (disch := decide) only [State.setEpochSt_rest, State.potDone_rest, State.recEpoch_rest, State.modSw_rest, State.rest_ite, ite_self])

theorem execEpochArmDeadline_rest (s : State) {ps : List Part} (hps : Part.sub [.regs, .ni, .cd, .pot, .wakeQ] ps = true) : ∃ s', execEpochArmDeadline s = .next s' ∧ s'.rest ps = s.rest ps := by
  unfold execEpochArmDeadline
  (repeat' split) <;> exact ⟨_, rfl, Part.lift hps (by simp (disch := first | decide | (intros; simp (disch := decide) only [State.rest_ite, ite_self, foldl_rest, State.rest_regs, State.rest_ni, State.rest_cd, State.rest_pot, State.setEpochSt_rest, State.potDone_rest, State.modPot_rest, State.sendEpoch_rest, State.recEpoch_rest, State.reportPot_rest, State.rest_wakeQ]; done) | fail) only [foldl_rest, State.setEpochSt_rest, State.potDone_rest, State.modPot_rest, State.recEpoch_rest, State.reportPot_rest, State.rest_ite, ite_self, State.sendEpoch_rest])⟩

theorem State.splitSwitch_rest (s : State) (n : Nat) {ps : List Part} (hps : Part.sub [.regs, .ni, .cd, .pot] ps = true) : (State.splitSwitch s n).rest ps = s.rest ps := Part.lift hps (by
  unfold State.splitSwitch
  (repeat' split) <;> first | rfl | simp (disch := first | decide | (intros; simp (disch := decide) only [State.rest_ite, ite_self, foldl_rest, State.rest_regs, State.rest_ni, State.rest_cd, State.rest_pot, State.setEpochSt_rest, State.modPot_rest, State.sendEpoch_rest, State.recEpoch_rest, State.setFld_rest, State.wr_rest, State.modSw_rest]; done) | fail) only [foldl_rest, State.setEpochSt_rest, State.modPot_rest, State.recEpoch_rest, State.setFld_rest, State.wr_rest, State.rest_ite, ite_self, State.modSw_rest, State.sendEpoch_rest])

theorem execEdrain_rest (s : State) {ps : List Part} (hps : Part.sub [.regs, .ni, .dom, .kt, .cd, .pot, .wakeQ] ps = true) : ∃ s', execEdrain s = .next s' ∧ s'.rest ps = s.rest ps := by
  simp only [execEdrain]
  repeat' split
  all_goals try have e_takeIn := State.takeIn_eq _ _ _ _ (by assumption) (ps := ps) (Part.sub_trans (by decide) hps)
  all_goals refine ⟨_, rfl, ?_⟩
  all_goals first
    | rfl
    | assumption
    | (simp (disch := first | exact Part.sub_trans (by decide) hps | (intros; (try dsimp only); (repeat' split) <;> first | (with_reducible rfl) | (simp (disch := exact Part.sub_trans (by decide) hps) only [State.rest_ite, ite_self, foldl_rest, State.rest_regs, State.rest_ni, State.rest_dom, State.rest_kt, State.rest_cd, State.rest_pot, State.rest_wakeQ, State.takeIn_rest, State.modSw_rest, State.allArmed_rest, State.drainStatus_rest, State.tryDone_rest, State.splitSwitch_rest]; done) | fail) | fail) only [State.rest_ite, ite_self, State.modSw_rest, State.allArmed_rest, State.drainStatus_rest, State.tryDone_rest, State.splitSwitch_rest, *]; done)

theorem execDrainQuietTimer_rest (s : State) {ps : List Part} (hps : Part.sub [.regs, .ni, .dom, .kt, .cd, .pot, .wakeQ] ps = true) : ∃ s', execDrainQuietTimer s = .next s' ∧ s'.rest ps = s.rest ps := by
  unfold execDrainQuietTimer
  (repeat' split) <;> exact ⟨_, rfl, Part.lift hps (by first | rfl | simp (disch := decide) only [State.tryDone_rest])⟩

theorem execEpochDrainSlow_rest (s : State) {ps : List Part} (hps : Part.sub [.regs, .ni, .pot, .wakeQ] ps = true) : ∃ s', execEpochDrainSlow s = .next s' ∧ s'.rest ps = s.rest ps := by
  unfold execEpochDrainSlow
  (repeat' split) <;> exact ⟨_, rfl, Part.lift hps (by first | rfl | simp (disch := decide) only [State.setFld_rest, State.reportPot_rest, State.modSw_rest, State.rest_ite, ite_self])⟩

theorem State.serveAperture_rest (s : State) (p : Pkt) {ps : List Part} (hps : Part.sub [.regs, .ni] ps = true) : (State.serveAperture s p).rest ps = s.rest ps := Part.lift hps (by
  unfold State.serveAperture
  (repeat' split) <;> first | rfl | simp (disch := decide) only [State.rest_ite, ite_self, State.answerErr_rest, State.answer_rest, State.wr_rest])

theorem State.takeAperture_eq (s : State) (posted : Bool) (ok : Pkt → Bool) {r0 : Pkt} {r1 : State} {ps : List Part} (hr : State.takeAperture s posted ok = some (r0, r1)) (hps : Part.sub [.ni] ps = true) : r1.rest ps = s.rest ps := by
  simp only [State.takeAperture] at hr
  split at hr
  · cases h : s.takeIn 248 (if posted = true then Vn.IOP else Vn.ION) ok with
    | none => rw [h] at hr; cases hr
    | some x =>
      rw [h] at hr
      cases hr
      exact State.takeIn_eq _ _ _ _ h (Part.sub_trans (by decide) hps)
  · cases hr

theorem execMailboxCmdWrite_rest (posted : Bool) (s : State) {ps : List Part} (hps : Part.sub [.regs, .ni] ps = true) : ∃ s', execMailboxCmdWrite posted s = .next s' ∧ s'.rest ps = s.rest ps := by
  simp only [execMailboxCmdWrite]
  repeat' split
  all_goals try have e_takeAperture := State.takeAperture_eq _ _ _ (by assumption) (ps := ps) (Part.sub_trans (by decide) hps)
  all_goals refine ⟨_, rfl, ?_⟩
  all_goals first
    | rfl
    | assumption
    | (simp (disch := first | exact Part.sub_trans (by decide) hps | (intros; (try dsimp only); (repeat' split) <;> first | (with_reducible rfl) | (simp (disch := exact Part.sub_trans (by decide) hps) only [State.rest_ite, ite_self, foldl_rest, State.rest_regs, State.rest_ni, State.takeAperture_rest, State.serveAperture_rest]; done) | fail) | fail) only [State.serveAperture_rest, *]; done)

theorem State.ringBell_rest (s : State) (m : Nat) {ps : List Part} (hps : Part.sub [.regs, .ni, .pot, .wakeQ] ps = true) : (State.ringBell s m).rest ps = s.rest ps := Part.lift hps (by simp (disch := decide) only [State.ringBell, State.rest_ite, ite_self, State.modPot_rest, State.askWake_rest, State.setFld_rest, State.reportPot_rest])

theorem execDoorbellWrite_rest (posted : Bool) (s : State) {ps : List Part} (hps : Part.sub [.regs, .ni, .pot, .wakeQ] ps = true) : ∃ s', execDoorbellWrite posted s = .next s' ∧ s'.rest ps = s.rest ps := by
  simp only [execDoorbellWrite]
  repeat' split
  all_goals try have e_takeAperture := State.takeAperture_eq _ _ _ (by assumption) (ps := ps) (Part.sub_trans (by decide) hps)
  all_goals refine ⟨_, rfl, ?_⟩
  all_goals first
    | rfl
    | assumption
    | (simp (disch := first | exact Part.sub_trans (by decide) hps | (intros; (try dsimp only); (repeat' split) <;> first | (with_reducible rfl) | (simp (disch := exact Part.sub_trans (by decide) hps) only [State.rest_ite, ite_self, foldl_rest, State.rest_regs, State.rest_ni, State.rest_pot, State.rest_wakeQ, State.takeAperture_rest, State.ringBell_rest, State.answer_rest]; done) | fail) | fail) only [State.rest_ite, ite_self, State.ringBell_rest, State.answer_rest, *]; done)

theorem State.recMailbox_rest (s : State) (x : PotCmd) (status : Nat) (atEnd : Bool) (w3 : W64) {ps : List Part} (hps : Part.sub [.regs, .cd] ps = true) : (State.recMailbox s x status atEnd w3).rest ps = s.rest ps := Part.lift hps (by
  unfold State.recMailbox
  (repeat' split) <;> first | rfl | simp (disch := decide) only [State.cdWrite_rest, State.rest_ite, ite_self])

theorem State.cmdDenied_rest (s : State) (c op : Nat) {ps : List Part} (hps : Part.sub [.regs, .ni, .pot, .wakeQ] ps = true) : (State.cmdDenied s c op).rest ps = s.rest ps := Part.lift hps (by simp (disch := decide) only [State.cmdDenied, State.rest_ite, ite_self, State.modPot_rest, State.reportPot_rest])

theorem State.acceptCmd_rest (s : State) (c : Nat) (ws : List W64) (idx : Nat) {ps : List Part} (hps : Part.sub [.regs, .ni, .cd, .pot, .wakeQ] ps = true) : (State.acceptCmd s c ws idx).rest ps = s.rest ps := Part.lift hps (by
  simp only [State.acceptCmd]
  (repeat' split) <;> first | rfl | simp (disch := first | decide | (intros; simp (disch := decide) only [State.rest_ite, ite_self, foldl_rest, State.rest_regs, State.rest_ni, State.rest_cd, State.rest_pot, State.cmdDenied_rest, State.potDone_rest, State.modPot_rest, State.recMailbox_rest, State.rest_wakeQ]; done) | fail) only [State.cmdDenied_rest, State.potDone_rest, State.modPot_rest, State.recMailbox_rest, State.rest_ite, ite_self, foldl_rest])

theorem execMailboxAccept_rest (m : Fin 8) (s : State) {ps : List Part} (hps : Part.sub [.regs, .ni, .cd, .pot, .wakeQ] ps = true) : ∃ s', execMailboxAccept m s = .next s' ∧ s'.rest ps = s.rest ps := by
  simp only [execMailboxAccept]
  (repeat' split) <;> exact ⟨_, rfl, Part.lift hps (by simp (disch := first | decide | (intros; simp (disch := decide) only [State.rest_ite, ite_self, foldl_rest, State.rest_regs, State.rest_ni, State.rest_cd, State.rest_pot, State.modPot_rest, State.acceptCmd_rest, State.setFld_rest, State.wr_rest, State.rest_wakeQ]; done) | fail) only [State.modPot_rest, State.acceptCmd_rest, State.setFld_rest, State.wr_rest, State.rest_ite, ite_self])⟩

theorem State.modRing_rest (s : State) (r : Nat) (f : PotRing → PotRing) {ps : List Part} (hps : Part.sub [.pot] ps = true) : (State.modRing s r f).rest ps = s.rest ps := Part.lift hps rfl

theorem State.setRingSt_rest (s : State) (r v : Nat) {ps : List Part} (hps : Part.sub [.regs] ps = true) : (State.setRingSt s r v).rest ps = s.rest ps := Part.lift hps rfl

theorem State.ringLine_rest (s : State) (r : Nat) {ps : List Part} (hps : Part.sub [.regs, .tabBad, .ni, .pot, .wakeQ] ps = true) : (State.ringLine s r).rest ps = s.rest ps := Part.lift hps (by simp (disch := decide) only [State.ringLine, State.potLine_rest, State.modRing_rest])

theorem State.ringIrqTry_rest (s : State) (r : Nat) {ps : List Part} (hps : Part.sub [.regs, .tabBad, .ni, .pot, .wakeQ] ps = true) : (State.ringIrqTry s r).rest ps = s.rest ps := Part.lift hps (by simp (disch := decide) only [State.ringIrqTry, State.rest_ite, ite_self, State.modRing_rest, State.potSend_rest])

theorem State.ringComplete_rest (s : State) (r idx : Nat) (w0 : W64) (code : Nat) (rsp : List W64) {ps : List Part} (hps : Part.sub [.regs, .tabBad, .ni, .pot, .wakeQ] ps = true) : (State.ringComplete s r idx w0 code rsp).rest ps = s.rest ps := Part.lift hps (by simp (disch := decide) only [State.ringComplete, State.rest_ite, ite_self, State.potLine_rest, State.ringIrqTry_rest, State.bumpMod_rest, State.modRing_rest, State.setFld_rest])

theorem State.ringPass_rest (s : State) (r idx : Nat) {ps : List Part} (hps : Part.sub [.regs] ps = true) : (State.ringPass s r idx).rest ps = s.rest ps := Part.lift hps (by simp (disch := decide) only [State.ringPass, State.rest_ite, ite_self, State.setFld_rest])

theorem State.ringStart_rest (s : State) (r fuel : Nat) {ps : List Part} (hps : Part.sub [.regs, .tabBad, .ni, .cd, .pot, .wakeQ] ps = true) :
    (State.ringStart s r fuel).rest ps = s.rest ps := by
  induction fuel generalizing s with
  | zero => rfl
  | succ fuel ih =>
    simp only [State.ringStart]
    (repeat' split) <;> first | rfl | simp (disch := (exact Part.sub_trans (by decide) hps)) only [ih, State.ringComplete_rest, State.bumpMod_rest, State.modRing_rest, State.ringPass_rest, State.acceptCmd_rest, State.rest_ite, ite_self]

theorem execRingPoll_rest (r : Fin 16) (s : State) {ps : List Part} (hps : Part.sub [.regs, .tabBad, .ni, .pot, .wakeQ] ps = true) : ∃ s', execRingPoll r s = .next s' ∧ s'.rest ps = s.rest ps := by
  simp only [execRingPoll]
  (repeat' split) <;> exact ⟨_, rfl, Part.lift hps (by simp (disch := first | decide | (intros; simp (disch := decide) only [State.rest_ite, ite_self, foldl_rest, State.rest_regs, State.rest_tabBad, State.rest_ni, State.rest_pot, State.rest_wakeQ, State.modRing_rest, State.potSend_rest]; done) | fail) only [State.modRing_rest, State.potSend_rest, State.rest_ite, ite_self])⟩

theorem execRingEntryFetched_rest (r : Fin 16) (s : State) {ps : List Part} (hps : Part.sub [.regs, .tabBad, .ni, .cd, .pot, .wakeQ] ps = true) : ∃ s', execRingEntryFetched r s = .next s' ∧ s'.rest ps = s.rest ps := by
  simp only [execRingEntryFetched]
  repeat' split
  all_goals try have e_takeComp := State.takeComp_eq _ _ _ (by assumption) (ps := ps) (Part.sub_trans (by decide) hps)
  all_goals refine ⟨_, rfl, ?_⟩
  all_goals first
    | rfl
    | assumption
    | (simp (disch := first | exact Part.sub_trans (by decide) hps | (intros; (try dsimp only); (repeat' split) <;> first | (with_reducible rfl) | (simp (disch := exact Part.sub_trans (by decide) hps) only [State.rest_ite, ite_self, foldl_rest, State.rest_regs, State.rest_tabBad, State.rest_ni, State.rest_cd, State.rest_pot, State.rest_wakeQ, State.takeComp_rest, State.modRing_rest, State.ringStart_rest]; done) | fail) | fail) only [State.rest_ite, ite_self, State.modRing_rest, State.ringStart_rest, *]; done)

theorem State.ringStop_rest (s : State) (r : Nat) {ps : List Part} (hps : Part.sub [.regs, .tabBad, .ni, .pot, .wakeQ] ps = true) : (State.ringStop s r).rest ps = s.rest ps := Part.lift hps (by simp (disch := decide) only [State.ringStop, State.rest_ite, ite_self, State.ringLine_rest, State.modRing_rest, State.setRingSt_rest, State.reportPot_rest])

theorem execRingAccessResponse_rest (r : Fin 16) (k : Fin 4) (s : State) {ps : List Part} (hps : Part.sub [.regs, .tabBad, .ni, .pot, .wakeQ] ps = true) : ∃ s', execRingAccessResponse r k s = .next s' ∧ s'.rest ps = s.rest ps := by
  simp only [execRingAccessResponse]
  repeat' split
  all_goals try have e_takeComp := State.takeComp_eq _ _ _ (by assumption) (ps := ps) (Part.sub_trans (by decide) hps)
  all_goals refine ⟨_, rfl, ?_⟩
  all_goals first
    | rfl
    | assumption
    | (simp (disch := first | exact Part.sub_trans (by decide) hps | (intros; (try dsimp only); (repeat' split) <;> first | (with_reducible rfl) | (simp (disch := exact Part.sub_trans (by decide) hps) only [State.rest_ite, ite_self, foldl_rest, State.rest_regs, State.rest_tabBad, State.rest_ni, State.rest_pot, State.rest_wakeQ, State.takeComp_rest, State.modRing_rest, State.potIrq_rest, State.ringStop_rest]; done) | fail) | fail) only [State.rest_ite, ite_self, State.modRing_rest, State.potIrq_rest, State.ringStop_rest, *]; done)

theorem execRingIrqGapEnd_rest (r : Fin 16) (s : State) {ps : List Part} (hps : Part.sub [.regs, .tabBad, .ni, .pot, .wakeQ] ps = true) : ∃ s', execRingIrqGapEnd r s = .next s' ∧ s'.rest ps = s.rest ps := by
  unfold execRingIrqGapEnd
  (repeat' split) <;> exact ⟨_, rfl, Part.lift hps (by first | rfl | simp (disch := decide) only [State.ringIrqTry_rest, State.rest_ite, ite_self])⟩

theorem execRingStatusLineWrite_rest (r : Fin 16) (s : State) {ps : List Part} (hps : Part.sub [.regs, .tabBad, .ni, .pot, .wakeQ] ps = true) : ∃ s', execRingStatusLineWrite r s = .next s' ∧ s'.rest ps = s.rest ps := by
  unfold execRingStatusLineWrite
  (repeat' split) <;> exact ⟨_, rfl, Part.lift hps (by first | rfl | simp (disch := decide) only [State.ringLine_rest, State.rest_ite, ite_self])⟩

theorem State.waitEnd_eq (s : State) (x : PotCmd) {r0 : State} {r1 : Nat} {r2 : List W64} {ps : List Part} (hr : State.waitEnd s x = some (r0, r1, r2)) (hps : Part.sub [.ni] ps = true) : r0.rest ps = s.rest ps := by
  simp only [State.waitEnd] at hr
  repeat' split at hr
  all_goals first
    | (cases hr; done)
    | (cases hr; rfl)
    | (have e := State.takeComp_eq _ _ _ (by assumption) (ps := ps) (Part.sub_trans (by decide) hps)
       cases hr
       exact e)

theorem State.endCmd_rest (s : State) (x : PotCmd) (code : Nat) (rsp : List W64) {ps : List Part} (hps : Part.sub [.regs, .tabBad, .ni, .cd, .pot, .wakeQ] ps = true) : (State.endCmd s x code rsp).rest ps = s.rest ps := Part.lift hps (by
  simp only [State.endCmd]
  (repeat' split) <;> first | rfl | simp (disch := first | decide | (intros; simp (disch := decide) only [State.rest_ite, ite_self, foldl_rest, State.rest_regs, State.rest_tabBad, State.rest_ni, State.rest_cd, State.rest_pot, State.rest_wakeQ, State.potDone_rest, State.ringStart_rest, State.setFld_rest, State.wr_rest, State.modPot_rest, State.recMailbox_rest, State.potIrq_rest, State.ringLine_rest, State.ringComplete_rest]; done) | fail) only [foldl_rest, State.potDone_rest, State.ringStart_rest, State.setFld_rest, State.wr_rest, State.modPot_rest, State.recMailbox_rest, State.potIrq_rest, State.ringLine_rest, State.ringComplete_rest, State.rest_ite, ite_self])

theorem execCommandEnd_rest (c : Fin 24) (s : State) {ps : List Part} (hps : Part.sub [.regs, .tabBad, .ni, .cd, .pot, .wakeQ] ps = true) : ∃ s', execCommandEnd c s = .next s' ∧ s'.rest ps = s.rest ps := by
  simp only [execCommandEnd]
  repeat' split
  all_goals try have e_waitEnd := State.waitEnd_eq _ _ (by assumption) (ps := ps) (Part.sub_trans (by decide) hps)
  all_goals refine ⟨_, rfl, ?_⟩
  all_goals first
    | rfl
    | assumption
    | (simp (disch := first | exact Part.sub_trans (by decide) hps | (intros; (try dsimp only); (repeat' split) <;> first | (with_reducible rfl) | (simp (disch := exact Part.sub_trans (by decide) hps) only [State.rest_ite, ite_self, foldl_rest, State.rest_regs, State.rest_tabBad, State.rest_ni, State.rest_cd, State.rest_pot, State.rest_wakeQ, State.endCmd_rest, State.waitEnd_rest]; done) | fail) | fail) only [State.rest_ite, ite_self, State.endCmd_rest, *]; done)

theorem State.failLoad_rest (s : State) (bank : Nat) {ps : List Part} (hps : Part.sub [.regs, .kt, .pot] ps = true) : (State.failLoad s bank).rest ps = s.rest ps := Part.lift hps (by simp (disch := decide) only [State.failLoad, State.setEpochSt_rest, State.modKt_rest, State.modPot_rest, State.setBankSt_rest, State.wr_rest])

theorem execCommandTimeout_rest (c : Fin 24) (s : State) {ps : List Part} (hps : Part.sub [.regs, .tabBad, .ni, .kt, .cd, .pot, .wakeQ] ps = true) : ∃ s', execCommandTimeout c s = .next s' ∧ s'.rest ps = s.rest ps := by
  simp only [execCommandTimeout]
  repeat' split
  all_goals try have e_waitEnd := State.waitEnd_eq _ _ (by assumption) (ps := ps) (Part.sub_trans (by decide) hps)
  all_goals refine ⟨_, rfl, ?_⟩
  all_goals first
    | rfl
    | assumption
    | (simp (disch := first | exact Part.sub_trans (by decide) hps | (intros; (try dsimp only); (repeat' split) <;> first | (with_reducible rfl) | (simp (disch := exact Part.sub_trans (by decide) hps) only [State.rest_ite, ite_self, foldl_rest, State.rest_regs, State.rest_tabBad, State.rest_ni, State.rest_kt, State.rest_cd, State.rest_pot, State.rest_wakeQ, State.endCmd_rest, State.waitEnd_rest, State.failLoad_rest]; done) | fail) | fail) only [State.rest_ite, ite_self, State.endCmd_rest, State.failLoad_rest, *]; done)

theorem State.onCmd_rest (s : State) (c op : Nat) (k : PotCmd → State) {ps : List Part} (hps : Part.sub [] ps = true) (hf : ∀ x, (k x).rest ps = s.rest ps) : (State.onCmd s c op k).rest ps = s.rest ps := by
  simp only [State.onCmd]
  (repeat' split) <;> first | rfl | exact hf _

theorem execQuery_rest (c : Fin 24) (s : State) {ps : List Part} (hps : Part.sub [.pot] ps = true) : ∃ s', execQuery c s = .next s' ∧ s'.rest ps = s.rest ps := by
  simp only [execQuery]
  (repeat' split) <;> first | (refine ⟨_, rfl, Part.lift hps ?_⟩; first | (with_reducible rfl) | (simp (disch := first | decide | (intros; (try dsimp only); (repeat' split) <;> first | (with_reducible rfl) | (simp (disch := decide) only [State.rest_ite, ite_self, foldl_rest, State.rest_pot, State.runCmd_rest, State.potDone_rest]; done) | fail) | fail) only [State.runCmd_rest, State.potDone_rest]; done) | rfl)

theorem State.potRead_rest (s : State) (ident o size : Nat) {ps : List Part} (hps : Part.sub [.regs, .tabBad, .ni, .wakeQ] ps = true) : (State.potRead s ident o size).rest ps = s.rest ps := Part.lift hps (by simp (disch := decide) only [State.potRead, State.potSend_rest])

theorem State.potWrite_rest (s : State) (ident o size : Nat) (v : W64) {ps : List Part} (hps : Part.sub [.regs, .tabBad, .ni, .wakeQ] ps = true) : (State.potWrite s ident o size v).rest ps = s.rest ps := Part.lift hps (by simp (disch := decide) only [State.potWrite, State.potSend_rest])

theorem State.regCmd_rest (s : State) (c : Nat) (x : PotCmd) (go : State → Nat → Nat → State) {ps : List Part} (hps : Part.sub [.pot, .wakeQ] ps = true) (hf : ∀ s o z, (go s o z).rest ps = s.rest ps) : (State.regCmd s c x go).rest ps = s.rest ps := by
  have pd := fun l a => State.potDone_rest s c l a (ps := ps) (Part.sub_trans (by decide) hps)
  have st := State.startCmd_rest s c (ps := ps) (Part.sub_trans (by decide) hps)
  simp only [State.regCmd]
  generalize (if bit (x.word 1) 32 = true then 8 else 4) = z
  split
  · exact pd _ _
  split
  · exact pd _ _
  split
  · split
    · split
      · rw [State.askWake_rest _ _ (Part.sub_trans (by decide) hps), State.modCmd_rest _ _ _ (Part.sub_trans (by decide) hps), st]
      · rfl
    · rw [hf, st]
  · rw [hf, st]

theorem execReadReg_rest (c : Fin 24) (s : State) {ps : List Part} (hps : Part.sub [.regs, .tabBad, .ni, .pot, .wakeQ] ps = true) : ∃ s', execReadReg c s = .next s' ∧ s'.rest ps = s.rest ps := by
  simp only [execReadReg]
  repeat' (first | (with_reducible rfl) | assumption | (refine ⟨_, rfl, Part.lift hps ?_⟩) | (simp (disch := first | decide | (intros; (try dsimp only); (repeat' split) <;> first | (with_reducible rfl) | (simp (disch := decide) only [State.rest_ite, ite_self, foldl_rest, State.rest_regs, State.rest_tabBad, State.rest_ni, State.rest_pot, State.rest_wakeQ, State.regCmd_rest, State.onCmd_rest, State.modCmd_rest, State.potRead_rest]; done) | fail) | fail) only [State.rest_ite, ite_self, State.regCmd_rest, State.onCmd_rest, State.potRead_rest, State.modCmd_rest]; done) | (apply State.regCmd_rest) | (apply State.onCmd_rest) | (show Part.sub _ _ = true; first | decide | exact Part.sub_trans (by decide) hps) | (refine (foldl_rest _ _ _ ?_).trans ?_) | (intro _ _; refine Part.lift hps ?_; try dsimp only) | (intro _ _; try dsimp only) | (intro _; try dsimp only) | split | (simp (disch := first | decide | (intros; (try dsimp only); (repeat' split) <;> first | (with_reducible rfl) | (simp (disch := decide) only [State.rest_ite, ite_self, foldl_rest, State.rest_regs, State.rest_tabBad, State.rest_ni, State.rest_pot, State.rest_wakeQ, State.regCmd_rest, State.onCmd_rest, State.modCmd_rest, State.potRead_rest]; done) | fail) | fail) only [State.rest_ite, ite_self, foldl_rest, State.rest_regs, State.rest_tabBad, State.rest_ni, State.rest_pot, State.rest_wakeQ, State.regCmd_rest, State.onCmd_rest, State.modCmd_rest, State.potRead_rest]) | (dsimp only) | rfl)

theorem execWriteReg_rest (c : Fin 24) (s : State) {ps : List Part} (hps : Part.sub [.regs, .tabBad, .ni, .pot, .wakeQ] ps = true) : ∃ s', execWriteReg c s = .next s' ∧ s'.rest ps = s.rest ps := by
  simp only [execWriteReg]
  refine ⟨_, rfl, State.onCmd_rest _ _ _ _ (Part.sub_trans (by decide) hps) (fun x => ?_)⟩
  split
  · refine State.regCmd_rest _ _ _ _ (Part.sub_trans (by decide) hps) (fun s o z => ?_)
    simp (disch := (exact Part.sub_trans (by decide) hps)) only [State.modCmd_rest, State.potWrite_rest]
  split
  · split
    · have e := State.takeComp_eq _ _ _ (by assumption) (ps := ps) (Part.sub_trans (by decide) hps)
      split
      · simp (disch := (exact Part.sub_trans (by decide) hps)) only [State.modCmd_rest, State.potRead_rest, e]
      · rfl
    · rfl
  · rfl

theorem execSetShaper_rest (c : Fin 24) (s : State) {ps : List Part} (hps : Part.sub [.regs, .pend, .ni, .pot] ps = true) : ∃ s', execSetShaper c s = .next s' ∧ s'.rest ps = s.rest ps := by
  simp only [execSetShaper]
  repeat' (first | (with_reducible rfl) | assumption | (refine ⟨_, rfl, Part.lift hps ?_⟩) | (simp (disch := first | decide | (intros; (try dsimp only); (repeat' split) <;> first | (with_reducible rfl) | (simp (disch := decide) only [State.rest_ite, ite_self, foldl_rest, State.rest_regs_pend, State.rest_regs, State.rest_pend, State.rest_ni, State.rest_pot, State.runCmd_rest, State.overRange_rest, State.setPend_rest, State.potDone_rest, State.commitShapers_rest]; done) | fail) | fail) only [State.rest_ite, ite_self, State.overRange_rest, State.potDone_rest, State.runCmd_rest, State.setPend_rest, State.commitShapers_rest]; done) | (apply State.runCmd_rest) | (apply State.overRange_rest) | (show Part.sub _ _ = true; first | decide | exact Part.sub_trans (by decide) hps) | (refine (foldl_rest _ _ _ ?_).trans ?_) | (intro _ _; refine Part.lift hps ?_; try dsimp only) | (intro _ _; try dsimp only) | (intro _; try dsimp only) | split | (simp (disch := first | decide | (intros; (try dsimp only); (repeat' split) <;> first | (with_reducible rfl) | (simp (disch := decide) only [State.rest_ite, ite_self, foldl_rest, State.rest_regs_pend, State.rest_regs, State.rest_pend, State.rest_ni, State.rest_pot, State.runCmd_rest, State.overRange_rest, State.setPend_rest, State.potDone_rest, State.commitShapers_rest]; done) | fail) | fail) only [State.rest_ite, ite_self, foldl_rest, State.rest_regs_pend, State.rest_regs, State.rest_pend, State.rest_ni, State.rest_pot, State.runCmd_rest, State.overRange_rest, State.setPend_rest, State.potDone_rest, State.commitShapers_rest]) | (dsimp only) | rfl)

theorem execSetMeter_rest (c : Fin 24) (s : State) {ps : List Part} (hps : Part.sub [.regs, .pend, .ni, .pot] ps = true) : ∃ s', execSetMeter c s = .next s' ∧ s'.rest ps = s.rest ps := by
  simp only [execSetMeter]
  repeat' (first | (with_reducible rfl) | assumption | (refine ⟨_, rfl, Part.lift hps ?_⟩) | (simp (disch := first | decide | (intros; (try dsimp only); (repeat' split) <;> first | (with_reducible rfl) | (simp (disch := decide) only [State.rest_ite, ite_self, foldl_rest, State.rest_regs_pend, State.rest_regs, State.rest_pend, State.rest_ni, State.rest_pot, State.setPend_rest, State.potDone_rest, State.commitMeters_rest, State.modNi_rest, State.runCmd_rest, State.overRange_rest]; done) | fail) | fail) only [State.rest_ite, ite_self, State.potDone_rest, State.overRange_rest, State.runCmd_rest, State.modNi_rest, State.setPend_rest, State.commitMeters_rest]; done) | (apply State.runCmd_rest) | (apply State.overRange_rest) | (show Part.sub _ _ = true; first | decide | exact Part.sub_trans (by decide) hps) | (refine (foldl_rest _ _ _ ?_).trans ?_) | (intro _ _; refine Part.lift hps ?_; try dsimp only) | (intro _ _; try dsimp only) | (intro _; try dsimp only) | split | (simp (disch := first | decide | (intros; (try dsimp only); (repeat' split) <;> first | (with_reducible rfl) | (simp (disch := decide) only [State.rest_ite, ite_self, foldl_rest, State.rest_regs_pend, State.rest_regs, State.rest_pend, State.rest_ni, State.rest_pot, State.setPend_rest, State.potDone_rest, State.commitMeters_rest, State.modNi_rest, State.runCmd_rest, State.overRange_rest]; done) | fail) | fail) only [State.rest_ite, ite_self, foldl_rest, State.rest_regs_pend, State.rest_regs, State.rest_pend, State.rest_ni, State.rest_pot, State.setPend_rest, State.potDone_rest, State.commitMeters_rest, State.modNi_rest, State.runCmd_rest, State.overRange_rest]) | (dsimp only) | rfl)

theorem State.commitLeaf_rest (s : State) (n : Nat) {ps : List Part} (hps : Part.sub [.regs, .pend] ps = true) : (State.commitLeaf s n).rest ps = s.rest ps := Part.lift hps (by simp (disch := decide) only [State.commitLeaf, State.commitRegs_rest])

theorem execLeafCfg_rest (c : Fin 24) (s : State) {ps : List Part} (hps : Part.sub [.regs, .pend, .pot] ps = true) : ∃ s', execLeafCfg c s = .next s' ∧ s'.rest ps = s.rest ps := by
  simp only [execLeafCfg]
  repeat' (first | (with_reducible rfl) | assumption | (refine ⟨_, rfl, Part.lift hps ?_⟩) | (simp (disch := first | decide | (intros; (try dsimp only); (repeat' split) <;> first | (with_reducible rfl) | (simp (disch := decide) only [State.rest_ite, ite_self, foldl_rest, State.rest_regs_pend, State.rest_regs, State.rest_pend, State.rest_pot, State.runCmd_rest, State.overRange_rest, State.setPend_rest, State.potDone_rest, State.commitLeaf_rest]; done) | fail) | fail) only [State.rest_ite, ite_self, State.overRange_rest, State.potDone_rest, State.runCmd_rest, State.setPend_rest, State.commitLeaf_rest]; done) | (apply State.runCmd_rest) | (apply State.overRange_rest) | (show Part.sub _ _ = true; first | decide | exact Part.sub_trans (by decide) hps) | (refine (foldl_rest _ _ _ ?_).trans ?_) | (intro _ _; refine Part.lift hps ?_; try dsimp only) | (intro _ _; try dsimp only) | (intro _; try dsimp only) | split | (simp (disch := first | decide | (intros; (try dsimp only); (repeat' split) <;> first | (with_reducible rfl) | (simp (disch := decide) only [State.rest_ite, ite_self, foldl_rest, State.rest_regs_pend, State.rest_regs, State.rest_pend, State.rest_pot, State.runCmd_rest, State.overRange_rest, State.setPend_rest, State.potDone_rest, State.commitLeaf_rest]; done) | fail) | fail) only [State.rest_ite, ite_self, foldl_rest, State.rest_regs_pend, State.rest_regs, State.rest_pend, State.rest_pot, State.runCmd_rest, State.overRange_rest, State.setPend_rest, State.potDone_rest, State.commitLeaf_rest]) | (dsimp only) | rfl)

theorem State.commitFilter_rest (s : State) (pg : CntPage) (k : Nat) {ps : List Part} (hps : Part.sub [.regs, .pend] ps = true) : (State.commitFilter s pg k).rest ps = s.rest ps := Part.lift hps (by simp (disch := decide) only [State.commitFilter, State.commitRegs_rest])

theorem execPmFilter_rest (c : Fin 24) (s : State) {ps : List Part} (hps : Part.sub [.regs, .pend, .pot] ps = true) : ∃ s', execPmFilter c s = .next s' ∧ s'.rest ps = s.rest ps := by
  simp only [execPmFilter]
  repeat' (first | (with_reducible rfl) | assumption | (refine ⟨_, rfl, Part.lift hps ?_⟩) | (simp (disch := first | decide | (intros; (try dsimp only); (repeat' split) <;> first | (with_reducible rfl) | (simp (disch := decide) only [State.rest_ite, ite_self, foldl_rest, State.rest_regs_pend, State.rest_regs, State.rest_pend, State.rest_pot, State.setPend_rest, State.potDone_rest, State.commitFilter_rest, State.runCmd_rest, State.fwDue_rest, State.fwNote_rest]; done) | fail) | fail) only [State.rest_ite, ite_self, foldl_rest, State.potDone_rest, State.commitFilter_rest, State.fwDue_rest, State.fwNote_rest, State.runCmd_rest, State.setPend_rest]; done) | (apply State.runCmd_rest) | (show Part.sub _ _ = true; first | decide | exact Part.sub_trans (by decide) hps) | (refine (foldl_rest _ _ _ ?_).trans ?_) | (intro _ _; refine Part.lift hps ?_; try dsimp only) | (intro _ _; try dsimp only) | (intro _; try dsimp only) | split | (simp (disch := first | decide | (intros; (try dsimp only); (repeat' split) <;> first | (with_reducible rfl) | (simp (disch := decide) only [State.rest_ite, ite_self, foldl_rest, State.rest_regs_pend, State.rest_regs, State.rest_pend, State.rest_pot, State.setPend_rest, State.potDone_rest, State.commitFilter_rest, State.runCmd_rest, State.fwDue_rest, State.fwNote_rest]; done) | fail) | fail) only [State.rest_ite, ite_self, foldl_rest, State.rest_regs_pend, State.rest_regs, State.rest_pend, State.rest_pot, State.setPend_rest, State.potDone_rest, State.commitFilter_rest, State.runCmd_rest, State.fwDue_rest, State.fwNote_rest]) | (dsimp only) | rfl)

theorem State.fenceSw_rest (s : State) (n : Nat) (on : Bool) {ps : List Part} (hps : Part.sub [.regs, .tabBad, .ni, .port, .wire, .wakeQ] ps = true) : (State.fenceSw s n on).rest ps = s.rest ps := Part.lift hps (by simp (disch := decide) only [State.fenceSw, State.setFld_rest, State.refenceHeld_rest, State.serveComps_rest])

theorem execFenceAgent_rest (c : Fin 24) (s : State) {ps : List Part} (hps : Part.sub [.regs, .tabBad, .ni, .port, .pot, .wire, .wakeQ] ps = true) : ∃ s', execFenceAgent c s = .next s' ∧ s'.rest ps = s.rest ps := by
  simp only [execFenceAgent]
  repeat' (first | (with_reducible rfl) | assumption | (refine ⟨_, rfl, Part.lift hps ?_⟩) | (simp (disch := first | decide | (intros; (try dsimp only); (repeat' split) <;> first | (with_reducible rfl) | (simp (disch := decide) only [State.rest_ite, ite_self, foldl_rest, State.rest_regs, State.rest_tabBad, State.rest_ni, State.rest_port, State.rest_pot, State.rest_wire, State.rest_wakeQ, State.potDone_rest, State.refenceHeld_rest, State.fenceSw_rest, State.runCmd_rest, State.overRange_rest, State.serveComps_rest, State.wr_rest]; done) | fail) | fail) only [State.rest_ite, ite_self, State.potDone_rest, State.overRange_rest, State.runCmd_rest, State.fenceSw_rest, State.wr_rest, State.refenceHeld_rest, State.serveComps_rest]; done) | (apply State.runCmd_rest) | (apply State.overRange_rest) | (show Part.sub _ _ = true; first | decide | exact Part.sub_trans (by decide) hps) | (refine (foldl_rest _ _ _ ?_).trans ?_) | (intro _ _; refine Part.lift hps ?_; try dsimp only) | (intro _ _; try dsimp only) | (intro _; try dsimp only) | split | (simp (disch := first | decide | (intros; (try dsimp only); (repeat' split) <;> first | (with_reducible rfl) | (simp (disch := decide) only [State.rest_ite, ite_self, foldl_rest, State.rest_regs, State.rest_tabBad, State.rest_ni, State.rest_port, State.rest_pot, State.rest_wire, State.rest_wakeQ, State.potDone_rest, State.refenceHeld_rest, State.fenceSw_rest, State.runCmd_rest, State.overRange_rest, State.serveComps_rest, State.wr_rest]; done) | fail) | fail) only [State.rest_ite, ite_self, foldl_rest, State.rest_regs, State.rest_tabBad, State.rest_ni, State.rest_port, State.rest_pot, State.rest_wire, State.rest_wakeQ, State.potDone_rest, State.refenceHeld_rest, State.fenceSw_rest, State.runCmd_rest, State.overRange_rest, State.serveComps_rest, State.wr_rest]) | (dsimp only) | rfl)

theorem execUnfence_rest (c : Fin 24) (s : State) {ps : List Part} (hps : Part.sub [.regs, .tabBad, .ni, .port, .pot, .wire, .wakeQ] ps = true) : ∃ s', execUnfence c s = .next s' ∧ s'.rest ps = s.rest ps := by
  simp only [execUnfence]
  repeat' (first | (with_reducible rfl) | assumption | (refine ⟨_, rfl, Part.lift hps ?_⟩) | (simp (disch := first | decide | (intros; (try dsimp only); (repeat' split) <;> first | (with_reducible rfl) | (simp (disch := decide) only [State.rest_ite, ite_self, foldl_rest, State.rest_regs, State.rest_tabBad, State.rest_ni, State.rest_port, State.rest_pot, State.rest_wire, State.rest_wakeQ, State.runCmd_rest, State.overRange_rest, State.potDone_rest, State.wr_rest, State.fenceSw_rest]; done) | fail) | fail) only [State.rest_ite, foldl_rest, State.overRange_rest, State.potDone_rest, ite_self, State.runCmd_rest, State.fenceSw_rest, State.wr_rest]; done) | (apply State.runCmd_rest) | (apply State.overRange_rest) | (show Part.sub _ _ = true; first | decide | exact Part.sub_trans (by decide) hps) | (refine (foldl_rest _ _ _ ?_).trans ?_) | (intro _ _; refine Part.lift hps ?_; try dsimp only) | (intro _ _; try dsimp only) | (intro _; try dsimp only) | split | (simp (disch := first | decide | (intros; (try dsimp only); (repeat' split) <;> first | (with_reducible rfl) | (simp (disch := decide) only [State.rest_ite, ite_self, foldl_rest, State.rest_regs, State.rest_tabBad, State.rest_ni, State.rest_port, State.rest_pot, State.rest_wire, State.rest_wakeQ, State.runCmd_rest, State.overRange_rest, State.potDone_rest, State.wr_rest, State.fenceSw_rest]; done) | fail) | fail) only [State.rest_ite, ite_self, foldl_rest, State.rest_regs, State.rest_tabBad, State.rest_ni, State.rest_port, State.rest_pot, State.rest_wire, State.rest_wakeQ, State.runCmd_rest, State.overRange_rest, State.potDone_rest, State.wr_rest, State.fenceSw_rest]) | (dsimp only) | rfl)

theorem execSnapshot_rest (c : Fin 24) (s : State) {ps : List Part} (hps : Part.sub [.ni, .pot] ps = true) : ∃ s', execSnapshot c s = .next s' ∧ s'.rest ps = s.rest ps := by
  simp only [execSnapshot]
  repeat' (first | (with_reducible rfl) | assumption | (refine ⟨_, rfl, Part.lift hps ?_⟩) | (simp (disch := first | decide | (intros; (try dsimp only); (repeat' split) <;> first | (with_reducible rfl) | (simp (disch := decide) only [State.rest_ite, ite_self, foldl_rest, State.rest_ni, State.rest_pot, State.potDone_rest, State.modPot_rest, State.unitMgt_rest, State.runCmd_rest, State.startCmd_rest]; done) | fail) | fail) only [State.rest_ite, ite_self, foldl_rest, State.potDone_rest, State.modPot_rest, State.startCmd_rest, State.runCmd_rest, State.unitMgt_rest]; done) | (apply State.runCmd_rest) | (show Part.sub _ _ = true; first | decide | exact Part.sub_trans (by decide) hps) | (refine (foldl_rest _ _ _ ?_).trans ?_) | (intro _ _; refine Part.lift hps ?_; try dsimp only) | (intro _ _; try dsimp only) | (intro _; try dsimp only) | split | (simp (disch := first | decide | (intros; (try dsimp only); (repeat' split) <;> first | (with_reducible rfl) | (simp (disch := decide) only [State.rest_ite, ite_self, foldl_rest, State.rest_ni, State.rest_pot, State.potDone_rest, State.modPot_rest, State.unitMgt_rest, State.runCmd_rest, State.startCmd_rest]; done) | fail) | fail) only [State.rest_ite, ite_self, foldl_rest, State.rest_ni, State.rest_pot, State.potDone_rest, State.modPot_rest, State.unitMgt_rest, State.runCmd_rest, State.startCmd_rest]) | (dsimp only) | rfl)

theorem execDomainPower_rest (c : Fin 24) (s : State) {ps : List Part} (hps : Part.sub [.regs, .rt, .ni, .dom, .pot, .wakeQ] ps = true) : ∃ s', execDomainPower c s = .next s' ∧ s'.rest ps = s.rest ps := by
  simp only [execDomainPower]
  (repeat' split) <;> first | (refine ⟨_, rfl, Part.lift hps ?_⟩; first | (with_reducible rfl) | (simp (disch := first | decide | (intros; (try dsimp only); (repeat' split) <;> first | (with_reducible rfl) | (simp (disch := decide) only [State.rest_ite, ite_self, foldl_rest, State.rest_regs, State.rest_rt, State.rest_ni, State.rest_dom, State.rest_pot, State.runCmd_rest, State.writeRest_rest, State.potDone_rest, State.startCmd_rest, State.modCmd_rest, State.rest_wakeQ]; done) | fail) | fail) only [State.runCmd_rest, State.rest_ite, ite_self, State.potDone_rest, State.startCmd_rest, State.writeRest_rest, State.modCmd_rest]; done) | rfl)

theorem execQuiesce_rest (c : Fin 24) (s : State) {ps : List Part} (hps : Part.sub [.regs, .ni, .pot, .wakeQ] ps = true) : ∃ s', execQuiesce c s = .next s' ∧ s'.rest ps = s.rest ps := by
  unfold execQuiesce
  (repeat' split) <;> exact ⟨_, rfl, Part.lift hps (by simp (disch := first | decide | (intros; simp (disch := decide) only [State.rest_ite, ite_self, foldl_rest, State.rest_regs, State.rest_ni, State.rest_pot, State.runCmd_rest, State.potDone_rest, State.setPotClose_rest, State.startCmd_rest, State.rest_wakeQ]; done) | fail) only [State.runCmd_rest, State.rest_ite, ite_self, State.potDone_rest, State.startCmd_rest, State.setPotClose_rest])⟩

theorem execQuiesceOpen_rest (c : Fin 24) (s : State) {ps : List Part} (hps : Part.sub [.regs, .ni, .pot, .wakeQ] ps = true) : ∃ s', execQuiesceOpen c s = .next s' ∧ s'.rest ps = s.rest ps := by
  unfold execQuiesceOpen
  (repeat' split) <;> exact ⟨_, rfl, Part.lift hps (by simp (disch := first | decide | (intros; simp (disch := decide) only [State.rest_ite, ite_self, foldl_rest, State.rest_regs, State.rest_ni, State.rest_pot, State.runCmd_rest, State.potDone_rest, State.setPotClose_rest, State.rest_wakeQ]; done) | fail) only [State.runCmd_rest, State.rest_ite, ite_self, State.setPotClose_rest, State.potDone_rest])⟩

theorem execLinkRetrainCommand_rest (c : Fin 24) (s : State) {ps : List Part} (hps : Part.sub [.regs, .rt, .ni, .port, .lk, .cd, .pot, .seamDown, .wire, .owed, .used, .wakeQ] ps = true) : ∃ s', execLinkRetrainCommand c s = .next s' ∧ s'.rest ps = s.rest ps := by
  unfold execLinkRetrainCommand
  (repeat' split) <;> exact ⟨_, rfl, Part.lift hps (by simp (disch := first | decide | (intros; simp (disch := decide) only [State.rest_ite, ite_self, foldl_rest, State.rest_regs, State.rest_rt, State.rest_ni, State.rest_port, State.rest_lk, State.rest_cd, State.rest_pot, State.rest_seamDown, State.rest_wire, State.rest_owed, State.rest_used, State.rest_wakeQ, State.potDone_rest, State.lkRetrain_rest, State.runCmd_rest, State.setFld_rest, State.startCmd_rest]; done) | fail) only [State.runCmd_rest, State.rest_ite, ite_self, State.potDone_rest, State.startCmd_rest, State.setFld_rest, State.lkRetrain_rest])⟩

theorem execCaddyFreeze_rest (c : Fin 24) (s : State) {ps : List Part} (hps : Part.sub [.regs, .cd, .pot] ps = true) : ∃ s', execCaddyFreeze c s = .next s' ∧ s'.rest ps = s.rest ps := by
  unfold execCaddyFreeze
  (repeat' split) <;> exact ⟨_, rfl, Part.lift hps (by simp (disch := first | decide | (intros; simp (disch := decide) only [State.rest_ite, ite_self, foldl_rest, State.rest_regs, State.rest_cd, State.rest_pot, State.modCd_rest, State.potDone_rest, State.cdWrite_rest, State.onCmd_rest, State.startCmd_rest]; done) | fail) only [State.onCmd_rest, State.rest_ite, ite_self, State.potDone_rest, State.startCmd_rest, State.cdWrite_rest, State.modCd_rest])⟩

theorem execCaddyThaw_rest (c : Fin 24) (s : State) {ps : List Part} (hps : Part.sub [.regs, .cd, .pot] ps = true) : ∃ s', execCaddyThaw c s = .next s' ∧ s'.rest ps = s.rest ps := by
  unfold execCaddyThaw
  (repeat' split) <;> exact ⟨_, rfl, Part.lift hps (by simp (disch := first | decide | (intros; simp (disch := decide) only [State.rest_ite, ite_self, foldl_rest, State.rest_regs, State.rest_cd, State.rest_pot, State.modCd_rest, State.potDone_rest, State.cdWrite_rest, State.runCmd_rest]; done) | fail) only [State.runCmd_rest, State.rest_ite, ite_self, State.potDone_rest, State.modCd_rest, State.cdWrite_rest])⟩

theorem State.cdReadErrs_rest (s : State) (errs : CdErrs) {ps : List Part} (hps : Part.sub [.regs, .ni, .cd, .wakeQ] ps = true) : (State.cdReadErrs s errs).rest ps = s.rest ps := Part.lift hps (by
  simp (disch := first | decide | (intros; simp (disch := decide) only [State.rest_ite, ite_self, foldl_rest, State.rest_regs, State.rest_ni, State.rest_cd, State.modCd_rest, State.report_rest, State.bump_rest, State.setFld_rest, State.rest_wakeQ, State.reportUp_rest]; done) | fail) only [State.cdReadErrs, foldl_rest, State.rest_ite, ite_self, State.setFld_rest, State.bump_rest, State.modCd_rest, State.reportUp_rest])

theorem execCaddyRead_rest (c : Fin 24) (errs : CdErrs) (s : State) {ps : List Part} (hps : Part.sub [.regs, .tabBad, .ni, .cd, .pot, .wakeQ] ps = true) : ∃ s', execCaddyRead c errs s = .next s' ∧ s'.rest ps = s.rest ps := by
  simp only [execCaddyRead]
  repeat' (first | (with_reducible rfl) | assumption | (refine ⟨_, rfl, Part.lift hps ?_⟩) | (simp (disch := first | decide | (intros; (try dsimp only); (repeat' split) <;> first | (with_reducible rfl) | (simp (disch := decide) only [State.rest_ite, ite_self, foldl_rest, State.rest_regs, State.rest_tabBad, State.rest_ni, State.rest_cd, State.rest_pot, State.rest_wakeQ, State.potLine_rest, State.potDone_rest, State.startCmd_rest, State.modCmd_rest, State.modNi_rest, State.cdReadErrs_rest, State.onCmd_rest]; done) | fail) | fail) only [State.rest_ite, ite_self, foldl_rest, State.potDone_rest, State.startCmd_rest, State.modCmd_rest, State.modNi_rest, State.cdReadErrs_rest, State.onCmd_rest, State.potLine_rest]; done) | (apply State.onCmd_rest) | (show Part.sub _ _ = true; first | decide | exact Part.sub_trans (by decide) hps) | (refine (foldl_rest _ _ _ ?_).trans ?_) | (intro _ _; refine Part.lift hps ?_; try dsimp only) | (intro _ _; try dsimp only) | (intro _; try dsimp only) | split | (simp (disch := first | decide | (intros; (try dsimp only); (repeat' split) <;> first | (with_reducible rfl) | (simp (disch := decide) only [State.rest_ite, ite_self, foldl_rest, State.rest_regs, State.rest_tabBad, State.rest_ni, State.rest_cd, State.rest_pot, State.rest_wakeQ, State.potLine_rest, State.potDone_rest, State.startCmd_rest, State.modCmd_rest, State.modNi_rest, State.cdReadErrs_rest, State.onCmd_rest]; done) | fail) | fail) only [State.rest_ite, ite_self, foldl_rest, State.rest_regs, State.rest_tabBad, State.rest_ni, State.rest_cd, State.rest_pot, State.rest_wakeQ, State.potLine_rest, State.potDone_rest, State.startCmd_rest, State.modCmd_rest, State.modNi_rest, State.cdReadErrs_rest, State.onCmd_rest]) | (dsimp only) | rfl)

theorem execRingSetup_rest (c : Fin 24) (s : State) {ps : List Part} (hps : Part.sub [.regs, .pot] ps = true) : ∃ s', execRingSetup c s = .next s' ∧ s'.rest ps = s.rest ps := by
  unfold execRingSetup
  (repeat' split) <;> exact ⟨_, rfl, Part.lift hps (by simp (disch := first | decide | (intros; simp (disch := decide) only [State.rest_ite, ite_self, foldl_rest, State.rest_regs, State.rest_pot, State.potDone_rest, State.runCmd_rest, State.modRing_rest, State.wr_rest]; done) | fail) only [State.runCmd_rest, State.rest_ite, ite_self, State.potDone_rest, State.wr_rest, State.modRing_rest])⟩

theorem execRingSetupMailboxForm_rest (c : Fin 24) (s : State) {ps : List Part} (hps : Part.sub [.regs, .pot] ps = true) : ∃ s', execRingSetupMailboxForm c s = .next s' ∧ s'.rest ps = s.rest ps := by
  unfold execRingSetupMailboxForm
  (repeat' split) <;> exact ⟨_, rfl, Part.lift hps (by simp (disch := first | decide | (intros; simp (disch := decide) only [State.rest_ite, ite_self, foldl_rest, State.rest_regs, State.rest_pot, State.runCmd_rest, State.potDone_rest, State.wr_rest]; done) | fail) only [State.runCmd_rest, State.rest_ite, ite_self, State.potDone_rest, State.wr_rest])⟩

theorem execRingEnable_rest (c : Fin 24) (s : State) {ps : List Part} (hps : Part.sub [.regs, .tabBad, .ni, .pot, .wakeQ] ps = true) : ∃ s', execRingEnable c s = .next s' ∧ s'.rest ps = s.rest ps := by
  unfold execRingEnable
  (repeat' split) <;> exact ⟨_, rfl, Part.lift hps (by simp (disch := first | decide | (intros; simp (disch := decide) only [State.rest_ite, ite_self, foldl_rest, State.rest_regs, State.rest_tabBad, State.rest_ni, State.rest_pot, State.rest_wakeQ, State.potDone_rest, State.runCmd_rest, State.ringLine_rest, State.modRing_rest, State.setRingSt_rest]; done) | fail) only [State.runCmd_rest, State.rest_ite, ite_self, State.potDone_rest, State.setRingSt_rest, State.modRing_rest, State.ringLine_rest])⟩

theorem execRingDisable_rest (c : Fin 24) (s : State) {ps : List Part} (hps : Part.sub [.regs, .tabBad, .ni, .pot, .wakeQ] ps = true) : ∃ s', execRingDisable c s = .next s' ∧ s'.rest ps = s.rest ps := by
  unfold execRingDisable
  (repeat' split) <;> exact ⟨_, rfl, Part.lift hps (by simp (disch := first | decide | (intros; simp (disch := decide) only [State.rest_ite, ite_self, foldl_rest, State.rest_regs, State.rest_tabBad, State.rest_ni, State.rest_pot, State.rest_wakeQ, State.potDone_rest, State.runCmd_rest, State.ringLine_rest, State.modRing_rest, State.setRingSt_rest, State.startCmd_rest]; done) | fail) only [State.runCmd_rest, State.rest_ite, ite_self, State.potDone_rest, State.setRingSt_rest, State.modRing_rest, State.startCmd_rest, State.ringLine_rest])⟩

theorem execCancel_rest (c : Fin 24) (s : State) {ps : List Part} (hps : Part.sub [.pot] ps = true) : ∃ s', execCancel c s = .next s' ∧ s'.rest ps = s.rest ps := by
  unfold execCancel
  (repeat' split) <;> exact ⟨_, rfl, Part.lift hps (by simp (disch := first | decide | (intros; simp (disch := decide) only [State.rest_ite, ite_self, foldl_rest, State.rest_pot, State.potDone_rest, State.runCmd_rest, State.modRing_rest]; done) | fail) only [State.runCmd_rest, State.rest_ite, ite_self, State.potDone_rest, State.modRing_rest])⟩

theorem State.modLedger_rest (s : State) (f : Ledger → Ledger) {ps : List Part} (hps : Part.sub [.pot] ps = true) : (State.modLedger s f).rest ps = s.rest ps := Part.lift hps rfl

theorem State.volatileRepair_rest (s : State) (w : W64) {ps : List Part} (hps : Part.sub [.regs, .pot] ps = true) : (State.volatileRepair s w).rest ps = s.rest ps := Part.lift hps rfl

theorem State.flashAccess_eq (s : State) (a : Nat) (wr : Option Nat) {r0 : State} {ps : List Part} (hr : State.flashAccess s a wr = some r0) (hps : Part.sub [.regs, .tabBad, .ni, .pot, .wakeQ] ps = true) : r0.rest ps = s.rest ps := Part.lift hps (by
  unfold State.flashAccess at hr
  (repeat' split at hr) <;> (try cases hr) <;> first | rfl | contradiction | simp (disch := decide) only [State.modLedger_rest, State.potSend_rest])

theorem State.setProc_rest (s : State) (p : Proc) {ps : List Part} (hps : Part.sub [.pot] ps = true) : (State.setProc s p).rest ps = s.rest ps := Part.lift hps rfl

theorem State.procStep_rest (s : State) (p : Proc) {ps : List Part} (hps : Part.sub [.regs, .tabBad, .ni, .pot, .wakeQ] ps = true) : (State.procStep s p).1.rest ps = s.rest ps := by
  simp only [State.procStep]
  repeat' split
  all_goals try have e := State.flashAccess_eq _ _ _ (by assumption) (ps := ps) (Part.sub_trans (by decide) hps)
  all_goals first
    | rfl
    | (simp (disch := (exact Part.sub_trans (by decide) hps)) only [State.setProc_rest, *]; done)

theorem State.procStep_eq (s : State) (p : Proc) {r0 : State} {r1 : ProcEnd} {ps : List Part} (hr : State.procStep s p = (r0, r1)) (hps : Part.sub [.regs, .tabBad, .ni, .pot, .wakeQ] ps = true) : r0.rest ps = s.rest ps := by
  have e := State.procStep_rest s p hps
  rw [hr] at e
  exact e

theorem State.startProc_eq (s : State) {r0 : State} {r1 : ProcEnd} {ps : List Part} (hr : State.startProc s = (r0, r1)) (hps : Part.sub [.regs, .tabBad, .ni, .pot, .wakeQ] ps = true) : r0.rest ps = s.rest ps := Part.lift hps (by
  simp only [State.startProc] at hr
  (repeat' split at hr) <;> (try cases hr) <;> repeat' (first | (with_reducible rfl) | assumption | (simp (disch := first | decide | (intros; (try dsimp only); (repeat' split) <;> first | (with_reducible rfl) | (simp (disch := decide) only [State.rest_ite, ite_self, foldl_rest, State.rest_regs, State.rest_tabBad, State.rest_ni, State.rest_pot, State.rest_wakeQ, State.procStep_rest]; done) | fail) | fail) only [State.rest_ite, ite_self, foldl_rest, State.rest_regs, State.rest_tabBad, State.rest_ni, State.rest_pot, State.rest_wakeQ, State.procStep_rest]; done) | (show Part.sub _ _ = true; first | decide | exact Part.sub_trans (by decide) hps) | (refine (foldl_rest _ _ _ ?_).trans ?_) | (intro _ _; refine Part.lift hps ?_; try dsimp only) | (intro _ _; try dsimp only) | (intro _; try dsimp only) | split | (have e := State.procStep_eq _ _ (by assumption) (ps := [.regs, .tabBad, .ni, .pot, .wakeQ]) (by decide); rw [e]) | (simp (disch := first | decide | (intros; (try dsimp only); (repeat' split) <;> first | (with_reducible rfl) | (simp (disch := decide) only [State.rest_ite, ite_self, foldl_rest, State.rest_regs, State.rest_tabBad, State.rest_ni, State.rest_pot, State.rest_wakeQ, State.procStep_rest]; done) | fail) | fail) only [State.rest_ite, ite_self, foldl_rest, State.rest_regs, State.rest_tabBad, State.rest_ni, State.rest_pot, State.rest_wakeQ, State.procStep_rest]) | (dsimp only) | rfl))

theorem State.startProc_rest (s : State) {ps : List Part} (hps : Part.sub [.regs, .tabBad, .ni, .pot, .wakeQ] ps = true) : (State.startProc s).1.rest ps = s.rest ps := Part.lift hps (by simp (disch := decide) only [State.startProc, State.procStep_rest, State.rest_ite, ite_self])

theorem State.ledgerFail_rest (s : State) {ps : List Part} (hps : Part.sub [.regs, .ni, .pot, .wakeQ] ps = true) : (State.ledgerFail s).rest ps = s.rest ps := Part.lift hps (by
  simp (disch := first | decide | (intros; simp (disch := decide) only [State.rest_ite, ite_self, foldl_rest, State.rest_regs, State.rest_ni, State.rest_pot, State.potDone_rest, State.modLedger_rest, State.setFld_rest, State.reportPot_rest, State.volatileRepair_rest, State.rest_wakeQ]; done) | fail) only [State.ledgerFail, State.rest_ite, ite_self, foldl_rest, State.modLedger_rest, State.setFld_rest, State.reportPot_rest, State.volatileRepair_rest, State.potDone_rest])

theorem State.startCompact_rest (s : State) {ps : List Part} (hps : Part.sub [.regs, .pot] ps = true) : (State.startCompact s).rest ps = s.rest ps := Part.lift hps rfl

theorem State.ledgerNext_rest (s : State) {ps : List Part} (hps : Part.sub [.regs, .pot] ps = true) : (State.ledgerNext s).rest ps = s.rest ps := Part.lift hps (by
  simp only [State.ledgerNext]
  (repeat' split) <;> first | rfl | simp (disch := first | decide | (intros; simp (disch := decide) only [State.rest_ite, ite_self, foldl_rest, State.rest_regs, State.rest_pot, State.modLedger_rest, State.volatileRepair_rest, State.startCompact_rest]; done) | fail) only [State.rest_ite, ite_self, foldl_rest, State.rest_regs, State.rest_pot, State.modLedger_rest, State.volatileRepair_rest, State.startCompact_rest])

theorem State.endCompact_rest (s : State) {ps : List Part} (hps : Part.sub [.regs, .ni, .pot, .wakeQ] ps = true) : (State.endCompact s).rest ps = s.rest ps := Part.lift hps (by
  simp (disch := first | decide | (intros; simp (disch := decide) only [State.rest_ite, ite_self, foldl_rest, State.rest_regs, State.rest_ni, State.rest_pot, State.potDone_rest, State.modLedger_rest, State.setFld_rest, State.reportPot_rest, State.rest_wakeQ]; done) | fail) only [State.endCompact, State.rest_ite, ite_self, foldl_rest, State.modLedger_rest, State.setFld_rest, State.reportPot_rest, State.potDone_rest])

theorem State.writeDone_rest (s : State) {ps : List Part} (hps : Part.sub [.regs, .ni, .pot, .wakeQ] ps = true) : (State.writeDone s).rest ps = s.rest ps := Part.lift hps (by
  simp only [State.writeDone]
  (repeat' split) <;> first | (with_reducible rfl) | (simp (disch := first | decide | (intros; (try dsimp only); (repeat' split) <;> first | (with_reducible rfl) | (simp (disch := decide) only [State.rest_ite, ite_self, foldl_rest, State.rest_regs, State.rest_ni, State.rest_pot, State.endCompact_rest, State.modLedger_rest, State.ledgerNext_rest, State.startCompact_rest, State.setFld_rest, State.rest_wakeQ]; done) | fail) | fail) only [State.endCompact_rest, State.modLedger_rest, State.ledgerNext_rest, State.startCompact_rest, State.setFld_rest, State.rest_ite, ite_self]; done) | rfl)

theorem State.writeFailed_rest (s : State) {ps : List Part} (hps : Part.sub [.regs, .ni, .pot, .wakeQ] ps = true) : (State.writeFailed s).rest ps = s.rest ps := Part.lift hps (by simp (disch := decide) only [State.writeFailed, State.rest_ite, ite_self, State.modLedger_rest, State.setFld_rest, State.ledgerFail_rest])

theorem State.ledgerRun_rest (s : State) (r : ProcEnd) (fuel : Nat) {ps : List Part} (hps : Part.sub [.regs, .tabBad, .ni, .pot, .wakeQ] ps = true) :
    (State.ledgerRun s r fuel).rest ps = s.rest ps := by
  induction fuel generalizing s r with
  | zero => rfl
  | succ fuel ih =>
    simp only [State.ledgerRun]
    (repeat' split) <;> first | rfl | simp (disch := (exact Part.sub_trans (by decide) hps)) only [ih, State.writeDone_rest, State.writeFailed_rest, State.modLedger_rest, State.startProc_rest, State.rest_ite, ite_self]

theorem State.ledgerKick_rest (s : State) {ps : List Part} (hps : Part.sub [.regs, .tabBad, .ni, .pot, .wakeQ] ps = true) : (State.ledgerKick s).rest ps = s.rest ps := Part.lift hps (by simp (disch := decide) only [State.ledgerKick, State.rest_ite, ite_self, State.ledgerNext_rest, State.ledgerRun_rest, State.startProc_rest])

theorem State.ledgerGo_rest (s : State) {ps : List Part} (hps : Part.sub [.regs, .tabBad, .ni, .pot, .wakeQ] ps = true) : (State.ledgerGo s).rest ps = s.rest ps := by
  simp only [State.ledgerGo]
  split
  · rfl
  split
  · rfl
  have e := State.takeComp_eq _ _ _ (by assumption) (ps := ps) (Part.sub_trans (by decide) hps)
  split
  · rfl
  split
  · simp (disch := (exact Part.sub_trans (by decide) hps)) only [State.ledgerRun_rest, e]
  split
  · simp (disch := (exact Part.sub_trans (by decide) hps)) only [State.ledgerRun_rest, State.procStep_rest, e]
  split
  · rfl
  · simp (disch := (exact Part.sub_trans (by decide) hps)) only [State.ledgerRun_rest, State.procStep_rest, e]

theorem State.ledgerNews_rest (s : State) (w : W64) {ps : List Part} (hps : Part.sub [.regs, .tabBad, .ni, .pot, .wakeQ] ps = true) : (State.ledgerNews s w).rest ps = s.rest ps := Part.lift hps (by
  simp only [State.ledgerNews]
  (repeat' split) <;> first | rfl | simp (disch := first | decide | (intros; simp (disch := decide) only [State.rest_ite, ite_self, foldl_rest, State.rest_regs, State.rest_tabBad, State.rest_ni, State.rest_pot, State.rest_wakeQ, State.modLedger_rest, State.ledgerRun_rest]; done) | fail) only [State.rest_ite, ite_self, State.modLedger_rest, State.ledgerRun_rest])

theorem State.ledgerWait_rest (s : State) (h : Nat) (w : W64 × Nat) {ps : List Part} (hps : Part.sub [.pot] ps = true) : (State.ledgerWait s h w).rest ps = s.rest ps := Part.lift hps rfl

theorem execLedgerRepairReport_rest (r : Option Repair) (s : State) {ps : List Part} (hps : Part.sub [.regs, .tabBad, .ni, .slice, .pot, .wakeQ] ps = true) : ∃ s', execLedgerRepairReport r s = .next s' ∧ s'.rest ps = s.rest ps := by
  simp only [execLedgerRepairReport]
  (repeat' split) <;> exact ⟨_, rfl, Part.lift hps (by simp (disch := first | decide | (intros; simp (disch := decide) only [State.rest_ite, ite_self, foldl_rest, State.rest_regs, State.rest_tabBad, State.rest_ni, State.rest_slice, State.rest_pot, State.rest_wakeQ, State.askWake_rest, State.ledgerGo_rest, State.modSlice_rest, State.volatileRepair_rest, State.ledgerWait_rest, State.ledgerKick_rest]; done) | fail) only [State.rest_ite, ite_self, State.askWake_rest, State.ledgerGo_rest, State.modSlice_rest, State.volatileRepair_rest, State.ledgerWait_rest, State.ledgerKick_rest])⟩

theorem execLedgerRescan_rest (s : State) {ps : List Part} (hps : Part.sub [.regs, .tabBad, .ni, .slice, .pot, .wakeQ] ps = true) : ∃ s', execLedgerRescan s = .next s' ∧ s'.rest ps = s.rest ps := by
  simp only [execLedgerRescan]
  (repeat' split) <;> exact ⟨_, rfl, Part.lift hps (by simp (disch := first | decide | (intros; simp (disch := decide) only [State.rest_ite, ite_self, foldl_rest, State.rest_regs, State.rest_tabBad, State.rest_ni, State.rest_pot, State.rest_wakeQ, State.ledgerKick_rest, State.askWake_rest, State.modLedger_rest, State.rest_slice, State.diagAccess_rest, State.wr_rest]; done) | fail) only [State.ledgerKick_rest, State.askWake_rest, State.modLedger_rest, State.rest_ite, ite_self, State.diagAccess_rest, State.wr_rest])⟩

theorem execLedgerCompact_rest (c : Fin 24) (s : State) {ps : List Part} (hps : Part.sub [.regs, .tabBad, .ni, .pot, .wakeQ] ps = true) : ∃ s', execLedgerCompact c s = .next s' ∧ s'.rest ps = s.rest ps := by
  unfold execLedgerCompact
  (repeat' split) <;> exact ⟨_, rfl, Part.lift hps (by simp (disch := first | decide | (intros; simp (disch := decide) only [State.rest_ite, ite_self, foldl_rest, State.rest_regs, State.rest_tabBad, State.rest_ni, State.rest_pot, State.rest_wakeQ, State.runCmd_rest, State.potDone_rest, State.startCompact_rest, State.ledgerKick_rest, State.startCmd_rest]; done) | fail) only [State.runCmd_rest, State.rest_ite, ite_self, State.potDone_rest, State.startCmd_rest, State.startCompact_rest, State.ledgerKick_rest])⟩

theorem execPlatformWaitEnd_rest (s : State) {ps : List Part} (hps : Part.sub [.regs, .tabBad, .ni, .pot, .wakeQ] ps = true) : ∃ s', execPlatformWaitEnd s = .next s' ∧ s'.rest ps = s.rest ps := by
  simp only [execPlatformWaitEnd]
  (repeat' split) <;> exact ⟨_, rfl, Part.lift hps (by simp (disch := first | decide | (intros; simp (disch := decide) only [State.rest_ite, ite_self, foldl_rest, State.rest_regs, State.rest_tabBad, State.rest_ni, State.rest_pot, State.rest_wakeQ, State.procStep_rest, State.ledgerRun_rest]; done) | fail) only [State.procStep_rest, State.ledgerRun_rest, State.rest_ite, ite_self])⟩

theorem execPlatformPollLimit_rest (s : State) {ps : List Part} (hps : Part.sub [.regs, .tabBad, .ni, .pot, .wakeQ] ps = true) : ∃ s', execPlatformPollLimit s = .next s' ∧ s'.rest ps = s.rest ps := by
  unfold execPlatformPollLimit
  (repeat' split) <;> exact ⟨_, rfl, Part.lift hps (by first | rfl | simp (disch := decide) only [State.ledgerRun_rest, State.rest_ite, ite_self])⟩

theorem State.replayRec_rest (s : State) (r : W64 × W64) {ps : List Part} (hps : Part.sub [.regs, .ni, .slice] ps = true) : (State.replayRec s r).rest ps = s.rest ps := Part.lift hps (by simp (disch := decide) only [State.replayRec, State.rest_ite, ite_self, State.updateWear_rest, State.setSlice_rest, State.checkBcast_rest])

theorem State.replayLedger_rest (s : State) (own : Nat → Bool) {ps : List Part} (hps : Part.sub [.regs, .ni, .slice] ps = true) : (State.replayLedger s own).rest ps = s.rest ps := Part.lift hps (by
  simp (disch := first | decide | (intros; simp (disch := decide) only [State.rest_ite, ite_self, foldl_rest, State.rest_regs, State.rest_slice, State.replayRec_rest, State.rest_ni]; done) | fail) only [State.replayLedger, State.rest_ite, ite_self, foldl_rest, State.replayRec_rest])

theorem State.replayVolatile_rest (s : State) (own : Nat → Bool) {ps : List Part} (hps : Part.sub [.regs, .ni, .slice] ps = true) : (State.replayVolatile s own).rest ps = s.rest ps := Part.lift hps (by
  simp (disch := first | decide | (intros; simp (disch := decide) only [State.rest_ite, ite_self, foldl_rest, State.rest_regs, State.rest_slice, State.replayRec_rest, State.rest_ni]; done) | fail) only [State.replayVolatile, foldl_rest, State.replayRec_rest])

theorem State.readCopy_rest (s : State) (k : Nat) (c : List W64) {ps : List Part} (hps : Part.sub [.regs, .pot] ps = true) : (State.readCopy s k c).rest ps = s.rest ps := Part.lift hps (by simp (disch := decide) only [State.readCopy, State.rest_ite, ite_self, foldl_rest, State.setFld_rest, State.modLedger_rest])

theorem State.loadBank_rest (s : State) (n bank : Nat) {ps : List Part} (hps : Part.sub [.regs, .tab, .tabBad] ps = true) : (State.loadBank s n bank).rest ps = s.rest ps := Part.lift hps (by
  simp (disch := first | decide | (intros; simp (disch := decide) only [State.rest_ite, ite_self, foldl_rest, State.rest_tab_tabBad, State.rest_regs, State.rest_tab, State.rest_tabBad, State.wr_rest]; done) | fail) only [State.loadBank, foldl_rest, State.rest_tab_tabBad, State.wr_rest, State.rest_ite, ite_self, State.rest_regs, State.rest_tab, State.rest_tabBad])

theorem State.joinEpoch_rest (s : State) (n number : Nat) (arm : Option Switch) {ps : List Part} (hps : Part.sub [.regs, .pend, .isl, .ni, .pot] ps = true) : (State.joinEpoch s n number arm).rest ps = s.rest ps := Part.lift hps (by
  unfold State.joinEpoch
  (repeat' split) <;> first | rfl | simp (disch := decide) only [State.rest_ite, ite_self, State.modNi_rest, State.wr_rest, State.modSw_rest, State.qosDefaults_rest, State.freqPlan_rest, State.demoteFlows_rest])

theorem State.reloadTables_rest (s : State) (n : Nat) {ps : List Part} (hps : Part.sub [.regs, .pend, .tab, .tabBad, .isl, .ni, .pot] ps = true) : (State.reloadTables s n).rest ps = s.rest ps := Part.lift hps (by
  unfold State.reloadTables
  (repeat' split) <;> first | rfl | simp (disch := decide) only [State.rest_ite, ite_self, State.joinEpoch_rest, State.loadBank_rest])

theorem State.reloadRegs_rest (s : State) (own : Nat → Bool) {ps : List Part} (hps : Part.sub [.regs, .pend, .ni] ps = true) : (State.reloadRegs s own).rest ps = s.rest ps := Part.lift hps (by
  simp (disch := first | decide | (intros; (try dsimp only); (repeat' split) <;> first | (with_reducible rfl) | (simp (disch := decide) only [State.rest_ite, ite_self, foldl_rest, State.rest_regs_pend, State.rest_regs, State.rest_pend, State.rest_ni, State.applyReg_rest]; done) | fail) | fail) only [State.reloadRegs, foldl_rest, State.rest_ite, ite_self, State.applyReg_rest])

theorem State.askLinks_rest (s : State) (d : Nat) {ps : List Part} (hps : Part.sub [.regs, .lk, .cd, .seamDown] ps = true) : (State.askLinks s d).rest ps = s.rest ps := Part.lift hps (by
  simp (disch := first | decide | (intros; simp (disch := decide) only [State.rest_ite, ite_self, foldl_rest, State.rest_regs, State.rest_lk, State.rest_cd, State.rest_seamDown, State.lkAsk_rest]; done) | fail) only [State.askLinks, foldl_rest, State.lkAsk_rest])

theorem State.reloadNis_rest (s : State) (l : List Nat) {ps : List Part} (hps : Part.sub [.regs, .pend, .tab, .tabBad, .isl, .ni, .port, .st, .pot, .chk, .wire, .wakeQ] ps = true) : (State.reloadNis s l).rest ps = s.rest ps := Part.lift hps (by
  simp (disch := first | decide | (intros; simp (disch := decide) only [State.rest_ite, ite_self, foldl_rest, State.rest_tab_chk, State.rest_tab_tabBad, State.rest_tab_tabBad_chk, State.rest_regs_pend, State.rest_regs, State.rest_pend, State.rest_tab, State.rest_tabBad, State.rest_isl, State.rest_ni, State.rest_port, State.rest_st, State.rest_pot, State.rest_chk, State.rest_wire, State.rest_wakeQ, State.reloadShadow_rest, State.reloadTables_rest]; done) | fail) only [State.reloadNis, foldl_rest, State.reloadTables_rest, State.reloadShadow_rest])

theorem execDomainReloadDone_rest (d : Fin 72) (ok : Bool) (s : State) {ps : List Part} (hps : Part.sub [.pins, .regs, .pend, .tab, .tabBad, .isl, .ev, .rt, .ni, .port, .slice, .lk, .dom, .sb, .kt, .st, .cd, .tr, .sc, .pot, .pm, .latch, .dbgLatch, .chk, .seamDown, .wire, .cwire, .owed, .used, .held, .wakeQ] ps = true) : ∃ s', execDomainReloadDone d ok s = .next s' ∧ s'.rest ps = s.rest ps := by
  simp only [execDomainReloadDone]
  (repeat' split) <;> exact ⟨_, rfl, Part.lift hps (by simp (disch := first | decide | (intros; simp (disch := decide) only [State.rest_ite, ite_self, foldl_rest, State.rest_tab_chk, State.rest_tab_tabBad, State.rest_tab_tabBad_chk, State.rest_tab_tabBad_ev, State.rest_regs_pend, State.rest_regs_pend_latch_chk, State.rest_pins, State.rest_regs, State.rest_pend, State.rest_tab, State.rest_tabBad, State.rest_isl, State.rest_ev, State.rest_rt, State.rest_ni, State.rest_port, State.rest_slice, State.rest_lk, State.rest_dom, State.rest_sb, State.rest_kt, State.rest_st, State.rest_cd, State.rest_tr, State.rest_sc, State.rest_pot, State.rest_pm, State.rest_latch, State.rest_chk, State.rest_seamDown, State.rest_wire, State.rest_cwire, State.rest_owed, State.rest_used, State.rest_held, State.rest_wakeQ, State.reloadRegs_rest, State.raised_rest, State.replayVolatile_rest, State.domFail_rest, State.askWake_rest, State.replayLedger_rest, State.askLinks_rest, State.reloadNis_rest, State.rest_dbgLatch, State.commitLoss_rest]; done) | fail) only [State.reloadRegs_rest, State.raised_rest, State.replayVolatile_rest, State.domFail_rest, State.askWake_rest, State.replayLedger_rest, State.askLinks_rest, State.reloadNis_rest, State.rest_ite, ite_self, State.commitLoss_rest])⟩

end Sys2Proof.Machine
end

