-- ==== Sys2Proof/Laws/FrameSys.lean ====
section
/-! SUPPORT. Which components of the state each operation and each command may change: time, restarts, loads, resets, joins, diagnosis, counters, the Saucer, register access and receiving.
A lemma named after a function says that nothing else differs; of a command it says also that the command answers a next state. -/
namespace Sys2Proof.Machine

theorem State.modTime_rest (s : State) (f : Keeper → Keeper) {ps : List Part} (hps : Part.sub [.time] ps = true) : (State.modTime s f).rest ps = s.rest ps := Part.lift hps rfl

theorem State.markError_rest (s : State) (b : Bool) {ps : List Part} (hps : Part.sub [.regs, .time, .ni, .wakeQ] ps = true) : (State.markError s b).rest ps = s.rest ps := Part.lift hps (by simp (disch := decide) only [State.markError, State.reportTime_rest, State.bump_rest, State.modTime_rest])

theorem State.startTime_rest (s : State) (b : Bool) {ps : List Part} (hps : Part.sub [.regs, .time] ps = true) : (State.startTime s b).rest ps = s.rest ps := Part.lift hps rfl

theorem State.switchRef_rest (s : State) (b : Bool) (phase : Int) {ps : List Part} (hps : Part.sub [.regs, .time, .ni, .wakeQ] ps = true) : (State.switchRef s b phase).rest ps = s.rest ps := Part.lift hps (by simp (disch := decide) only [State.switchRef, State.rest_ite, ite_self, State.modTime_rest, State.setFld_rest, State.reportTime_rest])

theorem State.markGood_rest (s : State) (b : Bool) (phase : Int) {ps : List Part} (hps : Part.sub [.regs, .time, .ni, .wakeQ] ps = true) : (State.markGood s b phase).rest ps = s.rest ps := Part.lift hps (by simp (disch := decide) only [State.markGood, State.rest_ite, ite_self, State.startTime_rest, State.modTime_rest, State.switchRef_rest])

theorem execTrefEpochMark_rest (refB : Bool) (edge : RefEdge) (phase : Int) (s : State) {ps : List Part} (hps : Part.sub [.regs, .time, .ni, .wakeQ] ps = true) : ∃ s', execTrefEpochMark refB edge phase s = .next s' ∧ s'.rest ps = s.rest ps := by
  unfold execTrefEpochMark
  (repeat' split) <;> exact ⟨_, rfl, Part.lift hps (by first | rfl | simp (disch := decide) only [State.rest_ite, ite_self, State.markGood_rest, State.markError_rest])⟩

theorem State.keepPotOn_rest (s : State) {ps : List Part} (hps : Part.sub [.wakeQ] ps = true) : (State.keepPotOn s).rest ps = s.rest ps := Part.lift hps (by simp (disch := decide) only [State.keepPotOn, State.rest_ite, ite_self, State.askWake_rest])

theorem State.leaveSelected_rest (s : State) {ps : List Part} (hps : Part.sub [.regs, .time, .ni, .wakeQ] ps = true) : (State.leaveSelected s).rest ps = s.rest ps := Part.lift hps (by simp (disch := decide) only [State.leaveSelected, State.rest_ite, ite_self, State.reportTime_rest, State.modTime_rest, State.setFld_rest, State.keepPotOn_rest])

theorem execRefLost_rest (refB : Bool) (s : State) {ps : List Part} (hps : Part.sub [.regs, .time, .ni, .wakeQ] ps = true) : ∃ s', execRefLost refB s = .next s' ∧ s'.rest ps = s.rest ps := by
  simp only [execRefLost]
  (repeat' split) <;> exact ⟨_, rfl, Part.lift hps (by simp (disch := first | decide | (intros; simp (disch := decide) only [State.rest_ite, ite_self, foldl_rest, State.rest_regs, State.rest_time, State.rest_ni, State.bump_rest, State.modTime_rest, State.leaveSelected_rest, State.rest_wakeQ]; done) | fail) only [State.bump_rest, State.modTime_rest, State.leaveSelected_rest, State.rest_ite, ite_self])⟩

theorem execFtStartWrite_rest (s : State) {ps : List Part} (hps : Part.sub [.regs, .time] ps = true) : ∃ s', execFtStartWrite s = .next s' ∧ s'.rest ps = s.rest ps := by
  unfold execFtStartWrite
  (repeat' split) <;> exact ⟨_, rfl, Part.lift hps (by first | rfl | simp (disch := decide) only [State.rest_ite, ite_self, foldl_rest, State.rest_regs, State.rest_time, State.setFld_rest, State.modTime_rest])⟩

theorem execFtSwitchReqWrite_rest (s : State) {ps : List Part} (hps : Part.sub [.regs, .time] ps = true) : ∃ s', execFtSwitchReqWrite s = .next s' ∧ s'.rest ps = s.rest ps := by
  simp only [execFtSwitchReqWrite]
  (repeat' split) <;> exact ⟨_, rfl, Part.lift hps (by simp (disch := first | decide | (intros; simp (disch := decide) only [State.rest_ite, ite_self, foldl_rest, State.rest_regs, State.rest_time, State.setFld_rest, State.modTime_rest]; done) | fail) only [State.setFld_rest, State.modTime_rest, State.rest_ite, ite_self])⟩

theorem execKeeperSyncMark_rest (s : State) {ps : List Part} (hps : Part.sub [.time] ps = true) : ∃ s', execKeeperSyncMark s = .next s' ∧ s'.rest ps = s.rest ps := by
  unfold execKeeperSyncMark
  (repeat' split) <;> exact ⟨_, rfl, Part.lift hps (by first | rfl | simp (disch := decide) only [State.rest_ite, ite_self, foldl_rest, State.rest_time, State.modTime_rest])⟩

theorem State.islandSlip_rest (s : State) (i : Nat) (e : Int) {ps : List Part} (hps : Part.sub [.regs, .isl, .ni] ps = true) : (State.islandSlip s i e).rest ps = s.rest ps := Part.lift hps (by simp (disch := decide) only [State.islandSlip, State.rest_ite, ite_self, State.modIsl_rest, State.bump_rest, State.reportIsl_rest])

theorem State.takeLocalTime_rest (s : State) (i : Nat) (true16 : Nat) (drift : Int) {ps : List Part} (hps : Part.sub [.isl] ps = true) : (State.takeLocalTime s i true16 drift).rest ps = s.rest ps := Part.lift hps rfl

theorem State.disciplineIsland_rest (s : State) (i : Nat) (e : Int) (l16 true16 : Nat) (drift : Int) {ps : List Part} (hps : Part.sub [.regs, .isl, .ni] ps = true) : (State.disciplineIsland s i e l16 true16 drift).rest ps = s.rest ps := Part.lift hps (by simp (disch := decide) only [State.disciplineIsland, State.rest_ite, ite_self, State.modIsl_rest, State.islandSlip_rest])

theorem execIslandSyncMark_rest (i : Fin 48) (drift : Int) (err : W64) (s : State) {ps : List Part} (hps : Part.sub [.regs, .isl, .ni] ps = true) : ∃ s', execIslandSyncMark i drift err s = .next s' ∧ s'.rest ps = s.rest ps := by
  simp only [execIslandSyncMark]
  (repeat' split) <;> exact ⟨_, rfl, Part.lift hps (by simp (disch := first | decide | (intros; simp (disch := decide) only [State.rest_ite, ite_self, foldl_rest, State.rest_regs, State.rest_isl, State.rest_ni, State.modIsl_rest, State.bump_rest, State.islandSlip_rest, State.takeLocalTime_rest, State.setFld_rest, State.disciplineIsland_rest]; done) | fail) only [State.rest_ite, ite_self, State.modIsl_rest, State.bump_rest, State.islandSlip_rest, State.takeLocalTime_rest, State.setFld_rest, State.disciplineIsland_rest])⟩

theorem execLocalTimeCounterResume_rest (i : Fin 48) (s : State) {ps : List Part} (hps : Part.sub [.isl] ps = true) : ∃ s', execLocalTimeCounterResume i s = .next s' ∧ s'.rest ps = s.rest ps := by
  simp only [execLocalTimeCounterResume]
  (repeat' split) <;> exact ⟨_, rfl, Part.lift hps (by simp (disch := first | decide | (intros; simp (disch := decide) only [State.rest_ite, ite_self, foldl_rest, State.rest_isl, State.modIsl_rest]; done) | fail) only [State.rest_ite, ite_self, State.modIsl_rest])⟩

theorem State.driftDecide_rest (s : State) {ps : List Part} (hps : Part.sub [.regs, .time, .ni, .wakeQ] ps = true) : (State.driftDecide s).rest ps = s.rest ps := Part.lift hps (by
  simp only [State.driftDecide]
  (repeat' split) <;> first | rfl | simp (disch := first | decide | (intros; simp (disch := decide) only [State.rest_ite, ite_self, foldl_rest, State.rest_regs, State.rest_time, State.rest_ni, State.rest_wakeQ, State.modTime_rest, State.reportTime_rest, State.leaveSelected_rest]; done) | fail) only [State.rest_ite, ite_self, State.modTime_rest, State.reportTime_rest, State.leaveSelected_rest])

theorem State.driftStandby_rest (s : State) {ps : List Part} (hps : Part.sub [.regs, .time, .ni, .wakeQ] ps = true) : (State.driftStandby s).rest ps = s.rest ps := Part.lift hps (by simp (disch := decide) only [State.driftStandby, State.rest_ite, ite_self, State.reportTime_rest, State.modTime_rest])

theorem execDriftEvaluation_rest (rateA rateB rateMean holdA holdB : Int) (s : State) {ps : List Part} (hps : Part.sub [.regs, .time, .ni, .wakeQ] ps = true) : ∃ s', execDriftEvaluation rateA rateB rateMean holdA holdB s = .next s' ∧ s'.rest ps = s.rest ps := by
  unfold execDriftEvaluation
  (repeat' split) <;> exact ⟨_, rfl, Part.lift hps (by first | rfl | simp (disch := decide) only [State.rest_ite, ite_self, State.modTime_rest, State.wr_rest, State.driftDecide_rest, State.driftStandby_rest])⟩

theorem execIslandFreqStep_rest (i : Fin 48) (s : State) {ps : List Part} (hps : Part.sub [.isl] ps = true) : ∃ s', execIslandFreqStep i s = .next s' ∧ s'.rest ps = s.rest ps := by
  simp only [execIslandFreqStep]
  (repeat' split) <;> exact ⟨_, rfl, Part.lift hps (by simp (disch := first | decide | (intros; simp (disch := decide) only [State.rest_ite, ite_self, foldl_rest, State.rest_isl, State.modIsl_rest]; done) | fail) only [State.modIsl_rest, State.rest_ite, ite_self])⟩

theorem execEventCrossingSend_rest (i : Fin 48) (side : Fin 5) (s : State) {ps : List Part} (hps : Part.sub [.regs, .ev, .ni] ps = true) : ∃ s', execEventCrossingSend i side s = .next s' ∧ s'.rest ps = s.rest ps := by
  simp only [execEventCrossingSend]
  (repeat' split) <;> exact ⟨_, rfl, Part.lift hps (by simp (disch := first | decide | (intros; simp (disch := decide) only [State.rest_ite, ite_self, foldl_rest, State.rest_regs, State.rest_ev, State.rest_ni, State.reportIsl_rest, State.setFld_rest]; done) | fail) only [State.rest_ev, State.reportIsl_rest, State.setFld_rest, State.rest_ite, ite_self])⟩

theorem State.tick_rest (s : State) {ps : List Part} (hps : Part.sub [.uptime, .time, .ev] ps = true) : (State.tick s).rest ps = s.rest ps := Part.lift hps rfl

theorem State.setStage_rest (s : State) (v : Nat) {ps : List Part} (hps : Part.sub [.regs] ps = true) : (State.setStage s v).rest ps = s.rest ps := Part.lift hps rfl

theorem State.coreReset_rest (s : State) (stage : Nat) {ps : List Part} (hps : Part.sub [.regs, .tr] ps = true) : (State.coreReset s stage).rest ps = s.rest ps := Part.lift hps (by simp (disch := decide) only [State.coreReset, State.rest_ite, ite_self, State.rest_tr, State.setStage_rest, State.setFld_rest])

theorem State.rewindRings_rest (s : State) {ps : List Part} (hps : Part.sub [.pot] ps = true) : (State.rewindRings s).rest ps = s.rest ps := Part.lift hps (by
  simp (disch := first | decide | (intros; simp (disch := decide) only [State.rest_ite, ite_self, foldl_rest, State.rest_pot, State.modRing_rest]; done) | fail) only [State.rewindRings, foldl_rest, State.rest_ite, ite_self, State.modRing_rest])

theorem State.recReset_rest (s : State) (k : Nat) {ps : List Part} (hps : Part.sub [.regs, .cd] ps = true) : (State.recReset s k).rest ps = s.rest ps := Part.lift hps (by simp (disch := decide) only [State.recReset, State.cdWrite_rest])

theorem State.firmwareRuns_rest (s : State) {ps : List Part} (hps : Part.sub [.regs, .tabBad, .ni, .st, .cd, .pot, .wakeQ] ps = true) : (State.firmwareRuns s).rest ps = s.rest ps := Part.lift hps (by
  simp (disch := first | decide | (intros; simp (disch := decide) only [State.rest_ite, ite_self, foldl_rest, State.rest_regs, State.rest_tabBad, State.rest_ni, State.rest_st, State.rest_cd, State.rest_pot, State.rest_wakeQ, State.setStage_rest, State.modPot_rest, State.setLock_rest, State.recReset_rest, State.ringStart_rest, State.rewindRings_rest]; done) | fail) only [State.firmwareRuns, foldl_rest, State.setStage_rest, State.modPot_rest, State.setLock_rest, State.recReset_rest, State.rewindRings_rest, State.ringStart_rest])

theorem execPotCoreRestart_rest (found : FwFound) (s : State) {ps : List Part} (hps : Part.sub [.regs, .tabBad, .ni, .st, .cd, .tr, .pot, .wakeQ] ps = true) : ∃ s', execPotCoreRestart found s = .next s' ∧ s'.rest ps = s.rest ps := by
  unfold execPotCoreRestart
  (repeat' split) <;> exact ⟨_, rfl, Part.lift hps (by first | rfl | simp (disch := decide) only [State.setStage_rest, State.firmwareRuns_rest, State.modPot_rest, State.coreReset_rest, State.setFld_rest, State.rest_ite, ite_self])⟩

theorem State.commitProt_rest (s : State) (ws : List W64) {ps : List Part} (hps : Part.sub [.regs, .pend, .st] ps = true) : (State.commitProt s ws).rest ps = s.rest ps := Part.lift hps (by
  simp (disch := first | decide | (intros; simp (disch := decide) only [State.rest_ite, ite_self, foldl_rest, State.rest_regs_pend, State.rest_regs, State.rest_pend, State.rest_st, State.modSt_rest, State.setPend_rest, State.startCommit_rest]; done) | fail) only [State.commitProt, foldl_rest, State.modSt_rest, State.startCommit_rest, State.rest_ite, ite_self, State.setPend_rest])

theorem State.endReprotect_rest (s : State) (c code : Nat) (rsp : List W64) {ps : List Part} (hps : Part.sub [.regs, .tabBad, .ni, .st, .cd, .pot, .wakeQ] ps = true) : (State.endReprotect s c code rsp).rest ps = s.rest ps := Part.lift hps (by simp (disch := decide) only [State.endReprotect, State.modSt_rest, State.potDone_rest, State.firmwareRuns_rest, State.reportPot_rest, State.rest_ite, ite_self])

theorem execReprotect_rest (c : Fin 24) (t : ProtTable) (s : State) {ps : List Part} (hps : Part.sub [.regs, .pend, .tabBad, .ni, .st, .cd, .pot, .wakeQ] ps = true) : ∃ s', execReprotect c t s = .next s' ∧ s'.rest ps = s.rest ps := by
  unfold execReprotect
  (repeat' split) <;> exact ⟨_, rfl, Part.lift hps (by simp (disch := first | decide | (intros; simp (disch := decide) only [State.rest_ite, ite_self, foldl_rest, State.rest_regs_pend, State.rest_regs, State.rest_pend, State.rest_tabBad, State.rest_ni, State.rest_st, State.rest_cd, State.rest_pot, State.rest_wakeQ, State.potDone_rest, State.commitProt_rest, State.startCmd_rest, State.modCmd_rest, State.modPot_rest, State.onCmd_rest, State.endReprotect_rest]; done) | fail) only [ite_self, State.onCmd_rest, State.rest_ite, State.potDone_rest, State.startCmd_rest, State.modPot_rest, State.endReprotect_rest, State.commitProt_rest, State.modCmd_rest])⟩

theorem execReprotectWaitLimit_rest (s : State) {ps : List Part} (hps : Part.sub [.regs, .tabBad, .ni, .cd, .pot, .wakeQ] ps = true) : ∃ s', execReprotectWaitLimit s = .next s' ∧ s'.rest ps = s.rest ps := by
  unfold execReprotectWaitLimit
  (repeat' split) <;> exact ⟨_, rfl, Part.lift hps (by simp (disch := first | decide | (intros; simp (disch := decide) only [State.rest_ite, ite_self, foldl_rest, State.rest_regs, State.rest_tabBad, State.rest_ni, State.rest_cd, State.rest_pot, State.rest_wakeQ, State.potDone_rest, State.modPot_rest, State.ringStart_rest]; done) | fail) only [foldl_rest, State.potDone_rest, State.modPot_rest, State.rest_ite, ite_self, State.ringStart_rest])⟩

theorem execPotSramCe_rest (word : BitVec 16) (s : State) {ps : List Part} (hps : Part.sub [.regs] ps = true) : ∃ s', execPotSramCe word s = .next s' ∧ s'.rest ps = s.rest ps := by
  unfold execPotSramCe
  (repeat' split) <;> exact ⟨_, rfl, Part.lift hps (by first | rfl | simp (disch := decide) only [State.rest_ite, ite_self, foldl_rest, State.rest_regs, State.setFld_rest, State.bump_rest])⟩

theorem State.rebuildRing_rest (s : State) (r : Nat) {ps : List Part} (hps : Part.sub [.regs, .pot] ps = true) : (State.rebuildRing s r).rest ps = s.rest ps := Part.lift hps (by
  simp only [State.rebuildRing]
  (repeat' split) <;> first | (with_reducible rfl) | (simp (disch := first | decide | (intros; (try dsimp only); (repeat' split) <;> first | (with_reducible rfl) | (simp (disch := decide) only [State.rest_ite, ite_self, foldl_rest, State.rest_regs, State.rest_pot, State.modRing_rest, State.setRingSt_rest, State.setFld_rest]; done) | fail) | fail) only [State.modRing_rest, State.setRingSt_rest, State.setFld_rest]; done) | rfl)

theorem execPotSramUe_rest (word : BitVec 16) (rings : List (Fin 16)) (s : State) {ps : List Part} (hps : Part.sub [.regs, .ni, .kt, .st, .tr, .pot, .wakeQ] ps = true) : ∃ s', execPotSramUe word rings s = .next s' ∧ s'.rest ps = s.rest ps := by
  simp only [execPotSramUe]
  (repeat' split) <;> exact ⟨_, rfl, Part.lift hps (by simp (disch := first | decide | (intros; simp (disch := decide) only [State.rest_ite, ite_self, foldl_rest, State.rest_regs, State.rest_ni, State.rest_kt, State.rest_st, State.rest_tr, State.rest_pot, State.modSt_rest, State.coreReset_rest, State.failLoad_rest, State.setFld_rest, State.rewindRings_rest, State.modPot_rest, State.bump_rest, State.rebuildRing_rest, State.reportPot_rest, State.rest_wakeQ]; done) | fail) only [foldl_rest, State.modSt_rest, State.coreReset_rest, State.failLoad_rest, State.setFld_rest, State.rewindRings_rest, State.modPot_rest, State.bump_rest, State.reportPot_rest, State.rest_ite, ite_self, State.rebuildRing_rest])⟩

theorem State.sendWords_rest (s : State) (l : Load) (n sec part idx : Nat) (ws : List W64) {ps : List Part} (hps : Part.sub [.ni, .pot] ps = true) : (State.sendWords s l n sec part idx ws).rest ps = s.rest ps := Part.lift hps (by simp (disch := decide) only [State.sendWords, State.rest_ite, ite_self, State.modPot_rest, State.unitMgt_rest, foldl_rest])

theorem State.streamWords_rest (s : State) (l : Load) (ws : List W64) {ps : List Part} (hps : Part.sub [.ni, .pot] ps = true) : (State.streamWords s l ws).rest ps = s.rest ps := Part.lift hps (by
  simp (disch := first | decide | (intros; simp (disch := decide) only [State.rest_ite, ite_self, foldl_rest, State.rest_ni, State.rest_pot, State.sendWords_rest, State.modPot_rest]; done) | fail) only [State.streamWords, State.rest_ite, ite_self, foldl_rest, State.sendWords_rest, State.modPot_rest])

theorem State.sendShare_rest (s : State) (bank n : Nat) (e : Nat × Nat × Nat) {ps : List Part} (hps : Part.sub [.ni] ps = true) : (State.sendShare s bank n e).rest ps = s.rest ps := Part.lift hps (by
  simp (disch := first | decide | (intros; simp (disch := decide) only [State.rest_ite, ite_self, foldl_rest, State.rest_ni, State.unitMgt_rest]; done) | fail) only [State.sendShare, foldl_rest, State.unitMgt_rest])

theorem State.sendAgain_rest (s : State) (l : Load) (n : Nat) {ps : List Part} (hps : Part.sub [.ni] ps = true) : (State.sendAgain s l n).rest ps = s.rest ps := Part.lift hps (by
  simp (disch := first | decide | (intros; simp (disch := decide) only [State.rest_ite, ite_self, foldl_rest, State.rest_ni, State.unitMgt_rest, State.sendShare_rest]; done) | fail) only [State.sendAgain, foldl_rest, State.unitMgt_rest, State.sendShare_rest])

theorem State.startLoad_rest (s : State) (c : Nat) (x : PotCmd) (ws gaps gates : List W64) {ps : List Part} (hps : Part.sub [.regs, .ni, .dom, .kt, .pot, .wakeQ] ps = true) : (State.startLoad s c x ws gaps gates).rest ps = s.rest ps := Part.lift hps (by
  simp (disch := first | decide | (intros; simp (disch := decide) only [State.rest_ite, ite_self, foldl_rest, State.rest_regs, State.rest_ni, State.rest_dom, State.rest_kt, State.rest_pot, State.rest_wakeQ, State.potDone_rest, State.startCmd_rest, State.setBankSt_rest, State.wr_rest, State.setEpochSt_rest, State.modPot_rest, State.modNi_rest, State.modKt_rest, State.writeNames_rest, State.raiseRets_rest]; done) | fail) only [State.startLoad, State.rest_ite, ite_self, foldl_rest, State.potDone_rest, State.startCmd_rest, State.setBankSt_rest, State.wr_rest, State.setEpochSt_rest, State.modPot_rest, State.modNi_rest, State.modKt_rest, State.writeNames_rest, State.raiseRets_rest])

theorem State.loadVerdict_rest (s : State) (l : Load) (ok : Bool) {ps : List Part} (hps : Part.sub [.regs, .tab, .tabBad, .kt, .pot, .chk] ps = true) : (State.loadVerdict s l ok).rest ps = s.rest ps := Part.lift hps (by
  simp (disch := first | decide | (intros; simp (disch := decide) only [State.rest_ite, ite_self, foldl_rest, State.rest_tab_chk, State.rest_tab_tabBad, State.rest_tab_tabBad_chk, State.rest_regs, State.rest_tab, State.rest_tabBad, State.rest_kt, State.rest_pot, State.rest_chk, State.potDone_rest, State.modPot_rest, State.putShadow_rest, State.failLoad_rest]; done) | fail) only [State.loadVerdict, State.rest_ite, ite_self, foldl_rest, State.potDone_rest, State.modPot_rest, State.failLoad_rest, State.putShadow_rest])

theorem State.loadFinish_rest (s : State) (l : Load) {ps : List Part} (hps : Part.sub [.regs, .ni, .dom, .cd, .pot, .wakeQ] ps = true) : (State.loadFinish s l).rest ps = s.rest ps := Part.lift hps (by simp (disch := decide) only [State.loadFinish, State.rest_ite, ite_self, State.setEpochSt_rest, State.writeNames_rest, State.potDone_rest, State.modPot_rest, State.setBankSt_rest, State.recEpoch_rest, State.wr_rest])

theorem execLoadBlend_rest (c : Fin 24) (st : LoadStep) (s : State) {ps : List Part} (hps : Part.sub [.regs, .tab, .tabBad, .ni, .dom, .kt, .cd, .pot, .chk, .wakeQ] ps = true) : ∃ s', execLoadBlend c st s = .next s' ∧ s'.rest ps = s.rest ps := by
  simp only [execLoadBlend]
  (repeat' split) <;> exact ⟨_, rfl, Part.lift hps (by simp (disch := first | decide | (intros; simp (disch := decide) only [State.rest_ite, ite_self, foldl_rest, State.rest_regs, State.rest_tab, State.rest_tabBad, State.rest_ni, State.rest_dom, State.rest_kt, State.rest_cd, State.rest_pot, State.rest_chk, State.rest_wakeQ, State.onCmd_rest, State.startLoad_rest, State.streamWords_rest, State.loadVerdict_rest, State.modPot_rest, State.unitMgt_rest, State.failLoad_rest, State.potDone_rest, State.sendAgain_rest, State.loadFinish_rest]; done) | fail) only [State.rest_ite, ite_self, State.onCmd_rest, State.startLoad_rest, State.streamWords_rest, State.loadVerdict_rest, State.modPot_rest, State.unitMgt_rest, State.failLoad_rest, State.potDone_rest, State.sendAgain_rest, State.loadFinish_rest])⟩

theorem State.resetKeeps_rest (t s : State) (warm : Bool) {ps : List Part} (hps : Part.sub [.regs, .sc, .pot] ps = true) : (State.resetKeeps t s warm).rest ps = t.rest ps := Part.lift hps (by
  unfold State.resetKeeps
  extract_lets t1
  have h1 : t1.rest [.regs, .sc, .pot] = t.rest [.regs, .sc, .pot] := by
    simp (disch := decide) only [t1, State.rest_ite, State.setFld_rest, ite_self]
  clear_value t1
  split
  · exact h1
  · refine Eq.trans ?_ h1
    rw [← State.setFld_rest t1 Off.ST_WINDOW Fld.ST_WINDOW.MAX_NS (s.fld Off.ST_WINDOW Fld.ST_WINDOW.MAX_NS) (ps := [.regs, .sc, .pot]) (by decide)]
    rfl)

theorem State.resetAll_rest (s : State) (warm : Bool) {ps : List Part} (hps : Part.sub [.pending, .free, .pins, .wrapA, .wrapB, .uptime, .regs, .pend, .tab, .tabBad, .time, .isl, .ev, .rt, .ni, .port, .slice, .lk, .dom, .sb, .kt, .st, .cd, .tr, .sc, .pot, .pm, .dbg, .latch, .dbgLatch, .chk, .seamDown, .wire, .cwire, .owed, .used, .allHeld, .held, .nbrBase, .wakeQ] ps = true) : (State.resetAll s warm).rest ps = s.rest ps := Part.lift hps rfl

theorem execPorstNAssert_rest (s : State) {ps : List Part} (hps : Part.sub [.pending, .free, .pins, .wrapA, .wrapB, .uptime, .regs, .pend, .tab, .tabBad, .time, .isl, .ev, .rt, .ni, .port, .slice, .lk, .dom, .sb, .kt, .st, .cd, .tr, .sc, .pot, .pm, .dbg, .latch, .dbgLatch, .chk, .seamDown, .wire, .cwire, .owed, .used, .allHeld, .held, .nbrBase, .wakeQ] ps = true) : ∃ s', execPorstNAssert s = .next s' ∧ s'.rest ps = s.rest ps := by
  unfold execPorstNAssert
  (repeat' split) <;> exact ⟨_, rfl, Part.lift hps (by first | rfl | simp (disch := decide) only [State.rest_ite, ite_self, foldl_rest, State.rest_tab_chk, State.rest_tab_tabBad, State.rest_tab_tabBad_chk, State.rest_tab_tabBad_ev, State.rest_regs_pend, State.rest_regs_pend_latch_chk, State.rest_pending, State.rest_free, State.rest_pins, State.rest_wrapA, State.rest_wrapB, State.rest_uptime, State.rest_regs, State.rest_pend, State.rest_tab, State.rest_tabBad, State.rest_time, State.rest_isl, State.rest_ev, State.rest_rt, State.rest_ni, State.rest_port, State.rest_slice, State.rest_lk, State.rest_dom, State.rest_sb, State.rest_kt, State.rest_st, State.rest_cd, State.rest_tr, State.rest_sc, State.rest_pot, State.rest_pm, State.rest_dbg, State.rest_latch, State.rest_dbgLatch, State.rest_chk, State.rest_seamDown, State.rest_wire, State.rest_cwire, State.rest_owed, State.rest_used, State.rest_allHeld, State.rest_held, State.rest_nbrBase, State.rest_wakeQ, State.resetAll_rest])⟩

theorem execWarmNAssert_rest (s : State) {ps : List Part} (hps : Part.sub [.pending, .free, .pins, .wrapA, .wrapB, .uptime, .regs, .pend, .tab, .tabBad, .time, .isl, .ev, .rt, .ni, .port, .slice, .lk, .dom, .sb, .kt, .st, .cd, .tr, .sc, .pot, .pm, .dbg, .latch, .dbgLatch, .chk, .seamDown, .wire, .cwire, .owed, .used, .allHeld, .held, .nbrBase, .wakeQ] ps = true) : ∃ s', execWarmNAssert s = .next s' ∧ s'.rest ps = s.rest ps := by
  unfold execWarmNAssert
  (repeat' split) <;> exact ⟨_, rfl, Part.lift hps (by first | rfl | simp (disch := decide) only [State.rest_ite, ite_self, foldl_rest, State.rest_tab_chk, State.rest_tab_tabBad, State.rest_tab_tabBad_chk, State.rest_tab_tabBad_ev, State.rest_regs_pend, State.rest_regs_pend_latch_chk, State.rest_pending, State.rest_free, State.rest_pins, State.rest_wrapA, State.rest_wrapB, State.rest_uptime, State.rest_regs, State.rest_pend, State.rest_tab, State.rest_tabBad, State.rest_time, State.rest_isl, State.rest_ev, State.rest_rt, State.rest_ni, State.rest_port, State.rest_slice, State.rest_lk, State.rest_dom, State.rest_sb, State.rest_kt, State.rest_st, State.rest_cd, State.rest_tr, State.rest_sc, State.rest_pot, State.rest_pm, State.rest_dbg, State.rest_latch, State.rest_dbgLatch, State.rest_chk, State.rest_seamDown, State.rest_wire, State.rest_cwire, State.rest_owed, State.rest_used, State.rest_allHeld, State.rest_held, State.rest_nbrBase, State.rest_wakeQ, State.resetAll_rest])⟩

theorem execVddAonRise_rest (s : State) {ps : List Part} (hps : Part.sub [.pending, .free, .pins, .wrapA, .wrapB, .uptime, .regs, .pend, .tab, .tabBad, .time, .isl, .ev, .rt, .ni, .port, .slice, .lk, .dom, .sb, .kt, .st, .cd, .tr, .sc, .pot, .pm, .dbg, .latch, .dbgLatch, .chk, .seamDown, .wire, .cwire, .owed, .used, .allHeld, .held, .nbrBase, .wakeQ] ps = true) : ∃ s', execVddAonRise s = .next s' ∧ s'.rest ps = s.rest ps := by
  unfold execVddAonRise
  exact ⟨_, rfl, Part.lift hps rfl⟩

theorem State.bootFail_rest (s : State) (step cause : Nat) {ps : List Part} (hps : Part.sub [.regs] ps = true) : ∀ t, State.bootFail s step cause = .ok t ∨ State.bootFail s step cause = .error t → t.rest ps = s.rest ps := by
  intro t ht
  simp only [State.bootFail, State.bootFail] at ht
  (repeat' split at ht) <;> rcases ht with ht | ht <;> cases ht <;> simp (disch := (exact Part.sub_trans (by decide) hps)) only [State.setStage_rest, State.setFld_rest]

theorem State.boot1_rest (s : State) (b : BootIn) {ps : List Part} (hps : Part.sub [.pins, .regs, .allHeld, .nbrBase] ps = true) : ∀ t, State.boot1 s b = .ok t ∨ State.boot1 s b = .error t → t.rest ps = s.rest ps := by
  intro t ht
  simp only [State.boot1] at ht
  rcases ht with ht | ht <;> cases ht
  have e : ∀ s1 : State, ({ s1 with pins := { s1.pins with coldDue := false }, allHeld := false, nbrBase := .on } : State).rest ps = s1.rest ps :=
    fun s1 => Part.lift (s := s1) (Part.sub_trans (by decide) hps) (ps := [.pins, .allHeld, .nbrBase]) rfl
  simp (disch := (exact Part.sub_trans (by decide) hps)) only [State.setStage_rest, State.setFld_rest, e, State.rest_ite]
  rw [foldl_rest _ _ _ (fun s i => State.setFld_rest _ _ _ _ (Part.sub_trans (by decide) hps)), ite_self]

theorem State.boot3_rest (s : State) (b : BootIn) (cold : Bool) {ps : List Part} (hps : Part.sub [.regs, .cd] ps = true) : ∀ t, State.boot3 s b cold = .ok t ∨ State.boot3 s b cold = .error t → t.rest ps = s.rest ps := by
  intro t ht
  simp only [State.boot3] at ht
  split at ht
  · exact State.bootFail_rest _ _ _ (Part.sub_trans (by decide) hps) t ht
  split at ht
  · exact State.bootFail_rest _ _ _ (Part.sub_trans (by decide) hps) t ht
  · rcases ht with ht | ht <;> cases ht
    simp (disch := (exact Part.sub_trans (by decide) hps)) only [State.recReset_rest, State.setStage_rest, State.rest_ite, State.setFld_rest, ite_self]

theorem State.alignIsland_rest (s : State) (i : Nat) {ps : List Part} (hps : Part.sub [.isl] ps = true) : (State.alignIsland s i).rest ps = s.rest ps := Part.lift hps rfl

theorem State.boot4_rest (s : State) (b : BootIn) (cold : Bool) {ps : List Part} (hps : Part.sub [.regs, .time, .isl] ps = true) : ∀ t, State.boot4 s b cold = .ok t ∨ State.boot4 s b cold = .error t → t.rest ps = s.rest ps := by
  intro t ht
  unfold State.boot4 at ht
  split at ht
  · exact State.bootFail_rest _ _ _ (Part.sub_trans (by decide) hps) t ht
  · dsimp only at ht
    generalize hs : (if cold = true then _ else s : State) = s1 at ht
    have h1 : s1.rest ps = s.rest ps := by
      subst hs
      (repeat' split) <;> simp (disch := (exact Part.sub_trans (by decide) hps)) only [State.startTime_rest, State.setFld_rest, State.modTime_rest, State.wr_rest]
    split at ht
    · rcases ht with ht | ht <;> cases ht
      rw [foldl_rest _ _ _ (fun s i => State.alignIsland_rest _ _ (Part.sub_trans (by decide) hps)), h1]
    · rw [State.bootFail_rest _ _ _ (Part.sub_trans (by decide) hps) t ht, h1]

theorem State.bootWord_rest (s : State) (n sec part idx : Nat) (w : W64) {ps : List Part} (hps : Part.sub [.tab, .pot] ps = true) : (State.bootWord s n sec part idx w).rest ps = s.rest ps := Part.lift hps (by simp (disch := decide) only [State.bootWord, State.rest_ite, ite_self, State.setTab_rest, State.modPot_rest])

theorem State.bootGates_rest (s : State) (cur : Nat × Nat × Nat × Nat) (l : List W64) {ps : List Part} (hps : Part.sub [.tab, .pot] ps = true) :
    (State.bootGates s cur l).rest ps = s.rest ps := by
  induction l generalizing s cur with
  | nil => rfl
  | cons w l ih =>
    simp only [State.bootGates]
    (repeat' split) <;> rw [ih, State.bootWord_rest _ _ _ _ _ _ (Part.sub_trans (by decide) hps)]

theorem State.bootSection_rest (s : State) (ws : List W64) (k : Nat) {ps : List Part} (hps : Part.sub [.tab, .pot] ps = true) : (State.bootSection s ws k).rest ps = s.rest ps := Part.lift hps (by
  simp only [State.bootSection]
  repeat' (first | (with_reducible rfl) | assumption | (simp (disch := first | decide | (intros; (try dsimp only); (repeat' split) <;> first | (with_reducible rfl) | (simp (disch := decide) only [State.rest_ite, ite_self, foldl_rest, State.rest_tab, State.rest_pot, State.bootGates_rest, State.bootWord_rest]; done) | fail) | fail) only [State.rest_ite, foldl_rest, State.bootGates_rest, ite_self, State.bootWord_rest]; done) | (show Part.sub _ _ = true; first | decide | exact Part.sub_trans (by decide) hps) | (refine (foldl_rest _ _ _ ?_).trans ?_) | (intro _ _; refine Part.lift hps ?_; try dsimp only) | (intro _ _; try dsimp only) | (intro _; try dsimp only) | split | (simp (disch := first | decide | (intros; (try dsimp only); (repeat' split) <;> first | (with_reducible rfl) | (simp (disch := decide) only [State.rest_ite, ite_self, foldl_rest, State.rest_tab, State.rest_pot, State.bootGates_rest, State.bootWord_rest]; done) | fail) | fail) only [State.rest_ite, ite_self, foldl_rest, State.rest_tab, State.rest_pot, State.bootGates_rest, State.bootWord_rest]) | (dsimp only) | rfl))

theorem State.boot5_rest (s : State) (b : BootIn) {ps : List Part} (hps : Part.sub [.regs, .tab, .ni, .dom, .cd, .pot, .wakeQ] ps = true) : ∀ t, State.boot5 s b = .ok t ∨ State.boot5 s b = .error t → t.rest ps = s.rest ps := by
  intro t ht
  unfold State.boot5 at ht
  dsimp only at ht
  split at ht
  · exact State.bootFail_rest _ _ _ (Part.sub_trans (by decide) hps) t ht
  split at ht
  · exact State.bootFail_rest _ _ _ (Part.sub_trans (by decide) hps) t ht
  · rcases ht with ht | ht <;> cases ht
    rw [State.recEpoch_rest _ _ _ _ _ (Part.sub_trans (by decide) hps), State.writeNames_rest _ (Part.sub_trans (by decide) hps), State.wr_rest _ _ _ (Part.sub_trans (by decide) hps), State.setBankSt_rest _ _ _ (Part.sub_trans (by decide) hps), State.modPot_rest _ _ (Part.sub_trans (by decide) hps),
      foldl_rest _ _ _ (fun s i => State.wr_rest _ _ _ (Part.sub_trans (by decide) hps)), foldl_rest _ _ _ (fun s i => State.bootSection_rest _ _ _ (Part.sub_trans (by decide) hps))]

theorem State.bootReg_rest (s : State) (o : Nat) (w : W64) (dieB : Bool) {ps : List Part} (hps : Part.sub [.regs, .pot] ps = true) : (State.bootReg s o w dieB).rest ps = s.rest ps := Part.lift hps (by
  unfold State.bootReg
  (repeat' split) <;> first | rfl | simp (disch := decide) only [State.rest_ite, ite_self, foldl_rest, State.rest_regs, State.rest_pot, State.modPot_rest, State.wr_rest])

theorem State.boot6_rest (s : State) (b : BootIn) {ps : List Part} (hps : Part.sub [.regs, .pot] ps = true) : ∀ t, State.boot6 s b = .ok t ∨ State.boot6 s b = .error t → t.rest ps = s.rest ps := by
  intro t ht
  unfold State.boot6 at ht
  dsimp only at ht
  rcases ht with ht | ht
  · have ht := Except.ok.inj ht
    subst ht
    rw [State.fwNote_rest _ _ (Part.sub_trans (by decide) hps), State.wr_rest _ _ _ (Part.sub_trans (by decide) hps), State.setFld_rest _ _ _ _ (Part.sub_trans (by decide) hps), State.bootReg_rest _ _ _ _ (Part.sub_trans (by decide) hps),
      foldl_rest _ _ _ (fun s i => State.bootReg_rest _ _ _ _ (Part.sub_trans (by decide) hps)), foldl_rest _ _ _ (fun s i => State.bootReg_rest _ _ _ _ (Part.sub_trans (by decide) hps)),
      foldl_rest _ _ _ (fun s i => State.bootReg_rest _ _ _ _ (Part.sub_trans (by decide) hps))]
  · exact nomatch ht

theorem State.boot7_rest (s : State) (b : BootIn) {ps : List Part} (hps : Part.sub [.regs, .tab, .tabBad, .ni, .st, .pot, .chk, .wakeQ] ps = true) : ∀ t, State.boot7 s b = .ok t ∨ State.boot7 s b = .error t → t.rest ps = s.rest ps := by
  intro t ht
  unfold State.boot7 at ht
  dsimp only at ht
  split at ht
  · exact State.bootFail_rest _ _ _ (Part.sub_trans (by decide) hps) t ht
  split at ht
  · rw [State.bootFail_rest _ _ _ (Part.sub_trans (by decide) hps) t ht, State.reportSt_rest _ _ _ (Part.sub_trans (by decide) hps), State.setFld_rest _ _ _ _ (Part.sub_trans (by decide) hps), State.wr_rest _ _ _ (Part.sub_trans (by decide) hps)]
  · rcases ht with ht | ht
    · have ht := Except.ok.inj ht
      subst ht
      rw [State.reportSt_rest _ _ _ (Part.sub_trans (by decide) hps), State.modSt_rest _ _ (Part.sub_trans (by decide) hps), State.setFld_rest _ _ _ _ (Part.sub_trans (by decide) hps), State.setFld_rest _ _ _ _ (Part.sub_trans (by decide) hps),
        foldl_rest _ _ _ (fun s n => (State.modNi_rest _ _ _ (Part.sub_trans (by decide) hps)).trans (State.pushShadow_rest _ _ _ (Part.sub_trans (by decide) hps))),
        State.setFld_rest _ _ _ _ (Part.sub_trans (by decide) hps), State.setFld_rest _ _ _ _ (Part.sub_trans (by decide) hps), State.writeGates_rest _ (Part.sub_trans (by decide) hps), State.modSt_rest _ _ (Part.sub_trans (by decide) hps),
        foldl_rest _ _ _ (fun s n => State.wr_rest _ _ _ (Part.sub_trans (by decide) hps))]
    · exact nomatch ht

theorem State.boot8_rest (s : State) (b : BootIn) {ps : List Part} (hps : Part.sub [.regs, .pend, .time, .isl, .ni, .cd, .pot] ps = true) : ∀ t, State.boot8 s b = .ok t ∨ State.boot8 s b = .error t → t.rest ps = s.rest ps := by
  intro t ht
  unfold State.boot8 at ht
  dsimp only at ht
  rcases ht with ht | ht <;> cases ht
  rw [State.noteApertures_rest _ (Part.sub_trans (by decide) hps), State.recEpoch_rest _ _ _ _ _ (Part.sub_trans (by decide) hps), State.wr_rest _ _ _ (Part.sub_trans (by decide) hps), State.setBankSt_rest _ _ _ (Part.sub_trans (by decide) hps),
    foldl_rest _ _ _ (fun s n => (State.activateBoot_rest _ _ _ (Part.sub_trans (by decide) hps)).trans (State.wr_rest _ _ _ (Part.sub_trans (by decide) hps))), State.modTime_rest _ _ (Part.sub_trans (by decide) hps),
    State.recEpoch_rest _ _ _ _ _ (Part.sub_trans (by decide) hps)]

theorem State.boot9_rest (s : State) (b : BootIn) {ps : List Part} (hps : Part.sub [.regs, .ni, .slice, .pot, .wakeQ] ps = true) : ∀ t, State.boot9 s b = .ok t ∨ State.boot9 s b = .error t → t.rest ps = s.rest ps := by
  intro t ht
  unfold State.boot9 at ht
  split at ht
  · rcases ht with ht | ht <;> cases ht
    rfl
  split at ht
  · exact State.bootFail_rest _ _ _ (Part.sub_trans (by decide) hps) t ht
  split at ht <;> rcases ht with ht | ht <;> cases ht <;>
    simp (disch := (exact Part.sub_trans (by decide) hps)) only [State.replayLedger_rest, State.reportPot_rest, State.readCopy_rest, State.setFld_rest]

theorem State.bootEnd_rest (s : State) (b : BootIn) {ps : List Part} (hps : Part.sub [.uptime, .regs, .isl, .kt] ps = true) : (State.bootEnd s b).rest ps = s.rest ps := Part.lift hps (by
  simp (disch := first | decide | (intros; simp (disch := decide) only [State.rest_ite, ite_self, foldl_rest, State.rest_uptime, State.rest_regs, State.rest_isl, State.rest_kt, State.alignIsland_rest, State.setFld_rest, State.modKt_rest]; done) | fail) only [State.bootEnd, foldl_rest, State.rest_uptime, State.alignIsland_rest, State.setFld_rest, State.modKt_rest])

theorem bind_rest {r : Except State State} {f : State → Except State State} {s : State} {ps : List Part} (hr : ∀ t, r = .ok t ∨ r = .error t → t.rest ps = s.rest ps)
    (hf : ∀ s' t, f s' = .ok t ∨ f s' = .error t → t.rest ps = s'.rest ps) : ∀ t, r.bind f = .ok t ∨ r.bind f = .error t → t.rest ps = s.rest ps := by
  intro t ht
  cases r with
  | error e =>
    rcases ht with h | h
    · cases h
    · cases h
      exact hr _ (Or.inr rfl)
  | ok a => exact (hf a t ht).trans (hr a (Or.inl rfl))

theorem State.startUp_rest (s : State) (b : BootIn) {ps : List Part} (hps : Part.sub [.pins, .uptime, .regs, .pend, .tab, .tabBad, .time, .isl, .ni, .slice, .dom, .kt, .st, .cd, .pot, .chk, .allHeld, .nbrBase, .wakeQ] ps = true) : (State.startUp s b).rest ps = s.rest ps := by
  unfold State.startUp
  dsimp only
  generalize hr : Except.bind _ _ = r
  have key : ∀ t, r = .ok t ∨ r = .error t → t.rest ps = s.rest ps := by
    subst hr
    refine bind_rest (bind_rest (bind_rest (bind_rest (bind_rest (bind_rest (bind_rest ?_ ?_) ?_) ?_) ?_) ?_) ?_) ?_
    · exact State.boot1_rest _ _ (Part.sub_trans (by decide) hps)
    · exact fun s' => State.boot3_rest _ _ _ (Part.sub_trans (by decide) hps)
    · exact fun s' => State.boot4_rest _ _ _ (Part.sub_trans (by decide) hps)
    · exact fun s' => State.boot5_rest _ _ (Part.sub_trans (by decide) hps)
    · exact fun s' => State.boot6_rest _ _ (Part.sub_trans (by decide) hps)
    · exact fun s' => State.boot7_rest _ _ (Part.sub_trans (by decide) hps)
    · exact fun s' => State.boot8_rest _ _ (Part.sub_trans (by decide) hps)
    · exact fun s' => State.boot9_rest _ _ (Part.sub_trans (by decide) hps)
  cases r with
  | ok a => exact (State.bootEnd_rest a b (Part.sub_trans (by decide) hps)).trans (key a (Or.inl rfl))
  | error a => exact key a (Or.inr rfl)

theorem execPorstNRelease_rest (b : BootIn) (s : State) {ps : List Part} (hps : Part.sub [.pins, .wrapA, .wrapB, .uptime, .regs, .pend, .tab, .tabBad, .time, .isl, .ni, .slice, .dom, .kt, .st, .cd, .pot, .chk, .allHeld, .nbrBase, .wakeQ] ps = true) : ∃ s', execPorstNRelease b s = .next s' ∧ s'.rest ps = s.rest ps := by
  have e : ∀ (s : State) (p : Pins) (a b : Wrapper), ({ s with pins := p, wrapA := a, wrapB := b } : State).rest [.pins, .wrapA, .wrapB, .uptime, .regs, .pend, .tab, .tabBad, .time, .isl, .ni, .slice, .dom, .kt, .st, .cd, .pot, .chk, .allHeld, .nbrBase, .wakeQ] = s.rest [.pins, .wrapA, .wrapB, .uptime, .regs, .pend, .tab, .tabBad, .time, .isl, .ni, .slice, .dom, .kt, .st, .cd, .pot, .chk, .allHeld, .nbrBase, .wakeQ] := fun _ _ _ _ => rfl
  simp only [execPorstNRelease]
  split
  · exact ⟨_, rfl, rfl⟩
  · exact ⟨_, rfl, Part.lift hps (by simp (disch := decide) only [State.rest_ite, State.startUp_rest, e, ite_self])⟩

theorem execWarmNRelease_rest (b : BootIn) (s : State) {ps : List Part} (hps : Part.sub [.pins, .uptime, .regs, .pend, .tab, .tabBad, .time, .isl, .ni, .slice, .dom, .kt, .st, .cd, .pot, .chk, .allHeld, .nbrBase, .wakeQ] ps = true) : ∃ s', execWarmNRelease b s = .next s' ∧ s'.rest ps = s.rest ps := by
  unfold execWarmNRelease
  (repeat' split) <;> exact ⟨_, rfl, Part.lift hps (by first | rfl | simp (disch := decide) only [State.rest_ite, ite_self, State.rest_pins, State.startUp_rest])⟩

theorem execBootReadyWrite_rest (s : State) {ps : List Part} (hps : Part.sub [.pins, .regs, .tabBad, .ni, .lk, .sb, .st, .cd, .seamDown, .wakeQ] ps = true) : ∃ s', execBootReadyWrite s = .next s' ∧ s'.rest ps = s.rest ps := by
  unfold execBootReadyWrite
  (repeat' split) <;> exact ⟨_, rfl, Part.lift hps (by simp (disch := first | decide | (intros; simp (disch := decide) only [State.rest_ite, ite_self, foldl_rest, State.rest_pins, State.rest_regs, State.rest_tabBad, State.rest_ni, State.rest_lk, State.rest_sb, State.rest_st, State.rest_cd, State.rest_seamDown, State.rest_wakeQ, State.setLock_rest, State.sbReady_rest, State.setFld_rest, State.lkAsk_rest, State.setPotClose_rest]; done) | fail) only [foldl_rest, State.rest_pins, State.setLock_rest, State.sbReady_rest, State.setFld_rest, State.setPotClose_rest, State.rest_ite, ite_self, State.rest_regs, State.rest_tabBad, State.rest_ni, State.rest_lk, State.rest_sb, State.rest_st, State.rest_cd, State.rest_seamDown, State.rest_wakeQ, State.lkAsk_rest])⟩

theorem execVddFabDroop_rest (i : Fin 48) (stretch : Fin 129) (s : State) {ps : List Part} (hps : Part.sub [.regs] ps = true) : ∃ s', execVddFabDroop i stretch s = .next s' ∧ s'.rest ps = s.rest ps := by
  unfold execVddFabDroop
  (repeat' split) <;> exact ⟨_, rfl, Part.lift hps (by first | rfl | simp (disch := decide) only [State.rest_ite, ite_self, foldl_rest, State.rest_regs, State.setFld_rest])⟩

theorem State.modWrap_rest (s : State) (die : Die) (f : Wrapper → Wrapper) {ps : List Part} (hps : Part.sub [.wrapA, .wrapB] ps = true) : (State.modWrap s die f).rest ps = s.rest ps := Part.lift hps (by
  unfold State.modWrap
  (repeat' split) <;> first | rfl | simp (disch := decide) only [State.rest_ite, ite_self, foldl_rest, State.rest_wrapA, State.rest_wrapB])

theorem State.loadWir_rest (s : State) (die : Die) (v : BitVec 8) (d : WData) {ps : List Part} (hps : Part.sub [.wrapA, .wrapB] ps = true) : (State.loadWir s die v d).rest ps = s.rest ps := Part.lift hps (by simp (disch := decide) only [State.loadWir, State.modWrap_rest])

theorem execWsBypass_rest (wsi : Die × Bool) (s : State) {ps : List Part} (hps : Part.sub [.wrapA, .wrapB] ps = true) : ∃ s', execWsBypass wsi s = .next s' ∧ s'.rest ps = s.rest ps := by
  unfold execWsBypass
  (repeat' split) <;> exact ⟨_, rfl, Part.lift hps (by first | rfl | simp (disch := decide) only [State.modWrap_rest])⟩

theorem execWsExtest_rest (captured : Die × List Bool) (s : State) {ps : List Part} (hps : Part.sub [.wrapA, .wrapB] ps = true) : ∃ s', execWsExtest captured s = .next s' ∧ s'.rest ps = s.rest ps := by
  unfold execWsExtest
  (repeat' split) <;> exact ⟨_, rfl, Part.lift hps (by first | rfl | simp (disch := decide) only [State.loadWir_rest])⟩

theorem execWsPreload_rest (cells : Die × List Bool) (s : State) {ps : List Part} (hps : Part.sub [.wrapA, .wrapB] ps = true) : ∃ s', execWsPreload cells s = .next s' ∧ s'.rest ps = s.rest ps := by
  unfold execWsPreload
  (repeat' split) <;> exact ⟨_, rfl, Part.lift hps (by first | rfl | simp (disch := decide) only [State.loadWir_rest])⟩

theorem execWsIntestScan_rest (wsi : Die × List Bool) (s : State) {ps : List Part} (hps : Part.sub [.wrapA, .wrapB] ps = true) : ∃ s', execWsIntestScan wsi s = .next s' ∧ s'.rest ps = s.rest ps := by
  unfold execWsIntestScan
  (repeat' split) <;> exact ⟨_, rfl, Part.lift hps (by first | rfl | simp (disch := decide) only [State.loadWir_rest])⟩

theorem execMbistRun_rest (die : Die) (pass : Bool) (s : State) {ps : List Part} (hps : Part.sub [.wrapA, .wrapB] ps = true) : ∃ s', execMbistRun die pass s = .next s' ∧ s'.rest ps = s.rest ps := by
  unfold execMbistRun
  (repeat' split) <;> exact ⟨_, rfl, Part.lift hps (by first | rfl | simp (disch := decide) only [State.loadWir_rest])⟩

theorem execChainSel_rest (die : Die) (chain : BitVec 8) (s : State) {ps : List Part} (hps : Part.sub [.wrapA, .wrapB] ps = true) : ∃ s', execChainSel die chain s = .next s' ∧ s'.rest ps = s.rest ps := by
  unfold execChainSel
  (repeat' split) <;> exact ⟨_, rfl, Part.lift hps (by first | rfl | simp (disch := decide) only [State.loadWir_rest])⟩

theorem State.setJoin_rest (s : State) (v : Nat) {ps : List Part} (hps : Part.sub [.regs] ps = true) : (State.setJoin s v).rest ps = s.rest ps := Part.lift hps rfl

theorem State.recPartition_rest (s : State) (port event : Nat) (w2 w3 : W64) {ps : List Part} (hps : Part.sub [.regs, .cd] ps = true) : (State.recPartition s port event w2 w3).rest ps = s.rest ps := Part.lift hps (by simp (disch := decide) only [State.recPartition, State.cdWrite_rest])

theorem State.joinFail_rest (s : State) (reason : Nat) {ps : List Part} (hps : Part.sub [.regs, .cd, .pot] ps = true) : (State.joinFail s reason).rest ps = s.rest ps := Part.lift hps (by simp (disch := decide) only [State.joinFail, State.recPartition_rest, State.setJoin_rest, State.modPot_rest, State.setFld_rest, State.rest_ite, ite_self])

theorem State.joinGo_rest (s : State) (k : Nat) {ps : List Part} (hps : Part.sub [.pot] ps = true) : (State.joinGo s k).rest ps = s.rest ps := Part.lift hps rfl

theorem State.resetLinks_rest (s : State) (l : List Nat) {ps : List Part} (hps : Part.sub [.regs, .rt, .ni, .port, .lk, .cd, .pot, .seamDown, .wire, .owed, .used, .wakeQ] ps = true) : (State.resetLinks s l).rest ps = s.rest ps := Part.lift hps (by
  simp only [State.resetLinks]
  repeat' (first | (with_reducible rfl) | assumption | (simp (disch := first | decide | (intros; (try dsimp only); (repeat' split) <;> first | (with_reducible rfl) | (simp (disch := decide) only [State.rest_ite, ite_self, foldl_rest, State.rest_regs, State.rest_rt, State.rest_ni, State.rest_port, State.rest_lk, State.rest_cd, State.rest_pot, State.rest_seamDown, State.rest_wire, State.rest_owed, State.rest_used, State.rest_wakeQ, State.setWire_rest, State.modLk_rest, State.lkLost_rest]; done) | fail) | fail) only [foldl_rest, State.rest_ite, ite_self, State.lkLost_rest, State.setWire_rest, State.modLk_rest]; done) | (show Part.sub _ _ = true; first | decide | exact Part.sub_trans (by decide) hps) | (refine (foldl_rest _ _ _ ?_).trans ?_) | (intro _ _; refine Part.lift hps ?_; try dsimp only) | (intro _ _; try dsimp only) | (intro _; try dsimp only) | split | (simp (disch := first | decide | (intros; (try dsimp only); (repeat' split) <;> first | (with_reducible rfl) | (simp (disch := decide) only [State.rest_ite, ite_self, foldl_rest, State.rest_regs, State.rest_rt, State.rest_ni, State.rest_port, State.rest_lk, State.rest_cd, State.rest_pot, State.rest_seamDown, State.rest_wire, State.rest_owed, State.rest_used, State.rest_wakeQ, State.setWire_rest, State.modLk_rest, State.lkLost_rest]; done) | fail) | fail) only [State.rest_ite, ite_self, foldl_rest, State.rest_regs, State.rest_rt, State.rest_ni, State.rest_port, State.rest_lk, State.rest_cd, State.rest_pot, State.rest_seamDown, State.rest_wire, State.rest_owed, State.rest_used, State.rest_wakeQ, State.setWire_rest, State.modLk_rest, State.lkLost_rest]) | (dsimp only) | rfl))

theorem State.joinReset_rest (s : State) {ps : List Part} (hps : Part.sub [.regs, .pend, .tab, .tabBad, .isl, .ev, .rt, .ni, .port, .slice, .lk, .dom, .sb, .st, .cd, .tr, .sc, .pot, .pm, .latch, .dbgLatch, .chk, .seamDown, .wire, .cwire, .owed, .used, .held, .wakeQ] ps = true) : (State.joinReset s).rest ps = s.rest ps := Part.lift hps (by
  simp (disch := first | decide | (intros; simp (disch := decide) only [State.rest_ite, ite_self, foldl_rest, State.rest_tab_chk, State.rest_tab_tabBad, State.rest_tab_tabBad_chk, State.rest_tab_tabBad_ev, State.rest_regs_pend, State.rest_regs_pend_latch_chk, State.rest_regs, State.rest_pend, State.rest_tab, State.rest_tabBad, State.rest_isl, State.rest_ev, State.rest_rt, State.rest_ni, State.rest_port, State.rest_slice, State.rest_lk, State.rest_dom, State.rest_sb, State.rest_st, State.rest_cd, State.rest_tr, State.rest_sc, State.rest_pot, State.rest_pm, State.rest_latch, State.rest_chk, State.rest_seamDown, State.rest_wire, State.rest_cwire, State.rest_owed, State.rest_used, State.rest_held, State.rest_wakeQ, State.tellFacing_rest, State.setSlice_rest, State.updateWear_rest, State.resetLinks_rest, State.releasePairs_rest, State.loseUnits_rest, State.modNi_rest, State.recPartition_rest, State.alignIsland_rest, State.setDom_rest, State.rest_dbgLatch]; done) | fail) only [State.joinReset, foldl_rest, State.rest_regs_pend_latch_chk, State.resetLinks_rest, State.recPartition_rest, State.rest_ite, ite_self, State.rest_regs, State.rest_pend, State.rest_tab, State.rest_tabBad, State.rest_isl, State.rest_ev, State.rest_rt, State.rest_ni, State.rest_port, State.rest_slice, State.rest_lk, State.rest_dom, State.rest_sb, State.rest_st, State.rest_cd, State.rest_tr, State.rest_sc, State.rest_pot, State.rest_pm, State.rest_latch, State.rest_dbgLatch, State.rest_chk, State.rest_seamDown, State.rest_wire, State.rest_cwire, State.rest_owed, State.rest_used, State.rest_held, State.rest_wakeQ, State.loseUnits_rest, State.setDom_rest, State.setSlice_rest, State.updateWear_rest, State.modNi_rest, State.alignIsland_rest, State.releasePairs_rest, State.tellFacing_rest])

theorem State.joinTrain_rest (s : State) {ps : List Part} (hps : Part.sub [.regs, .lk, .cd, .pot, .seamDown] ps = true) : (State.joinTrain s).rest ps = s.rest ps := by
  unfold State.joinTrain
  refine (foldl_rest _ _ _ (fun s k => foldl_rest _ _ _ (fun s e => ?_))).trans (State.joinGo_rest _ _ (Part.sub_trans (by decide) hps))
  rw [State.lkAsk_rest _ _ _ (Part.sub_trans (by decide) hps), State.setFld_rest _ _ _ _ (Part.sub_trans (by decide) hps)]

theorem State.joinLinks_rest (s : State) {ps : List Part} (hps : Part.sub [.regs, .pend, .ni, .cd, .pot] ps = true) : (State.joinLinks s).rest ps = s.rest ps := Part.lift hps (by simp (disch := decide) only [State.joinLinks, State.rest_ite, ite_self, State.setFld_rest, State.wr_rest, State.modNi_rest, State.dropPend_rest, State.joinGo_rest, State.joinFail_rest, foldl_rest, State.commitLoss_rest])

theorem State.joinLoad_rest (s : State) (ok : Bool) {ps : List Part} (hps : Part.sub [.regs, .pend, .tab, .tabBad, .isl, .ni, .port, .st, .cd, .pot, .chk, .wire, .wakeQ] ps = true) : (State.joinLoad s ok).rest ps = s.rest ps := Part.lift hps (by
  simp (disch := first | decide | (intros; simp (disch := decide) only [State.rest_ite, ite_self, foldl_rest, State.rest_tab_chk, State.rest_tab_tabBad, State.rest_tab_tabBad_chk, State.rest_regs_pend, State.rest_regs, State.rest_pend, State.rest_tab, State.rest_tabBad, State.rest_isl, State.rest_ni, State.rest_port, State.rest_st, State.rest_cd, State.rest_pot, State.rest_chk, State.rest_wire, State.rest_wakeQ, State.reloadRegs_rest, State.programHdm_rest, State.dropPend_rest, State.reloadNis_rest, State.joinFail_rest, State.joinGo_rest, State.wr_rest, State.modPot_rest, State.setRoutes_rest]; done) | fail) only [State.joinLoad, State.rest_ite, ite_self, foldl_rest, State.reloadRegs_rest, State.reloadNis_rest, State.joinFail_rest, State.joinGo_rest, State.modPot_rest, State.setRoutes_rest, State.programHdm_rest])

theorem State.joinEnd_rest (s : State) {ps : List Part} (hps : Part.sub [.regs, .pend, .ni, .lk, .kt, .cd, .pot, .seamDown, .wakeQ] ps = true) : (State.joinEnd s).rest ps = s.rest ps := Part.lift hps (by
  simp (disch := first | decide | (intros; simp (disch := decide) only [State.rest_ite, ite_self, foldl_rest, State.rest_regs_pend, State.rest_regs, State.rest_pend, State.rest_ni, State.rest_lk, State.rest_kt, State.rest_cd, State.rest_pot, State.rest_seamDown, State.modKt_rest, State.setFld_rest, State.wr_rest, State.modPot_rest, State.modNi_rest, State.setJoin_rest, State.dropPend_rest, State.lkAsk_rest, State.setPotClose_rest, State.rest_wakeQ, State.commitLoss_rest]; done) | fail) only [State.joinEnd, foldl_rest, State.modKt_rest, State.setFld_rest, State.modPot_rest, State.setJoin_rest, State.setPotClose_rest, State.commitLoss_rest, State.lkAsk_rest])

theorem State.joinPoison_rest (s : State) {ps : List Part} (hps : Part.sub [.ni, .pot] ps = true) : (State.joinPoison s).rest ps = s.rest ps := Part.lift hps (by
  simp (disch := first | decide | (intros; simp (disch := decide) only [State.rest_ite, ite_self, foldl_rest, State.rest_ni, State.rest_pot, State.modPot_rest, State.unitMgt_rest, State.joinGo_rest]; done) | fail) only [State.joinPoison, foldl_rest, State.modPot_rest, State.joinGo_rest, State.unitMgt_rest])

theorem State.sendSweeps_rest (s : State) (first mop : Nat) {ps : List Part} (hps : Part.sub [.ni, .pot] ps = true) : (State.sendSweeps s first mop).rest ps = s.rest ps := Part.lift hps (by
  simp (disch := first | decide | (intros; simp (disch := decide) only [State.rest_ite, ite_self, foldl_rest, State.rest_ni, State.rest_pot, State.modPot_rest, State.unitMgt_rest]; done) | fail) only [State.sendSweeps, foldl_rest, State.modPot_rest, State.unitMgt_rest])

theorem execDieBJoin_rest (ok : Bool) (s : State) {ps : List Part} (hps : Part.sub [.regs, .pend, .tab, .tabBad, .isl, .ev, .rt, .ni, .port, .slice, .lk, .dom, .sb, .kt, .st, .cd, .tr, .sc, .pot, .pm, .latch, .dbgLatch, .chk, .seamDown, .wire, .cwire, .owed, .used, .held, .wakeQ] ps = true) : ∃ s', execDieBJoin ok s = .next s' ∧ s'.rest ps = s.rest ps := by
  simp only [execDieBJoin]
  (repeat' split) <;> exact ⟨_, rfl, Part.lift hps (by simp (disch := first | decide | (intros; simp (disch := decide) only [State.rest_ite, ite_self, foldl_rest, State.rest_tab_chk, State.rest_tab_tabBad, State.rest_tab_tabBad_chk, State.rest_tab_tabBad_ev, State.rest_regs_pend, State.rest_regs_pend_latch_chk, State.rest_regs, State.rest_pend, State.rest_tab, State.rest_tabBad, State.rest_isl, State.rest_ev, State.rest_rt, State.rest_ni, State.rest_port, State.rest_slice, State.rest_lk, State.rest_dom, State.rest_sb, State.rest_kt, State.rest_st, State.rest_cd, State.rest_tr, State.rest_sc, State.rest_pot, State.rest_pm, State.rest_latch, State.rest_chk, State.rest_seamDown, State.rest_wire, State.rest_cwire, State.rest_owed, State.rest_used, State.rest_held, State.rest_wakeQ, State.sendSweeps_rest, State.joinReset_rest, State.modPot_rest, State.askWake_rest, State.joinLinks_rest, State.joinTrain_rest, State.joinPoison_rest, State.setJoin_rest, State.joinLoad_rest, State.joinEnd_rest, State.joinFail_rest, State.joinGo_rest, State.rest_dbgLatch]; done) | fail) only [State.sendSweeps_rest, State.joinReset_rest, State.modPot_rest, State.askWake_rest, State.joinLinks_rest, State.joinTrain_rest, State.joinPoison_rest, State.setJoin_rest, State.joinLoad_rest, State.joinEnd_rest, State.joinFail_rest, State.joinGo_rest, State.rest_ite, ite_self])⟩

theorem execJoinGoWrite_rest (s : State) {ps : List Part} (hps : Part.sub [.regs, .cd, .pot] ps = true) : ∃ s', execJoinGoWrite s = .next s' ∧ s'.rest ps = s.rest ps := by
  simp only [execJoinGoWrite]
  (repeat' split) <;> exact ⟨_, rfl, Part.lift hps (by simp (disch := first | decide | (intros; simp (disch := decide) only [State.rest_ite, ite_self, foldl_rest, State.rest_regs, State.rest_cd, State.rest_pot, State.modPot_rest, State.recPartition_rest, State.setJoin_rest, State.setFld_rest, State.joinFail_rest, State.joinGo_rest]; done) | fail) only [State.modPot_rest, State.recPartition_rest, State.setJoin_rest, State.setFld_rest, State.joinFail_rest, State.joinGo_rest, State.rest_ite, ite_self])⟩

theorem State.fenceDieB_rest (s : State) {ps : List Part} (hps : Part.sub [.regs, .rt, .ni, .port, .lk, .kt, .st, .cd, .pot, .seamDown, .wire, .owed, .used, .wakeQ] ps = true) : (State.fenceDieB s).rest ps = s.rest ps := Part.lift hps (by
  simp (disch := first | decide | (intros; simp (disch := decide) only [State.rest_ite, ite_self, foldl_rest, State.rest_regs, State.rest_rt, State.rest_ni, State.rest_port, State.rest_lk, State.rest_kt, State.rest_st, State.rest_cd, State.rest_pot, State.rest_seamDown, State.rest_wire, State.rest_owed, State.rest_used, State.rest_wakeQ, State.drainRelief_rest, State.resetLinks_rest, State.leaveParts_rest, State.modKt_rest, State.modNi_rest, State.endWindow_rest]; done) | fail) only [State.fenceDieB, State.rest_ite, ite_self, foldl_rest, State.drainRelief_rest, State.resetLinks_rest, State.leaveParts_rest, State.modKt_rest, State.endWindow_rest, State.modNi_rest])

theorem State.loseDieB_rest (s : State) {ps : List Part} (hps : Part.sub [.regs, .pend, .ni, .pot] ps = true) : (State.loseDieB s).rest ps = s.rest ps := Part.lift hps (by
  simp (disch := first | decide | (intros; simp (disch := decide) only [State.rest_ite, ite_self, foldl_rest, State.rest_pend, State.setPend_rest, State.rest_regs, State.rest_ni, State.rest_pot, State.commitLoss_rest]; done) | fail) only [State.loseDieB, foldl_rest, State.commitLoss_rest])

theorem State.partition_rest (s : State) {ps : List Part} (hps : Part.sub [.regs, .pend, .rt, .ni, .port, .lk, .kt, .st, .cd, .pot, .seamDown, .wire, .owed, .used, .wakeQ] ps = true) : (State.partition s).rest ps = s.rest ps := Part.lift hps (by simp (disch := decide) only [State.partition, State.recPartition_rest, State.fenceDieB_rest, State.sendSweeps_rest, State.setJoin_rest, State.report_rest, State.setFld_rest, State.wr_rest, State.loseDieB_rest, foldl_rest, State.reportUp_rest])

theorem execSeamLossDeclare_rest (s : State) {ps : List Part} (hps : Part.sub [.regs, .pend, .rt, .ni, .port, .lk, .kt, .st, .cd, .pot, .seamDown, .wire, .owed, .used, .wakeQ] ps = true) : ∃ s', execSeamLossDeclare s = .next s' ∧ s'.rest ps = s.rest ps := by
  unfold execSeamLossDeclare
  (repeat' split) <;> exact ⟨_, rfl, Part.lift hps (by simp (disch := first | decide | (intros; simp (disch := decide) only [State.rest_ite, ite_self, foldl_rest, State.rest_regs_pend, State.rest_regs, State.rest_pend, State.rest_rt, State.rest_ni, State.rest_port, State.rest_lk, State.rest_kt, State.rest_st, State.rest_cd, State.rest_pot, State.rest_seamDown, State.rest_wire, State.rest_owed, State.rest_used, State.rest_wakeQ, State.fenceDieB_rest, State.joinFail_rest, State.partition_rest, State.loseDieB_rest]; done) | fail) only [State.fenceDieB_rest, State.joinFail_rest, State.partition_rest, State.loseDieB_rest, State.rest_ite, ite_self])⟩

theorem State.stripSharers_eq (s : State) (h bank : Nat) (w : Sweep) (v : View) {r0 : State} {r1 : View} {ps : List Part} (hr : State.stripSharers s h bank w v = (r0, r1)) (hps : Part.sub [.slice] ps = true) : r0.rest ps = s.rest ps := Part.lift hps (by
  unfold State.stripSharers at hr
  (repeat' split at hr) <;> (try cases hr) <;> first | rfl | contradiction | simp (disch := decide) only [State.rest_ite, ite_self, foldl_rest, State.rest_slice, State.modSlice_rest])

theorem State.stripSharers_rest (s : State) (h bank : Nat) (w : Sweep) (v : View) {ps : List Part} (hps : Part.sub [.slice] ps = true) : (State.stripSharers s h bank w v).1.rest ps = s.rest ps := Part.lift hps (by
  unfold State.stripSharers
  (repeat' split) <;> first | rfl | simp (disch := decide) only [State.rest_ite, ite_self, foldl_rest, State.rest_slice, State.modSlice_rest])

theorem State.sweepCount_rest (s : State) (h : Nat) (f : Sweep → Sweep) {ps : List Part} (hps : Part.sub [.slice] ps = true) : (State.sweepCount s h f).rest ps = s.rest ps := Part.lift hps rfl

theorem State.sweepEntry_rest (s : State) (h set way : Nat) (w : Sweep) {ps : List Part} (hps : Part.sub [.free, .regs, .ni, .slice] ps = true) : (State.sweepEntry s h set way w).rest ps = s.rest ps := Part.lift hps (by simp (disch := decide) only [State.sweepEntry, State.rest_ite, ite_self, State.sweepCount_rest, State.begin_rest, State.stripSharers_rest, State.modSlice_rest, State.cohPoison_rest])

theorem State.sweepSet_rest (s : State) (h set : Nat) (w : Sweep) {ps : List Part} (hps : Part.sub [.free, .regs, .ni, .slice] ps = true) : (State.sweepSet s h set w).rest ps = s.rest ps := Part.lift hps (by
  simp (disch := first | decide | (intros; simp (disch := decide) only [State.rest_ite, ite_self, foldl_rest, State.rest_free, State.rest_regs, State.rest_ni, State.rest_slice, State.modSlice_rest, State.sweepEntry_rest, State.sweepCount_rest]; done) | fail) only [State.sweepSet, State.rest_ite, ite_self, foldl_rest, State.modSlice_rest, State.sweepCount_rest, State.sweepEntry_rest])

theorem State.sweepRun_rest (s : State) (h fuel : Nat) {ps : List Part} (hps : Part.sub [.free, .regs, .ni, .slice] ps = true) :
    (State.sweepRun s h fuel).rest ps = s.rest ps := by
  induction fuel generalizing s with
  | zero => rfl
  | succ fuel ih =>
    simp only [State.sweepRun]
    (repeat' split) <;> first | rfl | rw [ih, State.sweepCount_rest _ _ _ (Part.sub_trans (by decide) hps), State.sweepSet_rest _ _ _ _ (Part.sub_trans (by decide) hps)]

theorem State.sweepEnd_rest (s : State) (h : Nat) {ps : List Part} (hps : Part.sub [.ni, .slice] ps = true) : (State.sweepEnd s h).rest ps = s.rest ps := Part.lift hps (by
  simp only [State.sweepEnd]
  (repeat' split) <;> first | rfl | simp (disch := first | decide | (intros; simp (disch := decide) only [State.rest_ite, ite_self, foldl_rest, State.rest_ni, State.rest_slice, State.modSlice_rest, State.unitMgt_rest]; done) | fail) only [State.rest_ite, ite_self, foldl_rest, State.rest_ni, State.rest_slice, State.modSlice_rest, State.unitMgt_rest])

theorem State.sweep_rest (s : State) (h mop : Nat) {ps : List Part} (hps : Part.sub [.free, .regs, .ni, .slice, .wakeQ] ps = true) : (State.sweep s h mop).rest ps = s.rest ps := by
  simp only [State.sweep]
  repeat' split
  all_goals try have e_takeIn := State.takeIn_eq _ _ _ _ (by assumption) (ps := ps) (Part.sub_trans (by decide) hps)
  all_goals first
    | rfl
    | assumption
    | (simp (disch := first | exact Part.sub_trans (by decide) hps | (intros; (try dsimp only); (repeat' split) <;> first | (with_reducible rfl) | (simp (disch := exact Part.sub_trans (by decide) hps) only [State.rest_ite, ite_self, foldl_rest, State.rest_free, State.rest_regs, State.rest_ni, State.rest_slice, State.rest_wakeQ, State.askWake_rest, State.takeIn_rest, State.modSlice_rest, State.sweepRun_rest, State.sweepEnd_rest]; done) | fail) | fail) only [State.rest_ite, ite_self, State.askWake_rest, State.modSlice_rest, State.sweepRun_rest, State.sweepEnd_rest, *]; done)

theorem execPartSweep_rest (h : Fin 16) (s : State) {ps : List Part} (hps : Part.sub [.free, .regs, .ni, .slice, .wakeQ] ps = true) : ∃ s', execPartSweep h s = .next s' ∧ s'.rest ps = s.rest ps := by
  unfold execPartSweep
  (repeat' split) <;> exact ⟨_, rfl, Part.lift hps (by first | rfl | simp (disch := decide) only [State.sweep_rest])⟩

theorem execRejoinSweep_rest (h : Fin 16) (s : State) {ps : List Part} (hps : Part.sub [.free, .regs, .ni, .slice, .wakeQ] ps = true) : ∃ s', execRejoinSweep h s = .next s' ∧ s'.rest ps = s.rest ps := by
  unfold execRejoinSweep
  (repeat' split) <;> exact ⟨_, rfl, Part.lift hps (by first | rfl | simp (disch := decide) only [State.sweep_rest])⟩

theorem State.potMctl_rest (s : State) (mop : Nat) (k : State → Pkt → State) {ps : List Part} (hps : Part.sub [.ni] ps = true) (hf : ∀ s p, (k s p).rest ps = s.rest ps) : ∃ s', State.potMctl s mop k = .next s' ∧ s'.rest ps = s.rest ps := by
  simp only [State.potMctl]
  repeat' split
  · exact ⟨_, rfl, rfl⟩
  · exact ⟨_, rfl, rfl⟩
  · have e := State.takeIn_eq _ _ _ _ (by assumption) (ps := ps) (Part.sub_trans (by decide) hps)
    exact ⟨_, rfl, by rw [hf, e]⟩

theorem execSweepDone_rest (s : State) {ps : List Part} (hps : Part.sub [.regs, .ni, .cd, .pot] ps = true) : ∃ s', execSweepDone s = .next s' ∧ s'.rest ps = s.rest ps := by
  simp only [execSweepDone]
  repeat' (first | (with_reducible rfl) | assumption | (refine ⟨_, rfl, Part.lift hps ?_⟩) | (simp (disch := first | decide | (intros; (try dsimp only); (repeat' split) <;> first | (with_reducible rfl) | (simp (disch := decide) only [State.rest_ite, ite_self, foldl_rest, State.rest_regs, State.rest_ni, State.rest_cd, State.rest_pot, State.recPartition_rest, State.potMctl_rest, State.modPot_rest]; done) | fail) | fail) only [State.recPartition_rest, State.modPot_rest, State.potMctl_rest]; done) | (apply State.potMctl_rest) | (refine next_rest (by apply State.potMctl_rest; exact Part.sub_trans (by decide) hps) (Part.lift hps ?_)) | (show Part.sub _ _ = true; first | decide | exact Part.sub_trans (by decide) hps) | (refine (foldl_rest _ _ _ ?_).trans ?_) | (intro _ _; refine Part.lift hps ?_; try dsimp only) | (intro _ _; try dsimp only) | (intro _; try dsimp only) | split | (simp (disch := first | decide | (intros; (try dsimp only); (repeat' split) <;> first | (with_reducible rfl) | (simp (disch := decide) only [State.rest_ite, ite_self, foldl_rest, State.rest_regs, State.rest_ni, State.rest_cd, State.rest_pot, State.recPartition_rest, State.potMctl_rest, State.modPot_rest]; done) | fail) | fail) only [State.rest_ite, ite_self, foldl_rest, State.rest_regs, State.rest_ni, State.rest_cd, State.rest_pot, State.recPartition_rest, State.potMctl_rest, State.modPot_rest]) | (dsimp only) | rfl)

theorem State.showPoison_rest (s : State) {ps : List Part} (hps : Part.sub [.regs] ps = true) : (State.showPoison s).rest ps = s.rest ps := Part.lift hps rfl

theorem execDeferPoison_rest (s : State) {ps : List Part} (hps : Part.sub [.regs, .ni, .pot] ps = true) : ∃ s', execDeferPoison s = .next s' ∧ s'.rest ps = s.rest ps := by
  simp only [execDeferPoison]
  repeat' (first | (with_reducible rfl) | assumption | (refine ⟨_, rfl, Part.lift hps ?_⟩) | (simp (disch := first | decide | (intros; (try dsimp only); (repeat' split) <;> first | (with_reducible rfl) | (simp (disch := decide) only [State.rest_ite, ite_self, foldl_rest, State.rest_regs, State.rest_ni, State.rest_pot, State.modPot_rest, State.potMctl_rest, State.showPoison_rest, State.setFld_rest]; done) | fail) | fail) only [State.rest_ite, ite_self, State.modPot_rest, State.showPoison_rest, State.setFld_rest, State.potMctl_rest]; done) | (apply State.potMctl_rest) | (refine next_rest (by apply State.potMctl_rest; exact Part.sub_trans (by decide) hps) (Part.lift hps ?_)) | (show Part.sub _ _ = true; first | decide | exact Part.sub_trans (by decide) hps) | (refine (foldl_rest _ _ _ ?_).trans ?_) | (intro _ _; refine Part.lift hps ?_; try dsimp only) | (intro _ _; try dsimp only) | (intro _; try dsimp only) | split | (simp (disch := first | decide | (intros; (try dsimp only); (repeat' split) <;> first | (with_reducible rfl) | (simp (disch := decide) only [State.rest_ite, ite_self, foldl_rest, State.rest_regs, State.rest_ni, State.rest_pot, State.modPot_rest, State.potMctl_rest, State.showPoison_rest, State.setFld_rest]; done) | fail) | fail) only [State.rest_ite, ite_self, foldl_rest, State.rest_regs, State.rest_ni, State.rest_pot, State.modPot_rest, State.potMctl_rest, State.showPoison_rest, State.setFld_rest]) | (dsimp only) | rfl)

theorem execPoisonDone_rest (s : State) {ps : List Part} (hps : Part.sub [.regs, .ni, .pot] ps = true) : ∃ s', execPoisonDone s = .next s' ∧ s'.rest ps = s.rest ps := by
  simp only [execPoisonDone]
  repeat' (first | (with_reducible rfl) | assumption | (refine ⟨_, rfl, Part.lift hps ?_⟩) | (simp (disch := first | decide | (intros; (try dsimp only); (repeat' split) <;> first | (with_reducible rfl) | (simp (disch := decide) only [State.rest_ite, ite_self, foldl_rest, State.rest_regs, State.rest_ni, State.rest_pot, State.showPoison_rest, State.potMctl_rest, State.modPot_rest]; done) | fail) | fail) only [State.showPoison_rest, State.modPot_rest, State.rest_ite, ite_self, State.potMctl_rest]; done) | (apply State.potMctl_rest) | (refine next_rest (by apply State.potMctl_rest; exact Part.sub_trans (by decide) hps) (Part.lift hps ?_)) | (show Part.sub _ _ = true; first | decide | exact Part.sub_trans (by decide) hps) | (refine (foldl_rest _ _ _ ?_).trans ?_) | (intro _ _; refine Part.lift hps ?_; try dsimp only) | (intro _ _; try dsimp only) | (intro _; try dsimp only) | split | (simp (disch := first | decide | (intros; (try dsimp only); (repeat' split) <;> first | (with_reducible rfl) | (simp (disch := decide) only [State.rest_ite, ite_self, foldl_rest, State.rest_regs, State.rest_ni, State.rest_pot, State.showPoison_rest, State.potMctl_rest, State.modPot_rest]; done) | fail) | fail) only [State.rest_ite, ite_self, foldl_rest, State.rest_regs, State.rest_ni, State.rest_pot, State.showPoison_rest, State.potMctl_rest, State.modPot_rest]) | (dsimp only) | rfl)

theorem execPoisonLine_rest (n : Fin 256) (s : State) {ps : List Part} (hps : Part.sub [.free, .ni, .port, .wire] ps = true) : ∃ s', execPoisonLine n s = .next s' ∧ s'.rest ps = s.rest ps := by
  simp only [execPoisonLine]
  split
  · exact ⟨_, rfl, rfl⟩
  split
  · exact ⟨_, rfl, rfl⟩
  have e := State.takeIn_eq _ _ _ _ (by assumption) (ps := ps) (Part.sub_trans (by decide) hps)
  split
  · exact ⟨_, rfl, (State.poisonDone_rest _ _ _ _ (Part.sub_trans (by decide) hps)).trans e⟩
  split <;> refine ⟨_, rfl, ?_⟩ <;>
    simp (disch := (exact Part.sub_trans (by decide) hps)) only [State.toChiplet_rest, State.portOut_rest, State.keepDemand_rest, State.freshLine_rest, e]

theorem execNiDiagGo_rest (n : Fin 256) (sel : W64) (used : Bool) (s : State) {ps : List Part} (hps : Part.sub [.free, .regs, .chk] ps = true) : ∃ s', execNiDiagGo n sel used s = .next s' ∧ s'.rest ps = s.rest ps := by
  simp only [execNiDiagGo]
  (repeat' split) <;> exact ⟨_, rfl, Part.lift hps (by simp (disch := first | decide | (intros; simp (disch := decide) only [State.rest_ite, ite_self, foldl_rest, State.rest_free, State.rest_regs, State.rest_chk, State.wr_rest, State.fresh_rest]; done) | fail) only [State.rest_chk, State.wr_rest, State.fresh_rest, State.rest_ite, ite_self])⟩

theorem execNiDiagDataWrite_rest (n : Fin 256) (data : W64) (used : Bool) (s : State) {ps : List Part} (hps : Part.sub [.regs, .tab, .chk] ps = true) : ∃ s', execNiDiagDataWrite n data used s = .next s' ∧ s'.rest ps = s.rest ps := by
  simp only [execNiDiagDataWrite]
  (repeat' split) <;> exact ⟨_, rfl, Part.lift hps (by simp (disch := first | decide | (intros; simp (disch := decide) only [State.rest_ite, ite_self, foldl_rest, State.rest_tab_chk, State.rest_regs, State.rest_tab, State.rest_chk, State.setFld_rest, State.wr_rest]; done) | fail) only [State.rest_tab_chk, State.setFld_rest, State.wr_rest, State.rest_ite, ite_self, State.rest_tab, State.rest_chk])⟩

theorem execTableRestore_rest (n : Fin 256) (bank : Fin 2) (sec : BitVec 4) (part : BitVec 3) (idx : BitVec 20) (ok : Bool) (s : State) {ps : List Part} (hps : Part.sub [.regs, .tab, .tabBad, .ni, .wakeQ] ps = true) : ∃ s', execTableRestore n bank sec part idx ok s = .next s' ∧ s'.rest ps = s.rest ps := by
  simp only [execTableRestore]
  (repeat' split) <;> exact ⟨_, rfl, Part.lift hps (by simp (disch := first | decide | (intros; simp (disch := decide) only [State.rest_ite, ite_self, foldl_rest, State.rest_tab_tabBad, State.rest_regs, State.rest_tab, State.rest_tabBad, State.rest_ni, State.report_rest, State.rest_wakeQ, State.reportUp_rest]; done) | fail) only [State.rest_tab_tabBad, State.report_rest, State.rest_ite, ite_self, State.rest_tab, State.rest_tabBad, State.reportUp_rest])⟩

theorem execLeafStamp_rest (n : Fin 256) (s : State) {ps : List Part} (hps : Part.sub [.regs, .tabBad, .ni, .wakeQ] ps = true) : ∃ s', execLeafStamp n s = .next s' ∧ s'.rest ps = s.rest ps := by
  unfold execLeafStamp
  split
  · exact ⟨_, rfl, rfl⟩
  extract_lets s1 k
  have h1 : s1.rest ps = s.rest ps := State.modNi_rest _ _ _ (Part.sub_trans (by decide) hps)
  clear_value s1
  split
  · exact ⟨_, rfl, (State.bump_rest _ _ _ (Part.sub_trans (by decide) hps)).trans h1⟩
  · refine ⟨_, rfl, ?_⟩
    simp (disch := (exact Part.sub_trans (by decide) hps)) only [State.rest_ite, State.closeLeaf_rest, State.setLeafRec_rest, ite_self, h1]

theorem execLeafRecordTimeout_rest (n : Fin 256) (k : Fin 64) (s : State) {ps : List Part} (hps : Part.sub [.regs, .tabBad, .ni, .wakeQ] ps = true) : ∃ s', execLeafRecordTimeout n k s = .next s' ∧ s'.rest ps = s.rest ps := by
  unfold execLeafRecordTimeout
  (repeat' split) <;> exact ⟨_, rfl, Part.lift hps (by first | rfl | simp (disch := decide) only [State.bump_rest, State.closeLeaf_rest, State.rest_ite, ite_self, State.cutLeaf_rest])⟩

theorem execLeafIdRelease_rest (n : Fin 256) (k : Fin 64) (s : State) {ps : List Part} (hps : Part.sub [.ni] ps = true) : ∃ s', execLeafIdRelease n k s = .next s' ∧ s'.rest ps = s.rest ps := by
  simp only [execLeafIdRelease]
  (repeat' split) <;> exact ⟨_, rfl, Part.lift hps (by simp (disch := first | decide | (intros; simp (disch := decide) only [State.rest_ite, ite_self, foldl_rest, State.rest_ni, State.modNi_rest]; done) | fail) only [State.modNi_rest, State.rest_ite, ite_self])⟩

theorem execLeafCommit_rest (n : Fin 256) (s : State) {ps : List Part} (hps : Part.sub [.regs, .pend] ps = true) : ∃ s', execLeafCommit n s = .next s' ∧ s'.rest ps = s.rest ps := by
  unfold execLeafCommit
  (repeat' split) <;> exact ⟨_, rfl, Part.lift hps (by simp (disch := first | decide | (intros; simp (disch := decide) only [State.rest_ite, ite_self, foldl_rest, State.rest_regs_pend, State.rest_regs, State.rest_pend, State.commitLeaf_rest]; done) | fail) only [State.commitLeaf_rest])⟩

theorem State.modPm_rest (s : State) (f : Collector → Collector) {ps : List Part} (hps : Part.sub [.pm] ps = true) : (State.modPm s f).rest ps = s.rest ps := Part.lift hps rfl

theorem State.armSnap_rest (s : State) (u : PmUnit) (num T : Nat) {ps : List Part} (hps : Part.sub [.regs, .rt, .ni, .slice, .wakeQ] ps = true) : (State.armSnap s u num T).rest ps = s.rest ps := Part.lift hps (by simp (disch := decide) only [State.armSnap, State.rest_ite, ite_self, State.copyUnit_rest, State.setSnap_rest, State.report_rest])

theorem State.startFill_rest (s : State) (num T : Nat) {ps : List Part} (hps : Part.sub [.pm] ps = true) : (State.startFill s num T).rest ps = s.rest ps := Part.lift hps rfl

theorem execSnap_rest (n : Fin 256) (s : State) {ps : List Part} (hps : Part.sub [.regs, .rt, .ni, .slice, .kt, .pm, .wakeQ] ps = true) : ∃ s', execSnap n s = .next s' ∧ s'.rest ps = s.rest ps := by
  simp only [execSnap]
  split
  · exact ⟨_, rfl, rfl⟩
  · have e := State.takeIn_eq _ _ _ _ (by assumption) (ps := ps) (Part.sub_trans (by decide) hps)
    have hf : ∀ (l : List PmUnit) (s : State) (num T : Nat), (l.foldl (fun s u => s.armSnap u num T) s).rest ps = s.rest ps :=
      fun l s num T => foldl_rest _ _ _ (fun s u => State.armSnap_rest s u num T (Part.sub_trans (by decide) hps))
    have hk : ∀ (s : State) (x : Option (Nat × Nat)), ({ s with kt := { s.kt with snap := x } } : State).rest ps = s.rest ps :=
      fun s x => State.rest_kt _ _ (Part.sub_trans (by decide) hps)
    (repeat' split) <;> refine ⟨_, rfl, ?_⟩ <;>
      simp (disch := (exact Part.sub_trans (by decide) hps)) only [hk, State.rest_ite, ite_self, State.startFill_rest, State.askWake_rest, hf, e]

theorem execSnapshotCopy_rest (u : CopyUnit) (s : State) {ps : List Part} (hps : Part.sub [.regs, .rt, .ni, .slice, .wakeQ] ps = true) : ∃ s', execSnapshotCopy u s = .next s' ∧ s'.rest ps = s.rest ps := by
  simp only [execSnapshotCopy]
  (repeat' split) <;> exact ⟨_, rfl, Part.lift hps (by simp (disch := first | decide | (intros; simp (disch := decide) only [State.rest_ite, ite_self, foldl_rest, State.rest_regs, State.rest_rt, State.rest_ni, State.rest_slice, State.rest_wakeQ, State.copyUnit_rest, State.askWake_rest]; done) | fail) only [State.copyUnit_rest, State.askWake_rest, State.rest_ite, ite_self])⟩

theorem execKettleSnapshotLatch_rest (s : State) {ps : List Part} (hps : Part.sub [.pm] ps = true) : ∃ s', execKettleSnapshotLatch s = .next s' ∧ s'.rest ps = s.rest ps := by
  simp only [execKettleSnapshotLatch]
  (repeat' split) <;> exact ⟨_, rfl, Part.lift hps (by simp (disch := first | decide | (intros; simp (disch := decide) only [State.rest_ite, ite_self, foldl_rest, State.rest_pm]; done) | fail) only [State.rest_pm])⟩

theorem State.pushLine_rest (s : State) (i k : Nat) (l : Line) {ps : List Part} (hps : Part.sub [.regs, .pm] ps = true) : (State.pushLine s i k l).rest ps = s.rest ps := Part.lift hps (by
  unfold State.pushLine
  (repeat' split) <;> first | rfl | simp (disch := decide) only [State.rest_ite, ite_self, State.rest_pm, State.bump_rest])

theorem execCounterPush_rest (s : State) {ps : List Part} (hps : Part.sub [.regs, .ni, .pm, .wakeQ] ps = true) : ∃ s', execCounterPush s = .next s' ∧ s'.rest ps = s.rest ps := by
  simp only [execCounterPush]
  split
  · exact ⟨_, rfl, by simp (disch := (exact Part.sub_trans (by decide) hps)) only [State.rest_ite, State.askWake_rest, ite_self]⟩
  have e := State.takeIn_eq _ _ _ _ (by assumption) (ps := ps) (Part.sub_trans (by decide) hps)
  split
  · exact ⟨_, rfl, e⟩
  · refine ⟨_, rfl, (foldl_rest _ _ _ (fun s k => ?_)).trans e⟩
    (repeat' split) <;> first | rfl | exact State.pushLine_rest _ _ _ _ (Part.sub_trans (by decide) hps)

theorem execPageSettleTimeout_rest (s : State) {ps : List Part} (hps : Part.sub [.regs, .pm] ps = true) : ∃ s', execPageSettleTimeout s = .next s' ∧ s'.rest ps = s.rest ps := by
  unfold execPageSettleTimeout
  (repeat' split) <;> exact ⟨_, rfl, Part.lift hps (by first | rfl | simp (disch := decide) only [State.rest_ite, ite_self, foldl_rest, State.rest_regs, State.rest_pm, State.bumpBy_rest])⟩

theorem execCollectorBankSwitch_rest (s : State) {ps : List Part} (hps : Part.sub [.kt, .pm] ps = true) : ∃ s', execCollectorBankSwitch s = .next s' ∧ s'.rest ps = s.rest ps := by
  unfold execCollectorBankSwitch
  (repeat' split) <;> exact ⟨_, rfl, Part.lift hps (by first | rfl | simp (disch := decide) only [State.rest_ite, ite_self, foldl_rest, State.rest_kt, State.rest_pm])⟩

theorem execCounterApertureRead_rest (s : State) {ps : List Part} (hps : Part.sub [.regs, .ni, .wakeQ] ps = true) : ∃ s', execCounterApertureRead s = .next s' ∧ s'.rest ps = s.rest ps := by
  simp only [execCounterApertureRead]
  repeat' split
  all_goals try have e_takeIn := State.takeIn_eq _ _ _ _ (by assumption) (ps := ps) (Part.sub_trans (by decide) hps)
  all_goals refine ⟨_, rfl, ?_⟩
  all_goals first
    | rfl
    | assumption
    | (simp (disch := first | exact Part.sub_trans (by decide) hps | (intros; (try dsimp only); (repeat' split) <;> first | (with_reducible rfl) | (simp (disch := exact Part.sub_trans (by decide) hps) only [State.rest_ite, ite_self, foldl_rest, State.rest_regs, State.rest_ni, State.rest_wakeQ, State.takeIn_rest, State.askWake_rest, State.answerErr_rest, State.bump_rest, State.answer_rest]; done) | fail) | fail) only [State.rest_ite, ite_self, State.askWake_rest, State.answerErr_rest, State.bump_rest, State.answer_rest, *]; done)

theorem execPmFltCommit_rest (u : CopyUnit) (sets : BitVec 4) (s : State) {ps : List Part} (hps : Part.sub [.regs, .pend] ps = true) : ∃ s', execPmFltCommit u sets s = .next s' ∧ s'.rest ps = s.rest ps := by
  unfold execPmFltCommit
  (repeat' split) <;> exact ⟨_, rfl, Part.lift hps (by simp (disch := first | decide | (intros; simp (disch := decide) only [State.rest_ite, ite_self, foldl_rest, State.rest_regs_pend, State.rest_regs, State.rest_pend, State.commitFilter_rest]; done) | fail) only [foldl_rest, State.commitFilter_rest])⟩

theorem execCounterLatchRead_rest (o : BitVec 23) (debug : Bool) (s : State) {ps : List Part} (hps : Part.sub [.latch, .dbgLatch] ps = true) : ∃ s', execCounterLatchRead o debug s = .next s' ∧ s'.rest ps = s.rest ps := by
  simp only [execCounterLatchRead]
  (repeat' split) <;> exact ⟨_, rfl, Part.lift hps (by simp (disch := first | decide | (intros; simp (disch := decide) only [State.rest_ite, ite_self, foldl_rest, State.rest_latch, State.rest_dbgLatch]; done) | fail) only [State.rest_latch, State.rest_dbgLatch])⟩

theorem State.modSc_rest (s : State) (f : Saucer → Saucer) {ps : List Part} (hps : Part.sub [.sc] ps = true) : (State.modSc s f).rest ps = s.rest ps := Part.lift hps rfl

theorem State.modLost_rest (s : State) (src : Nat) (f : ScLost → ScLost) {ps : List Part} (hps : Part.sub [.sc] ps = true) : (State.modLost s src f).rest ps = s.rest ps := Part.lift hps rfl

theorem State.scFold_rest (s : State) (w : W64) {ps : List Part} (hps : Part.sub [.regs, .sc] ps = true) : (State.scFold s w).rest ps = s.rest ps := Part.lift hps rfl

theorem State.scDisplaced_rest (s : State) (w : W64) {ps : List Part} (hps : Part.sub [.regs, .sc] ps = true) : (State.scDisplaced s w).rest ps = s.rest ps := Part.lift hps (by simp (disch := decide) only [State.scDisplaced, State.rest_ite, ite_self, State.scFold_rest, State.modLost_rest])

theorem State.scSend_rest (s : State) (vn opcode line ident : Nat) (data : List Body) (pl : Line) {ps : List Part} (hps : Part.sub [.regs, .tabBad, .ni, .wakeQ] ps = true) : (State.scSend s vn opcode line ident data pl).rest ps = s.rest ps := Part.lift hps (by simp (disch := decide) only [State.scSend, State.presentReq_rest])

theorem State.scIrqTry_rest (s : State) {ps : List Part} (hps : Part.sub [.regs, .tabBad, .ni, .sc, .wakeQ] ps = true) : (State.scIrqTry s).rest ps = s.rest ps := Part.lift hps (by simp (disch := decide) only [State.scIrqTry, State.rest_ite, ite_self, State.scSend_rest, State.modSc_rest])

theorem State.scRing_rest (s : State) (ws : List W64) {ps : List Part} (hps : Part.sub [.regs, .tabBad, .ni, .sc, .wakeQ] ps = true) : (State.scRing s ws).rest ps = s.rest ps := Part.lift hps (by simp (disch := decide) only [State.scRing, State.scSend_rest, State.scIrqTry_rest, State.modSc_rest, State.rest_ite, ite_self])

theorem State.scRecordCd_rest (s : State) (r : CdRec) (fatal : Bool) {ps : List Part} (hps : Part.sub [.regs, .port, .cd] ps = true) : (State.scRecordCd s r fatal).rest ps = s.rest ps := Part.lift hps (by simp (disch := decide) only [State.scRecordCd, State.rest_ite, ite_self, State.modCd_rest, State.bump_rest, State.cdStore_rest, State.cdGrant_rest, State.setPort_rest])

theorem State.scOpen_rest (s : State) (cls src kind seq : Nat) (esc : Bool) {ps : List Part} (hps : Part.sub [.regs, .sc] ps = true) : (State.scOpen s cls src kind seq esc).rest ps = s.rest ps := Part.lift hps (by
  unfold State.scOpen
  (repeat' split) <;> first | rfl | simp (disch := decide) only [State.rest_ite, ite_self, foldl_rest, State.rest_regs, State.rest_sc, State.bump_rest, State.modSc_rest])

theorem State.scLid_rest (s : State) (src : Nat) {ps : List Part} (hps : Part.sub [.regs] ps = true) : (State.scLid s src).rest ps = s.rest ps := Part.lift hps (by simp (disch := decide) only [State.scLid, State.rest_ite, ite_self, State.setFld_rest])

theorem State.scRecord_rest (s : State) (m : ScMsg) {ps : List Part} (hps : Part.sub [.pins, .regs, .tabBad, .ni, .port, .cd, .sc, .wakeQ] ps = true) : (State.scRecord s m).rest ps = s.rest ps := Part.lift hps (by simp (disch := decide) only [State.scRecord, State.rest_ite, ite_self, State.scRecordCd_rest, State.scLid_rest, State.fatalEffects_rest, State.scOpen_rest, State.scRing_rest, State.modSc_rest, State.wr_rest])

theorem State.scArrive_rest (s : State) (w hw1 : W64) (rep : Nat) {ps : List Part} (hps : Part.sub [.pins, .regs, .tabBad, .ni, .port, .cd, .sc, .wakeQ] ps = true) : (State.scArrive s w hw1 rep).rest ps = s.rest ps := Part.lift hps (by
  simp only [State.scArrive]
  (repeat' split) <;> first | rfl | simp (disch := first | decide | (intros; simp (disch := decide) only [State.rest_ite, ite_self, foldl_rest, State.rest_pins, State.rest_regs, State.rest_tabBad, State.rest_ni, State.rest_cd, State.rest_sc, State.rest_wakeQ, State.scFold_rest, State.fatalEffects_rest, State.scDisplaced_rest, State.scRecord_rest, State.bump_rest, State.modSc_rest, State.rest_port]; done) | fail) only [State.fatalEffects_rest, State.scDisplaced_rest, State.scRecord_rest, State.modSc_rest, State.rest_ite, ite_self, State.scFold_rest, State.bump_rest])

theorem State.pathNews_rest (s : State) (w : W64) {ps : List Part} (hps : Part.sub [.regs, .pend, .ni, .pot] ps = true) : (State.pathNews s w).rest ps = s.rest ps := Part.lift hps (by simp (disch := decide) only [State.pathNews, State.rest_ite, ite_self, State.commitLoss_rest])

theorem execFaultArrive_rest (s : State) {ps : List Part} (hps : Part.sub [.pins, .regs, .pend, .tabBad, .ni, .port, .cd, .sc, .pot, .wakeQ] ps = true) : ∃ s', execFaultArrive s = .next s' ∧ s'.rest ps = s.rest ps := by
  simp only [execFaultArrive]
  repeat' split
  all_goals try have e_takeIn := State.takeIn_eq _ _ _ _ (by assumption) (ps := ps) (Part.sub_trans (by decide) hps)
  all_goals refine ⟨_, rfl, ?_⟩
  all_goals first
    | rfl
    | assumption
    | (simp (disch := first | exact Part.sub_trans (by decide) hps | (intros; (try dsimp only); (repeat' split) <;> first | (with_reducible rfl) | (simp (disch := exact Part.sub_trans (by decide) hps) only [State.rest_ite, ite_self, foldl_rest, State.rest_pins, State.rest_regs, State.rest_pend, State.rest_tabBad, State.rest_ni, State.rest_port, State.rest_cd, State.rest_sc, State.rest_pot, State.rest_wakeQ, State.takeIn_rest, State.scArrive_rest, State.pathNews_rest, State.ledgerNews_rest]; done) | fail) | fail) only [State.rest_ite, ite_self, State.scArrive_rest, State.pathNews_rest, State.ledgerNews_rest, *]; done)

theorem State.scLossEntries_rest (s : State) {ps : List Part} (hps : Part.sub [.sc] ps = true) : (State.scLossEntries s).rest ps = s.rest ps := Part.lift hps (by simp (disch := decide) only [State.scLossEntries, State.rest_ite, ite_self, State.modSc_rest])

theorem execSaucerProcessEntry_rest (s : State) {ps : List Part} (hps : Part.sub [.pins, .regs, .tabBad, .ni, .port, .cd, .sc, .wakeQ] ps = true) : ∃ s', execSaucerProcessEntry s = .next s' ∧ s'.rest ps = s.rest ps := by
  unfold execSaucerProcessEntry
  (repeat' split) <;> exact ⟨_, rfl, Part.lift hps (by first | rfl | simp (disch := decide) only [State.scLossEntries_rest, State.modSc_rest, State.scRecord_rest, State.rest_ite, ite_self])⟩

theorem State.scRelease_rest (s : State) (band : Nat) {ps : List Part} (hps : Part.sub [.regs] ps = true) : (State.scRelease s band).rest ps = s.rest ps := Part.lift hps (by simp (disch := decide) only [State.scRelease, State.rest_ite, ite_self, State.setFld_rest])

theorem execFaultAck_rest (c : Fin 24) (s : State) {ps : List Part} (hps : Part.sub [.regs, .sc, .pot] ps = true) : ∃ s', execFaultAck c s = .next s' ∧ s'.rest ps = s.rest ps := by
  simp only [execFaultAck]
  (repeat' split) <;> first | (refine ⟨_, rfl, Part.lift hps ?_⟩; first | (with_reducible rfl) | (simp (disch := first | decide | (intros; (try dsimp only); (repeat' split) <;> first | (with_reducible rfl) | (simp (disch := decide) only [State.rest_ite, ite_self, foldl_rest, State.rest_regs, State.rest_sc, State.rest_pot, State.potDone_rest, State.runCmd_rest, State.scRelease_rest, State.modSc_rest]; done) | fail) | fail) only [State.runCmd_rest, State.rest_ite, ite_self, State.potDone_rest, State.modSc_rest, State.scRelease_rest]; done) | rfl)

theorem execScC3LidWrite_rest (on : Bool) (s : State) {ps : List Part} (hps : Part.sub [.regs] ps = true) : ∃ s', execScC3LidWrite on s = .next s' ∧ s'.rest ps = s.rest ps := by
  unfold execScC3LidWrite
  (repeat' split) <;> exact ⟨_, rfl, Part.lift hps (by first | rfl | simp (disch := decide) only [State.rest_ite, ite_self, foldl_rest, State.rest_regs, State.setFld_rest])⟩

theorem execScHringResponse_rest (fnc : Bool) (s : State) {ps : List Part} (hps : Part.sub [.regs, .tabBad, .ni, .sc, .wakeQ] ps = true) : ∃ s', execScHringResponse fnc s = .next s' ∧ s'.rest ps = s.rest ps := by
  simp only [execScHringResponse]
  repeat' split
  all_goals try have e_takeComp := State.takeComp_eq _ _ _ (by assumption) (ps := ps) (Part.sub_trans (by decide) hps)
  all_goals refine ⟨_, rfl, ?_⟩
  all_goals first
    | rfl
    | assumption
    | (simp (disch := first | exact Part.sub_trans (by decide) hps | (intros; (try dsimp only); (repeat' split) <;> first | (with_reducible rfl) | (simp (disch := exact Part.sub_trans (by decide) hps) only [State.rest_ite, ite_self, foldl_rest, State.rest_regs, State.rest_tabBad, State.rest_ni, State.rest_sc, State.rest_wakeQ, State.takeComp_rest, State.modSc_rest, State.scSend_rest, State.reportUp_rest]; done) | fail) | fail) only [State.rest_ite, ite_self, State.modSc_rest, State.scSend_rest, State.reportUp_rest, *]; done)

theorem execScIrqIntervalEnd_rest (s : State) {ps : List Part} (hps : Part.sub [.regs, .tabBad, .ni, .sc, .wakeQ] ps = true) : ∃ s', execScIrqIntervalEnd s = .next s' ∧ s'.rest ps = s.rest ps := by
  unfold execScIrqIntervalEnd
  (repeat' split) <;> exact ⟨_, rfl, Part.lift hps (by first | rfl | simp (disch := decide) only [State.scIrqTry_rest, State.rest_ite, ite_self])⟩

theorem execScHringEnableWrite_rest (on : Bool) (s : State) {ps : List Part} (hps : Part.sub [.regs, .sc] ps = true) : ∃ s', execScHringEnableWrite on s = .next s' ∧ s'.rest ps = s.rest ps := by
  unfold execScHringEnableWrite
  (repeat' split) <;> exact ⟨_, rfl, Part.lift hps (by first | rfl | simp (disch := decide) only [State.rest_ite, ite_self, State.setFld_rest, State.modSc_rest])⟩

theorem State.injected_rest (s : State) (j : ScInj) {ps : List Part} (hps : Part.sub [.sc] ps = true) : (State.injected s j).rest ps = s.rest ps := Part.lift hps rfl

theorem State.armInjection_rest (s : State) {ps : List Part} (hps : Part.sub [.sc] ps = true) : (State.armInjection s).rest ps = s.rest ps := Part.lift hps (by simp (disch := decide) only [State.armInjection, State.rest_ite, ite_self, State.modSc_rest])

theorem execInjectFault_rest (s : State) {ps : List Part} (hps : Part.sub [.pins, .regs, .tabBad, .ni, .port, .cd, .sc, .wakeQ] ps = true) : ∃ s', execInjectFault s = .next s' ∧ s'.rest ps = s.rest ps := by
  unfold execInjectFault
  (repeat' split) <;> exact ⟨_, rfl, Part.lift hps (by first | rfl | simp (disch := decide) only [State.injected_rest, State.scArrive_rest])⟩

theorem execInjectLane_rest (s : State) {ps : List Part} (hps : Part.sub [.sc] ps = true) : ∃ s', execInjectLane s = .next s' ∧ s'.rest ps = s.rest ps := by
  simp only [execInjectLane]
  (repeat' split) <;> exact ⟨_, rfl, Part.lift hps (by simp (disch := first | decide | (intros; simp (disch := decide) only [State.rest_ite, ite_self, foldl_rest, State.rest_sc, State.injected_rest, State.addFlip_rest]; done) | fail) only [State.injected_rest, State.addFlip_rest, State.rest_ite, ite_self])⟩

theorem execInjectBuf_rest (s : State) {ps : List Part} (hps : Part.sub [.sc] ps = true) : ∃ s', execInjectBuf s = .next s' ∧ s'.rest ps = s.rest ps := by
  unfold execInjectBuf
  (repeat' split) <;> exact ⟨_, rfl, Part.lift hps (by first | rfl | simp (disch := decide) only [State.rest_ite, ite_self, foldl_rest, State.rest_sc, State.injected_rest, State.addFlip_rest])⟩

theorem execInjectFluCrc_rest (s : State) {ps : List Part} (hps : Part.sub [.sc] ps = true) : ∃ s', execInjectFluCrc s = .next s' ∧ s'.rest ps = s.rest ps := by
  unfold execInjectFluCrc
  (repeat' split) <;> exact ⟨_, rfl, Part.lift hps (by first | rfl | simp (disch := decide) only [State.rest_ite, ite_self, foldl_rest, State.rest_sc, State.injected_rest, State.addFlip_rest])⟩

theorem doneState_rest {o : Outcome} {s : State} {ps : List Part} (h : ∃ s', o = .next s' ∧ s'.rest ps = s.rest ps) : (doneState o s).rest ps = s.rest ps := by
  obtain ⟨t, e, r⟩ := h
  rw [e]
  exact r

theorem State.blsWrite_rest (s : State) (v : W64) {ps : List Part} (hps : Part.sub [.regs, .ni, .pot, .wakeQ] ps = true) : (State.blsWrite s v).rest ps = s.rest ps := Part.lift hps (by simp (disch := decide) only [State.blsWrite, State.rest_ite, ite_self, State.lockedWrite_rest, State.modPot_rest, State.setFld_rest])



theorem State.lineUsed_eq (s : State) {r0 : Bool} {r1 : State} {ps : List Part} (hr : State.lineUsed s = (r0, r1)) (hps : Part.sub [.free] ps = true) : r1.rest ps = s.rest ps := Part.lift hps (by
  simp only [State.lineUsed] at hr
  (repeat' split at hr) <;> (try cases hr) <;> (try have e0 := State.fresh_eq _ (by assumption) (ps := [.free]) (by decide)); first | (with_reducible rfl) | contradiction | (simp (disch := first | decide | (intros; (try dsimp only); (repeat' split) <;> first | (with_reducible rfl) | (simp (disch := decide) only [State.rest_ite, ite_self, foldl_rest, State.rest_free, State.fresh_rest]; done) | fail) | fail) only [State.fresh_rest, *]; done) | rfl)

theorem State.lineUsed_rest (s : State) {ps : List Part} (hps : Part.sub [.free] ps = true) : (State.lineUsed s).2.rest ps = s.rest ps := Part.lift hps rfl

/-- What an optional next state holds differs only in the named components. -/

def keepsOpt (ps : List Part) (s : State) (x : Option State) : Prop := ∀ r, x = some r → r.rest ps = s.rest ps

theorem keepsOpt_none {ps : List Part} {s : State} : keepsOpt ps s none := by
  intro r h
  cases h

theorem keepsOpt_some {ps : List Part} {s t : State} (h : t.rest ps = s.rest ps) : keepsOpt ps s (some t) := by
  intro r e
  cases e
  exact h

theorem keepsOpt_ite {ps : List Part} {s : State} {c : Prop} [Decidable c] {x y : Option State} (hx : keepsOpt ps s x) (hy : keepsOpt ps s y) :
    keepsOpt ps s (if c then x else y) := by
  split <;> assumption

theorem keepsOpt_dite {ps : List Part} {s : State} {c : Prop} [Decidable c] {x : c → Option State} {y : ¬c → Option State}
    (hx : ∀ h, keepsOpt ps s (x h)) (hy : ∀ h, keepsOpt ps s (y h)) : keepsOpt ps s (if h : c then x h else y h) := by
  split
  · exact hx _
  · exact hy _

theorem State.wholeWrite_keeps (s : State) (o : Nat) (v reach : W64) {ps : List Part} (hps : Part.sub [.free, .regs, .tab, .rt, .ni, .slice, .dom, .pot, .chk, .wakeQ] ps = true) :
    keepsOpt ps s (s.wholeWrite o v reach) := by
  have hd : ∀ qs, Part.sub qs [.free, .regs, .tab, .rt, .ni, .slice, .dom, .pot, .chk, .wakeQ] = true → Part.sub qs ps = true := fun qs h => Part.sub_trans h hps
  unfold State.wholeWrite
  dsimp only
  repeat' first
    | with_reducible exact keepsOpt_none
    | with_reducible refine keepsOpt_ite ?_ ?_
    | (with_reducible refine keepsOpt_dite ?_ ?_ <;> intro hx)
    | with_reducible refine keepsOpt_some ?_
  all_goals first
    | with_reducible exact State.blsWrite_rest _ _ (hd _ (by decide))
    | with_reducible exact State.writeGtMask_rest _ _ _ (hd _ (by decide))
    | with_reducible exact State.modNi_rest _ _ _ (hd _ (by decide))
    | with_reducible exact doneState_rest (execHsDiagGo_rest _ _ _ (hd _ (by decide)))
    | with_reducible exact doneState_rest (execHsDiagDataWrite_rest _ _ _ (hd _ (by decide)))
    | with_reducible exact (doneState_rest (execNiDiagGo_rest _ _ _ _ (hd _ (by decide)))).trans (State.lineUsed_rest _ (hd _ (by decide)))
    | with_reducible exact (doneState_rest (execNiDiagDataWrite_rest _ _ _ _ (hd _ (by decide)))).trans (State.lineUsed_rest _ (hd _ (by decide)))
    | (simp only [histWrite]
       (repeat' split) <;> simp (disch := (exact hd _ (by decide))) only [State.selectRt_rest, State.modRt_rest, State.selectNi_rest, State.modNi_rest])

theorem State.wholeWrite_eq (s : State) (o : Nat) (v reach : W64) {r0 : State} {ps : List Part} (hr : State.wholeWrite s o v reach = some r0) (hps : Part.sub [.free, .regs, .tab, .rt, .ni, .slice, .dom, .pot, .chk, .wakeQ] ps = true) : r0.rest ps = s.rest ps :=
  State.wholeWrite_keeps s o v reach hps r0 hr

abbrev actParts : List Part := [.pins, .regs, .pend, .tabBad, .time, .rt, .ni, .port, .slice, .lk, .dom, .sb, .st, .cd, .tr, .sc, .pot, .seamDown, .wire, .owed, .used, .wakeQ]

theorem State.overWrite_rest (s : State) (o : Nat) (v reach : W64) {ps : List Part} (hps : Part.sub [.pot] ps = true) : (State.overWrite s o v reach).rest ps = s.rest ps := Part.lift hps (by simp (disch := decide) only [State.overWrite, State.rest_ite, ite_self, State.modPot_rest])

/-- An action of a field write changes only the named components. -/

def FieldAct.keeps (ps : List Part) (a : FieldAct) : Prop := ∀ s v, (a.act s v).rest ps = s.rest ps

theorem onSet_keeps {ps : List Part} (f : Fld) (ex : State → Outcome) (h : ∀ s, ∃ s', ex s = .next s' ∧ s'.rest ps = s.rest ps) : (onSet f ex).keeps ps := by
  intro s v
  simp only [onSet]
  split
  · exact doneState_rest (h s)
  · rfl

theorem onWrite_keeps {ps : List Part} (f : Fld) (ex : Nat → State → Outcome) (h : ∀ v s, ∃ s', ex v s = .next s' ∧ s'.rest ps = s.rest ps) : (onWrite f ex).keeps ps := by
  intro s v
  simp only [onWrite]
  exact doneState_rest (h v s)

theorem keeps_ite {ps : List Part} {c : Prop} [Decidable c] {l m : List FieldAct} (h : ∀ a ∈ l, a.keeps ps) (h' : ∀ a ∈ m, a.keeps ps) : ∀ a ∈ (if c then l else m), a.keeps ps := by
  split <;> assumption

theorem keeps_dite {ps : List Part} {c : Prop} [Decidable c] {l : c → List FieldAct} {m : ¬c → List FieldAct} (h : ∀ x, ∀ a ∈ l x, a.keeps ps) (h' : ∀ x, ∀ a ∈ m x, a.keeps ps) : ∀ a ∈ (if x : c then l x else m x), a.keeps ps := by
  split
  · exact h _
  · exact h' _

theorem keeps_nil {ps : List Part} : ∀ a ∈ ([] : List FieldAct), a.keeps ps := by simp

theorem keeps_cons {ps : List Part} {a : FieldAct} {l : List FieldAct} (h : a.keeps ps) (h' : ∀ a ∈ l, a.keeps ps) : ∀ b ∈ a :: l, b.keeps ps := by
  simpa using ⟨h, h'⟩

theorem unitActs_rest (o : Nat) {ps : List Part} (hps : Part.sub actParts ps = true) : ∀ a ∈ unitActs o, a.keeps ps := by
  unfold unitActs
  dsimp only
  repeat' first
    | with_reducible exact keeps_nil
    | with_reducible refine keeps_cons ?_ ?_
    | with_reducible refine keeps_ite ?_ ?_
    | (with_reducible refine keeps_dite ?_ ?_ <;> intro hx)
    | (with_reducible apply onSet_keeps; intro s)
    | (with_reducible apply onWrite_keeps; intro v s)
  all_goals have hd : ∀ qs, Part.sub qs actParts = true → Part.sub qs ps = true := fun qs h => Part.sub_trans h hps
  all_goals first
    | with_reducible exact execNiLossCommit_rest _ _ (hd _ (by decide))
    | with_reducible exact execNiTagCommit_rest _ _ (hd _ (by decide))
    | with_reducible exact execRtForceUnreachWrite_rest _ _ _ (hd _ (by decide))
    | with_reducible exact execHsArbCommit_rest _ _ (hd _ (by decide))
    | (intro s v; show State.rest _ _ = _; with_reducible (try dsimp only); (repeat' split) <;> first
        | with_reducible rfl
        | with_reducible exact State.fenceSw_rest _ _ _ (hd _ (by decide))
        | with_reducible exact State.commitShapers_rest _ _ (hd _ (by decide))
        | with_reducible exact State.commitMeters_rest _ _ (hd _ (by decide))
        | with_reducible exact State.commitLeaf_rest _ _ (hd _ (by decide))
        | with_reducible exact State.lkRetrain_rest _ _ _ (hd _ (by decide))
        | with_reducible exact doneState_rest (execLkEnableWrite_rest _ _ _ _ (hd _ (by decide)))
        | with_reducible exact doneState_rest (execPmFltCommit_rest _ _ _ (hd _ (by decide))))

theorem blockActs_rest (o : Nat) {ps : List Part} (hps : Part.sub actParts ps = true) : ∀ a ∈ blockActs o, a.keeps ps := by
  unfold blockActs
  repeat' first
    | with_reducible exact keeps_nil
    | with_reducible refine keeps_cons ?_ ?_
    | with_reducible refine keeps_ite ?_ ?_
    | (with_reducible apply onSet_keeps; intro s)
    | (with_reducible apply onWrite_keeps; intro v s)
  all_goals have hd : ∀ qs, Part.sub qs actParts = true → Part.sub qs ps = true := fun qs h => Part.sub_trans h hps
  all_goals first
    | with_reducible exact execBootReadyWrite_rest _ (hd _ (by decide))
    | with_reducible exact execJoinGoWrite_rest _ (hd _ (by decide))
    | with_reducible exact execFtStartWrite_rest _ (hd _ (by decide))
    | with_reducible exact execFtSwitchReqWrite_rest _ (hd _ (by decide))
    | with_reducible exact execScC3LidWrite_rest _ _ (hd _ (by decide))
    | with_reducible exact execScHringEnableWrite_rest _ _ (hd _ (by decide))
    | with_reducible exact execSbTelemCommit_rest _ (hd _ (by decide))
    | with_reducible exact execSbInCommit_rest _ (hd _ (by decide))
    | with_reducible exact execSbOutCommit_rest _ (hd _ (by decide))
    | with_reducible exact execTraceEnWrite_rest _ _ (hd _ (by decide))
    | (intro s v; show State.rest _ _ = _; with_reducible (try dsimp only); (repeat' split) <;> first
        | with_reducible rfl
        | with_reducible exact State.setPotClose_rest _ _ (hd _ (by decide))
        | with_reducible exact State.writeMode_rest _ _ (hd _ (by decide))
        | with_reducible exact State.startCommit_rest _ (hd _ (by decide))
        | with_reducible exact State.setLock_rest _ (hd _ (by decide))
        | with_reducible exact State.armInjection_rest _ (hd _ (by decide))
        | with_reducible exact State.writeRest_rest _ _ _ (hd _ (by decide)))

theorem fieldActs_rest (o : Nat) {ps : List Part} (hps : Part.sub actParts ps = true) : ∀ a ∈ fieldActs o, a.keeps ps := by
  unfold fieldActs
  exact keeps_ite (blockActs_rest o hps) (unitActs_rest o hps)

theorem State.plainWrite_rest (s : State) (o : Nat) (r : RegRow) (v reach : W64) {ps : List Part} (hps : Part.sub [.pins, .regs, .pend, .tabBad, .time, .rt, .ni, .port, .slice, .lk, .dom, .sb, .st, .cd, .tr, .sc, .pot, .seamDown, .wire, .owed, .used, .wakeQ] ps = true) : (State.plainWrite s o r v reach).rest ps = s.rest ps := by
  unfold State.plainWrite
  extract_lets acts actMask boot free m set clr one old s1 st s2
  have h1 : s1.rest ps = s.rest ps := State.wr_rest _ _ _ (Part.sub_trans (by decide) hps)
  have h2 : s2.rest ps = s.rest ps := by
    simp (disch := (exact Part.sub_trans (by decide) hps)) only [s2, State.overWrite_rest, State.rest_ite, State.setPend_rest, ite_self, h1]
  rw [foldl_rest_mem, h2]
  intro a ha s'
  exact fieldActs_rest o hps a (List.mem_filter.mp ha).1 s' _

theorem State.noteWrite_rest (s : State) (o : Nat) (r : RegRow) {ps : List Part} (hps : Part.sub [.pot] ps = true) : (State.noteWrite s o r).rest ps = s.rest ps := Part.lift hps (by simp (disch := decide) only [State.noteWrite, State.rest_ite, ite_self, State.fwNote_rest])

theorem State.writeReg_rest (s : State) (o : Nat) (v reach : W64) {ps : List Part} (hps : Part.sub [.free, .pins, .regs, .pend, .tab, .tabBad, .time, .rt, .ni, .port, .slice, .lk, .dom, .sb, .st, .cd, .tr, .sc, .pot, .chk, .seamDown, .wire, .owed, .used, .wakeQ] ps = true) : (State.writeReg s o v reach).rest ps = s.rest ps := by
  unfold State.writeReg
  split
  · rfl
  split
  · rfl
  split
  · exact (State.noteWrite_rest _ _ _ (Part.sub_trans (by decide) hps)).trans (State.wholeWrite_eq _ _ _ _ (by assumption) (Part.sub_trans (by decide) hps))
  · simp (disch := (exact Part.sub_trans (by decide) hps)) only [State.noteWrite_rest, State.rest_ite, State.lockedWrite_rest, State.plainWrite_rest, ite_self]

theorem execRegisterWrite_rest (a : BitVec 24) (wide : Bool) (value : W64) (s : State) {ps : List Part} (hps : Part.sub [.free, .pins, .regs, .pend, .tab, .tabBad, .time, .rt, .ni, .port, .slice, .lk, .dom, .sb, .st, .cd, .tr, .sc, .pot, .chk, .seamDown, .wire, .owed, .used, .wakeQ] ps = true) : ∃ s', execRegisterWrite a wide value s = .next s' ∧ s'.rest ps = s.rest ps := by
  simp only [execRegisterWrite]
  (repeat' split) <;> exact ⟨_, rfl, Part.lift hps (by simp (disch := first | decide | (intros; simp (disch := decide) only [State.rest_ite, ite_self, foldl_rest, State.rest_tab_chk, State.rest_tab_tabBad, State.rest_tab_tabBad_chk, State.rest_regs_pend, State.rest_free, State.rest_pins, State.rest_regs, State.rest_pend, State.rest_tab, State.rest_tabBad, State.rest_time, State.rest_rt, State.rest_ni, State.rest_port, State.rest_slice, State.rest_lk, State.rest_dom, State.rest_sb, State.rest_st, State.rest_cd, State.rest_tr, State.rest_sc, State.rest_pot, State.rest_chk, State.rest_seamDown, State.rest_wire, State.rest_owed, State.rest_used, State.rest_wakeQ, State.writeReg_rest]; done) | fail) only [State.writeReg_rest, State.rest_ite, ite_self])⟩

theorem execGlBlsDataWrite_rest (value : W64) (s : State) {ps : List Part} (hps : Part.sub [.regs, .ni, .pot, .wakeQ] ps = true) : ∃ s', execGlBlsDataWrite value s = .next s' ∧ s'.rest ps = s.rest ps := by
  unfold execGlBlsDataWrite
  (repeat' split) <;> exact ⟨_, rfl, Part.lift hps (by first | rfl | simp (disch := decide) only [State.blsWrite_rest, State.rest_ite, ite_self])⟩

theorem State.regRead_eq (s : State) (a size : Nat) (debug : Bool) {r0 : W64} {r1 : State} {ps : List Part} (hr : State.regRead s a size debug = (r0, r1)) (hps : Part.sub [.ni, .latch, .dbgLatch] ps = true) : r1.rest ps = s.rest ps := Part.lift hps (by
  simp only [State.regRead] at hr
  (repeat' split at hr) <;> (try cases hr) <;> first | (with_reducible rfl) | contradiction | (simp (disch := first | decide | (intros; (try dsimp only); (repeat' split) <;> first | (with_reducible rfl) | (simp (disch := decide) only [State.rest_ite, ite_self, foldl_rest, State.rest_ni, State.rest_latch, State.rest_dbgLatch, State.modNi_rest]; done) | fail) | fail) only [State.rest_latch, State.rest_dbgLatch, State.modNi_rest, State.rest_ite, ite_self]; done) | rfl)

theorem State.regRead_rest (s : State) (a size : Nat) (debug : Bool) {ps : List Part} (hps : Part.sub [.ni, .latch, .dbgLatch] ps = true) : (State.regRead s a size debug).2.rest ps = s.rest ps := Part.lift hps (by
  simp only [State.regRead]
  (repeat' split) <;> first | rfl | simp (disch := first | decide | (intros; simp (disch := decide) only [State.rest_ite, ite_self, foldl_rest, State.rest_ni, State.rest_latch, State.rest_dbgLatch, State.modNi_rest]; done) | fail) only [State.rest_ite, ite_self, foldl_rest, State.rest_ni, State.rest_latch, State.rest_dbgLatch, State.modNi_rest])

theorem State.serveRegister_rest (s : State) (n : Nat) (p : Pkt) {ps : List Part} (hps : Part.sub [.free, .pins, .regs, .pend, .tab, .tabBad, .time, .rt, .ni, .port, .slice, .lk, .dom, .sb, .st, .cd, .tr, .sc, .pot, .latch, .dbgLatch, .chk, .seamDown, .wire, .owed, .used, .wakeQ] ps = true) : (State.serveRegister s n p).rest ps = s.rest ps := Part.lift hps (by
  unfold State.serveRegister
  (repeat' split) <;> first | rfl | simp (disch := decide) only [State.rest_ite, ite_self, State.answerErr_rest, State.writeReg_rest, State.answer_rest, State.regRead_rest])

theorem execDbgSelWrite_rest (data : BitVec 32) (s : State) {ps : List Part} (hps : Part.sub [.dbg] ps = true) : ∃ s', execDbgSelWrite data s = .next s' ∧ s'.rest ps = s.rest ps := by
  unfold execDbgSelWrite
  (repeat' split) <;> exact ⟨_, rfl, Part.lift hps (by first | rfl | simp (disch := decide) only [State.rest_ite, ite_self, foldl_rest, State.rest_dbg])⟩

theorem execDebugCaptureDone_rest (s : State) {ps : List Part} (hps : Part.sub [.regs, .dbg] ps = true) : ∃ s', execDebugCaptureDone s = .next s' ∧ s'.rest ps = s.rest ps := by
  unfold execDebugCaptureDone
  (repeat' split) <;> exact ⟨_, rfl, Part.lift hps (by first | rfl | simp (disch := decide) only [State.rest_ite, ite_self, foldl_rest, State.rest_regs, State.rest_dbg, State.bump_rest])⟩

theorem execDebugMeshRead_rest (n : Fin 8) (tag : BitVec 10) (a : BitVec 24) (wide : Bool) (pasid : Option Bool) (err : ReadErr) (s : State) {ps : List Part} (hps : Part.sub [.regs, .tabBad, .ni, .port, .wire, .wakeQ] ps = true) : ∃ s', execDebugMeshRead n tag a wide pasid err s = .next s' ∧ s'.rest ps = s.rest ps := by
  unfold execDebugMeshRead
  (repeat' split) <;> exact ⟨_, rfl, Part.lift hps (by first | rfl | simp (disch := decide) only [State.openExt_rest, State.serveComps_rest, State.rest_ite, ite_self])⟩

theorem State.wakeUnit_rest (s : State) (n : Nat) (p : Pkt) {ps : List Part} (hps : Part.sub [.wakeQ] ps = true) : (State.wakeUnit s n p).rest ps = s.rest ps := Part.lift hps (by
  unfold State.wakeUnit
  (repeat' split) <;> first | rfl | simp (disch := decide) only [State.rest_ite, ite_self, foldl_rest, State.rest_wakeQ, State.askWake_rest])

theorem State.unserved_rest (s : State) (n : Nat) (h : Hdr) {ps : List Part} (hps : Part.sub [.regs, .ni, .port, .sb, .wakeQ] ps = true) : (State.unserved s n h).rest ps = s.rest ps := Part.lift hps (by
  unfold State.unserved
  (repeat' split) <;> first | rfl | simp (disch := decide) only [State.rest_ite, ite_self, State.answerErr_rest, State.sbUnserved_rest, State.portUnsup_rest, State.reportReserved_rest])

theorem execNiRequestPresent_rest (n : Fin 256) (r : Req) (err : ReadErr) (s : State) {ps : List Part} (hps : Part.sub [.regs, .tabBad, .ni, .port, .sb, .wire, .wakeQ] ps = true) : ∃ s', execNiRequestPresent n r err s = .next s' ∧ s'.rest ps = s.rest ps := by
  unfold execNiRequestPresent
  (repeat' split) <;> exact ⟨_, rfl, Part.lift hps (by first | rfl | simp (disch := decide) only [State.presentExt_rest, State.localDone_rest, State.reportReserved_rest, State.serveComps_rest, State.rest_ite, ite_self, State.unserved_rest])⟩

theorem State.stray_rest (s : State) (n : Nat) (h : Hdr) {ps : List Part} (hps : Part.sub [.regs, .ni] ps = true) : (State.stray s n h).rest ps = s.rest ps := Part.lift hps (by simp (disch := decide) only [State.stray, State.setFld_rest, State.reportNi_rest, State.bump_rest])

theorem State.retried_rest (s : State) (n t : Nat) (x : Tag) {ps : List Part} (hps : Part.sub [.regs, .ni] ps = true) : (State.retried s n t x).rest ps = s.rest ps := Part.lift hps (by simp (disch := decide) only [State.retried, State.rest_ite, ite_self, State.evNi_rest, State.synthDone_rest, State.reportNi_rest, State.dropTag_rest, State.modNi_rest, State.setFld_rest])

theorem State.openRecord_rest (s : State) (n t dest : Nat) (q : Hdr) (p : Hdr) {ps : List Part} (hps : Part.sub [.ni] ps = true) : (State.openRecord s n t dest q p).rest ps = s.rest ps := Part.lift hps (by simp (disch := decide) only [State.openRecord, State.rest_ite, ite_self, State.modNi_rest])

theorem State.ownAnswer_rest (s : State) (n t : Nat) (x : Tag) (q : Hdr) (got : List Pkt) {ps : List Part} (hps : Part.sub [.ni] ps = true) : (State.ownAnswer s n t x q got).rest ps = s.rest ps := Part.lift hps (by
  unfold State.ownAnswer
  (repeat' split) <;> first | rfl | simp (disch := decide) only [State.rest_ite, ite_self, foldl_rest, State.rest_ni, State.handOver_rest])

theorem State.completeTag_rest (s : State) (n t : Nat) (x : Tag) (q : Pkt) (got : List Pkt) (p : Pkt) {ps : List Part} (hps : Part.sub [.regs, .ni] ps = true) : (State.completeTag s n t x q got p).rest ps = s.rest ps := Part.lift hps (by simp (disch := decide) only [State.completeTag, State.rest_ite, ite_self, State.dropTag_rest, State.pieceDone_rest, State.modNi_rest, State.ownAnswer_rest, foldl_rest])

theorem State.toLinkTag_rest (s : State) (n : Nat) (x : Tag) (q : Pkt) (p : Pkt) {ps : List Part} (hps : Part.sub [.wire] ps = true) : (State.toLinkTag s n x q p).rest ps = s.rest ps := Part.lift hps (by
  unfold State.toLinkTag
  (repeat' split) <;> first | rfl | simp (disch := decide) only [State.claDeliver_rest, State.rest_ite, ite_self])

theorem State.accepted_rest (s : State) (n t : Nat) (x : Tag) (q p : Pkt) {ps : List Part} (hps : Part.sub [.regs, .ni, .wire] ps = true) : (State.accepted s n t x q p).rest ps = s.rest ps := Part.lift hps (by simp (disch := decide) only [State.accepted, State.rest_ite, ite_self, State.dropTag_rest, State.openRecord_rest, State.completeTag_rest, State.modNi_rest, State.toLinkTag_rest])

theorem State.ownResponse_rest (s : State) (n : Nat) (p : Pkt) {ps : List Part} (hps : Part.sub [.regs, .ni, .wire] ps = true) : (State.ownResponse s n p).rest ps = s.rest ps := Part.lift hps (by
  simp only [State.ownResponse]
  (repeat' split) <;> first | rfl | simp (disch := first | decide | (intros; simp (disch := decide) only [State.rest_ite, ite_self, foldl_rest, State.rest_regs, State.rest_ni, State.rest_wire, State.retried_rest, State.reportNi_rest, State.dropTag_rest, State.accepted_rest, State.bump_rest, State.stray_rest, State.setFld_rest]; done) | fail) only [State.retried_rest, State.reportNi_rest, State.dropTag_rest, State.accepted_rest, State.bump_rest, State.stray_rest, State.setFld_rest, State.rest_ite, ite_self])

theorem State.toUnit_rest (s : State) (n : Nat) (p : Pkt) {ps : List Part} (hps : Part.sub [.ni, .wakeQ] ps = true) : (State.toUnit s n p).rest ps = s.rest ps := Part.lift hps (by simp (disch := decide) only [State.toUnit, State.wakeUnit_rest, State.modNi_rest])

theorem State.deliver_rest (s : State) (n : Nat) (p : Pkt) {ps : List Part} (hps : Part.sub [.ni, .port, .wire, .wakeQ] ps = true) : (State.deliver s n p).rest ps = s.rest ps := Part.lift hps (by
  unfold State.deliver
  (repeat' split) <;> first | rfl | simp (disch := decide) only [State.rest_ite, ite_self, State.toChiplet_rest, State.modNi_rest, State.portOut_rest, State.toUnit_rest, State.keepDemand_rest])

theorem State.noteAsked_rest (s : State) (n : Nat) (h : Hdr) {ps : List Part} (hps : Part.sub [.ni] ps = true) : (State.noteAsked s n h).rest ps = s.rest ps := Part.lift hps (by simp (disch := decide) only [State.noteAsked, State.rest_ite, ite_self, State.modNi_rest])

theorem State.takeRequest_rest (s0 : State) (n : Nat) (p : Pkt) {ps : List Part} (hps : Part.sub [.free, .pins, .regs, .pend, .tab, .tabBad, .time, .rt, .ni, .port, .slice, .lk, .dom, .sb, .st, .cd, .tr, .sc, .pot, .latch, .dbgLatch, .chk, .seamDown, .wire, .owed, .used, .wakeQ] ps = true) : (State.takeRequest s0 n p).rest ps = s0.rest ps := Part.lift hps (by simp (disch := decide) only [State.takeRequest, State.rest_ite, ite_self, State.noteAsked_rest, State.deliver_rest, State.answerErr_rest, State.unserved_rest, State.modNi_rest, State.bump_rest, State.serveRegister_rest])

theorem State.takePkt_rest (s : State) (n : Nat) (p : Pkt) {ps : List Part} (hps : Part.sub [.free, .pins, .regs, .pend, .tab, .tabBad, .time, .rt, .ni, .port, .slice, .lk, .dom, .sb, .st, .cd, .tr, .sc, .pot, .latch, .dbgLatch, .chk, .seamDown, .wire, .owed, .used, .wakeQ] ps = true) : (State.takePkt s n p).rest ps = s.rest ps := Part.lift hps (by simp (disch := decide) only [State.takePkt, State.rest_ite, ite_self, State.ownResponse_rest, State.toUnit_rest, State.unserved_rest, State.noteAsked_rest, State.takeRequest_rest])

theorem State.niLaneUe_rest (s : State) (n : Nat) (e : LaneErrs) (ctrl : Bool) {ps : List Part} (hps : Part.sub [.regs, .ni] ps = true) : (State.niLaneUe s n e ctrl).rest ps = s.rest ps := Part.lift hps (by simp (disch := decide) only [State.niLaneUe, State.report_rest, State.rest_ite, ite_self])

theorem State.bodyChecks_rest (s : State) (n : Nat) (h : Hdr) (k : Nat) (l : List Flit) (es : List LaneErrs) {ps : List Part} (hps : Part.sub [.regs, .ni] ps = true) :
    (State.bodyChecks s n h k l es).1.rest ps = s.rest ps := by
  induction l generalizing s k es with
  | nil => rfl
  | cons f l ih =>
    simp only [State.bodyChecks]
    rw [ih]
    split
    · rfl
    · exact State.niLaneUe_rest _ _ _ _ (Part.sub_trans (by decide) hps)

theorem State.bodyChecks_eq (s : State) (n : Nat) (h : Hdr) (k : Nat) (l : List Flit) (es : List LaneErrs) {s' : State} {r : List Flit} {ps : List Part}
    (hr : State.bodyChecks s n h k l es = (s', r)) (hps : Part.sub [.regs, .ni] ps = true) : s'.rest ps = s.rest ps := by
  have e := State.bodyChecks_rest s n h k l es hps
  rwa [hr] at e

theorem State.rxCheck_rest (s : State) (n : Nat) (p : Pkt) (e : BufErr) {ps : List Part} (hps : Part.sub [.regs, .ni] ps = true) : (State.rxCheck s n p e).1.rest ps = s.rest ps := by
  unfold State.rxCheck
  extract_lets o mark s0 ep s1 s2
  have hm : ∀ s, (mark s).rest ps = s.rest ps := fun s => by
    simp (disch := (exact Part.sub_trans (by decide) hps)) only [mark, State.setFld_rest]
  have h1 : s1.rest ps = s.rest ps := by
    simp (disch := (exact Part.sub_trans (by decide) hps)) only [s1, s0, State.rest_ite, ite_self, State.setFld_rest, State.reportNi_rest, State.occursNi_rest, State.modNi_rest, State.bump_rest, State.bumpBy_rest, hm]
  have h2 : s2.rest ps = s.rest ps := by
    refine (foldl_rest _ _ _ (fun s _ => ?_)).trans h1
    simp (disch := (exact Part.sub_trans (by decide) hps)) only [State.setFld_rest, State.reportNi_rest, State.bump_rest, hm]
  clear_value s2 s1 mark
  split
  · rfl
  split
  · exact h1
  · exact h2

theorem State.rxCheck_eq (s : State) (n : Nat) (p : Pkt) (e : BufErr) {r0 : State} {r1 : Pkt} {ps : List Part} (hr : State.rxCheck s n p e = (r0, r1)) (hps : Part.sub [.regs, .ni] ps = true) : r0.rest ps = s.rest ps := by
  have e := State.rxCheck_rest s n p e hps
  rw [hr] at e
  exact e

theorem State.countIop_rest (s : State) (n : Nat) (h : Hdr) {ps : List Part} (hps : Part.sub [.ni] ps = true) : (State.countIop s n h).rest ps = s.rest ps := Part.lift hps (by simp (disch := decide) only [State.countIop, State.rest_ite, ite_self, State.modNi_rest])

theorem State.malformed_rest (s : State) (n vn : Nat) (tag : Nat) {ps : List Part} (hps : Part.sub [.regs, .ni] ps = true) : (State.malformed s n vn tag).rest ps = s.rest ps := Part.lift hps (by simp (disch := decide) only [State.malformed, State.setFld_rest, State.reportNi_rest])

theorem State.received_rest (s : State) (n vn : Nat) (fs : List Flit) (es : List LaneErrs) (err : BufErr) {ps : List Part} (hps : Part.sub [.free, .pins, .regs, .pend, .tab, .tabBad, .time, .rt, .ni, .port, .slice, .lk, .dom, .sb, .st, .cd, .tr, .sc, .pot, .latch, .dbgLatch, .chk, .seamDown, .wire, .owed, .used, .wakeQ] ps = true) : (State.received s n vn fs es err).rest ps = s.rest ps := by
  unfold State.received
  split
  case h_2 => exact State.malformed_rest _ _ _ _ (Part.sub_trans (by decide) hps)
  extract_lets e s1 s2 s3 h1
  have r1 : s1.rest ps = s.rest ps := by
    refine (foldl_rest _ _ _ (fun s _ => ?_)).trans ?_ <;> exact State.evNi_rest _ _ _ _ _ (Part.sub_trans (by decide) hps)
  have r2 : s2.rest ps = s.rest ps := by
    simp only [s2]
    split
    · exact r1
    · exact (State.niLaneUe_rest _ _ _ _ (Part.sub_trans (by decide) hps)).trans r1
  have r3 : s3.rest ps = s.rest ps := by
    simp (disch := (exact Part.sub_trans (by decide) hps)) only [s3, State.rest_ite, State.countIop_rest, ite_self, r2]
  clear_value s1 s2 s3 h1
  dsimp only
  have r4 : ∀ b es, (s3.bodyChecks n h1 1 b es).1.rest ps = s.rest ps := fun b es => (State.bodyChecks_rest _ _ _ _ _ _ (Part.sub_trans (by decide) hps)).trans r3
  (repeat' split) <;>
    simp (disch := (exact Part.sub_trans (by decide) hps)) only [State.takePkt_rest, State.rxCheck_rest, State.rest_ite, State.pushStamp_rest, State.malformed_rest, ite_self, r4]

theorem State.oweFlits_rest (s : State) (n vn : Nat) (fs : List Flit) {ps : List Part} (hps : Part.sub [.owed] ps = true) : (State.oweFlits s n vn fs).rest ps = s.rest ps := Part.lift hps (by
  simp (disch := first | decide | (intros; simp (disch := decide) only [State.rest_ite, ite_self, foldl_rest, State.rest_owed, State.oweCredit_rest]; done) | fail) only [State.oweFlits, State.rest_ite, ite_self, foldl_rest, State.oweCredit_rest])

theorem State.rxErrs_rest (s : State) (n vn : Nat) (gt : Bool) (fs : List Flit) (errs : List LaneErrs) {ps : List Part} (hps : Part.sub [.sc] ps = true) : (State.rxErrs s n vn gt fs errs).2.1.rest ps = s.rest ps :=
  State.takeFlips_rest _ _ _ hps

theorem State.rxLane_eq (s : State) (n vn : Nat) (gt : Bool) (errs : List LaneErrs) (err : BufErr) {t : State} {ps : List Part} (hr : State.rxLane s n vn gt errs err = some t) (hps : Part.sub [.free, .pins, .regs, .pend, .tab, .tabBad, .time, .rt, .ni, .port, .slice, .lk, .dom, .sb, .st, .cd, .tr, .sc, .pot, .latch, .dbgLatch, .chk, .seamDown, .wire, .owed, .used, .wakeQ] ps = true) : t.rest ps = s.rest ps := by
  unfold State.rxLane at hr
  dsimp only at hr
  split at hr
  · cases hr
  split at hr
  · cases hr
  · cases hr
  · cases hr
    rw [State.oweFlits_rest _ _ _ _ (Part.sub_trans (by decide) hps), State.setWire_rest _ _ _ (Part.sub_trans (by decide) hps)]
    exact State.rxErrs_rest s n vn gt _ errs (Part.sub_trans (by decide) hps)
  · cases hr
    simp (disch := (exact Part.sub_trans (by decide) hps)) only [State.serveComps_rest, State.rest_ite, State.markInj_rest, State.received_rest, State.oweFlits_rest, State.setWire_rest, State.rxErrs_rest, ite_self]

theorem execNiPacketReceive_rest (n : Fin 256) (vn : Fin 8) (errs : List LaneErrs) (err : BufErr) (s : State) {ps : List Part} (hps : Part.sub [.free, .pins, .regs, .pend, .tab, .tabBad, .time, .rt, .ni, .port, .slice, .lk, .dom, .sb, .st, .cd, .tr, .sc, .pot, .latch, .dbgLatch, .chk, .seamDown, .wire, .owed, .used, .wakeQ] ps = true) : ∃ s', execNiPacketReceive n vn errs err s = .next s' ∧ s'.rest ps = s.rest ps := by
  simp only [execNiPacketReceive]
  split
  · exact ⟨_, rfl, rfl⟩
  split
  · rename_i t h
    refine ⟨_, rfl, ?_⟩
    rcases Option.or_eq_some_iff.mp h with h | ⟨-, h⟩ <;> exact State.rxLane_eq _ _ _ _ _ _ h hps
  split
  · refine ⟨_, rfl, ?_⟩
    simp (disch := (exact Part.sub_trans (by decide) hps)) only [State.rest_ite, State.askWake_rest, ite_self]
  · exact ⟨_, rfl, rfl⟩

theorem State.withPending_rest (s : State) (l : List Instr) {ps : List Part} (hps : Part.sub [.pending] ps = true) : (State.withPending s l).rest ps = s.rest ps := Part.lift hps rfl

theorem State.withFetchWord_rest (s : State) (nbits w : Nat) {ps : List Part} (hps : Part.sub [.pending] ps = true) : (State.withFetchWord s nbits w).rest ps = s.rest ps := Part.lift hps rfl

end Sys2Proof.Machine
end

