-- ==== Sys2Proof/Laws/KMap.lean ====
section
/-! SUPPORT. The laws of sparse tables: a read after a write, the other keys, and the canonical form that every operation keeps. -/
namespace Sys2Proof.Machine

variable {α : Type}

theorem KMap.get_erase_same (d : Nat → α) (m : KMap α) (k : Nat) : KMap.get d (KMap.erase m k) k = d k := by
  induction m with
  | nil => rfl
  | cons e t ih =>
    obtain ⟨j, v⟩ := e
    by_cases h : j = k
    · simpa [KMap.erase, h] using ih
    · simpa [KMap.erase, KMap.get, h] using ih

theorem KMap.get_erase_other (d : Nat → α) (m : KMap α) {k k' : Nat} (h : k' ≠ k) :
    KMap.get d (KMap.erase m k) k' = KMap.get d m k' := by
  induction m with
  | nil => rfl
  | cons e t ih =>
    obtain ⟨j, v⟩ := e
    by_cases hj : j = k
    · subst hj
      simpa [KMap.erase, KMap.get, Ne.symm h] using ih
    · simp [KMap.erase, KMap.get, hj, ih]

theorem KMap.get_insert_same (d : Nat → α) (m : KMap α) (k : Nat) (v : α) : KMap.get d (KMap.insert m k v) k = v := by
  induction m with
  | nil => simp [KMap.insert, KMap.get]
  | cons e t ih =>
    obtain ⟨j, u⟩ := e
    by_cases h1 : k < j
    · simp [KMap.insert, KMap.get, h1]
    · by_cases h2 : j = k
      · simp [KMap.insert, KMap.get, h2]
      · simp [KMap.insert, KMap.get, h1, h2, ih]

theorem KMap.get_insert_other (d : Nat → α) (m : KMap α) {k k' : Nat} (v : α) (h : k' ≠ k) :
    KMap.get d (KMap.insert m k v) k' = KMap.get d m k' := by
  induction m with
  | nil => simp [KMap.insert, KMap.get, Ne.symm h]
  | cons e t ih =>
    obtain ⟨j, u⟩ := e
    by_cases h1 : k < j
    · simp [KMap.insert, KMap.get, h1, Ne.symm h]
    · by_cases h2 : j = k
      · simp [KMap.insert, KMap.get, h2, Ne.symm h]
      · simp [KMap.insert, KMap.get, h1, h2, ih]

/-- A read after a write to the same key gives the value written. -/
@[simp] theorem KMap.get_set_same [DecidableEq α] (d : Nat → α) (m : KMap α) (k : Nat) (v : α) : KMap.get d (KMap.set d m k v) k = v := by
  unfold KMap.set
  split
  · rename_i h
    rw [KMap.get_erase_same, h]
  · exact KMap.get_insert_same d m k v

/-- A write leaves every other key alone. -/
theorem KMap.get_set_other [DecidableEq α] (d : Nat → α) (m : KMap α) {k k' : Nat} (v : α) (h : k' ≠ k) :
    KMap.get d (KMap.set d m k v) k' = KMap.get d m k' := by
  unfold KMap.set
  split
  · exact KMap.get_erase_other d m h
  · exact KMap.get_insert_other d m v h

/-- Both cases of a read after a write. -/
theorem KMap.get_set [DecidableEq α] (d : Nat → α) (m : KMap α) (k k' : Nat) (v : α) :
    KMap.get d (KMap.set d m k v) k' = if k' = k then v else KMap.get d m k' := by
  by_cases h : k' = k
  · subst h; simp
  · simp [h, KMap.get_set_other d m v h]

@[simp] theorem KMap.get_nil (d : Nat → α) (k : Nat) : KMap.get d ([] : KMap α) k = d k := rfl

/-! ### The canonical form -/

theorem KMap.sortedFrom_mono {b c : Nat} (h : b ≤ c) {m : KMap α} (hs : KMap.sortedFrom c m = true) : KMap.sortedFrom b m = true := by
  cases m with
  | nil => rfl
  | cons e t =>
    obtain ⟨k, v⟩ := e
    simp only [KMap.sortedFrom, Bool.and_eq_true, decide_eq_true_eq] at hs ⊢
    exact ⟨by omega, hs.2⟩

theorem KMap.sortedFrom_erase {b : Nat} {m : KMap α} (k : Nat) (hs : KMap.sortedFrom b m = true) : KMap.sortedFrom b (KMap.erase m k) = true := by
  induction m generalizing b with
  | nil => rfl
  | cons e t ih =>
    obtain ⟨j, v⟩ := e
    simp only [KMap.sortedFrom, Bool.and_eq_true, decide_eq_true_eq] at hs
    by_cases h : j = k
    · simp only [KMap.erase, h, if_true]
      exact KMap.sortedFrom_mono (by omega) (ih hs.2)
    · simp only [KMap.erase, h, if_false, KMap.sortedFrom, Bool.and_eq_true, decide_eq_true_eq]
      exact ⟨hs.1, ih hs.2⟩

theorem KMap.sortedFrom_insert {b : Nat} {m : KMap α} (k : Nat) (v : α) (hb : b ≤ k) (hs : KMap.sortedFrom b m = true) :
    KMap.sortedFrom b (KMap.insert m k v) = true := by
  induction m generalizing b with
  | nil => simp [KMap.insert, KMap.sortedFrom, hb]
  | cons e t ih =>
    obtain ⟨j, u⟩ := e
    simp only [KMap.sortedFrom, Bool.and_eq_true, decide_eq_true_eq] at hs
    by_cases h1 : k < j
    · simp only [KMap.insert, h1, if_true, KMap.sortedFrom, Bool.and_eq_true, decide_eq_true_eq]
      exact ⟨hb, by omega, hs.2⟩
    · by_cases h2 : j = k
      · subst h2
        simp only [KMap.insert, h1, if_false, if_true, KMap.sortedFrom, Bool.and_eq_true, decide_eq_true_eq]
        exact ⟨hb, hs.2⟩
      · simp only [KMap.insert, h1, h2, if_false, KMap.sortedFrom, Bool.and_eq_true, decide_eq_true_eq]
        exact ⟨hs.1, ih (by omega) hs.2⟩

theorem KMap.noDefault_erase [DecidableEq α] {d : Nat → α} {m : KMap α} (k : Nat) (h : KMap.noDefault d m = true) :
    KMap.noDefault d (KMap.erase m k) = true := by
  induction m with
  | nil => rfl
  | cons e t ih =>
    obtain ⟨j, v⟩ := e
    simp only [KMap.noDefault, Bool.and_eq_true] at h
    by_cases hj : j = k <;> simp [KMap.erase, hj, KMap.noDefault, ih h.2]
    simpa using h.1

theorem KMap.noDefault_insert [DecidableEq α] {d : Nat → α} {m : KMap α} {k : Nat} {v : α} (hv : v ≠ d k) (h : KMap.noDefault d m = true) :
    KMap.noDefault d (KMap.insert m k v) = true := by
  induction m with
  | nil => simp [KMap.insert, KMap.noDefault, hv]
  | cons e t ih =>
    obtain ⟨j, u⟩ := e
    simp only [KMap.noDefault, Bool.and_eq_true, decide_eq_true_eq] at h
    by_cases h1 : k < j
    · simp [KMap.insert, h1, KMap.noDefault, hv, h.1, h.2]
    · by_cases h2 : j = k
      · simp [KMap.insert, h2, KMap.noDefault, hv, h.2]
      · simp [KMap.insert, h1, h2, KMap.noDefault, h.1, ih h.2]

/-- A write keeps the canonical form. -/
theorem KMap.wf_set [DecidableEq α] {d : Nat → α} {m : KMap α} (k : Nat) (v : α) (h : KMap.wf d m = true) : KMap.wf d (KMap.set d m k v) = true := by
  simp only [KMap.wf, Bool.and_eq_true] at h ⊢
  unfold KMap.set
  split
  · exact ⟨KMap.sortedFrom_erase k h.1, KMap.noDefault_erase k h.2⟩
  · rename_i hv
    exact ⟨KMap.sortedFrom_insert k v (Nat.zero_le k) h.1, KMap.noDefault_insert hv h.2⟩

theorem KMap.sortedFrom_filter {b : Nat} {m : KMap α} (p : Nat × α → Bool) (h : KMap.sortedFrom b m = true) :
    KMap.sortedFrom b (m.filter p) = true := by
  induction m generalizing b with
  | nil => rfl
  | cons e t ih =>
    obtain ⟨j, v⟩ := e
    simp only [KMap.sortedFrom, Bool.and_eq_true, decide_eq_true_eq] at h
    by_cases hp : p (j, v) = true
    · simp only [List.filter_cons, hp, if_true, KMap.sortedFrom, Bool.and_eq_true, decide_eq_true_eq]
      exact ⟨h.1, ih h.2⟩
    · simp only [List.filter_cons, hp]
      exact KMap.sortedFrom_mono (by omega) (ih h.2)

theorem KMap.noDefault_filter [DecidableEq α] {d : Nat → α} {m : KMap α} (p : Nat × α → Bool) (h : KMap.noDefault d m = true) :
    KMap.noDefault d (m.filter p) = true := by
  induction m with
  | nil => rfl
  | cons e t ih =>
    obtain ⟨j, v⟩ := e
    simp only [KMap.noDefault, Bool.and_eq_true] at h
    by_cases hp : p (j, v) = true
    · simp only [List.filter_cons, hp, if_true, KMap.noDefault, Bool.and_eq_true]
      exact ⟨h.1, ih h.2⟩
    · simp only [List.filter_cons, hp]
      exact ih h.2

/-- Leaving entries out keeps the canonical form. -/
theorem KMap.wf_filter [DecidableEq α] {d : Nat → α} {m : KMap α} (p : Nat × α → Bool) (h : KMap.wf d m = true) : KMap.wf d (m.filter p) = true := by
  simp only [KMap.wf, Bool.and_eq_true] at h ⊢
  exact ⟨KMap.sortedFrom_filter p h.1, KMap.noDefault_filter p h.2⟩

/-- Dropping keys keeps the canonical form. -/
theorem KMap.wf_drop [DecidableEq α] {d : Nat → α} {m : KMap α} (p : Nat → Bool) (h : KMap.wf d m = true) : KMap.wf d (KMap.drop p m) = true :=
  KMap.wf_filter _ h

end Sys2Proof.Machine
end

