-- ==== Sys2Proof/Laws/State.lean ====
section
/-! SUPPORT. The state's small lemmas: what each named update leaves alone, field by field, and what a register, field or unit reads after an update. -/
namespace Sys2Proof.Machine

/-! ### Fields that an update leaves alone -/

@[simp] theorem State.wr_pending (s : State) (o : Nat) (v : W64) : (s.wr o v).pending = s.pending := rfl
@[simp] theorem State.wr_free (s : State) (o : Nat) (v : W64) : (s.wr o v).free = s.free := rfl
@[simp] theorem State.wr_pins (s : State) (o : Nat) (v : W64) : (s.wr o v).pins = s.pins := rfl
@[simp] theorem State.wr_wrapA (s : State) (o : Nat) (v : W64) : (s.wr o v).wrapA = s.wrapA := rfl
@[simp] theorem State.wr_wrapB (s : State) (o : Nat) (v : W64) : (s.wr o v).wrapB = s.wrapB := rfl
@[simp] theorem State.wr_uptime (s : State) (o : Nat) (v : W64) : (s.wr o v).uptime = s.uptime := rfl
@[simp] theorem State.wr_pend (s : State) (o : Nat) (v : W64) : (s.wr o v).pend = s.pend := rfl
@[simp] theorem State.wr_tab (s : State) (o : Nat) (v : W64) : (s.wr o v).tab = s.tab := rfl
@[simp] theorem State.wr_tabBad (s : State) (o : Nat) (v : W64) : (s.wr o v).tabBad = s.tabBad := rfl
@[simp] theorem State.wr_time (s : State) (o : Nat) (v : W64) : (s.wr o v).time = s.time := rfl
@[simp] theorem State.wr_isl (s : State) (o : Nat) (v : W64) : (s.wr o v).isl = s.isl := rfl
@[simp] theorem State.wr_ev (s : State) (o : Nat) (v : W64) : (s.wr o v).ev = s.ev := rfl
@[simp] theorem State.wr_rt (s : State) (o : Nat) (v : W64) : (s.wr o v).rt = s.rt := rfl
@[simp] theorem State.wr_ni (s : State) (o : Nat) (v : W64) : (s.wr o v).ni = s.ni := rfl
@[simp] theorem State.wr_port (s : State) (o : Nat) (v : W64) : (s.wr o v).port = s.port := rfl
@[simp] theorem State.wr_slice (s : State) (o : Nat) (v : W64) : (s.wr o v).slice = s.slice := rfl
@[simp] theorem State.wr_lk (s : State) (o : Nat) (v : W64) : (s.wr o v).lk = s.lk := rfl
@[simp] theorem State.wr_dom (s : State) (o : Nat) (v : W64) : (s.wr o v).dom = s.dom := rfl
@[simp] theorem State.wr_sb (s : State) (o : Nat) (v : W64) : (s.wr o v).sb = s.sb := rfl
@[simp] theorem State.wr_kt (s : State) (o : Nat) (v : W64) : (s.wr o v).kt = s.kt := rfl
@[simp] theorem State.wr_st (s : State) (o : Nat) (v : W64) : (s.wr o v).st = s.st := rfl
@[simp] theorem State.wr_cd (s : State) (o : Nat) (v : W64) : (s.wr o v).cd = s.cd := rfl
@[simp] theorem State.wr_tr (s : State) (o : Nat) (v : W64) : (s.wr o v).tr = s.tr := rfl
@[simp] theorem State.wr_sc (s : State) (o : Nat) (v : W64) : (s.wr o v).sc = s.sc := rfl
@[simp] theorem State.wr_pot (s : State) (o : Nat) (v : W64) : (s.wr o v).pot = s.pot := rfl
@[simp] theorem State.wr_pm (s : State) (o : Nat) (v : W64) : (s.wr o v).pm = s.pm := rfl
@[simp] theorem State.wr_dbg (s : State) (o : Nat) (v : W64) : (s.wr o v).dbg = s.dbg := rfl
@[simp] theorem State.wr_latch (s : State) (o : Nat) (v : W64) : (s.wr o v).latch = s.latch := rfl
@[simp] theorem State.wr_dbgLatch (s : State) (o : Nat) (v : W64) : (s.wr o v).dbgLatch = s.dbgLatch := rfl
@[simp] theorem State.wr_chk (s : State) (o : Nat) (v : W64) : (s.wr o v).chk = s.chk := rfl
@[simp] theorem State.wr_seamDown (s : State) (o : Nat) (v : W64) : (s.wr o v).seamDown = s.seamDown := rfl
@[simp] theorem State.wr_wire (s : State) (o : Nat) (v : W64) : (s.wr o v).wire = s.wire := rfl
@[simp] theorem State.wr_cwire (s : State) (o : Nat) (v : W64) : (s.wr o v).cwire = s.cwire := rfl
@[simp] theorem State.wr_owed (s : State) (o : Nat) (v : W64) : (s.wr o v).owed = s.owed := rfl
@[simp] theorem State.wr_used (s : State) (o : Nat) (v : W64) : (s.wr o v).used = s.used := rfl
@[simp] theorem State.wr_allHeld (s : State) (o : Nat) (v : W64) : (s.wr o v).allHeld = s.allHeld := rfl
@[simp] theorem State.wr_held (s : State) (o : Nat) (v : W64) : (s.wr o v).held = s.held := rfl
@[simp] theorem State.wr_nbrBase (s : State) (o : Nat) (v : W64) : (s.wr o v).nbrBase = s.nbrBase := rfl
@[simp] theorem State.wr_wakeQ (s : State) (o : Nat) (v : W64) : (s.wr o v).wakeQ = s.wakeQ := rfl

@[simp] theorem State.setFld_pending (s : State) (o : Nat) (f : Fld) (v : Nat) : (s.setFld o f v).pending = s.pending := rfl
@[simp] theorem State.setFld_free (s : State) (o : Nat) (f : Fld) (v : Nat) : (s.setFld o f v).free = s.free := rfl
@[simp] theorem State.setFld_pins (s : State) (o : Nat) (f : Fld) (v : Nat) : (s.setFld o f v).pins = s.pins := rfl
@[simp] theorem State.setFld_wrapA (s : State) (o : Nat) (f : Fld) (v : Nat) : (s.setFld o f v).wrapA = s.wrapA := rfl
@[simp] theorem State.setFld_wrapB (s : State) (o : Nat) (f : Fld) (v : Nat) : (s.setFld o f v).wrapB = s.wrapB := rfl
@[simp] theorem State.setFld_uptime (s : State) (o : Nat) (f : Fld) (v : Nat) : (s.setFld o f v).uptime = s.uptime := rfl
@[simp] theorem State.setFld_pend (s : State) (o : Nat) (f : Fld) (v : Nat) : (s.setFld o f v).pend = s.pend := rfl
@[simp] theorem State.setFld_tab (s : State) (o : Nat) (f : Fld) (v : Nat) : (s.setFld o f v).tab = s.tab := rfl
@[simp] theorem State.setFld_tabBad (s : State) (o : Nat) (f : Fld) (v : Nat) : (s.setFld o f v).tabBad = s.tabBad := rfl
@[simp] theorem State.setFld_time (s : State) (o : Nat) (f : Fld) (v : Nat) : (s.setFld o f v).time = s.time := rfl
@[simp] theorem State.setFld_isl (s : State) (o : Nat) (f : Fld) (v : Nat) : (s.setFld o f v).isl = s.isl := rfl
@[simp] theorem State.setFld_ev (s : State) (o : Nat) (f : Fld) (v : Nat) : (s.setFld o f v).ev = s.ev := rfl
@[simp] theorem State.setFld_rt (s : State) (o : Nat) (f : Fld) (v : Nat) : (s.setFld o f v).rt = s.rt := rfl
@[simp] theorem State.setFld_ni (s : State) (o : Nat) (f : Fld) (v : Nat) : (s.setFld o f v).ni = s.ni := rfl
@[simp] theorem State.setFld_port (s : State) (o : Nat) (f : Fld) (v : Nat) : (s.setFld o f v).port = s.port := rfl
@[simp] theorem State.setFld_slice (s : State) (o : Nat) (f : Fld) (v : Nat) : (s.setFld o f v).slice = s.slice := rfl
@[simp] theorem State.setFld_lk (s : State) (o : Nat) (f : Fld) (v : Nat) : (s.setFld o f v).lk = s.lk := rfl
@[simp] theorem State.setFld_dom (s : State) (o : Nat) (f : Fld) (v : Nat) : (s.setFld o f v).dom = s.dom := rfl
@[simp] theorem State.setFld_sb (s : State) (o : Nat) (f : Fld) (v : Nat) : (s.setFld o f v).sb = s.sb := rfl
@[simp] theorem State.setFld_kt (s : State) (o : Nat) (f : Fld) (v : Nat) : (s.setFld o f v).kt = s.kt := rfl
@[simp] theorem State.setFld_st (s : State) (o : Nat) (f : Fld) (v : Nat) : (s.setFld o f v).st = s.st := rfl
@[simp] theorem State.setFld_cd (s : State) (o : Nat) (f : Fld) (v : Nat) : (s.setFld o f v).cd = s.cd := rfl
@[simp] theorem State.setFld_tr (s : State) (o : Nat) (f : Fld) (v : Nat) : (s.setFld o f v).tr = s.tr := rfl
@[simp] theorem State.setFld_sc (s : State) (o : Nat) (f : Fld) (v : Nat) : (s.setFld o f v).sc = s.sc := rfl
@[simp] theorem State.setFld_pot (s : State) (o : Nat) (f : Fld) (v : Nat) : (s.setFld o f v).pot = s.pot := rfl
@[simp] theorem State.setFld_pm (s : State) (o : Nat) (f : Fld) (v : Nat) : (s.setFld o f v).pm = s.pm := rfl
@[simp] theorem State.setFld_dbg (s : State) (o : Nat) (f : Fld) (v : Nat) : (s.setFld o f v).dbg = s.dbg := rfl
@[simp] theorem State.setFld_latch (s : State) (o : Nat) (f : Fld) (v : Nat) : (s.setFld o f v).latch = s.latch := rfl
@[simp] theorem State.setFld_dbgLatch (s : State) (o : Nat) (f : Fld) (v : Nat) : (s.setFld o f v).dbgLatch = s.dbgLatch := rfl
@[simp] theorem State.setFld_chk (s : State) (o : Nat) (f : Fld) (v : Nat) : (s.setFld o f v).chk = s.chk := rfl
@[simp] theorem State.setFld_seamDown (s : State) (o : Nat) (f : Fld) (v : Nat) : (s.setFld o f v).seamDown = s.seamDown := rfl
@[simp] theorem State.setFld_wire (s : State) (o : Nat) (f : Fld) (v : Nat) : (s.setFld o f v).wire = s.wire := rfl
@[simp] theorem State.setFld_cwire (s : State) (o : Nat) (f : Fld) (v : Nat) : (s.setFld o f v).cwire = s.cwire := rfl
@[simp] theorem State.setFld_owed (s : State) (o : Nat) (f : Fld) (v : Nat) : (s.setFld o f v).owed = s.owed := rfl
@[simp] theorem State.setFld_used (s : State) (o : Nat) (f : Fld) (v : Nat) : (s.setFld o f v).used = s.used := rfl
@[simp] theorem State.setFld_allHeld (s : State) (o : Nat) (f : Fld) (v : Nat) : (s.setFld o f v).allHeld = s.allHeld := rfl
@[simp] theorem State.setFld_held (s : State) (o : Nat) (f : Fld) (v : Nat) : (s.setFld o f v).held = s.held := rfl
@[simp] theorem State.setFld_nbrBase (s : State) (o : Nat) (f : Fld) (v : Nat) : (s.setFld o f v).nbrBase = s.nbrBase := rfl
@[simp] theorem State.setFld_wakeQ (s : State) (o : Nat) (f : Fld) (v : Nat) : (s.setFld o f v).wakeQ = s.wakeQ := rfl

@[simp] theorem State.bump_pending (s : State) (o : Nat) (f : Fld) : (s.bump o f).pending = s.pending := rfl
@[simp] theorem State.bump_free (s : State) (o : Nat) (f : Fld) : (s.bump o f).free = s.free := rfl
@[simp] theorem State.bump_pins (s : State) (o : Nat) (f : Fld) : (s.bump o f).pins = s.pins := rfl
@[simp] theorem State.bump_wrapA (s : State) (o : Nat) (f : Fld) : (s.bump o f).wrapA = s.wrapA := rfl
@[simp] theorem State.bump_wrapB (s : State) (o : Nat) (f : Fld) : (s.bump o f).wrapB = s.wrapB := rfl
@[simp] theorem State.bump_uptime (s : State) (o : Nat) (f : Fld) : (s.bump o f).uptime = s.uptime := rfl
@[simp] theorem State.bump_pend (s : State) (o : Nat) (f : Fld) : (s.bump o f).pend = s.pend := rfl
@[simp] theorem State.bump_tab (s : State) (o : Nat) (f : Fld) : (s.bump o f).tab = s.tab := rfl
@[simp] theorem State.bump_tabBad (s : State) (o : Nat) (f : Fld) : (s.bump o f).tabBad = s.tabBad := rfl
@[simp] theorem State.bump_time (s : State) (o : Nat) (f : Fld) : (s.bump o f).time = s.time := rfl
@[simp] theorem State.bump_isl (s : State) (o : Nat) (f : Fld) : (s.bump o f).isl = s.isl := rfl
@[simp] theorem State.bump_ev (s : State) (o : Nat) (f : Fld) : (s.bump o f).ev = s.ev := rfl
@[simp] theorem State.bump_rt (s : State) (o : Nat) (f : Fld) : (s.bump o f).rt = s.rt := rfl
@[simp] theorem State.bump_ni (s : State) (o : Nat) (f : Fld) : (s.bump o f).ni = s.ni := rfl
@[simp] theorem State.bump_port (s : State) (o : Nat) (f : Fld) : (s.bump o f).port = s.port := rfl
@[simp] theorem State.bump_slice (s : State) (o : Nat) (f : Fld) : (s.bump o f).slice = s.slice := rfl
@[simp] theorem State.bump_lk (s : State) (o : Nat) (f : Fld) : (s.bump o f).lk = s.lk := rfl
@[simp] theorem State.bump_dom (s : State) (o : Nat) (f : Fld) : (s.bump o f).dom = s.dom := rfl
@[simp] theorem State.bump_sb (s : State) (o : Nat) (f : Fld) : (s.bump o f).sb = s.sb := rfl
@[simp] theorem State.bump_kt (s : State) (o : Nat) (f : Fld) : (s.bump o f).kt = s.kt := rfl
@[simp] theorem State.bump_st (s : State) (o : Nat) (f : Fld) : (s.bump o f).st = s.st := rfl
@[simp] theorem State.bump_cd (s : State) (o : Nat) (f : Fld) : (s.bump o f).cd = s.cd := rfl
@[simp] theorem State.bump_tr (s : State) (o : Nat) (f : Fld) : (s.bump o f).tr = s.tr := rfl
@[simp] theorem State.bump_sc (s : State) (o : Nat) (f : Fld) : (s.bump o f).sc = s.sc := rfl
@[simp] theorem State.bump_pot (s : State) (o : Nat) (f : Fld) : (s.bump o f).pot = s.pot := rfl
@[simp] theorem State.bump_pm (s : State) (o : Nat) (f : Fld) : (s.bump o f).pm = s.pm := rfl
@[simp] theorem State.bump_dbg (s : State) (o : Nat) (f : Fld) : (s.bump o f).dbg = s.dbg := rfl
@[simp] theorem State.bump_latch (s : State) (o : Nat) (f : Fld) : (s.bump o f).latch = s.latch := rfl
@[simp] theorem State.bump_dbgLatch (s : State) (o : Nat) (f : Fld) : (s.bump o f).dbgLatch = s.dbgLatch := rfl
@[simp] theorem State.bump_chk (s : State) (o : Nat) (f : Fld) : (s.bump o f).chk = s.chk := rfl
@[simp] theorem State.bump_seamDown (s : State) (o : Nat) (f : Fld) : (s.bump o f).seamDown = s.seamDown := rfl
@[simp] theorem State.bump_wire (s : State) (o : Nat) (f : Fld) : (s.bump o f).wire = s.wire := rfl
@[simp] theorem State.bump_cwire (s : State) (o : Nat) (f : Fld) : (s.bump o f).cwire = s.cwire := rfl
@[simp] theorem State.bump_owed (s : State) (o : Nat) (f : Fld) : (s.bump o f).owed = s.owed := rfl
@[simp] theorem State.bump_used (s : State) (o : Nat) (f : Fld) : (s.bump o f).used = s.used := rfl
@[simp] theorem State.bump_allHeld (s : State) (o : Nat) (f : Fld) : (s.bump o f).allHeld = s.allHeld := rfl
@[simp] theorem State.bump_held (s : State) (o : Nat) (f : Fld) : (s.bump o f).held = s.held := rfl
@[simp] theorem State.bump_nbrBase (s : State) (o : Nat) (f : Fld) : (s.bump o f).nbrBase = s.nbrBase := rfl
@[simp] theorem State.bump_wakeQ (s : State) (o : Nat) (f : Fld) : (s.bump o f).wakeQ = s.wakeQ := rfl

@[simp] theorem State.bumpBy_pending (s : State) (o : Nat) (f : Fld) (k : Nat) : (s.bumpBy o f k).pending = s.pending := rfl
@[simp] theorem State.bumpBy_free (s : State) (o : Nat) (f : Fld) (k : Nat) : (s.bumpBy o f k).free = s.free := rfl
@[simp] theorem State.bumpBy_pins (s : State) (o : Nat) (f : Fld) (k : Nat) : (s.bumpBy o f k).pins = s.pins := rfl
@[simp] theorem State.bumpBy_wrapA (s : State) (o : Nat) (f : Fld) (k : Nat) : (s.bumpBy o f k).wrapA = s.wrapA := rfl
@[simp] theorem State.bumpBy_wrapB (s : State) (o : Nat) (f : Fld) (k : Nat) : (s.bumpBy o f k).wrapB = s.wrapB := rfl
@[simp] theorem State.bumpBy_uptime (s : State) (o : Nat) (f : Fld) (k : Nat) : (s.bumpBy o f k).uptime = s.uptime := rfl
@[simp] theorem State.bumpBy_pend (s : State) (o : Nat) (f : Fld) (k : Nat) : (s.bumpBy o f k).pend = s.pend := rfl
@[simp] theorem State.bumpBy_tab (s : State) (o : Nat) (f : Fld) (k : Nat) : (s.bumpBy o f k).tab = s.tab := rfl
@[simp] theorem State.bumpBy_tabBad (s : State) (o : Nat) (f : Fld) (k : Nat) : (s.bumpBy o f k).tabBad = s.tabBad := rfl
@[simp] theorem State.bumpBy_time (s : State) (o : Nat) (f : Fld) (k : Nat) : (s.bumpBy o f k).time = s.time := rfl
@[simp] theorem State.bumpBy_isl (s : State) (o : Nat) (f : Fld) (k : Nat) : (s.bumpBy o f k).isl = s.isl := rfl
@[simp] theorem State.bumpBy_ev (s : State) (o : Nat) (f : Fld) (k : Nat) : (s.bumpBy o f k).ev = s.ev := rfl
@[simp] theorem State.bumpBy_rt (s : State) (o : Nat) (f : Fld) (k : Nat) : (s.bumpBy o f k).rt = s.rt := rfl
@[simp] theorem State.bumpBy_ni (s : State) (o : Nat) (f : Fld) (k : Nat) : (s.bumpBy o f k).ni = s.ni := rfl
@[simp] theorem State.bumpBy_port (s : State) (o : Nat) (f : Fld) (k : Nat) : (s.bumpBy o f k).port = s.port := rfl
@[simp] theorem State.bumpBy_slice (s : State) (o : Nat) (f : Fld) (k : Nat) : (s.bumpBy o f k).slice = s.slice := rfl
@[simp] theorem State.bumpBy_lk (s : State) (o : Nat) (f : Fld) (k : Nat) : (s.bumpBy o f k).lk = s.lk := rfl
@[simp] theorem State.bumpBy_dom (s : State) (o : Nat) (f : Fld) (k : Nat) : (s.bumpBy o f k).dom = s.dom := rfl
@[simp] theorem State.bumpBy_sb (s : State) (o : Nat) (f : Fld) (k : Nat) : (s.bumpBy o f k).sb = s.sb := rfl
@[simp] theorem State.bumpBy_kt (s : State) (o : Nat) (f : Fld) (k : Nat) : (s.bumpBy o f k).kt = s.kt := rfl
@[simp] theorem State.bumpBy_st (s : State) (o : Nat) (f : Fld) (k : Nat) : (s.bumpBy o f k).st = s.st := rfl
@[simp] theorem State.bumpBy_cd (s : State) (o : Nat) (f : Fld) (k : Nat) : (s.bumpBy o f k).cd = s.cd := rfl
@[simp] theorem State.bumpBy_tr (s : State) (o : Nat) (f : Fld) (k : Nat) : (s.bumpBy o f k).tr = s.tr := rfl
@[simp] theorem State.bumpBy_sc (s : State) (o : Nat) (f : Fld) (k : Nat) : (s.bumpBy o f k).sc = s.sc := rfl
@[simp] theorem State.bumpBy_pot (s : State) (o : Nat) (f : Fld) (k : Nat) : (s.bumpBy o f k).pot = s.pot := rfl
@[simp] theorem State.bumpBy_pm (s : State) (o : Nat) (f : Fld) (k : Nat) : (s.bumpBy o f k).pm = s.pm := rfl
@[simp] theorem State.bumpBy_dbg (s : State) (o : Nat) (f : Fld) (k : Nat) : (s.bumpBy o f k).dbg = s.dbg := rfl
@[simp] theorem State.bumpBy_latch (s : State) (o : Nat) (f : Fld) (k : Nat) : (s.bumpBy o f k).latch = s.latch := rfl
@[simp] theorem State.bumpBy_dbgLatch (s : State) (o : Nat) (f : Fld) (k : Nat) : (s.bumpBy o f k).dbgLatch = s.dbgLatch := rfl
@[simp] theorem State.bumpBy_chk (s : State) (o : Nat) (f : Fld) (k : Nat) : (s.bumpBy o f k).chk = s.chk := rfl
@[simp] theorem State.bumpBy_seamDown (s : State) (o : Nat) (f : Fld) (k : Nat) : (s.bumpBy o f k).seamDown = s.seamDown := rfl
@[simp] theorem State.bumpBy_wire (s : State) (o : Nat) (f : Fld) (k : Nat) : (s.bumpBy o f k).wire = s.wire := rfl
@[simp] theorem State.bumpBy_cwire (s : State) (o : Nat) (f : Fld) (k : Nat) : (s.bumpBy o f k).cwire = s.cwire := rfl
@[simp] theorem State.bumpBy_owed (s : State) (o : Nat) (f : Fld) (k : Nat) : (s.bumpBy o f k).owed = s.owed := rfl
@[simp] theorem State.bumpBy_used (s : State) (o : Nat) (f : Fld) (k : Nat) : (s.bumpBy o f k).used = s.used := rfl
@[simp] theorem State.bumpBy_allHeld (s : State) (o : Nat) (f : Fld) (k : Nat) : (s.bumpBy o f k).allHeld = s.allHeld := rfl
@[simp] theorem State.bumpBy_held (s : State) (o : Nat) (f : Fld) (k : Nat) : (s.bumpBy o f k).held = s.held := rfl
@[simp] theorem State.bumpBy_nbrBase (s : State) (o : Nat) (f : Fld) (k : Nat) : (s.bumpBy o f k).nbrBase = s.nbrBase := rfl
@[simp] theorem State.bumpBy_wakeQ (s : State) (o : Nat) (f : Fld) (k : Nat) : (s.bumpBy o f k).wakeQ = s.wakeQ := rfl

@[simp] theorem State.bumpMod_pending (s : State) (o : Nat) (f : Fld) : (s.bumpMod o f).pending = s.pending := rfl
@[simp] theorem State.bumpMod_free (s : State) (o : Nat) (f : Fld) : (s.bumpMod o f).free = s.free := rfl
@[simp] theorem State.bumpMod_pins (s : State) (o : Nat) (f : Fld) : (s.bumpMod o f).pins = s.pins := rfl
@[simp] theorem State.bumpMod_wrapA (s : State) (o : Nat) (f : Fld) : (s.bumpMod o f).wrapA = s.wrapA := rfl
@[simp] theorem State.bumpMod_wrapB (s : State) (o : Nat) (f : Fld) : (s.bumpMod o f).wrapB = s.wrapB := rfl
@[simp] theorem State.bumpMod_uptime (s : State) (o : Nat) (f : Fld) : (s.bumpMod o f).uptime = s.uptime := rfl
@[simp] theorem State.bumpMod_pend (s : State) (o : Nat) (f : Fld) : (s.bumpMod o f).pend = s.pend := rfl
@[simp] theorem State.bumpMod_tab (s : State) (o : Nat) (f : Fld) : (s.bumpMod o f).tab = s.tab := rfl
@[simp] theorem State.bumpMod_tabBad (s : State) (o : Nat) (f : Fld) : (s.bumpMod o f).tabBad = s.tabBad := rfl
@[simp] theorem State.bumpMod_time (s : State) (o : Nat) (f : Fld) : (s.bumpMod o f).time = s.time := rfl
@[simp] theorem State.bumpMod_isl (s : State) (o : Nat) (f : Fld) : (s.bumpMod o f).isl = s.isl := rfl
@[simp] theorem State.bumpMod_ev (s : State) (o : Nat) (f : Fld) : (s.bumpMod o f).ev = s.ev := rfl
@[simp] theorem State.bumpMod_rt (s : State) (o : Nat) (f : Fld) : (s.bumpMod o f).rt = s.rt := rfl
@[simp] theorem State.bumpMod_ni (s : State) (o : Nat) (f : Fld) : (s.bumpMod o f).ni = s.ni := rfl
@[simp] theorem State.bumpMod_port (s : State) (o : Nat) (f : Fld) : (s.bumpMod o f).port = s.port := rfl
@[simp] theorem State.bumpMod_slice (s : State) (o : Nat) (f : Fld) : (s.bumpMod o f).slice = s.slice := rfl
@[simp] theorem State.bumpMod_lk (s : State) (o : Nat) (f : Fld) : (s.bumpMod o f).lk = s.lk := rfl
@[simp] theorem State.bumpMod_dom (s : State) (o : Nat) (f : Fld) : (s.bumpMod o f).dom = s.dom := rfl
@[simp] theorem State.bumpMod_sb (s : State) (o : Nat) (f : Fld) : (s.bumpMod o f).sb = s.sb := rfl
@[simp] theorem State.bumpMod_kt (s : State) (o : Nat) (f : Fld) : (s.bumpMod o f).kt = s.kt := rfl
@[simp] theorem State.bumpMod_st (s : State) (o : Nat) (f : Fld) : (s.bumpMod o f).st = s.st := rfl
@[simp] theorem State.bumpMod_cd (s : State) (o : Nat) (f : Fld) : (s.bumpMod o f).cd = s.cd := rfl
@[simp] theorem State.bumpMod_tr (s : State) (o : Nat) (f : Fld) : (s.bumpMod o f).tr = s.tr := rfl
@[simp] theorem State.bumpMod_sc (s : State) (o : Nat) (f : Fld) : (s.bumpMod o f).sc = s.sc := rfl
@[simp] theorem State.bumpMod_pot (s : State) (o : Nat) (f : Fld) : (s.bumpMod o f).pot = s.pot := rfl
@[simp] theorem State.bumpMod_pm (s : State) (o : Nat) (f : Fld) : (s.bumpMod o f).pm = s.pm := rfl
@[simp] theorem State.bumpMod_dbg (s : State) (o : Nat) (f : Fld) : (s.bumpMod o f).dbg = s.dbg := rfl
@[simp] theorem State.bumpMod_latch (s : State) (o : Nat) (f : Fld) : (s.bumpMod o f).latch = s.latch := rfl
@[simp] theorem State.bumpMod_dbgLatch (s : State) (o : Nat) (f : Fld) : (s.bumpMod o f).dbgLatch = s.dbgLatch := rfl
@[simp] theorem State.bumpMod_chk (s : State) (o : Nat) (f : Fld) : (s.bumpMod o f).chk = s.chk := rfl
@[simp] theorem State.bumpMod_seamDown (s : State) (o : Nat) (f : Fld) : (s.bumpMod o f).seamDown = s.seamDown := rfl
@[simp] theorem State.bumpMod_wire (s : State) (o : Nat) (f : Fld) : (s.bumpMod o f).wire = s.wire := rfl
@[simp] theorem State.bumpMod_cwire (s : State) (o : Nat) (f : Fld) : (s.bumpMod o f).cwire = s.cwire := rfl
@[simp] theorem State.bumpMod_owed (s : State) (o : Nat) (f : Fld) : (s.bumpMod o f).owed = s.owed := rfl
@[simp] theorem State.bumpMod_used (s : State) (o : Nat) (f : Fld) : (s.bumpMod o f).used = s.used := rfl
@[simp] theorem State.bumpMod_allHeld (s : State) (o : Nat) (f : Fld) : (s.bumpMod o f).allHeld = s.allHeld := rfl
@[simp] theorem State.bumpMod_held (s : State) (o : Nat) (f : Fld) : (s.bumpMod o f).held = s.held := rfl
@[simp] theorem State.bumpMod_nbrBase (s : State) (o : Nat) (f : Fld) : (s.bumpMod o f).nbrBase = s.nbrBase := rfl
@[simp] theorem State.bumpMod_wakeQ (s : State) (o : Nat) (f : Fld) : (s.bumpMod o f).wakeQ = s.wakeQ := rfl

@[simp] theorem State.setPend_pending (s : State) (o : Nat) (v : W64) : (s.setPend o v).pending = s.pending := rfl
@[simp] theorem State.setPend_free (s : State) (o : Nat) (v : W64) : (s.setPend o v).free = s.free := rfl
@[simp] theorem State.setPend_pins (s : State) (o : Nat) (v : W64) : (s.setPend o v).pins = s.pins := rfl
@[simp] theorem State.setPend_wrapA (s : State) (o : Nat) (v : W64) : (s.setPend o v).wrapA = s.wrapA := rfl
@[simp] theorem State.setPend_wrapB (s : State) (o : Nat) (v : W64) : (s.setPend o v).wrapB = s.wrapB := rfl
@[simp] theorem State.setPend_uptime (s : State) (o : Nat) (v : W64) : (s.setPend o v).uptime = s.uptime := rfl
@[simp] theorem State.setPend_regs (s : State) (o : Nat) (v : W64) : (s.setPend o v).regs = s.regs := rfl
@[simp] theorem State.setPend_tab (s : State) (o : Nat) (v : W64) : (s.setPend o v).tab = s.tab := rfl
@[simp] theorem State.setPend_tabBad (s : State) (o : Nat) (v : W64) : (s.setPend o v).tabBad = s.tabBad := rfl
@[simp] theorem State.setPend_time (s : State) (o : Nat) (v : W64) : (s.setPend o v).time = s.time := rfl
@[simp] theorem State.setPend_isl (s : State) (o : Nat) (v : W64) : (s.setPend o v).isl = s.isl := rfl
@[simp] theorem State.setPend_ev (s : State) (o : Nat) (v : W64) : (s.setPend o v).ev = s.ev := rfl
@[simp] theorem State.setPend_rt (s : State) (o : Nat) (v : W64) : (s.setPend o v).rt = s.rt := rfl
@[simp] theorem State.setPend_ni (s : State) (o : Nat) (v : W64) : (s.setPend o v).ni = s.ni := rfl
@[simp] theorem State.setPend_port (s : State) (o : Nat) (v : W64) : (s.setPend o v).port = s.port := rfl
@[simp] theorem State.setPend_slice (s : State) (o : Nat) (v : W64) : (s.setPend o v).slice = s.slice := rfl
@[simp] theorem State.setPend_lk (s : State) (o : Nat) (v : W64) : (s.setPend o v).lk = s.lk := rfl
@[simp] theorem State.setPend_dom (s : State) (o : Nat) (v : W64) : (s.setPend o v).dom = s.dom := rfl
@[simp] theorem State.setPend_sb (s : State) (o : Nat) (v : W64) : (s.setPend o v).sb = s.sb := rfl
@[simp] theorem State.setPend_kt (s : State) (o : Nat) (v : W64) : (s.setPend o v).kt = s.kt := rfl
@[simp] theorem State.setPend_st (s : State) (o : Nat) (v : W64) : (s.setPend o v).st = s.st := rfl
@[simp] theorem State.setPend_cd (s : State) (o : Nat) (v : W64) : (s.setPend o v).cd = s.cd := rfl
@[simp] theorem State.setPend_tr (s : State) (o : Nat) (v : W64) : (s.setPend o v).tr = s.tr := rfl
@[simp] theorem State.setPend_sc (s : State) (o : Nat) (v : W64) : (s.setPend o v).sc = s.sc := rfl
@[simp] theorem State.setPend_pot (s : State) (o : Nat) (v : W64) : (s.setPend o v).pot = s.pot := rfl
@[simp] theorem State.setPend_pm (s : State) (o : Nat) (v : W64) : (s.setPend o v).pm = s.pm := rfl
@[simp] theorem State.setPend_dbg (s : State) (o : Nat) (v : W64) : (s.setPend o v).dbg = s.dbg := rfl
@[simp] theorem State.setPend_latch (s : State) (o : Nat) (v : W64) : (s.setPend o v).latch = s.latch := rfl
@[simp] theorem State.setPend_dbgLatch (s : State) (o : Nat) (v : W64) : (s.setPend o v).dbgLatch = s.dbgLatch := rfl
@[simp] theorem State.setPend_chk (s : State) (o : Nat) (v : W64) : (s.setPend o v).chk = s.chk := rfl
@[simp] theorem State.setPend_seamDown (s : State) (o : Nat) (v : W64) : (s.setPend o v).seamDown = s.seamDown := rfl
@[simp] theorem State.setPend_wire (s : State) (o : Nat) (v : W64) : (s.setPend o v).wire = s.wire := rfl
@[simp] theorem State.setPend_cwire (s : State) (o : Nat) (v : W64) : (s.setPend o v).cwire = s.cwire := rfl
@[simp] theorem State.setPend_owed (s : State) (o : Nat) (v : W64) : (s.setPend o v).owed = s.owed := rfl
@[simp] theorem State.setPend_used (s : State) (o : Nat) (v : W64) : (s.setPend o v).used = s.used := rfl
@[simp] theorem State.setPend_allHeld (s : State) (o : Nat) (v : W64) : (s.setPend o v).allHeld = s.allHeld := rfl
@[simp] theorem State.setPend_held (s : State) (o : Nat) (v : W64) : (s.setPend o v).held = s.held := rfl
@[simp] theorem State.setPend_nbrBase (s : State) (o : Nat) (v : W64) : (s.setPend o v).nbrBase = s.nbrBase := rfl
@[simp] theorem State.setPend_wakeQ (s : State) (o : Nat) (v : W64) : (s.setPend o v).wakeQ = s.wakeQ := rfl

@[simp] theorem State.dropPend_pending (s : State) (o : Nat) : (s.dropPend o).pending = s.pending := rfl
@[simp] theorem State.dropPend_free (s : State) (o : Nat) : (s.dropPend o).free = s.free := rfl
@[simp] theorem State.dropPend_pins (s : State) (o : Nat) : (s.dropPend o).pins = s.pins := rfl
@[simp] theorem State.dropPend_wrapA (s : State) (o : Nat) : (s.dropPend o).wrapA = s.wrapA := rfl
@[simp] theorem State.dropPend_wrapB (s : State) (o : Nat) : (s.dropPend o).wrapB = s.wrapB := rfl
@[simp] theorem State.dropPend_uptime (s : State) (o : Nat) : (s.dropPend o).uptime = s.uptime := rfl
@[simp] theorem State.dropPend_regs (s : State) (o : Nat) : (s.dropPend o).regs = s.regs := rfl
@[simp] theorem State.dropPend_tab (s : State) (o : Nat) : (s.dropPend o).tab = s.tab := rfl
@[simp] theorem State.dropPend_tabBad (s : State) (o : Nat) : (s.dropPend o).tabBad = s.tabBad := rfl
@[simp] theorem State.dropPend_time (s : State) (o : Nat) : (s.dropPend o).time = s.time := rfl
@[simp] theorem State.dropPend_isl (s : State) (o : Nat) : (s.dropPend o).isl = s.isl := rfl
@[simp] theorem State.dropPend_ev (s : State) (o : Nat) : (s.dropPend o).ev = s.ev := rfl
@[simp] theorem State.dropPend_rt (s : State) (o : Nat) : (s.dropPend o).rt = s.rt := rfl
@[simp] theorem State.dropPend_ni (s : State) (o : Nat) : (s.dropPend o).ni = s.ni := rfl
@[simp] theorem State.dropPend_port (s : State) (o : Nat) : (s.dropPend o).port = s.port := rfl
@[simp] theorem State.dropPend_slice (s : State) (o : Nat) : (s.dropPend o).slice = s.slice := rfl
@[simp] theorem State.dropPend_lk (s : State) (o : Nat) : (s.dropPend o).lk = s.lk := rfl
@[simp] theorem State.dropPend_dom (s : State) (o : Nat) : (s.dropPend o).dom = s.dom := rfl
@[simp] theorem State.dropPend_sb (s : State) (o : Nat) : (s.dropPend o).sb = s.sb := rfl
@[simp] theorem State.dropPend_kt (s : State) (o : Nat) : (s.dropPend o).kt = s.kt := rfl
@[simp] theorem State.dropPend_st (s : State) (o : Nat) : (s.dropPend o).st = s.st := rfl
@[simp] theorem State.dropPend_cd (s : State) (o : Nat) : (s.dropPend o).cd = s.cd := rfl
@[simp] theorem State.dropPend_tr (s : State) (o : Nat) : (s.dropPend o).tr = s.tr := rfl
@[simp] theorem State.dropPend_sc (s : State) (o : Nat) : (s.dropPend o).sc = s.sc := rfl
@[simp] theorem State.dropPend_pot (s : State) (o : Nat) : (s.dropPend o).pot = s.pot := rfl
@[simp] theorem State.dropPend_pm (s : State) (o : Nat) : (s.dropPend o).pm = s.pm := rfl
@[simp] theorem State.dropPend_dbg (s : State) (o : Nat) : (s.dropPend o).dbg = s.dbg := rfl
@[simp] theorem State.dropPend_latch (s : State) (o : Nat) : (s.dropPend o).latch = s.latch := rfl
@[simp] theorem State.dropPend_dbgLatch (s : State) (o : Nat) : (s.dropPend o).dbgLatch = s.dbgLatch := rfl
@[simp] theorem State.dropPend_chk (s : State) (o : Nat) : (s.dropPend o).chk = s.chk := rfl
@[simp] theorem State.dropPend_seamDown (s : State) (o : Nat) : (s.dropPend o).seamDown = s.seamDown := rfl
@[simp] theorem State.dropPend_wire (s : State) (o : Nat) : (s.dropPend o).wire = s.wire := rfl
@[simp] theorem State.dropPend_cwire (s : State) (o : Nat) : (s.dropPend o).cwire = s.cwire := rfl
@[simp] theorem State.dropPend_owed (s : State) (o : Nat) : (s.dropPend o).owed = s.owed := rfl
@[simp] theorem State.dropPend_used (s : State) (o : Nat) : (s.dropPend o).used = s.used := rfl
@[simp] theorem State.dropPend_allHeld (s : State) (o : Nat) : (s.dropPend o).allHeld = s.allHeld := rfl
@[simp] theorem State.dropPend_held (s : State) (o : Nat) : (s.dropPend o).held = s.held := rfl
@[simp] theorem State.dropPend_nbrBase (s : State) (o : Nat) : (s.dropPend o).nbrBase = s.nbrBase := rfl
@[simp] theorem State.dropPend_wakeQ (s : State) (o : Nat) : (s.dropPend o).wakeQ = s.wakeQ := rfl

@[simp] theorem State.commitReg_pending (s : State) (o : Nat) : (s.commitReg o).pending = s.pending := rfl
@[simp] theorem State.commitReg_free (s : State) (o : Nat) : (s.commitReg o).free = s.free := rfl
@[simp] theorem State.commitReg_pins (s : State) (o : Nat) : (s.commitReg o).pins = s.pins := rfl
@[simp] theorem State.commitReg_wrapA (s : State) (o : Nat) : (s.commitReg o).wrapA = s.wrapA := rfl
@[simp] theorem State.commitReg_wrapB (s : State) (o : Nat) : (s.commitReg o).wrapB = s.wrapB := rfl
@[simp] theorem State.commitReg_uptime (s : State) (o : Nat) : (s.commitReg o).uptime = s.uptime := rfl
@[simp] theorem State.commitReg_tab (s : State) (o : Nat) : (s.commitReg o).tab = s.tab := rfl
@[simp] theorem State.commitReg_tabBad (s : State) (o : Nat) : (s.commitReg o).tabBad = s.tabBad := rfl
@[simp] theorem State.commitReg_time (s : State) (o : Nat) : (s.commitReg o).time = s.time := rfl
@[simp] theorem State.commitReg_isl (s : State) (o : Nat) : (s.commitReg o).isl = s.isl := rfl
@[simp] theorem State.commitReg_ev (s : State) (o : Nat) : (s.commitReg o).ev = s.ev := rfl
@[simp] theorem State.commitReg_rt (s : State) (o : Nat) : (s.commitReg o).rt = s.rt := rfl
@[simp] theorem State.commitReg_ni (s : State) (o : Nat) : (s.commitReg o).ni = s.ni := rfl
@[simp] theorem State.commitReg_port (s : State) (o : Nat) : (s.commitReg o).port = s.port := rfl
@[simp] theorem State.commitReg_slice (s : State) (o : Nat) : (s.commitReg o).slice = s.slice := rfl
@[simp] theorem State.commitReg_lk (s : State) (o : Nat) : (s.commitReg o).lk = s.lk := rfl
@[simp] theorem State.commitReg_dom (s : State) (o : Nat) : (s.commitReg o).dom = s.dom := rfl
@[simp] theorem State.commitReg_sb (s : State) (o : Nat) : (s.commitReg o).sb = s.sb := rfl
@[simp] theorem State.commitReg_kt (s : State) (o : Nat) : (s.commitReg o).kt = s.kt := rfl
@[simp] theorem State.commitReg_st (s : State) (o : Nat) : (s.commitReg o).st = s.st := rfl
@[simp] theorem State.commitReg_cd (s : State) (o : Nat) : (s.commitReg o).cd = s.cd := rfl
@[simp] theorem State.commitReg_tr (s : State) (o : Nat) : (s.commitReg o).tr = s.tr := rfl
@[simp] theorem State.commitReg_sc (s : State) (o : Nat) : (s.commitReg o).sc = s.sc := rfl
@[simp] theorem State.commitReg_pot (s : State) (o : Nat) : (s.commitReg o).pot = s.pot := rfl
@[simp] theorem State.commitReg_pm (s : State) (o : Nat) : (s.commitReg o).pm = s.pm := rfl
@[simp] theorem State.commitReg_dbg (s : State) (o : Nat) : (s.commitReg o).dbg = s.dbg := rfl
@[simp] theorem State.commitReg_latch (s : State) (o : Nat) : (s.commitReg o).latch = s.latch := rfl
@[simp] theorem State.commitReg_dbgLatch (s : State) (o : Nat) : (s.commitReg o).dbgLatch = s.dbgLatch := rfl
@[simp] theorem State.commitReg_chk (s : State) (o : Nat) : (s.commitReg o).chk = s.chk := rfl
@[simp] theorem State.commitReg_seamDown (s : State) (o : Nat) : (s.commitReg o).seamDown = s.seamDown := rfl
@[simp] theorem State.commitReg_wire (s : State) (o : Nat) : (s.commitReg o).wire = s.wire := rfl
@[simp] theorem State.commitReg_cwire (s : State) (o : Nat) : (s.commitReg o).cwire = s.cwire := rfl
@[simp] theorem State.commitReg_owed (s : State) (o : Nat) : (s.commitReg o).owed = s.owed := rfl
@[simp] theorem State.commitReg_used (s : State) (o : Nat) : (s.commitReg o).used = s.used := rfl
@[simp] theorem State.commitReg_allHeld (s : State) (o : Nat) : (s.commitReg o).allHeld = s.allHeld := rfl
@[simp] theorem State.commitReg_held (s : State) (o : Nat) : (s.commitReg o).held = s.held := rfl
@[simp] theorem State.commitReg_nbrBase (s : State) (o : Nat) : (s.commitReg o).nbrBase = s.nbrBase := rfl
@[simp] theorem State.commitReg_wakeQ (s : State) (o : Nat) : (s.commitReg o).wakeQ = s.wakeQ := rfl

@[simp] theorem State.setIsl_pending (s : State) (i : Nat) (v : Island) : (s.setIsl i v).pending = s.pending := rfl
@[simp] theorem State.setIsl_free (s : State) (i : Nat) (v : Island) : (s.setIsl i v).free = s.free := rfl
@[simp] theorem State.setIsl_pins (s : State) (i : Nat) (v : Island) : (s.setIsl i v).pins = s.pins := rfl
@[simp] theorem State.setIsl_wrapA (s : State) (i : Nat) (v : Island) : (s.setIsl i v).wrapA = s.wrapA := rfl
@[simp] theorem State.setIsl_wrapB (s : State) (i : Nat) (v : Island) : (s.setIsl i v).wrapB = s.wrapB := rfl
@[simp] theorem State.setIsl_uptime (s : State) (i : Nat) (v : Island) : (s.setIsl i v).uptime = s.uptime := rfl
@[simp] theorem State.setIsl_regs (s : State) (i : Nat) (v : Island) : (s.setIsl i v).regs = s.regs := rfl
@[simp] theorem State.setIsl_pend (s : State) (i : Nat) (v : Island) : (s.setIsl i v).pend = s.pend := rfl
@[simp] theorem State.setIsl_tab (s : State) (i : Nat) (v : Island) : (s.setIsl i v).tab = s.tab := rfl
@[simp] theorem State.setIsl_tabBad (s : State) (i : Nat) (v : Island) : (s.setIsl i v).tabBad = s.tabBad := rfl
@[simp] theorem State.setIsl_time (s : State) (i : Nat) (v : Island) : (s.setIsl i v).time = s.time := rfl
@[simp] theorem State.setIsl_ev (s : State) (i : Nat) (v : Island) : (s.setIsl i v).ev = s.ev := rfl
@[simp] theorem State.setIsl_rt (s : State) (i : Nat) (v : Island) : (s.setIsl i v).rt = s.rt := rfl
@[simp] theorem State.setIsl_ni (s : State) (i : Nat) (v : Island) : (s.setIsl i v).ni = s.ni := rfl
@[simp] theorem State.setIsl_port (s : State) (i : Nat) (v : Island) : (s.setIsl i v).port = s.port := rfl
@[simp] theorem State.setIsl_slice (s : State) (i : Nat) (v : Island) : (s.setIsl i v).slice = s.slice := rfl
@[simp] theorem State.setIsl_lk (s : State) (i : Nat) (v : Island) : (s.setIsl i v).lk = s.lk := rfl
@[simp] theorem State.setIsl_dom (s : State) (i : Nat) (v : Island) : (s.setIsl i v).dom = s.dom := rfl
@[simp] theorem State.setIsl_sb (s : State) (i : Nat) (v : Island) : (s.setIsl i v).sb = s.sb := rfl
@[simp] theorem State.setIsl_kt (s : State) (i : Nat) (v : Island) : (s.setIsl i v).kt = s.kt := rfl
@[simp] theorem State.setIsl_st (s : State) (i : Nat) (v : Island) : (s.setIsl i v).st = s.st := rfl
@[simp] theorem State.setIsl_cd (s : State) (i : Nat) (v : Island) : (s.setIsl i v).cd = s.cd := rfl
@[simp] theorem State.setIsl_tr (s : State) (i : Nat) (v : Island) : (s.setIsl i v).tr = s.tr := rfl
@[simp] theorem State.setIsl_sc (s : State) (i : Nat) (v : Island) : (s.setIsl i v).sc = s.sc := rfl
@[simp] theorem State.setIsl_pot (s : State) (i : Nat) (v : Island) : (s.setIsl i v).pot = s.pot := rfl
@[simp] theorem State.setIsl_pm (s : State) (i : Nat) (v : Island) : (s.setIsl i v).pm = s.pm := rfl
@[simp] theorem State.setIsl_dbg (s : State) (i : Nat) (v : Island) : (s.setIsl i v).dbg = s.dbg := rfl
@[simp] theorem State.setIsl_latch (s : State) (i : Nat) (v : Island) : (s.setIsl i v).latch = s.latch := rfl
@[simp] theorem State.setIsl_dbgLatch (s : State) (i : Nat) (v : Island) : (s.setIsl i v).dbgLatch = s.dbgLatch := rfl
@[simp] theorem State.setIsl_chk (s : State) (i : Nat) (v : Island) : (s.setIsl i v).chk = s.chk := rfl
@[simp] theorem State.setIsl_seamDown (s : State) (i : Nat) (v : Island) : (s.setIsl i v).seamDown = s.seamDown := rfl
@[simp] theorem State.setIsl_wire (s : State) (i : Nat) (v : Island) : (s.setIsl i v).wire = s.wire := rfl
@[simp] theorem State.setIsl_cwire (s : State) (i : Nat) (v : Island) : (s.setIsl i v).cwire = s.cwire := rfl
@[simp] theorem State.setIsl_owed (s : State) (i : Nat) (v : Island) : (s.setIsl i v).owed = s.owed := rfl
@[simp] theorem State.setIsl_used (s : State) (i : Nat) (v : Island) : (s.setIsl i v).used = s.used := rfl
@[simp] theorem State.setIsl_allHeld (s : State) (i : Nat) (v : Island) : (s.setIsl i v).allHeld = s.allHeld := rfl
@[simp] theorem State.setIsl_held (s : State) (i : Nat) (v : Island) : (s.setIsl i v).held = s.held := rfl
@[simp] theorem State.setIsl_nbrBase (s : State) (i : Nat) (v : Island) : (s.setIsl i v).nbrBase = s.nbrBase := rfl
@[simp] theorem State.setIsl_wakeQ (s : State) (i : Nat) (v : Island) : (s.setIsl i v).wakeQ = s.wakeQ := rfl

@[simp] theorem State.modIsl_pending (s : State) (i : Nat) (f : Island → Island) : (s.modIsl i f).pending = s.pending := rfl
@[simp] theorem State.modIsl_free (s : State) (i : Nat) (f : Island → Island) : (s.modIsl i f).free = s.free := rfl
@[simp] theorem State.modIsl_pins (s : State) (i : Nat) (f : Island → Island) : (s.modIsl i f).pins = s.pins := rfl
@[simp] theorem State.modIsl_wrapA (s : State) (i : Nat) (f : Island → Island) : (s.modIsl i f).wrapA = s.wrapA := rfl
@[simp] theorem State.modIsl_wrapB (s : State) (i : Nat) (f : Island → Island) : (s.modIsl i f).wrapB = s.wrapB := rfl
@[simp] theorem State.modIsl_uptime (s : State) (i : Nat) (f : Island → Island) : (s.modIsl i f).uptime = s.uptime := rfl
@[simp] theorem State.modIsl_regs (s : State) (i : Nat) (f : Island → Island) : (s.modIsl i f).regs = s.regs := rfl
@[simp] theorem State.modIsl_pend (s : State) (i : Nat) (f : Island → Island) : (s.modIsl i f).pend = s.pend := rfl
@[simp] theorem State.modIsl_tab (s : State) (i : Nat) (f : Island → Island) : (s.modIsl i f).tab = s.tab := rfl
@[simp] theorem State.modIsl_tabBad (s : State) (i : Nat) (f : Island → Island) : (s.modIsl i f).tabBad = s.tabBad := rfl
@[simp] theorem State.modIsl_time (s : State) (i : Nat) (f : Island → Island) : (s.modIsl i f).time = s.time := rfl
@[simp] theorem State.modIsl_ev (s : State) (i : Nat) (f : Island → Island) : (s.modIsl i f).ev = s.ev := rfl
@[simp] theorem State.modIsl_rt (s : State) (i : Nat) (f : Island → Island) : (s.modIsl i f).rt = s.rt := rfl
@[simp] theorem State.modIsl_ni (s : State) (i : Nat) (f : Island → Island) : (s.modIsl i f).ni = s.ni := rfl
@[simp] theorem State.modIsl_port (s : State) (i : Nat) (f : Island → Island) : (s.modIsl i f).port = s.port := rfl
@[simp] theorem State.modIsl_slice (s : State) (i : Nat) (f : Island → Island) : (s.modIsl i f).slice = s.slice := rfl
@[simp] theorem State.modIsl_lk (s : State) (i : Nat) (f : Island → Island) : (s.modIsl i f).lk = s.lk := rfl
@[simp] theorem State.modIsl_dom (s : State) (i : Nat) (f : Island → Island) : (s.modIsl i f).dom = s.dom := rfl
@[simp] theorem State.modIsl_sb (s : State) (i : Nat) (f : Island → Island) : (s.modIsl i f).sb = s.sb := rfl
@[simp] theorem State.modIsl_kt (s : State) (i : Nat) (f : Island → Island) : (s.modIsl i f).kt = s.kt := rfl
@[simp] theorem State.modIsl_st (s : State) (i : Nat) (f : Island → Island) : (s.modIsl i f).st = s.st := rfl
@[simp] theorem State.modIsl_cd (s : State) (i : Nat) (f : Island → Island) : (s.modIsl i f).cd = s.cd := rfl
@[simp] theorem State.modIsl_tr (s : State) (i : Nat) (f : Island → Island) : (s.modIsl i f).tr = s.tr := rfl
@[simp] theorem State.modIsl_sc (s : State) (i : Nat) (f : Island → Island) : (s.modIsl i f).sc = s.sc := rfl
@[simp] theorem State.modIsl_pot (s : State) (i : Nat) (f : Island → Island) : (s.modIsl i f).pot = s.pot := rfl
@[simp] theorem State.modIsl_pm (s : State) (i : Nat) (f : Island → Island) : (s.modIsl i f).pm = s.pm := rfl
@[simp] theorem State.modIsl_dbg (s : State) (i : Nat) (f : Island → Island) : (s.modIsl i f).dbg = s.dbg := rfl
@[simp] theorem State.modIsl_latch (s : State) (i : Nat) (f : Island → Island) : (s.modIsl i f).latch = s.latch := rfl
@[simp] theorem State.modIsl_dbgLatch (s : State) (i : Nat) (f : Island → Island) : (s.modIsl i f).dbgLatch = s.dbgLatch := rfl
@[simp] theorem State.modIsl_chk (s : State) (i : Nat) (f : Island → Island) : (s.modIsl i f).chk = s.chk := rfl
@[simp] theorem State.modIsl_seamDown (s : State) (i : Nat) (f : Island → Island) : (s.modIsl i f).seamDown = s.seamDown := rfl
@[simp] theorem State.modIsl_wire (s : State) (i : Nat) (f : Island → Island) : (s.modIsl i f).wire = s.wire := rfl
@[simp] theorem State.modIsl_cwire (s : State) (i : Nat) (f : Island → Island) : (s.modIsl i f).cwire = s.cwire := rfl
@[simp] theorem State.modIsl_owed (s : State) (i : Nat) (f : Island → Island) : (s.modIsl i f).owed = s.owed := rfl
@[simp] theorem State.modIsl_used (s : State) (i : Nat) (f : Island → Island) : (s.modIsl i f).used = s.used := rfl
@[simp] theorem State.modIsl_allHeld (s : State) (i : Nat) (f : Island → Island) : (s.modIsl i f).allHeld = s.allHeld := rfl
@[simp] theorem State.modIsl_held (s : State) (i : Nat) (f : Island → Island) : (s.modIsl i f).held = s.held := rfl
@[simp] theorem State.modIsl_nbrBase (s : State) (i : Nat) (f : Island → Island) : (s.modIsl i f).nbrBase = s.nbrBase := rfl
@[simp] theorem State.modIsl_wakeQ (s : State) (i : Nat) (f : Island → Island) : (s.modIsl i f).wakeQ = s.wakeQ := rfl

@[simp] theorem State.setRt_pending (s : State) (t : Nat) (v : Router) : (s.setRt t v).pending = s.pending := rfl
@[simp] theorem State.setRt_free (s : State) (t : Nat) (v : Router) : (s.setRt t v).free = s.free := rfl
@[simp] theorem State.setRt_pins (s : State) (t : Nat) (v : Router) : (s.setRt t v).pins = s.pins := rfl
@[simp] theorem State.setRt_wrapA (s : State) (t : Nat) (v : Router) : (s.setRt t v).wrapA = s.wrapA := rfl
@[simp] theorem State.setRt_wrapB (s : State) (t : Nat) (v : Router) : (s.setRt t v).wrapB = s.wrapB := rfl
@[simp] theorem State.setRt_uptime (s : State) (t : Nat) (v : Router) : (s.setRt t v).uptime = s.uptime := rfl
@[simp] theorem State.setRt_regs (s : State) (t : Nat) (v : Router) : (s.setRt t v).regs = s.regs := rfl
@[simp] theorem State.setRt_pend (s : State) (t : Nat) (v : Router) : (s.setRt t v).pend = s.pend := rfl
@[simp] theorem State.setRt_tab (s : State) (t : Nat) (v : Router) : (s.setRt t v).tab = s.tab := rfl
@[simp] theorem State.setRt_tabBad (s : State) (t : Nat) (v : Router) : (s.setRt t v).tabBad = s.tabBad := rfl
@[simp] theorem State.setRt_time (s : State) (t : Nat) (v : Router) : (s.setRt t v).time = s.time := rfl
@[simp] theorem State.setRt_isl (s : State) (t : Nat) (v : Router) : (s.setRt t v).isl = s.isl := rfl
@[simp] theorem State.setRt_ev (s : State) (t : Nat) (v : Router) : (s.setRt t v).ev = s.ev := rfl
@[simp] theorem State.setRt_ni (s : State) (t : Nat) (v : Router) : (s.setRt t v).ni = s.ni := rfl
@[simp] theorem State.setRt_port (s : State) (t : Nat) (v : Router) : (s.setRt t v).port = s.port := rfl
@[simp] theorem State.setRt_slice (s : State) (t : Nat) (v : Router) : (s.setRt t v).slice = s.slice := rfl
@[simp] theorem State.setRt_lk (s : State) (t : Nat) (v : Router) : (s.setRt t v).lk = s.lk := rfl
@[simp] theorem State.setRt_dom (s : State) (t : Nat) (v : Router) : (s.setRt t v).dom = s.dom := rfl
@[simp] theorem State.setRt_sb (s : State) (t : Nat) (v : Router) : (s.setRt t v).sb = s.sb := rfl
@[simp] theorem State.setRt_kt (s : State) (t : Nat) (v : Router) : (s.setRt t v).kt = s.kt := rfl
@[simp] theorem State.setRt_st (s : State) (t : Nat) (v : Router) : (s.setRt t v).st = s.st := rfl
@[simp] theorem State.setRt_cd (s : State) (t : Nat) (v : Router) : (s.setRt t v).cd = s.cd := rfl
@[simp] theorem State.setRt_tr (s : State) (t : Nat) (v : Router) : (s.setRt t v).tr = s.tr := rfl
@[simp] theorem State.setRt_sc (s : State) (t : Nat) (v : Router) : (s.setRt t v).sc = s.sc := rfl
@[simp] theorem State.setRt_pot (s : State) (t : Nat) (v : Router) : (s.setRt t v).pot = s.pot := rfl
@[simp] theorem State.setRt_pm (s : State) (t : Nat) (v : Router) : (s.setRt t v).pm = s.pm := rfl
@[simp] theorem State.setRt_dbg (s : State) (t : Nat) (v : Router) : (s.setRt t v).dbg = s.dbg := rfl
@[simp] theorem State.setRt_latch (s : State) (t : Nat) (v : Router) : (s.setRt t v).latch = s.latch := rfl
@[simp] theorem State.setRt_dbgLatch (s : State) (t : Nat) (v : Router) : (s.setRt t v).dbgLatch = s.dbgLatch := rfl
@[simp] theorem State.setRt_chk (s : State) (t : Nat) (v : Router) : (s.setRt t v).chk = s.chk := rfl
@[simp] theorem State.setRt_seamDown (s : State) (t : Nat) (v : Router) : (s.setRt t v).seamDown = s.seamDown := rfl
@[simp] theorem State.setRt_wire (s : State) (t : Nat) (v : Router) : (s.setRt t v).wire = s.wire := rfl
@[simp] theorem State.setRt_cwire (s : State) (t : Nat) (v : Router) : (s.setRt t v).cwire = s.cwire := rfl
@[simp] theorem State.setRt_owed (s : State) (t : Nat) (v : Router) : (s.setRt t v).owed = s.owed := rfl
@[simp] theorem State.setRt_used (s : State) (t : Nat) (v : Router) : (s.setRt t v).used = s.used := rfl
@[simp] theorem State.setRt_allHeld (s : State) (t : Nat) (v : Router) : (s.setRt t v).allHeld = s.allHeld := rfl
@[simp] theorem State.setRt_held (s : State) (t : Nat) (v : Router) : (s.setRt t v).held = s.held := rfl
@[simp] theorem State.setRt_nbrBase (s : State) (t : Nat) (v : Router) : (s.setRt t v).nbrBase = s.nbrBase := rfl
@[simp] theorem State.setRt_wakeQ (s : State) (t : Nat) (v : Router) : (s.setRt t v).wakeQ = s.wakeQ := rfl

@[simp] theorem State.modRt_pending (s : State) (t : Nat) (f : Router → Router) : (s.modRt t f).pending = s.pending := rfl
@[simp] theorem State.modRt_free (s : State) (t : Nat) (f : Router → Router) : (s.modRt t f).free = s.free := rfl
@[simp] theorem State.modRt_pins (s : State) (t : Nat) (f : Router → Router) : (s.modRt t f).pins = s.pins := rfl
@[simp] theorem State.modRt_wrapA (s : State) (t : Nat) (f : Router → Router) : (s.modRt t f).wrapA = s.wrapA := rfl
@[simp] theorem State.modRt_wrapB (s : State) (t : Nat) (f : Router → Router) : (s.modRt t f).wrapB = s.wrapB := rfl
@[simp] theorem State.modRt_uptime (s : State) (t : Nat) (f : Router → Router) : (s.modRt t f).uptime = s.uptime := rfl
@[simp] theorem State.modRt_regs (s : State) (t : Nat) (f : Router → Router) : (s.modRt t f).regs = s.regs := rfl
@[simp] theorem State.modRt_pend (s : State) (t : Nat) (f : Router → Router) : (s.modRt t f).pend = s.pend := rfl
@[simp] theorem State.modRt_tab (s : State) (t : Nat) (f : Router → Router) : (s.modRt t f).tab = s.tab := rfl
@[simp] theorem State.modRt_tabBad (s : State) (t : Nat) (f : Router → Router) : (s.modRt t f).tabBad = s.tabBad := rfl
@[simp] theorem State.modRt_time (s : State) (t : Nat) (f : Router → Router) : (s.modRt t f).time = s.time := rfl
@[simp] theorem State.modRt_isl (s : State) (t : Nat) (f : Router → Router) : (s.modRt t f).isl = s.isl := rfl
@[simp] theorem State.modRt_ev (s : State) (t : Nat) (f : Router → Router) : (s.modRt t f).ev = s.ev := rfl
@[simp] theorem State.modRt_ni (s : State) (t : Nat) (f : Router → Router) : (s.modRt t f).ni = s.ni := rfl
@[simp] theorem State.modRt_port (s : State) (t : Nat) (f : Router → Router) : (s.modRt t f).port = s.port := rfl
@[simp] theorem State.modRt_slice (s : State) (t : Nat) (f : Router → Router) : (s.modRt t f).slice = s.slice := rfl
@[simp] theorem State.modRt_lk (s : State) (t : Nat) (f : Router → Router) : (s.modRt t f).lk = s.lk := rfl
@[simp] theorem State.modRt_dom (s : State) (t : Nat) (f : Router → Router) : (s.modRt t f).dom = s.dom := rfl
@[simp] theorem State.modRt_sb (s : State) (t : Nat) (f : Router → Router) : (s.modRt t f).sb = s.sb := rfl
@[simp] theorem State.modRt_kt (s : State) (t : Nat) (f : Router → Router) : (s.modRt t f).kt = s.kt := rfl
@[simp] theorem State.modRt_st (s : State) (t : Nat) (f : Router → Router) : (s.modRt t f).st = s.st := rfl
@[simp] theorem State.modRt_cd (s : State) (t : Nat) (f : Router → Router) : (s.modRt t f).cd = s.cd := rfl
@[simp] theorem State.modRt_tr (s : State) (t : Nat) (f : Router → Router) : (s.modRt t f).tr = s.tr := rfl
@[simp] theorem State.modRt_sc (s : State) (t : Nat) (f : Router → Router) : (s.modRt t f).sc = s.sc := rfl
@[simp] theorem State.modRt_pot (s : State) (t : Nat) (f : Router → Router) : (s.modRt t f).pot = s.pot := rfl
@[simp] theorem State.modRt_pm (s : State) (t : Nat) (f : Router → Router) : (s.modRt t f).pm = s.pm := rfl
@[simp] theorem State.modRt_dbg (s : State) (t : Nat) (f : Router → Router) : (s.modRt t f).dbg = s.dbg := rfl
@[simp] theorem State.modRt_latch (s : State) (t : Nat) (f : Router → Router) : (s.modRt t f).latch = s.latch := rfl
@[simp] theorem State.modRt_dbgLatch (s : State) (t : Nat) (f : Router → Router) : (s.modRt t f).dbgLatch = s.dbgLatch := rfl
@[simp] theorem State.modRt_chk (s : State) (t : Nat) (f : Router → Router) : (s.modRt t f).chk = s.chk := rfl
@[simp] theorem State.modRt_seamDown (s : State) (t : Nat) (f : Router → Router) : (s.modRt t f).seamDown = s.seamDown := rfl
@[simp] theorem State.modRt_wire (s : State) (t : Nat) (f : Router → Router) : (s.modRt t f).wire = s.wire := rfl
@[simp] theorem State.modRt_cwire (s : State) (t : Nat) (f : Router → Router) : (s.modRt t f).cwire = s.cwire := rfl
@[simp] theorem State.modRt_owed (s : State) (t : Nat) (f : Router → Router) : (s.modRt t f).owed = s.owed := rfl
@[simp] theorem State.modRt_used (s : State) (t : Nat) (f : Router → Router) : (s.modRt t f).used = s.used := rfl
@[simp] theorem State.modRt_allHeld (s : State) (t : Nat) (f : Router → Router) : (s.modRt t f).allHeld = s.allHeld := rfl
@[simp] theorem State.modRt_held (s : State) (t : Nat) (f : Router → Router) : (s.modRt t f).held = s.held := rfl
@[simp] theorem State.modRt_nbrBase (s : State) (t : Nat) (f : Router → Router) : (s.modRt t f).nbrBase = s.nbrBase := rfl
@[simp] theorem State.modRt_wakeQ (s : State) (t : Nat) (f : Router → Router) : (s.modRt t f).wakeQ = s.wakeQ := rfl

@[simp] theorem State.setNi_pending (s : State) (n : Nat) (v : Ni) : (s.setNi n v).pending = s.pending := rfl
@[simp] theorem State.setNi_free (s : State) (n : Nat) (v : Ni) : (s.setNi n v).free = s.free := rfl
@[simp] theorem State.setNi_pins (s : State) (n : Nat) (v : Ni) : (s.setNi n v).pins = s.pins := rfl
@[simp] theorem State.setNi_wrapA (s : State) (n : Nat) (v : Ni) : (s.setNi n v).wrapA = s.wrapA := rfl
@[simp] theorem State.setNi_wrapB (s : State) (n : Nat) (v : Ni) : (s.setNi n v).wrapB = s.wrapB := rfl
@[simp] theorem State.setNi_uptime (s : State) (n : Nat) (v : Ni) : (s.setNi n v).uptime = s.uptime := rfl
@[simp] theorem State.setNi_regs (s : State) (n : Nat) (v : Ni) : (s.setNi n v).regs = s.regs := rfl
@[simp] theorem State.setNi_pend (s : State) (n : Nat) (v : Ni) : (s.setNi n v).pend = s.pend := rfl
@[simp] theorem State.setNi_tab (s : State) (n : Nat) (v : Ni) : (s.setNi n v).tab = s.tab := rfl
@[simp] theorem State.setNi_tabBad (s : State) (n : Nat) (v : Ni) : (s.setNi n v).tabBad = s.tabBad := rfl
@[simp] theorem State.setNi_time (s : State) (n : Nat) (v : Ni) : (s.setNi n v).time = s.time := rfl
@[simp] theorem State.setNi_isl (s : State) (n : Nat) (v : Ni) : (s.setNi n v).isl = s.isl := rfl
@[simp] theorem State.setNi_ev (s : State) (n : Nat) (v : Ni) : (s.setNi n v).ev = s.ev := rfl
@[simp] theorem State.setNi_rt (s : State) (n : Nat) (v : Ni) : (s.setNi n v).rt = s.rt := rfl
@[simp] theorem State.setNi_port (s : State) (n : Nat) (v : Ni) : (s.setNi n v).port = s.port := rfl
@[simp] theorem State.setNi_slice (s : State) (n : Nat) (v : Ni) : (s.setNi n v).slice = s.slice := rfl
@[simp] theorem State.setNi_lk (s : State) (n : Nat) (v : Ni) : (s.setNi n v).lk = s.lk := rfl
@[simp] theorem State.setNi_dom (s : State) (n : Nat) (v : Ni) : (s.setNi n v).dom = s.dom := rfl
@[simp] theorem State.setNi_sb (s : State) (n : Nat) (v : Ni) : (s.setNi n v).sb = s.sb := rfl
@[simp] theorem State.setNi_kt (s : State) (n : Nat) (v : Ni) : (s.setNi n v).kt = s.kt := rfl
@[simp] theorem State.setNi_st (s : State) (n : Nat) (v : Ni) : (s.setNi n v).st = s.st := rfl
@[simp] theorem State.setNi_cd (s : State) (n : Nat) (v : Ni) : (s.setNi n v).cd = s.cd := rfl
@[simp] theorem State.setNi_tr (s : State) (n : Nat) (v : Ni) : (s.setNi n v).tr = s.tr := rfl
@[simp] theorem State.setNi_sc (s : State) (n : Nat) (v : Ni) : (s.setNi n v).sc = s.sc := rfl
@[simp] theorem State.setNi_pot (s : State) (n : Nat) (v : Ni) : (s.setNi n v).pot = s.pot := rfl
@[simp] theorem State.setNi_pm (s : State) (n : Nat) (v : Ni) : (s.setNi n v).pm = s.pm := rfl
@[simp] theorem State.setNi_dbg (s : State) (n : Nat) (v : Ni) : (s.setNi n v).dbg = s.dbg := rfl
@[simp] theorem State.setNi_latch (s : State) (n : Nat) (v : Ni) : (s.setNi n v).latch = s.latch := rfl
@[simp] theorem State.setNi_dbgLatch (s : State) (n : Nat) (v : Ni) : (s.setNi n v).dbgLatch = s.dbgLatch := rfl
@[simp] theorem State.setNi_chk (s : State) (n : Nat) (v : Ni) : (s.setNi n v).chk = s.chk := rfl
@[simp] theorem State.setNi_seamDown (s : State) (n : Nat) (v : Ni) : (s.setNi n v).seamDown = s.seamDown := rfl
@[simp] theorem State.setNi_wire (s : State) (n : Nat) (v : Ni) : (s.setNi n v).wire = s.wire := rfl
@[simp] theorem State.setNi_cwire (s : State) (n : Nat) (v : Ni) : (s.setNi n v).cwire = s.cwire := rfl
@[simp] theorem State.setNi_owed (s : State) (n : Nat) (v : Ni) : (s.setNi n v).owed = s.owed := rfl
@[simp] theorem State.setNi_used (s : State) (n : Nat) (v : Ni) : (s.setNi n v).used = s.used := rfl
@[simp] theorem State.setNi_allHeld (s : State) (n : Nat) (v : Ni) : (s.setNi n v).allHeld = s.allHeld := rfl
@[simp] theorem State.setNi_held (s : State) (n : Nat) (v : Ni) : (s.setNi n v).held = s.held := rfl
@[simp] theorem State.setNi_nbrBase (s : State) (n : Nat) (v : Ni) : (s.setNi n v).nbrBase = s.nbrBase := rfl
@[simp] theorem State.setNi_wakeQ (s : State) (n : Nat) (v : Ni) : (s.setNi n v).wakeQ = s.wakeQ := rfl

@[simp] theorem State.modNi_pending (s : State) (n : Nat) (f : Ni → Ni) : (s.modNi n f).pending = s.pending := rfl
@[simp] theorem State.modNi_free (s : State) (n : Nat) (f : Ni → Ni) : (s.modNi n f).free = s.free := rfl
@[simp] theorem State.modNi_pins (s : State) (n : Nat) (f : Ni → Ni) : (s.modNi n f).pins = s.pins := rfl
@[simp] theorem State.modNi_wrapA (s : State) (n : Nat) (f : Ni → Ni) : (s.modNi n f).wrapA = s.wrapA := rfl
@[simp] theorem State.modNi_wrapB (s : State) (n : Nat) (f : Ni → Ni) : (s.modNi n f).wrapB = s.wrapB := rfl
@[simp] theorem State.modNi_uptime (s : State) (n : Nat) (f : Ni → Ni) : (s.modNi n f).uptime = s.uptime := rfl
@[simp] theorem State.modNi_regs (s : State) (n : Nat) (f : Ni → Ni) : (s.modNi n f).regs = s.regs := rfl
@[simp] theorem State.modNi_pend (s : State) (n : Nat) (f : Ni → Ni) : (s.modNi n f).pend = s.pend := rfl
@[simp] theorem State.modNi_tab (s : State) (n : Nat) (f : Ni → Ni) : (s.modNi n f).tab = s.tab := rfl
@[simp] theorem State.modNi_tabBad (s : State) (n : Nat) (f : Ni → Ni) : (s.modNi n f).tabBad = s.tabBad := rfl
@[simp] theorem State.modNi_time (s : State) (n : Nat) (f : Ni → Ni) : (s.modNi n f).time = s.time := rfl
@[simp] theorem State.modNi_isl (s : State) (n : Nat) (f : Ni → Ni) : (s.modNi n f).isl = s.isl := rfl
@[simp] theorem State.modNi_ev (s : State) (n : Nat) (f : Ni → Ni) : (s.modNi n f).ev = s.ev := rfl
@[simp] theorem State.modNi_rt (s : State) (n : Nat) (f : Ni → Ni) : (s.modNi n f).rt = s.rt := rfl
@[simp] theorem State.modNi_port (s : State) (n : Nat) (f : Ni → Ni) : (s.modNi n f).port = s.port := rfl
@[simp] theorem State.modNi_slice (s : State) (n : Nat) (f : Ni → Ni) : (s.modNi n f).slice = s.slice := rfl
@[simp] theorem State.modNi_lk (s : State) (n : Nat) (f : Ni → Ni) : (s.modNi n f).lk = s.lk := rfl
@[simp] theorem State.modNi_dom (s : State) (n : Nat) (f : Ni → Ni) : (s.modNi n f).dom = s.dom := rfl
@[simp] theorem State.modNi_sb (s : State) (n : Nat) (f : Ni → Ni) : (s.modNi n f).sb = s.sb := rfl
@[simp] theorem State.modNi_kt (s : State) (n : Nat) (f : Ni → Ni) : (s.modNi n f).kt = s.kt := rfl
@[simp] theorem State.modNi_st (s : State) (n : Nat) (f : Ni → Ni) : (s.modNi n f).st = s.st := rfl
@[simp] theorem State.modNi_cd (s : State) (n : Nat) (f : Ni → Ni) : (s.modNi n f).cd = s.cd := rfl
@[simp] theorem State.modNi_tr (s : State) (n : Nat) (f : Ni → Ni) : (s.modNi n f).tr = s.tr := rfl
@[simp] theorem State.modNi_sc (s : State) (n : Nat) (f : Ni → Ni) : (s.modNi n f).sc = s.sc := rfl
@[simp] theorem State.modNi_pot (s : State) (n : Nat) (f : Ni → Ni) : (s.modNi n f).pot = s.pot := rfl
@[simp] theorem State.modNi_pm (s : State) (n : Nat) (f : Ni → Ni) : (s.modNi n f).pm = s.pm := rfl
@[simp] theorem State.modNi_dbg (s : State) (n : Nat) (f : Ni → Ni) : (s.modNi n f).dbg = s.dbg := rfl
@[simp] theorem State.modNi_latch (s : State) (n : Nat) (f : Ni → Ni) : (s.modNi n f).latch = s.latch := rfl
@[simp] theorem State.modNi_dbgLatch (s : State) (n : Nat) (f : Ni → Ni) : (s.modNi n f).dbgLatch = s.dbgLatch := rfl
@[simp] theorem State.modNi_chk (s : State) (n : Nat) (f : Ni → Ni) : (s.modNi n f).chk = s.chk := rfl
@[simp] theorem State.modNi_seamDown (s : State) (n : Nat) (f : Ni → Ni) : (s.modNi n f).seamDown = s.seamDown := rfl
@[simp] theorem State.modNi_wire (s : State) (n : Nat) (f : Ni → Ni) : (s.modNi n f).wire = s.wire := rfl
@[simp] theorem State.modNi_cwire (s : State) (n : Nat) (f : Ni → Ni) : (s.modNi n f).cwire = s.cwire := rfl
@[simp] theorem State.modNi_owed (s : State) (n : Nat) (f : Ni → Ni) : (s.modNi n f).owed = s.owed := rfl
@[simp] theorem State.modNi_used (s : State) (n : Nat) (f : Ni → Ni) : (s.modNi n f).used = s.used := rfl
@[simp] theorem State.modNi_allHeld (s : State) (n : Nat) (f : Ni → Ni) : (s.modNi n f).allHeld = s.allHeld := rfl
@[simp] theorem State.modNi_held (s : State) (n : Nat) (f : Ni → Ni) : (s.modNi n f).held = s.held := rfl
@[simp] theorem State.modNi_nbrBase (s : State) (n : Nat) (f : Ni → Ni) : (s.modNi n f).nbrBase = s.nbrBase := rfl
@[simp] theorem State.modNi_wakeQ (s : State) (n : Nat) (f : Ni → Ni) : (s.modNi n f).wakeQ = s.wakeQ := rfl

@[simp] theorem State.setDom_pending (s : State) (d : Nat) (v : Domain) : (s.setDom d v).pending = s.pending := rfl
@[simp] theorem State.setDom_free (s : State) (d : Nat) (v : Domain) : (s.setDom d v).free = s.free := rfl
@[simp] theorem State.setDom_pins (s : State) (d : Nat) (v : Domain) : (s.setDom d v).pins = s.pins := rfl
@[simp] theorem State.setDom_wrapA (s : State) (d : Nat) (v : Domain) : (s.setDom d v).wrapA = s.wrapA := rfl
@[simp] theorem State.setDom_wrapB (s : State) (d : Nat) (v : Domain) : (s.setDom d v).wrapB = s.wrapB := rfl
@[simp] theorem State.setDom_uptime (s : State) (d : Nat) (v : Domain) : (s.setDom d v).uptime = s.uptime := rfl
@[simp] theorem State.setDom_regs (s : State) (d : Nat) (v : Domain) : (s.setDom d v).regs = s.regs := rfl
@[simp] theorem State.setDom_pend (s : State) (d : Nat) (v : Domain) : (s.setDom d v).pend = s.pend := rfl
@[simp] theorem State.setDom_tab (s : State) (d : Nat) (v : Domain) : (s.setDom d v).tab = s.tab := rfl
@[simp] theorem State.setDom_tabBad (s : State) (d : Nat) (v : Domain) : (s.setDom d v).tabBad = s.tabBad := rfl
@[simp] theorem State.setDom_time (s : State) (d : Nat) (v : Domain) : (s.setDom d v).time = s.time := rfl
@[simp] theorem State.setDom_isl (s : State) (d : Nat) (v : Domain) : (s.setDom d v).isl = s.isl := rfl
@[simp] theorem State.setDom_ev (s : State) (d : Nat) (v : Domain) : (s.setDom d v).ev = s.ev := rfl
@[simp] theorem State.setDom_rt (s : State) (d : Nat) (v : Domain) : (s.setDom d v).rt = s.rt := rfl
@[simp] theorem State.setDom_ni (s : State) (d : Nat) (v : Domain) : (s.setDom d v).ni = s.ni := rfl
@[simp] theorem State.setDom_port (s : State) (d : Nat) (v : Domain) : (s.setDom d v).port = s.port := rfl
@[simp] theorem State.setDom_slice (s : State) (d : Nat) (v : Domain) : (s.setDom d v).slice = s.slice := rfl
@[simp] theorem State.setDom_lk (s : State) (d : Nat) (v : Domain) : (s.setDom d v).lk = s.lk := rfl
@[simp] theorem State.setDom_sb (s : State) (d : Nat) (v : Domain) : (s.setDom d v).sb = s.sb := rfl
@[simp] theorem State.setDom_kt (s : State) (d : Nat) (v : Domain) : (s.setDom d v).kt = s.kt := rfl
@[simp] theorem State.setDom_st (s : State) (d : Nat) (v : Domain) : (s.setDom d v).st = s.st := rfl
@[simp] theorem State.setDom_cd (s : State) (d : Nat) (v : Domain) : (s.setDom d v).cd = s.cd := rfl
@[simp] theorem State.setDom_tr (s : State) (d : Nat) (v : Domain) : (s.setDom d v).tr = s.tr := rfl
@[simp] theorem State.setDom_sc (s : State) (d : Nat) (v : Domain) : (s.setDom d v).sc = s.sc := rfl
@[simp] theorem State.setDom_pot (s : State) (d : Nat) (v : Domain) : (s.setDom d v).pot = s.pot := rfl
@[simp] theorem State.setDom_pm (s : State) (d : Nat) (v : Domain) : (s.setDom d v).pm = s.pm := rfl
@[simp] theorem State.setDom_dbg (s : State) (d : Nat) (v : Domain) : (s.setDom d v).dbg = s.dbg := rfl
@[simp] theorem State.setDom_latch (s : State) (d : Nat) (v : Domain) : (s.setDom d v).latch = s.latch := rfl
@[simp] theorem State.setDom_dbgLatch (s : State) (d : Nat) (v : Domain) : (s.setDom d v).dbgLatch = s.dbgLatch := rfl
@[simp] theorem State.setDom_chk (s : State) (d : Nat) (v : Domain) : (s.setDom d v).chk = s.chk := rfl
@[simp] theorem State.setDom_seamDown (s : State) (d : Nat) (v : Domain) : (s.setDom d v).seamDown = s.seamDown := rfl
@[simp] theorem State.setDom_wire (s : State) (d : Nat) (v : Domain) : (s.setDom d v).wire = s.wire := rfl
@[simp] theorem State.setDom_cwire (s : State) (d : Nat) (v : Domain) : (s.setDom d v).cwire = s.cwire := rfl
@[simp] theorem State.setDom_owed (s : State) (d : Nat) (v : Domain) : (s.setDom d v).owed = s.owed := rfl
@[simp] theorem State.setDom_used (s : State) (d : Nat) (v : Domain) : (s.setDom d v).used = s.used := rfl
@[simp] theorem State.setDom_allHeld (s : State) (d : Nat) (v : Domain) : (s.setDom d v).allHeld = s.allHeld := rfl
@[simp] theorem State.setDom_held (s : State) (d : Nat) (v : Domain) : (s.setDom d v).held = s.held := rfl
@[simp] theorem State.setDom_nbrBase (s : State) (d : Nat) (v : Domain) : (s.setDom d v).nbrBase = s.nbrBase := rfl
@[simp] theorem State.setDom_wakeQ (s : State) (d : Nat) (v : Domain) : (s.setDom d v).wakeQ = s.wakeQ := rfl

@[simp] theorem State.modDom_pending (s : State) (d : Nat) (f : Domain → Domain) : (s.modDom d f).pending = s.pending := rfl
@[simp] theorem State.modDom_free (s : State) (d : Nat) (f : Domain → Domain) : (s.modDom d f).free = s.free := rfl
@[simp] theorem State.modDom_pins (s : State) (d : Nat) (f : Domain → Domain) : (s.modDom d f).pins = s.pins := rfl
@[simp] theorem State.modDom_wrapA (s : State) (d : Nat) (f : Domain → Domain) : (s.modDom d f).wrapA = s.wrapA := rfl
@[simp] theorem State.modDom_wrapB (s : State) (d : Nat) (f : Domain → Domain) : (s.modDom d f).wrapB = s.wrapB := rfl
@[simp] theorem State.modDom_uptime (s : State) (d : Nat) (f : Domain → Domain) : (s.modDom d f).uptime = s.uptime := rfl
@[simp] theorem State.modDom_regs (s : State) (d : Nat) (f : Domain → Domain) : (s.modDom d f).regs = s.regs := rfl
@[simp] theorem State.modDom_pend (s : State) (d : Nat) (f : Domain → Domain) : (s.modDom d f).pend = s.pend := rfl
@[simp] theorem State.modDom_tab (s : State) (d : Nat) (f : Domain → Domain) : (s.modDom d f).tab = s.tab := rfl
@[simp] theorem State.modDom_tabBad (s : State) (d : Nat) (f : Domain → Domain) : (s.modDom d f).tabBad = s.tabBad := rfl
@[simp] theorem State.modDom_time (s : State) (d : Nat) (f : Domain → Domain) : (s.modDom d f).time = s.time := rfl
@[simp] theorem State.modDom_isl (s : State) (d : Nat) (f : Domain → Domain) : (s.modDom d f).isl = s.isl := rfl
@[simp] theorem State.modDom_ev (s : State) (d : Nat) (f : Domain → Domain) : (s.modDom d f).ev = s.ev := rfl
@[simp] theorem State.modDom_rt (s : State) (d : Nat) (f : Domain → Domain) : (s.modDom d f).rt = s.rt := rfl
@[simp] theorem State.modDom_ni (s : State) (d : Nat) (f : Domain → Domain) : (s.modDom d f).ni = s.ni := rfl
@[simp] theorem State.modDom_port (s : State) (d : Nat) (f : Domain → Domain) : (s.modDom d f).port = s.port := rfl
@[simp] theorem State.modDom_slice (s : State) (d : Nat) (f : Domain → Domain) : (s.modDom d f).slice = s.slice := rfl
@[simp] theorem State.modDom_lk (s : State) (d : Nat) (f : Domain → Domain) : (s.modDom d f).lk = s.lk := rfl
@[simp] theorem State.modDom_sb (s : State) (d : Nat) (f : Domain → Domain) : (s.modDom d f).sb = s.sb := rfl
@[simp] theorem State.modDom_kt (s : State) (d : Nat) (f : Domain → Domain) : (s.modDom d f).kt = s.kt := rfl
@[simp] theorem State.modDom_st (s : State) (d : Nat) (f : Domain → Domain) : (s.modDom d f).st = s.st := rfl
@[simp] theorem State.modDom_cd (s : State) (d : Nat) (f : Domain → Domain) : (s.modDom d f).cd = s.cd := rfl
@[simp] theorem State.modDom_tr (s : State) (d : Nat) (f : Domain → Domain) : (s.modDom d f).tr = s.tr := rfl
@[simp] theorem State.modDom_sc (s : State) (d : Nat) (f : Domain → Domain) : (s.modDom d f).sc = s.sc := rfl
@[simp] theorem State.modDom_pot (s : State) (d : Nat) (f : Domain → Domain) : (s.modDom d f).pot = s.pot := rfl
@[simp] theorem State.modDom_pm (s : State) (d : Nat) (f : Domain → Domain) : (s.modDom d f).pm = s.pm := rfl
@[simp] theorem State.modDom_dbg (s : State) (d : Nat) (f : Domain → Domain) : (s.modDom d f).dbg = s.dbg := rfl
@[simp] theorem State.modDom_latch (s : State) (d : Nat) (f : Domain → Domain) : (s.modDom d f).latch = s.latch := rfl
@[simp] theorem State.modDom_dbgLatch (s : State) (d : Nat) (f : Domain → Domain) : (s.modDom d f).dbgLatch = s.dbgLatch := rfl
@[simp] theorem State.modDom_chk (s : State) (d : Nat) (f : Domain → Domain) : (s.modDom d f).chk = s.chk := rfl
@[simp] theorem State.modDom_seamDown (s : State) (d : Nat) (f : Domain → Domain) : (s.modDom d f).seamDown = s.seamDown := rfl
@[simp] theorem State.modDom_wire (s : State) (d : Nat) (f : Domain → Domain) : (s.modDom d f).wire = s.wire := rfl
@[simp] theorem State.modDom_cwire (s : State) (d : Nat) (f : Domain → Domain) : (s.modDom d f).cwire = s.cwire := rfl
@[simp] theorem State.modDom_owed (s : State) (d : Nat) (f : Domain → Domain) : (s.modDom d f).owed = s.owed := rfl
@[simp] theorem State.modDom_used (s : State) (d : Nat) (f : Domain → Domain) : (s.modDom d f).used = s.used := rfl
@[simp] theorem State.modDom_allHeld (s : State) (d : Nat) (f : Domain → Domain) : (s.modDom d f).allHeld = s.allHeld := rfl
@[simp] theorem State.modDom_held (s : State) (d : Nat) (f : Domain → Domain) : (s.modDom d f).held = s.held := rfl
@[simp] theorem State.modDom_nbrBase (s : State) (d : Nat) (f : Domain → Domain) : (s.modDom d f).nbrBase = s.nbrBase := rfl
@[simp] theorem State.modDom_wakeQ (s : State) (d : Nat) (f : Domain → Domain) : (s.modDom d f).wakeQ = s.wakeQ := rfl

@[simp] theorem State.setPort_pending (s : State) (n : Nat) (x : Port) : (s.setPort n x).pending = s.pending := rfl
@[simp] theorem State.setPort_free (s : State) (n : Nat) (x : Port) : (s.setPort n x).free = s.free := rfl
@[simp] theorem State.setPort_pins (s : State) (n : Nat) (x : Port) : (s.setPort n x).pins = s.pins := rfl
@[simp] theorem State.setPort_wrapA (s : State) (n : Nat) (x : Port) : (s.setPort n x).wrapA = s.wrapA := rfl
@[simp] theorem State.setPort_wrapB (s : State) (n : Nat) (x : Port) : (s.setPort n x).wrapB = s.wrapB := rfl
@[simp] theorem State.setPort_uptime (s : State) (n : Nat) (x : Port) : (s.setPort n x).uptime = s.uptime := rfl
@[simp] theorem State.setPort_regs (s : State) (n : Nat) (x : Port) : (s.setPort n x).regs = s.regs := rfl
@[simp] theorem State.setPort_pend (s : State) (n : Nat) (x : Port) : (s.setPort n x).pend = s.pend := rfl
@[simp] theorem State.setPort_tab (s : State) (n : Nat) (x : Port) : (s.setPort n x).tab = s.tab := rfl
@[simp] theorem State.setPort_tabBad (s : State) (n : Nat) (x : Port) : (s.setPort n x).tabBad = s.tabBad := rfl
@[simp] theorem State.setPort_time (s : State) (n : Nat) (x : Port) : (s.setPort n x).time = s.time := rfl
@[simp] theorem State.setPort_isl (s : State) (n : Nat) (x : Port) : (s.setPort n x).isl = s.isl := rfl
@[simp] theorem State.setPort_ev (s : State) (n : Nat) (x : Port) : (s.setPort n x).ev = s.ev := rfl
@[simp] theorem State.setPort_rt (s : State) (n : Nat) (x : Port) : (s.setPort n x).rt = s.rt := rfl
@[simp] theorem State.setPort_ni (s : State) (n : Nat) (x : Port) : (s.setPort n x).ni = s.ni := rfl
@[simp] theorem State.setPort_slice (s : State) (n : Nat) (x : Port) : (s.setPort n x).slice = s.slice := rfl
@[simp] theorem State.setPort_lk (s : State) (n : Nat) (x : Port) : (s.setPort n x).lk = s.lk := rfl
@[simp] theorem State.setPort_dom (s : State) (n : Nat) (x : Port) : (s.setPort n x).dom = s.dom := rfl
@[simp] theorem State.setPort_sb (s : State) (n : Nat) (x : Port) : (s.setPort n x).sb = s.sb := rfl
@[simp] theorem State.setPort_kt (s : State) (n : Nat) (x : Port) : (s.setPort n x).kt = s.kt := rfl
@[simp] theorem State.setPort_st (s : State) (n : Nat) (x : Port) : (s.setPort n x).st = s.st := rfl
@[simp] theorem State.setPort_cd (s : State) (n : Nat) (x : Port) : (s.setPort n x).cd = s.cd := rfl
@[simp] theorem State.setPort_tr (s : State) (n : Nat) (x : Port) : (s.setPort n x).tr = s.tr := rfl
@[simp] theorem State.setPort_sc (s : State) (n : Nat) (x : Port) : (s.setPort n x).sc = s.sc := rfl
@[simp] theorem State.setPort_pot (s : State) (n : Nat) (x : Port) : (s.setPort n x).pot = s.pot := rfl
@[simp] theorem State.setPort_pm (s : State) (n : Nat) (x : Port) : (s.setPort n x).pm = s.pm := rfl
@[simp] theorem State.setPort_dbg (s : State) (n : Nat) (x : Port) : (s.setPort n x).dbg = s.dbg := rfl
@[simp] theorem State.setPort_latch (s : State) (n : Nat) (x : Port) : (s.setPort n x).latch = s.latch := rfl
@[simp] theorem State.setPort_dbgLatch (s : State) (n : Nat) (x : Port) : (s.setPort n x).dbgLatch = s.dbgLatch := rfl
@[simp] theorem State.setPort_chk (s : State) (n : Nat) (x : Port) : (s.setPort n x).chk = s.chk := rfl
@[simp] theorem State.setPort_seamDown (s : State) (n : Nat) (x : Port) : (s.setPort n x).seamDown = s.seamDown := rfl
@[simp] theorem State.setPort_wire (s : State) (n : Nat) (x : Port) : (s.setPort n x).wire = s.wire := rfl
@[simp] theorem State.setPort_cwire (s : State) (n : Nat) (x : Port) : (s.setPort n x).cwire = s.cwire := rfl
@[simp] theorem State.setPort_owed (s : State) (n : Nat) (x : Port) : (s.setPort n x).owed = s.owed := rfl
@[simp] theorem State.setPort_used (s : State) (n : Nat) (x : Port) : (s.setPort n x).used = s.used := rfl
@[simp] theorem State.setPort_allHeld (s : State) (n : Nat) (x : Port) : (s.setPort n x).allHeld = s.allHeld := rfl
@[simp] theorem State.setPort_held (s : State) (n : Nat) (x : Port) : (s.setPort n x).held = s.held := rfl
@[simp] theorem State.setPort_nbrBase (s : State) (n : Nat) (x : Port) : (s.setPort n x).nbrBase = s.nbrBase := rfl
@[simp] theorem State.setPort_wakeQ (s : State) (n : Nat) (x : Port) : (s.setPort n x).wakeQ = s.wakeQ := rfl

@[simp] theorem State.modPort_pending (s : State) (n : Nat) (f : Port → Port) : (s.modPort n f).pending = s.pending := rfl
@[simp] theorem State.modPort_free (s : State) (n : Nat) (f : Port → Port) : (s.modPort n f).free = s.free := rfl
@[simp] theorem State.modPort_pins (s : State) (n : Nat) (f : Port → Port) : (s.modPort n f).pins = s.pins := rfl
@[simp] theorem State.modPort_wrapA (s : State) (n : Nat) (f : Port → Port) : (s.modPort n f).wrapA = s.wrapA := rfl
@[simp] theorem State.modPort_wrapB (s : State) (n : Nat) (f : Port → Port) : (s.modPort n f).wrapB = s.wrapB := rfl
@[simp] theorem State.modPort_uptime (s : State) (n : Nat) (f : Port → Port) : (s.modPort n f).uptime = s.uptime := rfl
@[simp] theorem State.modPort_regs (s : State) (n : Nat) (f : Port → Port) : (s.modPort n f).regs = s.regs := rfl
@[simp] theorem State.modPort_pend (s : State) (n : Nat) (f : Port → Port) : (s.modPort n f).pend = s.pend := rfl
@[simp] theorem State.modPort_tab (s : State) (n : Nat) (f : Port → Port) : (s.modPort n f).tab = s.tab := rfl
@[simp] theorem State.modPort_tabBad (s : State) (n : Nat) (f : Port → Port) : (s.modPort n f).tabBad = s.tabBad := rfl
@[simp] theorem State.modPort_time (s : State) (n : Nat) (f : Port → Port) : (s.modPort n f).time = s.time := rfl
@[simp] theorem State.modPort_isl (s : State) (n : Nat) (f : Port → Port) : (s.modPort n f).isl = s.isl := rfl
@[simp] theorem State.modPort_ev (s : State) (n : Nat) (f : Port → Port) : (s.modPort n f).ev = s.ev := rfl
@[simp] theorem State.modPort_rt (s : State) (n : Nat) (f : Port → Port) : (s.modPort n f).rt = s.rt := rfl
@[simp] theorem State.modPort_ni (s : State) (n : Nat) (f : Port → Port) : (s.modPort n f).ni = s.ni := rfl
@[simp] theorem State.modPort_slice (s : State) (n : Nat) (f : Port → Port) : (s.modPort n f).slice = s.slice := rfl
@[simp] theorem State.modPort_lk (s : State) (n : Nat) (f : Port → Port) : (s.modPort n f).lk = s.lk := rfl
@[simp] theorem State.modPort_dom (s : State) (n : Nat) (f : Port → Port) : (s.modPort n f).dom = s.dom := rfl
@[simp] theorem State.modPort_sb (s : State) (n : Nat) (f : Port → Port) : (s.modPort n f).sb = s.sb := rfl
@[simp] theorem State.modPort_kt (s : State) (n : Nat) (f : Port → Port) : (s.modPort n f).kt = s.kt := rfl
@[simp] theorem State.modPort_st (s : State) (n : Nat) (f : Port → Port) : (s.modPort n f).st = s.st := rfl
@[simp] theorem State.modPort_cd (s : State) (n : Nat) (f : Port → Port) : (s.modPort n f).cd = s.cd := rfl
@[simp] theorem State.modPort_tr (s : State) (n : Nat) (f : Port → Port) : (s.modPort n f).tr = s.tr := rfl
@[simp] theorem State.modPort_sc (s : State) (n : Nat) (f : Port → Port) : (s.modPort n f).sc = s.sc := rfl
@[simp] theorem State.modPort_pot (s : State) (n : Nat) (f : Port → Port) : (s.modPort n f).pot = s.pot := rfl
@[simp] theorem State.modPort_pm (s : State) (n : Nat) (f : Port → Port) : (s.modPort n f).pm = s.pm := rfl
@[simp] theorem State.modPort_dbg (s : State) (n : Nat) (f : Port → Port) : (s.modPort n f).dbg = s.dbg := rfl
@[simp] theorem State.modPort_latch (s : State) (n : Nat) (f : Port → Port) : (s.modPort n f).latch = s.latch := rfl
@[simp] theorem State.modPort_dbgLatch (s : State) (n : Nat) (f : Port → Port) : (s.modPort n f).dbgLatch = s.dbgLatch := rfl
@[simp] theorem State.modPort_chk (s : State) (n : Nat) (f : Port → Port) : (s.modPort n f).chk = s.chk := rfl
@[simp] theorem State.modPort_seamDown (s : State) (n : Nat) (f : Port → Port) : (s.modPort n f).seamDown = s.seamDown := rfl
@[simp] theorem State.modPort_wire (s : State) (n : Nat) (f : Port → Port) : (s.modPort n f).wire = s.wire := rfl
@[simp] theorem State.modPort_cwire (s : State) (n : Nat) (f : Port → Port) : (s.modPort n f).cwire = s.cwire := rfl
@[simp] theorem State.modPort_owed (s : State) (n : Nat) (f : Port → Port) : (s.modPort n f).owed = s.owed := rfl
@[simp] theorem State.modPort_used (s : State) (n : Nat) (f : Port → Port) : (s.modPort n f).used = s.used := rfl
@[simp] theorem State.modPort_allHeld (s : State) (n : Nat) (f : Port → Port) : (s.modPort n f).allHeld = s.allHeld := rfl
@[simp] theorem State.modPort_held (s : State) (n : Nat) (f : Port → Port) : (s.modPort n f).held = s.held := rfl
@[simp] theorem State.modPort_nbrBase (s : State) (n : Nat) (f : Port → Port) : (s.modPort n f).nbrBase = s.nbrBase := rfl
@[simp] theorem State.modPort_wakeQ (s : State) (n : Nat) (f : Port → Port) : (s.modPort n f).wakeQ = s.wakeQ := rfl

@[simp] theorem State.setSlice_pending (s : State) (h : Nat) (x : Slice) : (s.setSlice h x).pending = s.pending := rfl
@[simp] theorem State.setSlice_free (s : State) (h : Nat) (x : Slice) : (s.setSlice h x).free = s.free := rfl
@[simp] theorem State.setSlice_pins (s : State) (h : Nat) (x : Slice) : (s.setSlice h x).pins = s.pins := rfl
@[simp] theorem State.setSlice_wrapA (s : State) (h : Nat) (x : Slice) : (s.setSlice h x).wrapA = s.wrapA := rfl
@[simp] theorem State.setSlice_wrapB (s : State) (h : Nat) (x : Slice) : (s.setSlice h x).wrapB = s.wrapB := rfl
@[simp] theorem State.setSlice_uptime (s : State) (h : Nat) (x : Slice) : (s.setSlice h x).uptime = s.uptime := rfl
@[simp] theorem State.setSlice_regs (s : State) (h : Nat) (x : Slice) : (s.setSlice h x).regs = s.regs := rfl
@[simp] theorem State.setSlice_pend (s : State) (h : Nat) (x : Slice) : (s.setSlice h x).pend = s.pend := rfl
@[simp] theorem State.setSlice_tab (s : State) (h : Nat) (x : Slice) : (s.setSlice h x).tab = s.tab := rfl
@[simp] theorem State.setSlice_tabBad (s : State) (h : Nat) (x : Slice) : (s.setSlice h x).tabBad = s.tabBad := rfl
@[simp] theorem State.setSlice_time (s : State) (h : Nat) (x : Slice) : (s.setSlice h x).time = s.time := rfl
@[simp] theorem State.setSlice_isl (s : State) (h : Nat) (x : Slice) : (s.setSlice h x).isl = s.isl := rfl
@[simp] theorem State.setSlice_ev (s : State) (h : Nat) (x : Slice) : (s.setSlice h x).ev = s.ev := rfl
@[simp] theorem State.setSlice_rt (s : State) (h : Nat) (x : Slice) : (s.setSlice h x).rt = s.rt := rfl
@[simp] theorem State.setSlice_ni (s : State) (h : Nat) (x : Slice) : (s.setSlice h x).ni = s.ni := rfl
@[simp] theorem State.setSlice_port (s : State) (h : Nat) (x : Slice) : (s.setSlice h x).port = s.port := rfl
@[simp] theorem State.setSlice_lk (s : State) (h : Nat) (x : Slice) : (s.setSlice h x).lk = s.lk := rfl
@[simp] theorem State.setSlice_dom (s : State) (h : Nat) (x : Slice) : (s.setSlice h x).dom = s.dom := rfl
@[simp] theorem State.setSlice_sb (s : State) (h : Nat) (x : Slice) : (s.setSlice h x).sb = s.sb := rfl
@[simp] theorem State.setSlice_kt (s : State) (h : Nat) (x : Slice) : (s.setSlice h x).kt = s.kt := rfl
@[simp] theorem State.setSlice_st (s : State) (h : Nat) (x : Slice) : (s.setSlice h x).st = s.st := rfl
@[simp] theorem State.setSlice_cd (s : State) (h : Nat) (x : Slice) : (s.setSlice h x).cd = s.cd := rfl
@[simp] theorem State.setSlice_tr (s : State) (h : Nat) (x : Slice) : (s.setSlice h x).tr = s.tr := rfl
@[simp] theorem State.setSlice_sc (s : State) (h : Nat) (x : Slice) : (s.setSlice h x).sc = s.sc := rfl
@[simp] theorem State.setSlice_pot (s : State) (h : Nat) (x : Slice) : (s.setSlice h x).pot = s.pot := rfl
@[simp] theorem State.setSlice_pm (s : State) (h : Nat) (x : Slice) : (s.setSlice h x).pm = s.pm := rfl
@[simp] theorem State.setSlice_dbg (s : State) (h : Nat) (x : Slice) : (s.setSlice h x).dbg = s.dbg := rfl
@[simp] theorem State.setSlice_latch (s : State) (h : Nat) (x : Slice) : (s.setSlice h x).latch = s.latch := rfl
@[simp] theorem State.setSlice_dbgLatch (s : State) (h : Nat) (x : Slice) : (s.setSlice h x).dbgLatch = s.dbgLatch := rfl
@[simp] theorem State.setSlice_chk (s : State) (h : Nat) (x : Slice) : (s.setSlice h x).chk = s.chk := rfl
@[simp] theorem State.setSlice_seamDown (s : State) (h : Nat) (x : Slice) : (s.setSlice h x).seamDown = s.seamDown := rfl
@[simp] theorem State.setSlice_wire (s : State) (h : Nat) (x : Slice) : (s.setSlice h x).wire = s.wire := rfl
@[simp] theorem State.setSlice_cwire (s : State) (h : Nat) (x : Slice) : (s.setSlice h x).cwire = s.cwire := rfl
@[simp] theorem State.setSlice_owed (s : State) (h : Nat) (x : Slice) : (s.setSlice h x).owed = s.owed := rfl
@[simp] theorem State.setSlice_used (s : State) (h : Nat) (x : Slice) : (s.setSlice h x).used = s.used := rfl
@[simp] theorem State.setSlice_allHeld (s : State) (h : Nat) (x : Slice) : (s.setSlice h x).allHeld = s.allHeld := rfl
@[simp] theorem State.setSlice_held (s : State) (h : Nat) (x : Slice) : (s.setSlice h x).held = s.held := rfl
@[simp] theorem State.setSlice_nbrBase (s : State) (h : Nat) (x : Slice) : (s.setSlice h x).nbrBase = s.nbrBase := rfl
@[simp] theorem State.setSlice_wakeQ (s : State) (h : Nat) (x : Slice) : (s.setSlice h x).wakeQ = s.wakeQ := rfl

@[simp] theorem State.modSlice_pending (s : State) (h : Nat) (f : Slice → Slice) : (s.modSlice h f).pending = s.pending := rfl
@[simp] theorem State.modSlice_free (s : State) (h : Nat) (f : Slice → Slice) : (s.modSlice h f).free = s.free := rfl
@[simp] theorem State.modSlice_pins (s : State) (h : Nat) (f : Slice → Slice) : (s.modSlice h f).pins = s.pins := rfl
@[simp] theorem State.modSlice_wrapA (s : State) (h : Nat) (f : Slice → Slice) : (s.modSlice h f).wrapA = s.wrapA := rfl
@[simp] theorem State.modSlice_wrapB (s : State) (h : Nat) (f : Slice → Slice) : (s.modSlice h f).wrapB = s.wrapB := rfl
@[simp] theorem State.modSlice_uptime (s : State) (h : Nat) (f : Slice → Slice) : (s.modSlice h f).uptime = s.uptime := rfl
@[simp] theorem State.modSlice_regs (s : State) (h : Nat) (f : Slice → Slice) : (s.modSlice h f).regs = s.regs := rfl
@[simp] theorem State.modSlice_pend (s : State) (h : Nat) (f : Slice → Slice) : (s.modSlice h f).pend = s.pend := rfl
@[simp] theorem State.modSlice_tab (s : State) (h : Nat) (f : Slice → Slice) : (s.modSlice h f).tab = s.tab := rfl
@[simp] theorem State.modSlice_tabBad (s : State) (h : Nat) (f : Slice → Slice) : (s.modSlice h f).tabBad = s.tabBad := rfl
@[simp] theorem State.modSlice_time (s : State) (h : Nat) (f : Slice → Slice) : (s.modSlice h f).time = s.time := rfl
@[simp] theorem State.modSlice_isl (s : State) (h : Nat) (f : Slice → Slice) : (s.modSlice h f).isl = s.isl := rfl
@[simp] theorem State.modSlice_ev (s : State) (h : Nat) (f : Slice → Slice) : (s.modSlice h f).ev = s.ev := rfl
@[simp] theorem State.modSlice_rt (s : State) (h : Nat) (f : Slice → Slice) : (s.modSlice h f).rt = s.rt := rfl
@[simp] theorem State.modSlice_ni (s : State) (h : Nat) (f : Slice → Slice) : (s.modSlice h f).ni = s.ni := rfl
@[simp] theorem State.modSlice_port (s : State) (h : Nat) (f : Slice → Slice) : (s.modSlice h f).port = s.port := rfl
@[simp] theorem State.modSlice_lk (s : State) (h : Nat) (f : Slice → Slice) : (s.modSlice h f).lk = s.lk := rfl
@[simp] theorem State.modSlice_dom (s : State) (h : Nat) (f : Slice → Slice) : (s.modSlice h f).dom = s.dom := rfl
@[simp] theorem State.modSlice_sb (s : State) (h : Nat) (f : Slice → Slice) : (s.modSlice h f).sb = s.sb := rfl
@[simp] theorem State.modSlice_kt (s : State) (h : Nat) (f : Slice → Slice) : (s.modSlice h f).kt = s.kt := rfl
@[simp] theorem State.modSlice_st (s : State) (h : Nat) (f : Slice → Slice) : (s.modSlice h f).st = s.st := rfl
@[simp] theorem State.modSlice_cd (s : State) (h : Nat) (f : Slice → Slice) : (s.modSlice h f).cd = s.cd := rfl
@[simp] theorem State.modSlice_tr (s : State) (h : Nat) (f : Slice → Slice) : (s.modSlice h f).tr = s.tr := rfl
@[simp] theorem State.modSlice_sc (s : State) (h : Nat) (f : Slice → Slice) : (s.modSlice h f).sc = s.sc := rfl
@[simp] theorem State.modSlice_pot (s : State) (h : Nat) (f : Slice → Slice) : (s.modSlice h f).pot = s.pot := rfl
@[simp] theorem State.modSlice_pm (s : State) (h : Nat) (f : Slice → Slice) : (s.modSlice h f).pm = s.pm := rfl
@[simp] theorem State.modSlice_dbg (s : State) (h : Nat) (f : Slice → Slice) : (s.modSlice h f).dbg = s.dbg := rfl
@[simp] theorem State.modSlice_latch (s : State) (h : Nat) (f : Slice → Slice) : (s.modSlice h f).latch = s.latch := rfl
@[simp] theorem State.modSlice_dbgLatch (s : State) (h : Nat) (f : Slice → Slice) : (s.modSlice h f).dbgLatch = s.dbgLatch := rfl
@[simp] theorem State.modSlice_chk (s : State) (h : Nat) (f : Slice → Slice) : (s.modSlice h f).chk = s.chk := rfl
@[simp] theorem State.modSlice_seamDown (s : State) (h : Nat) (f : Slice → Slice) : (s.modSlice h f).seamDown = s.seamDown := rfl
@[simp] theorem State.modSlice_wire (s : State) (h : Nat) (f : Slice → Slice) : (s.modSlice h f).wire = s.wire := rfl
@[simp] theorem State.modSlice_cwire (s : State) (h : Nat) (f : Slice → Slice) : (s.modSlice h f).cwire = s.cwire := rfl
@[simp] theorem State.modSlice_owed (s : State) (h : Nat) (f : Slice → Slice) : (s.modSlice h f).owed = s.owed := rfl
@[simp] theorem State.modSlice_used (s : State) (h : Nat) (f : Slice → Slice) : (s.modSlice h f).used = s.used := rfl
@[simp] theorem State.modSlice_allHeld (s : State) (h : Nat) (f : Slice → Slice) : (s.modSlice h f).allHeld = s.allHeld := rfl
@[simp] theorem State.modSlice_held (s : State) (h : Nat) (f : Slice → Slice) : (s.modSlice h f).held = s.held := rfl
@[simp] theorem State.modSlice_nbrBase (s : State) (h : Nat) (f : Slice → Slice) : (s.modSlice h f).nbrBase = s.nbrBase := rfl
@[simp] theorem State.modSlice_wakeQ (s : State) (h : Nat) (f : Slice → Slice) : (s.modSlice h f).wakeQ = s.wakeQ := rfl

@[simp] theorem State.setLk_pending (s : State) (k e : Nat) (x : Lk) : (s.setLk k e x).pending = s.pending := rfl
@[simp] theorem State.setLk_free (s : State) (k e : Nat) (x : Lk) : (s.setLk k e x).free = s.free := rfl
@[simp] theorem State.setLk_pins (s : State) (k e : Nat) (x : Lk) : (s.setLk k e x).pins = s.pins := rfl
@[simp] theorem State.setLk_wrapA (s : State) (k e : Nat) (x : Lk) : (s.setLk k e x).wrapA = s.wrapA := rfl
@[simp] theorem State.setLk_wrapB (s : State) (k e : Nat) (x : Lk) : (s.setLk k e x).wrapB = s.wrapB := rfl
@[simp] theorem State.setLk_uptime (s : State) (k e : Nat) (x : Lk) : (s.setLk k e x).uptime = s.uptime := rfl
@[simp] theorem State.setLk_regs (s : State) (k e : Nat) (x : Lk) : (s.setLk k e x).regs = s.regs := rfl
@[simp] theorem State.setLk_pend (s : State) (k e : Nat) (x : Lk) : (s.setLk k e x).pend = s.pend := rfl
@[simp] theorem State.setLk_tab (s : State) (k e : Nat) (x : Lk) : (s.setLk k e x).tab = s.tab := rfl
@[simp] theorem State.setLk_tabBad (s : State) (k e : Nat) (x : Lk) : (s.setLk k e x).tabBad = s.tabBad := rfl
@[simp] theorem State.setLk_time (s : State) (k e : Nat) (x : Lk) : (s.setLk k e x).time = s.time := rfl
@[simp] theorem State.setLk_isl (s : State) (k e : Nat) (x : Lk) : (s.setLk k e x).isl = s.isl := rfl
@[simp] theorem State.setLk_ev (s : State) (k e : Nat) (x : Lk) : (s.setLk k e x).ev = s.ev := rfl
@[simp] theorem State.setLk_rt (s : State) (k e : Nat) (x : Lk) : (s.setLk k e x).rt = s.rt := rfl
@[simp] theorem State.setLk_ni (s : State) (k e : Nat) (x : Lk) : (s.setLk k e x).ni = s.ni := rfl
@[simp] theorem State.setLk_port (s : State) (k e : Nat) (x : Lk) : (s.setLk k e x).port = s.port := rfl
@[simp] theorem State.setLk_slice (s : State) (k e : Nat) (x : Lk) : (s.setLk k e x).slice = s.slice := rfl
@[simp] theorem State.setLk_dom (s : State) (k e : Nat) (x : Lk) : (s.setLk k e x).dom = s.dom := rfl
@[simp] theorem State.setLk_sb (s : State) (k e : Nat) (x : Lk) : (s.setLk k e x).sb = s.sb := rfl
@[simp] theorem State.setLk_kt (s : State) (k e : Nat) (x : Lk) : (s.setLk k e x).kt = s.kt := rfl
@[simp] theorem State.setLk_st (s : State) (k e : Nat) (x : Lk) : (s.setLk k e x).st = s.st := rfl
@[simp] theorem State.setLk_cd (s : State) (k e : Nat) (x : Lk) : (s.setLk k e x).cd = s.cd := rfl
@[simp] theorem State.setLk_tr (s : State) (k e : Nat) (x : Lk) : (s.setLk k e x).tr = s.tr := rfl
@[simp] theorem State.setLk_sc (s : State) (k e : Nat) (x : Lk) : (s.setLk k e x).sc = s.sc := rfl
@[simp] theorem State.setLk_pot (s : State) (k e : Nat) (x : Lk) : (s.setLk k e x).pot = s.pot := rfl
@[simp] theorem State.setLk_pm (s : State) (k e : Nat) (x : Lk) : (s.setLk k e x).pm = s.pm := rfl
@[simp] theorem State.setLk_dbg (s : State) (k e : Nat) (x : Lk) : (s.setLk k e x).dbg = s.dbg := rfl
@[simp] theorem State.setLk_latch (s : State) (k e : Nat) (x : Lk) : (s.setLk k e x).latch = s.latch := rfl
@[simp] theorem State.setLk_dbgLatch (s : State) (k e : Nat) (x : Lk) : (s.setLk k e x).dbgLatch = s.dbgLatch := rfl
@[simp] theorem State.setLk_chk (s : State) (k e : Nat) (x : Lk) : (s.setLk k e x).chk = s.chk := rfl
@[simp] theorem State.setLk_seamDown (s : State) (k e : Nat) (x : Lk) : (s.setLk k e x).seamDown = s.seamDown := rfl
@[simp] theorem State.setLk_wire (s : State) (k e : Nat) (x : Lk) : (s.setLk k e x).wire = s.wire := rfl
@[simp] theorem State.setLk_cwire (s : State) (k e : Nat) (x : Lk) : (s.setLk k e x).cwire = s.cwire := rfl
@[simp] theorem State.setLk_owed (s : State) (k e : Nat) (x : Lk) : (s.setLk k e x).owed = s.owed := rfl
@[simp] theorem State.setLk_used (s : State) (k e : Nat) (x : Lk) : (s.setLk k e x).used = s.used := rfl
@[simp] theorem State.setLk_allHeld (s : State) (k e : Nat) (x : Lk) : (s.setLk k e x).allHeld = s.allHeld := rfl
@[simp] theorem State.setLk_held (s : State) (k e : Nat) (x : Lk) : (s.setLk k e x).held = s.held := rfl
@[simp] theorem State.setLk_nbrBase (s : State) (k e : Nat) (x : Lk) : (s.setLk k e x).nbrBase = s.nbrBase := rfl
@[simp] theorem State.setLk_wakeQ (s : State) (k e : Nat) (x : Lk) : (s.setLk k e x).wakeQ = s.wakeQ := rfl

@[simp] theorem State.setTab_pending (s : State) (n bank sec part idx : Nat) (w : W64) : (s.setTab n bank sec part idx w).pending = s.pending := rfl
@[simp] theorem State.setTab_free (s : State) (n bank sec part idx : Nat) (w : W64) : (s.setTab n bank sec part idx w).free = s.free := rfl
@[simp] theorem State.setTab_pins (s : State) (n bank sec part idx : Nat) (w : W64) : (s.setTab n bank sec part idx w).pins = s.pins := rfl
@[simp] theorem State.setTab_wrapA (s : State) (n bank sec part idx : Nat) (w : W64) : (s.setTab n bank sec part idx w).wrapA = s.wrapA := rfl
@[simp] theorem State.setTab_wrapB (s : State) (n bank sec part idx : Nat) (w : W64) : (s.setTab n bank sec part idx w).wrapB = s.wrapB := rfl
@[simp] theorem State.setTab_uptime (s : State) (n bank sec part idx : Nat) (w : W64) : (s.setTab n bank sec part idx w).uptime = s.uptime := rfl
@[simp] theorem State.setTab_regs (s : State) (n bank sec part idx : Nat) (w : W64) : (s.setTab n bank sec part idx w).regs = s.regs := rfl
@[simp] theorem State.setTab_pend (s : State) (n bank sec part idx : Nat) (w : W64) : (s.setTab n bank sec part idx w).pend = s.pend := rfl
@[simp] theorem State.setTab_tabBad (s : State) (n bank sec part idx : Nat) (w : W64) : (s.setTab n bank sec part idx w).tabBad = s.tabBad := rfl
@[simp] theorem State.setTab_time (s : State) (n bank sec part idx : Nat) (w : W64) : (s.setTab n bank sec part idx w).time = s.time := rfl
@[simp] theorem State.setTab_isl (s : State) (n bank sec part idx : Nat) (w : W64) : (s.setTab n bank sec part idx w).isl = s.isl := rfl
@[simp] theorem State.setTab_ev (s : State) (n bank sec part idx : Nat) (w : W64) : (s.setTab n bank sec part idx w).ev = s.ev := rfl
@[simp] theorem State.setTab_rt (s : State) (n bank sec part idx : Nat) (w : W64) : (s.setTab n bank sec part idx w).rt = s.rt := rfl
@[simp] theorem State.setTab_ni (s : State) (n bank sec part idx : Nat) (w : W64) : (s.setTab n bank sec part idx w).ni = s.ni := rfl
@[simp] theorem State.setTab_port (s : State) (n bank sec part idx : Nat) (w : W64) : (s.setTab n bank sec part idx w).port = s.port := rfl
@[simp] theorem State.setTab_slice (s : State) (n bank sec part idx : Nat) (w : W64) : (s.setTab n bank sec part idx w).slice = s.slice := rfl
@[simp] theorem State.setTab_lk (s : State) (n bank sec part idx : Nat) (w : W64) : (s.setTab n bank sec part idx w).lk = s.lk := rfl
@[simp] theorem State.setTab_dom (s : State) (n bank sec part idx : Nat) (w : W64) : (s.setTab n bank sec part idx w).dom = s.dom := rfl
@[simp] theorem State.setTab_sb (s : State) (n bank sec part idx : Nat) (w : W64) : (s.setTab n bank sec part idx w).sb = s.sb := rfl
@[simp] theorem State.setTab_kt (s : State) (n bank sec part idx : Nat) (w : W64) : (s.setTab n bank sec part idx w).kt = s.kt := rfl
@[simp] theorem State.setTab_st (s : State) (n bank sec part idx : Nat) (w : W64) : (s.setTab n bank sec part idx w).st = s.st := rfl
@[simp] theorem State.setTab_cd (s : State) (n bank sec part idx : Nat) (w : W64) : (s.setTab n bank sec part idx w).cd = s.cd := rfl
@[simp] theorem State.setTab_tr (s : State) (n bank sec part idx : Nat) (w : W64) : (s.setTab n bank sec part idx w).tr = s.tr := rfl
@[simp] theorem State.setTab_sc (s : State) (n bank sec part idx : Nat) (w : W64) : (s.setTab n bank sec part idx w).sc = s.sc := rfl
@[simp] theorem State.setTab_pot (s : State) (n bank sec part idx : Nat) (w : W64) : (s.setTab n bank sec part idx w).pot = s.pot := rfl
@[simp] theorem State.setTab_pm (s : State) (n bank sec part idx : Nat) (w : W64) : (s.setTab n bank sec part idx w).pm = s.pm := rfl
@[simp] theorem State.setTab_dbg (s : State) (n bank sec part idx : Nat) (w : W64) : (s.setTab n bank sec part idx w).dbg = s.dbg := rfl
@[simp] theorem State.setTab_latch (s : State) (n bank sec part idx : Nat) (w : W64) : (s.setTab n bank sec part idx w).latch = s.latch := rfl
@[simp] theorem State.setTab_dbgLatch (s : State) (n bank sec part idx : Nat) (w : W64) : (s.setTab n bank sec part idx w).dbgLatch = s.dbgLatch := rfl
@[simp] theorem State.setTab_chk (s : State) (n bank sec part idx : Nat) (w : W64) : (s.setTab n bank sec part idx w).chk = s.chk := rfl
@[simp] theorem State.setTab_seamDown (s : State) (n bank sec part idx : Nat) (w : W64) : (s.setTab n bank sec part idx w).seamDown = s.seamDown := rfl
@[simp] theorem State.setTab_wire (s : State) (n bank sec part idx : Nat) (w : W64) : (s.setTab n bank sec part idx w).wire = s.wire := rfl
@[simp] theorem State.setTab_cwire (s : State) (n bank sec part idx : Nat) (w : W64) : (s.setTab n bank sec part idx w).cwire = s.cwire := rfl
@[simp] theorem State.setTab_owed (s : State) (n bank sec part idx : Nat) (w : W64) : (s.setTab n bank sec part idx w).owed = s.owed := rfl
@[simp] theorem State.setTab_used (s : State) (n bank sec part idx : Nat) (w : W64) : (s.setTab n bank sec part idx w).used = s.used := rfl
@[simp] theorem State.setTab_allHeld (s : State) (n bank sec part idx : Nat) (w : W64) : (s.setTab n bank sec part idx w).allHeld = s.allHeld := rfl
@[simp] theorem State.setTab_held (s : State) (n bank sec part idx : Nat) (w : W64) : (s.setTab n bank sec part idx w).held = s.held := rfl
@[simp] theorem State.setTab_nbrBase (s : State) (n bank sec part idx : Nat) (w : W64) : (s.setTab n bank sec part idx w).nbrBase = s.nbrBase := rfl
@[simp] theorem State.setTab_wakeQ (s : State) (n bank sec part idx : Nat) (w : W64) : (s.setTab n bank sec part idx w).wakeQ = s.wakeQ := rfl

@[simp] theorem State.setWire_pending (s : State) (k : Nat) (l : List Flit) : (s.setWire k l).pending = s.pending := rfl
@[simp] theorem State.setWire_free (s : State) (k : Nat) (l : List Flit) : (s.setWire k l).free = s.free := rfl
@[simp] theorem State.setWire_pins (s : State) (k : Nat) (l : List Flit) : (s.setWire k l).pins = s.pins := rfl
@[simp] theorem State.setWire_wrapA (s : State) (k : Nat) (l : List Flit) : (s.setWire k l).wrapA = s.wrapA := rfl
@[simp] theorem State.setWire_wrapB (s : State) (k : Nat) (l : List Flit) : (s.setWire k l).wrapB = s.wrapB := rfl
@[simp] theorem State.setWire_uptime (s : State) (k : Nat) (l : List Flit) : (s.setWire k l).uptime = s.uptime := rfl
@[simp] theorem State.setWire_regs (s : State) (k : Nat) (l : List Flit) : (s.setWire k l).regs = s.regs := rfl
@[simp] theorem State.setWire_pend (s : State) (k : Nat) (l : List Flit) : (s.setWire k l).pend = s.pend := rfl
@[simp] theorem State.setWire_tab (s : State) (k : Nat) (l : List Flit) : (s.setWire k l).tab = s.tab := rfl
@[simp] theorem State.setWire_tabBad (s : State) (k : Nat) (l : List Flit) : (s.setWire k l).tabBad = s.tabBad := rfl
@[simp] theorem State.setWire_time (s : State) (k : Nat) (l : List Flit) : (s.setWire k l).time = s.time := rfl
@[simp] theorem State.setWire_isl (s : State) (k : Nat) (l : List Flit) : (s.setWire k l).isl = s.isl := rfl
@[simp] theorem State.setWire_ev (s : State) (k : Nat) (l : List Flit) : (s.setWire k l).ev = s.ev := rfl
@[simp] theorem State.setWire_rt (s : State) (k : Nat) (l : List Flit) : (s.setWire k l).rt = s.rt := rfl
@[simp] theorem State.setWire_ni (s : State) (k : Nat) (l : List Flit) : (s.setWire k l).ni = s.ni := rfl
@[simp] theorem State.setWire_port (s : State) (k : Nat) (l : List Flit) : (s.setWire k l).port = s.port := rfl
@[simp] theorem State.setWire_slice (s : State) (k : Nat) (l : List Flit) : (s.setWire k l).slice = s.slice := rfl
@[simp] theorem State.setWire_lk (s : State) (k : Nat) (l : List Flit) : (s.setWire k l).lk = s.lk := rfl
@[simp] theorem State.setWire_dom (s : State) (k : Nat) (l : List Flit) : (s.setWire k l).dom = s.dom := rfl
@[simp] theorem State.setWire_sb (s : State) (k : Nat) (l : List Flit) : (s.setWire k l).sb = s.sb := rfl
@[simp] theorem State.setWire_kt (s : State) (k : Nat) (l : List Flit) : (s.setWire k l).kt = s.kt := rfl
@[simp] theorem State.setWire_st (s : State) (k : Nat) (l : List Flit) : (s.setWire k l).st = s.st := rfl
@[simp] theorem State.setWire_cd (s : State) (k : Nat) (l : List Flit) : (s.setWire k l).cd = s.cd := rfl
@[simp] theorem State.setWire_tr (s : State) (k : Nat) (l : List Flit) : (s.setWire k l).tr = s.tr := rfl
@[simp] theorem State.setWire_sc (s : State) (k : Nat) (l : List Flit) : (s.setWire k l).sc = s.sc := rfl
@[simp] theorem State.setWire_pot (s : State) (k : Nat) (l : List Flit) : (s.setWire k l).pot = s.pot := rfl
@[simp] theorem State.setWire_pm (s : State) (k : Nat) (l : List Flit) : (s.setWire k l).pm = s.pm := rfl
@[simp] theorem State.setWire_dbg (s : State) (k : Nat) (l : List Flit) : (s.setWire k l).dbg = s.dbg := rfl
@[simp] theorem State.setWire_latch (s : State) (k : Nat) (l : List Flit) : (s.setWire k l).latch = s.latch := rfl
@[simp] theorem State.setWire_dbgLatch (s : State) (k : Nat) (l : List Flit) : (s.setWire k l).dbgLatch = s.dbgLatch := rfl
@[simp] theorem State.setWire_chk (s : State) (k : Nat) (l : List Flit) : (s.setWire k l).chk = s.chk := rfl
@[simp] theorem State.setWire_seamDown (s : State) (k : Nat) (l : List Flit) : (s.setWire k l).seamDown = s.seamDown := rfl
@[simp] theorem State.setWire_cwire (s : State) (k : Nat) (l : List Flit) : (s.setWire k l).cwire = s.cwire := rfl
@[simp] theorem State.setWire_owed (s : State) (k : Nat) (l : List Flit) : (s.setWire k l).owed = s.owed := rfl
@[simp] theorem State.setWire_used (s : State) (k : Nat) (l : List Flit) : (s.setWire k l).used = s.used := rfl
@[simp] theorem State.setWire_allHeld (s : State) (k : Nat) (l : List Flit) : (s.setWire k l).allHeld = s.allHeld := rfl
@[simp] theorem State.setWire_held (s : State) (k : Nat) (l : List Flit) : (s.setWire k l).held = s.held := rfl
@[simp] theorem State.setWire_nbrBase (s : State) (k : Nat) (l : List Flit) : (s.setWire k l).nbrBase = s.nbrBase := rfl
@[simp] theorem State.setWire_wakeQ (s : State) (k : Nat) (l : List Flit) : (s.setWire k l).wakeQ = s.wakeQ := rfl

@[simp] theorem State.sendFlit_pending (s : State) (k : Nat) (f : Flit) : (s.sendFlit k f).pending = s.pending := rfl
@[simp] theorem State.sendFlit_free (s : State) (k : Nat) (f : Flit) : (s.sendFlit k f).free = s.free := rfl
@[simp] theorem State.sendFlit_pins (s : State) (k : Nat) (f : Flit) : (s.sendFlit k f).pins = s.pins := rfl
@[simp] theorem State.sendFlit_wrapA (s : State) (k : Nat) (f : Flit) : (s.sendFlit k f).wrapA = s.wrapA := rfl
@[simp] theorem State.sendFlit_wrapB (s : State) (k : Nat) (f : Flit) : (s.sendFlit k f).wrapB = s.wrapB := rfl
@[simp] theorem State.sendFlit_uptime (s : State) (k : Nat) (f : Flit) : (s.sendFlit k f).uptime = s.uptime := rfl
@[simp] theorem State.sendFlit_regs (s : State) (k : Nat) (f : Flit) : (s.sendFlit k f).regs = s.regs := rfl
@[simp] theorem State.sendFlit_pend (s : State) (k : Nat) (f : Flit) : (s.sendFlit k f).pend = s.pend := rfl
@[simp] theorem State.sendFlit_tab (s : State) (k : Nat) (f : Flit) : (s.sendFlit k f).tab = s.tab := rfl
@[simp] theorem State.sendFlit_tabBad (s : State) (k : Nat) (f : Flit) : (s.sendFlit k f).tabBad = s.tabBad := rfl
@[simp] theorem State.sendFlit_time (s : State) (k : Nat) (f : Flit) : (s.sendFlit k f).time = s.time := rfl
@[simp] theorem State.sendFlit_isl (s : State) (k : Nat) (f : Flit) : (s.sendFlit k f).isl = s.isl := rfl
@[simp] theorem State.sendFlit_ev (s : State) (k : Nat) (f : Flit) : (s.sendFlit k f).ev = s.ev := rfl
@[simp] theorem State.sendFlit_rt (s : State) (k : Nat) (f : Flit) : (s.sendFlit k f).rt = s.rt := rfl
@[simp] theorem State.sendFlit_ni (s : State) (k : Nat) (f : Flit) : (s.sendFlit k f).ni = s.ni := rfl
@[simp] theorem State.sendFlit_port (s : State) (k : Nat) (f : Flit) : (s.sendFlit k f).port = s.port := rfl
@[simp] theorem State.sendFlit_slice (s : State) (k : Nat) (f : Flit) : (s.sendFlit k f).slice = s.slice := rfl
@[simp] theorem State.sendFlit_lk (s : State) (k : Nat) (f : Flit) : (s.sendFlit k f).lk = s.lk := rfl
@[simp] theorem State.sendFlit_dom (s : State) (k : Nat) (f : Flit) : (s.sendFlit k f).dom = s.dom := rfl
@[simp] theorem State.sendFlit_sb (s : State) (k : Nat) (f : Flit) : (s.sendFlit k f).sb = s.sb := rfl
@[simp] theorem State.sendFlit_kt (s : State) (k : Nat) (f : Flit) : (s.sendFlit k f).kt = s.kt := rfl
@[simp] theorem State.sendFlit_st (s : State) (k : Nat) (f : Flit) : (s.sendFlit k f).st = s.st := rfl
@[simp] theorem State.sendFlit_cd (s : State) (k : Nat) (f : Flit) : (s.sendFlit k f).cd = s.cd := rfl
@[simp] theorem State.sendFlit_tr (s : State) (k : Nat) (f : Flit) : (s.sendFlit k f).tr = s.tr := rfl
@[simp] theorem State.sendFlit_sc (s : State) (k : Nat) (f : Flit) : (s.sendFlit k f).sc = s.sc := rfl
@[simp] theorem State.sendFlit_pot (s : State) (k : Nat) (f : Flit) : (s.sendFlit k f).pot = s.pot := rfl
@[simp] theorem State.sendFlit_pm (s : State) (k : Nat) (f : Flit) : (s.sendFlit k f).pm = s.pm := rfl
@[simp] theorem State.sendFlit_dbg (s : State) (k : Nat) (f : Flit) : (s.sendFlit k f).dbg = s.dbg := rfl
@[simp] theorem State.sendFlit_latch (s : State) (k : Nat) (f : Flit) : (s.sendFlit k f).latch = s.latch := rfl
@[simp] theorem State.sendFlit_dbgLatch (s : State) (k : Nat) (f : Flit) : (s.sendFlit k f).dbgLatch = s.dbgLatch := rfl
@[simp] theorem State.sendFlit_chk (s : State) (k : Nat) (f : Flit) : (s.sendFlit k f).chk = s.chk := rfl
@[simp] theorem State.sendFlit_seamDown (s : State) (k : Nat) (f : Flit) : (s.sendFlit k f).seamDown = s.seamDown := rfl
@[simp] theorem State.sendFlit_cwire (s : State) (k : Nat) (f : Flit) : (s.sendFlit k f).cwire = s.cwire := rfl
@[simp] theorem State.sendFlit_owed (s : State) (k : Nat) (f : Flit) : (s.sendFlit k f).owed = s.owed := rfl
@[simp] theorem State.sendFlit_used (s : State) (k : Nat) (f : Flit) : (s.sendFlit k f).used = s.used := rfl
@[simp] theorem State.sendFlit_allHeld (s : State) (k : Nat) (f : Flit) : (s.sendFlit k f).allHeld = s.allHeld := rfl
@[simp] theorem State.sendFlit_held (s : State) (k : Nat) (f : Flit) : (s.sendFlit k f).held = s.held := rfl
@[simp] theorem State.sendFlit_nbrBase (s : State) (k : Nat) (f : Flit) : (s.sendFlit k f).nbrBase = s.nbrBase := rfl
@[simp] theorem State.sendFlit_wakeQ (s : State) (k : Nat) (f : Flit) : (s.sendFlit k f).wakeQ = s.wakeQ := rfl

@[simp] theorem State.setUsed_pending (s : State) (k vn : Nat) (gt : Bool) (c : Nat) : (s.setUsed k vn gt c).pending = s.pending := rfl
@[simp] theorem State.setUsed_free (s : State) (k vn : Nat) (gt : Bool) (c : Nat) : (s.setUsed k vn gt c).free = s.free := rfl
@[simp] theorem State.setUsed_pins (s : State) (k vn : Nat) (gt : Bool) (c : Nat) : (s.setUsed k vn gt c).pins = s.pins := rfl
@[simp] theorem State.setUsed_wrapA (s : State) (k vn : Nat) (gt : Bool) (c : Nat) : (s.setUsed k vn gt c).wrapA = s.wrapA := rfl
@[simp] theorem State.setUsed_wrapB (s : State) (k vn : Nat) (gt : Bool) (c : Nat) : (s.setUsed k vn gt c).wrapB = s.wrapB := rfl
@[simp] theorem State.setUsed_uptime (s : State) (k vn : Nat) (gt : Bool) (c : Nat) : (s.setUsed k vn gt c).uptime = s.uptime := rfl
@[simp] theorem State.setUsed_regs (s : State) (k vn : Nat) (gt : Bool) (c : Nat) : (s.setUsed k vn gt c).regs = s.regs := rfl
@[simp] theorem State.setUsed_pend (s : State) (k vn : Nat) (gt : Bool) (c : Nat) : (s.setUsed k vn gt c).pend = s.pend := rfl
@[simp] theorem State.setUsed_tab (s : State) (k vn : Nat) (gt : Bool) (c : Nat) : (s.setUsed k vn gt c).tab = s.tab := rfl
@[simp] theorem State.setUsed_tabBad (s : State) (k vn : Nat) (gt : Bool) (c : Nat) : (s.setUsed k vn gt c).tabBad = s.tabBad := rfl
@[simp] theorem State.setUsed_time (s : State) (k vn : Nat) (gt : Bool) (c : Nat) : (s.setUsed k vn gt c).time = s.time := rfl
@[simp] theorem State.setUsed_isl (s : State) (k vn : Nat) (gt : Bool) (c : Nat) : (s.setUsed k vn gt c).isl = s.isl := rfl
@[simp] theorem State.setUsed_ev (s : State) (k vn : Nat) (gt : Bool) (c : Nat) : (s.setUsed k vn gt c).ev = s.ev := rfl
@[simp] theorem State.setUsed_rt (s : State) (k vn : Nat) (gt : Bool) (c : Nat) : (s.setUsed k vn gt c).rt = s.rt := rfl
@[simp] theorem State.setUsed_ni (s : State) (k vn : Nat) (gt : Bool) (c : Nat) : (s.setUsed k vn gt c).ni = s.ni := rfl
@[simp] theorem State.setUsed_port (s : State) (k vn : Nat) (gt : Bool) (c : Nat) : (s.setUsed k vn gt c).port = s.port := rfl
@[simp] theorem State.setUsed_slice (s : State) (k vn : Nat) (gt : Bool) (c : Nat) : (s.setUsed k vn gt c).slice = s.slice := rfl
@[simp] theorem State.setUsed_lk (s : State) (k vn : Nat) (gt : Bool) (c : Nat) : (s.setUsed k vn gt c).lk = s.lk := rfl
@[simp] theorem State.setUsed_dom (s : State) (k vn : Nat) (gt : Bool) (c : Nat) : (s.setUsed k vn gt c).dom = s.dom := rfl
@[simp] theorem State.setUsed_sb (s : State) (k vn : Nat) (gt : Bool) (c : Nat) : (s.setUsed k vn gt c).sb = s.sb := rfl
@[simp] theorem State.setUsed_kt (s : State) (k vn : Nat) (gt : Bool) (c : Nat) : (s.setUsed k vn gt c).kt = s.kt := rfl
@[simp] theorem State.setUsed_st (s : State) (k vn : Nat) (gt : Bool) (c : Nat) : (s.setUsed k vn gt c).st = s.st := rfl
@[simp] theorem State.setUsed_cd (s : State) (k vn : Nat) (gt : Bool) (c : Nat) : (s.setUsed k vn gt c).cd = s.cd := rfl
@[simp] theorem State.setUsed_tr (s : State) (k vn : Nat) (gt : Bool) (c : Nat) : (s.setUsed k vn gt c).tr = s.tr := rfl
@[simp] theorem State.setUsed_sc (s : State) (k vn : Nat) (gt : Bool) (c : Nat) : (s.setUsed k vn gt c).sc = s.sc := rfl
@[simp] theorem State.setUsed_pot (s : State) (k vn : Nat) (gt : Bool) (c : Nat) : (s.setUsed k vn gt c).pot = s.pot := rfl
@[simp] theorem State.setUsed_pm (s : State) (k vn : Nat) (gt : Bool) (c : Nat) : (s.setUsed k vn gt c).pm = s.pm := rfl
@[simp] theorem State.setUsed_dbg (s : State) (k vn : Nat) (gt : Bool) (c : Nat) : (s.setUsed k vn gt c).dbg = s.dbg := rfl
@[simp] theorem State.setUsed_latch (s : State) (k vn : Nat) (gt : Bool) (c : Nat) : (s.setUsed k vn gt c).latch = s.latch := rfl
@[simp] theorem State.setUsed_dbgLatch (s : State) (k vn : Nat) (gt : Bool) (c : Nat) : (s.setUsed k vn gt c).dbgLatch = s.dbgLatch := rfl
@[simp] theorem State.setUsed_chk (s : State) (k vn : Nat) (gt : Bool) (c : Nat) : (s.setUsed k vn gt c).chk = s.chk := rfl
@[simp] theorem State.setUsed_seamDown (s : State) (k vn : Nat) (gt : Bool) (c : Nat) : (s.setUsed k vn gt c).seamDown = s.seamDown := rfl
@[simp] theorem State.setUsed_wire (s : State) (k vn : Nat) (gt : Bool) (c : Nat) : (s.setUsed k vn gt c).wire = s.wire := rfl
@[simp] theorem State.setUsed_cwire (s : State) (k vn : Nat) (gt : Bool) (c : Nat) : (s.setUsed k vn gt c).cwire = s.cwire := rfl
@[simp] theorem State.setUsed_owed (s : State) (k vn : Nat) (gt : Bool) (c : Nat) : (s.setUsed k vn gt c).owed = s.owed := rfl
@[simp] theorem State.setUsed_allHeld (s : State) (k vn : Nat) (gt : Bool) (c : Nat) : (s.setUsed k vn gt c).allHeld = s.allHeld := rfl
@[simp] theorem State.setUsed_held (s : State) (k vn : Nat) (gt : Bool) (c : Nat) : (s.setUsed k vn gt c).held = s.held := rfl
@[simp] theorem State.setUsed_nbrBase (s : State) (k vn : Nat) (gt : Bool) (c : Nat) : (s.setUsed k vn gt c).nbrBase = s.nbrBase := rfl
@[simp] theorem State.setUsed_wakeQ (s : State) (k vn : Nat) (gt : Bool) (c : Nat) : (s.setUsed k vn gt c).wakeQ = s.wakeQ := rfl

@[simp] theorem State.useCredit_pending (s : State) (k vn : Nat) (gt : Bool) : (s.useCredit k vn gt).pending = s.pending := rfl
@[simp] theorem State.useCredit_free (s : State) (k vn : Nat) (gt : Bool) : (s.useCredit k vn gt).free = s.free := rfl
@[simp] theorem State.useCredit_pins (s : State) (k vn : Nat) (gt : Bool) : (s.useCredit k vn gt).pins = s.pins := rfl
@[simp] theorem State.useCredit_wrapA (s : State) (k vn : Nat) (gt : Bool) : (s.useCredit k vn gt).wrapA = s.wrapA := rfl
@[simp] theorem State.useCredit_wrapB (s : State) (k vn : Nat) (gt : Bool) : (s.useCredit k vn gt).wrapB = s.wrapB := rfl
@[simp] theorem State.useCredit_uptime (s : State) (k vn : Nat) (gt : Bool) : (s.useCredit k vn gt).uptime = s.uptime := rfl
@[simp] theorem State.useCredit_regs (s : State) (k vn : Nat) (gt : Bool) : (s.useCredit k vn gt).regs = s.regs := rfl
@[simp] theorem State.useCredit_pend (s : State) (k vn : Nat) (gt : Bool) : (s.useCredit k vn gt).pend = s.pend := rfl
@[simp] theorem State.useCredit_tab (s : State) (k vn : Nat) (gt : Bool) : (s.useCredit k vn gt).tab = s.tab := rfl
@[simp] theorem State.useCredit_tabBad (s : State) (k vn : Nat) (gt : Bool) : (s.useCredit k vn gt).tabBad = s.tabBad := rfl
@[simp] theorem State.useCredit_time (s : State) (k vn : Nat) (gt : Bool) : (s.useCredit k vn gt).time = s.time := rfl
@[simp] theorem State.useCredit_isl (s : State) (k vn : Nat) (gt : Bool) : (s.useCredit k vn gt).isl = s.isl := rfl
@[simp] theorem State.useCredit_ev (s : State) (k vn : Nat) (gt : Bool) : (s.useCredit k vn gt).ev = s.ev := rfl
@[simp] theorem State.useCredit_rt (s : State) (k vn : Nat) (gt : Bool) : (s.useCredit k vn gt).rt = s.rt := rfl
@[simp] theorem State.useCredit_ni (s : State) (k vn : Nat) (gt : Bool) : (s.useCredit k vn gt).ni = s.ni := rfl
@[simp] theorem State.useCredit_port (s : State) (k vn : Nat) (gt : Bool) : (s.useCredit k vn gt).port = s.port := rfl
@[simp] theorem State.useCredit_slice (s : State) (k vn : Nat) (gt : Bool) : (s.useCredit k vn gt).slice = s.slice := rfl
@[simp] theorem State.useCredit_lk (s : State) (k vn : Nat) (gt : Bool) : (s.useCredit k vn gt).lk = s.lk := rfl
@[simp] theorem State.useCredit_dom (s : State) (k vn : Nat) (gt : Bool) : (s.useCredit k vn gt).dom = s.dom := rfl
@[simp] theorem State.useCredit_sb (s : State) (k vn : Nat) (gt : Bool) : (s.useCredit k vn gt).sb = s.sb := rfl
@[simp] theorem State.useCredit_kt (s : State) (k vn : Nat) (gt : Bool) : (s.useCredit k vn gt).kt = s.kt := rfl
@[simp] theorem State.useCredit_st (s : State) (k vn : Nat) (gt : Bool) : (s.useCredit k vn gt).st = s.st := rfl
@[simp] theorem State.useCredit_cd (s : State) (k vn : Nat) (gt : Bool) : (s.useCredit k vn gt).cd = s.cd := rfl
@[simp] theorem State.useCredit_tr (s : State) (k vn : Nat) (gt : Bool) : (s.useCredit k vn gt).tr = s.tr := rfl
@[simp] theorem State.useCredit_sc (s : State) (k vn : Nat) (gt : Bool) : (s.useCredit k vn gt).sc = s.sc := rfl
@[simp] theorem State.useCredit_pot (s : State) (k vn : Nat) (gt : Bool) : (s.useCredit k vn gt).pot = s.pot := rfl
@[simp] theorem State.useCredit_pm (s : State) (k vn : Nat) (gt : Bool) : (s.useCredit k vn gt).pm = s.pm := rfl
@[simp] theorem State.useCredit_dbg (s : State) (k vn : Nat) (gt : Bool) : (s.useCredit k vn gt).dbg = s.dbg := rfl
@[simp] theorem State.useCredit_latch (s : State) (k vn : Nat) (gt : Bool) : (s.useCredit k vn gt).latch = s.latch := rfl
@[simp] theorem State.useCredit_dbgLatch (s : State) (k vn : Nat) (gt : Bool) : (s.useCredit k vn gt).dbgLatch = s.dbgLatch := rfl
@[simp] theorem State.useCredit_chk (s : State) (k vn : Nat) (gt : Bool) : (s.useCredit k vn gt).chk = s.chk := rfl
@[simp] theorem State.useCredit_seamDown (s : State) (k vn : Nat) (gt : Bool) : (s.useCredit k vn gt).seamDown = s.seamDown := rfl
@[simp] theorem State.useCredit_wire (s : State) (k vn : Nat) (gt : Bool) : (s.useCredit k vn gt).wire = s.wire := rfl
@[simp] theorem State.useCredit_cwire (s : State) (k vn : Nat) (gt : Bool) : (s.useCredit k vn gt).cwire = s.cwire := rfl
@[simp] theorem State.useCredit_owed (s : State) (k vn : Nat) (gt : Bool) : (s.useCredit k vn gt).owed = s.owed := rfl
@[simp] theorem State.useCredit_allHeld (s : State) (k vn : Nat) (gt : Bool) : (s.useCredit k vn gt).allHeld = s.allHeld := rfl
@[simp] theorem State.useCredit_held (s : State) (k vn : Nat) (gt : Bool) : (s.useCredit k vn gt).held = s.held := rfl
@[simp] theorem State.useCredit_nbrBase (s : State) (k vn : Nat) (gt : Bool) : (s.useCredit k vn gt).nbrBase = s.nbrBase := rfl
@[simp] theorem State.useCredit_wakeQ (s : State) (k vn : Nat) (gt : Bool) : (s.useCredit k vn gt).wakeQ = s.wakeQ := rfl

@[simp] theorem State.setOwed_pending (s : State) (k vn : Nat) (gt : Bool) (c : Nat) : (s.setOwed k vn gt c).pending = s.pending := rfl
@[simp] theorem State.setOwed_free (s : State) (k vn : Nat) (gt : Bool) (c : Nat) : (s.setOwed k vn gt c).free = s.free := rfl
@[simp] theorem State.setOwed_pins (s : State) (k vn : Nat) (gt : Bool) (c : Nat) : (s.setOwed k vn gt c).pins = s.pins := rfl
@[simp] theorem State.setOwed_wrapA (s : State) (k vn : Nat) (gt : Bool) (c : Nat) : (s.setOwed k vn gt c).wrapA = s.wrapA := rfl
@[simp] theorem State.setOwed_wrapB (s : State) (k vn : Nat) (gt : Bool) (c : Nat) : (s.setOwed k vn gt c).wrapB = s.wrapB := rfl
@[simp] theorem State.setOwed_uptime (s : State) (k vn : Nat) (gt : Bool) (c : Nat) : (s.setOwed k vn gt c).uptime = s.uptime := rfl
@[simp] theorem State.setOwed_regs (s : State) (k vn : Nat) (gt : Bool) (c : Nat) : (s.setOwed k vn gt c).regs = s.regs := rfl
@[simp] theorem State.setOwed_pend (s : State) (k vn : Nat) (gt : Bool) (c : Nat) : (s.setOwed k vn gt c).pend = s.pend := rfl
@[simp] theorem State.setOwed_tab (s : State) (k vn : Nat) (gt : Bool) (c : Nat) : (s.setOwed k vn gt c).tab = s.tab := rfl
@[simp] theorem State.setOwed_tabBad (s : State) (k vn : Nat) (gt : Bool) (c : Nat) : (s.setOwed k vn gt c).tabBad = s.tabBad := rfl
@[simp] theorem State.setOwed_time (s : State) (k vn : Nat) (gt : Bool) (c : Nat) : (s.setOwed k vn gt c).time = s.time := rfl
@[simp] theorem State.setOwed_isl (s : State) (k vn : Nat) (gt : Bool) (c : Nat) : (s.setOwed k vn gt c).isl = s.isl := rfl
@[simp] theorem State.setOwed_ev (s : State) (k vn : Nat) (gt : Bool) (c : Nat) : (s.setOwed k vn gt c).ev = s.ev := rfl
@[simp] theorem State.setOwed_rt (s : State) (k vn : Nat) (gt : Bool) (c : Nat) : (s.setOwed k vn gt c).rt = s.rt := rfl
@[simp] theorem State.setOwed_ni (s : State) (k vn : Nat) (gt : Bool) (c : Nat) : (s.setOwed k vn gt c).ni = s.ni := rfl
@[simp] theorem State.setOwed_port (s : State) (k vn : Nat) (gt : Bool) (c : Nat) : (s.setOwed k vn gt c).port = s.port := rfl
@[simp] theorem State.setOwed_slice (s : State) (k vn : Nat) (gt : Bool) (c : Nat) : (s.setOwed k vn gt c).slice = s.slice := rfl
@[simp] theorem State.setOwed_lk (s : State) (k vn : Nat) (gt : Bool) (c : Nat) : (s.setOwed k vn gt c).lk = s.lk := rfl
@[simp] theorem State.setOwed_dom (s : State) (k vn : Nat) (gt : Bool) (c : Nat) : (s.setOwed k vn gt c).dom = s.dom := rfl
@[simp] theorem State.setOwed_sb (s : State) (k vn : Nat) (gt : Bool) (c : Nat) : (s.setOwed k vn gt c).sb = s.sb := rfl
@[simp] theorem State.setOwed_kt (s : State) (k vn : Nat) (gt : Bool) (c : Nat) : (s.setOwed k vn gt c).kt = s.kt := rfl
@[simp] theorem State.setOwed_st (s : State) (k vn : Nat) (gt : Bool) (c : Nat) : (s.setOwed k vn gt c).st = s.st := rfl
@[simp] theorem State.setOwed_cd (s : State) (k vn : Nat) (gt : Bool) (c : Nat) : (s.setOwed k vn gt c).cd = s.cd := rfl
@[simp] theorem State.setOwed_tr (s : State) (k vn : Nat) (gt : Bool) (c : Nat) : (s.setOwed k vn gt c).tr = s.tr := rfl
@[simp] theorem State.setOwed_sc (s : State) (k vn : Nat) (gt : Bool) (c : Nat) : (s.setOwed k vn gt c).sc = s.sc := rfl
@[simp] theorem State.setOwed_pot (s : State) (k vn : Nat) (gt : Bool) (c : Nat) : (s.setOwed k vn gt c).pot = s.pot := rfl
@[simp] theorem State.setOwed_pm (s : State) (k vn : Nat) (gt : Bool) (c : Nat) : (s.setOwed k vn gt c).pm = s.pm := rfl
@[simp] theorem State.setOwed_dbg (s : State) (k vn : Nat) (gt : Bool) (c : Nat) : (s.setOwed k vn gt c).dbg = s.dbg := rfl
@[simp] theorem State.setOwed_latch (s : State) (k vn : Nat) (gt : Bool) (c : Nat) : (s.setOwed k vn gt c).latch = s.latch := rfl
@[simp] theorem State.setOwed_dbgLatch (s : State) (k vn : Nat) (gt : Bool) (c : Nat) : (s.setOwed k vn gt c).dbgLatch = s.dbgLatch := rfl
@[simp] theorem State.setOwed_chk (s : State) (k vn : Nat) (gt : Bool) (c : Nat) : (s.setOwed k vn gt c).chk = s.chk := rfl
@[simp] theorem State.setOwed_seamDown (s : State) (k vn : Nat) (gt : Bool) (c : Nat) : (s.setOwed k vn gt c).seamDown = s.seamDown := rfl
@[simp] theorem State.setOwed_wire (s : State) (k vn : Nat) (gt : Bool) (c : Nat) : (s.setOwed k vn gt c).wire = s.wire := rfl
@[simp] theorem State.setOwed_cwire (s : State) (k vn : Nat) (gt : Bool) (c : Nat) : (s.setOwed k vn gt c).cwire = s.cwire := rfl
@[simp] theorem State.setOwed_used (s : State) (k vn : Nat) (gt : Bool) (c : Nat) : (s.setOwed k vn gt c).used = s.used := rfl
@[simp] theorem State.setOwed_allHeld (s : State) (k vn : Nat) (gt : Bool) (c : Nat) : (s.setOwed k vn gt c).allHeld = s.allHeld := rfl
@[simp] theorem State.setOwed_held (s : State) (k vn : Nat) (gt : Bool) (c : Nat) : (s.setOwed k vn gt c).held = s.held := rfl
@[simp] theorem State.setOwed_nbrBase (s : State) (k vn : Nat) (gt : Bool) (c : Nat) : (s.setOwed k vn gt c).nbrBase = s.nbrBase := rfl
@[simp] theorem State.setOwed_wakeQ (s : State) (k vn : Nat) (gt : Bool) (c : Nat) : (s.setOwed k vn gt c).wakeQ = s.wakeQ := rfl

@[simp] theorem State.oweCredit_pending (s : State) (k vn : Nat) (gt : Bool) : (s.oweCredit k vn gt).pending = s.pending := rfl
@[simp] theorem State.oweCredit_free (s : State) (k vn : Nat) (gt : Bool) : (s.oweCredit k vn gt).free = s.free := rfl
@[simp] theorem State.oweCredit_pins (s : State) (k vn : Nat) (gt : Bool) : (s.oweCredit k vn gt).pins = s.pins := rfl
@[simp] theorem State.oweCredit_wrapA (s : State) (k vn : Nat) (gt : Bool) : (s.oweCredit k vn gt).wrapA = s.wrapA := rfl
@[simp] theorem State.oweCredit_wrapB (s : State) (k vn : Nat) (gt : Bool) : (s.oweCredit k vn gt).wrapB = s.wrapB := rfl
@[simp] theorem State.oweCredit_uptime (s : State) (k vn : Nat) (gt : Bool) : (s.oweCredit k vn gt).uptime = s.uptime := rfl
@[simp] theorem State.oweCredit_regs (s : State) (k vn : Nat) (gt : Bool) : (s.oweCredit k vn gt).regs = s.regs := rfl
@[simp] theorem State.oweCredit_pend (s : State) (k vn : Nat) (gt : Bool) : (s.oweCredit k vn gt).pend = s.pend := rfl
@[simp] theorem State.oweCredit_tab (s : State) (k vn : Nat) (gt : Bool) : (s.oweCredit k vn gt).tab = s.tab := rfl
@[simp] theorem State.oweCredit_tabBad (s : State) (k vn : Nat) (gt : Bool) : (s.oweCredit k vn gt).tabBad = s.tabBad := rfl
@[simp] theorem State.oweCredit_time (s : State) (k vn : Nat) (gt : Bool) : (s.oweCredit k vn gt).time = s.time := rfl
@[simp] theorem State.oweCredit_isl (s : State) (k vn : Nat) (gt : Bool) : (s.oweCredit k vn gt).isl = s.isl := rfl
@[simp] theorem State.oweCredit_ev (s : State) (k vn : Nat) (gt : Bool) : (s.oweCredit k vn gt).ev = s.ev := rfl
@[simp] theorem State.oweCredit_rt (s : State) (k vn : Nat) (gt : Bool) : (s.oweCredit k vn gt).rt = s.rt := rfl
@[simp] theorem State.oweCredit_ni (s : State) (k vn : Nat) (gt : Bool) : (s.oweCredit k vn gt).ni = s.ni := rfl
@[simp] theorem State.oweCredit_port (s : State) (k vn : Nat) (gt : Bool) : (s.oweCredit k vn gt).port = s.port := rfl
@[simp] theorem State.oweCredit_slice (s : State) (k vn : Nat) (gt : Bool) : (s.oweCredit k vn gt).slice = s.slice := rfl
@[simp] theorem State.oweCredit_lk (s : State) (k vn : Nat) (gt : Bool) : (s.oweCredit k vn gt).lk = s.lk := rfl
@[simp] theorem State.oweCredit_dom (s : State) (k vn : Nat) (gt : Bool) : (s.oweCredit k vn gt).dom = s.dom := rfl
@[simp] theorem State.oweCredit_sb (s : State) (k vn : Nat) (gt : Bool) : (s.oweCredit k vn gt).sb = s.sb := rfl
@[simp] theorem State.oweCredit_kt (s : State) (k vn : Nat) (gt : Bool) : (s.oweCredit k vn gt).kt = s.kt := rfl
@[simp] theorem State.oweCredit_st (s : State) (k vn : Nat) (gt : Bool) : (s.oweCredit k vn gt).st = s.st := rfl
@[simp] theorem State.oweCredit_cd (s : State) (k vn : Nat) (gt : Bool) : (s.oweCredit k vn gt).cd = s.cd := rfl
@[simp] theorem State.oweCredit_tr (s : State) (k vn : Nat) (gt : Bool) : (s.oweCredit k vn gt).tr = s.tr := rfl
@[simp] theorem State.oweCredit_sc (s : State) (k vn : Nat) (gt : Bool) : (s.oweCredit k vn gt).sc = s.sc := rfl
@[simp] theorem State.oweCredit_pot (s : State) (k vn : Nat) (gt : Bool) : (s.oweCredit k vn gt).pot = s.pot := rfl
@[simp] theorem State.oweCredit_pm (s : State) (k vn : Nat) (gt : Bool) : (s.oweCredit k vn gt).pm = s.pm := rfl
@[simp] theorem State.oweCredit_dbg (s : State) (k vn : Nat) (gt : Bool) : (s.oweCredit k vn gt).dbg = s.dbg := rfl
@[simp] theorem State.oweCredit_latch (s : State) (k vn : Nat) (gt : Bool) : (s.oweCredit k vn gt).latch = s.latch := rfl
@[simp] theorem State.oweCredit_dbgLatch (s : State) (k vn : Nat) (gt : Bool) : (s.oweCredit k vn gt).dbgLatch = s.dbgLatch := rfl
@[simp] theorem State.oweCredit_chk (s : State) (k vn : Nat) (gt : Bool) : (s.oweCredit k vn gt).chk = s.chk := rfl
@[simp] theorem State.oweCredit_seamDown (s : State) (k vn : Nat) (gt : Bool) : (s.oweCredit k vn gt).seamDown = s.seamDown := rfl
@[simp] theorem State.oweCredit_wire (s : State) (k vn : Nat) (gt : Bool) : (s.oweCredit k vn gt).wire = s.wire := rfl
@[simp] theorem State.oweCredit_cwire (s : State) (k vn : Nat) (gt : Bool) : (s.oweCredit k vn gt).cwire = s.cwire := rfl
@[simp] theorem State.oweCredit_used (s : State) (k vn : Nat) (gt : Bool) : (s.oweCredit k vn gt).used = s.used := rfl
@[simp] theorem State.oweCredit_allHeld (s : State) (k vn : Nat) (gt : Bool) : (s.oweCredit k vn gt).allHeld = s.allHeld := rfl
@[simp] theorem State.oweCredit_held (s : State) (k vn : Nat) (gt : Bool) : (s.oweCredit k vn gt).held = s.held := rfl
@[simp] theorem State.oweCredit_nbrBase (s : State) (k vn : Nat) (gt : Bool) : (s.oweCredit k vn gt).nbrBase = s.nbrBase := rfl
@[simp] theorem State.oweCredit_wakeQ (s : State) (k vn : Nat) (gt : Bool) : (s.oweCredit k vn gt).wakeQ = s.wakeQ := rfl

@[simp] theorem State.modTime_pending (s : State) (f : Keeper → Keeper) : (s.modTime f).pending = s.pending := rfl
@[simp] theorem State.modTime_free (s : State) (f : Keeper → Keeper) : (s.modTime f).free = s.free := rfl
@[simp] theorem State.modTime_pins (s : State) (f : Keeper → Keeper) : (s.modTime f).pins = s.pins := rfl
@[simp] theorem State.modTime_wrapA (s : State) (f : Keeper → Keeper) : (s.modTime f).wrapA = s.wrapA := rfl
@[simp] theorem State.modTime_wrapB (s : State) (f : Keeper → Keeper) : (s.modTime f).wrapB = s.wrapB := rfl
@[simp] theorem State.modTime_uptime (s : State) (f : Keeper → Keeper) : (s.modTime f).uptime = s.uptime := rfl
@[simp] theorem State.modTime_regs (s : State) (f : Keeper → Keeper) : (s.modTime f).regs = s.regs := rfl
@[simp] theorem State.modTime_pend (s : State) (f : Keeper → Keeper) : (s.modTime f).pend = s.pend := rfl
@[simp] theorem State.modTime_tab (s : State) (f : Keeper → Keeper) : (s.modTime f).tab = s.tab := rfl
@[simp] theorem State.modTime_tabBad (s : State) (f : Keeper → Keeper) : (s.modTime f).tabBad = s.tabBad := rfl
@[simp] theorem State.modTime_isl (s : State) (f : Keeper → Keeper) : (s.modTime f).isl = s.isl := rfl
@[simp] theorem State.modTime_ev (s : State) (f : Keeper → Keeper) : (s.modTime f).ev = s.ev := rfl
@[simp] theorem State.modTime_rt (s : State) (f : Keeper → Keeper) : (s.modTime f).rt = s.rt := rfl
@[simp] theorem State.modTime_ni (s : State) (f : Keeper → Keeper) : (s.modTime f).ni = s.ni := rfl
@[simp] theorem State.modTime_port (s : State) (f : Keeper → Keeper) : (s.modTime f).port = s.port := rfl
@[simp] theorem State.modTime_slice (s : State) (f : Keeper → Keeper) : (s.modTime f).slice = s.slice := rfl
@[simp] theorem State.modTime_lk (s : State) (f : Keeper → Keeper) : (s.modTime f).lk = s.lk := rfl
@[simp] theorem State.modTime_dom (s : State) (f : Keeper → Keeper) : (s.modTime f).dom = s.dom := rfl
@[simp] theorem State.modTime_sb (s : State) (f : Keeper → Keeper) : (s.modTime f).sb = s.sb := rfl
@[simp] theorem State.modTime_kt (s : State) (f : Keeper → Keeper) : (s.modTime f).kt = s.kt := rfl
@[simp] theorem State.modTime_st (s : State) (f : Keeper → Keeper) : (s.modTime f).st = s.st := rfl
@[simp] theorem State.modTime_cd (s : State) (f : Keeper → Keeper) : (s.modTime f).cd = s.cd := rfl
@[simp] theorem State.modTime_tr (s : State) (f : Keeper → Keeper) : (s.modTime f).tr = s.tr := rfl
@[simp] theorem State.modTime_sc (s : State) (f : Keeper → Keeper) : (s.modTime f).sc = s.sc := rfl
@[simp] theorem State.modTime_pot (s : State) (f : Keeper → Keeper) : (s.modTime f).pot = s.pot := rfl
@[simp] theorem State.modTime_pm (s : State) (f : Keeper → Keeper) : (s.modTime f).pm = s.pm := rfl
@[simp] theorem State.modTime_dbg (s : State) (f : Keeper → Keeper) : (s.modTime f).dbg = s.dbg := rfl
@[simp] theorem State.modTime_latch (s : State) (f : Keeper → Keeper) : (s.modTime f).latch = s.latch := rfl
@[simp] theorem State.modTime_dbgLatch (s : State) (f : Keeper → Keeper) : (s.modTime f).dbgLatch = s.dbgLatch := rfl
@[simp] theorem State.modTime_chk (s : State) (f : Keeper → Keeper) : (s.modTime f).chk = s.chk := rfl
@[simp] theorem State.modTime_seamDown (s : State) (f : Keeper → Keeper) : (s.modTime f).seamDown = s.seamDown := rfl
@[simp] theorem State.modTime_wire (s : State) (f : Keeper → Keeper) : (s.modTime f).wire = s.wire := rfl
@[simp] theorem State.modTime_cwire (s : State) (f : Keeper → Keeper) : (s.modTime f).cwire = s.cwire := rfl
@[simp] theorem State.modTime_owed (s : State) (f : Keeper → Keeper) : (s.modTime f).owed = s.owed := rfl
@[simp] theorem State.modTime_used (s : State) (f : Keeper → Keeper) : (s.modTime f).used = s.used := rfl
@[simp] theorem State.modTime_allHeld (s : State) (f : Keeper → Keeper) : (s.modTime f).allHeld = s.allHeld := rfl
@[simp] theorem State.modTime_held (s : State) (f : Keeper → Keeper) : (s.modTime f).held = s.held := rfl
@[simp] theorem State.modTime_nbrBase (s : State) (f : Keeper → Keeper) : (s.modTime f).nbrBase = s.nbrBase := rfl
@[simp] theorem State.modTime_wakeQ (s : State) (f : Keeper → Keeper) : (s.modTime f).wakeQ = s.wakeQ := rfl

@[simp] theorem State.modSb_pending (s : State) (f : Bridge → Bridge) : (s.modSb f).pending = s.pending := rfl
@[simp] theorem State.modSb_free (s : State) (f : Bridge → Bridge) : (s.modSb f).free = s.free := rfl
@[simp] theorem State.modSb_pins (s : State) (f : Bridge → Bridge) : (s.modSb f).pins = s.pins := rfl
@[simp] theorem State.modSb_wrapA (s : State) (f : Bridge → Bridge) : (s.modSb f).wrapA = s.wrapA := rfl
@[simp] theorem State.modSb_wrapB (s : State) (f : Bridge → Bridge) : (s.modSb f).wrapB = s.wrapB := rfl
@[simp] theorem State.modSb_uptime (s : State) (f : Bridge → Bridge) : (s.modSb f).uptime = s.uptime := rfl
@[simp] theorem State.modSb_regs (s : State) (f : Bridge → Bridge) : (s.modSb f).regs = s.regs := rfl
@[simp] theorem State.modSb_pend (s : State) (f : Bridge → Bridge) : (s.modSb f).pend = s.pend := rfl
@[simp] theorem State.modSb_tab (s : State) (f : Bridge → Bridge) : (s.modSb f).tab = s.tab := rfl
@[simp] theorem State.modSb_tabBad (s : State) (f : Bridge → Bridge) : (s.modSb f).tabBad = s.tabBad := rfl
@[simp] theorem State.modSb_time (s : State) (f : Bridge → Bridge) : (s.modSb f).time = s.time := rfl
@[simp] theorem State.modSb_isl (s : State) (f : Bridge → Bridge) : (s.modSb f).isl = s.isl := rfl
@[simp] theorem State.modSb_ev (s : State) (f : Bridge → Bridge) : (s.modSb f).ev = s.ev := rfl
@[simp] theorem State.modSb_rt (s : State) (f : Bridge → Bridge) : (s.modSb f).rt = s.rt := rfl
@[simp] theorem State.modSb_ni (s : State) (f : Bridge → Bridge) : (s.modSb f).ni = s.ni := rfl
@[simp] theorem State.modSb_port (s : State) (f : Bridge → Bridge) : (s.modSb f).port = s.port := rfl
@[simp] theorem State.modSb_slice (s : State) (f : Bridge → Bridge) : (s.modSb f).slice = s.slice := rfl
@[simp] theorem State.modSb_lk (s : State) (f : Bridge → Bridge) : (s.modSb f).lk = s.lk := rfl
@[simp] theorem State.modSb_dom (s : State) (f : Bridge → Bridge) : (s.modSb f).dom = s.dom := rfl
@[simp] theorem State.modSb_kt (s : State) (f : Bridge → Bridge) : (s.modSb f).kt = s.kt := rfl
@[simp] theorem State.modSb_st (s : State) (f : Bridge → Bridge) : (s.modSb f).st = s.st := rfl
@[simp] theorem State.modSb_cd (s : State) (f : Bridge → Bridge) : (s.modSb f).cd = s.cd := rfl
@[simp] theorem State.modSb_tr (s : State) (f : Bridge → Bridge) : (s.modSb f).tr = s.tr := rfl
@[simp] theorem State.modSb_sc (s : State) (f : Bridge → Bridge) : (s.modSb f).sc = s.sc := rfl
@[simp] theorem State.modSb_pot (s : State) (f : Bridge → Bridge) : (s.modSb f).pot = s.pot := rfl
@[simp] theorem State.modSb_pm (s : State) (f : Bridge → Bridge) : (s.modSb f).pm = s.pm := rfl
@[simp] theorem State.modSb_dbg (s : State) (f : Bridge → Bridge) : (s.modSb f).dbg = s.dbg := rfl
@[simp] theorem State.modSb_latch (s : State) (f : Bridge → Bridge) : (s.modSb f).latch = s.latch := rfl
@[simp] theorem State.modSb_dbgLatch (s : State) (f : Bridge → Bridge) : (s.modSb f).dbgLatch = s.dbgLatch := rfl
@[simp] theorem State.modSb_chk (s : State) (f : Bridge → Bridge) : (s.modSb f).chk = s.chk := rfl
@[simp] theorem State.modSb_seamDown (s : State) (f : Bridge → Bridge) : (s.modSb f).seamDown = s.seamDown := rfl
@[simp] theorem State.modSb_wire (s : State) (f : Bridge → Bridge) : (s.modSb f).wire = s.wire := rfl
@[simp] theorem State.modSb_cwire (s : State) (f : Bridge → Bridge) : (s.modSb f).cwire = s.cwire := rfl
@[simp] theorem State.modSb_owed (s : State) (f : Bridge → Bridge) : (s.modSb f).owed = s.owed := rfl
@[simp] theorem State.modSb_used (s : State) (f : Bridge → Bridge) : (s.modSb f).used = s.used := rfl
@[simp] theorem State.modSb_allHeld (s : State) (f : Bridge → Bridge) : (s.modSb f).allHeld = s.allHeld := rfl
@[simp] theorem State.modSb_held (s : State) (f : Bridge → Bridge) : (s.modSb f).held = s.held := rfl
@[simp] theorem State.modSb_nbrBase (s : State) (f : Bridge → Bridge) : (s.modSb f).nbrBase = s.nbrBase := rfl
@[simp] theorem State.modSb_wakeQ (s : State) (f : Bridge → Bridge) : (s.modSb f).wakeQ = s.wakeQ := rfl

@[simp] theorem State.modCd_pending (s : State) (f : Caddy → Caddy) : (s.modCd f).pending = s.pending := rfl
@[simp] theorem State.modCd_free (s : State) (f : Caddy → Caddy) : (s.modCd f).free = s.free := rfl
@[simp] theorem State.modCd_pins (s : State) (f : Caddy → Caddy) : (s.modCd f).pins = s.pins := rfl
@[simp] theorem State.modCd_wrapA (s : State) (f : Caddy → Caddy) : (s.modCd f).wrapA = s.wrapA := rfl
@[simp] theorem State.modCd_wrapB (s : State) (f : Caddy → Caddy) : (s.modCd f).wrapB = s.wrapB := rfl
@[simp] theorem State.modCd_uptime (s : State) (f : Caddy → Caddy) : (s.modCd f).uptime = s.uptime := rfl
@[simp] theorem State.modCd_regs (s : State) (f : Caddy → Caddy) : (s.modCd f).regs = s.regs := rfl
@[simp] theorem State.modCd_pend (s : State) (f : Caddy → Caddy) : (s.modCd f).pend = s.pend := rfl
@[simp] theorem State.modCd_tab (s : State) (f : Caddy → Caddy) : (s.modCd f).tab = s.tab := rfl
@[simp] theorem State.modCd_tabBad (s : State) (f : Caddy → Caddy) : (s.modCd f).tabBad = s.tabBad := rfl
@[simp] theorem State.modCd_time (s : State) (f : Caddy → Caddy) : (s.modCd f).time = s.time := rfl
@[simp] theorem State.modCd_isl (s : State) (f : Caddy → Caddy) : (s.modCd f).isl = s.isl := rfl
@[simp] theorem State.modCd_ev (s : State) (f : Caddy → Caddy) : (s.modCd f).ev = s.ev := rfl
@[simp] theorem State.modCd_rt (s : State) (f : Caddy → Caddy) : (s.modCd f).rt = s.rt := rfl
@[simp] theorem State.modCd_ni (s : State) (f : Caddy → Caddy) : (s.modCd f).ni = s.ni := rfl
@[simp] theorem State.modCd_port (s : State) (f : Caddy → Caddy) : (s.modCd f).port = s.port := rfl
@[simp] theorem State.modCd_slice (s : State) (f : Caddy → Caddy) : (s.modCd f).slice = s.slice := rfl
@[simp] theorem State.modCd_lk (s : State) (f : Caddy → Caddy) : (s.modCd f).lk = s.lk := rfl
@[simp] theorem State.modCd_dom (s : State) (f : Caddy → Caddy) : (s.modCd f).dom = s.dom := rfl
@[simp] theorem State.modCd_sb (s : State) (f : Caddy → Caddy) : (s.modCd f).sb = s.sb := rfl
@[simp] theorem State.modCd_kt (s : State) (f : Caddy → Caddy) : (s.modCd f).kt = s.kt := rfl
@[simp] theorem State.modCd_st (s : State) (f : Caddy → Caddy) : (s.modCd f).st = s.st := rfl
@[simp] theorem State.modCd_tr (s : State) (f : Caddy → Caddy) : (s.modCd f).tr = s.tr := rfl
@[simp] theorem State.modCd_sc (s : State) (f : Caddy → Caddy) : (s.modCd f).sc = s.sc := rfl
@[simp] theorem State.modCd_pot (s : State) (f : Caddy → Caddy) : (s.modCd f).pot = s.pot := rfl
@[simp] theorem State.modCd_pm (s : State) (f : Caddy → Caddy) : (s.modCd f).pm = s.pm := rfl
@[simp] theorem State.modCd_dbg (s : State) (f : Caddy → Caddy) : (s.modCd f).dbg = s.dbg := rfl
@[simp] theorem State.modCd_latch (s : State) (f : Caddy → Caddy) : (s.modCd f).latch = s.latch := rfl
@[simp] theorem State.modCd_dbgLatch (s : State) (f : Caddy → Caddy) : (s.modCd f).dbgLatch = s.dbgLatch := rfl
@[simp] theorem State.modCd_chk (s : State) (f : Caddy → Caddy) : (s.modCd f).chk = s.chk := rfl
@[simp] theorem State.modCd_seamDown (s : State) (f : Caddy → Caddy) : (s.modCd f).seamDown = s.seamDown := rfl
@[simp] theorem State.modCd_wire (s : State) (f : Caddy → Caddy) : (s.modCd f).wire = s.wire := rfl
@[simp] theorem State.modCd_cwire (s : State) (f : Caddy → Caddy) : (s.modCd f).cwire = s.cwire := rfl
@[simp] theorem State.modCd_owed (s : State) (f : Caddy → Caddy) : (s.modCd f).owed = s.owed := rfl
@[simp] theorem State.modCd_used (s : State) (f : Caddy → Caddy) : (s.modCd f).used = s.used := rfl
@[simp] theorem State.modCd_allHeld (s : State) (f : Caddy → Caddy) : (s.modCd f).allHeld = s.allHeld := rfl
@[simp] theorem State.modCd_held (s : State) (f : Caddy → Caddy) : (s.modCd f).held = s.held := rfl
@[simp] theorem State.modCd_nbrBase (s : State) (f : Caddy → Caddy) : (s.modCd f).nbrBase = s.nbrBase := rfl
@[simp] theorem State.modCd_wakeQ (s : State) (f : Caddy → Caddy) : (s.modCd f).wakeQ = s.wakeQ := rfl

@[simp] theorem State.modKt_pending (s : State) (f : Kettle → Kettle) : (s.modKt f).pending = s.pending := rfl
@[simp] theorem State.modKt_free (s : State) (f : Kettle → Kettle) : (s.modKt f).free = s.free := rfl
@[simp] theorem State.modKt_pins (s : State) (f : Kettle → Kettle) : (s.modKt f).pins = s.pins := rfl
@[simp] theorem State.modKt_wrapA (s : State) (f : Kettle → Kettle) : (s.modKt f).wrapA = s.wrapA := rfl
@[simp] theorem State.modKt_wrapB (s : State) (f : Kettle → Kettle) : (s.modKt f).wrapB = s.wrapB := rfl
@[simp] theorem State.modKt_uptime (s : State) (f : Kettle → Kettle) : (s.modKt f).uptime = s.uptime := rfl
@[simp] theorem State.modKt_regs (s : State) (f : Kettle → Kettle) : (s.modKt f).regs = s.regs := rfl
@[simp] theorem State.modKt_pend (s : State) (f : Kettle → Kettle) : (s.modKt f).pend = s.pend := rfl
@[simp] theorem State.modKt_tab (s : State) (f : Kettle → Kettle) : (s.modKt f).tab = s.tab := rfl
@[simp] theorem State.modKt_tabBad (s : State) (f : Kettle → Kettle) : (s.modKt f).tabBad = s.tabBad := rfl
@[simp] theorem State.modKt_time (s : State) (f : Kettle → Kettle) : (s.modKt f).time = s.time := rfl
@[simp] theorem State.modKt_isl (s : State) (f : Kettle → Kettle) : (s.modKt f).isl = s.isl := rfl
@[simp] theorem State.modKt_ev (s : State) (f : Kettle → Kettle) : (s.modKt f).ev = s.ev := rfl
@[simp] theorem State.modKt_rt (s : State) (f : Kettle → Kettle) : (s.modKt f).rt = s.rt := rfl
@[simp] theorem State.modKt_ni (s : State) (f : Kettle → Kettle) : (s.modKt f).ni = s.ni := rfl
@[simp] theorem State.modKt_port (s : State) (f : Kettle → Kettle) : (s.modKt f).port = s.port := rfl
@[simp] theorem State.modKt_slice (s : State) (f : Kettle → Kettle) : (s.modKt f).slice = s.slice := rfl
@[simp] theorem State.modKt_lk (s : State) (f : Kettle → Kettle) : (s.modKt f).lk = s.lk := rfl
@[simp] theorem State.modKt_dom (s : State) (f : Kettle → Kettle) : (s.modKt f).dom = s.dom := rfl
@[simp] theorem State.modKt_sb (s : State) (f : Kettle → Kettle) : (s.modKt f).sb = s.sb := rfl
@[simp] theorem State.modKt_st (s : State) (f : Kettle → Kettle) : (s.modKt f).st = s.st := rfl
@[simp] theorem State.modKt_cd (s : State) (f : Kettle → Kettle) : (s.modKt f).cd = s.cd := rfl
@[simp] theorem State.modKt_tr (s : State) (f : Kettle → Kettle) : (s.modKt f).tr = s.tr := rfl
@[simp] theorem State.modKt_sc (s : State) (f : Kettle → Kettle) : (s.modKt f).sc = s.sc := rfl
@[simp] theorem State.modKt_pot (s : State) (f : Kettle → Kettle) : (s.modKt f).pot = s.pot := rfl
@[simp] theorem State.modKt_pm (s : State) (f : Kettle → Kettle) : (s.modKt f).pm = s.pm := rfl
@[simp] theorem State.modKt_dbg (s : State) (f : Kettle → Kettle) : (s.modKt f).dbg = s.dbg := rfl
@[simp] theorem State.modKt_latch (s : State) (f : Kettle → Kettle) : (s.modKt f).latch = s.latch := rfl
@[simp] theorem State.modKt_dbgLatch (s : State) (f : Kettle → Kettle) : (s.modKt f).dbgLatch = s.dbgLatch := rfl
@[simp] theorem State.modKt_chk (s : State) (f : Kettle → Kettle) : (s.modKt f).chk = s.chk := rfl
@[simp] theorem State.modKt_seamDown (s : State) (f : Kettle → Kettle) : (s.modKt f).seamDown = s.seamDown := rfl
@[simp] theorem State.modKt_wire (s : State) (f : Kettle → Kettle) : (s.modKt f).wire = s.wire := rfl
@[simp] theorem State.modKt_cwire (s : State) (f : Kettle → Kettle) : (s.modKt f).cwire = s.cwire := rfl
@[simp] theorem State.modKt_owed (s : State) (f : Kettle → Kettle) : (s.modKt f).owed = s.owed := rfl
@[simp] theorem State.modKt_used (s : State) (f : Kettle → Kettle) : (s.modKt f).used = s.used := rfl
@[simp] theorem State.modKt_allHeld (s : State) (f : Kettle → Kettle) : (s.modKt f).allHeld = s.allHeld := rfl
@[simp] theorem State.modKt_held (s : State) (f : Kettle → Kettle) : (s.modKt f).held = s.held := rfl
@[simp] theorem State.modKt_nbrBase (s : State) (f : Kettle → Kettle) : (s.modKt f).nbrBase = s.nbrBase := rfl
@[simp] theorem State.modKt_wakeQ (s : State) (f : Kettle → Kettle) : (s.modKt f).wakeQ = s.wakeQ := rfl

@[simp] theorem State.modSt_pending (s : State) (f : Strainer → Strainer) : (s.modSt f).pending = s.pending := rfl
@[simp] theorem State.modSt_free (s : State) (f : Strainer → Strainer) : (s.modSt f).free = s.free := rfl
@[simp] theorem State.modSt_pins (s : State) (f : Strainer → Strainer) : (s.modSt f).pins = s.pins := rfl
@[simp] theorem State.modSt_wrapA (s : State) (f : Strainer → Strainer) : (s.modSt f).wrapA = s.wrapA := rfl
@[simp] theorem State.modSt_wrapB (s : State) (f : Strainer → Strainer) : (s.modSt f).wrapB = s.wrapB := rfl
@[simp] theorem State.modSt_uptime (s : State) (f : Strainer → Strainer) : (s.modSt f).uptime = s.uptime := rfl
@[simp] theorem State.modSt_regs (s : State) (f : Strainer → Strainer) : (s.modSt f).regs = s.regs := rfl
@[simp] theorem State.modSt_pend (s : State) (f : Strainer → Strainer) : (s.modSt f).pend = s.pend := rfl
@[simp] theorem State.modSt_tab (s : State) (f : Strainer → Strainer) : (s.modSt f).tab = s.tab := rfl
@[simp] theorem State.modSt_tabBad (s : State) (f : Strainer → Strainer) : (s.modSt f).tabBad = s.tabBad := rfl
@[simp] theorem State.modSt_time (s : State) (f : Strainer → Strainer) : (s.modSt f).time = s.time := rfl
@[simp] theorem State.modSt_isl (s : State) (f : Strainer → Strainer) : (s.modSt f).isl = s.isl := rfl
@[simp] theorem State.modSt_ev (s : State) (f : Strainer → Strainer) : (s.modSt f).ev = s.ev := rfl
@[simp] theorem State.modSt_rt (s : State) (f : Strainer → Strainer) : (s.modSt f).rt = s.rt := rfl
@[simp] theorem State.modSt_ni (s : State) (f : Strainer → Strainer) : (s.modSt f).ni = s.ni := rfl
@[simp] theorem State.modSt_port (s : State) (f : Strainer → Strainer) : (s.modSt f).port = s.port := rfl
@[simp] theorem State.modSt_slice (s : State) (f : Strainer → Strainer) : (s.modSt f).slice = s.slice := rfl
@[simp] theorem State.modSt_lk (s : State) (f : Strainer → Strainer) : (s.modSt f).lk = s.lk := rfl
@[simp] theorem State.modSt_dom (s : State) (f : Strainer → Strainer) : (s.modSt f).dom = s.dom := rfl
@[simp] theorem State.modSt_sb (s : State) (f : Strainer → Strainer) : (s.modSt f).sb = s.sb := rfl
@[simp] theorem State.modSt_kt (s : State) (f : Strainer → Strainer) : (s.modSt f).kt = s.kt := rfl
@[simp] theorem State.modSt_cd (s : State) (f : Strainer → Strainer) : (s.modSt f).cd = s.cd := rfl
@[simp] theorem State.modSt_tr (s : State) (f : Strainer → Strainer) : (s.modSt f).tr = s.tr := rfl
@[simp] theorem State.modSt_sc (s : State) (f : Strainer → Strainer) : (s.modSt f).sc = s.sc := rfl
@[simp] theorem State.modSt_pot (s : State) (f : Strainer → Strainer) : (s.modSt f).pot = s.pot := rfl
@[simp] theorem State.modSt_pm (s : State) (f : Strainer → Strainer) : (s.modSt f).pm = s.pm := rfl
@[simp] theorem State.modSt_dbg (s : State) (f : Strainer → Strainer) : (s.modSt f).dbg = s.dbg := rfl
@[simp] theorem State.modSt_latch (s : State) (f : Strainer → Strainer) : (s.modSt f).latch = s.latch := rfl
@[simp] theorem State.modSt_dbgLatch (s : State) (f : Strainer → Strainer) : (s.modSt f).dbgLatch = s.dbgLatch := rfl
@[simp] theorem State.modSt_chk (s : State) (f : Strainer → Strainer) : (s.modSt f).chk = s.chk := rfl
@[simp] theorem State.modSt_seamDown (s : State) (f : Strainer → Strainer) : (s.modSt f).seamDown = s.seamDown := rfl
@[simp] theorem State.modSt_wire (s : State) (f : Strainer → Strainer) : (s.modSt f).wire = s.wire := rfl
@[simp] theorem State.modSt_cwire (s : State) (f : Strainer → Strainer) : (s.modSt f).cwire = s.cwire := rfl
@[simp] theorem State.modSt_owed (s : State) (f : Strainer → Strainer) : (s.modSt f).owed = s.owed := rfl
@[simp] theorem State.modSt_used (s : State) (f : Strainer → Strainer) : (s.modSt f).used = s.used := rfl
@[simp] theorem State.modSt_allHeld (s : State) (f : Strainer → Strainer) : (s.modSt f).allHeld = s.allHeld := rfl
@[simp] theorem State.modSt_held (s : State) (f : Strainer → Strainer) : (s.modSt f).held = s.held := rfl
@[simp] theorem State.modSt_nbrBase (s : State) (f : Strainer → Strainer) : (s.modSt f).nbrBase = s.nbrBase := rfl
@[simp] theorem State.modSt_wakeQ (s : State) (f : Strainer → Strainer) : (s.modSt f).wakeQ = s.wakeQ := rfl

@[simp] theorem State.modSc_pending (s : State) (f : Saucer → Saucer) : (s.modSc f).pending = s.pending := rfl
@[simp] theorem State.modSc_free (s : State) (f : Saucer → Saucer) : (s.modSc f).free = s.free := rfl
@[simp] theorem State.modSc_pins (s : State) (f : Saucer → Saucer) : (s.modSc f).pins = s.pins := rfl
@[simp] theorem State.modSc_wrapA (s : State) (f : Saucer → Saucer) : (s.modSc f).wrapA = s.wrapA := rfl
@[simp] theorem State.modSc_wrapB (s : State) (f : Saucer → Saucer) : (s.modSc f).wrapB = s.wrapB := rfl
@[simp] theorem State.modSc_uptime (s : State) (f : Saucer → Saucer) : (s.modSc f).uptime = s.uptime := rfl
@[simp] theorem State.modSc_regs (s : State) (f : Saucer → Saucer) : (s.modSc f).regs = s.regs := rfl
@[simp] theorem State.modSc_pend (s : State) (f : Saucer → Saucer) : (s.modSc f).pend = s.pend := rfl
@[simp] theorem State.modSc_tab (s : State) (f : Saucer → Saucer) : (s.modSc f).tab = s.tab := rfl
@[simp] theorem State.modSc_tabBad (s : State) (f : Saucer → Saucer) : (s.modSc f).tabBad = s.tabBad := rfl
@[simp] theorem State.modSc_time (s : State) (f : Saucer → Saucer) : (s.modSc f).time = s.time := rfl
@[simp] theorem State.modSc_isl (s : State) (f : Saucer → Saucer) : (s.modSc f).isl = s.isl := rfl
@[simp] theorem State.modSc_ev (s : State) (f : Saucer → Saucer) : (s.modSc f).ev = s.ev := rfl
@[simp] theorem State.modSc_rt (s : State) (f : Saucer → Saucer) : (s.modSc f).rt = s.rt := rfl
@[simp] theorem State.modSc_ni (s : State) (f : Saucer → Saucer) : (s.modSc f).ni = s.ni := rfl
@[simp] theorem State.modSc_port (s : State) (f : Saucer → Saucer) : (s.modSc f).port = s.port := rfl
@[simp] theorem State.modSc_slice (s : State) (f : Saucer → Saucer) : (s.modSc f).slice = s.slice := rfl
@[simp] theorem State.modSc_lk (s : State) (f : Saucer → Saucer) : (s.modSc f).lk = s.lk := rfl
@[simp] theorem State.modSc_dom (s : State) (f : Saucer → Saucer) : (s.modSc f).dom = s.dom := rfl
@[simp] theorem State.modSc_sb (s : State) (f : Saucer → Saucer) : (s.modSc f).sb = s.sb := rfl
@[simp] theorem State.modSc_kt (s : State) (f : Saucer → Saucer) : (s.modSc f).kt = s.kt := rfl
@[simp] theorem State.modSc_st (s : State) (f : Saucer → Saucer) : (s.modSc f).st = s.st := rfl
@[simp] theorem State.modSc_cd (s : State) (f : Saucer → Saucer) : (s.modSc f).cd = s.cd := rfl
@[simp] theorem State.modSc_tr (s : State) (f : Saucer → Saucer) : (s.modSc f).tr = s.tr := rfl
@[simp] theorem State.modSc_pot (s : State) (f : Saucer → Saucer) : (s.modSc f).pot = s.pot := rfl
@[simp] theorem State.modSc_pm (s : State) (f : Saucer → Saucer) : (s.modSc f).pm = s.pm := rfl
@[simp] theorem State.modSc_dbg (s : State) (f : Saucer → Saucer) : (s.modSc f).dbg = s.dbg := rfl
@[simp] theorem State.modSc_latch (s : State) (f : Saucer → Saucer) : (s.modSc f).latch = s.latch := rfl
@[simp] theorem State.modSc_dbgLatch (s : State) (f : Saucer → Saucer) : (s.modSc f).dbgLatch = s.dbgLatch := rfl
@[simp] theorem State.modSc_chk (s : State) (f : Saucer → Saucer) : (s.modSc f).chk = s.chk := rfl
@[simp] theorem State.modSc_seamDown (s : State) (f : Saucer → Saucer) : (s.modSc f).seamDown = s.seamDown := rfl
@[simp] theorem State.modSc_wire (s : State) (f : Saucer → Saucer) : (s.modSc f).wire = s.wire := rfl
@[simp] theorem State.modSc_cwire (s : State) (f : Saucer → Saucer) : (s.modSc f).cwire = s.cwire := rfl
@[simp] theorem State.modSc_owed (s : State) (f : Saucer → Saucer) : (s.modSc f).owed = s.owed := rfl
@[simp] theorem State.modSc_used (s : State) (f : Saucer → Saucer) : (s.modSc f).used = s.used := rfl
@[simp] theorem State.modSc_allHeld (s : State) (f : Saucer → Saucer) : (s.modSc f).allHeld = s.allHeld := rfl
@[simp] theorem State.modSc_held (s : State) (f : Saucer → Saucer) : (s.modSc f).held = s.held := rfl
@[simp] theorem State.modSc_nbrBase (s : State) (f : Saucer → Saucer) : (s.modSc f).nbrBase = s.nbrBase := rfl
@[simp] theorem State.modSc_wakeQ (s : State) (f : Saucer → Saucer) : (s.modSc f).wakeQ = s.wakeQ := rfl

@[simp] theorem State.modPot_pending (s : State) (f : Pot → Pot) : (s.modPot f).pending = s.pending := rfl
@[simp] theorem State.modPot_free (s : State) (f : Pot → Pot) : (s.modPot f).free = s.free := rfl
@[simp] theorem State.modPot_pins (s : State) (f : Pot → Pot) : (s.modPot f).pins = s.pins := rfl
@[simp] theorem State.modPot_wrapA (s : State) (f : Pot → Pot) : (s.modPot f).wrapA = s.wrapA := rfl
@[simp] theorem State.modPot_wrapB (s : State) (f : Pot → Pot) : (s.modPot f).wrapB = s.wrapB := rfl
@[simp] theorem State.modPot_uptime (s : State) (f : Pot → Pot) : (s.modPot f).uptime = s.uptime := rfl
@[simp] theorem State.modPot_regs (s : State) (f : Pot → Pot) : (s.modPot f).regs = s.regs := rfl
@[simp] theorem State.modPot_pend (s : State) (f : Pot → Pot) : (s.modPot f).pend = s.pend := rfl
@[simp] theorem State.modPot_tab (s : State) (f : Pot → Pot) : (s.modPot f).tab = s.tab := rfl
@[simp] theorem State.modPot_tabBad (s : State) (f : Pot → Pot) : (s.modPot f).tabBad = s.tabBad := rfl
@[simp] theorem State.modPot_time (s : State) (f : Pot → Pot) : (s.modPot f).time = s.time := rfl
@[simp] theorem State.modPot_isl (s : State) (f : Pot → Pot) : (s.modPot f).isl = s.isl := rfl
@[simp] theorem State.modPot_ev (s : State) (f : Pot → Pot) : (s.modPot f).ev = s.ev := rfl
@[simp] theorem State.modPot_rt (s : State) (f : Pot → Pot) : (s.modPot f).rt = s.rt := rfl
@[simp] theorem State.modPot_ni (s : State) (f : Pot → Pot) : (s.modPot f).ni = s.ni := rfl
@[simp] theorem State.modPot_port (s : State) (f : Pot → Pot) : (s.modPot f).port = s.port := rfl
@[simp] theorem State.modPot_slice (s : State) (f : Pot → Pot) : (s.modPot f).slice = s.slice := rfl
@[simp] theorem State.modPot_lk (s : State) (f : Pot → Pot) : (s.modPot f).lk = s.lk := rfl
@[simp] theorem State.modPot_dom (s : State) (f : Pot → Pot) : (s.modPot f).dom = s.dom := rfl
@[simp] theorem State.modPot_sb (s : State) (f : Pot → Pot) : (s.modPot f).sb = s.sb := rfl
@[simp] theorem State.modPot_kt (s : State) (f : Pot → Pot) : (s.modPot f).kt = s.kt := rfl
@[simp] theorem State.modPot_st (s : State) (f : Pot → Pot) : (s.modPot f).st = s.st := rfl
@[simp] theorem State.modPot_cd (s : State) (f : Pot → Pot) : (s.modPot f).cd = s.cd := rfl
@[simp] theorem State.modPot_tr (s : State) (f : Pot → Pot) : (s.modPot f).tr = s.tr := rfl
@[simp] theorem State.modPot_sc (s : State) (f : Pot → Pot) : (s.modPot f).sc = s.sc := rfl
@[simp] theorem State.modPot_pm (s : State) (f : Pot → Pot) : (s.modPot f).pm = s.pm := rfl
@[simp] theorem State.modPot_dbg (s : State) (f : Pot → Pot) : (s.modPot f).dbg = s.dbg := rfl
@[simp] theorem State.modPot_latch (s : State) (f : Pot → Pot) : (s.modPot f).latch = s.latch := rfl
@[simp] theorem State.modPot_dbgLatch (s : State) (f : Pot → Pot) : (s.modPot f).dbgLatch = s.dbgLatch := rfl
@[simp] theorem State.modPot_chk (s : State) (f : Pot → Pot) : (s.modPot f).chk = s.chk := rfl
@[simp] theorem State.modPot_seamDown (s : State) (f : Pot → Pot) : (s.modPot f).seamDown = s.seamDown := rfl
@[simp] theorem State.modPot_wire (s : State) (f : Pot → Pot) : (s.modPot f).wire = s.wire := rfl
@[simp] theorem State.modPot_cwire (s : State) (f : Pot → Pot) : (s.modPot f).cwire = s.cwire := rfl
@[simp] theorem State.modPot_owed (s : State) (f : Pot → Pot) : (s.modPot f).owed = s.owed := rfl
@[simp] theorem State.modPot_used (s : State) (f : Pot → Pot) : (s.modPot f).used = s.used := rfl
@[simp] theorem State.modPot_allHeld (s : State) (f : Pot → Pot) : (s.modPot f).allHeld = s.allHeld := rfl
@[simp] theorem State.modPot_held (s : State) (f : Pot → Pot) : (s.modPot f).held = s.held := rfl
@[simp] theorem State.modPot_nbrBase (s : State) (f : Pot → Pot) : (s.modPot f).nbrBase = s.nbrBase := rfl
@[simp] theorem State.modPot_wakeQ (s : State) (f : Pot → Pot) : (s.modPot f).wakeQ = s.wakeQ := rfl

@[simp] theorem State.modPm_pending (s : State) (f : Collector → Collector) : (s.modPm f).pending = s.pending := rfl
@[simp] theorem State.modPm_free (s : State) (f : Collector → Collector) : (s.modPm f).free = s.free := rfl
@[simp] theorem State.modPm_pins (s : State) (f : Collector → Collector) : (s.modPm f).pins = s.pins := rfl
@[simp] theorem State.modPm_wrapA (s : State) (f : Collector → Collector) : (s.modPm f).wrapA = s.wrapA := rfl
@[simp] theorem State.modPm_wrapB (s : State) (f : Collector → Collector) : (s.modPm f).wrapB = s.wrapB := rfl
@[simp] theorem State.modPm_uptime (s : State) (f : Collector → Collector) : (s.modPm f).uptime = s.uptime := rfl
@[simp] theorem State.modPm_regs (s : State) (f : Collector → Collector) : (s.modPm f).regs = s.regs := rfl
@[simp] theorem State.modPm_pend (s : State) (f : Collector → Collector) : (s.modPm f).pend = s.pend := rfl
@[simp] theorem State.modPm_tab (s : State) (f : Collector → Collector) : (s.modPm f).tab = s.tab := rfl
@[simp] theorem State.modPm_tabBad (s : State) (f : Collector → Collector) : (s.modPm f).tabBad = s.tabBad := rfl
@[simp] theorem State.modPm_time (s : State) (f : Collector → Collector) : (s.modPm f).time = s.time := rfl
@[simp] theorem State.modPm_isl (s : State) (f : Collector → Collector) : (s.modPm f).isl = s.isl := rfl
@[simp] theorem State.modPm_ev (s : State) (f : Collector → Collector) : (s.modPm f).ev = s.ev := rfl
@[simp] theorem State.modPm_rt (s : State) (f : Collector → Collector) : (s.modPm f).rt = s.rt := rfl
@[simp] theorem State.modPm_ni (s : State) (f : Collector → Collector) : (s.modPm f).ni = s.ni := rfl
@[simp] theorem State.modPm_port (s : State) (f : Collector → Collector) : (s.modPm f).port = s.port := rfl
@[simp] theorem State.modPm_slice (s : State) (f : Collector → Collector) : (s.modPm f).slice = s.slice := rfl
@[simp] theorem State.modPm_lk (s : State) (f : Collector → Collector) : (s.modPm f).lk = s.lk := rfl
@[simp] theorem State.modPm_dom (s : State) (f : Collector → Collector) : (s.modPm f).dom = s.dom := rfl
@[simp] theorem State.modPm_sb (s : State) (f : Collector → Collector) : (s.modPm f).sb = s.sb := rfl
@[simp] theorem State.modPm_kt (s : State) (f : Collector → Collector) : (s.modPm f).kt = s.kt := rfl
@[simp] theorem State.modPm_st (s : State) (f : Collector → Collector) : (s.modPm f).st = s.st := rfl
@[simp] theorem State.modPm_cd (s : State) (f : Collector → Collector) : (s.modPm f).cd = s.cd := rfl
@[simp] theorem State.modPm_tr (s : State) (f : Collector → Collector) : (s.modPm f).tr = s.tr := rfl
@[simp] theorem State.modPm_sc (s : State) (f : Collector → Collector) : (s.modPm f).sc = s.sc := rfl
@[simp] theorem State.modPm_pot (s : State) (f : Collector → Collector) : (s.modPm f).pot = s.pot := rfl
@[simp] theorem State.modPm_dbg (s : State) (f : Collector → Collector) : (s.modPm f).dbg = s.dbg := rfl
@[simp] theorem State.modPm_latch (s : State) (f : Collector → Collector) : (s.modPm f).latch = s.latch := rfl
@[simp] theorem State.modPm_dbgLatch (s : State) (f : Collector → Collector) : (s.modPm f).dbgLatch = s.dbgLatch := rfl
@[simp] theorem State.modPm_chk (s : State) (f : Collector → Collector) : (s.modPm f).chk = s.chk := rfl
@[simp] theorem State.modPm_seamDown (s : State) (f : Collector → Collector) : (s.modPm f).seamDown = s.seamDown := rfl
@[simp] theorem State.modPm_wire (s : State) (f : Collector → Collector) : (s.modPm f).wire = s.wire := rfl
@[simp] theorem State.modPm_cwire (s : State) (f : Collector → Collector) : (s.modPm f).cwire = s.cwire := rfl
@[simp] theorem State.modPm_owed (s : State) (f : Collector → Collector) : (s.modPm f).owed = s.owed := rfl
@[simp] theorem State.modPm_used (s : State) (f : Collector → Collector) : (s.modPm f).used = s.used := rfl
@[simp] theorem State.modPm_allHeld (s : State) (f : Collector → Collector) : (s.modPm f).allHeld = s.allHeld := rfl
@[simp] theorem State.modPm_held (s : State) (f : Collector → Collector) : (s.modPm f).held = s.held := rfl
@[simp] theorem State.modPm_nbrBase (s : State) (f : Collector → Collector) : (s.modPm f).nbrBase = s.nbrBase := rfl
@[simp] theorem State.modPm_wakeQ (s : State) (f : Collector → Collector) : (s.modPm f).wakeQ = s.wakeQ := rfl

@[simp] theorem State.askWake_pending (s : State) (d : Nat) : (s.askWake d).pending = s.pending := rfl
@[simp] theorem State.askWake_free (s : State) (d : Nat) : (s.askWake d).free = s.free := rfl
@[simp] theorem State.askWake_pins (s : State) (d : Nat) : (s.askWake d).pins = s.pins := rfl
@[simp] theorem State.askWake_wrapA (s : State) (d : Nat) : (s.askWake d).wrapA = s.wrapA := rfl
@[simp] theorem State.askWake_wrapB (s : State) (d : Nat) : (s.askWake d).wrapB = s.wrapB := rfl
@[simp] theorem State.askWake_uptime (s : State) (d : Nat) : (s.askWake d).uptime = s.uptime := rfl
@[simp] theorem State.askWake_regs (s : State) (d : Nat) : (s.askWake d).regs = s.regs := rfl
@[simp] theorem State.askWake_pend (s : State) (d : Nat) : (s.askWake d).pend = s.pend := rfl
@[simp] theorem State.askWake_tab (s : State) (d : Nat) : (s.askWake d).tab = s.tab := rfl
@[simp] theorem State.askWake_tabBad (s : State) (d : Nat) : (s.askWake d).tabBad = s.tabBad := rfl
@[simp] theorem State.askWake_time (s : State) (d : Nat) : (s.askWake d).time = s.time := rfl
@[simp] theorem State.askWake_isl (s : State) (d : Nat) : (s.askWake d).isl = s.isl := rfl
@[simp] theorem State.askWake_ev (s : State) (d : Nat) : (s.askWake d).ev = s.ev := rfl
@[simp] theorem State.askWake_rt (s : State) (d : Nat) : (s.askWake d).rt = s.rt := rfl
@[simp] theorem State.askWake_ni (s : State) (d : Nat) : (s.askWake d).ni = s.ni := rfl
@[simp] theorem State.askWake_port (s : State) (d : Nat) : (s.askWake d).port = s.port := rfl
@[simp] theorem State.askWake_slice (s : State) (d : Nat) : (s.askWake d).slice = s.slice := rfl
@[simp] theorem State.askWake_lk (s : State) (d : Nat) : (s.askWake d).lk = s.lk := rfl
@[simp] theorem State.askWake_dom (s : State) (d : Nat) : (s.askWake d).dom = s.dom := rfl
@[simp] theorem State.askWake_sb (s : State) (d : Nat) : (s.askWake d).sb = s.sb := rfl
@[simp] theorem State.askWake_kt (s : State) (d : Nat) : (s.askWake d).kt = s.kt := rfl
@[simp] theorem State.askWake_st (s : State) (d : Nat) : (s.askWake d).st = s.st := rfl
@[simp] theorem State.askWake_cd (s : State) (d : Nat) : (s.askWake d).cd = s.cd := rfl
@[simp] theorem State.askWake_tr (s : State) (d : Nat) : (s.askWake d).tr = s.tr := rfl
@[simp] theorem State.askWake_sc (s : State) (d : Nat) : (s.askWake d).sc = s.sc := rfl
@[simp] theorem State.askWake_pot (s : State) (d : Nat) : (s.askWake d).pot = s.pot := rfl
@[simp] theorem State.askWake_pm (s : State) (d : Nat) : (s.askWake d).pm = s.pm := rfl
@[simp] theorem State.askWake_dbg (s : State) (d : Nat) : (s.askWake d).dbg = s.dbg := rfl
@[simp] theorem State.askWake_latch (s : State) (d : Nat) : (s.askWake d).latch = s.latch := rfl
@[simp] theorem State.askWake_dbgLatch (s : State) (d : Nat) : (s.askWake d).dbgLatch = s.dbgLatch := rfl
@[simp] theorem State.askWake_chk (s : State) (d : Nat) : (s.askWake d).chk = s.chk := rfl
@[simp] theorem State.askWake_seamDown (s : State) (d : Nat) : (s.askWake d).seamDown = s.seamDown := rfl
@[simp] theorem State.askWake_wire (s : State) (d : Nat) : (s.askWake d).wire = s.wire := rfl
@[simp] theorem State.askWake_cwire (s : State) (d : Nat) : (s.askWake d).cwire = s.cwire := rfl
@[simp] theorem State.askWake_owed (s : State) (d : Nat) : (s.askWake d).owed = s.owed := rfl
@[simp] theorem State.askWake_used (s : State) (d : Nat) : (s.askWake d).used = s.used := rfl
@[simp] theorem State.askWake_allHeld (s : State) (d : Nat) : (s.askWake d).allHeld = s.allHeld := rfl
@[simp] theorem State.askWake_held (s : State) (d : Nat) : (s.askWake d).held = s.held := rfl
@[simp] theorem State.askWake_nbrBase (s : State) (d : Nat) : (s.askWake d).nbrBase = s.nbrBase := rfl

@[simp] theorem State.withPending_free (s : State) (l : List Instr) : (s.withPending l).free = s.free := rfl
@[simp] theorem State.withPending_pins (s : State) (l : List Instr) : (s.withPending l).pins = s.pins := rfl
@[simp] theorem State.withPending_wrapA (s : State) (l : List Instr) : (s.withPending l).wrapA = s.wrapA := rfl
@[simp] theorem State.withPending_wrapB (s : State) (l : List Instr) : (s.withPending l).wrapB = s.wrapB := rfl
@[simp] theorem State.withPending_uptime (s : State) (l : List Instr) : (s.withPending l).uptime = s.uptime := rfl
@[simp] theorem State.withPending_regs (s : State) (l : List Instr) : (s.withPending l).regs = s.regs := rfl
@[simp] theorem State.withPending_pend (s : State) (l : List Instr) : (s.withPending l).pend = s.pend := rfl
@[simp] theorem State.withPending_tab (s : State) (l : List Instr) : (s.withPending l).tab = s.tab := rfl
@[simp] theorem State.withPending_tabBad (s : State) (l : List Instr) : (s.withPending l).tabBad = s.tabBad := rfl
@[simp] theorem State.withPending_time (s : State) (l : List Instr) : (s.withPending l).time = s.time := rfl
@[simp] theorem State.withPending_isl (s : State) (l : List Instr) : (s.withPending l).isl = s.isl := rfl
@[simp] theorem State.withPending_ev (s : State) (l : List Instr) : (s.withPending l).ev = s.ev := rfl
@[simp] theorem State.withPending_rt (s : State) (l : List Instr) : (s.withPending l).rt = s.rt := rfl
@[simp] theorem State.withPending_ni (s : State) (l : List Instr) : (s.withPending l).ni = s.ni := rfl
@[simp] theorem State.withPending_port (s : State) (l : List Instr) : (s.withPending l).port = s.port := rfl
@[simp] theorem State.withPending_slice (s : State) (l : List Instr) : (s.withPending l).slice = s.slice := rfl
@[simp] theorem State.withPending_lk (s : State) (l : List Instr) : (s.withPending l).lk = s.lk := rfl
@[simp] theorem State.withPending_dom (s : State) (l : List Instr) : (s.withPending l).dom = s.dom := rfl
@[simp] theorem State.withPending_sb (s : State) (l : List Instr) : (s.withPending l).sb = s.sb := rfl
@[simp] theorem State.withPending_kt (s : State) (l : List Instr) : (s.withPending l).kt = s.kt := rfl
@[simp] theorem State.withPending_st (s : State) (l : List Instr) : (s.withPending l).st = s.st := rfl
@[simp] theorem State.withPending_cd (s : State) (l : List Instr) : (s.withPending l).cd = s.cd := rfl
@[simp] theorem State.withPending_tr (s : State) (l : List Instr) : (s.withPending l).tr = s.tr := rfl
@[simp] theorem State.withPending_sc (s : State) (l : List Instr) : (s.withPending l).sc = s.sc := rfl
@[simp] theorem State.withPending_pot (s : State) (l : List Instr) : (s.withPending l).pot = s.pot := rfl
@[simp] theorem State.withPending_pm (s : State) (l : List Instr) : (s.withPending l).pm = s.pm := rfl
@[simp] theorem State.withPending_dbg (s : State) (l : List Instr) : (s.withPending l).dbg = s.dbg := rfl
@[simp] theorem State.withPending_latch (s : State) (l : List Instr) : (s.withPending l).latch = s.latch := rfl
@[simp] theorem State.withPending_dbgLatch (s : State) (l : List Instr) : (s.withPending l).dbgLatch = s.dbgLatch := rfl
@[simp] theorem State.withPending_chk (s : State) (l : List Instr) : (s.withPending l).chk = s.chk := rfl
@[simp] theorem State.withPending_seamDown (s : State) (l : List Instr) : (s.withPending l).seamDown = s.seamDown := rfl
@[simp] theorem State.withPending_wire (s : State) (l : List Instr) : (s.withPending l).wire = s.wire := rfl
@[simp] theorem State.withPending_cwire (s : State) (l : List Instr) : (s.withPending l).cwire = s.cwire := rfl
@[simp] theorem State.withPending_owed (s : State) (l : List Instr) : (s.withPending l).owed = s.owed := rfl
@[simp] theorem State.withPending_used (s : State) (l : List Instr) : (s.withPending l).used = s.used := rfl
@[simp] theorem State.withPending_allHeld (s : State) (l : List Instr) : (s.withPending l).allHeld = s.allHeld := rfl
@[simp] theorem State.withPending_held (s : State) (l : List Instr) : (s.withPending l).held = s.held := rfl
@[simp] theorem State.withPending_nbrBase (s : State) (l : List Instr) : (s.withPending l).nbrBase = s.nbrBase := rfl
@[simp] theorem State.withPending_wakeQ (s : State) (l : List Instr) : (s.withPending l).wakeQ = s.wakeQ := rfl

@[simp] theorem State.setFlips_pending (s : State) (key : Nat) (l : List (Nat × Nat × Nat)) : (s.setFlips key l).pending = s.pending := rfl
@[simp] theorem State.setFlips_free (s : State) (key : Nat) (l : List (Nat × Nat × Nat)) : (s.setFlips key l).free = s.free := rfl
@[simp] theorem State.setFlips_pins (s : State) (key : Nat) (l : List (Nat × Nat × Nat)) : (s.setFlips key l).pins = s.pins := rfl
@[simp] theorem State.setFlips_wrapA (s : State) (key : Nat) (l : List (Nat × Nat × Nat)) : (s.setFlips key l).wrapA = s.wrapA := rfl
@[simp] theorem State.setFlips_wrapB (s : State) (key : Nat) (l : List (Nat × Nat × Nat)) : (s.setFlips key l).wrapB = s.wrapB := rfl
@[simp] theorem State.setFlips_uptime (s : State) (key : Nat) (l : List (Nat × Nat × Nat)) : (s.setFlips key l).uptime = s.uptime := rfl
@[simp] theorem State.setFlips_regs (s : State) (key : Nat) (l : List (Nat × Nat × Nat)) : (s.setFlips key l).regs = s.regs := rfl
@[simp] theorem State.setFlips_pend (s : State) (key : Nat) (l : List (Nat × Nat × Nat)) : (s.setFlips key l).pend = s.pend := rfl
@[simp] theorem State.setFlips_tab (s : State) (key : Nat) (l : List (Nat × Nat × Nat)) : (s.setFlips key l).tab = s.tab := rfl
@[simp] theorem State.setFlips_tabBad (s : State) (key : Nat) (l : List (Nat × Nat × Nat)) : (s.setFlips key l).tabBad = s.tabBad := rfl
@[simp] theorem State.setFlips_time (s : State) (key : Nat) (l : List (Nat × Nat × Nat)) : (s.setFlips key l).time = s.time := rfl
@[simp] theorem State.setFlips_isl (s : State) (key : Nat) (l : List (Nat × Nat × Nat)) : (s.setFlips key l).isl = s.isl := rfl
@[simp] theorem State.setFlips_ev (s : State) (key : Nat) (l : List (Nat × Nat × Nat)) : (s.setFlips key l).ev = s.ev := rfl
@[simp] theorem State.setFlips_rt (s : State) (key : Nat) (l : List (Nat × Nat × Nat)) : (s.setFlips key l).rt = s.rt := rfl
@[simp] theorem State.setFlips_ni (s : State) (key : Nat) (l : List (Nat × Nat × Nat)) : (s.setFlips key l).ni = s.ni := rfl
@[simp] theorem State.setFlips_port (s : State) (key : Nat) (l : List (Nat × Nat × Nat)) : (s.setFlips key l).port = s.port := rfl
@[simp] theorem State.setFlips_slice (s : State) (key : Nat) (l : List (Nat × Nat × Nat)) : (s.setFlips key l).slice = s.slice := rfl
@[simp] theorem State.setFlips_lk (s : State) (key : Nat) (l : List (Nat × Nat × Nat)) : (s.setFlips key l).lk = s.lk := rfl
@[simp] theorem State.setFlips_dom (s : State) (key : Nat) (l : List (Nat × Nat × Nat)) : (s.setFlips key l).dom = s.dom := rfl
@[simp] theorem State.setFlips_sb (s : State) (key : Nat) (l : List (Nat × Nat × Nat)) : (s.setFlips key l).sb = s.sb := rfl
@[simp] theorem State.setFlips_kt (s : State) (key : Nat) (l : List (Nat × Nat × Nat)) : (s.setFlips key l).kt = s.kt := rfl
@[simp] theorem State.setFlips_st (s : State) (key : Nat) (l : List (Nat × Nat × Nat)) : (s.setFlips key l).st = s.st := rfl
@[simp] theorem State.setFlips_cd (s : State) (key : Nat) (l : List (Nat × Nat × Nat)) : (s.setFlips key l).cd = s.cd := rfl
@[simp] theorem State.setFlips_tr (s : State) (key : Nat) (l : List (Nat × Nat × Nat)) : (s.setFlips key l).tr = s.tr := rfl
@[simp] theorem State.setFlips_pot (s : State) (key : Nat) (l : List (Nat × Nat × Nat)) : (s.setFlips key l).pot = s.pot := rfl
@[simp] theorem State.setFlips_pm (s : State) (key : Nat) (l : List (Nat × Nat × Nat)) : (s.setFlips key l).pm = s.pm := rfl
@[simp] theorem State.setFlips_dbg (s : State) (key : Nat) (l : List (Nat × Nat × Nat)) : (s.setFlips key l).dbg = s.dbg := rfl
@[simp] theorem State.setFlips_latch (s : State) (key : Nat) (l : List (Nat × Nat × Nat)) : (s.setFlips key l).latch = s.latch := rfl
@[simp] theorem State.setFlips_dbgLatch (s : State) (key : Nat) (l : List (Nat × Nat × Nat)) : (s.setFlips key l).dbgLatch = s.dbgLatch := rfl
@[simp] theorem State.setFlips_chk (s : State) (key : Nat) (l : List (Nat × Nat × Nat)) : (s.setFlips key l).chk = s.chk := rfl
@[simp] theorem State.setFlips_seamDown (s : State) (key : Nat) (l : List (Nat × Nat × Nat)) : (s.setFlips key l).seamDown = s.seamDown := rfl
@[simp] theorem State.setFlips_wire (s : State) (key : Nat) (l : List (Nat × Nat × Nat)) : (s.setFlips key l).wire = s.wire := rfl
@[simp] theorem State.setFlips_cwire (s : State) (key : Nat) (l : List (Nat × Nat × Nat)) : (s.setFlips key l).cwire = s.cwire := rfl
@[simp] theorem State.setFlips_owed (s : State) (key : Nat) (l : List (Nat × Nat × Nat)) : (s.setFlips key l).owed = s.owed := rfl
@[simp] theorem State.setFlips_used (s : State) (key : Nat) (l : List (Nat × Nat × Nat)) : (s.setFlips key l).used = s.used := rfl
@[simp] theorem State.setFlips_allHeld (s : State) (key : Nat) (l : List (Nat × Nat × Nat)) : (s.setFlips key l).allHeld = s.allHeld := rfl
@[simp] theorem State.setFlips_held (s : State) (key : Nat) (l : List (Nat × Nat × Nat)) : (s.setFlips key l).held = s.held := rfl
@[simp] theorem State.setFlips_nbrBase (s : State) (key : Nat) (l : List (Nat × Nat × Nat)) : (s.setFlips key l).nbrBase = s.nbrBase := rfl
@[simp] theorem State.setFlips_wakeQ (s : State) (key : Nat) (l : List (Nat × Nat × Nat)) : (s.setFlips key l).wakeQ = s.wakeQ := rfl

/-! ### Registers -/

@[simp] theorem State.rd_wr_same (s : State) (o : Nat) (v : W64) : (s.wr o v).rd o = v := KMap.get_set_same _ _ _ _

theorem State.rd_wr_other (s : State) {o o' : Nat} (v : W64) (h : o' ≠ o) : (s.wr o v).rd o' = s.rd o' := KMap.get_set_other _ _ _ h

theorem State.rd_wr (s : State) (o o' : Nat) (v : W64) : (s.wr o v).rd o' = if o' = o then v else s.rd o' := KMap.get_set _ _ _ _ _

@[simp] theorem State.rd_setFld_same (s : State) (o : Nat) (f : Fld) (v : Nat) : (s.setFld o f v).rd o = setBits (s.rd o) f.lo f.w v :=
  State.rd_wr_same _ _ _

theorem State.rd_setFld_other (s : State) {o o' : Nat} (f : Fld) (v : Nat) (h : o' ≠ o) : (s.setFld o f v).rd o' = s.rd o' :=
  State.rd_wr_other _ _ h

theorem State.rd_bump_other (s : State) {o o' : Nat} (f : Fld) (h : o' ≠ o) : (s.bump o f).rd o' = s.rd o' := State.rd_setFld_other _ _ _ h

theorem State.rd_bumpBy_other (s : State) {o o' : Nat} (f : Fld) (k : Nat) (h : o' ≠ o) : (s.bumpBy o f k).rd o' = s.rd o' :=
  State.rd_setFld_other _ _ _ h

/-- A field after it is written. -/
theorem State.fld_setFld_same (s : State) (o : Nat) (f : Fld) (v : Nat) (h : f.lo + f.w ≤ 64) : (s.setFld o f v).fld o f = v % 2 ^ f.w := by
  simp only [State.fld, State.rd_setFld_same]
  exact bits_setBits_same _ _ _ _ h

/-- Another field of the register written. -/
theorem State.fld_setFld_field (s : State) (o : Nat) (f g : Fld) (v : Nat) (h : f.lo + f.w ≤ 64) (hd : g.lo + g.w ≤ f.lo ∨ f.lo + f.w ≤ g.lo) :
    (s.setFld o f v).fld o g = s.fld o g := by
  simp only [State.fld, State.rd_setFld_same]
  exact bits_setBits_other _ _ _ _ _ _ h hd

theorem State.fld_setFld_other (s : State) {o o' : Nat} (f g : Fld) (v : Nat) (h : o' ≠ o) : (s.setFld o f v).fld o' g = s.fld o' g := by
  simp only [State.fld, State.rd_setFld_other s f v h]

/-- A saturating count after it is raised. -/
theorem State.fld_bump_same (s : State) (o : Nat) (f : Fld) (h : f.lo + f.w ≤ 64) :
    (s.bump o f).fld o f = satInc (2 ^ f.w - 1) (s.fld o f) % 2 ^ f.w := State.fld_setFld_same _ _ _ _ h

/-! ### Units -/

@[simp] theorem State.islAt_setIsl_same (s : State) (i : Nat) (v : Island) : (s.setIsl i v).islAt i = v := KMap.get_set_same _ _ _ _
theorem State.islAt_setIsl_other (s : State) {i m : Nat} (v : Island) (h : m ≠ i) : (s.setIsl i v).islAt m = s.islAt m :=
  KMap.get_set_other _ _ _ h
@[simp] theorem State.islAt_modIsl_same (s : State) (i : Nat) (f : Island → Island) : (s.modIsl i f).islAt i = f (s.islAt i) :=
  KMap.get_set_same _ _ _ _
theorem State.islAt_modIsl_other (s : State) {i m : Nat} (f : Island → Island) (h : m ≠ i) : (s.modIsl i f).islAt m = s.islAt m :=
  KMap.get_set_other _ _ _ h

@[simp] theorem State.rtAt_setRt_same (s : State) (t : Nat) (v : Router) : (s.setRt t v).rtAt t = v := KMap.get_set_same _ _ _ _
theorem State.rtAt_setRt_other (s : State) {t m : Nat} (v : Router) (h : m ≠ t) : (s.setRt t v).rtAt m = s.rtAt m :=
  KMap.get_set_other _ _ _ h
@[simp] theorem State.rtAt_modRt_same (s : State) (t : Nat) (f : Router → Router) : (s.modRt t f).rtAt t = f (s.rtAt t) :=
  KMap.get_set_same _ _ _ _
theorem State.rtAt_modRt_other (s : State) {t m : Nat} (f : Router → Router) (h : m ≠ t) : (s.modRt t f).rtAt m = s.rtAt m :=
  KMap.get_set_other _ _ _ h

@[simp] theorem State.niAt_setNi_same (s : State) (n : Nat) (v : Ni) : (s.setNi n v).niAt n = v := KMap.get_set_same _ _ _ _
theorem State.niAt_setNi_other (s : State) {n m : Nat} (v : Ni) (h : m ≠ n) : (s.setNi n v).niAt m = s.niAt m :=
  KMap.get_set_other _ _ _ h
@[simp] theorem State.niAt_modNi_same (s : State) (n : Nat) (f : Ni → Ni) : (s.modNi n f).niAt n = f (s.niAt n) :=
  KMap.get_set_same _ _ _ _
theorem State.niAt_modNi_other (s : State) {n m : Nat} (f : Ni → Ni) (h : m ≠ n) : (s.modNi n f).niAt m = s.niAt m :=
  KMap.get_set_other _ _ _ h

@[simp] theorem State.domAt_setDom_same (s : State) (d : Nat) (v : Domain) : (s.setDom d v).domAt d = v := KMap.get_set_same _ _ _ _
theorem State.domAt_setDom_other (s : State) {d m : Nat} (v : Domain) (h : m ≠ d) : (s.setDom d v).domAt m = s.domAt m :=
  KMap.get_set_other _ _ _ h
@[simp] theorem State.domAt_modDom_same (s : State) (d : Nat) (f : Domain → Domain) : (s.modDom d f).domAt d = f (s.domAt d) :=
  KMap.get_set_same _ _ _ _
theorem State.domAt_modDom_other (s : State) {d m : Nat} (f : Domain → Domain) (h : m ≠ d) : (s.modDom d f).domAt m = s.domAt m :=
  KMap.get_set_other _ _ _ h

@[simp] theorem State.portAt_setPort_same (s : State) (n : Nat) (v : Port) : (s.setPort n v).portAt n = v := KMap.get_set_same _ _ _ _
theorem State.portAt_setPort_other (s : State) {n m : Nat} (v : Port) (h : m ≠ n) : (s.setPort n v).portAt m = s.portAt m :=
  KMap.get_set_other _ _ _ h
@[simp] theorem State.portAt_modPort_same (s : State) (n : Nat) (f : Port → Port) : (s.modPort n f).portAt n = f (s.portAt n) :=
  KMap.get_set_same _ _ _ _
theorem State.portAt_modPort_other (s : State) {n m : Nat} (f : Port → Port) (h : m ≠ n) : (s.modPort n f).portAt m = s.portAt m :=
  KMap.get_set_other _ _ _ h

@[simp] theorem State.sliceAt_setSlice_same (s : State) (k : Nat) (v : Slice) : (s.setSlice k v).sliceAt k = v := KMap.get_set_same _ _ _ _
theorem State.sliceAt_setSlice_other (s : State) {k m : Nat} (v : Slice) (h : m ≠ k) : (s.setSlice k v).sliceAt m = s.sliceAt m :=
  KMap.get_set_other _ _ _ h
@[simp] theorem State.sliceAt_modSlice_same (s : State) (k : Nat) (f : Slice → Slice) : (s.modSlice k f).sliceAt k = f (s.sliceAt k) :=
  KMap.get_set_same _ _ _ _
theorem State.sliceAt_modSlice_other (s : State) {k m : Nat} (f : Slice → Slice) (h : m ≠ k) : (s.modSlice k f).sliceAt m = s.sliceAt m :=
  KMap.get_set_other _ _ _ h

@[simp] theorem State.lkAt_setLk_same (s : State) (k e : Nat) (x : Lk) : (s.setLk k e x).lkAt k e = x := KMap.get_set_same _ _ _ _

@[simp] theorem State.wireAt_setWire_same (s : State) (k : Nat) (l : List Flit) : (s.setWire k l).wireAt k = l := KMap.get_set_same _ _ _ _
theorem State.wireAt_setWire_other (s : State) {k m : Nat} (l : List Flit) (h : m ≠ k) : (s.setWire k l).wireAt m = s.wireAt m :=
  KMap.get_set_other _ _ _ h

end Sys2Proof.Machine
end

