-- ==== Sys2Proof/Laws/Report.lean ====
section
/-! SUPPORT. Everything a fault report can change: the MGT queue and the held messages of the reporting NI, and its fold counts (R508). -/
namespace Sys2Proof.Machine

/-- A fault message changes only the NI that takes it and the fold counts of that NI. -/
theorem State.queueFault_cases (s : State) (n : Nat) (f : FaultMsg) :
    ∃ (u : Ni) (w : W64), s.queueFault n f = (s.setNi n u).wr (Off.NI_FAULT_CNT n) w ∨ s.queueFault n f = s.setNi n u ∨
      s.queueFault n f = s.wr (Off.NI_FAULT_CNT n) w := by
  unfold State.queueFault
  extract_lets u q
  (repeat' split) <;> first
    | exact ⟨_, 0, Or.inr (Or.inl rfl)⟩
    | exact ⟨Ni.reset 0, _, Or.inr (Or.inr rfl)⟩
    | exact ⟨_, _, Or.inl rfl⟩

@[simp] theorem State.queueFault_pending (s : State) (n : Nat) (f : FaultMsg) : (s.queueFault n f).pending = s.pending := by
  obtain ⟨u, w, h | h | h⟩ := s.queueFault_cases n f <;> rw [h] <;> rfl
@[simp] theorem State.queueFault_free (s : State) (n : Nat) (f : FaultMsg) : (s.queueFault n f).free = s.free := by
  obtain ⟨u, w, h | h | h⟩ := s.queueFault_cases n f <;> rw [h] <;> rfl
@[simp] theorem State.queueFault_pins (s : State) (n : Nat) (f : FaultMsg) : (s.queueFault n f).pins = s.pins := by
  obtain ⟨u, w, h | h | h⟩ := s.queueFault_cases n f <;> rw [h] <;> rfl
@[simp] theorem State.queueFault_wrapA (s : State) (n : Nat) (f : FaultMsg) : (s.queueFault n f).wrapA = s.wrapA := by
  obtain ⟨u, w, h | h | h⟩ := s.queueFault_cases n f <;> rw [h] <;> rfl
@[simp] theorem State.queueFault_wrapB (s : State) (n : Nat) (f : FaultMsg) : (s.queueFault n f).wrapB = s.wrapB := by
  obtain ⟨u, w, h | h | h⟩ := s.queueFault_cases n f <;> rw [h] <;> rfl
@[simp] theorem State.queueFault_uptime (s : State) (n : Nat) (f : FaultMsg) : (s.queueFault n f).uptime = s.uptime := by
  obtain ⟨u, w, h | h | h⟩ := s.queueFault_cases n f <;> rw [h] <;> rfl
@[simp] theorem State.queueFault_pend (s : State) (n : Nat) (f : FaultMsg) : (s.queueFault n f).pend = s.pend := by
  obtain ⟨u, w, h | h | h⟩ := s.queueFault_cases n f <;> rw [h] <;> rfl
@[simp] theorem State.queueFault_tab (s : State) (n : Nat) (f : FaultMsg) : (s.queueFault n f).tab = s.tab := by
  obtain ⟨u, w, h | h | h⟩ := s.queueFault_cases n f <;> rw [h] <;> rfl
@[simp] theorem State.queueFault_tabBad (s : State) (n : Nat) (f : FaultMsg) : (s.queueFault n f).tabBad = s.tabBad := by
  obtain ⟨u, w, h | h | h⟩ := s.queueFault_cases n f <;> rw [h] <;> rfl
@[simp] theorem State.queueFault_time (s : State) (n : Nat) (f : FaultMsg) : (s.queueFault n f).time = s.time := by
  obtain ⟨u, w, h | h | h⟩ := s.queueFault_cases n f <;> rw [h] <;> rfl
@[simp] theorem State.queueFault_isl (s : State) (n : Nat) (f : FaultMsg) : (s.queueFault n f).isl = s.isl := by
  obtain ⟨u, w, h | h | h⟩ := s.queueFault_cases n f <;> rw [h] <;> rfl
@[simp] theorem State.queueFault_ev (s : State) (n : Nat) (f : FaultMsg) : (s.queueFault n f).ev = s.ev := by
  obtain ⟨u, w, h | h | h⟩ := s.queueFault_cases n f <;> rw [h] <;> rfl
@[simp] theorem State.queueFault_rt (s : State) (n : Nat) (f : FaultMsg) : (s.queueFault n f).rt = s.rt := by
  obtain ⟨u, w, h | h | h⟩ := s.queueFault_cases n f <;> rw [h] <;> rfl
@[simp] theorem State.queueFault_port (s : State) (n : Nat) (f : FaultMsg) : (s.queueFault n f).port = s.port := by
  obtain ⟨u, w, h | h | h⟩ := s.queueFault_cases n f <;> rw [h] <;> rfl
@[simp] theorem State.queueFault_slice (s : State) (n : Nat) (f : FaultMsg) : (s.queueFault n f).slice = s.slice := by
  obtain ⟨u, w, h | h | h⟩ := s.queueFault_cases n f <;> rw [h] <;> rfl
@[simp] theorem State.queueFault_lk (s : State) (n : Nat) (f : FaultMsg) : (s.queueFault n f).lk = s.lk := by
  obtain ⟨u, w, h | h | h⟩ := s.queueFault_cases n f <;> rw [h] <;> rfl
@[simp] theorem State.queueFault_dom (s : State) (n : Nat) (f : FaultMsg) : (s.queueFault n f).dom = s.dom := by
  obtain ⟨u, w, h | h | h⟩ := s.queueFault_cases n f <;> rw [h] <;> rfl
@[simp] theorem State.queueFault_sb (s : State) (n : Nat) (f : FaultMsg) : (s.queueFault n f).sb = s.sb := by
  obtain ⟨u, w, h | h | h⟩ := s.queueFault_cases n f <;> rw [h] <;> rfl
@[simp] theorem State.queueFault_kt (s : State) (n : Nat) (f : FaultMsg) : (s.queueFault n f).kt = s.kt := by
  obtain ⟨u, w, h | h | h⟩ := s.queueFault_cases n f <;> rw [h] <;> rfl
@[simp] theorem State.queueFault_st (s : State) (n : Nat) (f : FaultMsg) : (s.queueFault n f).st = s.st := by
  obtain ⟨u, w, h | h | h⟩ := s.queueFault_cases n f <;> rw [h] <;> rfl
@[simp] theorem State.queueFault_cd (s : State) (n : Nat) (f : FaultMsg) : (s.queueFault n f).cd = s.cd := by
  obtain ⟨u, w, h | h | h⟩ := s.queueFault_cases n f <;> rw [h] <;> rfl
@[simp] theorem State.queueFault_tr (s : State) (n : Nat) (f : FaultMsg) : (s.queueFault n f).tr = s.tr := by
  obtain ⟨u, w, h | h | h⟩ := s.queueFault_cases n f <;> rw [h] <;> rfl
@[simp] theorem State.queueFault_sc (s : State) (n : Nat) (f : FaultMsg) : (s.queueFault n f).sc = s.sc := by
  obtain ⟨u, w, h | h | h⟩ := s.queueFault_cases n f <;> rw [h] <;> rfl
@[simp] theorem State.queueFault_pot (s : State) (n : Nat) (f : FaultMsg) : (s.queueFault n f).pot = s.pot := by
  obtain ⟨u, w, h | h | h⟩ := s.queueFault_cases n f <;> rw [h] <;> rfl
@[simp] theorem State.queueFault_pm (s : State) (n : Nat) (f : FaultMsg) : (s.queueFault n f).pm = s.pm := by
  obtain ⟨u, w, h | h | h⟩ := s.queueFault_cases n f <;> rw [h] <;> rfl
@[simp] theorem State.queueFault_dbg (s : State) (n : Nat) (f : FaultMsg) : (s.queueFault n f).dbg = s.dbg := by
  obtain ⟨u, w, h | h | h⟩ := s.queueFault_cases n f <;> rw [h] <;> rfl
@[simp] theorem State.queueFault_latch (s : State) (n : Nat) (f : FaultMsg) : (s.queueFault n f).latch = s.latch := by
  obtain ⟨u, w, h | h | h⟩ := s.queueFault_cases n f <;> rw [h] <;> rfl
@[simp] theorem State.queueFault_dbgLatch (s : State) (n : Nat) (f : FaultMsg) : (s.queueFault n f).dbgLatch = s.dbgLatch := by
  obtain ⟨u, w, h | h | h⟩ := s.queueFault_cases n f <;> rw [h] <;> rfl
@[simp] theorem State.queueFault_chk (s : State) (n : Nat) (f : FaultMsg) : (s.queueFault n f).chk = s.chk := by
  obtain ⟨u, w, h | h | h⟩ := s.queueFault_cases n f <;> rw [h] <;> rfl
@[simp] theorem State.queueFault_seamDown (s : State) (n : Nat) (f : FaultMsg) : (s.queueFault n f).seamDown = s.seamDown := by
  obtain ⟨u, w, h | h | h⟩ := s.queueFault_cases n f <;> rw [h] <;> rfl
@[simp] theorem State.queueFault_wire (s : State) (n : Nat) (f : FaultMsg) : (s.queueFault n f).wire = s.wire := by
  obtain ⟨u, w, h | h | h⟩ := s.queueFault_cases n f <;> rw [h] <;> rfl
@[simp] theorem State.queueFault_cwire (s : State) (n : Nat) (f : FaultMsg) : (s.queueFault n f).cwire = s.cwire := by
  obtain ⟨u, w, h | h | h⟩ := s.queueFault_cases n f <;> rw [h] <;> rfl
@[simp] theorem State.queueFault_owed (s : State) (n : Nat) (f : FaultMsg) : (s.queueFault n f).owed = s.owed := by
  obtain ⟨u, w, h | h | h⟩ := s.queueFault_cases n f <;> rw [h] <;> rfl
@[simp] theorem State.queueFault_used (s : State) (n : Nat) (f : FaultMsg) : (s.queueFault n f).used = s.used := by
  obtain ⟨u, w, h | h | h⟩ := s.queueFault_cases n f <;> rw [h] <;> rfl
@[simp] theorem State.queueFault_allHeld (s : State) (n : Nat) (f : FaultMsg) : (s.queueFault n f).allHeld = s.allHeld := by
  obtain ⟨u, w, h | h | h⟩ := s.queueFault_cases n f <;> rw [h] <;> rfl
@[simp] theorem State.queueFault_held (s : State) (n : Nat) (f : FaultMsg) : (s.queueFault n f).held = s.held := by
  obtain ⟨u, w, h | h | h⟩ := s.queueFault_cases n f <;> rw [h] <;> rfl
@[simp] theorem State.queueFault_nbrBase (s : State) (n : Nat) (f : FaultMsg) : (s.queueFault n f).nbrBase = s.nbrBase := by
  obtain ⟨u, w, h | h | h⟩ := s.queueFault_cases n f <;> rw [h] <;> rfl
@[simp] theorem State.queueFault_wakeQ (s : State) (n : Nat) (f : FaultMsg) : (s.queueFault n f).wakeQ = s.wakeQ := by
  obtain ⟨u, w, h | h | h⟩ := s.queueFault_cases n f <;> rw [h] <;> rfl

theorem State.queueFault_rd (s : State) (n : Nat) (f : FaultMsg) {o : Nat} (h : o ≠ Off.NI_FAULT_CNT n) : (s.queueFault n f).rd o = s.rd o := by
  obtain ⟨u, w, e | e | e⟩ := s.queueFault_cases n f <;> rw [e]
  · exact KMap.get_set_other _ _ _ h
  · rfl
  · exact KMap.get_set_other _ _ _ h

theorem State.queueFault_fld (s : State) (n : Nat) (f : FaultMsg) {o : Nat} (g : Fld) (h : o ≠ Off.NI_FAULT_CNT n) : (s.queueFault n f).fld o g = s.fld o g := by
  unfold State.fld
  rw [s.queueFault_rd n f h]

theorem State.queueFault_niAt (s : State) (n : Nat) (f : FaultMsg) {m : Nat} (h : m ≠ n) : (s.queueFault n f).niAt m = s.niAt m := by
  obtain ⟨u, w, e | e | e⟩ := s.queueFault_cases n f <;> rw [e]
  · exact KMap.get_set_other _ _ _ h
  · exact KMap.get_set_other _ _ _ h
  · rfl

@[simp] theorem State.queueFault_islAt (s : State) (n : Nat) (f : FaultMsg) (i : Nat) : (s.queueFault n f).islAt i = s.islAt i := by
  unfold State.islAt; rw [s.queueFault_isl]
@[simp] theorem State.queueFault_rtAt (s : State) (n : Nat) (f : FaultMsg) (i : Nat) : (s.queueFault n f).rtAt i = s.rtAt i := by
  unfold State.rtAt; rw [s.queueFault_rt]
@[simp] theorem State.queueFault_domAt (s : State) (n : Nat) (f : FaultMsg) (i : Nat) : (s.queueFault n f).domAt i = s.domAt i := by
  unfold State.domAt; rw [s.queueFault_dom]
@[simp] theorem State.queueFault_inReset (s : State) (n : Nat) (f : FaultMsg) : (s.queueFault n f).inReset = s.inReset := by
  unfold State.inReset; rw [s.queueFault_pins]

end Sys2Proof.Machine
end

