-- ==== Sys2Proof/Tests/Slice0.lean ====
section
/-! SUPPORT. Tests: operands that `Instr.wf` refuses, operand words checked against the spec, and for the hypotheses of each
statement concrete states and operands that meet them together. -/
namespace Sys2Proof.Tests
open Sys2Proof Sys2Proof.Machine

-- Each kernel evaluation waits for every earlier proof; one theorem at a time, the waiting ones take no thread each.
set_option Elab.async false

/-- A machine out of reset, with every domain ON. -/
def live : State := { State.reset with pins := { State.reset.pins with porstN := true, ready := true } }

/-- The same with fabric time running, NOMINAL. -/
def timed : State := { live with allHeld := false, uptime := 2 ^ 24, time := { Keeper.reset with running := true, conf := .nominal, now := 2 ^ 24 } }

/-- A machine with one NI changed. -/
def withNi (n : Nat) (f : Ni → Ni) : State := timed.modNi n f

/-- A boot directory and platform block of the lengths of R573 and R575, not valid. -/
def bootIn : BootIn :=
  { testMode := true, debugEn := false, delays := List.replicate 48 0, dir := List.replicate 8 0, fw := .copyA, plat := List.replicate 152 0, platSig := true,
    epochNum := 0, startRef := some false, image := [], imageSig := true, prot := ⟨[], true⟩, ledgerOk := true, copy0 := [], copy1 := [], windowNs := 0, us := 0 }

/-- A request of one line with all its bytes. -/
def req (vn op : Nat) (data : List Body) : Req :=
  { vn := vn, opcode := op, agent := 1, priv := false, origin := false, line := 0, data := data, pl := 0, machine := none, ident := 7 }

/-- A line with all its bytes enabled. -/
def full : Body := ⟨false, allBytes, 1⟩

/-! ### Operands that are refused -/

theorem test_wf_boot : (Instr.porstNRelease bootIn).wf = true ∧ (Instr.porstNRelease { bootIn with delays := [] }).wf = false ∧
    (Instr.warmNRelease { bootIn with dir := [] }).wf = false ∧ (Instr.warmNRelease { bootIn with plat := [] }).wf = false := by decide +kernel

theorem test_wf_request : (Instr.niRequestPresent 40 (req Vn.ION 1 [full]) .clean).wf = true ∧
    (Instr.niRequestPresent 40 (req Vn.SNP 1 []) .clean).wf = false ∧ (Instr.niRequestPresent 40 (req Vn.ION 64 [full]) .clean).wf = false ∧
    (Instr.niRequestPresent 40 { req Vn.ION 1 [full] with agent := 4096 } .clean).wf = false ∧
    (Instr.niRequestPresent 40 { req Vn.ION 1 [full] with line := 2 ^ 46 } .clean).wf = false ∧ (Instr.niRequestPresent 40 (req Vn.REQ 5 []) .clean).wf = false ∧
    (Instr.niRequestPresent 40 (req Vn.REQ 1 [full]) .clean).wf = false ∧ (Instr.niRequestPresent 40 { req Vn.REQ 1 [] with machine := some 0 } .clean).wf = false ∧
    (Instr.niRequestPresent 3 { req Vn.ION 1 [full] with machine := some 0 } .clean).wf = false ∧
    (Instr.niRequestPresent 40 { req Vn.ION 1 [full] with machine := some (2 ^ 20) } .clean).wf = false ∧
    (Instr.niRequestPresent 40 (req Vn.ION 1 [⟨false, 0, 0⟩]) .clean).wf = false ∧ (Instr.niRequestPresent 40 (req Vn.ION 2 [⟨false, 0, 0⟩]) .clean).wf = false ∧
    (Instr.niRequestPresent 40 { req Vn.ION 1 [full, full] with line := 63 } .clean).wf = false ∧
    (Instr.niRequestPresent 40 (req Vn.IOP 4 [full, full, full, full]) .clean).wf = false := by decide +kernel

theorem test_wf_errs : (Instr.niPacketReceive 0 0 (List.replicate 5 .clean) .clean).wf = false ∧
    (Instr.homeArbiterDecision 0 (List.replicate 9 ⟨0, 0, 0, false, false⟩) ⟨false, none, 0⟩).wf = false := by decide +kernel

theorem test_wf_ports : (Instr.memwrptl 0 0 0 0 false 0 .clean).wf = false ∧ (Instr.cxlIoMrd 0 0 0 [] none .clean).wf = false ∧
    (Instr.cxlIoMwr 0 false 0 [⟨false, 0, 0⟩] none .clean).wf = false ∧ (Instr.cxlIoCpl 0 0 .sc (List.replicate 5 0)).wf = false ∧
    (Instr.deviceMwr 0 0 [] .clean).wf = false ∧ (Instr.deviceMrd 0 0 0 [0] .clean).wf = false ∧
    (Instr.portEngineStatus 168 0 0 1 false []).wf = false ∧ (Instr.portEngineStatus 168 0 0 0 false (List.replicate 5 full)).wf = false ∧
    (Instr.portEngineRequest 168 { req Vn.ION 1 [full] with machine := some 0 } .clean).wf = false := by decide +kernel

theorem test_wf_bridge : (Instr.sbInboundWrite 0x400 [(15, 1)] .clean).wf = true ∧ (Instr.sbInboundWrite 0x401 [(15, 1)] .clean).wf = false ∧
    (Instr.sbInboundRead 0x7FC [15, 15] 0 .clean).wf = false ∧ (Instr.sbInboundRead 0x400 [] 0 .clean).wf = false := by decide +kernel

theorem test_wf_access : (Instr.loadBlend 0 (.header [] [] [])).wf = false ∧ (Instr.loadBlend 0 (.words [])).wf = false ∧ (Instr.debugMeshRead 0 0 1 true none .clean).wf = false ∧
    (Instr.registerWrite 3 true 0).wf = false ∧ (Instr.registerWrite 3 false 0).wf = true := by decide +kernel

/-! ### Operations against the spec's own examples -/

/-- R61: CRC-8 with polynomial 0x07 of the single bit 63 − 55 = 8 set is 0x07, and of all zeros 0. -/
theorem test_crc8 : crc8 0 = 0 ∧ crc8 0x100#64 = 7 := by decide +kernel

/-- R101: a route of two hops E and then local port L1, and the canonical form of R100. -/
theorem test_route : (Route.ofWord (⟨1, 2, 0, 0, 0, 0, 1, true⟩ : Route).word).out = 1 ∧ (Route.ofWord (⟨1, 2, 0, 0, 0, 0, 1, true⟩ : Route).word).step.step.out = 5 ∧
    (⟨1, 2, 1, 1, 0, 0, 1, true⟩ : Route).canonical = false := by decide +kernel

/-- R5's worked example: word 1 bits [47:32] of 0x1234 are bytes 12 and 13, low byte first. -/
theorem test_bytes : lineByte (lineOfWords [0, 0x1234_00000000#64]) 12 = 0x34 ∧ lineByte (lineOfWords [0, 0x1234_00000000#64]) 13 = 0x12 := by decide +kernel

/-- R20, R21: the first and last NI of each type, with their tiles. -/
theorem test_geometry : niTile 0 = 0 ∧ niTile 31 = 191 ∧ niTile 32 = 1 ∧ niTile 232 = 5 ∧ niTile 247 = 186 ∧ niTile 248 = 4 ∧ niTile 252 = 7 ∧
    (∀ n : Fin 256, (if 168 ≤ n.val ∧ n.val < 232 then tileL1 (niTile n) else tileL0 (niTile n)) = n) := by decide +kernel

/-! ### States that meet the hypotheses of the statements -/

theorem test_hyps_EmptyQueueTicks : State.reset.pending = [] ∧ KMap.sortedFrom 0 State.reset.ev = true ∧
    KMap.sortedFrom 0 ({ timed with ev := [(0, ⟨3⟩), (239, ⟨1⟩)] } : State).ev = true := by decide +kernel

theorem test_hyps_FatalStays : let s : State := { live with pins := { live.pins with fatal := true } }
    s.pins.fatal = true ∧ s.pending.head? ≠ some .vddAonRise := by decide +kernel

theorem test_hyps_CaddyFreezeStays : let s : State := { live with cd := { Caddy.cleared with frozen := true, byC4 := true } }
    s.cd.frozen = true ∧ s.cd.byC4 = true ∧ s.cd.freezing = false ∧ (∀ e ∈ s.cd.ports, e.2.resv = none) ∧ s.pending.head? ≠ some .vddAonRise := by decide +kernel

theorem test_hyps_TestModeSampled : State.reset.pins.porstN = false ∧ live.pins.porstN = true ∧ Instr.bootReadyWrite ≠ .vddAonRise := by decide +kernel

/-- A credit word that returns one shared credit of VN 7 into a link whose sender has none in use, at a router and at an NI. -/
theorem test_hyps_CreditOverflow : let w := creditWord (fun v => if v = 7 then (1, 3) else (0, 0))
    let s : State := { timed with cwire := [((LinkPort.tile 0 1).key, [w]), ((LinkPort.ni 255).key, [w])] }
    KMap.get (fun _ => []) s.cwire (LinkPort.tile 0 1).key = w :: [] ∧ KMap.get (fun _ => []) s.cwire (LinkPort.ni 255).key = w :: [] ∧
      s.runs (LinkPort.tile 0 1).sender = true ∧ s.linkHeld (LinkPort.tile 0 1).key = false ∧ s.runs (LinkPort.ni 255).sender = true ∧ s.linkHeld (LinkPort.ni 255).key = false ∧
      s.usedAt (LinkPort.tile 0 1).key 7 true < creditOf w 7 true ∧ s.usedAt (LinkPort.ni 255).key 7 false < creditOf w 7 false ∧ (s.niAt 0).mgt.length < 8 := by decide +kernel

theorem test_hyps_WrapperInstructions : let s : State := { live with
      pins := { live.pins with testMode := true }
      wrapA := { Wrapper.reset with wir := 0x11, late := true, due := some (.verdict true) }
      wrapB := { Wrapper.reset with wir := 0x01, late := true, due := some (.capture [true]) } }
    (0xFF#8) ∉ [0x01#8, 0x02, 0x10, 0x11, 0x12] ∧ s.pins.porstN = true ∧ (s.pins.testMode = true ∧ (s.wrapAt .a).wir = 0x11 ∧ (s.wrapAt .a).due = some (.verdict true)) ∧
      ((s.wrapAt .b).wir = 0x01 ∧ (s.wrapAt .b).due = some (.capture [true])) := by decide +kernel

theorem test_hyps_ResetAsserted : (live.pins.porstN = true ∧ live.pins.warmN = true) ∧ (State.reset.pins.porstN = false ∧ State.reset.pins.warmN = true) ∧
    ({ live with pins := { live.pins with warmN := false } } : State).pins.warmN = false := by decide +kernel

theorem test_hyps_StartUp : let both : State := { State.reset with pins := { State.reset.pins with warmN := false } }
    let warm : State := { live with pins := { live.pins with warmN := false } }
    let last : State := { (live.setFld Off.GL_BOOT Fld.GL_BOOT.STEP 10) with pins := { live.pins with ready := false } }
    (both.pins.porstN = false ∧ both.pins.warmN = false) ∧ (State.reset.pins.porstN = false ∧ State.reset.pins.warmN = true) ∧ (warm.pins.porstN = true ∧ warm.pins.warmN = false) ∧
      bootDirOk bootIn.dir = false ∧ (last.inReset = false ∧ last.pins.ready = false ∧ last.fld Off.GL_BOOT Fld.GL_BOOT.STEP = 10 ∧ last.fld Off.GL_BOOT Fld.GL_BOOT.FAIL = 0) ∧
      live.fld Off.GL_BOOT Fld.GL_BOOT.STEP ≠ 10 := by decide +kernel

/-- A reference whose last mark carried time epoch 2, after which R54 gives 104,857 cycles, and one of epoch 3, with 104,858. -/
theorem test_hyps_KeeperTime : let a : State := { live with time := { Keeper.reset with armed := true } }
    let o : State := { a with time := { a.time with refA := { Ref.reset with errRun := 1 } } }
    let k : Keeper := { timed.time with refA := { Ref.reset with epoch := some 2 }, refB := { Ref.reset with epoch := some 3 }, switchTo := some true }
    let s : State := { timed with time := k }
    (live.time.running = false ∧ timed.time.running = true ∧ State.reset.inReset = true ∧ 64 < 65) ∧
      (a.inReset = false ∧ 65 ≤ 65 ∧ a.time.armed = true ∧ a.time.running = false ∧ (a.time.ref false).epoch = none ∧ false = a.flag Off.FT_CTRL Fld.FT_CTRL.PREF_REF ∧
        (a.time.ref false).lost = false ∧ (a.time.ref false).errRun = 0) ∧
      (o.inReset = false ∧ o.time.armed = true ∧ o.time.running = false ∧ (o.time.ref true).epoch = none ∧ true = !o.flag Off.FT_CTRL Fld.FT_CTRL.PREF_REF ∧ 0 < (o.time.ref false).errRun) ∧
      (s.inReset = false ∧ s.time.running = true ∧ (s.time.ref false).epoch = some 2 ∧ (104857 = if 2 % 5 = 2 ∨ 2 % 5 = 4 then 104857 else 104858) ∧ s.time.switchTo ≠ some false) ∧
      ((s.time.ref true).epoch = some 3 ∧ (104858 = if 3 % 5 = 2 ∨ 3 % 5 = 4 then 104857 else 104858) ∧ s.time.switchTo = some true) ∧
      (104858 ≠ if 2 % 5 = 2 ∨ 2 % 5 = 4 then 104857 else 104858) := by decide +kernel

theorem test_hyps_References : let s := timed
    let b : State := { timed with time := { timed.time with refB := { Ref.reset with lost := true }, syncWord := BitVec.ofNat 64 (2 ^ 24), boundary := 16 } }
    (s.inReset = false ∧ (s.time.ref false).lost = false ∧ s.time.running = true ∧ s.time.selB = false ∧ s.time.conf = .nominal ∧ (s.time.ref (!s.time.selB)).usable = true) ∧
      (b.time.ref (!b.time.selB)).usable = false ∧ ({ timed with time := { timed.time with conf := .holdover } } : State).time.conf = .holdover ∧
      (bits s.time.syncWord 10 54 < s.time.now / 1024 ∧ b.time.now / 1024 ≤ bits b.time.syncWord 10 54) ∧ (s.time.boundary < s.time.now / 2 ^ 20 ∧ b.time.now / 2 ^ 20 ≤ b.time.boundary) := by decide +kernel

/-- A mark whose word checks, one whose word does not, a held counter whose value true time has reached, and the crossing's limits. -/
theorem test_hyps_IslandTime : let w : W64 := BitVec.ofNat 64 (2 ^ 24 + crc8 (BitVec.ofNat 64 (2 ^ 24)))
    let at' := fun (i base : Nat) (held : Bool) (s : State) => s.modIsl i (fun l => { l with base := base, since := 2 ^ 24, tru := base, held := held, takeNext := false, moving := true })
    let t : State := { timed with time := { timed.time with syncWord := w }, ev := [(239, ⟨3⟩), (2, ⟨2⟩)] }
    let s := at' 0 (2 ^ 28) false <| at' 1 (2 ^ 28 + 49) false <| at' 2 (2 ^ 28 + 1025) false <| at' 3 (2 ^ 28 - 1025) false <| at' 4 (2 ^ 28 + 1) true <| at' 47 (2 ^ 28) true t
    let e := fun i : Fin 48 => (s.local16 i : Int) - (bits w 10 54 * 1024 * 16 + s.fld (Off.FT_ISL_DELAY i) Fld.FT_ISL_DELAY.TREE_DELAY : Nat)
    (live.time.running = false ∧ s.time.running = true ∧ (∀ i : Fin 48, s.oscRuns i = true) ∧ s.time.syncWord ^^^ 0 = w ∧ bits w 0 8 = crc8 w ∧ bits (w ^^^ 1) 0 8 ≠ crc8 (w ^^^ 1)) ∧
      ((s.islAt 5).takeNext = true ∧ (s.islAt 0).takeNext = false ∧ e 0 = 0 ∧ e 1 = 49 ∧ e 2 = 1025 ∧ e 3 = -1025 ∧ ((s.islAt 4).held = true ∧ e 4 = 1)) ∧
      ((s.islAt 47).takeNext = false ∧ (s.islAt 47).held = true ∧ (s.islAt 47).base ≤ (s.islAt 47).tru + 16 * (s.uptime - (s.islAt 47).since) ∧ (s.islAt 47).moving = true) ∧
      (∀ i : Fin 48, s.runs i = true) ∧ (evExists 0 2 = true ∧ s.evReady (0 * 5 + 2) = true ∧ (s.evAt (0 * 5 + 2)).waiting < 3) ∧ evExists 0 0 = false ∧
      (evExists 47 4 = true ∧ s.evReady (47 * 5 + 4) = true ∧ 3 ≤ (s.evAt (47 * 5 + 4)).waiting) ∧ s.inReset = false := by decide +kernel

/-- A head for the router's own port, and a head that carries a body. -/
def hopHdr : Hdr := { Hdr.zero with route := (⟨1, 1, 0, 0, 0, 0, 0, true⟩ : Route).word, vn := 5 }

theorem test_hyps_FlitArrival : let h1 : Hdr := { hopHdr with len := 1 }
    let b : Flit := .body false 5 1 true 0 0 full
    let s : State := { timed with wire := [(0, [.head false hopHdr 0]), (1, [b])] }
    let r : State := { s with nbrBase := .on }.modRt 0 (fun r => r.setRx (laneIx 1 5 false) ⟨some h1, 1, false⟩)
    let x : State := s.modRt 0 (fun r => r.setRx (laneIx 1 5 false) ⟨none, 1, true⟩)
    (s.runs (tileIsland 0) = true ∧ s.wireAt 0 = .head hopHdr.gt hopHdr 0 :: [] ∧ s.flipsAt 0 = [] ∧ ((s.rtAt 0).laneRx (laneIx 0 5 false)).h = none) ∧
      (headMalformed 0 hopHdr = false ∧ s.nbrOf 0 hopHdr.out ≠ .unreach ∧ s.fenced 0 hopHdr.out = true ∧ LaneErrs.clean.ueWord = none ∧ headMalformed 0 Hdr.zero = true ∧
        LaneErrs.ueWord ⟨0, 4, false⟩ = some 2 ∧ LaneErrs.ueWord ⟨0, 3, false⟩ = some 0) ∧
      (r.runs (tileIsland 0) = true ∧ r.wireAt 1 = b :: [] ∧ r.flipsAt 1 = [] ∧ ((r.rtAt 0).laneRx (laneIx 1 5 false)).dropping = false ∧ ((r.rtAt 0).laneRx (laneIx 1 5 false)).h = some h1) ∧
      ((x.rtAt 0).laneRx (laneIx 1 5 false)).dropping = true ∧ (((s.rtAt 0).laneRx (laneIx 1 5 false)).dropping = false ∧ ((s.rtAt 0).laneRx (laneIx 1 5 false)).h = none) := by decide +kernel

theorem test_hyps_OutputsAndCredits : let s : State := { timed with nbrBase := .on, allHeld := false }.modRt 0 (fun r => r.setLane (laneIx 4 5 false) [⟨.head false hopHdr 0, 0, 0, false⟩])
    let free := fun (s : State) => ((s.outWants 0 1).filter (fun w => w.2 == .no)).map (·.1)
    let o : State := { timed with owed := [(laneKey (LinkPort.tile 191 3).key 7 true, 1)] }
    let w := creditWord (fun v => if v = 0 then (0, 3) else (0, 0))
    let c : State := { timed with cwire := [((LinkPort.ni 0).key, [w])], used := [(laneKey (LinkPort.ni 0).key 0 false, 3)] }
    (portEdge 0 1 = false ∧ s.runs (tileIsland 0) = true ∧ s.nbrOf 0 1 ≠ .unreach ∧ (∀ v : Fin 8, (s.rtAt 0).progAt 0 v = none) ∧ free s ≠ [] ∧ free timed = []) ∧
      (portSeam 191 3 = none ∧ o.owedAt (LinkPort.tile 191 3).key 7 true ≠ 0 ∧ o.runs (LinkPort.tile 191 3).island = true ∧ o.linkHeld (LinkPort.tile 191 3).key = false ∧
        (o.creditWords (LinkPort.tile 191 3).key).length < 8) ∧ (c.runs (LinkPort.ni 0).sender = true ∧ c.linkHeld (LinkPort.ni 0).key = false) ∧
      (KMap.get (fun _ => []) c.cwire (LinkPort.ni 0).key = w :: [] ∧ ∀ v : Fin 8, ∀ gt, creditOf w v gt ≤ c.usedAt (LinkPort.ni 0).key v gt) := by decide +kernel

/-- A gate list of one window over the first 64 ft of each frame for output E of tile 0, and a P2 packet in progress there. -/
theorem test_hyps_RouterControls : let p : Prog := ⟨4, false, hopHdr, 1, false⟩
    let s := timed.modRt 0 (fun r => { r with closing := [(1, true)], unionOld := some (1, 2 ^ 24 - 256), nbrSent := [(1, some .on)] })
    let r : State := ({ timed with tab := [(tabKey (tileL0 0) 0 Sec.RTGATE 1 0, BitVec.ofNat 64 (2 ^ 16)), (tabKey (tileL0 0) 0 Sec.RTGATE 1 1, BitVec.ofNat 64 (2 ^ 62 + 1024 * 2 ^ 16))] }.modRt 0 (fun r => r.setProg 1 5 (some p))).modIsl 0
      (fun l => { l with conf := .nominal, fabConf := .nominal })
    (s.runs (tileIsland 0) = true ∧ s.nbrSentAt 0 1 = some .on ∧ s.nbrTaken 0 1 ≠ .on ∧ s.nbrSentAt 0 2 ≠ some .on) ∧
      (portEdge 0 1 = false ∧ portFlag (s.rtAt 0).closing 1 = true ∧ (∀ v : Fin 8, (s.rtAt 0).progAt 1 v = none) ∧ s.wireAt (outKey 0 1) = []) ∧
      (r.gtOpening 0 1 = some (2 ^ 28) ∧ r.runs (tileIsland 0) = true ∧ r.outMode 0 1 = .fit ∧ KMap.get (fun _ => 0) (r.rtAt 0).glSeen 1 ≠ 2 ^ 28 + 1 ∧ (r.rtAt 0).progAt 1 5 = some p ∧ p.gt = false ∧
        s.outMode 0 1 = .closed) ∧
      ((s.rtAt 0).unionOld = some (1, 2 ^ 24 - 256) ∧ 2 ^ 24 - 256 + 256 ≤ s.rtTime 0) ∧
      (s.runs (tileIsland 191) = true ∧ s.runs (niIsland 255) = true) := by decide +kernel

/-! ### Network interfaces -/

/-- Tables of NI n: an address map of one window of a KIND over everything that leads to an NI, and a Strainer shadow that allows everything. -/
def wide (n kind dest : Nat) : KMap W64 :=
  [(tabKey n 0 Sec.ADDRMAP 0 0, BitVec.ofNat 64 (kind * 2 ^ 60 + 52 * 2 ^ 54)), (tabKey n 0 Sec.ADDRMAP 0 1, BitVec.ofNat 64 (0xFFFF * 2 ^ 48 + dest * 2 ^ 40)),
    (tabKey n 0 Sec.SHADOW 0 0, BitVec.ofNat 64 (2 ^ 63 + 52 * 2 ^ 54)), (tabKey n 0 Sec.SHADOW 0 1, 0xE0000000)]

/-- A Destination Group Table entry of MODE 1 for group 0: port engine 5. -/
def grouped (n : Nat) : KMap W64 := [(tabKey n 0 Sec.DGT 0 0, BitVec.ofNat 64 (2 ^ 62 + 2 ^ 24 + 5 * 2 ^ 18))]

theorem test_hyps_AdmissionPipeline : let w := req Vn.ION 2 [full]
    let s : State := { timed with tab := wide 40 3 254 }
    let m : State := { timed with tab := grouped 40 }
    let low : State := { timed with dom := [(niIsland 40, { Domain.reset with st := .cg })] }
    let fen := s.setFld (Off.NI_CTRL 40) Fld.NI_CTRL.FENCE_SW 1
    (low.presents 40 = true ∧ reqOpcode w.vn w.opcode = true ∧ (low.niAt 40).comps = [] ∧ low.admits 40 = false) ∧
      (s.identify 40 w = w ∧ w.pieces ≠ [] ∧ s.presents 40 = true ∧ s.admits 40 = true ∧ s.niFenced 40 = false ∧ s.agentFenced 40 w.agent = false ∧ (s.niAt 40).strain.hold = false ∧ (s.niAt 40).strain.stale = false ∧
        s.strainer 40 0 w.vn w.opcode w.agent w.priv w.line = .pass ∧ (s.routeTo 40 0 254).isSome = true ∧ s.decodeMap 40 0 w.vn w.opcode w.line = .to 254) ∧
      (m.peaList 40 0 (3 % 2 ^ 20) = some [5] ∧ m.pickPea 40 0 [5] = some (0, 173) ∧ (m.routeTo 40 0 173).isSome = true) ∧
      (isPort 40 = false ∧ reqOpcode Vn.REQ 0 = false ∧ fen.niFenced 40 = true ∧ timed.strainer 40 0 w.vn w.opcode w.agent w.priv w.line = .noMatch ∧
        s.decodeMap 40 0 Vn.REQ 1 0 = .miss) := by decide +kernel

/-- A write waiting for step 6, and a fence whose mask names slice 2. -/
def waiting (r : Req) (dest : Nat) : Waiting :=
  { r := r, seq := 1, dest := dest, route := (⟨1, 1, 0, 0, 0, 0, 0, true⟩ : Route).word, pri := 1, colour := 3, epoch := 0, flow := none, todo := r.pieces, xfer := 1 }

theorem test_hyps_TagAllocation : let w := waiting (req Vn.ION 2 [full]) 254
    let v := waiting (req Vn.IOP 1 [full]) 254
    let s := withNi 40 (fun u => { u with wait := [w, v] })
    let f : Held := ⟨req Vn.REQ 8 [], 1, 0⟩
    let e := withNi 40 (fun u => { u with fences := [f] })
    let m := withNi 40 (fun u => { u with fences := [f], fenceMask := 4 })
    (s.runs (niIsland 40) = true ∧ s.nextWaiting 40 = some (0, w) ∧ w.todo = [⟨0, 0, [full], true⟩] ∧ w.r.posted = false) ∧
      ((withNi 40 (fun u => { u with wait := [v] })).nextWaiting 40 = some (0, v) ∧ v.r.posted = true) ∧
      ((e.niAt 40).fences = [f] ∧ e.earlierReq 40 f.seq = false ∧ (e.niAt 40).fenceMask = 0 ∧ isPort 40 = false) ∧
      (m.earlierReq 40 f.seq = false ∧ (m.niAt 40).fenceMask ≠ 0 ∧ (m.niAt 40).comps = [] ∧
        ∀ h : Fin 16, (m.niAt 40).fenceMask.getLsbD h = true → (m.routeTo 40 (m.bankOf 40 f.epoch).1 (sliceNi h)).isSome = true) := by decide +kernel

/-- An answer on a VN. -/
def answerOn (vn op dest : Nat) : Answer :=
  ⟨dest, Pkt.one { Hdr.zero with vn := BitVec.ofNat 3 vn, opcode := BitVec.ofNat 6 op } (lineOfWords [BitVec.ofNat 64 (dest * 2 ^ 48)]), none, 5⟩

/-- Every injection queue of an NI without packets has room. -/
theorem test_room : ∀ pri flow, ((withNi 40 (fun u => { u with answers := [answerOn Vn.SNP 1 3] })).niAt 40).queueRoom pri flow = true := by
  intro pri flow
  have h : ((withNi 40 (fun u => { u with answers := [answerOn Vn.SNP 1 3] })).niAt 40) = { Ni.reset 40 with answers := [answerOn Vn.SNP 1 3] } := by decide +kernel
  rw [h]
  cases flow <;> simp [Ni.queueRoom, Ni.flow, KMap.get, Flow.zero, Ni.reset]

theorem test_hyps_SendAnswer : let s := withNi 40 (fun u => { u with answers := [answerOn Vn.MGT 1 248] })
    let c := withNi 40 (fun u => { u with answers := [answerOn Vn.SNP 1 3] })
    let r := withNi 40 (fun u => { u with answers := [answerOn Vn.RSP 1 3] })
    let l := withNi 40 (fun u => { u with leaf := { u.leaf with stamps := [(answerOn Vn.IOP 4 3).p] } })
    (s.runs (niIsland 40) = true ∧ (s.niAt 40).answers ≠ [] ∧ (s.niAt 40).mgt.length < 6) ∧
      (c.freeTag 40 Vn.SNP = some 0 ∧ (c.routeTo 40 0 3).isSome = true ∧ niType 40 ≠ .hsl ∧ snpRx (answerOn Vn.SNP 1 3).p ≤ (c.niAt 40).rxFree ∧ (r.niAt 40).answers ≠ []) ∧
      (l.runs (niIsland 40) = true ∧ (l.niAt 40).answers = [] ∧ (l.niAt 40).leaf.stamps = [(answerOn Vn.IOP 4 3).p] ∧ (answerOn Vn.IOP 4 3).p.lines = [] ∧
        bits ((answerOn Vn.IOP 4 3).p.word 0) 48 8 = 3 ∧ (l.routeTo 40 0 3).isSome = true) := by decide +kernel

/-- A P1 request of two flits queued, with its head next and then with its body next, and one for the NI itself. -/
theorem test_hyps_Injection : let h : Hdr := { Hdr.zero with vn := 4, pri := 1, len := 1, opcode := 1, route := bootRoute 40 41, mid := 0 }
    let q : QPkt := ⟨⟨h, 0, [full]⟩, 41, 0, false, 0⟩
    let b : Flit := .body false 4 1 true 0 0 full
    let s := ((withNi 40 (fun u => { u with p1 := [q] })).setFld Off.GL_LID_CTRL Fld.GL_LID_CTRL.POT_CLOSE 0).setFld Off.GL_LID_CTRL Fld.GL_LID_CTRL.SAUCER 0
    let g := withNi 40 (fun u => { u with inj := [(4, [b], q, 3)] })
    let open1 := fun (s : State) => (s.injCands 40).filter (fun c => c.2 == .no)
    (timed.runs (niIsland 40) = true ∧ timed.flipsAt (bufFlipKey 40) = [] ∧ open1 timed = []) ∧
      (open1 s = [(⟨3, 4, false, false, 1⟩, .no)] ∧ bestCand (fun _ => 0) ((open1 s).map (·.1)) = some ⟨3, 4, false, false, 1⟩ ∧ (s.niAt 40).queueHead 3 4 = some (q, none)) ∧
      (open1 g = [(⟨3, 4, false, true, 1⟩, .no)] ∧ KMap.get (fun _ => noInj) (g.niAt 40).inj 4 = (b :: [], q, 3)) := by decide +kernel

/-- A state with the flits of one packet at the input of NI n. -/
def arrived (n : Nat) (s : State) (p : Pkt) : State := { s with wire := [(niKey n, p.flits)] }

/-- A whole, well-formed packet of a VN waits at the input of an NI that runs. -/
def arrivedOk (n : Nat) (s : State) (p : Pkt) (vn : Nat) : Bool :=
  s.runs (niIsland n) && (s.flipsAt (niKey n)).isEmpty && frontPkt vn (oldLane vn (s.wireAt (niKey n))) (s.wireAt (niKey n)) == some (p.flits, []) &&
    pktOf p.flits == some p && !pktMalformed p.flits && s.rxRoom n p && !p.asPoisoned.reservedValue && p.asPoisoned.h.vn.toNat == vn && knownOpcode vn p.asPoisoned.h.opcode.toNat && !isPort n

/-- Whole packets at an NI's input: a request for a home slice, and responses for tag 9. -/
theorem test_hyps_PacketReceive : let rds : Pkt := Pkt.one { Hdr.zero with vn := 0, opcode := 1, src := 3, agent := 1 } 0
    let rsp : Nat → Nat → Pkt := fun n op => Pkt.one { Hdr.zero with vn := 2, opcode := BitVec.ofNat 6 op, src := 232, tag := 9, agent := 1, mid := midOf 0 n 0 } 0
    let ask : Pkt := Pkt.one { Hdr.zero with vn := 0, opcode := 1, agent := 1 } 0
    let snp : Pkt := Pkt.one { Hdr.zero with vn := 1, opcode := 1, agent := 1 } 0
    let tg : Nat → TagSt → Pkt → State := fun n st q => withNi n (fun u => u.setTag 9 { Tag.freed with st := st, req := some q })
    let fen := (arrived 232 timed rds).setFld (Off.NI_CTRL 232) Fld.NI_CTRL.FENCE_SW 1
    (arrivedOk 232 (arrived 232 timed rds) rds 0 = true ∧ niType 232 = .hsl ∧ (arrived 232 timed rds).niFenced 232 = false) ∧ (arrivedOk 232 fen rds 0 = true ∧ vnAsks 0 = true ∧ fen.niFenced 232 = true) ∧
      (arrivedOk 40 (arrived 40 timed (rsp 40 1)) (rsp 40 1) 2 = true ∧ vnResponse 2 = true ∧ (rsp 40 1).asPoisoned.h.town = 40 ∧ (timed.niAt 40).tag 9 = Tag.freed) ∧
      (arrivedOk 40 (arrived 40 (tg 40 .quarantine ask) (rsp 40 1)) (rsp 40 1) 2 = true ∧ expectsVn ask.h 2 = true ∧ ask.h.agent = (rsp 40 1).h.agent ∧ isRetry (rsp 40 1).h = false) ∧
      (arrivedOk 40 (arrived 40 (tg 40 .opened ask) (rsp 40 3)) (rsp 40 3) 2 = true ∧ isRetry (rsp 40 3).h = true ∧ 0 < timed.fld (Off.NI_RETRY 40) Fld.NI_RETRY.MAX) ∧
      (arrivedOk 232 (arrived 232 (tg 232 .opened snp) (rsp 232 4)) (rsp 232 4) 2 = true ∧ expectsVn snp.h 2 = true ∧ isRetry (rsp 232 4).h = false ∧ (rsp 232 4).asPoisoned.h.town = 232) := by decide +kernel

theorem test_hyps_TagTimers : let ask : Pkt := Pkt.one { Hdr.zero with vn := 0, opcode := 1, agent := 1 } 0
    let rsp : Pkt := Pkt.one { Hdr.zero with vn := 2, opcode := 1, src := 232, tag := 7, agent := 1, mid := midOf 0 40 0 } 0
    let s := withNi 40 (fun u => u.setTag 255 { Tag.freed with st := .opened, req := some ask, dest := 232, sentAt := some 0 })
    let q := withNi 40 (fun u => u.setTag 0 { Tag.freed with st := .quarantine, quarAt := 2 ^ 24 })
    let r := withNi 40 (fun u => u.setTag 7 { Tag.freed with st := .retryWait, req := some ask, dest := 232, retryAt := 2 ^ 24 })
    let x := r.modNi 40 (fun u => { u with ep := { u.ep with boot := false } })
    let d : State := { r with wire := [(niKey 40, rsp.flits)] }
    (isPort 40 = false ∧ ((s.niAt 40).tag 255).st = .opened ∧ ((s.niAt 40).tag 255).sentAt = some 0 ∧ s.timeRuns 40 = true ∧ 0 + s.timeoutFt 40 ((s.niAt 40).tag 255) ≤ s.niTime 40 ∧
        s.answerDue 40 255 false = false ∧ s.timeoutDue 40 ((s.niAt 40).tag 255) = true) ∧
      (((q.niAt 40).tag 0).st = .quarantine ∧ ((q.niAt 40).tag 0).quarAt ≤ q.niTime 40 ∧ q.answerDue 40 0 true = false) ∧
      (((r.niAt 40).tag 7).st = .retryWait ∧ ((r.niAt 40).tag 7).retryAt ≤ r.niTime 40 ∧ r.timeoutDue 40 ((r.niAt 40).tag 7) = false ∧ r.answerDue 40 7 false = false ∧
        ((r.niAt 40).tag 7).req = some ask ∧ (r.contract 40 0 232 0 1).route0 = false ∧ (r.routeTo 40 0 232).isSome = true) ∧
      ((x.contract 40 0 232 0 1).route0 = false ∧ x.routeTo 40 0 232 = none ∧ ((x.niAt 40).tag 7).req = some ask) ∧
      (d.answerDue 40 7 false = true ∧ d.answerDue 40 7 true = true) := by decide +kernel

theorem test_hyps_NiControls : let w : W64 := BitVec.ofNat 64 (2 ^ 62 + 5 * 2 ^ 50 + 254 * 2 ^ 40)
    let h : QPkt := ⟨Pkt.one { Hdr.zero with vn := 5, pri := 3 } 0, 254, 5, false, 0⟩
    let s := ({ timed with tab := [(tabKey 40 0 Sec.INJGATE 0 3, w)] } : State).modNi 40 (fun u => u.setFlow 3 ⟨[h], false, false, 0, 0⟩)
    let d := withNi 40 (fun u => u.setFlow 3 ⟨[h], true, false, 2 ^ 24, 0⟩)
    let bad := withNi 0 (fun u => u.setMeter 15 { Meter.zero with pRate := BitVec.ofNat 64 (2 ^ 63) })
    let wide' := timed.setPend (Off.NI_TAG_CFG 40) 0xFFFF
    let cfgs := fun (s : State) => (List.range 4).map (fun p => s.pendOf (Off.NI_SHAPER_CFG 40 p))
    let noisy := timed.setPend (Off.NI_SHAPER_CFG 40 0) (BitVec.ofNat 64 (2 ^ 63))
    let late := withNi 40 (fun u => { u with refillAt := 2 ^ 24 })
    let held := timed.modIsl (niIsland 40) (fun l => { l with held := true })
    (bits (timed.pendOf (Off.NI_TAG_CFG 40)) 0 8 + bits (timed.pendOf (Off.NI_TAG_CFG 40)) 8 8 ≤ 224 ∧ 224 < bits (wide'.pendOf (Off.NI_TAG_CFG 40)) 0 8 + bits (wide'.pendOf (Off.NI_TAG_CFG 40)) 8 8) ∧
      (isPort 40 = false ∧ (timed.niAt 40).fenceHw = false ∧ isPort 0 = true ∧ (timed.niAt 0).comps = [] ∧ (timed.niAt 0).strain.held = []) ∧
      (shaperBad (cfgs timed) (bits (timed.pendOf (Off.NI_QOS_CTRL 40)) 12 4) = false ∧ shaperBad (cfgs noisy) (bits (noisy.pendOf (Off.NI_QOS_CTRL 40)) 12 4) = true) ∧
      (niHasMeter 0 = true ∧ (∀ m : Fin 16, meterBad ((timed.niAt 0).meter m).pRate ((timed.niAt 0).meter m).pBurst = false) ∧ meterBad ((bad.niAt 0).meter 15).pRate ((bad.niAt 0).meter 15).pBurst = true) ∧
      (((s.niAt 40).flow 3).head = some h ∧ s.isFlow 40 3 = true ∧ ((s.niAt 40).flow 3).due = false ∧ ((s.niAt 40).flow 3).orphans = 0 ∧ s.timeRuns 40 = true ∧ s.inReset = false) ∧
      (((d.niAt 40).flow 3).due = true ∧ ((d.niAt 40).flow 3).missed = false ∧ h.p.h.gt = true ∧ ((d.niAt 40).flow 3).slotEnd ≤ d.niTime 40) ∧
      (held.timeRuns 40 = false ∧ State.reset.inReset = true ∧ late.niTime 40 < late.refillNext 40 ((late.niAt 40).refillAt + 1)) ∧
      ((timed.niAt 40).shaperCommit = none ∧ (timed.niAt 40).shaperDefaults = none ∧ timed.refillNext 40 ((timed.niAt 40).refillAt + 1) ≤ timed.niTime 40 ∧ bit (timed.shaperCfg 40 0) 63 = false) := by decide +kernel

/-! ### Registers, diagnosis and the home slices -/

/-- GL_BLS_SEL, a plain register, reached by its low half, its high half and the whole of it; an access that misses its multiple. -/
theorem test_hyps_RegisterWrites : let a : BitVec 24 := BitVec.ofNat 24 (Off.NI_METER_MATCH 0 0 / 4)
    let o := Off.NI_METER_MATCH 0 0
    (4 * a.toNat % 8 = 0 ∧ 4 * a.toNat / 8 * 8 = o ∧ timed.regLive (4 * a.toNat) = true ∧ (rowAt o).isSome = true ∧ (rowAt o).all (fun r => !timed.rowHidden r) = true ∧
      (timed.wholeWrite o 1 (reachOf (4 * a.toNat) 8)).isNone = true ∧ (fieldActs o).isEmpty = true ∧ timed.locked = false) ∧
      (timed.setFld Off.ST_CTRL Fld.ST_CTRL.LOCK 1).locked = true ∧ (4 * (1 : BitVec 24).toNat % 8 ≠ 0 ∧ State.reset.regLive 0 = false) := by decide +kernel

theorem test_hyps_BlStoreAndDebugPort : let dbg : State := { timed with pins := { timed.pins with debugEn := true } }
    let o := timed.fld Off.GL_BLS_SEL Fld.GL_BLS_SEL.OFFSET * 8
    let m := timed.setFld Off.GL_BLS_SEL Fld.GL_BLS_SEL.OFFSET (Off.NI_PORT_CFG 8 / 8)
    let busy : State := { dbg with dbg := { dbg.dbg with busy := true, sel := 0 } }
    let far : State := { dbg with dbg := { dbg.dbg with busy := true, sel := 0x800000 } }
    (timed.inReset = false ∧ timed.locked = false ∧ ((rowAt o).isNone = true ∨ (offDomain o).isNone = true)) ∧
      (m.locked = false ∧ (rowAt (m.fld Off.GL_BLS_SEL Fld.GL_BLS_SEL.OFFSET * 8)).isSome = true ∧ (offDomain (m.fld Off.GL_BLS_SEL Fld.GL_BLS_SEL.OFFSET * 8)).isSome = true ∧ m.pot.bls.length < 512) ∧
      (dbg.debugLive = true ∧ busy.debugLive = true ∧ busy.dbg.busy = true ∧ debugAllows busy.dbg.sel = true ∧ debugAllows far.dbg.sel = false ∧ timed.debugLive = false) := by decide +kernel

theorem test_hyps_DiagnosticAccess : let sel : W64 := BitVec.ofNat 64 (2 * 2 ^ 60)
    let raw : W64 := BitVec.ofNat 64 (2 ^ 63)
    let s := timed.wr (Off.NI_DIAG_SEL 40) raw
    let none' := s.modNi 40 (fun u => { u with txFree := 0 })
    let bad : State := { timed with tabBad := [(tabKey 40 1 3 0 7, true)] }
    (2 ≤ bits sel 60 2 ∧ bits (0 : W64) 60 2 < 2 ∧ timed.diagStored 40 0 0 0 = false) ∧
      (bit (timed.rd (Off.NI_DIAG_SEL 40)) 63 = false ∧ bit (s.rd (Off.NI_DIAG_SEL 40)) 63 = true ∧ (s.niAt 40).txFree ≠ 0 ∧ 1024 ≤ (s.niAt 40).txFree ∧ (none'.niAt 40).txFree = 0) ∧
      (bad.domOn 64 = true ∧ KMap.get (fun _ => false) bad.tabBad (tabKey 40 1 3 0 7) = true) := by decide +kernel

/-- Slice 0 with its tables: agents 1 and 2 of CPAs 3 and 4, all memory at MPA 8; a request from agent 1 waits at its NI, and the requester of class REQ has the pipeline. -/
def homeWith (q : Pkt) (f : Slice → Slice) : State :=
  let s := (((timed.setTab 232 0 Sec.MEMMAP 0 0 (BitVec.ofNat 64 (2 ^ 63 + 52 * 2 ^ 54))).setTab 232 0 Sec.MEMMAP 0 1 (BitVec.ofNat 64 (8 * 2 ^ 56))).setTab 232 0 Sec.AGENT 0 1
    (BitVec.ofNat 64 (3 * 2 ^ 62 + 3 * 2 ^ 48))).setTab 232 0 Sec.AGENT 0 2 (BitVec.ofNat 64 (3 * 2 ^ 62 + 4 * 2 ^ 48))
  (s.modNi 232 (fun u => { u with inbox := [(q, 0, 5)] })).modSlice 0 (fun x => f { x with cur := some ⟨3, 1, false⟩ })

/-- A request of agent 1 for line 0. -/
def homeReq (op : Nat) : Pkt := Pkt.one { Hdr.zero with opcode := BitVec.ofNat 6 op, src := 3, agent := 1 } (lineOfWords [0, 0xF])

/-- Line 0 in way 0, in the state of a view. -/
def holdsLine (v : View) (x : Slice) : Slice := x.setSlot 0 0 v.word 0

theorem test_home_idle : (homeWith (homeReq 1) id).homeIdle 0 0 ∧ (homeWith (homeReq 1) (holdsLine { View.u with st := 3, owner := some 2 })).homeIdle 0 0 := by
  unfold State.homeIdle State.homeReady; decide +kernel

theorem test_home_memory : (homeWith (homeReq 1) id).homeMemory 0 (homeReq 1).h 8 ∧ (homeWith (homeReq 5) id).homeMemory 0 (homeReq 5).h 8 ∧ (homeWith (homeReq 6) id).homeMemory 0 (homeReq 6).h 8 :=
  ⟨⟨by decide +kernel, by decide +kernel, 0, by decide +kernel⟩, ⟨by decide +kernel, by decide +kernel, 0, by decide +kernel⟩, ⟨by decide +kernel, by decide +kernel, 0, by decide +kernel⟩⟩

theorem test_hyps_HomeReads : let own : View := { View.u with st := 3, owner := some 2 }
    let shr : View := { View.u with st := 1, ptrs := [1] }
    let s := homeWith (homeReq 1) id
    let o := homeWith (homeReq 2) (holdsLine own)
    let g := homeWith (homeReq 3) (holdsLine shr)
    (s.grantedReq 0 1 = some (0, homeReq 1) ∧ (s.sliceAt 0).hitWay 0 = none ∧ ((s.sliceAt 0).freeWay (setOf 0)).isSome = true ∧ 1 ≤ s.demandTags 232) ∧
      (o.grantedReq 0 2 = some (0, homeReq 2) ∧ (o.sliceAt 0).hitWay 0 = some 0 ∧ View.ofWord ((o.sliceAt 0).slot (setOf 0) 0).1 = own ∧ 2 ≠ (homeReq 2).h.agent.toNat ∧ 1 ≤ o.demandTags 232) ∧
      (g.grantedReq 0 3 = some (0, homeReq 3) ∧ (g.sliceAt 0).hitWay 0 = some 0 ∧ View.ofWord ((g.sliceAt 0).slot (setOf 0) 0).1 = shr) ∧
      (homeWith (homeReq 4) id).grantedReq 0 4 = some (0, homeReq 4) := by decide +kernel

theorem test_hyps_HomeWrites : let s := homeWith (homeReq 5) id
    let b := homeWith (homeReq 6) (holdsLine { View.u with st := 3, owner := some 1 })
    let hs : Pkt := Pkt.one { Hdr.zero with opcode := 9, src := 3, agent := 1 } 0
    let x := ((homeWith hs id).setTab 232 0 Sec.ADDRMAP 0 0 (BitVec.ofNat 64 (2 * 2 ^ 60 + 52 * 2 ^ 54))).setTab 232 0 Sec.ADDRMAP 0 1 (BitVec.ofNat 64 (3 * 2 ^ 40))
    (s.grantedReq 0 5 = some (0, homeReq 5) ∧ (homeReq 5).word 1 ≠ 0 ∧ (s.sliceAt 0).hitWay 0 = none) ∧
      (b.grantedReq 0 6 = some (0, homeReq 6) ∧ (b.sliceAt 0).hitWay 0 = some 0 ∧ (View.ofWord ((b.sliceAt 0).slot (setOf 0) 0).1).owner = some 1) ∧
      ((homeWith (homeReq 6) id).grantedReq 0 6 = some (0, homeReq 6) ∧ (homeWith (homeReq 7) id).grantedReq 0 7 = some (0, homeReq 7)) ∧
      ((homeWith (homeReq 8) id).grantedReq 0 8 = some (0, homeReq 8) ∧ (homeWith (homeReq 8) id).accepts 0 0 (homeReq 8).h none = true ∧ (s.sliceAt 0).recs = []) ∧
      (x.grantedReq 0 9 = some (0, hs) ∧ niType 3 = .cpa ∧ (x.proxyOf 0 0 0).isSome = true ∧ (x.sliceAt 0).hitWay 0 = none) := by decide +kernel

/-- A transaction for line 0 of agent 1 with these demands open. -/
def txWith (ds : List Dem) : Tx :=
  { num := 0, kind := .req 1, line := 0, proxy := none, h := (homeReq 1).h, w2 := 0, mask := 0, epoch := 0, set := 0, way := some 0, bcast := false, old := View.u, new := View.u, dems := ds, unsent := [],
    recalling := false, wdat := false, wbs := [], gave := [], ackw := none, data := none, dirty := false, wdata := none, forwarded := false, read := true, failed := 0, poison := false,
    poisonAnswer := false, stgUe := false, stgBad := false, kept := 0, hit := false, closing := false, visible := false, nresp := 1, grant := 0, needData := true, perr := false, start := 0,
    lines := 0, staged := true, raised := 0, lost := none }

/-- A request for line 0 waits for a way, with its requester in front. -/
def homeWaiter : State := homeWith (homeReq 1) (fun x => { x with waits := [⟨homeReq 1, 0, true, 5, some 4⟩] })

theorem test_home_waiter : homeWaiter.homeReady 0 0 ∧ homeWaiter.homeMemory 0 (homeReq 1).h 8 :=
  ⟨by unfold State.homeReady; decide +kernel, by decide +kernel, by decide +kernel, 0, by decide +kernel⟩

theorem test_hyps_HomeResponses : let d1 : Dem := ⟨1, 4, 8, 0, .read, false⟩
    let d2 : Dem := ⟨2, 1, 3, 1, .sharer, false⟩
    let ans : Pkt := Pkt.ofLines { Hdr.zero with vn := 3, opcode := 4, src := 8 } [full]
    let wd : Pkt := Pkt.ofLines { Hdr.zero with vn := 3, opcode := 2, src := 3, mid := midOf 0 3 0 } [full]
    let ca : Pkt := Pkt.one { Hdr.zero with vn := 2, opcode := 5, src := 3, mid := midOf 0 3 0 } 0
    let front := fun (q : Pkt) (id : Nat) (f : Slice → Slice) => (homeWith q f).modNi 232 (fun u => { u with inbox := [(q, id, 5)] })
    let s := front ans 1 (fun x => { x with cur := some ⟨1, 1, false⟩, recs := [txWith [d1, d2]] })
    let w := front wd 0 (fun x => { x with cur := some ⟨1, 1, false⟩, recs := [{ txWith [d2] with wdat := true }] })
    let a := front ca 0 (fun x => { x with cur := some ⟨1, 1, false⟩, recs := [{ txWith [] with ackw := some 0, closing := true }] })
    let q := homeWaiter
    (s.runs 48 = true ∧ (s.sliceAt 0).granted 1 = true ∧ (s.takeIn 232 3 (fun q => q.h.opcode.toNat == 4)).map (fun e => (e.1, e.2.1)) = some (ans, 1) ∧
      (s.sliceAt 0).recs.find? (fun t => t.dems.any (fun e => e.id == 1)) = some (txWith [d1, d2]) ∧ (txWith [d1, d2]).dems.find? (fun e => e.id == 1) = some d1 ∧
      (txWith [d1, d2]).dems.filter (fun e => e.id != 1) ≠ [] ∧ (∀ r ∈ (s.sliceAt 0).recs, r.staged = true)) ∧
      ((w.takeIn 232 3 (fun q => q.h.opcode.toNat == 2)).map (fun e => (e.1, e.2.1)) = some (wd, 0) ∧
        ((w.sliceAt 0).recs.find? (fun t => t.wdat && t.h.src.toNat == wd.h.town && t.h.tag == wd.h.tag)).isSome = true) ∧
      ((a.takeIn 232 2 (fun q => q.h.opcode.toNat == 5)).map (fun e => (e.1, e.2.1)) = some (ca, 0) ∧
        ((a.sliceAt 0).recs.find? (fun t => t.ackw.isSome && t.h.src.toNat == ca.h.town && t.h.tag == ca.h.tag)).isSome = true) ∧
      ((a.sliceAt 0).tx 0 = some { txWith [] with ackw := some 0, closing := true } ∧ a.timeRuns 232 = true ∧ 0 + 2 ^ (a.fld (Off.NI_TIMEOUT 232) Fld.NI_TIMEOUT.TO_COH + 10) ≤ a.niTime 232) ∧
      ((q.sliceAt 0).granted 3 = true ∧ q.waiterFirst 0 = true ∧ q.waitFront 0 = some (0, 4) ∧ (q.sliceAt 0).busy 0 = none ∧ (q.sliceAt 0).hitWay 0 = none ∧
        ((q.sliceAt 0).freeWay (setOf 0)).isSome = true) := by decide +kernel

theorem test_hyps_HomeArbiter : let free := homeWith (homeReq 1) (fun x => { x with cur := none })
    let none' := timed.modSlice 0 (fun x => { x with scrub := some 3 })
    let pre := ((homeWith (homeReq 1) (fun x => { x with cur := some ⟨4, 8, false⟩ })).modNi 232 (fun u => { u with inbox := [(⟨{ (homeReq 1).h with vn := 2 }, 0, []⟩, 0, 5)] })).setFld (Off.HS_ARB_CFG 0) Fld.HS_ARB_CFG.PREEMPT 2
    let sc := homeWith (homeReq 1) (fun x => { x with cur := some ⟨6, 1, false⟩, scrub := some (lapReads - 1) })
    let re := sc.modSlice 0 (fun x => { x with reread := [7] })
    let lap := (timed.setFld (Off.HS_CTRL 0) Fld.HS_CTRL.SCRUB_EN 1).setFld (Off.HS_CTRL 0) Fld.HS_CTRL.DIAG_EN 1
    (free.runs 48 = true ∧ (free.sliceAt 0).cur = none ∧ (free.sliceAt 0).recs = [] ∧ free.choose 0 false = some 3 ∧ none'.choose 0 false = none) ∧
      ((pre.sliceAt 0).cur = some ⟨4, 8, false⟩ ∧ (pre.sliceAt 0).pre4 < 3 ∧ (pre.fld (Off.HS_ARB_CFG 0) Fld.HS_ARB_CFG.PREEMPT).testBit 1 = true ∧ (pre.reqAge 0 1).isSome = true ∧
        pre.arbMasked 0 1 = false ∧ (pre.fld (Off.HS_ARB_CFG 0) Fld.HS_ARB_CFG.PREEMPT).testBit 0 = false) ∧
      ((sc.sliceAt 0).reread = [] ∧ (sc.sliceAt 0).scrub = some (lapReads - 1) ∧ (sc.sliceAt 0).granted 6 = true ∧ lapReads ≤ lapReads - 1 + 1 ∧ lapReads - 1 ≠ 0) ∧
      ((re.sliceAt 0).reread = 7 :: [] ∧ (re.sliceAt 0).granted 6 = true) ∧
      (lap.flag (Off.HS_CTRL 0) Fld.HS_CTRL.SCRUB_EN = true ∧ (lap.sliceAt 0).scrub = none ∧ (lap.sliceAt 0).lapStart = none ∧ lap.flag (Off.HS_CTRL 0) Fld.HS_CTRL.DIAG_EN = true ∧
        timed.flag (Off.HS_CTRL 0) Fld.HS_CTRL.DIAG_EN = false) := by decide +kernel

/-- Slice 0 at the last beat of a MAINT transfer with a piece of work in front. -/
def maintAt (m : Maint) (f : Slice → Slice) : State := timed.modSlice 0 (fun x => f { x with cur := some ⟨5, 1, false⟩, maint := [(m, 0)] })

/-- A scrub write-back whose set has changed since and one whose set has not, a diagnostic read and write, the write at a staging line that is held, and one of a set's status. -/
theorem test_hyps_HomeArbiter_maint : let wb := fun seen => maintAt (.writeBack 0 0 0 0 seen) id
    let dg := fun (w : Bool) (st : Nat) (f : Slice → Slice) => maintAt (.diag w (BitVec.ofNat 64 (st * 2 ^ 29)) 0 0) f
    let busy := fun x : Slice => { x with recs := [{ txWith [] with lines := 1 }] }
    ((wb ((timed.sliceAt 0).scrubSeen 0 0)).maintEnds 0 (.writeBack 0 0 0 0 ((timed.sliceAt 0).scrubSeen 0 0)) [] ∧ (timed.sliceAt 0).scrubSeen 0 0 ≠ [1, 2, 3]) ∧
      (wb [1, 2, 3]).maintEnds 0 (.writeBack 0 0 0 0 [1, 2, 3]) [] ∧ (dg false 0 id).maintEnds 0 (.diag false (BitVec.ofNat 64 (0 * 2 ^ 29)) 0 0) [] ∧
      ((dg true 7 busy).maintEnds 0 (.diag true (BitVec.ofNat 64 (7 * 2 ^ 29)) 0 0) [] ∧ ((dg true 7 busy).sliceAt 0).stgHeld 0 = true) ∧
      (dg true 4 id).maintEnds 0 (.diag true (BitVec.ofNat 64 (4 * 2 ^ 29)) 0 0) [] := by
  refine ⟨⟨⟨by decide +kernel, ⟨1, by decide +kernel⟩, ⟨0, by decide +kernel⟩, by decide +kernel⟩, by decide +kernel⟩,
    ⟨by decide +kernel, ⟨1, by decide +kernel⟩, ⟨0, by decide +kernel⟩, by decide +kernel⟩, ⟨by decide +kernel, ⟨1, by decide +kernel⟩, ⟨0, by decide +kernel⟩, by decide +kernel⟩,
    ⟨⟨by decide +kernel, ⟨1, by decide +kernel⟩, ⟨0, by decide +kernel⟩, by decide +kernel⟩, by decide +kernel⟩,
    ⟨by decide +kernel, ⟨1, by decide +kernel⟩, ⟨0, by decide +kernel⟩, by decide +kernel⟩⟩

/-! ### Boundary ports -/

/-- Port n up, with its tables: one window of a KIND over everything, a shadow that allows everything, and native requests 0 to 7 as RDS from native states 0 to 2. -/
def portWith (n kind dest : Nat) : State :=
  let s := (((timed.setTab n 0 Sec.ADDRMAP 0 0 (BitVec.ofNat 64 (kind * 2 ^ 60 + 52 * 2 ^ 54))).setTab n 0 Sec.ADDRMAP 0 1 (BitVec.ofNat 64 (0xFFFF * 2 ^ 48 + dest * 2 ^ 40))).setTab n 0 Sec.SHADOW 0 0
    (BitVec.ofNat 64 (2 ^ 63 + 52 * 2 ^ 54))).setTab n 0 Sec.SHADOW 0 1 0xE0000000
  let s := (List.range 8).foldl (fun s k => s.setTab n 0 Sec.XLATE 0 (1 + k) (BitVec.ofNat 64 (2 ^ 63 + 7 * 2 ^ 48 + 2 ^ 36))) s
  let s := (List.range 3).foldl (fun s j => s.setTab n 0 Sec.XLATE 0 (17 + j) (BitVec.ofNat 64 (2 ^ 63))) s
  { s with pins := { s.pins with ready := true }, kt := { s.kt with bHeld := false } }.modPort n (fun x => { x with up := true })

/-- The conditions of `State.passesTo`, as a test. -/
def passes (s : State) (n : Nat) (r : Req) (dest : Nat) : Bool :=
  let b := (s.niAt n).ep.bank
  s.admits n && !s.niFenced n && !s.agentFenced n r.agent && !(s.niAt n).strain.hold && !(s.niAt n).strain.stale && s.strainer n b r.vn r.opcode r.agent r.priv r.line == .pass &&
    s.decodeMap n b r.vn r.opcode r.line == .to dest && (s.routeTo n b dest).isSome && (s.niAt n).comps.isEmpty && r.machine.isNone && !(r.vn == Vn.REQ && r.opcode == 8) &&
    !r.pieces.isEmpty && (!niHasMeter n || !bit ((s.niAt n).meter (s.meterOf n r.agent)).rate 62)

theorem test_passes (s : State) (n : Nat) (r : Req) (dest : Nat) (h : passes s n r dest = true) : s.passesTo n r dest := by
  simp [passes] at h
  obtain ⟨⟨⟨⟨⟨⟨⟨⟨⟨⟨⟨⟨h1, h2⟩, h3⟩, h4⟩, h5⟩, h6⟩, h7⟩, h8⟩, h9⟩, h10⟩, h11⟩, h13⟩, h12⟩ := h
  refine ⟨h1, h2, h3, h4, h5, .inl h6, h7, h8, h9, h10, fun h => h11.elim (fun g => g h.1) (fun g => g h.2), h13, fun h => ?_⟩
  rcases h12 with h12 | h12
  · rw [h] at h12; cases h12
  · exact h12

theorem test_hyps_HostRequests : let s := portWith 0 1 0
    let x := portWith 7 2 7
    let i := portWith 0 3 254
    let d := portWith 8 3 254
    let w : W64 := 0
    (s.portLive 0 = true ∧ s.translate 0 0 0 0 = some (1, w) ∧ passes s 0 (s.identify 0 { cohReq 1 w 0 [] 0 with ident := 1 }) 232 = true ∧ s.translate 0 0 6 2 = some (1, 38) ∧
        passes s 0 (s.identify 0 { cohReq 1 38 0 [full] allBytes with ident := 1 }) 232 = true) ∧
      ((portWith 1 1 0).portLive 1 = true ∧ ({ portWith 1 1 0 with tab := [] } : State).translate 1 0 0 0 = none) ∧
      (x.portLive 7 = true ∧ (x.mapWindow 7 0 0).map (fun w => (bits w.1 60 4, bits w.2 40 8)) = some (2, 7) ∧
        passes x 7 (x.identify 7 { cohReq 9 0 0 [] 0 with ident := 1, pl := lineOfWords [BitVec.ofNat 64 (1 * 2 ^ 20 + x.xlateCaps 7 0 * 2 ^ 16)] }) 232 = true) ∧
      ((s.mapWindow 0 0 0).map (fun w => bits w.1 60 4) = some 1) ∧
      (i.portLive 0 = true ∧ passes i 0 (i.identify 0 { ioReq Vn.ION 1 0 [⟨false, 15, 0⟩] (i.ioPriv 0 none) with ident := 1 }) 254 = true ∧
        passes i 0 (i.identify 0 { ioReq Vn.IOP 1 0 [full] (i.ioPriv 0 none) with ident := 1 }) 254 = true) ∧
      (d.portLive 8 = true ∧ passes d 8 (d.identify 8 { ioReq Vn.IOP 1 0 [full] false with ident := 1 }) 254 = true) := by
  decide +kernel

/-- A demand of slice 0 at a port. -/
def demandOf (vn op : Nat) : Pkt := Pkt.one { Hdr.zero with vn := BitVec.ofNat 3 vn, opcode := BitVec.ofNat 6 op, src := 232 } (lineOfWords [0xF])

theorem test_hyps_DemandsOutward : let at' := fun (n : Nat) (s : State) => s.modNi n (fun u => { u with inbox := [(demandOf 1 1, 9, 5)] })
    let f : Pkt → Bool := fun q => q.h.opcode.toNat == 1
    (((at' 0 timed).takeIn 0 1 f).map (fun e => (e.1, e.2.1)) = some (demandOf 1 1, 9) ∧ (timed.portAt 0).up = false) ∧
      (((at' 0 (portWith 0 1 0)).takeIn 0 1 f).isSome = true ∧ ((portWith 0 1 0).portAt 0).up = true ∧ niType 0 ≠ .cla) ∧
      (let own : Pkt := Pkt.one { Hdr.zero with vn := 1, opcode := 1, src := 232, agent := 7 } (lineOfWords [BitVec.ofNat 64 (2 ^ 50)])
       let o := ((portWith 0 1 0).setFld (Off.NI_PORT_CFG 0) Fld.NI_PORT_CFG.AGENT 7).modNi 0 (fun u => { u with inbox := [(own, 9, 5)] })
       (o.takeIn 0 1 f).isSome = true ∧ 1 ≤ bits (own.word 0) 50 2 ∧ own.h.agent.toNat = o.fld (Off.NI_PORT_CFG 0) Fld.NI_PORT_CFG.AGENT ∧ (o.portAt 0).up = true) ∧
      (((at' 31 (portWith 31 1 0)).takeIn 31 1 f).isSome = true ∧ ((portWith 31 1 0).portAt 31).up = true ∧ niType 31 = .cla) := by decide +kernel

theorem test_hyps_AnswersInward : let dm := fun (id vn op : Nat) => (⟨id, demandOf vn op, none, none, none, none, false, false, false⟩ : Demand)
    let s := fun (n : Nat) (d : Demand) => (portWith n 1 0).modPort n (fun x => { x with demands := [d] })
    ((s 3 (dm 5 1 1)).portLive 3 = true ∧ ((s 3 (dm 5 1 1)).portAt 3).demandBy 5 1 3 = some (dm 5 1 1) ∧
        (s 3 (dm 5 1 1)).reportLawful 3 0 (snoopWord (dm 5 1 1).p.h ((dm 5 1 1).p.word 0)) 0 = true ∧ ((s 3 (dm 5 1 1)).portAt 3).writeBack (dm 5 1 1) = none ∧
        (let e : ExtReq := ⟨3, .mem 6, 9, (demandOf 1 1).h.line, [full], none⟩
         (((s 3 (dm 5 1 1)).modPort 3 (fun x => { x with opens := [e] })).portAt 3).writeBack (dm 5 1 1) = some e)) ∧
      (((s 3 (dm 5 1 9)).portAt 3).demandBy 5 6 11 = some (dm 5 1 9) ∧ ((s 3 (dm 5 1 10)).portAt 3).demandBy 5 6 11 = some (dm 5 1 10)) ∧
      (((s 3 (dm 5 1 8)).portAt 3).demandBy 5 6 8 = some (dm 5 1 8) ∧ (dm 5 1 8).wantsData = true ∧ ((s 3 (dm 5 1 6)).portAt 3).demandBy 5 6 8 = some (dm 5 1 6) ∧ (dm 5 1 6).go = none ∧
        (dm 5 1 6).wantsData = true) ∧
      ((portWith 3 1 0).portLive 3 = true ∧ ((portWith 3 1 0).portAt 3).demandBy 5 6 11 = none ∧ ((portWith 3 1 0).portAt 3).demandBy 5 6 8 = none ∧
        ((portWith 3 1 0).portAt 3).demandBy 5 1 3 = none ∧ timed.portLive 3 = false) ∧
      ((s 15 (dm 5 5 1)).portLive 15 = true ∧ ((s 15 (dm 5 5 1)).portAt 15).ioBy 5 = some (dm 5 5 1) ∧ ((s 15 (dm 5 1 4)).portAt 15).demandBy 5 4 4 = some (dm 5 1 4) ∧
        ((s 15 (dm 5 1 5)).portAt 15).demandBy 5 5 5 = some (dm 5 1 5)) ∧
      ((s 168 (dm (65536 + 3 * 256 + 4) 5 2)).portLive 168 = true ∧ ((s 168 (dm (65536 + 3 * 256 + 4) 5 2)).portAt 168).ioBy (65536 + 3 * 256 + 4) = some (dm (65536 + 3 * 256 + 4) 5 2)) := by
  decide +kernel

theorem test_hyps_PortTraffic : let at' := fun (n vn op : Nat) => (portWith n 1 0).modNi n (fun u => { u with inbox := [(demandOf vn op, 9, 5)] })
    let ec := (at' 15 5 1).setFld (Off.NI_MPA_ECAM 15) Fld.NI_MPA_ECAM.EN 1
    ((portWith 0 1 0).portLive 0 = true ∧ (portWith 15 1 0).portLive 15 = true) ∧
      (((at' 0 4 1).takeIn 0 4 (fun _ => true)).map (·.1) = some (demandOf 4 1) ∧ ((at' 0 5 1).takeIn 0 5 (fun q => !(at' 0 5 1).inEcam 0 q.h.line)).map (·.1) = some (demandOf 5 1) ∧
        ((at' 0 5 2).takeIn 0 5 (fun q => !(at' 0 5 2).inEcam 0 q.h.line)).isSome = true ∧ ((at' 0 5 3).takeIn 0 5 (fun q => !(at' 0 5 3).inEcam 0 q.h.line)).isSome = true) ∧
      ((ec.takeIn 15 5 (fun q => ec.inEcam 15 q.h.line)).map (·.1) = some (demandOf 5 1) ∧ (maskSpan (demandOf 5 1).masks).1 / 4 = ((maskSpan (demandOf 5 1).masks).2 - 1) / 4) ∧
      (isPort 168 = true ∧ (timed.portAt 168).up = false ∧ ((portWith 168 3 254).portAt 168).up = true) := by decide +kernel

/-- What a chiplet may present: a packet at the front of its wire, with the rest of the hypotheses of a statement. -/
theorem test_hyps_ChipletTraffic : let io : Pkt := Pkt.one { Hdr.zero with vn := 5, opcode := 1, agent := 1, tag := 7 } (lineOfWords [0xF])
    let nr : Pkt := Pkt.one { Hdr.zero with vn := 0, opcode := 0x3F, agent := 1, tag := 7 } 0
    let bad : Pkt := Pkt.one { Hdr.zero with vn := 7, opcode := 1, agent := 1 } 0
    let rsp : Pkt := Pkt.one { Hdr.zero with vn := 6, opcode := 1, agent := 0, tag := 0, src := 16, mid := midOf 0 232 0 } 0
    let at' := fun (kind dest : Nat) (p : Pkt) => ({ portWith 16 kind dest with wire := [(claRxKey 16, p.flits)] } : State)
    let s := at' 3 254 io
    let c := (at' 1 0 nr).setTab 232 0 Sec.AGENT 0 1 (BitVec.ofNat 64 (3 * 2 ^ 62 + 16 * 2 ^ 48))
    let d : Demand := ⟨232 * 256, demandOf 5 1, none, none, none, none, false, false, false⟩
    let a := (at' 3 254 rsp).modPort 16 (fun x => { x with demands := [d] })
    let e := portWith 231 3 254
    let k := (portWith 31 1 0).modNi 31 (fun u => u.setRec 255 (some ⟨232, 0, 1, false, false, true, 0, false⟩))
    (niType 16 = .cla ∧ s.portLive 16 = true ∧ frontPkt 5 (oldLane 5 (s.wireAt (claRxKey 16))) (s.wireAt (claRxKey 16)) = some (io.flits, []) ∧ pktOf io.flits = some io ∧ pktMalformed io.flits = false ∧
        s.agentOk 16 (s.identify 16 { chipReq io with ident := 1 }).agent = true ∧ chipOpcode 5 1 = true ∧ (s.portAt 16).opens = [] ∧ passes s 16 (s.identify 16 { chipReq io with ident := 1 }) 254 = true) ∧
      (pktMalformed nr.flits = false ∧ frontPkt 0 (oldLane 0 (c.wireAt (claRxKey 16))) (c.wireAt (claRxKey 16)) = some (nr.flits, []) ∧ c.agentCaching 0 0 1 = true ∧ c.translate 16 0 (bits (nr.word 0) 0 4) (bits (nr.word 0) 4 3) = some (1, 0) ∧
        passes c 16 { (c.identify 16 { chipReq nr with ident := 1 }) with opcode := 1, pl := lineOfWords [0] } 232 = true) ∧
      (frontPkt 7 (oldLane 7 ((at' 3 254 bad).wireAt (claRxKey 16))) ((at' 3 254 bad).wireAt (claRxKey 16)) = some (bad.flits, []) ∧ pktMalformed bad.flits = false) ∧
      (pktMalformed rsp.flits = false ∧ frontPkt 6 (oldLane 6 (a.wireAt (claRxKey 16))) (a.wireAt (claRxKey 16)) = some (rsp.flits, []) ∧ vnResponse 6 = true ∧ (a.portAt 16).answered rsp = some d ∧ d.p.h.src.toNat ≠ 248) ∧
      (niType 231 = .pea ∧ e.portLive 231 = true ∧ engineAllows (req Vn.ION 2 [full]) = true ∧ e.agentOk 231 1 = true ∧
        passes e 231 (e.identify 231 { e.identify 231 (req Vn.ION 2 [full]) with ident := 1, machine := none }) 254 = true) ∧
      (niType 31 = .cla ∧ ((k.niAt 31).compRec 255).isSome = true ∧ k.timeRuns 31 = true ∧ 0 + 2 ^ (k.fld (Off.NI_TIMEOUT 31) Fld.NI_TIMEOUT.TO_COH + 10) ≤ k.niTime 31) := by
  decide +kernel

/-! ### Links -/

/-- A link end in service whose adapter is Active. -/
def serving : Lk := { Lk.reset with st := .inService, adapter := true, req := 1, lastAcc := 2 ^ 24 }

/-- Both ends of link k as given. -/
def linkWith (k : Nat) (a b : Lk) : State := (timed.setLk k 0 a).setLk k 1 b

theorem test_hyps_LinkFlow : let f := fun (b : FluBody) => (⟨b, 4095, none, 0, 0, 0⟩ : Flu)
    let nw := f (.new [none, none, none])
    let rp := f (.replay 4 [none, none, none])
    let ini := f (.init ⟨1, 1, 0, 4095, 0, false, false, false, depthWord⟩)
    let s := linkWith 0 serving serving
    let w : State := { s with wire := [(lkTx 0 0, [.head false hopHdr 0])] }
    let o := linkWith 27 { serving with owed := [5], recs := [(5, [none, none, none])] } Lk.reset
    let r := linkWith 0 serving { serving with fdi := [(0, nw)] }
    let q := linkWith 0 { serving with rxNext := 5, rxAck := 3, missing := [⟨4, 1, 0⟩] } { serving with fdi := [(5, rp)] }
    let i := linkWith 0 { serving with st := .init } { serving with fdi := [(0, ini)] }
    let e := linkWith 0 { serving with st := .init } { serving with fdi := [(0, f (.init ⟨2, 1, 0, 4095, 0, false, false, false, depthWord⟩))] }
    (w.lkWork 0 0 = true ∧ (s.lkAt 0 0).lastSent + 128 ≤ s.refTime ∧ lkEnd 0 0 = true ∧ (s.lkAt 0 0).sends = true ∧ (s.lkAt 0 0).st = .inService ∧ (s.lkAt 0 0).recs.length < 1024 ∧ (s.lkAt 0 0).nextNak = none ∧
        s.flipsAt (fluFlipKey 0 0) = [] ∧ (s.lkAt 0 0).owed = [] ∧ lkSeam 0 = true ∧ (s.lkAt 0 0).txDrop = [] ∧ s.flipsAt (lkTx 0 0) = []) ∧
      (o.lkWork 27 0 = true ∧ lkEnd 27 0 = true ∧ (o.lkAt 27 0).owed = [5] ∧ (o.lkAt 27 0).sends = true ∧ (o.lkAt 27 0).st = .inService ∧ o.flipsAt (fluFlipKey 27 0) = [] ∧ (o.lkAt 27 0).recs.find? (fun r => r.1 == 5) = some (5, [none, none, none]) ∧ (o.lkAt 27 0).nextNak = none) ∧
      ((r.arriving 0 0 none).map (·.1) = some nw ∧ (r.lkAt 0 0).receives = true ∧ (r.lkAt 0 0).protoError nw = false ∧ nw.lreq.val = 0 ∧ ((r.lkAt 0 0).rxAck + 1) % 4096 = (r.lkAt 0 0).rxNext ∧
        (r.lkAt 0 0).missing = [] ∧ (r.lkAt 0 0).held = [] ∧ r.linkHeld (lkRx 0 0) = false) ∧
      ((q.arriving 0 0 none).map (·.1) = some rp ∧ (q.lkAt 0 0).receives = true ∧ (q.lkAt 0 0).protoError rp = false) ∧
      ((i.arriving 0 0 none).map (·.1) = some ini ∧ (i.lkAt 0 0).st = .init ∧ (i.lkAt 0 0).resume = false ∧ i.lkId 0 0 ≠ 1 ∧ (e.arriving 0 0 none).isSome = true) ∧
      (satInc (2 ^ Fld.LK_ERR_CNT.WINDOW_ERR.w - 1) (s.fld (Off.LK_ERR_CNT 0 0) Fld.LK_ERR_CNT.WINDOW_ERR) < s.lkTh 0 0 Fld.LK_THRESH.CRC_WIN ∧
        (s.lkAt 0 0).adapter = true ∧ (s.lkAt 0 0).consec + 1 < s.lkTh 0 0 Fld.LK_THRESH.CONSEC) := by decide +kernel

theorem test_hyps_LinkStates : let silent := linkWith 0 { serving with lastAcc := 2 ^ 24 - 1024 } serving
    let full' := linkWith 0 { serving with limitSince := some (2 ^ 24 - 2048) } serving
    let many := silent.setFld (Off.LK_RETRAIN_CNT 0 0) Fld.LK_RETRAIN_CNT.RECENT 255
    let pre := linkWith 0 { serving with st := .pre, since := 2 ^ 24 - 512 } serving
    let pau := linkWith 0 { serving with st := .paused, reqOpen := true, reqSince := 2 ^ 24 - 4096 } serving
    let off := linkWith 0 { Lk.reset with req := 1 } Lk.reset
    let late := linkWith 0 { serving with st := .init, since := 0 } serving
    let miss := linkWith 0 { serving with missing := [⟨7, 0, 0⟩] } serving
    let up : State := { linkWith 0 Lk.reset Lk.reset with pins := { timed.pins with ready := true }, kt := { timed.kt with bHeld := false } }
    (lkEnd 27 0 = true ∧ (silent.lkAt 0 0).st = .inService ∧ (silent.lkAt 0 0).lastAcc + 1024 ≤ silent.refTime ∧ (full'.lkAt 0 0).st = .inService ∧
        (full'.lkAt 0 0).limitSince = some (2 ^ 24 - 2048) ∧ 2 ^ 24 - 2048 + 2048 ≤ full'.refTime ∧ (many.lkAt 0 0).st = .inService ∧
        silent.fld (Off.LK_RETRAIN_CNT 0 0) Fld.LK_RETRAIN_CNT.RECENT < silent.lkTh 0 0 Fld.LK_THRESH.LOST_RT ∧
        many.lkTh 0 0 Fld.LK_THRESH.LOST_RT ≤ many.fld (Off.LK_RETRAIN_CNT 0 0) Fld.LK_RETRAIN_CNT.RECENT) ∧
      ((pre.lkAt 0 0).st = .pre ∧ (pre.lkAt 0 0).since + 512 ≤ pre.refTime ∧ (pre.lkAt 0 0).accept = none) ∧
      ((pau.lkAt 0 0).st = .paused ∧ (pau.lkAt 0 0).reqOpen = true ∧ (pau.lkAt 0 0).reqSince + 4096 ≤ pau.refTime) ∧
      ((linkWith 0 { serving with st := .paused, adapter := false } serving).lkAt 0 0).adapter = false ∧ ((off.lkAt 0 0).st = .down ∧ (off.lkAt 0 0).req = 1 ∧ (off.lkAt 0 0).adapter = false) ∧
      ((late.lkAt 0 0).since + 1000 * max 1 (late.lkTh 0 0 Fld.LK_THRESH.RETRAIN_LIMIT) ≤ late.refTime ∧ (late.lkAt 0 0).st = .init ∧ (late.lkAt 0 0).resume = false) ∧
      (((miss.lkAt 0 0).missing.find? (fun m => decide (m.at' + 4 * max 1 (miss.lkTh 0 0 Fld.LK_THRESH.NAK_REPEAT) ≤ miss.refTime) && !(miss.lkAt 0 0).naks.contains m.seq)).isSome = true) ∧
      (silent.lkTime 0 0 / 2 ^ 20 ≠ (silent.lkAt 0 0).window ∧ silent.lkTime 0 0 / 2 ^ 24 ≠ (silent.lkAt 0 0).window / 16) ∧
      ((up.lkAt 0 0).st = .down ∧ (up.lkAt 0 0).wasLost = false ∧ up.pins.ready = true ∧ up.kt.bHeld = false ∧ up.seamFenced = false ∧ up.linkHeld (lkTx 0 0) = false) := by decide +kernel

/-! ### The Service Bridge -/

/-- A fabric request of four bytes to the E5LB. -/
def busReq (vn op : Nat) (origin : Bool) : Pkt :=
  let h : Hdr := { Hdr.zero with vn := BitVec.ofNat 3 vn, opcode := BitVec.ofNat 6 op, src := 40, agent := 5, origin := origin }
  if op = 1 ∧ vn = 5 ∨ op = 3 then Pkt.one h (lineOfWords [0xF]) else { h := { h with len := 1 }, pl := 0, body := [⟨false, 0xF, 7⟩] }

/-- The bridge with a state of its own. -/
def busWith (f : Bridge → Bridge) : State := { timed with pins := { timed.pins with ready := true } }.modSb f

theorem test_hyps_BridgeRequests : let at' := fun (p : Pkt) => (busWith id).modNi 254 (fun u => { u with inbox := [(p, 0, 5)] })
    let w := busReq 5 2 false
    let long : Pkt := { h := { Hdr.zero with vn := 5, opcode := 2, src := 40, len := 1 }, pl := 0, body := [full] }
    let gated := fun (p : Pkt) => (at' p).wr (Off.SB_GATE 0) (BitVec.ofNat 64 (31 * 2 ^ 39 + 1))
    let iss := fun (p : Pkt) => busWith (fun b => { b with order := [.req p] })
    let lk : SbLock := ⟨5, 0, 4, 0, false⟩
    ((at' w).sb.wbuf < 64 ∧ ((at' w).sbTake Hdr.sbWrite).map (·.1) = some w ∧ w.singleAccess = true ∧ (at' w).gatesPass w = true) ∧
      (((at' (busReq 5 1 false)).sbTake (fun h => h.vn.toNat == 5 && h.opcode.toNat == 1)).map (·.1) = some (busReq 5 1 false) ∧ (busReq 5 3 false).singleAccess = true ∧ (busReq 5 4 false).singleAccess = true) ∧
      (long.singleAccess = false ∧ long.h.origin = false ∧ ((at' long).sbTake Hdr.sbWrite).map (·.1) = some long) ∧ ((gated w).gatesPass w = false ∧ w.h.vn.toNat ≠ 4) ∧
      ((iss w).strainerOff = false ∧ (iss w).domOn 68 = true ∧ (iss w).sb.nextIssue = some 0 ∧ (iss w).pins.ready = true ∧ w.h.sbWrite = true ∧ w.sbBeats ≠ [] ∧ (iss w).sb.lock = none) ∧
      ((busReq 5 1 false).h.sbWrite = false ∧ (busReq 5 1 false).sbWords ≠ [] ∧ (iss w).sb.freeTag = some 0) ∧
      ((busWith (fun b => { b with order := [.req (busReq 5 4 false)], lock := some lk })).sb.nextIssue = some 0 ∧ lk.addr = (busReq 5 4 false).sbFirst ∧ lk.size = (busReq 5 4 false).sbSize) := by decide +kernel

theorem test_hyps_BridgeAnswers : let tx := fun (p : Pkt) (tag : Option Nat) (stuck : Bool) => (⟨[p], 0, .unlock, tag, 0, 0, 0, stuck⟩ : E5Tx)
    let s := fun (x : E5Tx) => busWith (fun b => { b with open' := [x] })
    let r := tx (busReq 5 1 false) (some 63) false
    let w := tx (busReq 5 2 false) none false
    let x := tx (busReq 5 4 false) none false
    let l := busWith (fun b => { b with lock := some ⟨5, 0, 4, 2 ^ 24 - 2000, false⟩ })
    let m := (((portWith 255 3 8).wr Off.SB_INB_MAP (BitVec.ofNat 64 (2 ^ 63 + 20 * 2 ^ 46))))
    let wait' : Waiting := { waiting (req Vn.IOP 1 [full]) 8 with r := { req Vn.IOP 1 [full] with ident := 65536 } }
    let c := m.modNi 255 (fun u => { u with comps := [⟨131072, 5, 1, 0, 0, 0, 0, [], 8, 0, 0, false, true, false, 0⟩] })
    ((s r).sb.open'.find? (fun x => x.tag == some 63) = some r ∧ r.pkts.head? = some (busReq 5 1 false) ∧ r.retries + 1 < 16 ∧ (tx (busReq 5 1 false) (some 63) true).stuck = true) ∧
      (((s w).sb.open'.filter (fun x => x.tag.isNone))[0]? = some w ∧ (busReq 5 2 false).h.sbWrite = true ∧ ((s x).sb.open'.filter (fun x => x.tag.isNone))[0]? = some x) ∧
      ((s w).sb.open'.filter (fun x => !x.stuck && decide (x.sent + (s w).e5Limit ≤ (s w).refTime)) = [w]) ∧ (l.sb.lock = some ⟨5, 0, 4, 2 ^ 24 - 2000, false⟩ ∧ 2 ^ 24 - 2000 + 2000 ≤ l.refTime) ∧
      (m.inbAddr 0 = some 0 ∧ m.inbAddr (2 ^ 20) = none ∧ m.pins.ready = true ∧ m.inbUsed < 8 ∧ passes m 255 (m.sbReq Vn.IOP 1 0 65536 (inbLines 0 [(15, 1)]) 0) 8 = true ∧
        passes m 255 (m.sbReq Vn.ION 1 0 131072 (inbLines 0 [(15, 0)]) 0) 8 = true ∧ 8 ≤ (m.modNi 255 (fun u => { u with wait := List.replicate 8 wait' })).inbUsed ∧ [((15 : BitVec 4), (1 : BitVec 32))].all (fun b => b.1 == 0) = false ∧
        [(15 : BitVec 4)].all (· == 0) = false) ∧
      ((c.niAt 255).comps.find? (fun c => decide (131072 ≤ c.ident))).isSome = true := by decide +kernel

theorem test_hyps_SideBand : let m := (portWith 255 3 8).wr (Off.SB_IN_CFG 31) (BitVec.ofNat 64 (1 * 2 ^ 24 + 2 ^ 28))
    let low : State := { m with dom := [(68, { Domain.reset with st := .cg })] }
    let bad := timed.setPend (Off.SB_IN_CFG 31) (BitVec.ofNat 64 (6 * 2 ^ 24))
    let tb := timed.setPend Off.SB_TELEM_CFG (BitVec.ofNat 64 (16 * 2 ^ 58))
    let sw := busWith (fun b => { b with inSw := 0x80000000 })
    let en := ((busWith id).setFld Off.SB_TELEM_CFG Fld.SB_TELEM_CFG.EN 1).wr (Off.SB_TELEM_ADDR 31) (BitVec.ofNat 64 (2 ^ 63))
    let mgt := fun (src : Nat) => (busWith id).modNi 254 (fun u => { u with inbox := [(Pkt.one { Hdr.zero with vn := 7, opcode := 5, src := BitVec.ofNat 8 src } 0, 0, 5)] })
    let f : Pkt → Bool := fun p => p.h.opcode.toNat == 5 && timed.domOn 68
    let pul := (busWith id).setOut 15 ⟨false, some (true, 2 ^ 24), false, 0⟩
    let tick := (busWith id).wr (Off.SB_OUT_CFG 15) 2
    let kind := (sbEvent 1 true).getD 0
    (m.sb.lines.getLsbD 31 = !true ∧ m.inReset = false ∧ m.sb.inSw.getLsbD 31 = false ∧ m.pins.ready = true ∧ m.sb.heldAt 31 = none ∧ sbEvent (m.inMode 31) true = some kind ∧ m.domOn 68 = true ∧
        m.sbPending 31 = false ∧ bits (m.rd (Off.SB_IN_CFG 31)) 28 2 = 1 ∧
        passes m 255 (m.sbReq Vn.IOP 2 (bits (m.rd (Off.SB_IN_ADDR 31)) 2 50 * 4 / 64) (1000 + 31) [] (lineOfWords [sbMsgWord kind true 31 1 m.sbTime])) 8 = true) ∧
      (low.domOn 68 = false ∧ sbEvent (low.inMode 31) true = some kind) ∧
      ((∀ j : Fin 32, bits (timed.pendOf (Off.SB_IN_CFG j)) 24 3 < 6) ∧ 6 ≤ bits (bad.pendOf (Off.SB_IN_CFG 31)) 24 3 ∧ tb.telemBad = false ∧ (timed.setPend Off.SB_TELEM_CFG 0).telemBad = true) ∧
      (sw.sb.inSw.getLsbD 31 = true ∧ sbAsserted (sw.inMode 31) (sw.sb.lines.getLsbD 31) = false) ∧
      (en.domOn 68 = true ∧ en.inReset = false ∧ en.pins.ready = true ∧ (en.sbDue (2 ^ en.fld Off.SB_TELEM_CFG Fld.SB_TELEM_CFG.PERIOD_LOG2) en.sb.pollAt).isSome = true ∧ en.sb.poll = none ∧ en.sb.telem = none ∧ en.flag Off.SB_TELEM_CFG Fld.SB_TELEM_CFG.EN = true ∧ (en.sensors.map en.sensorAddr).eraseDups ≠ [] ∧
        (busWith (fun b => { b with poll := some [] })).sb.poll.isSome = true) ∧
      (((mgt 248).takeIn 254 7 f).isSome = true ∧ ((mgt 3).takeIn 254 7 f).isSome = true) ∧ ((pul.sb.outAt 15).pulse = some (true, 2 ^ 24) ∧ 2 ^ 24 ≤ pul.refTime ∧ pul.domOn 68 = true ∧ ({ pul.sb.outAt 15 with sw := true }).sw = true) ∧
      (bits (tick.rd (Off.SB_OUT_CFG 15)) 0 2 = 2 ∧ (tick.sb.outAt 15).sw = false ∧ tick.domOn 68 = true ∧ tick.inReset = false ∧ (tick.sbDue (2 ^ bits (tick.rd (Off.SB_OUT_CFG 15)) 6 5) (tick.sb.outAt 15).tickAt).isSome = true) ∧ (∀ k : Fin 16, bits (timed.pendOf (Off.SB_OUT_CFG k)) 0 2 ≠ 3 ∧ bits (timed.pendOf (Off.SB_OUT_CFG k)) 0 2 ≠ 2) := by decide +kernel

/-! ### Power domains -/

/-- A domain as given, with the keeper's time far on. -/
def domWith (d : Nat) (x : Domain) : State := { timed with dom := [(d, x)] }

theorem test_hyps_DomainRaises : let r : Domain := { Domain.reset with st := .ret }
    let w := { domWith 71 r with wakeQ := [71] }
    let p := { domWith 71 { Domain.reset with phase := .stop, target := .cg } with wakeQ := [71] }
    let up := domWith 71 { r with phase := .wake, target := .on }
    let off := domWith 71 { Domain.reset with st := .off, phase := .wake, target := .on }
    let isl := (domWith 0 { r with phase := .wake, target := .on }).modIsl 0 (fun l => { l with takeNext := false })
    let late := domWith 71 { r with phase := .wake, stepAt := 0 }
    let rest := domWith 71 Domain.reset
    let gt := (domWith 71 r).setFld (Off.KT_DOM 71) Fld.KT_DOM.REST 2
    (w.wakeQ = [71] ∧ (w.domAt 71).failed = false ∧ (w.domAt 71).phase = .steady ∧ (w.domAt 71).st ≠ .on) ∧ (p.wakeQ = [71] ∧ (p.domAt 71).phase = .stop ∧ (p.domAt 71).pendOn = false) ∧
      ((up.domAt 71).phase = .wake ∧ (up.domAt 71).st = .ret) ∧ ((isl.domAt 0).st = .ret ∧ (isl.islAt 0).takeNext = false) ∧ ((off.domAt 71).phase = .wake ∧ (off.domAt 71).st = .off) ∧
      ((late.domAt 71).phase = .wake ∧ (late.domAt 71).stepAt + 4 * (late.domAt 71).bound < late.refTime ∧ (up.domAt 71).phase = .wake ∧ (up.domAt 71).st = .ret) ∧
      ((∃ r : Fin 4, rest.fld (Off.KT_DOM 71) Fld.KT_DOM.REST < r.val ∧ r.val ≤ (rest.lowestRest 71).code) ∧
        (∃ r : Fin 4, rest.fld (Off.KT_DOM 64) Fld.KT_DOM.REST < r.val ∧ (rest.lowestRest 64).code < r.val)) ∧
      ((0xFF#64).getLsbD 7 = true ∧ (gt.rd Off.KT_GT_MASK_1).getLsbD 7 = false ∧ 2 ≤ (gt.restOf 71).code ∧ (gt.domAt 71).st = .ret) := by decide +kernel

theorem test_hyps_DomainLowerings : let s := (domWith 71 Domain.reset).setFld (Off.KT_DOM 71) Fld.KT_DOM.REST 2
    let at' := fun (ph : Phase) (pend : Bool) => (domWith 71 { Domain.reset with phase := ph, target := .cg, pendOn := pend }).setFld (Off.KT_DOM 71) Fld.KT_DOM.REST 2
    let busy := (at' .stop false).setLk 12 0 serving
    let off' := (domWith 2 { Domain.reset with phase := .stop, target := .off }).modNi 42 (fun u => { u with leaf := { u.leaf with recs := [(0, some ⟨Hdr.zero, 40, 0, 1, [], none, 0⟩)] } })
    (s.restOf 71 = .ret ∧ s.needCg 71 = false ∧ (s.domAt 71).st = .on ∧ s.domIdle 71 = true ∧ 4 ≤ s.fld (Off.KT_DOM 71) Fld.KT_DOM.IDLE_LOG2 ∧ s.fld (Off.KT_DOM 71) Fld.KT_DOM.IDLE_LOG2 ≤ 24 ∧
        KMap.get (fun _ => 0) s.kt.idleSince 71 + 2 ^ s.fld (Off.KT_DOM 71) Fld.KT_DOM.IDLE_LOG2 ≤ s.aonTime) ∧
      ((s.domAt 71).phase = .steady ∧ (s.domAt 71).busy = false ∧ s.potHeldOn 71 = false ∧ (off'.domAt 2).phase = .stop ∧ (off'.domAt 2).target = .off ∧ (islandNis 2).contains 42 = true ∧ (off'.niAt 42).leaf.recs ≠ []) ∧
      ((at' .stop false).domIdle 71 = true ∧ (at' .stop false).potHeldOn 71 = false ∧ ((at' .stop false).domAt 71).target ≠ .off) ∧ ((busy.domAt 71).phase = .stop ∧ busy.domIdle 71 = false) ∧
      (((at' .fence false).domAt 71).closes = [] ∧ ((at' .fence false).domAt 71).target ≠ .ret ∧ ((at' .fence false).domAt 71).imaged = false ∧ (at' .fence false).potHeldOn 71 = false) ∧
      (((at' .enter true).domAt 71).pendOn = true ∧ ((at' .enter false).domAt 71).pendOn = false ∧ ((at' .enter false).domAt 71).target.code ≤ ((at' .enter false).restOf 71).code ∧ (at' .enter false).needCg 71 = false) ∧
      timed.kt.sideUp = true := by decide +kernel

/-! ### The Strainer master -/

/-- The master as given. -/
def stWith (f : Strainer → Strainer) : State := timed.modSt f

theorem test_hyps_StrainerCommit : let locked := timed.setFld Off.ST_CTRL Fld.ST_CTRL.LOCK 1
    let bad : List (Nat × W64) := [(0x210010, BitVec.ofNat 64 (2 ^ 63 + 11 * 2 ^ 54))]
    let good : List (Nat × W64) := [(0x210000, BitVec.ofNat 64 (2 ^ 63 + 12 * 2 ^ 54)), (0x21FFF8, 1)]
    let ck := fun (l : List (Nat × W64)) => stWith (fun x => { x with phase := .check, table := l })
    let ra : State := { stWith (fun x => { x with phase := .raise, gates := [(Off.NI_CTRL 0, 1)] }) with dom := [(71, { Domain.reset with st := .ret })] }
    let ho := fun (ack : Bool) => (stWith (fun x => { x with phase := .hold, parts := [40, 255], start := 2 ^ 24 - 20000 })).modNi 255 (fun u => { u with strain := { u.strain with acked := ack } })
    let pu := stWith (fun x => { x with phase := .push, table := good, parts := [40] })
    let re := fun (bad : List Nat) => stWith (fun x => { x with phase := .release, parts := [40, 255], crcBad := bad, start := 0 })
    let st := (timed.wr (Off.ST_STALE 3) (BitVec.ofNat 64 (2 ^ 63))).modSt (fun x => { x with retryAt := [(255, 2 ^ 24)] })
    let rl := timed.modNi 255 (fun u => { u with strain := { u.strain with reloading := true } })
    let tm : State := { timed with pins := { timed.pins with testMode := true } }
    (locked.locked = true ∧ timed.locked = false ∧ timed.st.phase = .idle ∧ timed.epochBusy = false) ∧ (checkTable (ck bad).st.table = some (4, 1, 0) ∧ checkTable (ck []).st.table = none) ∧
      (ra.st.phase = .raise ∧ (∀ d : Fin 72, ¬((ra.domAt d).st = .ret ∧ (ra.domAt d).phase = .wake)) ∧ (∀ n : Fin 256, (ra.niAt n).strain.reloading = false) ∧ (∀ e ∈ ra.st.gates, e.1 ≠ Off.ST_STATUS) ∧
        (ck []).st.gates = [] ∧ (ck []).st.phase = .check ∧ (ra.domAt 71).st = .ret ∧ (ra.domAt 71).failed = false ∧ (ra.domAt 71).phase = .steady) ∧
      (255 ∈ (ho false).st.parts ∧ (∀ n ∈ (ho true).st.parts.drop 1, ((ho true).niAt n).strain.acked = true)) ∧
      ((∀ e ∈ pu.st.table, tableOffset e.1 = true ∧ e.1 % 8 = 0) ∧ (pu.st.table.map (·.1)).Nodup ∧ pu.st.phase = .push ∧ (∀ n ∈ pu.st.parts, n < 256 ∧ (pu.niAt n).ep.bank < 2)) ∧
      (255 ∈ (re [40]).st.parts ∧ 255 ∉ (re [40]).st.crcBad ∧ ((re [40]).niAt 255).strain.held = [] ∧ ((re [40]).niAt 255).comps = [] ∧ (re [40]).st.parts.filter (· != 255) ≠ []) ∧
      ((ho false).st.start + 20000 ≤ (ho false).refTime ∧ (ho false).st.phase = .hold ∧ (re [40]).st.start + 20000 ≤ (re [40]).refTime ∧ (re [40]).st.phase = .release ∧ (∃ n ∈ (ho false).st.parts, !((ho false).niAt n).strain.acked = true) ∧ (∃ n ∈ (re [40]).st.parts, (re [40]).st.crcBad.contains n = true)) ∧
      (st.staleAt 255 = true ∧ st.participates 255 = true ∧ (st.niAt 255).strain.reloading = false ∧ KMap.get (fun _ => 0) st.st.retryAt 255 ≤ st.refTime ∧ st.st.phase = .idle ∧ st.domOn 66 = true) ∧
      ((rl.niAt 255).strain.reloading = true ∧ (rl.niAt 255).strain.held = [] ∧ (rl.niAt 255).comps = []) ∧ (tm.locked = false ∧ tm.pins.testMode = true ∧ timed.pins.testMode = false) := by decide +kernel

/-! ### Epochs -/

/-- An MGT message of an opcode with its first payload words. -/
def mgtMsg (op : Nat) (ws : List W64) : Pkt := Pkt.one { Hdr.zero with vn := 7, opcode := BitVec.ofNat 6 op, src := 248 } (lineOfWords ws)

/-- An NI with a message in its inbox and an epoch part of its own. -/
def epWith (n : Nat) (m : Pkt) (f : NiEpoch → NiEpoch) : State :=
  (timed.wr (Off.NI_BANK_ID n 1) 77).modNi n (fun u => { u with inbox := [(m, 9, 5)], ep := f { u.ep with boot := false, bank := 0, epoch := 3 } })

/-- A switch to epoch number 8 with NIs 40 and 255. -/
def sw8 : Switch :=
  { src := some 0, T := 2 ^ 24 + 32768, number := 8, id := 77, parts := [40, 255], ans := [(40, 1)], armed := false, split := false, reps := [], draining := false, changed := 0, relief := false,
    quiet := false, slow := false }

theorem test_hyps_EpochsAtNis : let took := fun (s : State) (n : Nat) (f : Pkt → Bool) (m : Pkt) => (s.takeIn n Vn.MGT f).map (fun e => (e.1, e.2.1)) = some (m, 9)
    let load := mgtMsg 6 [BitVec.ofNat 64 (2 ^ 56 + 9 * 2 ^ 52 + 2 ^ 51 + 5 * 2 ^ 48), 1, 2, 3, 4, 5]
    let sealm := fun (count : W64) => mgtMsg 6 [BitVec.ofNat 64 (2 * 2 ^ 56 + 2 ^ 51), 77, count]
    let arm := fun (T : Nat) (id : W64) => mgtMsg 3 [BitVec.ofNat 64 T, 2, id]
    let isArm : Pkt → Bool := fun p => p.h.opcode.toNat == 3 && bits (p.word 1) 62 2 == 0
    let cancel := mgtMsg 3 [0, BitVec.ofNat 64 (2 ^ 63 + 3)]
    let isCancel : Pkt → Bool := fun p => p.h.opcode.toNat == 3 && bit (p.word 1) 63
    let done := mgtMsg 3 [0, BitVec.ofNat 64 (2 ^ 62 + 3)]
    let a := epWith 255 (arm (2 ^ 24 + 1025) 77) id
    let b := fun (n : Nat) (boot : Bool) => epWith n done (fun e => { e with boot := boot, armed := true, armT := 2 ^ 24 })
    let p := (b 248 false).modPot (fun p => { p with sw := some sw8 })
    let d := epWith 255 done (fun e => { e with draining := true, oldEpoch := 2 })
    let g := epWith 255 done (fun e => { e with draining := true, oldEpoch := 2, reported := true, lastRecv := 1, repAt := 2 ^ 24 - 1024 })
    (took (epWith 255 load id) 255 (fun p => p.h.opcode.toNat == 6 && p.mop == 1) load ∧ took (epWith 255 (sealm 0) id) 255 (fun p => p.h.opcode.toNat == 6 && p.mop == 2) (sealm 0) ∧ bits (load.word 0) 48 3 = 5) ∧
      (took a 255 isArm (arm (2 ^ 24 + 1025) 77) ∧ a.rd (Off.NI_BANK_ID 255 1) = 77 ∧ (a.niAt 255).ep.armed = false ∧ (a.niAt 255).ep.draining = false ∧ a.niTime 255 + 1024 < 2 ^ 24 + 1025 ∧
        took (epWith 255 (arm 0 1) id) 255 isArm (arm 0 1) ∧ took (epWith 255 (arm 0 77) (fun e => { e with armed := true })) 255 isArm (arm 0 77) ∧ (2 ^ 24 + 1024 ≤ a.niTime 255 + 1024)) ∧
      (took (epWith 255 cancel (fun e => { e with armed := true, armEpoch := 3 })) 255 isCancel cancel ∧ took (epWith 255 cancel id) 255 isCancel cancel ∧ ((epWith 255 cancel id).niAt 255).ep.epoch = bits (cancel.word 1) 0 2) ∧
      (((b 255 true).niAt 255).ep.armed = true ∧ ((b 255 true).niAt 255).ep.boot = true ∧ ((b 255 true).niAt 255).ep.armT ≤ (b 255 true).niTime 255 ∧ (p.niAt 248).ep.boot = false ∧ (p.niAt 248).ep.armT ≤ p.niTime 248) ∧
      (d.locallyDrained 255 = true ∧ (d.niAt 255).ep.reported = false ∧ g.locallyDrained 255 = true ∧ g.drainRecv 255 ≠ (g.niAt 255).ep.lastRecv ∧ (g.niAt 255).ep.repAt + 1024 ≤ g.niTime 255) ∧
      (took d 255 (fun p => p.h.opcode.toNat == 3 && !bit (p.word 1) 63 && bit (p.word 1) 62) done ∧ (d.niAt 255).ep.epoch = bits (done.word 1) 0 2) := by decide +kernel

/-- A command of an issuer that has not started, with its words. -/
def potCmd (src op : Nat) (ws : List W64) : PotCmd := { src := src, words := BitVec.ofNat 64 (op * 2 ^ 48) :: ws, since := 0, started := false, res := none, data := [], idx := 0 }

/-- The Pot with one command. -/
def potWith (x : PotCmd) : State := timed.modPot (fun p => { p with cmds := [x] })

/-- A command of an issuer is there with an opcode and may start. -/
def mayRun (s : State) (c op : Nat) : Bool := (s.pot.cmd c).isSome && ((s.pot.cmd c).map PotCmd.op == some op) && s.pot.mayStart c && s.domOn 64

theorem test_mayRun (s : State) (c op : Nat) (h : mayRun s c op = true) : ∃ x, s.runs1 c op x := by
  unfold mayRun at h
  cases hx : s.pot.cmd c with
  | none => simp [hx] at h
  | some x => simp [hx] at h; exact ⟨x, hx, h.1.1, h.1.2, h.2⟩

/-- The header of an image without gate lists. -/
def headerWords : List W64 :=
  let sizes : List (Nat × Nat) := [(48, 384), (272, 278528), (256, 4194304), (4160, 49152), (256, 67584), (gateLists, 16 * gateLists), (256, 98304), (4184, 39424), (0, 0)]
  let offs := (List.range 9).map (fun k => 320 + ((sizes.take k).map (fun e => (e.2 + 63) / 64 * 64)).sum)
  let len := offs.getD 8 0 + 192
  [BitVec.ofNat 64 (0x424C4E44 * 2 ^ 32 + 2 ^ 16 + 9), BitVec.ofNat 64 (0x1216 * 2 ^ 48 + 2 ^ 40 + len), 77] ++ List.replicate 13 0 ++
    ((List.range 9).zip (offs.zip sizes)).flatMap (fun e => [BitVec.ofNat 64 ((e.1 + 1) * 2 ^ 56 + e.2.1), BitVec.ofNat 64 (e.2.2.1 * 2 ^ 32 + e.2.2.2)])

/-- Gate lists of one window for every router output. -/
def gateWords : List W64 :=
  ((List.range 192).flatMap (fun t => ((List.range 6).filter (fun p => !portEdge t p)).flatMap (fun p => [BitVec.ofNat 64 (2 ^ 16 + p * 2 ^ 8 + t), 0])))

/-- The words between the sections of `headerWords`. -/
def gapWords : List W64 := List.replicate (((List.range 8).foldl (fun a k => a + (sectionStart headerWords (k + 1) - sectionEnd headerWords k)) 0) / 8) 0

theorem test_hyps_EpochsAtPot : let go := fun (T : Nat) => potCmd 23 0x11 [BitVec.ofNat 64 T]
    let ok := (((potWith (go (2 ^ 24 + 65536))).setBankSt 1 1).modPot (fun p => { p with blends := [(1, ⟨77, 0, []⟩)] }))
    let late := ok.modPot (fun p => { p with cmds := [go 0] })
    let part := ok.modPot (fun p => { p with blends := [(1, ⟨77, 5, []⟩)] })
    let blend := fun (s : State) (b : Nat) => KMap.get (fun _ => Blend.empty) s.pot.blends b
    let sw := fun (w : Switch) => timed.modPot (fun p => { p with sw := some w })
    let tell := fun (w : Switch) (m : W64) => (sw w).modNi 248 (fun u => { u with inbox := [(mgtMsg 4 [m], 9, 5)] })
    let word := fun (kind epoch : Nat) => BitVec.ofNat 64 (kind * 2 ^ 61 + epoch * 2 ^ 59 + 2 ^ 56 + 255 * 2 ^ 48 + 5)
    let took := fun (s : State) (m : W64) => (s.takeIn 248 Vn.MGT (fun p => p.h.opcode.toNat == 4 && s.domOn 64)).map (fun e => (e.1, e.2.1)) = some (mgtMsg 4 [m], 9)
    let dr : Switch := { sw8 with draining := true, armed := true, T := 0, reps := [(40, some ⟨1, 1, 0⟩), (255, some ⟨0, 0, 0⟩)] }
    let ld : Load := { src := 23, bank := 1, blend := ⟨77, 0, []⟩, dir := [], sect := 9, pos := 0, list := (0, 0, 0, 0), parts := [40], sent := [], verdict := none, sealed := [], again := [], bad := [], good := [] }
    let lc := potCmd 23 0x10 [64, BitVec.ofNat 64 (bits (headerWords.getD 1 0) 0 32)]
    let started : PotCmd := { lc with started := true }
    let run := fun (l : Load) => ((potWith started).wr (Off.NI_BANK_ID 40 1) 77).modPot (fun p => { p with load := some l })
    (mayRun ok 23 0x11 = true ∧ ok.pot.sw.isSome = false ∧ ok.bankSt 0 ≠ 3 ∧ ok.bankSt 1 = 1 ∧ (blend ok 1).follows = (blend ok 0).id ∧ ok.floorBroken 0 = false ∧ ok.gatesDiffer = false ∧ ok.epochNum % 2 = 0) ∧
      (mayRun late 23 0x11 = true ∧ ((late.pot.cmd 23).map (fun x => (x.word 1).toNat)) = some 0 ∧ (potWith (go 0)).bankSt 1 ≠ 1 ∧ (blend part 1).follows ≠ (blend part 0).id ∧ (late.setBankSt 0 3).bankSt 0 = 3) ∧
      ((sw sw8).pot.sw = some sw8 ∧ sw8.armed = false ∧ sw8.T ≤ (sw sw8).time.now + 32768) ∧
      (took (tell sw8 (word 1 0)) (word 1 0) ∧ took (tell sw8 (word 2 0)) (word 2 0) ∧ took (tell sw8 (word 3 3)) (word 3 3) ∧ bits (word 3 3) 59 2 = (sw8.number + 3) % 4 ∧ bits (word 1 0) 59 2 = sw8.number % 4 ∧
        bits (word 1 0) 48 8 ∈ sw8.parts ∧ (∀ m ∈ sw8.parts, KMap.get (fun _ => 0) (KMap.set (fun _ => 0) sw8.ans 255 1) m = 1)) ∧ (dr.drained (2 ^ 24) = true ∧ sw8.drained (2 ^ 24) = false ∧ dr.T + 2 ^ 24 ≤ timed.time.now) ∧
      (mayRun (potWith lc) 23 0x10 = true ∧ lc.addr 1 % 64 = 0 ∧ (potWith lc).pot.sw = none ∧ (potWith lc).pot.load = none ∧ imageOk false headerWords (bits (lc.word 2) 0 32) gapWords gateWords = true ∧ imageOk false [] 0 [] [] = false ∧
        (potWith lc).bankSt 0 ≠ 3 ∧ (potWith lc).bankSt 1 ≠ 3) ∧
      ((run ld).pot.cmd 23 = some started ∧ started.op = 0x10 ∧ (run ld).pot.load = some ld ∧ ld.sect = 9 ∧ ld.verdict = none ∧ ld.bank < 2 ∧ (run ld).domOn 64 = true ∧ ld.src = 23) ∧
      (40 ∈ ld.parts ∧ (∀ n ∈ ld.parts, n ∈ ({ ld with good := [40] }).good)) := by decide +kernel

/-! ### Mailboxes and rings -/

/-- An access of some bytes at an address of NI 248's aperture: a write, or a read in ION. -/
def apPkt (vn op addr size : Nat) : Pkt :=
  let h : Hdr := { Hdr.zero with vn := BitVec.ofNat 3 vn, opcode := BitVec.ofNat 6 op, src := 40, mid := BitVec.ofNat 46 (addr / 64) }
  if vn = 5 ∧ op = 1 then Pkt.one h (lineOfWords [bytesAt addr size]) else { h := { h with len := 1 }, pl := 0, body := [⟨false, bytesAt addr size, 7⟩] }

/-- NI 248 with an access in its inbox. -/
def apWith (p : Pkt) : State := timed.modNi 248 (fun u => { u with inbox := [(p, 9, 5)] })

/-- The Pot's core runs firmware. -/
def firm (s : State) : State := s.setFld Off.PT_POT_STATUS Fld.PT_POT_STATUS.STAGE 1

theorem test_hyps_Mailboxes : let took := fun (posted rings : Bool) (p : Pkt) => (((apWith p).takeAperture posted (fun q => q.rings == rings)).map (·.1)) = some p
    let cmdw := apPkt 4 1 0x703C 4
    let bell := apPkt 4 1 0x7040 4
    let ask := fun (m op : Nat) => firm (((timed.wr (Off.PT_MB_CMD m 0) (BitVec.ofNat 64 (op * 2 ^ 48))).modPot (fun p => { p with rung := [m] })))
    let ended' := { potCmd 7 0x24 [0] with started := true, res := some (255, [1, 2]) }
    let snap := { potCmd 23 0x24 [BitVec.ofNat 64 (2 ^ 24 - 2048)] with started := true }
    let slow := { potCmd 7 0x02 [0] with started := true, since := 2 ^ 24 - 200000 }
    let ld : Load := { src := 7, bank := 1, blend := Blend.empty, dir := [], sect := 0, pos := 0, list := (0, 0, 0, 0), parts := [], sent := [], verdict := none, sealed := [], again := [], bad := [], good := [] }
    let lc := { potCmd 7 0x10 [0, 0] with started := true }
    let busy := (apWith bell).setFld (Off.PT_MB_STATUS 7) Fld.PT_MB_STATUS.STATE 1
    let low : State := { apWith bell with dom := [(64, { Domain.reset with st := .ret })] }
    (took true false cmdw ∧ cmdw.regAccess = some (0x703C, 4) ∧ cmdw.mailbox = (7, 0x3C) ∧ took false false (apPkt 5 2 0x7038 8) ∧ took false false (apPkt 5 1 0x7038 8) ∧ (apPkt 5 1 0x7038 8).regAccess.isSome = true ∧
        took false false (apPkt 5 3 0x7038 8) ∧ took true false (apPkt 4 1 0x7039 2) ∧ (apPkt 4 1 0x7039 2).regAccess = none) ∧
      (took true true bell ∧ took false true (apPkt 5 2 0x7040 8) ∧ bell.mailbox.1 = 7 ∧ busy.fld (Off.PT_MB_STATUS 7) Fld.PT_MB_STATUS.STATE = 1 ∧
        ((busy.takeAperture true (fun p => p.rings)).map (·.1)) = some bell ∧ ((low.takeAperture true (fun p => p.rings)).map (·.1)) = some bell ∧ low.domOn 64 = false) ∧
      ((ask 7 1).pot.rung = [7] ∧ (ask 7 1).accepting = true ∧ (ask 7 1).pot.cmd 7 = none ∧ cmdClass 0x01 = some 2 ∧ mayIssue 7 2 = true ∧ cmdClass 0x03 = some 0 ∧ mayIssue 7 0 = false ∧ cmdClass 0xFF = none) ∧
      ((potWith ended').pot.cmd 7 = some ended' ∧ (potWith ended').domOn 64 = true) ∧ ((potWith snap).pot.cmd 23 = some snap ∧ ((potWith snap).waitEnd snap).isSome = true ∧ snap.res = none ∧ ((potWith snap).pot.ring 15).fetched = []) ∧
      ((potWith slow).waitEnd slow = none ∧ canTimeout slow.op = true ∧ (potWith slow).deadline slow ≤ (potWith slow).refTime ∧ (potWith slow).domOn 64 = true ∧ (potWith slow).pot.load = none) ∧
      (((potWith lc).modPot (fun p => { p with load := some ld })).waitEnd lc = none ∧ 60000000 = (potWith lc).cmdBound lc ∧
        (let late : State := { (potWith lc).modPot (fun p => { p with load := some ld }) with uptime := 60000000 }
         late.deadline lc ≤ late.refTime ∧ late.pot.load = some ld ∧ ld.bank < 2 ∧ late.waitEnd lc = none ∧ late.pot.cmd 7 = some lc)) := by decide +kernel

/-- NI 248 in epoch 0 with one window of a KIND over everything. -/
def potMap (kind dest : Nat) : State := ((portWith 248 kind dest).modNi 248 (fun u => { u with ep := { u.ep with boot := false } })).setTab 248 0 Sec.ROUTE 0 (dest * 8) (BitVec.ofNat 64 (2 ^ 40 + 2 ^ 12))

/-- Ring 15 as given, in a state of PT_RING_STATE, with a command. -/
def ringWith (x : PotCmd) (st : Nat) (f : PotRing → PotRing) : State := firm (({ potWith x with tab := wide 248 1 232 }.modRing 15 f).setRingSt 15 st)

theorem test_hyps_Rings : let up : PotRing → PotRing := fun r => { r with setUp := true }
    let set := fun (src poll irq : Nat) => potCmd src 0x50 [15, 64, 128, 192, BitVec.ofNat 64 (poll * 2 ^ 32), BitVec.ofNat 64 irq, 0]
    let own := fun (s : State) => s.setFld (Off.PT_RING_CFG 15) Fld.PT_RING_CFG.OWNER 2
    let mb := fun (irq : Nat) => potCmd 1 0x50 [BitVec.ofNat 64 (2 ^ 8 + 15), 0, 0, 0, 1, BitVec.ofNat 64 irq, 0]
    let cmd := fun (op : Nat) => potCmd 1 op [BitVec.ofNat 64 (15 + 2 ^ 16 + 2 ^ 32)]
    let can := fun (first count lg : Nat) => (ringWith (potCmd 1 0x53 [BitVec.ofNat 64 (15 + first * 2 ^ 16 + count * 2 ^ 32)]) 1 up).setFld (Off.PT_RING_CFG 15) Fld.PT_RING_CFG.LOG2 lg
    let ok := fun (x : PotCmd) (st : Nat) => (ringWith x st up).mayRing 1 15
    let none' := (potCmd 0 1 [])
    let entry := fun (resp : Nat) (ph : W64) => (⟨PotId.fetch 15, 0, 4, 0, 0, resp, 0, [⟨false, allBytes, lineOfWords [ph]⟩], 232, 0, 0, true, true, false, 0⟩ : Completion)
    let got := fun (e : Completion) (st : Nat) => (ringWith none' st up).modNi 248 (fun u => { u with comps := [e] })
    let took := fun (s : State) (id : Nat) (e : Completion) => (s.takeComp 248 id).map (·.1) = some e
    let resp := fun (k code : Nat) => { entry code 0 with ident := ringIdent k 15 }
    let pw := firm (((potMap 1 232).modRing 15 up).setRingSt 15 1)
    (mayRun (ringWith (set 1 63 0) 0 id) 1 0x50 = true ∧ (ringWith (set 1 63 0) 0 id).ringArgsOk (set 1 63 0) = false ∧ (ringWith (set 1 64 0) 0 id).ringArgsOk (set 1 64 0) = true ∧
        (own (ringWith (set 1 64 0) 3 up)).mayRing 1 15 = false ∧ (own (ringWith (set 1 64 0) 3 up)).ringArgsOk (set 1 64 0) = true ∧
        (own (ringWith (set 1 64 0) 3 up)).ringSt 15 = 3 ∧ (ringWith (set 1 64 0) 3 id).mayRing 1 15 = true ∧ ok (set 1 64 0) 1 = false ∧ (ringWith (set 1 64 0) 1 id).mayRing 1 15 = true ∧
        (ringWith (set 1 64 0) 1 id).ringSt 15 = 1 ∧ mayRun (ringWith (set 1 64 0) 3 id) 1 0x50 = true) ∧
      (mayRun (ringWith (mb 3) 0 id) 1 0x50 = true ∧ (mb 3).addr 6 % 4 ≠ 0 ∧ mayRun (ringWith (mb 4) 0 id) 1 0x50 = true ∧ (mb 4).addr 6 % 4 = 0 ∧ bit ((mb 4).word 1) 8 = true) ∧
      (∀ op ∈ [0x51, 0x52, 0x53], ∀ st ∈ [0, 1, 2, 3], mayRun ((ringWith (cmd op) st up).setFld (Off.PT_RING_CFG 15) Fld.PT_RING_CFG.OWNER 1) 1 op = true ∧
        ((ringWith (cmd op) st up).setFld (Off.PT_RING_CFG 15) Fld.PT_RING_CFG.OWNER 1).mayRing 1 15 = true ∧ (own (ringWith (cmd op) st up)).mayRing 1 15 = false ∧ (ringWith (cmd op) st up).ringSt 15 = st) ∧
      ((ringWith (cmd 0x51) 0 id).mayRing 1 15 = true ∧ ((ringWith (cmd 0x51) 0 id).pot.ring 15).setUp = false ∧ ((ringWith (cmd 0x51) 0 up).pot.ring 15).setUp = true ∧
        (ringWith (cmd 0x52) 1 up).pot.cmd 23 = none ∧ ((ringWith (cmd 0x52) 1 up).modPot (fun p => { p with cmds := p.cmds ++ [potCmd 23 1 []] })).pot.cmd 23 ≠ none) ∧
      ((can 1 1 0).ringSize 15 = 1 ∧ (can 4095 4096 12).ringSize 15 = 4096 ∧ (can 1 1 0).pot.cmd 8 = none) ∧
      ((ringWith none' 1 up).accepting = true ∧ ((ringWith none' 1 up).pot.ring 15).reading = false ∧ ((ringWith none' 1 up).pot.ring 15).pollAt ≤ (ringWith none' 1 up).refTime ∧ ((ringWith none' 1 up).pot.ring 15).fetched.length < 4 ∧
        passes pw 248 (potReq Vn.REQ 4 ((pw.fld (Off.PT_RING_SQ 15) Fld.PT_RING_SQ.ADDR + 64 * (pw.pot.ring 15).next) / 64) (PotId.fetch 15) true [] 0) 232 = true) ∧
      (took (got (entry Resp.OK 1) 0) (PotId.fetch 15) (entry Resp.OK 1) ∧ (got (entry Resp.OK 1) 0).ringSt 15 ≠ 1 ∧ (entry Resp.OK 1).resp = Resp.OK ∧ took (got (entry Resp.OK 0) 1) (PotId.fetch 15) (entry Resp.OK 0) ∧
        bit (lineWord (((entry Resp.OK 0).lines.head?.map Body.data).getD 0) 0) 0 ≠ ((got (entry Resp.OK 0) 1).pot.ring 15).nextPhase ∧
        bit (lineWord (((entry Resp.OK 1).lines.head?.map Body.data).getD 0) 0) 0 = ((got (entry Resp.OK 1) 1).pot.ring 15).nextPhase ∧ (got (entry Resp.OK 1) 1).accepting = true ∧
        (got (entry Resp.OK 1) 1).pot.cmd 23 = none ∧ ((got (entry Resp.OK 1) 1).pot.ring 15).staleRead = false ∧ ((got (entry Resp.OK 1) 1).pot.ring 15).marks = [] ∧
        ((ringWith none' 1 (fun r => { r with staleRead := true })).pot.ring 15).staleRead = true) ∧
      ((∀ k ∈ [0, 1, 2, 3], took (got (resp k Resp.ERR_TIMEOUT) 1) (ringIdent k 15) (resp k Resp.ERR_TIMEOUT) ∧ took (got (resp k Resp.OK) 1) (ringIdent k 15) (resp k Resp.OK)) ∧ Resp.ERR_TIMEOUT ≠ Resp.OK ∧
        Resp.ERR_TIMEOUT ≠ Resp.ERR_POISON ∧ passes (potMap 3 8) 248 (potReq Vn.IOP 1 0 (PotId.ringIrq 15) true [writeBody 0 4 0] 0) 8 = true) ∧
      (let due := ringWith none' 1 (fun r => { r with irqDue := true, dirty := true, dirtyAt := 5, gapUntil := 2 ^ 24 })
       (due.pot.ring 15).irqDue = true ∧ (due.pot.ring 15).irqFnc = false ∧ (due.pot.ring 15).gapUntil ≤ due.refTime ∧ (due.pot.ring 15).dirtyAt / 2 ^ 20 < due.time.now / 2 ^ 20 ∧ due.domOn 64 = true ∧ (due.pot.ring 15).dirty = true ∧ due.ringSt 15 = 1) := by decide +kernel

/-! ### Commands of the Pot -/

/-- CMD1 of a command over a range of NIs. -/
def rangeOf (lo hi more : Nat) : Nat := lo + hi * 2 ^ 8 + more

/-- NI 0's island in retention. -/
def someAsleep (s : State) : State := { s with dom := [(niIsland 0, { Domain.reset with st := .ret })] }

theorem test_hyps_PotSettings : let cmd := fun (op w : Nat) (ws : List W64) => potCmd 23 op (BitVec.ofNat 64 w :: ws)
    let s := fun (op w : Nat) (ws : List W64) => potWith (cmd op w ws)
    let ok := fun (op w : Nat) (ws : List W64) => mayRun (s op w ws) 23 op
    let bus := (s 0x20 0 []).modPot (fun p => { p with sw := some sw8 })
    let slp := someAsleep (s 0x20 (rangeOf 0 255 (8 * 2 ^ 20)) [0])
    let fen := (s 0x20 (rangeOf 255 255 0) [0]).modNi 255 (fun u => { u with fenceHw := true })
    let ret : State := { s 0x02 0xDFB000 [] with dom := [(67, { Domain.reset with st := .ret })] }
    let cut := (s 0x02 0x2004000 []).modKt (fun k => { k with dieBFenced := true })
    let q := potReq Vn.ION 1 0 (PotId.cmd 23) false [⟨false, bytesAt 0 4, 0⟩] 0
    let r := potReq Vn.ION 2 0 (PotId.cmd 23) false [writeBody 0 4 7] 0
    let wt : PotCmd := { cmd 3 0 [7] with started := true, data := [1] }
    let e : Completion := ⟨PotId.cmd 23, 6, 1, 0, 0, Resp.OK, 0, [], 8, 0, 0, true, false, false, 0⟩
    let gone := (potWith wt).modNi 248 (fun u => { u with comps := [e] })
    let fences := fun (v : W64) => (List.range 4).foldl (fun s k => s.wr (Off.NI_AFENCE 255 k) v) (s 0x41 (rangeOf 255 255 0) [])
    (ok 1 0 [] = true ∧ ((s 1 0 []).queryRsp 0 0).isSome = true ∧ ((s 1 0 []).queryRsp 5 15).isSome = true ∧ ((s 1 6 []).queryRsp 6 0) = none) ∧
      (ok 2 2 [] = true ∧ ok 3 2 [] = true ∧ (2 % 4 ≠ 0) ∧ cut.behindFence 0x2004000 = true ∧ mayRun cut 23 2 = true ∧ ret.behindFence 0xDFB000 = false ∧ offDomain 0xDFB000 = some 67 ∧ (ret.domAt 67).st = .ret ∧
        mayRun ret 23 2 = true ∧ offDomain 0 = none ∧ (timed.niAt 248).ep.boot = true ∧ passes (portWith 248 3 8) 248 q (cfgOwner 0) = true ∧ passes (portWith 248 3 8) 248 r (cfgOwner 0) = true) ∧
      (gone.pot.cmd 23 = some wt ∧ wt.op = 3 ∧ wt.res = none ∧ gone.domOn 64 = true ∧ (gone.takeComp 248 (PotId.cmd 23)).map (·.1) = some e) ∧
      (∀ op ∈ [0x20, 0x21, 0x22, 0x41, 0x42], ok op (rangeOf 1 0 0) [0, 0] = true ∧ ok op (rangeOf 168 255 0) [0, 0] = true ∧ ok op (rangeOf 168 255 (2 ^ 16)) [0, 0] = true ∧ rangeBad (BitVec.ofNat 64 (rangeOf 1 0 0)) = true) ∧
      (bus.qosBusy 0 = true ∧ mayRun bus 23 0x20 = true ∧ slp.qosBusy 0 = false ∧ shaperBad [0] 8 = false ∧ slp.writable 0 = false ∧ slp.writable 255 = true ∧
        fen.writable 255 = false ∧ (fen.niAt 255).fenceHw = true ∧ shaperBad ((List.range 4).map (fun p => if p = 0 then 0 else slp.pendOf (Off.NI_SHAPER_CFG 255 p))) 8 = false) ∧
      ((niRange (BitVec.ofNat 64 (rangeOf 168 169 0))).all niHasMeter = true ∧ (niRange (BitVec.ofNat 64 (rangeOf 255 255 0))).all niHasMeter = false ∧ meterBad 0 0 = false ∧
        (∀ j, j < 16 → meterBad ((slp.niAt 169).meter j).pRate ((slp.niAt 169).meter j).pBurst = false)) ∧
      (bits (BitVec.ofNat 64 (rangeOf 0 0 (31 * 2 ^ 16)) : W64) 16 5 = 31 ∧ ok 0x22 (rangeOf 0 0 (31 * 2 ^ 16)) [0] = true ∧ bits (BitVec.ofNat 64 (rangeOf 0 255 (30 * 2 ^ 16)) : W64) 16 5 = 30) ∧
      (ok 0x23 3 [0, 0, 0] = true ∧ ok 0x23 (15 * 2 ^ 8 + 2) [0, 0, 0] = true ∧ ((s 0x23 (15 * 2 ^ 8 + 2) [0, 0, 0]).domAt 63).st = .on ∧ (slp.domAt (niIsland (unitNi 1 0))).st = .ret ∧ (fen.niAt (unitNi 1 255)).fenceHw = true) ∧
      ((∀ n ∈ niRange (BitVec.ofNat 64 (rangeOf 255 255 0)), ((fences 0).niAt n).strain.held = [] ∧ ((fences 0).niAt n).comps = []) ∧ (fences 0).freeFence 255 = some 0 ∧
        (fences (BitVec.ofNat 64 (2 ^ 63 + 5))).freeFence 255 = none ∧ (fences (BitVec.ofNat 64 (2 ^ 63 + 5))).fencesOf 255 5 = [0, 1, 2, 3] ∧ mayRun (fences 0) 23 0x41 = true) := by decide +kernel

theorem test_hyps_PotOrders : let s := fun (op w : Nat) (ws : List W64) => potWith (potCmd 23 op (BitVec.ofNat 64 w :: ws))
    let ok := fun (op w : Nat) (ws : List W64) => mayRun (s op w ws) 23 op
    let sn := (s 0x24 (2 ^ 24 + 2000) []).modPot (fun p => { p with snapT := some (2 ^ 24 + 1) })
    let dm := fun (d st : Nat) (x : Domain) => ({ s 0x30 (d + st * 2 ^ 8) [] with dom := [(d, x)] } : State)
    let lk := fun (k : Nat) (x : Lk) => (s 0x32 k []).setLk k 0 x
    let fa : State := { s 0x40 3 [] with sc := { timed.sc with opens := [⟨255, 3, 40, 1, 0⟩] } }
    let cd := fun (w : Nat) (f : Caddy → Caddy) => ({ s 0x43 w [] with cd := f timed.cd } : State)
    let rd := fun (count dest : Nat) => ({ s 0x44 (8191 + count * 2 ^ 16) [BitVec.ofNat 64 dest] with tab := wide 248 1 232 } : State)
    let copy : PotCmd := { potCmd 23 0x44 [0] with started := true, data := [1] }
    let e : Completion := ⟨PotId.copy 23, 2, 1, 0, 0, Resp.OK, 0, [], 8, 0, 0, true, true, false, 0⟩
    let back := (potWith copy).modNi 248 (fun u => { u with comps := [e] })
    let q := potReq Vn.REQ 5 0 (PotId.copy 23) true [⟨false, allBytes, lineOfWords ((List.range 4).map (timed.cd.word 8191) ++ [0, 0, 0, 0])⟩] (lineOfWords [0, allBytes])
    (ok 0x24 (2 ^ 24 + 1999) [] = true ∧ mayRun sn 23 0x24 = true ∧ timed.time.running = true ∧ timed.time.now < 2 ^ 24 + 1 ∧ timed.pot.snapT = none) ∧
      (ok 0x30 72 [] = true ∧ (s 0x30 770 []).powerRefused 2 3 = some 3 ∧ ok 0x30 (71 + 2 ^ 8) [] = true ∧ (dm 67 1 Domain.reset).powerRefused 67 1 = none ∧ 1 ≤ ((dm 67 1 Domain.reset).lowestRest 67).code ∧
        mayRun (dm 67 1 Domain.reset) 23 0x30 = true ∧ ((dm 67 1 Domain.reset).domAt 67).st.code < 1 ∧ ((dm 67 1 { Domain.reset with st := .ret }).domAt 67).st.code > 1 ∧
        ((dm 67 1 { Domain.reset with st := .cg }).domAt 67).st.code = 1 ∧ (dm 67 1 Domain.reset).domOn 64 = true) ∧
      (ok 0x31 15 [] = true ∧ ok 0x31 (2 ^ 32 + 15) [] = true ∧ ok 0x31 31 [] = true ∧ (timed.setFld Off.GL_LID_CTRL Fld.GL_LID_CTRL.SAUCER 8).fld Off.GL_LID_CTRL Fld.GL_LID_CTRL.SAUCER &&& 15 ≠ 0) ∧
      (ok 0x32 28 [] = true ∧ ok 0x32 (2 ^ 8 + 12) [] = true ∧ mayRun (lk 27 Lk.reset) 23 0x32 = true ∧ ((lk 27 Lk.reset).lkAt 27 0).st = .down ∧ lkSeam 11 = true ∧ lkSeam 27 = false ∧ lkEnd 27 0 = true ∧
        ((lk 27 { serving with st := .paused }).lkAt 27 0).st = .paused ∧ ((lk 27 serving).lkAt 27 0).st = .inService ∧
        (lk 27 serving).fld (Off.LK_RETRAIN_CNT 27 0) Fld.LK_RETRAIN_CNT.RECENT < (lk 27 serving).lkTh 27 0 Fld.LK_THRESH.LOST_RT ∧ ((lk 11 serving).modKt (fun k => { k with dieBFenced := true })).kt.dieBFenced = true) ∧
      (mayRun fa 23 0x40 = true ∧ fa.sc.opens.find? (fun o => o.cls == 3 && o.seq == 0) = some ⟨255, 3, 40, 1, 0⟩ ∧ timed.sc.opens.find? (fun o => o.cls == 3 && o.seq == 0) = none) ∧
      ((cd 0 (fun d => { d with frozen := true })).cd.frozen = true ∧ (cd 0 id).cd.frozen = false ∧ (cd 0 id).cd.freezing = false ∧ ((cd 0 id).cd.port 4).buf.length < 4 ∧ mayRun (cd 0 id) 23 0x43 = true ∧
        mayRun (cd 1 id) 23 0x43 = true ∧ (cd 1 (fun d => { d with byC4 := true })).cd.byC4 = true ∧ (cd 1 id).pins.fatal = false) ∧
      (mayRun (rd 0 0) 23 0x44 = true ∧ mayRun (rd 8192 64) 23 0x44 = true ∧ mayRun (rd 8193 0) 23 0x44 = true ∧ (rd 1 0).hostLines 0 1 = true ∧ (s 0x44 0 [0]).hostLines 0 1 = false ∧ passes (potMap 1 232) 248 q 232 = true) ∧
      (back.pot.cmd 23 = some copy ∧ copy.op = 0x44 ∧ copy.res = none ∧ copy.data.headD 0 ≤ ((back.niAt 248).comps.filter (fun e => e.ident == PotId.copy 23)).length) := by decide +kernel

/-! ### The ledger, restarts, the join and partitions -/

/-- The Pot with a ledger of its own and one PLATFORM step for each procedure. -/
def ldgWith (f : Ledger → Ledger) (x : PotCmd) : State :=
  (timed.modPot (fun p => { p with cmds := [x], ledger := f p.ledger, platform := [(0, [(BitVec.ofNat 64 (3 * 2 ^ 60), 5), (BitVec.ofNat 64 (2 ^ 60 + 2 ^ 56), 5)])] })).modSlice 15 (fun x =>
    { x with told := [((⟨15, 3, 16383, 0, 0⟩ : Repair).word, 9)] })

theorem test_hyps_RepairLedger : let rep : Repair := ⟨15, 3, 16383, 0, 0⟩
    let cc := potCmd 23 0x45 []
    let on := fun (s : State) => s.setFld Off.GL_LEDGER_CFG Fld.GL_LEDGER_CFG.ENABLE 1
    let low : State := { timed with dom := [(64, { Domain.reset with st := .ret })] }
    let pr : Proc := { steps := [(BitVec.ofNat 64 (3 * 2 ^ 60), 5), (BitVec.ofNat 64 (3 * 2 ^ 60), 7)], target := 0, data := [], pend := 3, since := 0 }
    let last : Proc := { pr with steps := [(BitVec.ofNat 64 (3 * 2 ^ 60), 5)] }
    let po : Proc := { pr with steps := [(BitVec.ofNat 64 (2 * 2 ^ 60 + 10 * 2 ^ 48), 0)], pend := 2 }
    let busy := fun (k : Nat) => on (ldgWith (fun l => { l with proc := some pr, wait := List.replicate k (1, 9) }) cc)
    let free := on (ldgWith id cc)
    let scan := ldgWith (fun l => { l with rescan := [14] }) cc
    let asleep : State := { scan with dom := [(62, { Domain.reset with st := .ret })] }
    (low.domOn 64 = false ∧ 64 ∉ low.wakeQ) ∧ ((timed.sliceAt rep.slice).told.find? (fun e => e.1 == rep.word) = none ∧ (free.sliceAt rep.slice).told.find? (fun e => e.1 == rep.word) = some (rep.word, 9) ∧
        ((ldgWith id cc).sliceAt rep.slice).told.find? (fun e => e.1 == rep.word) = some (rep.word, 9) ∧ (ldgWith id cc).ledgerClosed = true ∧ free.ledgerClosed = false ∧ free.domOn 64 = true) ∧
      ((busy 63).pot.ledger.proc.isSome = true ∧ (busy 63).pot.ledger.wait.length < 64 ∧ 64 ≤ (busy 64).pot.ledger.wait.length ∧ (busy 0).ledgerClosed = false ∧ ((busy 0).sliceAt rep.slice).told.find? (fun e => e.1 == rep.word) = some (rep.word, 9)) ∧
      (free.pot.ledger.proc = none ∧ free.pot.ledger.phase = .idle ∧ free.pot.ledger.wait = [] ∧ free.platformSteps.filter (fun st => bits st.1 56 4 == 1) = [(BitVec.ofNat 64 (2 ^ 60 + 2 ^ 56), 5)] ∧
        bits (BitVec.ofNat 64 (2 ^ 60 + 2 ^ 56) : W64) 60 4 = 1 ∧ (free.e5lbAddr 0).isSome = true) ∧
      (scan.pot.ledger.rescan = [14] ∧ scan.domOn 62 = true ∧ scan.missingRepairs 14 = [] ∧ asleep.domOn 62 = false ∧ 62 ∉ asleep.wakeQ ∧ asleep.domOn 64 = true) ∧
      (mayRun free 23 0x45 = true ∧ free.flag Off.GL_LEDGER_CFG Fld.GL_LEDGER_CFG.ENABLE = true ∧ (ldgWith id cc).flag Off.GL_LEDGER_CFG Fld.GL_LEDGER_CFG.ENABLE = false ∧
        (free.setFld Off.GL_LEDGER_STATUS Fld.GL_LEDGER_STATUS.COMPACTING 1).fld Off.GL_LEDGER_STATUS Fld.GL_LEDGER_STATUS.COMPACTING ≠ 0 ∧ free.fld Off.GL_LEDGER_STATUS Fld.GL_LEDGER_STATUS.COMPACTING = 0 ∧
        free.platformSteps.filter (fun st => bits st.1 56 4 == 0) = [(BitVec.ofNat 64 (3 * 2 ^ 60), 5)]) ∧
      (pr.pend = 3 ∧ po.pend = 2 ∧ free.fld Off.GL_LEDGER_STATUS Fld.GL_LEDGER_STATUS.COUNT < 4096 ∧ scan.pot.ledger.phase = .idle ∧ scan.pot.ledger.wait = [] ∧ scan.pot.ledger.proc = none ∧ pr.since + pr.value (BitVec.ofNat 64 (3 * 2 ^ 60), 5) * 1000 ≤ free.refTime ∧ (ldgWith (fun l => { l with proc := some last, phase := .single, half := 1, slot := 4094 }) cc).pot.ledger.slot + 1 < 4096) ∧
      (po.since + bits (BitVec.ofNat 64 (2 * 2 ^ 60 + 10 * 2 ^ 48) : W64) 48 8 * 100000 ≤ free.refTime ∧ (ldgWith (fun l => { l with proc := some po, phase := .single, again := true }) cc).pot.ledger.again = true) := by decide +kernel

/-- A protection table with its header. -/
def protTable : List W64 := [BitVec.ofNat 64 (0x5354524E * 2 ^ 32 + 2 ^ 16), BitVec.ofNat 64 (0x1216 * 2 ^ 48 + 2 ^ 40 + 67008)] ++ List.replicate 8374 0

theorem test_hyps_PotRestarts_header : protHeaderOk protTable = true ∧ protHeaderOk [] = false := by
  refine ⟨?_, by decide +kernel⟩
  have h : protTable.length = 8376 := by rw [protTable, List.length_append, List.length_replicate]; rfl
  have h0 : protTable.getD 0 0 = BitVec.ofNat 64 (0x5354524E * 2 ^ 32 + 2 ^ 16) := rfl
  have h1 : protTable.getD 1 0 = BitVec.ofNat 64 (0x1216 * 2 ^ 48 + 2 ^ 40 + 67008) := rfl
  simp only [protHeaderOk, h, h0, h1]
  decide

/-- The state with the reference time at a value. -/
def atTime (s : State) (now : Nat) : State := { s with uptime := now }

theorem test_hyps_PotRestarts : let x := potCmd 7 0x60 [64]
    let go : PotCmd := { x with started := true }
    let s := fun (f : Pot → Pot) => ({ timed with pins := { timed.pins with ready := true } } : State).modPot f
    let up := s (fun p => { p with cmds := [x], restart := some none })
    let alone := s (fun p => { p with cmds := [go], waitAll := some 0 })
    let tbl := fun (d : List Nat) => s (fun p => { p with cmds := [{ go with data := d }], restart := some (some 64) })
    (up.domOn 64 = true ∧ up.pins.ready = true ∧ up.pot.restart = some none) ∧ (alone.pot.restart = none ∧ alone.pot.waitAll = some 0 ∧ alone.pot.cmds = [go]) ∧
      (mayRun (potWith x) 7 0x60 = true ∧ x.addr 1 % 64 = 0 ∧ (potCmd 7 0x60 [63]).addr 1 % 64 ≠ 0 ∧ mayRun (potWith (potCmd 7 0x60 [63])) 7 0x60 = true ∧ (potWith x).pot.sw.isSome = false ∧ (potWith x).bankSt 0 ≠ 3 ∧
        (potWith x).bankSt 1 ≠ 3 ∧ (potWith x).pot.load.isSome = false ∧ (potWith x).pot.waitAll.isSome = false ∧ ((potWith x).setBankSt 1 3).bankSt 1 = 3) ∧
      ((tbl []).pot.cmd 7 = some go ∧ go.op = 0x60 ∧ go.res = none ∧ (tbl []).pot.restart = some (some 64) ∧ (tbl []).st.phase = .idle ∧ (tbl []).epochBusy = false ∧ (tbl [1]).pot.cmd 7 = some { go with data := [1] }) := by decide +kernel

theorem test_hyps_PotRestarts_errors : let go : PotCmd := { potCmd 7 0x60 [64] with started := true }
    let two := atTime (timed.modPot (fun p => { p with cmds := [go, potCmd 6 1 []], waitAll := some 0 })) 100000000
    let ld : Load := { src := 7, bank := 1, blend := Blend.empty, dir := [], sect := 0, pos := 0, list := (0, 0, 0, 0), parts := [], sent := [], verdict := none, sealed := [], again := [], bad := [], good := [] }
    let lost := (timed.modPot (fun p => { p with load := some ld })).modRing 15 (fun r => { r with line := some (3, true, 1, 2, 4, 0) })
    (two.pot.cmds.find? (fun x => x.op == 0x60 && x.started && x.res.isNone) = some go ∧ two.pot.cmd go.src = some go ∧ 1 < two.pot.cmds.length ∧ 0 + 100000000 ≤ two.refTime ∧ two.domOn 64 = true) ∧
      (lost.fld Off.PT_POT_STATUS Fld.PT_POT_STATUS.STAGE ≠ 3 ∧ lost.pot.load = some ld ∧ ld.bank < 2 ∧ (lost.pot.ring 15).line = some (3, true, 1, 2, 4, 0) ∧ (lost.pot.ring 14).line = none) := by decide +kernel

/-- The join at a step, in a state of GL_JOIN. -/
def joinWith (st step : Nat) (f : Pot → Pot) : State :=
  (({ timed with pins := { timed.pins with ready := true } } : State).setJoin st).modPot (fun p => f { p with joinStep := step })

theorem test_hyps_DieBJoin : let used := (joinWith 4 1 id).modSlice 15 (fun x => { x with cur := some ⟨3, 1, false⟩ })
    let links := fun (n : Nat) => (List.range 12).foldl (fun s k => if k < n then (s.setLk k 0 { serving with width := 1 }).setLk k 1 { serving with width := 1 } else s) (joinWith 1 3 id)
    let dom := fun (d : Nat) (x : Domain) => ({ timed with dom := [(d, x)] } : State)
    let rl : Domain := { Domain.reset with st := .off, phase := .reload, target := .on }
    let held := fun (b : Bool) => (joinWith 6 0 id).modKt (fun k => { k with bHeld := b })
    ((joinWith 0 0 id).pins.ready = true ∧ (joinWith 0 0 id).domOn 64 = true ∧ (joinWith 0 0 id).joinState = 0 ∧ (joinWith 0 0 id).pot.joinStep = 0) ∧
      ((∀ j : Fin 8, (joinWith 4 1 id).domIdle (56 + j) = true) ∧ used.domIdle (56 + (7 : Fin 8).val) = false ∧ used.pot.joinAt + 1000000 ≤ used.refTime ∧ used.pot.joinStep = 1) ∧
      (((List.range 12).filter (links 10).seamFull).length < 11 ∧ 11 ≤ ((List.range 12).filter (links 11).seamFull).length ∧ (∀ k : Fin 12, (links 12).seamFull k = true) ∧
        (links 11).pot.joinAt + 1000 * max 1 ((links 11).fld (Off.LK_THRESH 11 0) Fld.LK_THRESH.RETRAIN_LIMIT) ≤ (links 11).refTime ∧
        (links 10).pot.joinAt + 1000 * max 1 ((links 10).fld (Off.LK_THRESH 10 0) Fld.LK_THRESH.RETRAIN_LIMIT) ≤ (links 10).refTime ∧ (links 11).writable 248 = true ∧ (someAsleep (links 11)).writable 0 = false) ∧
      ((joinWith 1 2 id).pot.joinStep = 2 ∧ (joinWith 1 4 id).pot.joinStep = 4 ∧ (joinWith 1 5 id).pot.rejoin = false ∧ (joinWith 4 5 (fun p => { p with rejoin := true, poison := [(5, 8)] })).pot.rejoin = true ∧
        (joinWith 4 6 id).pot.poisoning = [] ∧ (joinWith 4 7 id).pot.sweeps = []) ∧
      ((joinWith 2 0 id).joinState ≠ 3 ∧ (joinWith 2 0 id).joinState ≠ 6 ∧ (held true).joinState = 6 ∧ (held true).kt.bHeld = true ∧ (held true).pot.joinStep = 0 ∧ (held false).kt.bHeld = false ∧
        (held false).pot.sw.isSome = false ∧ (held false).bankSt 0 ≠ 3 ∧ (held false).bankSt 1 ≠ 3 ∧ (held false).st.phase = .idle ∧ (held false).flag Off.GL_JOIN Fld.GL_JOIN.POISON_OVF = false ∧
        (held false).pot.sweeps.any (· < 8) = false ∧ ((held false).setFld Off.GL_JOIN Fld.GL_JOIN.POISON_OVF 1).flag Off.GL_JOIN Fld.GL_JOIN.POISON_OVF = true ∧
        ((held false).modPot (fun p => { p with sweeps := [7] })).pot.sweeps.any (· < 8) = true ∧ ((held false).setBankSt 1 3).bankSt 1 = 3) ∧
      (((dom 71 rl).domAt 71).phase = .reload ∧ ((dom 64 { rl with tries := 1 }).domAt 64).tries ≠ 0 ∧ (dom 71 rl).domOn 64 = true ∧ (dom 47 rl).domOn 66 = true ∧ (held false).pot.load.isSome = false ∧ (dom 47 rl).reloadHeld = false) := by decide +kernel

/-- A slice that sweeps, with domain 48 + h ON. -/
def sweepWith (h pos : Nat) (rejoin : Bool) (f : Slice → Slice) : State := timed.modSlice h (fun x => f { x with sweep := some ⟨0xFF00, rejoin, pos, 0, 0, 0⟩ })

theorem test_hyps_Partition : let cut := fun (st step : Nat) => ({ joinWith st step id with seamDown := some (2 ^ 24 - 1000) } : State)
    let told := fun (s : State) (n mop : Nat) => s.takeIn n Vn.MGT (fun p => p.h.opcode.toNat == 6 && p.mop == mop)
    let m := fun (mop : Nat) => mgtMsg 6 [BitVec.ofNat 64 (mop * 2 ^ 56), BitVec.ofNat 64 (2 ^ 46 - 1), 8]
    let pot := fun (mop : Nat) (f : Pot → Pot) => (timed.modNi 248 (fun u => { u with inbox := [(m mop, 9, 5)] })).modPot f
    let port := fun (n : Nat) (up : Bool) => (timed.modNi n (fun u => { u with inbox := [(m 0x14, 9, 5)] })).modPort n (fun x => { x with up := up })
    let took := fun (s : State) (n mop : Nat) => (told s n mop).map (fun e => (e.1, e.2.1)) = some (m mop, 9)
    let low : State := { sweepWith 15 0 false id with dom := [(63, { Domain.reset with st := .ret })] }
    let b := sweepWith 15 16383 false (fun x => { x with stat := [(16383, BitVec.ofNat 64 (2 ^ 63))] })
    ((cut 2 0).seamDown = some (2 ^ 24 - 1000) ∧ (cut 2 0).inReset = false ∧ 2 ^ 24 - 1000 + 1000 ≤ (cut 2 0).refTime ∧ (cut 2 0).joinState = 2 ∧ (cut 1 4).joinState = 1 ∧ (cut 1 4).pot.joinStep = 4 ∧
        (cut 5 0).joinState = 5 ∧ (cut 4 4).joinState = 4) ∧
      (low.domOn 63 = false ∧ 63 ∉ low.wakeQ ∧ b.domOn 63 = true ∧ (told b 247 0x10).isNone = true ∧ (told b 247 0x11).isNone = true ∧ sliceNi 15 = 247 ∧ (b.sliceAt 15).sweep = some ⟨0xFF00, false, 16383, 0, 0, 0⟩ ∧
        (b.sliceAt 15).recs = [] ∧ (b.sliceAt 15).bcast 16383 = true ∧ ((sweepWith 15 16383 true id).sliceAt 15).bcast 16383 = false ∧ ((sweepWith 15 16384 true id).sliceAt 15).recs = [] ∧
        (∀ k, k < 16 → entryUsed (((sweepWith 15 16383 true id).sliceAt 15).slot 16383 k).1 = false)) ∧
      (took (pot 0x12 id) 248 0x12 ∧ took (pot 0x13 id) 248 0x13 ∧ took (pot 0x15 id) 248 0x15 ∧ (pot 0x13 id).domOn 64 = true ∧ (pot 0x13 id).pot.poison.any (fun e => e.1 == 2 ^ 46 - 1) = false ∧
        (pot 0x13 (fun p => { p with poison := [(2 ^ 46 - 1, 8)] })).pot.poison.any (fun e => e.1 == 2 ^ 46 - 1) = true ∧ (pot 0x13 id).pot.poison.length < 8192) ∧
      (niType 15 = .mpa ∧ niType 16 = .cla ∧ took (port 15 false) 15 0x14 ∧ ((port 15 false).portAt 15).up = false ∧ ((port 15 true).portAt 15).up = true ∧ took (port 15 true) 15 0x14 ∧
        took (port 16 true) 16 0x14 ∧ ((port 16 true).portAt 16).up = true) := by decide +kernel

/-- A list of deferred poisonings can be full. -/
theorem test_hyps_Partition_full : let s := timed.modPot (fun p => { p with poison := List.replicate 8192 (1, 8) })
    8192 ≤ s.pot.poison.length ∧ ∀ e ∈ s.pot.poison, e.1 ≠ 2 ^ 46 - 1 := by
  constructor
  · exact Nat.le_of_eq List.length_replicate.symm
  · intro e he
    rw [(List.mem_replicate.mp he).2]
    decide

/-! ### Records, samples and counts -/

/-- A record. -/
def rec1 : CdRec := ⟨1, 2, 3, 4⟩

/-- The Caddy with a port of its own. -/
def cdWith (p : Nat) (x : CdPort) (f : Caddy → Caddy) : State := timed.modCd (fun c => f (c.setPort p x))

theorem test_hyps_CaddyRecords : let s := cdWith 6 ⟨[rec1], 0, none⟩ id
    let c4 := fun (p : Nat) (resv : Option (Nat × Nat)) => cdWith p ⟨[rec1], 0, resv⟩ (fun c => { c with freezing := true, byC4 := true })
    let fz := fun (x : CdPort) => cdWith 4 x (fun c => { c with freezing := true, byC4 := false })
    let frozen := cdWith 6 ⟨[rec1], 0, none⟩ (fun c => { c with frozen := true })
    let r := cdWith 6 ⟨[rec1], 0, some (8191, 2 ^ 24 - 1000)⟩ id
    let fold := cdWith 6 ⟨[rec1], 70000, some (8191, 2 ^ 24 - 999)⟩ id
    let two := (c4 1 (some (0, 5))).modCd (fun c => c.setPort 2 ⟨[rec1], 0, some (1, 5)⟩)
    ((s.cd.port 6).resv = none ∧ (s.cd.port 6).buf ≠ [] ∧ s.cd.frozen = false ∧ s.cd.freezing = false ∧ (c4 1 none).cd.freezing = true ∧ (1 : Nat) = (if (c4 1 none).cd.byC4 then 1 else 4) ∧ (timed.cd.port 6).buf = []) ∧
      (frozen.cd.frozen = true ∧ ((c4 6 none).cd.freezing = true ∧ (6 : Nat) ≠ if (c4 6 none).cd.byC4 then 1 else 4)) ∧
      ((r.cd.port 6).resv = some (8191, 2 ^ 24 - 1000) ∧ (r.cd.port 6).buf = [rec1] ∧ (r.cd.port 6).folded = 0 ∧ r.cd.freezing = false ∧ 2 ^ 24 - 1000 + 1000 ≤ r.refTime) ∧
      ((fold.cd.port 6).buf = [rec1] ∧ 0 < (fold.cd.port 6).folded ∧ fold.cd.freezing = false ∧ fold.refTime < 2 ^ 24 - 999 + 1000 ∧ ((cdWith 6 ⟨[rec1], 7, some (8191, 5)⟩ id).cd.port 6).folded = 7) ∧ (two.cd.freezing = true ∧ two.cd.byC4 = true ∧ (two.cd.port 2).resv.isSome = true) ∧
      ((∀ e ∈ (c4 1 (some (0, 5))).cd.ports, e.1 ≠ 1 → e.2.resv = none) ∧ ((c4 1 (some (0, 5))).cd.port 1).resv.isSome = true ∧ ((fz ⟨[rec1], 0, some (0, 5)⟩).cd.port 4).buf = [rec1] ∧
        (fz ⟨[rec1], 0, some (0, 5)⟩).cd.byC4 = false ∧ (fz ⟨[rec1], 0, some (0, 5)⟩).cd.freezing = true) := by decide +kernel

/-- An NI with a LEAF record and a stamp of a kind that has arrived for it. -/
def leafWith (r : Option LeafRec) (kind : Nat) : State :=
  (potMap 3 8).modNi 248 (fun u => { u with leaf := { u.leaf with
    recs := KMap.set (fun _ => none) u.leaf.recs 63 r, quar := [(5, 2 ^ 24 + 1), (6, 2 ^ 24 + 2)]
    arrived := [Pkt.one { Hdr.zero with vn := 7 } (lineOfWords [BitVec.ofNat 64 (kind * 2 ^ 62 + 63 * 2 ^ 56), 9])] } })

theorem test_hyps_TraceAndLeaf : let on := timed.setFld Off.PT_TRACE_CTRL Fld.PT_TRACE_CTRL.EN 1
    let tr := fun (f : Trace → Trace) => ({ on with tr := f on.tr } : State)
    let stays := (timed.setFld Off.PT_TRACE_CTRL Fld.PT_TRACE_CTRL.FOLLOW 1).modCd (fun c => { c with frozen := true })
    let r : LeafRec := { h := Hdr.zero, dest := 8, admitted := 0, expect := 2, stamps := [], deliver := none, arrived := 0 }
    let del := { r with deliver := some 5, arrived := 1 }
    let at' := fun (s : State) => (s.niAt 248).leaf
    let req := fun (r : LeafRec) (inc : Bool) => (leafWith (some r) 2).leafReq 248 63 r inc
    (on.traceOn = true ∧ timed.traceOn = false ∧ on.domOn 64 = true ∧ on.tr.resync = none ∧ on.tr.stopped = false ∧ (tr (fun t => { t with resync := some 15 })).tr.resync = some 15 ∧
        (tr (fun t => { t with stopped := true })).tr.stopped = true ∧ (tr (fun t => { t with stopped := true })).tr.resync = none) ∧
      (timed.fld Off.PT_TRACE_CTRL Fld.PT_TRACE_CTRL.EN = 0 ∧ on.fld Off.PT_TRACE_CTRL Fld.PT_TRACE_CTRL.EN = 1 ∧ timed.cd.frozen = false ∧
        stays.fld Off.PT_TRACE_CTRL Fld.PT_TRACE_CTRL.FOLLOW = 1 ∧ stays.cd.frozen = true ∧ stays.fld Off.PT_TRACE_CTRL Fld.PT_TRACE_CTRL.EN = 0) ∧
      ((at' timed).arrived = [] ∧ (at' (leafWith none 2)).arrived ≠ [] ∧ (at' (leafWith none 2)).recAt 63 = none) ∧
      ((∀ p ∈ (at' (leafWith (some r) 2)).arrived, bits (p.word 0) 56 6 = 63 ∧ bits (p.word 0) 62 2 = 2) ∧ (∀ p ∈ (at' (leafWith (some r) 1)).arrived, bits (p.word 0) 62 2 ≠ 2) ∧
        (at' (leafWith (some r) 2)).recAt 63 = some r ∧ r.arrived < r.expect ∧ r.deliver = none ∧ del.deliver.isSome = true ∧ del.expect ≤ del.arrived + 1 ∧ { r with arrived := 2 }.expect ≤ { r with arrived := 2 }.arrived) ∧
      (passes (leafWith (some r) 2) 248 (req r false) 8 = true ∧ passes (leafWith (some r) 2) 248 (req r true) 8 = true ∧ (leafWith (some r) 2).timeRuns 248 = true ∧
        r.admitted + 2 ^ leafTo ((leafWith (some r) 2).rd (Off.NI_LEAF_CFG 248)) ≤ (leafWith (some r) 2).niTime 248 ∧ ¬(2 ^ 24 + 2 ^ leafTo (timed.rd (Off.NI_LEAF_CFG 248)) ≤ timed.niTime 248)) ∧
      (KMap.get (fun _ => 0) (at' (leafWith none 2)).quar 5 ≤ (leafWith none 2).niTime 248 + 1 ∧ KMap.get (fun _ => 0) (at' (leafWith none 2)).quar 5 ≠ 0 ∧
        (leafWith none 2).niTime 248 + 1 < KMap.get (fun _ => 0) (at' (leafWith none 2)).quar 6 ∧ KMap.get (fun _ => 0) (at' (leafWith none 2)).quar 7 = 0) := by decide +kernel

theorem test_hyps_SnapshotUnits : let m := fun (T : Nat) => Pkt.one { Hdr.zero with vn := 7, opcode := 2, src := 248 } (lineOfWords [BitVec.ofNat 64 T, 5])
    let s := fun (n T : Nat) => timed.modNi n (fun u => { u with inbox := [(m T, 9, 5)] })
    let took := fun (n T : Nat) => ((s n T).takeIn n Vn.MGT (fun p => p.h.opcode.toNat == 2)).map (fun e => (e.1, e.2.1)) = some (m T, 9)
    let due := fun (u : PmUnit) => timed.setSnap u (some (5, 2 ^ 24))
    let early := timed.setSnap (.slice 15) (some (5, 2 ^ 24 + 1))
    let cg : State := { due (.slice 15) with dom := [(63, { Domain.reset with st := .cg })] }
    (took 247 (2 ^ 24) ∧ took 251 0 ∧ took 253 (2 ^ 24) ∧ (timed.takeIn 251 Vn.MGT (fun p => p.h.opcode.toNat == 2)).isNone = true ∧ niType 247 = .hsl ∧ timed.domOn 63 = true ∧
        timed.localFt (PmUnit.slice 15).island ≤ 2 ^ 24 ∧ 0 < timed.localFt (PmUnit.router (niTile 251)).island) ∧
      (∀ u ∈ [PmUnit.router 191, .ni 255, .slice 15], (due u).unitSnap u = some (5, 2 ^ 24) ∧ ((due u).domAt u.domain).st = .on ∧ 2 ^ 24 ≤ (due u).localFt u.island ∧ ((due u).islAt u.island).held = false) ∧
      ((cg.domAt (PmUnit.slice 15).domain).st = .cg ∧ cg.unitSnap (.slice 15) = some (5, 2 ^ 24) ∧ early.unitSnap (.slice 15) = some (5, 2 ^ 24 + 1) ∧ early.localFt (PmUnit.slice 15).island < 2 ^ 24 + 1) := by decide +kernel

/-- Line number of a line of a page of the aperture. -/
def pageLine (g k : Nat) : Nat := (if g < 192 then 0x400 * g else if g < 448 then 0x30000 + 0x200 * (g - 192) else 0x50000 + 0x800 * (g - 448)) / 64 + k

/-- A push of one line to a page of the aperture. -/
def pushPkt (g k : Nat) (priv : Bool) (data : Line) : Pkt :=
  let src := BitVec.ofNat 8 (pageUnit g).owner
  let h : Hdr := { Hdr.zero with vn := 4, opcode := 1, src := src, agent := 0xFFF, priv := priv, origin := true, len := 1, mid := BitVec.ofNat 46 (pageLine g k) }
  { h := h, pl := 0, body := [⟨false, allBytes, data⟩] }

/-- The collector, with a packet at NI 253. -/
def pmWith (p : Pkt) (f : Collector → Collector) : State := (timed.modNi 253 (fun u => { u with inbox := [(p, 9, 5)] })).modPm f

theorem test_hyps_CounterCollector : let kt := fun (num T : Nat) (f : Collector → Collector) => (timed.modPm f).modKt (fun k => { k with snap := some (num, T) })
    let ret := fun (f : Collector → Collector) => ({ kt 5 (2 ^ 24) f with dom := [(63, { Domain.reset with st := .ret }), (62, { Domain.reset with st := .off })] } : State)
    let page := fun (g : Nat) => (⟨0, 0, 0, List.replicate (pageUnit g).count 0⟩ : PmPage)
    ((kt 5 (2 ^ 24) id).time.now < 2 ^ 24 + 1 ∧ (kt 5 (2 ^ 24) id).kt.snap = some (5, 2 ^ 24) ∧ (kt 5 (2 ^ 24) id).pm.latchedFor ≠ 5 ∧ (kt 5 0 (fun c => { c with latchedFor := 5 })).pm.latchedFor = 5 ∧ timed.kt.snap = none) ∧
      ((ret (fun c => { c with fill := some (5, 2 ^ 24) })).pm.fill = some (5, 2 ^ 24) ∧ (ret id).pm.fill ≠ some (5, 2 ^ 24) ∧ (pageUnit 463).domain = 63 ∧ ((ret id).domAt 63).st.code = 2 ∧ ((ret id).domAt 62).st.code = 3 ∧
        ((ret (fun c => { c with images := [(463, some (page 463))] })).pm.image 463) = some (page 463) ∧ (ret id).pm.image 463 = none ∧ 463 ∉ (ret id).pm.settled) := by decide +kernel

theorem test_hyps_CounterCollector_push : let page := fun (g : Nat) => (⟨0, 0, 0, List.replicate (pageUnit g).count 0⟩ : PmPage)
    let took := fun (p : Pkt) => ((pmWith p id).takeIn 253 Vn.IOP (fun _ => (pmWith p id).domOn 67)).map (fun e => (e.1, e.2.1)) = some (p, 9)
    let here := lineOfWords [BitVec.ofNat 64 (2 * 2 ^ 30)]
    let mine := lineOfWords [BitVec.ofNat 64 (5 * 2 ^ 32 + 2 ^ 30)]
    let fill : Collector → Collector := fun c => { c with fill := some (5, 2 ^ 24 - 65536) }
    (took (pushPkt 463 0 false here) ∧ (pushPkt 463 0 false here).isPush = false ∧ took (pushPkt 463 0 true here) ∧ (pushPkt 463 0 true here).isPush = true ∧ (pushPkt 463 0 true here).lines = [⟨false, allBytes, here⟩] ∧
        pageAt ((pushPkt 463 0 true here).h.line * 64 % 0x80000) = some (463, 0) ∧ (pageUnit 463).owner = (pushPkt 463 0 true here).h.src.toNat ∧ bits (lineWord here 0) 30 2 = 2 ∧ bits (lineWord mine 0) 30 2 ≠ 2 ∧
        (pmWith (pushPkt 463 0 true mine) fill).pm.fill.map (·.1) = some (bits (lineWord mine 0) 32 32) ∧ (pmWith (pushPkt 463 0 true mine) id).pm.fill.map (·.1) ≠ some (bits (lineWord mine 0) 32 32)) ∧
      (pageAt ((pushPkt 463 ((pageUnit 463).count / 8) true here).h.line * 64 % 0x80000) = some (463, 64 * ((pageUnit 463).count / 8)) ∧ 0 < (pageUnit 463).count / 8 ∧ took (pushPkt 463 ((pageUnit 463).count / 8) true here) ∧
        (let st := fun (w : Nat) => pmWith (pushPkt 463 1 true here) (fun c => { fill c with into := [(463, w)], images := [(463, some (page 463))], banks := [(463, some (page 463))] })
         KMap.get (fun _ => 0) (st 2).pm.into 463 = 2 ∧ (st 2).pm.image 463 = some (page 463) ∧ (st 1).pm.page (st 1).pm.filling 463 = some (page 463) ∧ (page 463).cnts.length = (pageUnit 463).count ∧
           KMap.get (fun _ => 0) (pmWith (pushPkt 463 1 true here) id).pm.into 463 = 0)) := by decide +kernel

theorem test_hyps_CounterCollector_read : let page := fun (g : Nat) => (⟨0, 0, 0, List.replicate (pageUnit g).count 0⟩ : PmPage)
    let fill : Collector → Collector := fun c => { c with fill := some (5, 2 ^ 24 - 65536) }
    let rd := fun (op : Nat) (priv : Bool) => Pkt.one { Hdr.zero with vn := 5, opcode := BitVec.ofNat 6 op, src := 40, priv := priv } (lineOfWords [0xFF])
    let ask := fun (p : Pkt) => ((pmWith p id).takeIn 253 Vn.ION (fun _ => (pmWith p id).domOn 67)).map (fun e => (e.1, e.2.1)) = some (p, 9)
    let full' := timed.modPm (fun c => { c with fill := some (5, 0), settled := List.range 464 })
    ((timed.modPm fill).pm.fill = some (5, 2 ^ 24 - 65536) ∧ 2 ^ 24 - 65536 + 65536 ≤ (timed.modPm fill).time.now ∧ timed.time.now < 2 ^ 24 - 65535 + 65536) ∧
      (full'.pm.settled.length = 464 ∧ full'.domOn 67 = true ∧ (timed.modPm fill).pm.settled.length ≠ 464) ∧
      (ask (rd 2 true) ∧ ask (rd 1 true) ∧ ask (rd 1 false) ∧ (rd 1 false).touched ≠ [] ∧ ¬(∀ g ∈ (rd 1 false).touched, bit (timed.rd (Off.PM_USER (g / 64))) (g % 64) = true) ∧
        (∀ g ∈ (rd 1 false).touched, bit ((timed.wr (Off.PM_USER 0) 1).rd (Off.PM_USER (g / 64))) (g % 64) = true)) ∧
      ((timed.modPm (fun c => { c with shown := some 1, banks := [(464 + 191, some (page 191))] })).pm.page 1 191 = some (page 191)) := by decide +kernel

/-! ### The Saucer -/

/-- A fault word. -/
def faultWord (src kind cls : Nat) : W64 := BitVec.ofNat 64 (src * 2 ^ 56 + kind * 2 ^ 44 + cls * 2 ^ 41)

/-- A message of the queue. -/
def scMsg (w : W64) : ScMsg := ⟨w, 0, 0, 0, false⟩

/-- The Saucer as given, with a FAULT message at NI 249. -/
def scWith (m : W64) (f : Saucer → Saucer) : State := { timed.modNi 249 (fun u => { u with inbox := [(mgtMsg 1 [m], 9, 5)] }) with sc := f timed.sc }

theorem test_hyps_SaucerFaults : let k := FaultKind.NO_ROUTE.code
    let took := fun (s : State) (m : W64) => (s.takeIn 249 Vn.MGT (fun p => p.h.opcode.toNat == 1)).map (fun e => (e.1, e.2.1)) = some (mgtMsg 1 [m], 9)
    let w := fun (cls : Nat) => faultWord 40 k cls
    let q := fun (n cls : Nat) => ((fun c => { c with queue := List.replicate n (scMsg (faultWord 40 k cls)) }) : Saucer → Saucer)
    let low : State := { scWith (w 2) id with dom := [(65, { Domain.reset with st := .ret })] }
    let lows := fun (s : State) => (List.range s.sc.queue.length).filter (fun k => (s.sc.queue.map (fun e => bits e.w 41 3)).getD k 3 ≤ 2)
    let other := scWith (faultWord 41 k 3) (q 128 3)
    let proc := fun (cls : Nat) (f : Saucer → Saucer) => scWith 0 (fun c => f { c with queue := [scMsg (w cls)], lost := [(40, ⟨1, 2, 3⟩)] })
    let open' := fun (cls : Nat) => proc cls (fun c => { c with opens := [⟨0, cls, 40, k, 0⟩] })
    (low.domOn 65 = false ∧ (timed.takeIn 249 Vn.MGT (fun p => p.h.opcode.toNat == 1)).isNone = true ∧ (scWith (w 2) id).domOn 65 = true ∧ took (scWith (w 2) (q 119 2)) (w 2) ∧ kindListed (bits (w 2) 44 8) = true ∧
        bits (w 2) 41 3 = 2 ∧ (scWith (w 2) (q 119 2)).sc.queue.length < 120 ∧ 120 ≤ (scWith (w 2) (q 120 2)).sc.queue.length ∧ took (scWith (w 2) (q 120 2)) (w 2)) ∧
      (took (scWith (w 3) (q 127 3)) (w 3) ∧ (scWith (w 3) (q 127 3)).sc.queue.length < 128 ∧ bits (w 3) 41 3 = 3 ∧ (lows (scWith (w 3) (q 128 2))).getLast? = some 127 ∧ lows (scWith (w 3) (q 128 3)) = [] ∧
        (scWith (w 3) (q 128 3)).sc.queue.findIdx? (fun e => bits e.w 44 20 == bits (w 3) 44 20) = some 0) ∧
      (lows other = [] ∧ (∀ e ∈ other.sc.queue, bits e.w 44 20 ≠ bits (faultWord 41 k 3) 44 20) ∧ other.fld Off.SC_CTRL Fld.SC_CTRL.HRING_EN = 0 ∧ took other (faultWord 41 k 3)) ∧
      (took (scWith (w 4) id) (w 4) ∧ bits (w 4) 41 3 = 4 ∧ (scWith (w 4) id).cd.frozen = false ∧ (scWith (w 4) id).cd.freezing = false ∧ ((scWith (w 4) id).cd.port 1).buf = [] ∧ k ≠ FaultKind.FAULT_LOSS.code) ∧
      (kindListed (bits (faultWord 40 255 0) 44 8) = false ∧ took (scWith (faultWord 40 255 0) id) (faultWord 40 255 0) ∧ 4 < bits (w 5) 41 3 ∧ took (scWith (w 5) id) (w 5)) ∧
      ((proc 3 id).sc.queue = [scMsg (w 3)] ∧ (proc 3 id).domOn 65 = true ∧ (proc 3 id).fld Off.SC_CTRL Fld.SC_CTRL.HRING_EN = 0 ∧ (proc 3 id).sc.opens = [] ∧ (proc 3 id).sc.openAt 0 = none ∧ (proc 3 id).sc.seq < 2 ^ 32 ∧
        (∃ o ∈ (open' 3).sc.opens, o.cls = bits (w 3) 41 3 ∧ o.src = bits (w 3) 56 8) ∧ (∃ o ∈ (open' 1).sc.opens, o.cls = bits (w 1) 41 3 ∧ o.src = bits (w 1) 56 8) ∧ (proc 3 id).sc.lost ≠ []) := by decide +kernel

theorem test_hyps_SaucerFaults_news : let d := faultWord 40 FaultKind.KT_DOMAIN_FAIL.code 2
    ((scWith d id).takeIn 249 Vn.MGT (fun p => p.h.opcode.toNat == 1)).map (fun e => (e.1, e.2.1)) = some (mgtMsg 1 [d], 9) ∧ bits d 44 8 ∈ pathKinds.map FaultKind.code ∧
      kindListed (bits d 44 8) = true ∧ bits d 41 3 ≤ 4 := by decide +kernel

theorem test_hyps_SaucerRing : let comp := fun (id resp : Nat) => (⟨id, 2, 6, 0, 0, resp, 0, [], 8, 0, 0, true, true, false, 0⟩ : Completion)
    let s := fun (e : Completion) (f : Saucer → Saucer) => ({ timed.modNi 249 (fun u => { u with comps := [e] }) with sc := f timed.sc } : State)
    let took := fun (s : State) (e : Completion) => (s.takeComp 249 e.ident).map (·.1) = some e
    let due := ({ timed with sc := { timed.sc with irqDue := true, irqAt := 2 ^ 24 } } : State)
    let low : State := { due with dom := [(65, { Domain.reset with st := .ret })] }
    let here := (portWith 249 3 8)
    let held := { due with dom := [(niIsland 249, { Domain.reset with st := .cg })] }
    let q : Req := { vn := Vn.REQ, opcode := 8, agent := here.fld Off.SC_CTRL Fld.SC_CTRL.AGENT, priv := true, origin := true, line := 0, data := [], pl := 0, machine := none, ident := ScId.fnc }
    let irq : Req := { q with vn := Vn.IOP, opcode := 1, data := [writeBody 0 4 (here.rd Off.SC_IRQ_DATA)], ident := ScId.irq }
    let fatal : State := { timed with pins := { timed.pins with fatal := true } }
    let inj := fun (pt target port half : Nat) => ({ timed with pins := { timed.pins with testMode := true }, sc := { timed.sc with inj := some ⟨pt, target, 9, port, half, 1⟩ } } : State)
    (low.domOn 65 = false ∧ (timed.takeComp 249 ScId.fnc).isNone = true ∧ (timed.takeComp 249 ScId.write).isNone = true ∧ took (s (comp ScId.fnc Resp.OK) id) (comp ScId.fnc Resp.OK) ∧
        took (s (comp ScId.write Resp.OK) id) (comp ScId.write Resp.OK) ∧ took (s (comp ScId.write Resp.ERR_TIMEOUT) id) (comp ScId.write Resp.ERR_TIMEOUT) ∧ Resp.ERR_TIMEOUT ≠ Resp.OK ∧
        (s (comp ScId.write Resp.ERR_TIMEOUT) id).sc.stopped = false ∧ passes here 249 irq 8 = true ∧ here.fld Off.SC_IRQ_ADDR Fld.SC_IRQ_ADDR.ADDR = 0) ∧
      (due.sc.irqDue = true ∧ due.sc.irqFnc = false ∧ due.sc.irqAt ≤ due.niTime 249 ∧ due.domOn 65 = true ∧ timed.sc.irqDue = false ∧ due.admits 249 = true ∧ held.admits 249 = false ∧ held.domOn 65 = true ∧
        here.niFenced 249 = false ∧ here.agentFenced 249 q.agent = false ∧ here.strainer 249 (here.niAt 249).ep.bank q.vn q.opcode q.agent q.priv q.line = .pass) ∧
      (timed.fld Off.SC_CTRL Fld.SC_CTRL.HRING_EN = 0 ∧ (timed.setFld Off.SC_CTRL Fld.SC_CTRL.HRING_EN 1).fld Off.SC_CTRL Fld.SC_CTRL.HRING_EN = 1 ∧ fatal.pins.fatal = true ∧ timed.pins.fatal = false) ∧
      ((inj 0 0 0 0).pins.testMode = true ∧ (inj 0 0 0 0).domOn 65 = true ∧ timed.sc.inj = none ∧ timed.pins.testMode = false ∧
        (let f := (inj 0 0 0 0).wr Off.SC_INJ_FAULT (faultWord 40 FaultKind.NO_ROUTE.code 2)
         kindListed (bits (setBits (f.rd Off.SC_INJ_FAULT) 39 1 1) 44 8) = true ∧ bits (setBits (f.rd Off.SC_INJ_FAULT) 39 1 1) 41 3 ≤ 2 ∧ f.sc.queue.length < 120)) ∧
      (KMap.get (fun _ => 0) (inj 1 255 7 0).sc.injDone 255 < 2 ^ 16 ∧ portEdge (niTile 255) 0 = false ∧ portEdge (niTile 0) 0 = true ∧ lkEnd 27 1 = false ∧ lkEnd 27 0 = true) := by decide +kernel
end Sys2Proof.Tests
end

section
/-!
Obligation O7: what start-up samples of the fuse pins is held (R29). The frames of Laws/Frame*.lean name `pins` for the few commands that drive FABRIC_READY or FATAL or
run a reset or start-up; for those a second, finer frame is kept here, `State.HoldsFuses`. For every other command it follows from its frame.
-/
namespace Sys2Proof.Machine

/-! ### The frame of the sampled pins -/

/-- PORST_N and the fuse pins sampled at its rise are in `t` as they are in `s` (R29). -/
structure State.HoldsFuses (s t : State) : Prop where
  porstN : t.pins.porstN = s.pins.porstN
  testMode : t.pins.testMode = s.pins.testMode
  debugEn : t.pins.debugEn = s.pins.debugEn

/-- Every component of the state but the pins. -/
def offPins : List Part :=
  [.pending, .free, .wrapA, .wrapB, .uptime, .regs, .pend, .tab, .tabBad, .time, .isl, .ev, .rt, .ni, .port, .slice, .lk, .dom, .sb, .kt, .st, .cd, .tr, .sc, .pot,
   .pm, .dbg, .latch, .dbgLatch, .chk, .seamDown, .wire, .cwire, .owed, .used, .allHeld, .held, .nbrBase, .wakeQ]

/-- A command's outcome is a next state in which the sampled pins are held. -/
def State.NextHoldsFuses (s : State) (o : Outcome) : Prop := ∃ t, o = .next t ∧ s.HoldsFuses t

section
variable {s t u : State}

theorem State.HoldsFuses.refl (s : State) : s.HoldsFuses s := ⟨rfl, rfl, rfl⟩

theorem State.HoldsFuses.trans (h : s.HoldsFuses t) (h' : t.HoldsFuses u) : s.HoldsFuses u :=
  ⟨h'.porstN.trans h.porstN, h'.testMode.trans h.testMode, h'.debugEn.trans h.debugEn⟩

theorem State.HoldsFuses.ite {c : Prop} [Decidable c] (ht : s.HoldsFuses t) (hu : s.HoldsFuses u) : s.HoldsFuses (if c then t else u) := by
  split <;> assumption

theorem State.HoldsFuses.of_rest (h : t.rest offPins = s.rest offPins) : s.HoldsFuses t := by
  have hp : t.pins = s.pins := State.only_pins h (by decide)
  exact ⟨by rw [hp], by rw [hp], by rw [hp]⟩

/-- The pins are held by what has a frame without them. -/
theorem State.HoldsFuses.of_frame {ps : List Part} (h : Part.sub ps offPins = true → t.rest offPins = s.rest offPins)
    (hps : Part.sub ps offPins = true := by decide) : s.HoldsFuses t := .of_rest (h hps)

theorem State.HoldsFuses.foldl {α : Type} {f : State → α → State} {l : List α} (h : ∀ a ∈ l, ∀ s : State, s.HoldsFuses (f s a)) (s : State) :
    s.HoldsFuses (l.foldl f s) := by
  induction l generalizing s with
  | nil => exact .refl s
  | cons a l ih => exact (h a List.mem_cons_self s).trans (ih (fun b hb => h b (List.mem_cons_of_mem a hb)) (f s a))

theorem State.HoldsFuses.next (h : s.HoldsFuses t) : s.NextHoldsFuses (.next t) := ⟨t, rfl, h⟩

/-- A command whose frame does not name the pins holds what they sampled. -/
theorem State.NextHoldsFuses.of_frame {o : Outcome} {ps : List Part}
    (h : Part.sub ps offPins = true → ∃ t, o = .next t ∧ t.rest offPins = s.rest offPins) (hps : Part.sub ps offPins = true := by decide) : s.NextHoldsFuses o := by
  obtain ⟨t, e, r⟩ := h hps
  exact ⟨t, e, .of_rest r⟩

theorem State.NextHoldsFuses.doneState {o : Outcome} (h : s.NextHoldsFuses o) : s.HoldsFuses (doneState o s) := by
  obtain ⟨t, rfl, ht⟩ := h
  exact ht

end

/-! ### FATAL: the Kettle and the Saucer -/

theorem State.fatalEffects_holdsFuses (s : State) : s.HoldsFuses s.fatalEffects :=
  .ite ⟨rfl, rfl, rfl⟩ ⟨rfl, rfl, rfl⟩

theorem State.domFail_holdsFuses (s : State) (d : Nat) : s.HoldsFuses (s.domFail d) := by
  unfold State.domFail
  extract_lets x s1 s2 s3 s4 again s5 s6 s7
  have h6 : s6.rest offPins = s.rest offPins := by
    simp (disch := decide) only [s6, s5, s4, s3, s2, s1, State.seamWatch_rest, State.rest_wakeQ, State.modDom_rest, State.holdPairs_rest, State.loseUnits_rest, State.wr_rest,
      State.recPower_rest]
  have h7 : s7.rest offPins = s.rest offPins := by
    simp (disch := decide) only [s7, State.drainRelief_rest, State.reportKt_rest, State.tellFacing_rest, h6]
  clear_value s6 s7
  split
  · exact .of_rest (by simp (disch := decide) only [State.startRaise_rest, State.reportKt_rest, h6])
  split
  · exact .of_rest (by simp (disch := decide) only [State.reportKt_rest, h7])
  split
  · exact ((State.HoldsFuses.of_rest h7).trans s7.fatalEffects_holdsFuses).trans (.of_frame (State.saucerFail_rest _))
  · exact .of_rest h7

theorem execDomainRaiseDone_holdsFuses (d : Fin 72) (ok : Bool) (s : State) : s.NextHoldsFuses (execDomainRaiseDone d ok s) := by
  simp only [execDomainRaiseDone]
  split
  · split
    · exact (s.domFail_holdsFuses d).next
    split
    · exact (State.HoldsFuses.refl s).next
    · exact (State.HoldsFuses.of_frame (State.raised_rest s d)).next
  · exact (State.HoldsFuses.refl s).next

theorem execDomainStepTimeout_holdsFuses (d : Fin 72) (s : State) : s.NextHoldsFuses (execDomainStepTimeout d s) := by
  simp only [execDomainStepTimeout]
  split
  · exact (s.domFail_holdsFuses d).next
  · exact (State.HoldsFuses.refl s).next

theorem execDomainReloadDone_holdsFuses (d : Fin 72) (ok : Bool) (s : State) : s.NextHoldsFuses (execDomainReloadDone d ok s) := by
  unfold execDomainReloadDone
  extract_lets x
  split
  · exact (State.HoldsFuses.refl s).next
  split
  · exact (s.domFail_holdsFuses d).next
  split
  · exact (State.HoldsFuses.ite (.refl s) (.of_frame (State.askWake_rest s 64))).next
  split
  · exact (State.HoldsFuses.ite (.refl s) (.of_frame (State.askWake_rest s 66))).next
  split
  · exact (State.HoldsFuses.refl s).next
  next own s1 s2 s3 _ _ _ _ _ =>
    refine (State.HoldsFuses.of_rest ?_).next
    simp (disch := decide) only [s3, s2, s1, State.rest_ite, ite_self, State.commitLoss_rest, State.raised_rest, State.replayVolatile_rest, State.replayLedger_rest,
      State.askLinks_rest, State.reloadRegs_rest, State.reloadNis_rest]

theorem State.scRecord_holdsFuses (s : State) (m : ScMsg) : s.HoldsFuses (s.scRecord m) := by
  unfold State.scRecord
  extract_lets orig src seq s1
  split
  extract_lets w s2 w3 s3 s4
  have h1 : s.HoldsFuses s1 := .of_frame (State.modSc_rest s _)
  have h2 : s1.HoldsFuses s2 := .ite s1.fatalEffects_holdsFuses (.ite (.of_frame (State.scLid_rest s1 src)) (.refl s1))
  have h4 : s4.rest offPins = s2.rest offPins := by
    simp (disch := decide) only [s4, s3, State.scOpen_rest, State.wr_rest, State.scRecordCd_rest]
  exact (h1.trans h2).trans (.of_rest (by simp (disch := decide) only [State.rest_ite, State.scRing_rest, ite_self, h4]))

theorem State.scArrive_holdsFuses (s : State) (w hw1 : W64) (rep : Nat) : s.HoldsFuses (s.scArrive w hw1 rep) := by
  unfold State.scArrive
  extract_lets m q push flood
  have hpush : ∀ (s' : State) l, s'.HoldsFuses (push s' l) := fun s' l => .of_frame (State.modSc_rest s' _)
  split
  · exact s.fatalEffects_holdsFuses.trans (State.scRecord_holdsFuses _ m)
  split
  · exact .ite (hpush s q) (.of_frame (State.scFold_rest s w))
  split
  · exact hpush s q
  split
  · exact (State.HoldsFuses.of_frame (State.scDisplaced_rest s _)).trans (hpush _ _)
  split
  · exact .of_rest (by simp (disch := decide) only [State.bump_rest, State.modSc_rest])
  · exact ((s.scRecord_holdsFuses m).trans (State.fatalEffects_holdsFuses _)).trans (State.scRecord_holdsFuses _ flood)

theorem execFaultArrive_holdsFuses (s : State) : s.NextHoldsFuses (execFaultArrive s) := by
  unfold execFaultArrive
  split
  · exact (State.HoldsFuses.refl s).next
  split
  · exact (State.HoldsFuses.refl s).next
  next p k s1 hin =>
    have h1 : s.HoldsFuses s1 := .of_frame (State.takeIn_eq s 249 _ _ hin)
    obtain ⟨w, hw1, rep⟩ := faultOf p
    exact ((h1.trans (s1.scArrive_holdsFuses w hw1 rep)).trans (.of_rest (by simp (disch := decide) only [State.ledgerNews_rest, State.pathNews_rest]))).next

theorem execSaucerProcessEntry_holdsFuses (s : State) : s.NextHoldsFuses (execSaucerProcessEntry s) := by
  unfold execSaucerProcessEntry
  split
  · exact (State.HoldsFuses.refl s).next
  split
  · exact (State.HoldsFuses.refl s).next
  next m rest _ =>
    have h1 : s.HoldsFuses (s.modSc (fun c => { c with queue := rest })) := .of_frame (State.modSc_rest s _)
    exact ((h1.trans (State.scRecord_holdsFuses _ m)).trans (.of_frame (State.scLossEntries_rest _))).next

theorem execInjectFault_holdsFuses (s : State) : s.NextHoldsFuses (execInjectFault s) := by
  unfold execInjectFault
  split
  · exact (State.HoldsFuses.refl s).next
  next j _ =>
    exact ((State.HoldsFuses.of_frame (State.injected_rest s j)).trans (State.scArrive_holdsFuses _ _ _ _)).next

/-! ### FABRIC_READY and the writes of registers -/

theorem execBootReadyWrite_holdsFuses (s : State) : s.NextHoldsFuses (execBootReadyWrite s) := by
  unfold execBootReadyWrite
  extract_lets s1 p s2 s3
  split
  · exact (State.HoldsFuses.refl s).next
  · have h1 : s.HoldsFuses s1 := .of_rest (by simp (disch := decide) only [s1, State.setFld_rest, State.setLock_rest, State.setPotClose_rest])
    have h2 : s1.HoldsFuses s2 := ⟨rfl, rfl, rfl⟩
    have h3 : s2.HoldsFuses s3 := .of_rest (by simp (disch := decide) only [s3, State.sbReady_rest, State.setFld_rest])
    exact (((h1.trans h2).trans h3).trans (.foldl (fun c _ s' => .of_frame (State.lkAsk_rest s' (12 + c) 0)) s3)).next

/-- The action of a field write holds the sampled pins. -/
def FieldAct.HoldsFuses (a : FieldAct) : Prop := ∀ (s : State) v, s.HoldsFuses (a.act s v)

theorem onSet_holdsFuses {f : Fld} {c : State → Outcome} (h : ∀ s : State, s.NextHoldsFuses (c s)) : (onSet f c).HoldsFuses := fun s _ =>
  .ite (h s).doneState (.refl s)

theorem onWrite_holdsFuses {f : Fld} {c : Nat → State → Outcome} (h : ∀ v (s : State), s.NextHoldsFuses (c v s)) : (onWrite f c).HoldsFuses := fun s v => (h v s).doneState

/-- The cases are the registers in the order of `blockActs`, from GL_BOOT to KT_DOM. -/
theorem blockActs_holdFuses (o : Nat) : ∀ a ∈ blockActs o, a.HoldsFuses := by
  unfold blockActs
  (repeat' split) <;> simp only [List.forall_mem_cons, List.not_mem_nil, false_imp_iff, implies_true, and_true]
  case _ => exact onSet_holdsFuses execBootReadyWrite_holdsFuses
  case _ => exact onSet_holdsFuses fun s => .of_frame (execJoinGoWrite_rest s)
  case _ => exact fun s v => .of_frame (State.setPotClose_rest s v)
  case _ => exact ⟨onSet_holdsFuses fun s => .of_frame (execFtStartWrite_rest s), onSet_holdsFuses fun s => .of_frame (execFtSwitchReqWrite_rest s)⟩
  case _ =>
    refine ⟨fun s v => ?_, fun s v => ?_, fun s v => ?_⟩
    · exact .ite (.refl s) (.of_frame (State.writeMode_rest s v))
    · exact .ite (.of_frame (State.startCommit_rest s)) (.refl s)
    · exact .ite (.of_frame (State.setLock_rest s)) (.refl s)
  case _ =>
    exact ⟨onWrite_holdsFuses fun v s => .of_frame (execScC3LidWrite_rest _ s), onWrite_holdsFuses fun v s => .of_frame (execScHringEnableWrite_rest _ s)⟩
  case _ => exact fun s v => .ite (.of_frame (State.armInjection_rest s)) (.refl s)
  case _ =>
    exact ⟨onSet_holdsFuses fun s => .of_frame (execSbTelemCommit_rest s), onSet_holdsFuses fun s => .of_frame (execSbInCommit_rest s),
      onSet_holdsFuses fun s => .of_frame (execSbOutCommit_rest s)⟩
  case _ => exact onWrite_holdsFuses fun v s => .of_frame (execTraceEnWrite_rest _ s)
  case _ => exact fun s v => .of_frame (State.writeRest_rest s _ _)

/-- The cases are NI_CTRL, NI_QOS_CTRL, NI_LEAF_CFG, RT_CTRL, HS_CTRL and LK_CTRL; the filter commits are `page`. -/
theorem unitActs_holdFuses (o : Nat) : ∀ a ∈ unitActs o, a.HoldsFuses := by
  have page : ∀ (c : CopyUnit) (f : Fld), FieldAct.HoldsFuses ⟨f, fun s v => doneState (execPmFltCommit c (BitVec.ofNat 4 v) s) s⟩ := fun c f s v =>
    (State.NextHoldsFuses.of_frame (execPmFltCommit_rest c _ s)).doneState
  unfold unitActs
  dsimp only
  (repeat' split) <;> simp only [List.forall_mem_cons, List.not_mem_nil, false_imp_iff, implies_true, and_true, page]
  case _ =>
    exact ⟨fun s v => .of_frame (State.fenceSw_rest s _ _), onSet_holdsFuses fun s => .of_frame (execNiLossCommit_rest _ s),
      onSet_holdsFuses fun s => .of_frame (execNiTagCommit_rest _ s)⟩
  case _ =>
    exact ⟨fun s v => .ite (.of_frame (State.commitShapers_rest s _)) (.refl s), fun s v => .ite (.of_frame (State.commitMeters_rest s _)) (.refl s)⟩
  case _ => exact fun s v => .ite (.of_frame (State.commitLeaf_rest s _)) (.refl s)
  case _ => exact onWrite_holdsFuses fun v s => .of_frame (execRtForceUnreachWrite_rest _ _ s)
  case _ => exact onSet_holdsFuses fun s => .of_frame (execHsArbCommit_rest _ s)
  case _ =>
    refine ⟨fun s v => ?_, fun s v => ?_⟩
    · exact .ite (.refl s) (State.NextHoldsFuses.of_frame (execLkEnableWrite_rest _ _ _ s)).doneState
    · exact .ite (.of_frame (State.lkRetrain_rest s _ _)) (.refl s)

theorem fieldActs_holdFuses (o : Nat) : ∀ a ∈ fieldActs o, a.HoldsFuses := by
  unfold fieldActs
  split
  · exact blockActs_holdFuses o
  · exact unitActs_holdFuses o

theorem State.plainWrite_holdsFuses (s : State) (o : Nat) (r : RegRow) (v reach : W64) : s.HoldsFuses (s.plainWrite o r v reach) := by
  unfold State.plainWrite
  extract_lets acts actMask boot free m set clr one old s1 st s2
  have h2 : s.HoldsFuses s2 := .of_rest (by
    simp (disch := decide) only [s2, s1, State.overWrite_rest, State.rest_ite, State.setPend_rest, ite_self, State.wr_rest])
  exact h2.trans (.foldl (fun a ha s' => fieldActs_holdFuses o a (List.mem_filter.mp ha).1 s' _) s2)

theorem State.writeReg_holdsFuses (s : State) (o : Nat) (v reach : W64) : s.HoldsFuses (s.writeReg o v reach) := by
  unfold State.writeReg
  split
  · exact .refl s
  next r _ =>
    split
    · exact .refl s
    split
    next t ht => exact (State.HoldsFuses.of_frame (State.wholeWrite_eq s o v reach ht)).trans (.of_frame (State.noteWrite_rest t o r))
    · exact (s.plainWrite_holdsFuses o r v reach).trans
        (.of_rest (by simp (disch := decide) only [State.noteWrite_rest, State.rest_ite, State.lockedWrite_rest, ite_self]))

theorem execRegisterWrite_holdsFuses (a : BitVec 24) (wide : Bool) (value : W64) (s : State) : s.NextHoldsFuses (execRegisterWrite a wide value s) := by
  unfold execRegisterWrite
  extract_lets o size
  split
  · exact (State.HoldsFuses.refl s).next
  · exact (s.writeReg_holdsFuses _ _ _).next

/-! ### Packets that an NI receives -/

theorem State.serveRegister_holdsFuses (s : State) (n : Nat) (p : Pkt) : s.HoldsFuses (s.serveRegister n p) := by
  have answered : ∀ resp, s.HoldsFuses (s.answerErr n p.h resp) := fun resp => .of_frame (State.answerErr_rest s n p.h resp)
  unfold State.serveRegister
  dsimp only
  split
  · exact answered _
  split
  · exact (State.HoldsFuses.of_frame (State.regRead_rest s _ _ _)).trans (.of_frame (State.answer_rest _ _ _ _ _ _ _ _))
  split
  · exact answered _
  split
  · exact answered _
  split
  · exact answered _
  · exact (s.writeReg_holdsFuses _ _ _).trans (.of_frame (State.answer_rest _ _ _ _ _ _ _ _))

theorem State.takeRequest_holdsFuses (s : State) (n : Nat) (p : Pkt) : s.HoldsFuses (s.takeRequest n p) := by
  unfold State.takeRequest
  extract_lets h vn t form
  refine State.HoldsFuses.trans (.of_frame (State.noteAsked_rest s n h)) ?_
  change t.HoldsFuses _
  clear_value t
  have refused : ∀ cnt fld, t.HoldsFuses (if vnAsks vn then t.answerErr n h Resp.ERR_FENCED else t.bump cnt fld) := fun cnt fld =>
    .ite (.of_frame (State.answerErr_rest t n h _)) (.of_frame (State.bump_rest t cnt fld))
  split
  · exact refused _ _
  split
  · exact .of_frame (State.modNi_rest t n _)
  split
  · exact t.serveRegister_holdsFuses n p
  split
  · exact .of_frame (State.unserved_rest t n h)
  split
  · exact refused _ _
  · exact .of_frame (State.deliver_rest t n p)

theorem State.takePkt_holdsFuses (s : State) (n : Nat) (p : Pkt) : s.HoldsFuses (s.takePkt n p) := by
  unfold State.takePkt
  extract_lets h vn
  have toUnit : s.HoldsFuses (s.toUnit n p) := .of_frame (State.toUnit_rest s n p)
  split
  · exact .of_rest (by simp (disch := decide) only [State.unserved_rest, State.noteAsked_rest])
  split
  · exact .ite (.of_frame (State.ownResponse_rest s n p)) toUnit
  split
  · exact .ite toUnit (.of_frame (State.unserved_rest s n h))
  · exact s.takeRequest_holdsFuses n p

theorem State.received_holdsFuses (s : State) (n vn : Nat) (fs : List Flit) (es : List LaneErrs) (err : BufErr) : s.HoldsFuses (s.received n vn fs es err) := by
  unfold State.received
  split
  case h_2 => exact .of_frame (State.malformed_rest s n vn 0)
  extract_lets e s1 s2 s3 h1
  have r1 : s1.rest offPins = s.rest offPins :=
    (foldl_rest _ _ _ (fun s _ => State.evNi_rest _ _ _ _ _ (by decide))).trans (State.evNi_rest _ _ _ _ _ (by decide))
  have r2 : s2.rest offPins = s.rest offPins := by
    simp only [s2]
    split
    · exact r1
    · exact (State.niLaneUe_rest _ _ _ _ (by decide)).trans r1
  have r3 : s3.rest offPins = s.rest offPins := by
    simp (disch := decide) only [s3, State.rest_ite, State.countIop_rest, ite_self, r2]
  clear_value s1 s2 s3 h1
  dsimp only
  have r4 : ∀ b es, (s3.bodyChecks n h1 1 b es).1.rest offPins = s.rest offPins := fun b es => (State.bodyChecks_rest _ _ _ _ _ _ (by decide)).trans r3
  split
  · exact .of_rest (r4 _ _)
  split
  · exact .of_rest ((State.malformed_rest _ _ _ _ (by decide)).trans (r4 _ _))
  split
  · exact .of_rest (r4 _ _)
  · refine State.HoldsFuses.trans (.of_rest ?_) (State.takePkt_holdsFuses _ n _)
    simp (disch := decide) only [State.rxCheck_rest, State.rest_ite, State.pushStamp_rest, ite_self, r4]

theorem State.rxLane_holdsFuses (s : State) (n vn : Nat) (gt : Bool) (errs : List LaneErrs) (err : BufErr) {t : State} (h : s.rxLane n vn gt errs err = some t) :
    s.HoldsFuses t := by
  unfold State.rxLane at h
  dsimp only at h
  split at h
  · cases h
  next fs rest _ =>
    have taken : s.HoldsFuses (((s.rxErrs n vn gt fs errs).2.1.setWire (niKey n) rest).oweFlits n vn fs) :=
      .of_rest (by simp (disch := decide) only [State.oweFlits_rest, State.setWire_rest, State.rxErrs_rest])
    split at h
    · cases h
    · cases h
    · cases h
      exact taken
    · cases h
      exact (taken.trans (State.received_holdsFuses _ n vn fs (s.rxErrs n vn gt fs errs).1 err)).trans
        (.of_rest (by simp (disch := decide) only [State.serveComps_rest, State.rest_ite, State.markInj_rest, ite_self]))

theorem execNiPacketReceive_holdsFuses (n : Fin 256) (vn : Fin 8) (errs : List LaneErrs) (err : BufErr) (s : State) :
    s.NextHoldsFuses (execNiPacketReceive n vn errs err s) := by
  simp only [execNiPacketReceive]
  split
  · exact (State.HoldsFuses.refl s).next
  split
  next t h =>
    rcases Option.or_eq_some_iff.mp h with h | ⟨-, h⟩ <;> exact (s.rxLane_holdsFuses _ _ _ _ _ h).next
  split
  · exact (State.HoldsFuses.ite (.refl s) (.of_frame (State.askWake_rest s _))).next
  · exact (State.HoldsFuses.refl s).next

/-! ### Resets and start-up -/

theorem State.resetAll_holdsFuses (s : State) (warm : Bool) : s.HoldsFuses (s.resetAll warm) := by
  unfold State.resetAll State.resetKeeps
  dsimp only
  (repeat' split) <;> exact ⟨rfl, rfl, rfl⟩

/-- The state in which a step of start-up ends, whether it goes on or stops, holds the sampled pins. -/
def BootStep.HoldsFuses (r : BootStep) (s : State) : Prop := ∀ t, r = .ok t ∨ r = .error t → s.HoldsFuses t

theorem BootStep.HoldsFuses.of_frame {r : BootStep} {s : State} {ps : List Part}
    (h : Part.sub ps offPins = true → ∀ t, r = .ok t ∨ r = .error t → t.rest offPins = s.rest offPins) (hps : Part.sub ps offPins = true := by decide) :
    BootStep.HoldsFuses r s := fun t ht => .of_rest (h hps t ht)

theorem BootStep.HoldsFuses.bind {r : BootStep} {f : State → BootStep} {s : State} (hr : BootStep.HoldsFuses r s) (hf : ∀ u, BootStep.HoldsFuses (f u) u) :
    BootStep.HoldsFuses (r.bind f) s := by
  intro t ht
  cases r with
  | error e =>
    rcases ht with h | h
    · cases h
    · cases h
      exact hr t (Or.inr rfl)
  | ok u => exact (hr u (Or.inl rfl)).trans (hf u t ht)

theorem State.boot1_holdsFuses (s : State) (b : BootIn) : BootStep.HoldsFuses (s.boot1 b) s := by
  intro t ht
  unfold State.boot1 at ht
  extract_lets cold s1 p s2 at ht
  rcases ht with ht | ht <;> cases ht
  have h1 : s.HoldsFuses s1 := .ite (.foldl (fun i _ s' => .of_frame (State.setFld_rest s' _ _ _)) s) (.refl s)
  have h2 : s1.HoldsFuses s2 := ⟨rfl, rfl, rfl⟩
  exact (h1.trans h2).trans (.of_rest (by simp (disch := decide) only [State.setStage_rest, State.setFld_rest]))

theorem State.startUp_holdsFuses (s : State) (b : BootIn) : s.HoldsFuses (s.startUp b) := by
  unfold State.startUp
  dsimp only
  generalize hr : Except.bind _ _ = r
  have steps : BootStep.HoldsFuses r s := by
    subst hr
    refine (((((((s.boot1_holdsFuses b).bind ?_).bind ?_).bind ?_).bind ?_).bind ?_).bind ?_).bind ?_ <;> intro u
    · exact .of_frame (State.boot3_rest u b _)
    · exact .of_frame (State.boot4_rest u b _)
    · exact .of_frame (State.boot5_rest u b)
    · exact .of_frame (State.boot6_rest u b)
    · exact .of_frame (State.boot7_rest u b)
    · exact .of_frame (State.boot8_rest u b)
    · exact .of_frame (State.boot9_rest u b)
  cases r with
  | ok t => exact (steps t (Or.inl rfl)).trans (.of_frame (State.bootEnd_rest t b))
  | error t => exact steps t (Or.inr rfl)

theorem execWarmNAssert_holdsFuses (s : State) : s.NextHoldsFuses (execWarmNAssert s) := by
  unfold execWarmNAssert
  extract_lets s1 p
  split
  · exact (State.HoldsFuses.refl s).next
  · have h1 : s.HoldsFuses s1 := .ite (s.resetAll_holdsFuses true) (.refl s)
    refine (h1.trans ?_).next
    exact ⟨rfl, rfl, rfl⟩

theorem execWarmNRelease_holdsFuses (b : BootIn) (s : State) : s.NextHoldsFuses (execWarmNRelease b s) := by
  unfold execWarmNRelease
  extract_lets p s1
  split
  · exact (State.HoldsFuses.refl s).next
  · have h1 : s.HoldsFuses s1 := ⟨rfl, rfl, rfl⟩
    exact (h1.trans (.ite (s1.startUp_holdsFuses b) (.refl s1))).next

theorem execPorstNAssert_keeps_fuses (s : State) :
    ∃ t, execPorstNAssert s = .next t ∧ t.pins.testMode = s.pins.testMode ∧ t.pins.debugEn = s.pins.debugEn := by
  unfold execPorstNAssert
  split
  · exact ⟨s, rfl, rfl, rfl⟩
  · exact ⟨_, rfl, (s.resetAll_holdsFuses false).testMode, (s.resetAll_holdsFuses false).debugEn⟩

theorem execPorstNRelease_samples (b : BootIn) (s : State) (h : s.pins.porstN = false) :
    ∃ t, execPorstNRelease b s = .next t ∧ t.pins.porstN = true ∧ t.pins.testMode = b.testMode ∧ t.pins.debugEn = b.debugEn := by
  unfold execPorstNRelease
  extract_lets p s1
  rw [if_neg (by simp [h])]
  have h1 : s1.HoldsFuses (if s1.pins.warmN then s1.startUp b else s1) := .ite (s1.startUp_holdsFuses b) (.refl s1)
  exact ⟨_, rfl, h1.porstN, h1.testMode, h1.debugEn⟩

theorem execPorstNRelease_of_high (b : BootIn) (s : State) (h : s.pins.porstN = true) : execPorstNRelease b s = .next s := if_pos h

theorem execVddAonRise_porstN (s : State) : ∃ t, execVddAonRise s = .next t ∧ t.pins.porstN = false := ⟨_, rfl, rfl⟩

/-! ### Every command -/

/-- No command but the two edges of PORST_N and the rise of the supply changes PORST_N or what was sampled (R29). -/
theorem exec_holdsFuses (c : Instr) (s : State) (hrel : ∀ b, c ≠ .porstNRelease b) (hassert : c ≠ .porstNAssert) (hrise : c ≠ .vddAonRise) : s.NextHoldsFuses (exec c s) :=
  match c with
  | .porstNAssert => absurd rfl hassert
  | .porstNRelease b => absurd rfl (hrel b)
  | .warmNAssert => execWarmNAssert_holdsFuses s
  | .warmNRelease b => execWarmNRelease_holdsFuses b s
  | .vddAonRise => absurd rfl hrise
  | .bootReadyWrite => execBootReadyWrite_holdsFuses s
  | .wsBypass wsi => .of_frame (execWsBypass_rest wsi s)
  | .wsExtest captured => .of_frame (execWsExtest_rest captured s)
  | .wsPreload cells => .of_frame (execWsPreload_rest cells s)
  | .wsIntestScan wsi => .of_frame (execWsIntestScan_rest wsi s)
  | .mbistRun die pass => .of_frame (execMbistRun_rest die pass s)
  | .chainSel die chain => .of_frame (execChainSel_rest die chain s)
  | .trefEpochMark refB edge phase => .of_frame (execTrefEpochMark_rest refB edge phase s)
  | .refLost refB => .of_frame (execRefLost_rest refB s)
  | .ftStartWrite => .of_frame (execFtStartWrite_rest s)
  | .ftSwitchReqWrite => .of_frame (execFtSwitchReqWrite_rest s)
  | .keeperSyncMark => .of_frame (execKeeperSyncMark_rest s)
  | .islandSyncMark isl drift err => .of_frame (execIslandSyncMark_rest isl drift err s)
  | .driftEvaluation rateA rateB rateMean holdA holdB => .of_frame (execDriftEvaluation_rest rateA rateB rateMean holdA holdB s)
  | .islandFreqStep isl => .of_frame (execIslandFreqStep_rest isl s)
  | .eventCrossingSend isl side => .of_frame (execEventCrossingSend_rest isl side s)
  | .routerHeadArrive t p errs => .of_frame (execRouterHeadArrive_rest t p errs s)
  | .routerBodyArrive t p errs => .of_frame (execRouterBodyArrive_rest t p errs s)
  | .outputArbitration t p => .of_frame (execOutputArbitration_rest t p s)
  | .creditWordSend k => .of_frame (execCreditWordSend_rest k s)
  | .creditWordReceive k => .of_frame (execCreditWordReceive_rest k s)
  | .neighbourStateChange t p seen => .of_frame (execNeighbourStateChange_rest t p seen s)
  | .fenceClosedReport t p => .of_frame (execFenceClosedReport_rest t p s)
  | .gateWindowOpen t p => .of_frame (execGateWindowOpen_rest t p s)
  | .gateUnionEnd t => .of_frame (execGateUnionEnd_rest t s)
  | .rtForceUnreachWrite t mask => .of_frame (execRtForceUnreachWrite_rest t mask s)
  | .rtHistSelect t q => .of_frame (execRtHistSelect_rest t q s)
  | .rtHistClear t q => .of_frame (execRtHistClear_rest t q s)
  | .rtHistClearAll t => .of_frame (execRtHistClearAll_rest t s)
  | .niHistSelect n q => .of_frame (execNiHistSelect_rest n q s)
  | .niHistClear n q => .of_frame (execNiHistClear_rest n q s)
  | .niHistClearAll n => .of_frame (execNiHistClearAll_rest n s)
  | .queueSample u => .of_frame (execQueueSample_rest u s)
  | .niRequestPresent n r err => .of_frame (execNiRequestPresent_rest n r err s)
  | .niTagAllocate n => .of_frame (execNiTagAllocate_rest n s)
  | .niFenceAdmit n err => .of_frame (execNiFenceAdmit_rest n err s)
  | .injectionArbitration n err => .of_frame (execInjectionArbitration_rest n err s)
  | .niPacketReceive n vn errs err => execNiPacketReceive_holdsFuses n vn errs err s
  | .niSendAnswer n err => .of_frame (execNiSendAnswer_rest n err s)
  | .initTimeout n tag => .of_frame (execInitTimeout_rest n tag s)
  | .retryResend n tag err => .of_frame (execRetryResend_rest n tag err s)
  | .quarantineEnd n tag => .of_frame (execQuarantineEnd_rest n tag s)
  | .niLossCommit n => .of_frame (execNiLossCommit_rest n s)
  | .niTagCommit n => .of_frame (execNiTagCommit_rest n s)
  | .niFenceSwWrite n on => .of_frame (execNiFenceSwWrite_rest n on s)
  | .niTagStatusRead n => .of_frame (execNiTagStatusRead_rest n s)
  | .gtSlotStart n => .of_frame (execGtSlotStart_rest n s)
  | .gtSlotEnd n => .of_frame (execGtSlotEnd_rest n s)
  | .shaperRefill n => .of_frame (execShaperRefill_rest n s)
  | .shaperCommit n => .of_frame (execShaperCommit_rest n s)
  | .meterCommit n => .of_frame (execMeterCommit_rest n s)
  | .lidPotCloseWrite mask => .of_frame (execLidPotCloseWrite_rest mask s)
  | .homeArbiterDecision h errs stg => .of_frame (execHomeArbiterDecision_rest h errs stg s)
  | .homePreempt h q => .of_frame (execHomePreempt_rest h q s)
  | .quotaWindowStart h => .of_frame (execQuotaWindowStart_rest h s)
  | .hsArbCommit h => .of_frame (execHsArbCommit_rest h s)
  | .rds h => .of_frame (execRds_rest h s)
  | .rdo h => .of_frame (execRdo_rest h s)
  | .upg h => .of_frame (execUpg_rest h s)
  | .rdc h => .of_frame (execRdc_rest h s)
  | .wri h => .of_frame (execWri_rest h s)
  | .wbm h => .of_frame (execWbm_rest h s)
  | .evc h => .of_frame (execEvc_rest h s)
  | .fnc h => .of_frame (execFnc_rest h s)
  | .hsnp h => .of_frame (execHsnp_rest h s)
  | .homeWaiterStart h => .of_frame (execHomeWaiterStart_rest h s)
  | .srsp h => .of_frame (execSrsp_rest h s)
  | .sdata h => .of_frame (execSdata_rest h s)
  | .mdata h => .of_frame (execMdata_rest h s)
  | .mcmp h => .of_frame (execMcmp_rest h s)
  | .pxdata h => .of_frame (execPxdata_rest h s)
  | .pxcmp h => .of_frame (execPxcmp_rest h s)
  | .wdata h => .of_frame (execWdata_rest h s)
  | .cack h => .of_frame (execCack_rest h s)
  | .cohAckTimeout h num => .of_frame (execCohAckTimeout_rest h num s)
  | .scrubRead h err => .of_frame (execScrubRead_rest h err s)
  | .scrubLapStart h => .of_frame (execScrubLapStart_rest h s)
  | .hsDiagGo h sel => .of_frame (execHsDiagGo_rest h sel s)
  | .hsDiagDataWrite h data => .of_frame (execHsDiagDataWrite_rest h data s)
  | .ledgerRepairReport r => .of_frame (execLedgerRepairReport_rest r s)
  | .ledgerRescan => .of_frame (execLedgerRescan_rest s)
  | .snps n => .of_frame (execSnps_rest n s)
  | .snpi n => .of_frame (execSnpi_rest n s)
  | .snpc n => .of_frame (execSnpc_rest n s)
  | .mrd n => .of_frame (execMrd_rest n s)
  | .mwr n => .of_frame (execMwr_rest n s)
  | .pxrd n => .of_frame (execPxrd_rest n s)
  | .pxro n => .of_frame (execPxro_rest n s)
  | .pxrc n => .of_frame (execPxrc_rest n s)
  | .pxev n => .of_frame (execPxev_rest n s)
  | .pxwb n => .of_frame (execPxwb_rest n s)
  | .pxwc n => .of_frame (execPxwc_rest n s)
  | .memrd n tag line mv err => .of_frame (execMemrd_rest n tag line mv err s)
  | .memrddata n tag line err => .of_frame (execMemrddata_rest n tag line err s)
  | .meminv n tag line mv err => .of_frame (execMeminv_rest n tag line mv err s)
  | .memclnevct n tag line err => .of_frame (execMemclnevct_rest n tag line err s)
  | .memwr n tag line poison data err => .of_frame (execMemwr_rest n tag line poison data err s)
  | .memwrptl n tag line be poison data err => .of_frame (execMemwrptl_rest n tag line be poison data err s)
  | .biconflict n tag => .of_frame (execBiconflict_rest n tag s)
  | .memspecrd n => .of_frame (execMemspecrd_rest n s)
  | .birsp n bitag st => .of_frame (execBirsp_rest n bitag st s)
  | .h2dGo n cqid kind => .of_frame (execH2dGo_rest n cqid kind s)
  | .h2dData n cqid poison data => .of_frame (execH2dData_rest n cqid poison data s)
  | .snpdata n uqid line err => .of_frame (execSnpdata_rest n uqid line err s)
  | .snpinv n uqid line err => .of_frame (execSnpinv_rest n uqid line err s)
  | .snpcur n uqid line err => .of_frame (execSnpcur_rest n uqid line err s)
  | .cxlIoMrd n tag line masks pasid err => .of_frame (execCxlIoMrd_rest n tag line masks pasid err s)
  | .cxlIoMwr n relaxed line data pasid err => .of_frame (execCxlIoMwr_rest n relaxed line data pasid err s)
  | .cxlIoCpl n id st data => .of_frame (execCxlIoCpl_rest n id st data s)
  | .cxlIoUnsupported n tag message => .of_frame (execCxlIoUnsupported_rest n tag message s)
  | .cpaIoRequest n posted => .of_frame (execCpaIoRequest_rest n posted s)
  | .mpaEcamAccess n => .of_frame (execMpaEcamAccess_rest n s)
  | .deviceMemdata n tag nxm poison data => .of_frame (execDeviceMemdata_rest n tag nxm poison data s)
  | .deviceCmp n tag => .of_frame (execDeviceCmp_rest n tag s)
  | .deviceMwr n line data err => .of_frame (execDeviceMwr_rest n line data err s)
  | .deviceMrd n tag line masks err => .of_frame (execDeviceMrd_rest n tag line masks err s)
  | .deviceErrMsg n severity => .of_frame (execDeviceErrMsg_rest n severity s)
  | .deviceBisnp n bitag => .of_frame (execDeviceBisnp_rest n bitag s)
  | .portIndicationRise n => .of_frame (execPortIndicationRise_rest n s)
  | .portIndicationFall n => .of_frame (execPortIndicationFall_rest n s)
  | .completionRecordTimeout n tag => .of_frame (execCompletionRecordTimeout_rest n tag s)
  | .claChipletPacket n vn err => .of_frame (execClaChipletPacket_rest n vn err s)
  | .nreq n err => .of_frame (execNreq_rest n err s)
  | .portEngineStatus n src tag status exfail data => .of_frame (execPortEngineStatus_rest n src tag status exfail data s)
  | .portEngineRequest n r err => .of_frame (execPortEngineRequest_rest n r err s)
  | .fluSend k e errs => .of_frame (execFluSend_rest k e errs s)
  | .fluIdleTimer k e => .of_frame (execFluIdleTimer_rest k e s)
  | .fluNew k e f => .of_frame (execFluNew_rest k e f s)
  | .fluReplay k e f => .of_frame (execFluReplay_rest k e f s)
  | .fluInit k e f => .of_frame (execFluInit_rest k e f s)
  | .fluBad k e lost again => .of_frame (execFluBad_rest k e lost again s)
  | .nakRepeat k e => .of_frame (execNakRepeat_rest k e s)
  | .linkWindowStart k e => .of_frame (execLinkWindowStart_rest k e s)
  | .linkSilenceTimeout k e => .of_frame (execLinkSilenceTimeout_rest k e s)
  | .recordLimitTimeout k e => .of_frame (execRecordLimitTimeout_rest k e s)
  | .preEnd k e => .of_frame (execPreEnd_rest k e s)
  | .acceptTimeout k e => .of_frame (execAcceptTimeout_rest k e s)
  | .adapterActive k e half => .of_frame (execAdapterActive_rest k e half s)
  | .adapterLeaveActive k e => .of_frame (execAdapterLeaveActive_rest k e s)
  | .retrainLimitExpiry k e => .of_frame (execRetrainLimitExpiry_rest k e s)
  | .lkEnableWrite k e on => .of_frame (execLkEnableWrite_rest k e on s)
  | .lkRetrainWrite k e => .of_frame (execLkRetrainWrite_rest k e s)
  | .sbWriteRequest => .of_frame (execSbWriteRequest_rest s)
  | .sbReadRequest => .of_frame (execSbReadRequest_rest s)
  | .nrdx => .of_frame (execNrdx_rest s)
  | .nwrx => .of_frame (execNwrx_rest s)
  | .sbE5lbIssue => .of_frame (execSbE5lbIssue_rest s)
  | .sbE5ReadResponse tag resp data => .of_frame (execSbE5ReadResponse_rest tag resp data s)
  | .sbE5WriteResponse k resp => .of_frame (execSbE5WriteResponse_rest k resp s)
  | .e5TimeoutExpiry => .of_frame (execE5TimeoutExpiry_rest s)
  | .sbLockTimeout => .of_frame (execSbLockTimeout_rest s)
  | .sbInboundWrite addr beats err => .of_frame (execSbInboundWrite_rest addr beats err s)
  | .sbInboundRead addr strobes mtag err => .of_frame (execSbInboundRead_rest addr strobes mtag err s)
  | .sbInboundCompletion => .of_frame (execSbInboundCompletion_rest s)
  | .sbout => .of_frame (execSbout_rest s)
  | .sbPulseEnd k => .of_frame (execSbPulseEnd_rest k s)
  | .sbInputEvent j level => .of_frame (execSbInputEvent_rest j level s)
  | .sbInCommit => .of_frame (execSbInCommit_rest s)
  | .sbInSwitchEnd j => .of_frame (execSbInSwitchEnd_rest j s)
  | .sbTelemCommit => .of_frame (execSbTelemCommit_rest s)
  | .sbTelemPoll => .of_frame (execSbTelemPoll_rest s)
  | .sbOutCommit => .of_frame (execSbOutCommit_rest s)
  | .sbOutSwitchEnd k => .of_frame (execSbOutSwitchEnd_rest k s)
  | .sbTick k => .of_frame (execSbTick_rest k s)
  | .stCommit => .of_frame (execStCommit_rest s)
  | .stCheckEnd => .of_frame (execStCheckEnd_rest s)
  | .stRaiseEnd => .of_frame (execStRaiseEnd_rest s)
  | .stHold n => .of_frame (execStHold_rest n s)
  | .stHoldDone => .of_frame (execStHoldDone_rest s)
  | .stPushEnd bad ue => .of_frame (execStPushEnd_rest bad ue s)
  | .stRelease n => .of_frame (execStRelease_rest n s)
  | .stWindowLimit => .of_frame (execStWindowLimit_rest s)
  | .stStaleRetry n => .of_frame (execStStaleRetry_rest n s)
  | .stShadowReloadDone n ok => .of_frame (execStShadowReloadDone_rest n ok s)
  | .stLockWrite => .of_frame (execStLockWrite_rest s)
  | .stModeWrite mode => .of_frame (execStModeWrite_rest mode s)
  | .mailboxCmdWrite posted => .of_frame (execMailboxCmdWrite_rest posted s)
  | .doorbellWrite posted => .of_frame (execDoorbellWrite_rest posted s)
  | .mailboxAccept m => .of_frame (execMailboxAccept_rest m s)
  | .commandEnd c => .of_frame (execCommandEnd_rest c s)
  | .commandTimeout c => .of_frame (execCommandTimeout_rest c s)
  | .query c => .of_frame (execQuery_rest c s)
  | .readReg c => .of_frame (execReadReg_rest c s)
  | .writeReg c => .of_frame (execWriteReg_rest c s)
  | .loadBlend c st => .of_frame (execLoadBlend_rest c st s)
  | .commitEpoch c => .of_frame (execCommitEpoch_rest c s)
  | .setShaper c => .of_frame (execSetShaper_rest c s)
  | .setMeter c => .of_frame (execSetMeter_rest c s)
  | .leafCfg c => .of_frame (execLeafCfg_rest c s)
  | .pmFilter c => .of_frame (execPmFilter_rest c s)
  | .snapshot c => .of_frame (execSnapshot_rest c s)
  | .domainPower c => .of_frame (execDomainPower_rest c s)
  | .quiesce c => .of_frame (execQuiesce_rest c s)
  | .quiesceOpen c => .of_frame (execQuiesceOpen_rest c s)
  | .linkRetrainCommand c => .of_frame (execLinkRetrainCommand_rest c s)
  | .faultAck c => .of_frame (execFaultAck_rest c s)
  | .fenceAgent c => .of_frame (execFenceAgent_rest c s)
  | .unfence c => .of_frame (execUnfence_rest c s)
  | .caddyFreeze c => .of_frame (execCaddyFreeze_rest c s)
  | .caddyThaw c => .of_frame (execCaddyThaw_rest c s)
  | .caddyRead c errs => .of_frame (execCaddyRead_rest c errs s)
  | .ledgerCompact c => .of_frame (execLedgerCompact_rest c s)
  | .ringSetup c => .of_frame (execRingSetup_rest c s)
  | .ringSetupMailboxForm c => .of_frame (execRingSetupMailboxForm_rest c s)
  | .ringEnable c => .of_frame (execRingEnable_rest c s)
  | .ringDisable c => .of_frame (execRingDisable_rest c s)
  | .cancel c => .of_frame (execCancel_rest c s)
  | .reprotect c t => .of_frame (execReprotect_rest c t s)
  | .reprotectWaitLimit => .of_frame (execReprotectWaitLimit_rest s)
  | .potCoreRestart found => .of_frame (execPotCoreRestart_rest found s)
  | .potSramUe word rings => .of_frame (execPotSramUe_rest word rings s)
  | .ringPoll r => .of_frame (execRingPoll_rest r s)
  | .ringEntryFetched r => .of_frame (execRingEntryFetched_rest r s)
  | .ringAccessResponse r k => .of_frame (execRingAccessResponse_rest r k s)
  | .ringIrqGapEnd r => .of_frame (execRingIrqGapEnd_rest r s)
  | .ringStatusLineWrite r => .of_frame (execRingStatusLineWrite_rest r s)
  | .tableLoad n => .of_frame (execTableLoad_rest n s)
  | .bankSeal n => .of_frame (execBankSeal_rest n s)
  | .epochArm n => .of_frame (execEpochArm_rest n s)
  | .epochArmDeadline => .of_frame (execEpochArmDeadline_rest s)
  | .epochCancel n => .of_frame (execEpochCancel_rest n s)
  | .epochSwitch n => .of_frame (execEpochSwitch_rest n s)
  | .niLocalDrained n => .of_frame (execNiLocalDrained_rest n s)
  | .edrain => .of_frame (execEdrain_rest s)
  | .epochDoneMessage n => .of_frame (execEpochDoneMessage_rest n s)
  | .drainQuietTimer => .of_frame (execDrainQuietTimer_rest s)
  | .epochDrainSlow => .of_frame (execEpochDrainSlow_rest s)
  | .wakeRequest => .of_frame (execWakeRequest_rest s)
  | .domainRaiseDone d ok => execDomainRaiseDone_holdsFuses d ok s
  | .domainPowered d => .of_frame (execDomainPowered_rest d s)
  | .domainReloadDone d ok => execDomainReloadDone_holdsFuses d ok s
  | .idleIntervalEnd d => .of_frame (execIdleIntervalEnd_rest d s)
  | .domainBusyChange d => .of_frame (execDomainBusyChange_rest d s)
  | .ktRestWrite d rest => .of_frame (execKtRestWrite_rest d rest s)
  | .ktGtMaskWrite k mask => .of_frame (execKtGtMaskWrite_rest k mask s)
  | .lowerDrainDone d => .of_frame (execLowerDrainDone_rest d s)
  | .domainFencesClosed d => .of_frame (execDomainFencesClosed_rest d s)
  | .domainLowerDone d => .of_frame (execDomainLowerDone_rest d s)
  | .domainStepTimeout d => execDomainStepTimeout_holdsFuses d s
  | .sideChannelMessage ok => .of_frame (execSideChannelMessage_rest ok s)
  | .faultArrive => execFaultArrive_holdsFuses s
  | .saucerProcessEntry => execSaucerProcessEntry_holdsFuses s
  | .scHringResponse fnc => .of_frame (execScHringResponse_rest fnc s)
  | .scIrqIntervalEnd => .of_frame (execScIrqIntervalEnd_rest s)
  | .scHringEnableWrite on => .of_frame (execScHringEnableWrite_rest on s)
  | .scC3LidWrite on => .of_frame (execScC3LidWrite_rest on s)
  | .injectFault => execInjectFault_holdsFuses s
  | .injectLane => .of_frame (execInjectLane_rest s)
  | .injectBuf => .of_frame (execInjectBuf_rest s)
  | .injectFluCrc => .of_frame (execInjectFluCrc_rest s)
  | .niDiagGo n sel used => .of_frame (execNiDiagGo_rest n sel used s)
  | .niDiagDataWrite n data used => .of_frame (execNiDiagDataWrite_rest n data used s)
  | .tableRestore n bank sec part idx ok => .of_frame (execTableRestore_rest n bank sec part idx ok s)
  | .caddyReserve p => .of_frame (execCaddyReserve_rest p s)
  | .caddyRecordCommit p => .of_frame (execCaddyRecordCommit_rest p s)
  | .caddyReserveTimeout p => .of_frame (execCaddyReserveTimeout_rest p s)
  | .leafStamp n => .of_frame (execLeafStamp_rest n s)
  | .leafRecordTimeout n k => .of_frame (execLeafRecordTimeout_rest n k s)
  | .leafIdRelease n k => .of_frame (execLeafIdRelease_rest n k s)
  | .leafCommit n => .of_frame (execLeafCommit_rest n s)
  | .traceEnWrite on => .of_frame (execTraceEnWrite_rest on s)
  | .snap n => .of_frame (execSnap_rest n s)
  | .snapshotCopy u => .of_frame (execSnapshotCopy_rest u s)
  | .kettleSnapshotLatch => .of_frame (execKettleSnapshotLatch_rest s)
  | .counterPush => .of_frame (execCounterPush_rest s)
  | .pageSettleTimeout => .of_frame (execPageSettleTimeout_rest s)
  | .collectorBankSwitch => .of_frame (execCollectorBankSwitch_rest s)
  | .counterApertureRead => .of_frame (execCounterApertureRead_rest s)
  | .pmFltCommit u sets => .of_frame (execPmFltCommit_rest u sets s)
  | .counterLatchRead o debug => .of_frame (execCounterLatchRead_rest o debug s)
  | .dieBJoin ok => .of_frame (execDieBJoin_rest ok s)
  | .joinGoWrite => .of_frame (execJoinGoWrite_rest s)
  | .seamLossDeclare => .of_frame (execSeamLossDeclare_rest s)
  | .partSweep h => .of_frame (execPartSweep_rest h s)
  | .rejoinSweep h => .of_frame (execRejoinSweep_rest h s)
  | .sweepDone => .of_frame (execSweepDone_rest s)
  | .deferPoison => .of_frame (execDeferPoison_rest s)
  | .poisonLine n => .of_frame (execPoisonLine_rest n s)
  | .poisonDone => .of_frame (execPoisonDone_rest s)
  | .glBlsDataWrite value => .of_frame (execGlBlsDataWrite_rest value s)
  | .dbgSelWrite data => .of_frame (execDbgSelWrite_rest data s)
  | .debugCaptureDone => .of_frame (execDebugCaptureDone_rest s)
  | .debugMeshRead n tag a wide pasid err => .of_frame (execDebugMeshRead_rest n tag a wide pasid err s)
  | .registerWrite a wide value => execRegisterWrite_holdsFuses a wide value s
  | .vddFabDroop isl stretch => .of_frame (execVddFabDroop_rest isl stretch s)
  | .localTimeCounterResume isl => .of_frame (execLocalTimeCounterResume_rest isl s)
  | .potBranch trap src dst cycles => .of_frame (execPotBranch_rest trap src dst cycles s)
  | .potWaitForInterrupt => .of_frame (execPotWaitForInterrupt_rest s)
  | .potSramCe word => .of_frame (execPotSramCe_rest word s)
  | .platformWaitEnd => .of_frame (execPlatformWaitEnd_rest s)
  | .platformPollLimit => .of_frame (execPlatformPollLimit_rest s)

end Sys2Proof.Machine

namespace Sys2Proof
open Sys2Proof.Machine

/-- Settles O7: PORST_N_RELEASE samples and its start-up holds the sample, and every command but it and VDD_AON_RISE holds it too, PORST_N_ASSERT by `State.resetAll`. -/
theorem testModeSampled : Obligations.TestModeSampled := by
  intro s
  refine ⟨fun b h => execPorstNRelease_samples b s h, fun b h => execPorstNRelease_of_high b s h, fun c hrel hrise => ?_, execVddAonRise_porstN s⟩
  by_cases hassert : c = .porstNAssert
  · subst hassert
    exact execPorstNAssert_keeps_fuses s
  · obtain ⟨t, ht, held⟩ := exec_holdsFuses c s hrel hassert hrise
    exact ⟨t, ht, held.testMode, held.debugEn⟩

end Sys2Proof
end

section
/-!
Obligation O8: a credit return above the lane depth is cut at the depth and reported (R113). A report of class C3 or above takes a place in the MGT queue of its NI while there
is one, and no later fault message takes that place from it (R508); a credit word is a run of returns to the sixteen lanes, of which each lane has one.
-/
namespace Sys2Proof.Machine

/-! ### The fault word -/

theorem lineWord_lineOfWords_zero (w : W64) (ws : List W64) : lineWord (lineOfWords (w :: ws)) 0 = w := by
  apply BitVec.eq_of_toNat_eq
  simp only [lineWord, lineOfWords, List.foldr_cons, BitVec.toNat_ofNat, Nat.mul_zero, Nat.pow_zero, Nat.div_one]
  rw [Nat.mod_mod_of_dvd _ (Nat.pow_dvd_pow (m := 64) (n := 512) 2 (by omega)), Nat.add_mul_mod_self_left, Nat.mod_eq_of_lt w.isLt]

theorem b2n_le_one (b : Bool) : b2n b ≤ 1 := by cases b <;> decide

theorem FaultMsg.bits_word_kind (f : FaultMsg) : bits f.word 44 8 = f.kind % 256 := by
  have hi := b2n_le_one f.inj
  have ha := b2n_le_one f.addr
  simp only [FaultMsg.word, bits, BitVec.toNat_ofNat]
  omega

theorem FaultMsg.bits_word_cls (f : FaultMsg) : bits f.word 41 3 = f.cls % 8 := by
  have hi := b2n_le_one f.inj
  have ha := b2n_le_one f.addr
  simp only [FaultMsg.word, bits, BitVec.toNat_ofNat]
  omega

theorem State.faultPkt_word_zero (s : State) (n : Nat) (f : FaultMsg) : (s.faultPkt n f).word 0 = f.word := lineWord_lineOfWords_zero _ _

theorem FaultKind.code_lt (k : FaultKind) : k.code < 256 := by cases k <;> decide

theorem FaultKind.cls_lt (k : FaultKind) : k.cls < 8 := by cases k <;> decide

/-! ### Reports in the MGT queue -/

/-- A queued packet is a FAULT packet that reports a kind with the kind's own class (R504). -/
def QPkt.Reports (q : QPkt) (k : FaultKind) : Prop := isFaultPkt q.p = true ∧ bits (q.p.word 0) 44 8 = k.code ∧ faultPktCls q.p = k.cls

/-- The MGT queue of NI n holds a report of a kind. -/
def State.Reported (s : State) (n : Nat) (k : FaultKind) : Prop := ∃ q ∈ (s.niAt n).mgt, q.Reports k

/-- NI n has reported a kind, or has a place left for the report among the eight of its MGT queue (R508). -/
def State.CanReport (s : State) (n : Nat) (k : FaultKind) : Prop := (s.niAt n).mgt.length < 8 ∨ s.Reported n k

theorem QPkt.reports_of_mkFault {q : QPkt} {s : State} {n m sub detail : Nat} {k : FaultKind} (hq : q.p = s.faultPkt n (mkFault m sub k k.cls detail)) : q.Reports k := by
  refine ⟨?_, ?_, ?_⟩
  · rw [hq]; rfl
  · rw [hq, State.faultPkt_word_zero, FaultMsg.bits_word_kind]
    exact Nat.mod_eq_of_lt k.code_lt
  · rw [hq, faultPktCls, State.faultPkt_word_zero, FaultMsg.bits_word_cls]
    exact Nat.mod_eq_of_lt k.cls_lt

/-- What R508 displaces is a queued FAULT packet of class C0 to C2. -/
theorem low_of_newestLow {l : List QPkt} {i : Nat} (h : newestLow l = some i) : ∃ e, l[i]? = some e ∧ faultPktCls e.p ≤ 2 := by
  have hlow := List.find?_some h
  split at hlow
  next e he => exact ⟨e, he, of_decide_eq_true (Bool.and_eq_true_iff.mp hlow).2⟩
  next => exact absurd hlow Bool.false_ne_true

theorem State.niAt_bump (s : State) (o : Nat) (f : Fld) (n : Nat) : (s.bump o f).niAt n = s.niAt n := rfl

/-- No fault message displaces a queued report of class C3 or C4 (R508). -/
theorem State.mem_mgt_queueFault {s : State} {n : Nat} (f : FaultMsg) {q : QPkt} (hq : q ∈ (s.niAt n).mgt) (hcls : 3 ≤ faultPktCls q.p) :
    q ∈ ((s.queueFault n f).niAt n).mgt := by
  unfold State.queueFault
  extract_lets u e
  split
  · split
    · rw [State.niAt_modNi_same]
      exact List.mem_append_left _ hq
    · exact hq
  split
  · rw [State.niAt_modNi_same]
    exact List.mem_append_left _ hq
  split
  next i hi =>
    obtain ⟨low, hlow, hle⟩ := low_of_newestLow hi
    rw [State.niAt_bump, State.niAt_modNi_same]
    refine List.mem_append_left _ (List.mem_eraseIdx_iff_getElem?.mpr ?_)
    obtain ⟨j, hj⟩ := List.mem_iff_getElem?.mp hq
    refine ⟨j, fun hji => ?_, hj⟩
    rw [hji, hlow] at hj
    cases hj
    omega
  · split
    · rwa [State.niAt_bump, State.niAt_modNi_same]
    · rwa [State.niAt_modNi_same]

/-- A C3 or C4 message takes a place of the eight while there is one (R508). -/
theorem State.mgt_queueFault_of_room {s : State} {n : Nat} {f : FaultMsg} (hcls : 3 ≤ f.cls) (hroom : (s.niAt n).mgt.length < 8) :
    ∃ q, q.p = s.faultPkt n f ∧ ((s.queueFault n f).niAt n).mgt = (s.niAt n).mgt ++ [q] := by
  refine ⟨{ p := s.faultPkt n f, dest := 249, tin := s.niTime n, resend := false, tx := 0 }, rfl, ?_⟩
  unfold State.queueFault
  rw [if_neg (by omega), if_pos hroom, State.niAt_modNi_same]

theorem State.Reported.queueFault {s : State} {n : Nat} {k : FaultKind} (h : s.Reported n k) (hk : 3 ≤ k.cls) (f : FaultMsg) : (s.queueFault n f).Reported n k := by
  obtain ⟨q, hq, hr⟩ := h
  exact ⟨q, State.mem_mgt_queueFault f hq (hr.2.2 ▸ hk), hr⟩

theorem State.CanReport.reportCls {s : State} {n : Nat} {k : FaultKind} (h : s.CanReport n k) (hk : 3 ≤ k.cls) (sub detail : Nat) :
    (s.reportCls n sub k k.cls detail).Reported n k := by
  rcases h with hroom | hrep
  · obtain ⟨q, hq, hmgt⟩ := State.mgt_queueFault_of_room (f := mkFault n sub k k.cls detail) hk hroom
    exact ⟨q, hmgt ▸ List.mem_append_right _ (List.mem_singleton_self q), QPkt.reports_of_mkFault hq⟩
  · exact hrep.queueFault hk _

theorem State.CanReport.congr {s t : State} {n : Nat} {k : FaultKind} (h : s.CanReport n k) (hmgt : (t.niAt n).mgt = (s.niAt n).mgt) : t.CanReport n k := by
  unfold State.CanReport State.Reported
  rwa [hmgt]

theorem State.CanReport.reportOcc {s : State} {n : Nat} {k : FaultKind} (h : s.CanReport n k) (hk : 3 ≤ k.cls) (sub key width rest : Nat) :
    (s.reportOcc n sub key k k.cls width rest).Reported n k := by
  refine State.CanReport.reportCls (h.congr ?_) hk _ _
  rw [State.niAt_modNi_same]

/-! ### One return -/

theorem State.nisKeep.trans {s t u : State} {n : Nat} (h : s.nisKeep t n) (h' : t.nisKeep u n) : s.nisKeep u n := fun m hm => (h' m hm).trans (h m hm)

theorem State.reportOcc_nisKeep (s : State) (n sub key : Nat) (k : FaultKind) (cls width rest : Nat) : s.nisKeep (s.reportOcc n sub key k cls width rest) n := fun _ hm =>
  (State.queueFault_niAt _ n _ hm).trans (State.niAt_modNi_other s _ hm)

/-- The NI through which the sender toward a receiving port reports (R113, R148). -/
def LinkPort.reporter : LinkPort → Nat
  | .tile t p => (portNi t p).getD (tileL0 (portPeer t p))
  | .ni n => tileL0 (niTile n)

/-- A report of CREDIT_OVERFLOW is one with counted occurrences through the sender's NI, after at most a write of a register. -/
theorem State.creditOverflow_eq (s : State) (k : LinkPort) (vn : Nat) : ∃ (s' : State) (sub key rest : Nat),
    s'.ni = s.ni ∧ s.creditOverflow k vn = s'.reportOcc k.reporter sub key .CREDIT_OVERFLOW FaultKind.CREDIT_OVERFLOW.cls 23 rest := by
  cases k with
  | tile t p =>
    simp only [State.creditOverflow, LinkPort.reporter]
    cases portNi t p with
    | some n => exact ⟨s, _, _, _, rfl, rfl⟩
    | none => exact ⟨s.setFld _ _ 1, _, _, _, rfl, rfl⟩
  | ni n => exact ⟨s.setFld _ _ 1, _, _, _, rfl, rfl⟩

theorem State.creditOverflow_nisKeep (s : State) (k : LinkPort) (vn : Nat) : s.nisKeep (s.creditOverflow k vn) k.reporter := by
  obtain ⟨s', sub, key, rest, hni, he⟩ := s.creditOverflow_eq k vn
  have hs : s.nisKeep s' k.reporter := fun m _ => by rw [State.niAt, State.niAt, hni]
  rw [he]
  exact hs.trans (s'.reportOcc_nisKeep _ _ _ _ _ _ _)

theorem State.CanReport.creditOverflow {s : State} {k : LinkPort} (h : s.CanReport k.reporter .CREDIT_OVERFLOW) (vn : Nat) :
    (s.creditOverflow k vn).Reported k.reporter .CREDIT_OVERFLOW := by
  obtain ⟨s', sub, key, rest, hni, he⟩ := s.creditOverflow_eq k vn
  have hs : s'.CanReport k.reporter .CREDIT_OVERFLOW := h.congr (by rw [State.niAt, State.niAt, hni])
  rw [he]
  exact hs.reportOcc (by decide) _ _ _ _

section
variable {s : State} {k : LinkPort} {vn c : Nat} {gt : Bool}

theorem State.returnCredit_of_overflow (h : s.usedAt k.key vn gt < c) : s.returnCredit k vn gt c = (s.setUsed k.key vn gt (s.usedAt k.key vn gt - c)).creditOverflow k vn := if_pos h

theorem State.returnCredit_of_le (h : c ≤ s.usedAt k.key vn gt) : s.returnCredit k vn gt c = s.setUsed k.key vn gt (s.usedAt k.key vn gt - c) := if_neg (Nat.not_lt.mpr h)

theorem State.returnCredit_used (s : State) (k : LinkPort) (vn : Nat) (gt : Bool) (c : Nat) :
    (s.returnCredit k vn gt c).used = (s.setUsed k.key vn gt (s.usedAt k.key vn gt - c)).used := by
  rcases Nat.lt_or_ge (s.usedAt k.key vn gt) c with h | h
  · rw [State.returnCredit_of_overflow h]
    exact State.only_used (ps := [.regs, .ni]) (State.creditOverflow_rest _ k vn (by decide)) (by decide)
  · rw [State.returnCredit_of_le h]

theorem State.usedAt_returnCredit_same (s : State) (k : LinkPort) (vn : Nat) (gt : Bool) (c : Nat) : (s.returnCredit k vn gt c).usedAt k.key vn gt = s.usedAt k.key vn gt - c := by
  unfold State.usedAt
  rw [State.returnCredit_used]
  exact KMap.get_set_same _ _ _ _

/-- Different lanes of a port have different keys. -/
theorem laneKey_inj {key v v' : Nat} {g g' : Bool} (h : laneKey key v g = laneKey key v' g') : v = v' ∧ g = g' := by
  cases g <;> cases g' <;> simp [laneKey, b2n] at h ⊢ <;> omega

theorem State.usedAt_returnCredit_other (s : State) (k : LinkPort) (c : Nat) {v vn : Nat} {g gt : Bool} (h : (v, g) ≠ (vn, gt)) :
    (s.returnCredit k vn gt c).usedAt k.key v g = s.usedAt k.key v g := by
  have hkey : laneKey k.key v g ≠ laneKey k.key vn gt := fun e => h (Prod.ext_iff.mpr (laneKey_inj e))
  unfold State.usedAt
  rw [State.returnCredit_used]
  exact KMap.get_set_other _ _ _ hkey

theorem State.returnCredit_nisKeep (s : State) (k : LinkPort) (vn : Nat) (gt : Bool) (c : Nat) : s.nisKeep (s.returnCredit k vn gt c) k.reporter := by
  rcases Nat.lt_or_ge (s.usedAt k.key vn gt) c with h | h
  · rw [State.returnCredit_of_overflow h]
    exact State.creditOverflow_nisKeep _ k vn
  · rw [State.returnCredit_of_le h]
    exact fun _ _ => rfl

theorem State.CanReport.returnCredit_of_overflow (hs : s.CanReport k.reporter .CREDIT_OVERFLOW) (h : s.usedAt k.key vn gt < c) :
    (s.returnCredit k vn gt c).Reported k.reporter .CREDIT_OVERFLOW := by
  have hset : (s.setUsed k.key vn gt (s.usedAt k.key vn gt - c)).CanReport k.reporter .CREDIT_OVERFLOW := hs.congr rfl
  rw [State.returnCredit_of_overflow h]
  exact hset.creditOverflow vn

theorem State.CanReport.returnCredit (hs : s.CanReport k.reporter .CREDIT_OVERFLOW) : (s.returnCredit k vn gt c).CanReport k.reporter .CREDIT_OVERFLOW := by
  rcases Nat.lt_or_ge (s.usedAt k.key vn gt) c with h | h
  · exact .inr (hs.returnCredit_of_overflow h)
  · rw [State.returnCredit_of_le h]
    exact hs.congr rfl

theorem State.Reported.returnCredit (hs : s.Reported k.reporter .CREDIT_OVERFLOW) : (s.returnCredit k vn gt c).Reported k.reporter .CREDIT_OVERFLOW := by
  rcases Nat.lt_or_ge (s.usedAt k.key vn gt) c with h | h
  · exact State.CanReport.returnCredit_of_overflow (.inr hs) h
  · rw [State.returnCredit_of_le h]
    exact hs

end

/-! ### The returns of a credit word -/

/-- The lanes that a credit word serves, in its order (R112). -/
def creditLanes : List (Nat × Bool) := (List.range 8).flatMap (fun v => [(v, true), (v, false)])

/-- A credit word's returns to some lanes, in turn. -/
def State.returnLanes (s : State) (k : LinkPort) (w : BitVec 24) (ls : List (Nat × Bool)) : State :=
  ls.foldl (fun s l => s.returnCredit k l.1 l.2 (creditOf w l.1 l.2)) s

theorem creditLanes_nodup : creditLanes.Nodup := by decide

theorem mem_creditLanes {v : Nat} (hv : v < 8) (gt : Bool) : (v, gt) ∈ creditLanes :=
  List.mem_flatMap.mpr ⟨v, List.mem_range.mpr hv, by cases gt <;> simp⟩

/-- The state with the credit words on the way back from a receiving port replaced. -/
def State.setCreditWords (s : State) (key : Nat) (ws : List (BitVec 24)) : State := { s with cwire := KMap.set (fun _ => []) s.cwire key ws }

theorem exec_creditWordReceive {s : State} {k : LinkPort} {w : BitVec 24} {rest : List (BitVec 24)} (hw : KMap.get (fun _ => []) s.cwire k.key = w :: rest)
    (hruns : s.runs k.sender = true) (hheld : s.linkHeld k.key = false) :
    exec (.creditWordReceive k) s = .next ((s.setCreditWords k.key rest).returnLanes k w creditLanes) := by
  change execCreditWordReceive k s = _
  simp only [execCreditWordReceive, State.creditWords, hw, hruns, hheld]
  simp only [State.returnLanes, creditLanes, List.foldl_flatMap]
  rfl

section
variable {s : State} {k : LinkPort} {w : BitVec 24} {ls : List (Nat × Bool)}

/-- What every single return keeps, the returns of a word keep. -/
theorem State.returnLanes_induction {P : State → Prop} (hs : P s) (h : ∀ (s : State) (l : Nat × Bool), l ∈ ls → P s → P (s.returnCredit k l.1 l.2 (creditOf w l.1 l.2))) :
    P (s.returnLanes k w ls) :=
  List.foldlRecOn ls _ hs (fun s hs l hl => h s l hl hs)

theorem State.returnLanes_append_cons (s : State) (k : LinkPort) (w : BitVec 24) (pre post : List (Nat × Bool)) (v : Nat) (gt : Bool) :
    s.returnLanes k w (pre ++ (v, gt) :: post) = ((s.returnLanes k w pre).returnCredit k v gt (creditOf w v gt)).returnLanes k w post := by
  rw [State.returnLanes, List.foldl_append, List.foldl_cons]
  rfl

theorem State.returnLanes_nisKeep (s : State) (k : LinkPort) (w : BitVec 24) (ls : List (Nat × Bool)) : s.nisKeep (s.returnLanes k w ls) k.reporter :=
  State.returnLanes_induction (P := (s.nisKeep · k.reporter)) (fun _ _ => rfl) (fun t _ _ ht => ht.trans (t.returnCredit_nisKeep _ _ _ _))

theorem State.CanReport.returnLanes (hs : s.CanReport k.reporter .CREDIT_OVERFLOW) : (s.returnLanes k w ls).CanReport k.reporter .CREDIT_OVERFLOW :=
  State.returnLanes_induction (P := (·.CanReport k.reporter .CREDIT_OVERFLOW)) hs (fun _ _ _ ht => ht.returnCredit)

theorem State.Reported.returnLanes (hs : s.Reported k.reporter .CREDIT_OVERFLOW) : (s.returnLanes k w ls).Reported k.reporter .CREDIT_OVERFLOW :=
  State.returnLanes_induction (P := (·.Reported k.reporter .CREDIT_OVERFLOW)) hs (fun _ _ _ ht => ht.returnCredit)

theorem State.usedAt_returnLanes_of_notMem {v : Nat} {gt : Bool} (h : (v, gt) ∉ ls) :
    (s.returnLanes k w ls).usedAt k.key v gt = s.usedAt k.key v gt :=
  State.returnLanes_induction (P := fun t => t.usedAt k.key v gt = s.usedAt k.key v gt) rfl (fun t l hl ht =>
    (t.usedAt_returnCredit_other k _ (vn := l.1) (gt := l.2) (fun e => h (e ▸ hl))).trans ht)

/-- A lane that stands once among the lanes served gets its credits back, and is reported if they are more than it has in use. -/
theorem State.returnLanes_of_mem {v : Nat} {gt : Bool} (hnd : ls.Nodup) (hmem : (v, gt) ∈ ls) :
    (s.returnLanes k w ls).usedAt k.key v gt = s.usedAt k.key v gt - creditOf w v gt ∧
      (s.usedAt k.key v gt < creditOf w v gt → s.CanReport k.reporter .CREDIT_OVERFLOW → (s.returnLanes k w ls).Reported k.reporter .CREDIT_OVERFLOW) := by
  obtain ⟨pre, post, rfl⟩ := List.append_of_mem hmem
  have hpre : (v, gt) ∉ pre := fun h => (List.nodup_append.mp hnd).2.2 _ h _ List.mem_cons_self rfl
  have hpost : (v, gt) ∉ post := (List.nodup_cons.mp (List.nodup_append.mp hnd).2.1).1
  have before : (s.returnLanes k w pre).usedAt k.key v gt = s.usedAt k.key v gt := State.usedAt_returnLanes_of_notMem hpre
  rw [State.returnLanes_append_cons]
  refine ⟨?_, fun hover hcan => ?_⟩
  · rw [State.usedAt_returnLanes_of_notMem hpost, State.usedAt_returnCredit_same, before]
  · exact (hcan.returnLanes.returnCredit_of_overflow (before ▸ hover)).returnLanes

end

end Sys2Proof.Machine

namespace Sys2Proof
open Sys2Proof.Machine

/-- Settles O8: the lane's return finds fewer credits in use than the word brings, so none stays in use and CREDIT_OVERFLOW is queued at the sender's NI, where the other
returns leave it. -/
theorem creditOverflow : Obligations.CreditOverflow := by
  intro s k w rest v gt hw hv hruns hheld hover
  have hexec := exec_creditWordReceive hw hruns hheld
  obtain ⟨hused, hrep⟩ := (s.setCreditWords k.key rest).returnLanes_of_mem (k := k) (w := w) creditLanes_nodup (mem_creditLanes hv gt)
  have hnone : ((s.setCreditWords k.key rest).returnLanes k w creditLanes).usedAt k.key v gt = 0 := hused.trans (Nat.sub_eq_zero_of_le (Nat.le_of_lt hover))
  have hframe : s.only ((s.setCreditWords k.key rest).returnLanes k w creditLanes) [.regs, .ni, .cwire, .used] := by
    obtain ⟨u, hu, hrest⟩ := execCreditWordReceive_rest k s (ps := [.regs, .ni, .cwire, .used]) (by decide)
    cases hexec.symm.trans hu
    exact hrest
  refine ⟨_, hexec, hnone, ?_, fun hroom => ?_, (s.setCreditWords k.key rest).returnLanes_nisKeep k w creditLanes⟩
  · have hlink : ((s.setCreditWords k.key rest).returnLanes k w creditLanes).linkHeld k.key = false := by
      rw [State.linkHeld, State.only_allHeld hframe (by decide), State.only_held hframe (by decide)]
      exact hheld
    rw [State.credit, hlink, hnone]
    rfl
  · obtain ⟨q, hq, hfault, hkind, -⟩ := hrep hover (.inl hroom)
    exact ⟨q, hq, hfault, hkind⟩

end Sys2Proof
end
